-- ==== Sys2Proof/Word.lean ====
section
/-! DEFINITION. The word types of the block: a register or scalar word, a byte, an address and a lane. -/
namespace Sys2Proof

/-- A register value: registers of the region are 32 or 64 bits wide (R28, R31); a 32-bit one keeps its upper half 0. -/
abbrev Word := BitVec 64

/-- One byte of memory. -/
abbrev Byte := BitVec 8

/-- An FP32 or INT32 lane value. -/
abbrev W32 := BitVec 32

/-- A module physical address is 48 bits wide (R25). -/
abbrev Addr := BitVec 48

/-- A status code of R37. -/
abbrev Status := BitVec 8

end Sys2Proof
end

