-- ==== Sys2Proof/Syntax.lean ====
section
/-! DEFINITION. The commands the block takes: one constructor per row of the operations and events table, with the
operands that the row's rule reads. -/
namespace Sys2Proof

abbrev CoreId := Fin 128
abbrev DieId := Fin 4
abbrev InstId := Fin 8
abbrev SessId := Fin 4096
abbrev LPort := Fin 96
abbrev PPort := Fin 24
abbrev StackId := Fin 8
abbrev SemId := Fin 4096
abbrev BobId := Fin 1024
abbrev PoolId := Fin 64

/-- Who makes a register access: the physical or a virtual function, Thimble, or a core (R31, R407). -/
inductive Requester where
  | pf
  | vf (k : InstId)
  | thimble
  | core (c : CoreId)
  deriving DecidableEq, Repr

/-- A PCIe function (R339). -/
inductive Fn where
  | pf
  | vf (k : InstId)
  deriving DecidableEq, Repr

/-- The fields of a 64-bit slot word (R127). -/
structure SlotWord where
  opcode : BitVec 8
  pred : Fin 8
  pneg : Bool
  d : Fin 64
  x : Fin 64
  y : Fin 64
  bnd : Fin 16
  imm : BitVec 30
  deriving DecidableEq, Repr

/-- The slot word that 64 bits spell (R127). -/
def SlotWord.ofBits (w : BitVec 64) : SlotWord :=
  { opcode := w.extractLsb' 0 8, pred := (w.extractLsb' 8 3).toFin, pneg := w.getLsbD 11,
    d := (w.extractLsb' 12 6).toFin, x := (w.extractLsb' 18 6).toFin, y := (w.extractLsb' 24 6).toFin,
    bnd := (w.extractLsb' 30 4).toFin, imm := w.extractLsb' 34 30 }

/-- One slot of the bundle that a core's sequencer presents: the core, the slot number, whether it is the bundle's
last presented slot, and its slot word (R126, R127). -/
structure SlotCmd where
  core : CoreId
  slot : Fin 8
  last : Bool
  word : SlotWord
  deriving DecidableEq, Repr

/-- The slot-0 scalar operations that the manual names; the others are known by opcode only. -/
inductive ScalarOp where
  | add | xor | mul | other
  deriving DecidableEq, Repr

/-- The address-slot operations: AMOV, a move of an address register to a scalar, others by opcode. -/
inductive AddrOp where
  | amov | toScalar | other
  deriving DecidableEq, Repr

/-- The vector operations by class, on lanes of a format. -/
inductive VecOp where
  | add | sub | mul | fma | max | min | compare | other
  deriving DecidableEq, Repr

/-- Lane formats of the vector unit's arithmetic (R47). -/
inductive LaneFmt where
  | fp32 | fp16 | bf16 | int32
  deriving DecidableEq, Repr

/-- Where the data of a memory request goes. -/
inductive ReqSrc where
  | coreLoad (c : CoreId) (k : Nat)
  | agent (id : Nat)
  | host (f : Fn)
  deriving DecidableEq, Repr

/-- A memory request at a home (R240, R257): its source, instance, generation, vote exclusion, address and length, and
the bytes of a write. -/
structure MemReq where
  src : ReqSrc
  inst : Option InstId
  gen : Nat
  voteExcl : Bool
  addr : Nat
  len : Nat
  wdata : Option (List Byte)
  deriving DecidableEq, Repr

/-- How a lower-tier access ended: its data sound, corrected, or uncorrectable (R247, R255). -/
inductive TierOutcome where
  | good | corrected | uncorrectable
  deriving DecidableEq, Repr

/-- An outstanding lower-tier access: a cache miss or uncached access of a line, a write-back, a deep-tier access. -/
inductive LowerRef where
  | miss (line : Nat)
  | writeback (q : DieId) (line : Nat)
  | deep (k : Nat)
  deriving DecidableEq, Repr

/-- What the scrubber finds in a 64-bit word (R440). -/
inductive ScrubFinding where
  | clean | single | double
  deriving DecidableEq, Repr

/-- A wait that a watchdog guards (R417). -/
inductive WaitRef where
  | sem (n : SemId) (k : Nat)
  | bob (n : BobId) (k : Nat)
  | rcv (c : CoreId)
  | pool (p : PoolId) (k : Nat)
  deriving DecidableEq, Repr

/-- A queue page: the eight instances' pages and the PF page (R344). -/
inductive QPage where
  | inst (k : InstId)
  | pf
  deriving DecidableEq, Repr

/-- A command queue (R344). -/
structure QRef where
  page : QPage
  q : Fin 64
  deriving DecidableEq, Repr

/-- The body of a SESSION_CREATE or a control-tree session of the image (R318): the record index and its 64 bytes of
fields as one number. -/
abbrev Bytes := List Byte

/-- The parameters of a logical port that the image sets and no register shows (R312): its MAC address, MTU, VLAN tag,
and the PCP and DSCP values per virtual channel. -/
structure LpParams where
  port : LPort
  mac : BitVec 48
  mtu : Nat
  vlan : Option Nat
  pcp : List Nat
  dscp : List Nat
  deriving DecidableEq, Repr

/-- The configuration image records of R427, as values. -/
structure ImageRecords where
  podDevice : Nat
  gate : Bool
  podNumber : Nat
  jobId : Nat
  tdpW : Nat
  backupW : Nat
  throttleC : Nat
  shutdownC : Nat
  clocks : Option (List Nat)
  /-- port registers and settings, as writes of the fabric block (R308, R312) -/
  ports : List (Nat × Nat)
  lps : List LpParams
  /-- FAB_PTP_CFG, FAB_UDP_PORT -/
  ptpCfg : Nat
  udpPort : Nat
  /-- bodies of the control-tree sessions (R318) -/
  sessions : List Bytes
  members : Nat
  gateDevice : Nat
  /-- the 528-byte PARTITION body of R405 -/
  partition : Bytes
  /-- SEAM_VOTE_* register values, when the record is present -/
  vote : Option (List (Nat × Nat))
  provisioningKey : Nat
  patch : Option Nat
  joinTimeoutS : Nat
  deriving DecidableEq, Repr

/-- A configuration image in flash (R425, R426): its header values, whether it is valid apart from the svn floor, and
its records. -/
structure Image where
  sequence : Nat
  svn : Nat
  valid : Bool
  records : ImageRecords
  deriving DecidableEq, Repr

/-- What a part brings from manufacture and its flash (R6, R356, R424): used by a power-on of a fresh part. -/
structure PartInfo where
  variantAC : Bool
  stepping : Nat
  devKey : Bytes
  cert : Bytes
  imageA : Option Image
  imageB : Option Image
  svnFloor : Nat
  commandKeys : List (Nat × BitVec 256)
  fabricKeys : List (Nat × BitVec 256)
  epochs : List (Nat × Nat)
  deriving DecidableEq, Repr

/-- What the environment decides in boot steps 1 to 4 (R430): the inputs' voltages in 10 mV, the boot nonce drawn,
whether the reference clock and the rails come up. -/
structure BootIn where
  aCv : Nat
  bCv : Nat
  resetHigh : Bool
  nonce : BitVec 128
  refOk : Bool
  railOk : Bool
  mv : List Nat
  tempC : List Nat
  deriving DecidableEq, Repr

/-- What training and testing find in boot step 5 (R247, R254, R14, R458): each stack's rate code or none, its spare
rows, the packages that train, the failing physical cores of each die, the failing dies. -/
structure TrainIn where
  stackRates : List (Option Nat)
  stackSpares : List Nat
  packagesOk : Nat
  failedCores : List (List Nat)
  failedDies : Nat
  deriving DecidableEq, Repr

/-- How HBM_REPAIR's repair ends (R258). -/
inductive RepairOutcome where
  | repaired | noSpare | mismatch
  deriving DecidableEq, Repr

/-- The unit that holds a core DMA item: a core, or a die's engine queue for a host record (R347). -/
inductive DmaUnit where
  | core (c : CoreId)
  | die (d : DieId)
  deriving DecidableEq, Repr

/-- The steps of a boot that can exceed their limits (R430). -/
inductive BootStep where
  | s1 | s2 | s3 | s4 | s5 | s6
  deriving DecidableEq, Repr

/-- A Buinby packet (R321): the header fields as numbers, the payload and the tag. -/
structure Pkt where
  type : Nat
  vc : Nat
  ord : Bool
  ackReq : Bool
  last : Bool
  attempt : Nat
  dir : Bool
  dstSess : Nat
  seq : Nat
  sgen : Nat
  tgen : Nat
  op : Nat
  sub : Nat
  addr : Nat
  txn : Nat
  payload : Bytes
  tag : BitVec 64
  deriving DecidableEq, Repr

/-- A PTP message of R316, as the timing it carries: whether it comes from the configured timing peer, the master's time
and the measured offset in ns. -/
structure PtpMsg where
  fromPeer : Bool
  masterTime : Nat
  offset : Int
  deriving DecidableEq, Repr

inductive FrameBody where
  | buinby (p : Pkt)
  | ptp (m : PtpMsg)
  | other
  deriving DecidableEq, Repr

/-- A frame on the wire of a logical port: what the MAC and the IP and UDP checks of R314 see. -/
structure Frame where
  port : LPort
  fcsOk : Bool
  sumsOk : Bool
  addressed : Bool
  plain : Bool
  udpPort : Nat
  srcIp : Nat
  srcPort : Nat
  ce : Bool
  /-- codewords of the frame that the FEC corrected, and could not correct (R311) -/
  fecCorr : Nat
  fecUncorr : Nat
  body : FrameBody
  deriving DecidableEq, Repr

/-- A requester's transaction (R334): the session, channel, operation, element code or MSG sub, target address, read
length or data, ordering, and who asks. -/
structure TxnReq where
  sess : SessId
  vc : Fin 4
  op : Nat
  sub : Nat
  addr : Nat
  readLen : Nat
  data : Bytes
  ord : Bool
  core : Option CoreId
  die : DieId
  deriving DecidableEq, Repr

/-- Where a Squall message comes from: a received packet of the ingress list, or this module itself (a role that is its
own neighbour in the tree, R271). -/
inductive MsgRef where
  | ingress (k : Nat)
  | loopback (k : Nat)
  deriving DecidableEq, Repr

abbrev StrmId := Fin 32
abbrev EncId := Fin 8
abbrev EngId := Fin 10

/-- The ways in which a factory test mode is attempted after the lock (R455): a private TAP instruction, a vendor MCTP
message, a mailbox write. -/
inductive TestPath where
  | privateTap (instr : Fin 64)
  | mctpVendor
  | mailboxWrite
  deriving DecidableEq, Repr

/-- A command of the block. -/
inductive Instr where
  /-- REGISTER_WRITE (R9): A write to a register field that has no row of its own acts according to its access code (RW, W1C, WO, RWL), with reserved fields written as zero. -/
  | registerWrite (req : Requester) (off size val : Nat)
  /-- SPLIT_LOW_WORD_READ (R31): A 4-byte read of the low word of a 64-bit register captures the high word for that requester. -/
  | splitLowWordRead (req : Requester) (off : Nat)
  /-- SPLIT_LOW_WORD_WRITE (R31): A 4-byte write of the low word of a 64-bit register is held back for that requester until its high-word write. -/
  | splitLowWordWrite (req : Requester) (off : Nat) (val : W32)
  /-- SPLIT_HIGH_WORD_WRITE (R31): A 4-byte write of the high word of a 64-bit register takes effect together with any held low word, or alone if none is held. -/
  | splitHighWordWrite (req : Requester) (off : Nat) (val : W32)
  /-- HOST_BAR_READ (R341): A host read through a BAR reaches registers, Overcast, Pocket, HBM or the deep tier, subject to the firewall and R26. -/
  | hostBarRead (f : Fn) (bar off len : Nat)
  /-- HOST_BAR_WRITE (R341): A host write through a BAR reaches its target, subject to the firewall, R26 and R343. -/
  | hostBarWrite (f : Fn) (bar off : Nat) (data : Bytes)
  /-- SCALAR_ARITHMETIC (R132): A slot-0 scalar register or immediate instruction computes its result after its latency. -/
  | scalarArithmetic (op : ScalarOp) (i : SlotCmd)
  /-- BR (R135): A taken branch makes its target bundle issue 3 cycles later and closes any open loop whose body it leaves. -/
  | br (i : SlotCmd)
  /-- BRR (R138): A register branch redirects fetch and closes loops whose body it leaves. -/
  | brr (i : SlotCmd)
  /-- CALL (R135): CALL branches to its target and writes the return address to s63 without closing any loop. -/
  | call (i : SlotCmd)
  /-- RET (R135): RET branches to the return address without closing any loop. -/
  | ret (i : SlotCmd)
  /-- LOOP (R136): LOOP sets a loop counter and opens a zero-overhead loop, skipping the body when the count is zero. -/
  | loop (i : SlotCmd)
  /-- ADDRESS_ARITHMETIC (R132): An address-slot arithmetic or AMOV instruction writes an address register after 1 cycle. -/
  | addressArithmetic (op : AddrOp) (i : SlotCmd)
  /-- BSET (R129): BSET sets a bounds register's base, limit and permissions. -/
  | bset (i : SlotCmd)
  /-- SCALAR_LOAD (R140): A scalar load, checked for alignment and bounds, reads 1 to 8 bytes into a scalar register. -/
  | scalarLoad (i : SlotCmd)
  /-- SCALAR_STORE (R140): A scalar store, checked for alignment and bounds, writes 1 to 8 bytes. -/
  | scalarStore (i : SlotCmd)
  /-- MEMORY_RESPONSE (R237): Data of a core load from another core's Pocket, Overcast, HBM or the deep tier arrives and is written to its register. -/
  | memoryResponse (c : CoreId) (k : Nat)
  /-- VECTOR_ARITHMETIC (R132): A vector arithmetic, compare or fused multiply-add instruction writes its result after 4 cycles. -/
  | vectorArithmetic (op : VecOp) (fmt : LaneFmt) (i : SlotCmd)
  /-- VCVT (R53): A vector conversion or MX quantisation converts elements under its conversion byte. -/
  | vcvt (i : SlotCmd)
  /-- MX_ISSUE (R145): MX.ISSUE copies a 128-byte descriptor into the matrix queue, holding while the queue is full. -/
  | mxIssue (i : SlotCmd)
  /-- MX_WAIT (R145): MX.WAIT holds until at most n descriptors remain, then returns and clears the recorded status. -/
  | mxWait (i : SlotCmd)
  /-- MX_POLL (R145): MX.POLL returns the queued count and the recorded status without holding or clearing. -/
  | mxPoll (i : SlotCmd)
  /-- MX_ABORT (R145): MX.ABORT ends the active and queued descriptors with ABORTED, cancels any retry and lets entered rows finish. -/
  | mxAbort (i : SlotCmd)
  /-- VLD (R147): VLD loads 1 KiB into a vector register. -/
  | vld (i : SlotCmd)
  /-- VST (R147): VST stores 1 KiB from a vector register. -/
  | vst (i : SlotCmd)
  /-- VLD_S (R147): VLD.S loads 16 strided 64-byte segments into a vector register. -/
  | vldS (i : SlotCmd)
  /-- VST_S (R147): VST.S stores 16 strided 64-byte segments from a vector register. -/
  | vstS (i : SlotCmd)
  /-- MOV_SV (R147): MOV.SV broadcasts the low 32 bits of a scalar to every lane. -/
  | movSv (i : SlotCmd)
  /-- MOV_VS (R147): MOV.VS writes one lane, zero-extended, to a scalar. -/
  | movVs (i : SlotCmd)
  /-- MOV_V (R147): MOV.V copies a vector register. -/
  | movV (i : SlotCmd)
  /-- DMA_Q (R147): DMA.Q copies a 64-byte DMA descriptor with a bounds snapshot into the DMA queue, holding while it is full. -/
  | dmaQ (i : SlotCmd)
  /-- DMA_WAIT (R147): DMA.WAIT holds until a tag drains, then returns and clears that tag's recorded status. -/
  | dmaWait (i : SlotCmd)
  /-- SND (R148): SND sends 64 bytes to a receive port of a core, faulting with SPOOL_TARGET for an absent or foreign core. -/
  | snd (i : SlotCmd)
  /-- RCV (R147): RCV holds until a message waits at its port and writes it to lanes 0-15. -/
  | rcv (i : SlotCmd)
  /-- FENCE_CORE (R34): FENCE.CORE holds later accesses until earlier ones are visible to the core's own agents. -/
  | fenceCore (i : SlotCmd)
  /-- FENCE_DEVICE (R34): FENCE.DEVICE holds later accesses until earlier ones are visible module-wide. -/
  | fenceDevice (i : SlotCmd)
  /-- FENCE_POD (R34): FENCE.POD holds later accesses until the transport has acknowledged every earlier remote write, probing sessions that hold them. -/
  | fencePod (i : SlotCmd)
  /-- FENCE_COMPLETE (R34): A fence completes once every earlier access of its core is visible in its scope, releasing later accesses. -/
  | fenceComplete (c : CoreId)
  /-- SEM_ACQ (R149): SEM.ACQ sends an acquire to a semaphore of the instance and writes OK, ABANDONED or TIMEOUT. -/
  | semAcq (i : SlotCmd)
  /-- SEM_REL (R149): SEM.REL releases a semaphore with release semantics at device scope. -/
  | semRel (i : SlotCmd)
  /-- BOB_FADD (R132): BOB.FADD sends a fetch-and-add to a Bobbin counter and writes the old value when it returns. -/
  | bobFadd (i : SlotCmd)
  /-- BOB_WAIT (R149): BOB.WAIT holds until a counter reaches a value, writing OK or TIMEOUT. -/
  | bobWait (i : SlotCmd)
  /-- PCMP (R149): PCMP sets a predicate from a comparison of two scalars. -/
  | pcmp (i : SlotCmd)
  /-- PLOG (R149): PLOG combines two predicates by AND, OR, XOR or AND-NOT. -/
  | plog (i : SlotCmd)
  /-- ICINV (R155): ICINV invalidates the whole instruction cache before the next fetch. -/
  | icinv (i : SlotCmd)
  /-- HALT (R151): HALT waits for both queues to drain and ends the work item with the first uncollected status or its own code. -/
  | halt (i : SlotCmd)
  /-- SFN (R185): SFN evaluates a special function on vector registers in native or legacy mode. -/
  | sfn (i : SlotCmd)
  /-- ICACHE_MISS_FILL (R155): A line fetched after an instruction-cache miss arrives and fetch resumes. -/
  | icacheMissFill (c : CoreId) (parityError : Bool)
  /-- CORE_SEQ_STOP (R151): Writing stop in CORE_SEQ_CTRL stops the sequencer at the next bundle boundary and ends the work item with ABORTED once its queues drain. -/
  | coreSeqStop (req : Requester) (c : CoreId)
  /-- CORE_SEQ_ICINV (R155): Writing icinv in CORE_SEQ_CTRL invalidates the instruction cache. -/
  | coreSeqIcinv (req : Requester) (c : CoreId)
  /-- MATRIX_PRODUCT (R97): A matrix descriptor (0x20) becomes active, is checked, and begins its tiled forward or backward passes. -/
  | matrixProduct (c : CoreId)
  /-- DISPATCHED_MATRIX_PRODUCT (R119): A dispatched product (0x21) streams list-selected rows of A and writes list-selected rows of C, overflowing entries past capacity. -/
  | dispatchedMatrixProduct (c : CoreId)
  /-- POINTER_LIST_PRODUCT (R168): A pointer-list product (0x22) runs each list entry as a complete product in list order. -/
  | pointerListProduct (c : CoreId)
  /-- WEIGHT_TILE_LOAD (R79): The loader fills the next bank with a weight tile, its scales and checksum weights once the bank is free. -/
  | weightTileLoad (c : CoreId)
  /-- PASS_ENTRY (R79): A pass's first row enters the array once the previous pass has streamed and its tile is loaded. -/
  | passEntry (c : CoreId)
  /-- ROW_DRAIN (R90): A row's results reach the drain, its Selvage comparison completes and the row is written, accumulated or marked mismatched. -/
  | rowDrain (c : CoreId) (upsets : List (Fin 128 × W32))
  /-- SELVAGE_RETRY (R91): Once the array is empty after a mismatch, the pass's tile is reloaded and the whole pass streams again. -/
  | selvageRetry (c : CoreId)
  /-- STAGING_FETCH (R164): The staging engine fills idle buffers with the next Pocket tile's operand slices that differ from those held. -/
  | stagingFetch (c : CoreId)
  /-- STAGING_WRITEBACK (R165): The staging engine writes a finished C tile back to its home before reusing the buffer. -/
  | stagingWriteback (c : CoreId)
  /-- BOBBIN_COUNTER_OP (R171): A Bobbin counter applies one fetch-and-add or wait test per cycle, saturating at its limit and counting late draws. -/
  | bobbinCounterOp (n : BobId) (k : Nat)
  /-- BOBBIN_VALUE_WRITE (R171): A write of SCH_BOB_VALUE sets the counter, ordered after same-cycle fetch-and-adds. -/
  | bobbinValueWrite (req : Requester) (n : BobId) (v : W32)
  /-- SOFT_MAXIMUM (R191): Row op 0 computes a masked, scaled soft maximum of each row in two passes. -/
  | softMaximum (c : CoreId)
  /-- LAYERNORM (R191): Row op 1 normalises each row by its mean and variance and applies gamma and beta. -/
  | layernorm (c : CoreId)
  /-- RMSNORM (R191): Row op 2 normalises each row by its root mean square and applies gamma. -/
  | rmsnorm (c : CoreId)
  /-- SOFT_MAXIMUM_STATISTICS (R192): Row op 3 writes only the soft-maximum statistics record (M, S) of each row. -/
  | softMaximumStatistics (c : CoreId)
  /-- LAYERNORM_STATISTICS (R192): Row op 4 writes only the LayerNorm statistics record of each row. -/
  | layernormStatistics (c : CoreId)
  /-- RMSNORM_STATISTICS (R192): Row op 5 writes only the RMSNorm statistics record of each row. -/
  | rmsnormStatistics (c : CoreId)
  /-- GATED_ACTIVATION (R192): Row op 6 writes the gated activation of x and u element by element. -/
  | gatedActivation (c : CoreId)
  /-- CONVOLUTION (R198): A convolution descriptor in mode 0 runs a gathered forward product over Pocket planes. -/
  | convolution (c : CoreId)
  /-- WEIGHT_GRADIENT (R206): A convolution descriptor in mode 1 computes dW from the input planes and dY. -/
  | weightGradient (c : CoreId)
  /-- LINE_FETCH (R204): The window unit completes fetching a pass's input lines into a line window, letting the pass enter. -/
  | lineFetch (c : CoreId)
  /-- MAX_POOL (R211): Window op 0 writes the maximum of each window. -/
  | maxPool (c : CoreId)
  /-- AVERAGE_POOL (R211): Window op 1 writes the average of each window. -/
  | averagePool (c : CoreId)
  /-- SPACE_TO_DEPTH (R212): Window op 2 regroups spatial blocks into channels. -/
  | spaceToDepth (c : CoreId)
  /-- DEPTH_TO_SPACE (R212): Window op 3 regroups channels into spatial blocks. -/
  | depthToSpace (c : CoreId)
  /-- PACK (R214): Window op 4 run-length packs a tensor, ending with RLE_OVERFLOW if it exceeds capacity. -/
  | pack (c : CoreId)
  /-- UNPACK (R214): Window op 5 expands a packed stream, ending with RLE_CORRUPT on a malformed token. -/
  | unpack (c : CoreId)
  /-- ATTENTION (R228): An attention descriptor runs scores, normalisation and output for each list entry, pinning its slot. -/
  | attention (c : CoreId)
  /-- KV_STORE (R230): A KV store descriptor writes rotated K rows and V rows of new tokens into a slot's pages. -/
  | kvStore (c : CoreId)
  /-- KV_TRANSLATION (R231): A KV walker translates (space, slot, block) to a frame, walking the tables on a miss and prefetching the next block. -/
  | kvTranslation (d : DieId) (space slot block : Nat)
  /-- KV_OPEN (R222): OPEN matches prompt blocks in the prefix tree, applies the admission test and allocates or reserves sets for a slot. -/
  | kvOpen (space : InstId)
  /-- KV_APPEND (R222): APPEND lengthens a slot, allocating sets from its reservation. -/
  | kvAppend (space : InstId)
  /-- KV_FORK (R222): FORK shares a parent's sets with a closed slot after the admission test. -/
  | kvFork (space : InstId)
  /-- KV_PUBLISH (R222): PUBLISH inserts a slot's completed full blocks into the prefix tree. -/
  | kvPublish (space : InstId)
  /-- KV_CLOSE (R222): CLOSE waits until its slot has no pins. -/
  | kvClose (space : InstId)
  /-- KV_CLOSE_RELEASE (R229): Once the slot's last pin drops, CLOSE drops its set references, returns the reservation and frees or ages sets. -/
  | kvCloseRelease (space : InstId) (slot : Nat)
  /-- KV_SPACE_ENABLE (R220): Setting enable in KV_SPACE_CFG checks the space and brings it into use, or sets cfg_error. -/
  | kvSpaceEnable (req : Requester) (space : InstId) (val : W32)
  /-- KV_SPACE_DISABLE (R220): Clearing enable takes effect only while no sequence is open. -/
  | kvSpaceDisable (req : Requester) (space : InstId) (val : W32)
  /-- OVERCAST_ACCESS (R241): A request reaches its home quadrant or scratchpad and is served, joined to a miss, or allocated per the cache rules. -/
  | overcastAccess (r : MemReq)
  /-- CACHE_MISS_FILL (R241): HBM data for a missed line arrives and is installed in the chosen way, serving joined requests. -/
  | cacheMissFill (line : Nat) (out : TierOutcome)
  /-- VICTIM_WRITEBACK (R243): A dirty victim's write-back from the victim buffer completes and frees its way. -/
  | victimWriteback (q : DieId) (line : Nat) (good : Bool)
  /-- LATE_ACCESS_TIMEOUT (R255): A lower-tier access not completed within MEM_LATE_TIMEOUT is ended as late. -/
  | lateAccessTimeout (a : LowerRef)
  /-- LATE_DATA_DISCARD (R255): Data that arrives after its timeout is discarded and counted. -/
  | lateDataDiscard (a : LowerRef)
  /-- DEEP_TIER_ACCESS (R254): A deep-tier controller performs a read or write on its LPDDR5X package. -/
  | deepTierAccess (k : Nat) (out : TierOutcome)
  /-- COPY (R153): A core DMA copy item (0x40) moves rows, optionally swizzled. -/
  | copy (u : DmaUnit) (k : Nat)
  /-- COPY_WITH_CONVERSION (R250): A core DMA item 0x41 converts elements and then optionally swizzles them. -/
  | copyWithConversion (u : DmaUnit) (k : Nat)
  /-- MEMORY_SIDE_REDUCTION (R251): A core DMA item 0x42 combines its source into its destination by add, max or min at the memory-side adders. -/
  | memorySideReduction (u : DmaUnit) (k : Nat)
  /-- FLUSH (R245): A maintenance item with maint_op 0 writes back dirty lines of a range or stack. -/
  | flush (u : DmaUnit) (k : Nat)
  /-- INVALIDATE (R245): A maintenance item with maint_op 1 discards lines of a range or stack without write-back. -/
  | invalidate (u : DmaUnit) (k : Nat)
  /-- FLUSH_AND_INVALIDATE (R245): A maintenance item with maint_op 2 writes back then discards lines. -/
  | flushAndInvalidate (u : DmaUnit) (k : Nat)
  /-- DMA_ITEM_COMPLETION (R153): A core DMA item finishes, records its status on its tag and releases its done_sem. -/
  | dmaItemCompletion (u : DmaUnit) (k : Nat)
  /-- HBM_REPAIR (R258): HBM_REPAIR maps, flushes, repairs, tests and zeroes an HBM row in MAINTENANCE. -/
  | hbmRepair (q : QRef) (out : RepairOutcome)
  /-- UPDATE_ITEM (R265): An update item (0x49) enters its engine's queue and waits at its head for its step's decision. -/
  | updateItem (d : DieId)
  /-- UPDATE_APPLY_COMPLETE (R265): An applied update item completes with OK, releasing held parameter-window reads when the apply ends. -/
  | updateApplyComplete (d : DieId)
  /-- SQUALL_VOTE (R267): A SQUALL_VOTE item requests the step's vote and completes when the decision arrives. -/
  | squallVote (d : DieId)
  /-- VOTE_FORMATION (R268): Once earlier collectives complete, the module atomically reads and clears its flags and forms its vote. -/
  | voteFormation (i : InstId)
  /-- VOTE (R272): A VOTE message reaches a tray head or pod leader, which opens or fills the step. -/
  | voteMsg (m : MsgRef)
  /-- POD_VOTE (R273): A POD_VOTE reaches the job leader, which decides once every pod vote is present. -/
  | podVoteMsg (m : MsgRef)
  /-- DECISION (R275): A DECISION is recorded by a module and forwarded, releasing waiting update and SQUALL_VOTE items. -/
  | decisionMsg (m : MsgRef)
  /-- QUERY (R275): A QUERY reaches a pod leader, which answers from its history or asks the job leader. -/
  | queryMsg (m : MsgRef)
  /-- APPLIED (R276): An APPLIED message is forwarded up the tree, or counted at the job leader toward STEP_DONE. -/
  | appliedMsg (m : MsgRef)
  /-- STEP_DONE (R276): STEP_DONE makes a module write SEAM_STEP_COMMITTED and POD_STEP. -/
  | stepDoneMsg (m : MsgRef)
  /-- FENCE (R281): A FENCE message puts the module's job into HELD and ends its waiting update items with POD_HELD. -/
  | fenceMsg (m : MsgRef)
  /-- TRAY_TIMER_EXPIRY (R272): A tray head's timer expires and it sends the records received with absent records for missing children. -/
  | trayTimerExpiry (i : InstId) (step : Nat)
  /-- POD_DEADLINE_EXPIRY (R272): A pod leader's deadline expires and it forms the pod vote with missing members absent. -/
  | podDeadlineExpiry (i : InstId) (step : Nat)
  /-- JOB_DEADLINE_EXPIRY (R272): The job leader's deadline expires and it decides with missing pods as skips. -/
  | jobDeadlineExpiry (i : InstId) (step : Nat)
  /-- QUERY_INTERVAL (R275): A holding module sends QUERY each time SEAM_QUERY_AFTER passes without a decision. -/
  | queryInterval (i : InstId)
  /-- DECISION_WAIT (R275): After 10 ms of holding, the module logs ERROR once. -/
  | decisionWait (i : InstId)
  /-- APPLY_LATE (R277): At the apply deadline, a member without APPLIED is fenced and the job held without STEP_DONE. -/
  | applyLate (i : InstId) (step : Nat)
  /-- RESUME (R282): RESUME installs the new member and pod masks, tree registers and next step and releases the hold. -/
  | resume (q : QRef)
  /-- SEAM_ITEM (R287): A Seam item (0x4A) is delivered to a die's Seam queue. -/
  | seamItem (d : DieId)
  /-- ALL_REDUCE (R295): An all-reduce collective reduces every die's buffer in canonical order and gathers the result everywhere. -/
  | allReduce (d : DieId)
  /-- REDUCE_SCATTER (R295): A reduce-scatter leaves each die its reduced final piece. -/
  | reduceScatter (d : DieId)
  /-- ALL_GATHER (R295): An all-gather assembles every die's piece into the whole buffer. -/
  | allGather (d : DieId)
  /-- BROADCAST (R295): A broadcast copies the root's buffer to every module. -/
  | broadcast (d : DieId)
  /-- ALL_TO_ALL (R295): An all-to-all exchanges rank-indexed blocks among all ranks. -/
  | allToAll (d : DieId)
  /-- PERMUTE (R301): A permute sends and receives table-paired blocks, copying overlapped outgoing blocks to scratch first. -/
  | permute (d : DieId)
  /-- DATA (R300): A Seam DATA chunk arrives, is checked against the receiver's item and is combined or stored. -/
  | dataMsg (k : Nat)
  /-- GRANT (R298): A GRANT gives the sender further chunk slots at a stage peer. -/
  | grantMsg (k : Nat)
  /-- ABORT (R303): An ABORT ends the receiver's item with its code and is passed on to its peers. -/
  | abortMsg (k : Nat)
  /-- SEAM_PEER_TIMEOUT (R304): A wait for a stage peer beyond SEAM_PEER_TIMEOUT ends the item with COLL_PEER_FAIL. -/
  | seamPeerTimeout (d : DieId) (k : Nat)
  /-- GROUP_ENABLE (R290): Setting enable in SEAM_GRP_BASE loads and checks the group record, or sets grp_error. -/
  | groupEnable (req : Requester) (i : InstId) (g : Fin 16) (val : Word)
  /-- FRAME_RECEIVE (R314): A received frame is checked and passed to the transport or PTP, or counted as an error or stranger. -/
  | frameReceive (f : Frame)
  /-- WRITE (R326): A Buinby WRITE request is applied and acknowledged or NAKed. -/
  | writeMsg (k : Nat)
  /-- READ (R334): A Buinby READ request is answered with READ_DATA or a NAK. -/
  | readMsg (k : Nat)
  /-- ADD (R326): A Buinby ADD request is applied by the memory-side adders. -/
  | addMsg (k : Nat)
  /-- MAX (R326): A Buinby MAX request is applied by the memory-side adders. -/
  | maxMsg (k : Nat)
  /-- MIN (R326): A Buinby MIN request is applied by the memory-side adders. -/
  | minMsg (k : Nat)
  /-- READ_DATA (R334): A READ_DATA response delivers read data and frees the transaction entry when complete. -/
  | readDataMsg (k : Nat)
  /-- ACK (R327): An ACK acknowledges packets, frees transaction entries and may trigger fast retransmission. -/
  | ackMsg (k : Nat)
  /-- NAK (R326): A NAK acknowledges a packet with a failing status for its transaction. -/
  | nakMsg (k : Nat)
  /-- OPEN (R320): A valid OPEN makes the responder derive the session key, reset sequence state and send OPEN_ACK. -/
  | openMsg (k : Nat) (nonce : BitVec 128)
  /-- OPEN_ACK (R319): A valid OPEN_ACK opens the initiator's session and sends held transactions. -/
  | openAckMsg (k : Nat)
  /-- CLOSE (R319): A CLOSE packet closes a session. -/
  | closeMsg (k : Nat)
  /-- GEN_NOTICE (R335): A GEN_NOTICE records a peer instance's new generation and ends outstanding transactions with INSTANCE_RESET. -/
  | genNoticeMsg (k : Nat)
  /-- PROBE (R325): A PROBE draws an immediate ACK. -/
  | probeMsg (k : Nat)
  /-- TUNNELLED_COMMAND (R354): A tunnelled command arrives at its target, which checks and executes it and returns status and result. -/
  | tunnelledCommand (k : Nat)
  /-- TRANSACTION (R334): A requester queues a transaction on a session, taking a transaction entry and splitting it into packets. -/
  | transaction (t : TxnReq)
  /-- PACKET_SCHEDULE (R331): A logical port sends the next eligible packet by channel-0 priority and deficit round robin. -/
  | packetSchedule (n : LPort)
  /-- ACK_DEADLINE (R327): A packet unacknowledged by its deadline is retransmitted, or the session fails at the retry limit. -/
  | ackDeadline (s : SessId) (seq : Nat)
  /-- ACK_DELAY (R325): ack_delay passes since the oldest unacknowledged packet and the receiver sends an ACK. -/
  | ackDelay (s : SessId)
  /-- OPEN_REPEAT (R319): An opening initiator repeats OPEN every 100 µs. -/
  | openRepeat (s : SessId)
  /-- OPENING_TIMEOUT (R319): An initiator without OPEN_ACK for 1 s fails the session and its held transactions. -/
  | openingTimeout (s : SessId)
  /-- FAILED_REOPEN (R319): 1 ms after failure, a session returns to OPENING or LISTEN. -/
  | failedReopen (s : SessId) (nonce : BitVec 128)
  /-- RATE_PERIOD (R329): At the end of each rate period a session's pacing rate is adjusted from its ACKs. -/
  | ratePeriod (s : SessId)
  /-- SESSION_IDLE (R329): After idle_ms without traffic a session restarts at one eighth of line rate. -/
  | sessionIdle (s : SessId)
  /-- EPOCH_COUNTER_WRITE (R320): A flash write advancing a fabric key's stored epoch counter completes, releasing waiting OPENs. -/
  | epochCounterWrite (key : Fin 16)
  /-- SESSION_CREATE (R318): SESSION_CREATE fills a session record and starts it as initiator or responder. -/
  | sessionCreate (q : QRef) (nonce : BitVec 128)
  /-- SESSION_CLOSE (R319): SESSION_CLOSE closes a session, failing its transactions. -/
  | sessionClose (q : QRef)
  /-- PORT_DOWN (R310): A logical port loses its link or fails to train and goes down, logged as WARN. -/
  | portDown (n : LPort)
  /-- PORT_RETRAIN (R310): Every second Thimble retrains each down port. -/
  | portRetrain (up : BitVec 96)
  /-- GRATUITOUS_ARP (R315): Once per second each logical port announces its address by gratuitous ARP or neighbour advertisement. -/
  | gratuitousArp
  /-- PTP_MESSAGE (R316): A PTP message from the timing peer updates pod time by a step at first lock or a slew thereafter. -/
  | ptpMessage (port : LPort) (m : PtpMsg)
  /-- PTP_SYNC_INTERVAL (R316): Every 2^-log_sync s the module sends Sync or Delay_Req. -/
  | ptpSyncInterval
  /-- PCIE_RESET (R340): PERST_N, a hot reset or link down resets the endpoint and host-block registers only. -/
  | pcieReset
  /-- FUNCTION_LEVEL_RESET (R340): An FLR of a VF disables its queues and reports the event to the PF. -/
  | functionLevelReset (k : InstId)
  /-- HST_Q_TAIL (R345): A write of HST_Q_TAIL is a queue's doorbell. -/
  | hstQTail (req : Requester) (q : QRef) (tail : BitVec 16)
  /-- CORE_WORK (R409): A core-work entry is checked and placed for dispatch on the instance's cores. -/
  | coreWork (q : QRef)
  /-- ENGINE_RECORD (R347): An engine-record entry is delivered to the named die's engine queue for its instance. -/
  | engineRecord (q : QRef)
  /-- BARRIER (R347): A barrier entry completes once every earlier entry of its queue has completed. -/
  | barrier (q : QRef)
  /-- PARTITION (R406): PARTITION checks the body, resets changed instances, changes granules and applies the new assignment. -/
  | partition (q : QRef)
  /-- INSTANCE_RESET (R413): INSTANCE_RESET increments the generation, stops the instance's units and orders stale items discarded. -/
  | instanceReset (q : QRef)
  /-- INSTANCE_RESET_COMPLETE (R413): Once every unit reports no older-generation item, the reset command completes with OK. -/
  | instanceResetComplete (i : InstId)
  /-- KEY_PROVISION (R356): KEY_PROVISION installs a signed, wrapped first command key into an empty slot. -/
  | keyProvision (q : QRef)
  /-- KEY_WRITE (R356): KEY_WRITE installs a wrapped command, fabric or KV hash key. -/
  | keyWrite (q : QRef)
  /-- KEY_RETIRE (R356): KEY_RETIRE empties a key slot, refusing the last command key. -/
  | keyRetire (q : QRef)
  /-- REG_WRITE (R351): REG_WRITE performs an authenticated 64-bit write to a register offset. -/
  | regWrite (q : QRef)
  /-- REG_READ (R351): REG_READ returns a 64-bit register value as its result. -/
  | regRead (q : QRef)
  /-- CMD_STATUS (R355): CMD_STATUS returns the last accepted counter of a key and sender. -/
  | cmdStatus (q : QRef)
  /-- IMAGE_WRITE (R428): IMAGE_WRITE checks a new image and starts programming the inactive flash copy. -/
  | imageWrite (q : QRef)
  /-- IMAGE_PROGRAM_COMPLETE (R428): Programming of the inactive image finishes and is verified, or is marked invalid with IMAGE_FLASH_FAIL. -/
  | imageProgramComplete (verified : Bool)
  /-- FIRMWARE_PATCH (R351): FIRMWARE_PATCH loads a Thimble patch at run time. -/
  | firmwarePatch (q : QRef)
  /-- DOORBELL (R354): DOORBELL moves a target queue's tail after earlier BAR4 writes are acknowledged. -/
  | doorbell (q : QRef)
  /-- TUNNEL_TIMEOUT (R355): A tunnelled command unanswered within HST_TUNNEL_TIMEOUT completes with TIMEOUT. -/
  | tunnelTimeout (k : Nat)
  /-- LOG_SEAL (R456): LOG_SEAL writes a signed record of the Contrail ring and snapshots to HBM. -/
  | logSeal (q : QRef)
  /-- POWER_CAP (R351): POWER_CAP sets the TDP and backup cap, clamped to the variant, and returns the applied values. -/
  | powerCap (q : QRef)
  /-- HST_POD_SNAP (R357): Writing snap latches a consistent snapshot of the pod view. -/
  | hstPodSnap (req : Requester)
  /-- THM_EVENT (R358): A read of THM_EVENT returns and removes the oldest event entry. -/
  | thmEvent (req : Requester)
  /-- MODULE_RESET (R436): A REG_WRITE of PWR_RESET.reset completes and then starts a module reset into cold boot from step 2. -/
  | moduleReset (q : QRef)
  /-- MAINTENANCE_ENTER (R442): Writing enter = 1 in RAS_MAINT stops dispatch and waits up to 100 ms for running work to end. -/
  | maintenanceEnter (q : QRef)
  /-- MAINTENANCE_DRAIN (R442): Work drains and the module enters MAINTENANCE, or 100 ms passes and the command ends with MAINT_BUSY. -/
  | maintenanceDrain (expired : Bool)
  /-- MAINTENANCE_EXIT (R442): Writing enter = 0 returns the module to READY and releases held entries. -/
  | maintenanceExit (q : QRef)
  /-- ING_RING_TAIL (R361): A write of ING_RING_TAIL is the ingest ring's doorbell. -/
  | ingRingTail (req : Requester) (i : InstId) (tail : W32)
  /-- INGEST_JOB (R361): An ingest job descriptor is checked and its source read into the parser. -/
  | ingestJob (i : InstId)
  /-- BOLT_RECORD (R363): The parser takes a Bolt record, checks header and CRC, and forms samples. -/
  | boltRecord (s : StrmId)
  /-- USTAR_MEMBER (R365): The parser takes a ustar header and member and sorts it by extension. -/
  | ustarMember (s : StrmId)
  /-- DECODE_COMPLETE (R370): A picture or audio decode finishes and hands its output to pre-processing. -/
  | decodeComplete (s : StrmId) (seq : Nat) (audio : Bool)
  /-- SAMPLE_RECORD (R383): After a frame's slot data is visible, its sample record is published in sequence order. -/
  | sampleRecord (s : StrmId)
  /-- SETTINGS_INSTALL (R376): A write of ING_STRM_SET_TARGET reads and checks a settings block and queues it for its target frame. -/
  | settingsInstall (req : Requester) (s : StrmId) (target : Word)
  /-- STREAM_ENABLE (R391): Enabling an ingest stream starts its numbering and, for live video, reserves decode capacity. -/
  | streamEnable (req : Requester) (s : StrmId) (val : W32)
  /-- RTP_PACKET (R378): An RTP packet carried in a MSG enters its live stream's jitter buffer or is discarded as foreign. -/
  | rtpPacket (k : Nat)
  /-- LIVE_LATE (R380): A live frame incomplete or unpublished at its deadline is dropped with LIVE_LATE. -/
  | liveLate (s : StrmId) (seq : Nat)
  /-- SLOT_GRANT (R419): A waiting pool take at the head of the wait queue receives a freed slot. -/
  | slotGrant (p : PoolId)
  /-- CDC_RING_TAIL (R396): A write of CDC_RING_TAIL is the encode ring's doorbell. -/
  | cdcRingTail (req : Requester) (i : InstId) (tail : W32)
  /-- PICTURE_DESCRIPTOR (R396): An encode picture descriptor is checked and queued for its encode stream. -/
  | pictureDescriptor (i : InstId)
  /-- ENCODE_STREAM_ENABLE (R395): Enabling an encode stream checks its session block and reserves live capacity. -/
  | encodeStreamEnable (req : Requester) (t : EncId) (val : W32)
  /-- KEY_PICTURE_REQUEST (R398): A write of CDC_ENC_KEY makes the next uncoded picture a key picture. -/
  | keyPictureRequest (req : Requester) (t : EncId) (val : W32)
  /-- PICTURE_BOUNDARY (R392): At a picture boundary an engine chooses its next work by class and deadline. -/
  | pictureBoundary (e : EngId)
  /-- BLOCK_ROW_PREEMPT (R392): Non-live work stops at its next block row when a live picture is ready, saving its state. -/
  | blockRowPreempt (e : EngId)
  /-- ENCODE_LIVE_LATE (R399): A live encode picture whose deadline passes before it is written is not coded. -/
  | encodeLiveLate (t : EncId) (pts : Nat)
  /-- DISPATCH (R410): The dispatcher places an entry's copies on distinct free cores by residency key and load. -/
  | dispatch (i : InstId)
  /-- COPY_RESTORE (R411): A copy at the head of a run queue runs its restore list unless its residency key matches. -/
  | copyRestore (c : CoreId)
  /-- PROGRAM_START (R411): After the restore list, the core clears its registers and issues the entry bundle. -/
  | programStart (c : CoreId)
  /-- COPY_SAVE (R411): After the program ends, the core runs the save list. -/
  | copySave (c : CoreId)
  /-- COPY_END (R412): A copy ends, setting the residency key; the entry completes when its last copy ends. -/
  | copyEnd (c : CoreId)
  /-- SEMAPHORE_OPERATION (R415): An acquire or release reaches a semaphore and is applied, waking the head waiter. -/
  | semaphoreOperation (n : SemId) (k : Nat)
  /-- SEMAPHORE_WRITE (R415): A write of SCH_SEM sets the value and serves waiters. -/
  | semaphoreWrite (req : Requester) (n : SemId) (v : BitVec 16)
  /-- POOL_TAKE (R419): A read of SCH_POOL_TAKE takes the oldest free slot or returns POOL_EMPTY. -/
  | poolTake (req : Requester) (p : PoolId)
  /-- POOL_RETURN (R418): A write of SCH_POOL_RETURN returns a slot to the pool's FIFO. -/
  | poolReturn (req : Requester) (p : PoolId) (slot : Addr)
  /-- WATCHDOG_EXPIRY (R417): A semaphore, counter, RCV or pool wait times out with TIMEOUT and is logged. -/
  | watchdogExpiry (w : WaitRef)
  /-- POWER_ON (R436): Both inputs rising from absent reset everything and start cold boot. -/
  | powerOn (aCv bCv : Nat) (fresh : Option PartInfo)
  /-- MOD_RESET_N (R436): MOD_RESET_N held low for 25 samples starts a module reset. -/
  | modResetN (lowSamples : Nat)
  /-- BOOT (R430): Boot steps 1-4 start the always-on domain, run Thimble, load the image, ramp rails and set the lock. -/
  | boot (b : BootIn)
  /-- MEM_TRAIN (R430): Boot step 5 trains HBM and the deep tier and tests cores and dies. -/
  | memTrain (t : TrainIn)
  /-- LINK_TRAIN (R430): Boot step 6 trains the fabric ports and starts PTP. -/
  | linkTrain (up : BitVec 96)
  /-- POD_JOIN (R430): Boot step 7 opens control-tree sessions, reports nonces and locks pod time. -/
  | podJoin (joined : List (Fin 64 × BitVec 128)) (timeLocked : Bool)
  /-- READY (R430): Boot step 8 asserts PWR_GOOD and enables the gate's PCIe link. -/
  | ready
  /-- BOOT_STEP_TIMEOUT (R430): A boot step exceeding its limit fails the module or continues without the failed part. -/
  | bootStepTimeout (st : BootStep)
  /-- MEMBER_JOIN (R430): A member that joins is added to HST_POD_MEMBERS. -/
  | memberJoin (dev : Fin 64) (nonce : BitVec 128)
  /-- POD_JOIN_TIMEOUT (R430): The pod join timeout expires and the pod state becomes degraded. -/
  | podJoinTimeout
  /-- INPUT_A_FAIL (R432): Input A fails while drawn from and the module transfers to B under the backup cap. -/
  | inputAFail (cv : Nat)
  /-- INPUT_A_GOOD (R432): Input A enters the good band while on B and starts or restarts the stability timer. -/
  | inputAGood (cv : Nat)
  /-- SWITCH_BACK_TIMER (R432): After 500 ms of good A the module transfers back to A and restores the TDP. -/
  | switchBackTimer
  /-- INPUT_B_FAIL (R432): Input B fails, transferring to A if on B or being logged if on A. -/
  | inputBFail (cv : Nat)
  /-- BOTH_INPUTS_FAIL (R432): With both inputs failed, the draw is cut to the minimum and PWR_GOOD deasserts. -/
  | bothInputsFail
  /-- POWER_SAMPLE (R433): Every 10 µs the controller samples power and lowers die clocks on a limit breach. -/
  | powerSample (sampleW meanW : Nat) (draws : List Nat)
  /-- PEAK_RUN_LIMIT (R433): A 10 ms run of samples above the TDP is cut. -/
  | peakRunLimit
  /-- CLOCK_RAISE (R433): Every 100 µs with margin, throttled dies are raised one step. -/
  | clockRaise
  /-- THERMAL_SAMPLE (R434): Die temperatures are checked, lowering hot dies one step per 100 µs. -/
  | thermalSample (temps : List Nat)
  /-- DIE_REQUEST (R435): A write of PWR_DIE_REQ changes a die's requested clock, which the controller then grants. -/
  | dieRequest (req : Requester) (d : DieId) (mhz : Nat)
  /-- PCIE_REFCLK_LOSS (R435): PCIE_REFCLK absent for 10 µs logs FATAL, stops the dies and enters FAILED. -/
  | pcieRefclkLoss
  /-- FAB_REFCLK_LOSS (R435): FAB_REFCLK absence takes every port down. -/
  | fabRefclkLoss
  /-- PATROL_SCRUB (R440): The scrubber reads Pocket and Overcast words, correcting or poisoning errors. -/
  | patrolScrub (addr : Nat) (f : ScrubFinding)
  /-- CONTRAIL_ENTRY (R445): The log writer takes an entry, coalesces it or writes it to its class share. -/
  | contrailEntry
  /-- SNAPSHOT_COMPLETE (R449): A FATAL snapshot finishes writing to flash. -/
  | snapshotComplete
  /-- COALESCE_WINDOW_CLOSE (R446): An open log entry's 1 ms window closes and it is written to the ring. -/
  | coalesceWindowClose (k : Nat)
  /-- FLOOD_END (R447): A flood ends after 1 ms without refusal and its buffer is written. -/
  | floodEnd (cls : Fin 5)
  /-- ALARM_WINDOW_CLOSE (R450): An alarm window closes, storing its count. -/
  | alarmWindowClose (n : Fin 16)
  /-- SMBUS_TRANSACTION (R451): An SMBus transaction addressed to the module is checked for PEC and answered. -/
  | smbusTransaction (addr : Nat) (pecGood : Bool) (data : Bytes)
  /-- SMBUS_ARP (R451): The board controller assigns the module a dynamic address by SMBus ARP. -/
  | smbusArp (addr : Nat)
  /-- MCTP_TRANSMIT (R452): The module as controller sends an MCTP packet, retrying after arbitration loss. -/
  | mctpTransmit (lost addressed : Bool)
  /-- SET_ENDPOINT_ID (R453): Set Endpoint ID assigns the module's MCTP endpoint ID. -/
  | setEndpointId (eid : Nat)
  /-- GET_ENDPOINT_ID (R453): Get Endpoint ID returns the module's MCTP endpoint ID. -/
  | getEndpointId
  /-- GET_MCTP_VERSION_SUPPORT (R453): Get MCTP Version Support returns the supported versions. -/
  | getMctpVersionSupport
  /-- GET_MESSAGE_TYPE_SUPPORT (R453): Get Message Type Support returns the supported message types. -/
  | getMessageTypeSupport
  /-- PLDM_REQUEST (R453): A PLDM request returns sensor readings for temperatures, voltages and power. -/
  | pldmRequest (sensor : Nat)
  /-- BYPASS (R454): The TAP BYPASS instruction selects the bypass register. -/
  | bypass
  /-- IDCODE (R454): The TAP IDCODE instruction selects the identification code. -/
  | idcode
  /-- SAMPLE_PRELOAD (R454): The TAP SAMPLE/PRELOAD instruction samples or preloads the boundary register. -/
  | samplePreload
  /-- EXTEST (R454): The TAP EXTEST instruction drives pins from the boundary register while MOD_RESET_N is low. -/
  | extest
  /-- CLAMP (R454): The TAP CLAMP instruction holds outputs while MOD_RESET_N is low. -/
  | clamp
  /-- HIGHZ (R454): The TAP HIGHZ instruction floats outputs while MOD_RESET_N is low. -/
  | highz
  /-- TEST_MODE_ENTRY (R455): An attempt to enter a factory test mode is refused with TEST_LOCKED and logged. -/
  | testModeEntry (path : TestPath)
  /-- PARTITION_CHANGE_COMPLETE (R246): When a partition change's cache flush and granule zeroing (16,384 die cycles per granule, one granule after another) have finished, the new modes take effect, allocation resumes and remap_busy clears. -/
  | partitionChangeComplete
  /-- TUNNELLED_COMMAND_ANSWER (R354): The target's status and result for a tunnelled command reach the gate, which writes them as the command's completion. -/
  | tunnelledCommandAnswer (k : Nat)
  /-- SMBUS_TIMEOUT (R451): When the bus has been held for the 25 ms SMBus timeout, the module releases the bus and abandons the transaction. -/
  | smbusTimeout
  /-- INPUT_A_GOOD_BAND_DEPARTURE (R432): While the module draws from B, input A leaving the good band (below 46.0 V or above 59.5 V) restarts the 500 ms switch-back timer. -/
  | inputAGoodBandDeparture (cv : Nat)
  deriving DecidableEq, Repr

end Sys2Proof
end

