-- ==== Sys2Proof/Decode.lean ====
section
/-! DEFINITION. Decoding of command words. The operations and events table gives no row a bit, so no word spells a
command. -/
namespace Sys2Proof

/-- The command that a word spells by the table's bits: none, for the table's rows have no bits. -/
def decodeTableWord (_nbits _w : Nat) : Option Instr := none

end Sys2Proof
end

