-- ==== Sys2Proof/Machine/Num.lean ====
section
/-! DEFINITION. Element formats, exact values, rounding, conversion, FP32 and INT32 arithmetic and Philox (R40 to R62). -/
namespace Sys2Proof

/-- The twelve element formats of R40; MXFP8 has two codes. -/
inductive Fmt where
  | fp32 | fp16 | bf16 | e4m3 | e5m2 | mxE4m3 | mxE5m2 | mxE3m2 | mxE2m3 | mxE2m1 | mxInt8 | int8 | int4
  deriving DecidableEq, Repr

/-- The 4-bit format codes of R40; 0xD to 0xF are reserved. -/
def Fmt.ofCode : Nat → Option Fmt
  | 0 => some .fp32 | 1 => some .fp16 | 2 => some .bf16 | 3 => some .e4m3 | 4 => some .e5m2
  | 5 => some .mxE4m3 | 6 => some .mxE5m2 | 7 => some .mxE3m2 | 8 => some .mxE2m3 | 9 => some .mxE2m1
  | 10 => some .mxInt8 | 11 => some .int8 | 12 => some .int4 | _ => none

/-- Element width in bits (R40). -/
def Fmt.bits : Fmt → Nat
  | .fp32 => 32 | .fp16 => 16 | .bf16 => 16 | .e4m3 => 8 | .e5m2 => 8 | .mxE4m3 => 8 | .mxE5m2 => 8
  | .mxE3m2 => 6 | .mxE2m3 => 6 | .mxE2m1 => 4 | .mxInt8 => 8 | .int8 => 8 | .int4 => 4

/-- The formats with an E8M0 scale per block of 32 (R40, R45). -/
def Fmt.isMx : Fmt → Bool
  | .mxE4m3 | .mxE5m2 | .mxE3m2 | .mxE2m3 | .mxE2m1 | .mxInt8 => true
  | _ => false

/-- INT8 and INT4; MXINT8 counts as floating-point (R48). -/
def Fmt.isInt : Fmt → Bool
  | .int8 | .int4 => true
  | _ => false

/-- Parameters of a floating-point encoding (R41): exponent and mantissa bits, bias, whether it has infinities, the
canonical NaN (R43), and the code of the largest finite magnitude. -/
structure FloatEnc where
  ew : Nat
  mw : Nat
  bias : Int
  inf : Bool
  nan : Option Nat
  maxCode : Nat
  deriving DecidableEq, Repr

def encFp32 : FloatEnc := ⟨8, 23, 127, true, some 0x7FC00000, 0x7F7FFFFF⟩
def encFp16 : FloatEnc := ⟨5, 10, 15, true, some 0x7E00, 0x7BFF⟩
def encBf16 : FloatEnc := ⟨8, 7, 127, true, some 0x7FC0, 0x7F7F⟩
def encE4m3 : FloatEnc := ⟨4, 3, 7, false, some 0x7F, 0x7E⟩
def encE5m2 : FloatEnc := ⟨5, 2, 15, true, some 0x7E, 0x7B⟩
def encE3m2 : FloatEnc := ⟨3, 2, 3, false, none, 0x1F⟩
def encE2m3 : FloatEnc := ⟨2, 3, 1, false, none, 0x1F⟩
def encE2m1 : FloatEnc := ⟨2, 1, 1, false, none, 0x7⟩

/-- The floating-point encoding of a format's elements; none for the integer-coded ones. -/
def Fmt.enc : Fmt → Option FloatEnc
  | .fp32 => some encFp32 | .fp16 => some encFp16 | .bf16 => some encBf16
  | .e4m3 | .mxE4m3 => some encE4m3 | .e5m2 | .mxE5m2 => some encE5m2
  | .mxE3m2 => some encE3m2 | .mxE2m3 => some encE2m3 | .mxE2m1 => some encE2m1
  | .mxInt8 | .int8 | .int4 => none

/-- An exact value: a NaN, an infinity, or (-1)^neg × m × 2^e. -/
inductive FVal where
  | nan
  | inf (neg : Bool)
  | fin (neg : Bool) (m : Nat) (e : Int)
  deriving DecidableEq, Repr

namespace FVal

def zero (neg : Bool) : FVal := .fin neg 0 0

def isFinite : FVal → Bool
  | .fin .. => true
  | _ => false

def isNan : FVal → Bool
  | .nan => true
  | _ => false

def isZero : FVal → Bool
  | .fin _ 0 _ => true
  | _ => false

def isNeg : FVal → Bool
  | .nan => false
  | .inf n => n
  | .fin n _ _ => n

def negate : FVal → FVal
  | .nan => .nan
  | .inf n => .inf (!n)
  | .fin n m e => .fin (!n) m e

def abs : FVal → FVal
  | .nan => .nan
  | .inf _ => .inf false
  | .fin _ m e => .fin false m e

/-- An integer as an exact value. -/
def ofInt (z : Int) : FVal := .fin (decide (z < 0)) z.natAbs 0

/-- The significand of a finite value read at exponent `e0 ≤ e`, signed. -/
def scaled (neg : Bool) (m : Nat) (e e0 : Int) : Int :=
  let a : Int := (m * 2 ^ (e - e0).toNat : Nat)
  if neg then -a else a

/-- The exact sum; a zero sum of nonzero terms, or of zeros of unlike sign, is +0 (IEEE 754-2019, R51). -/
def add : FVal → FVal → FVal
  | .nan, _ => .nan
  | _, .nan => .nan
  | .inf a, .inf b => if a = b then .inf a else .nan
  | .inf a, .fin .. => .inf a
  | .fin .., .inf b => .inf b
  | .fin n1 m1 e1, .fin n2 m2 e2 =>
    let e0 := min e1 e2
    let z := scaled n1 m1 e1 e0 + scaled n2 m2 e2 e0
    if z = 0 then .fin (n1 && n2) 0 0 else .fin (decide (z < 0)) z.natAbs e0

/-- The exact product (R49). -/
def mul : FVal → FVal → FVal
  | .nan, _ => .nan
  | _, .nan => .nan
  | .inf a, .inf b => .inf (a != b)
  | .inf a, .fin b m _ => if m = 0 then .nan else .inf (a != b)
  | .fin a m _, .inf b => if m = 0 then .nan else .inf (a != b)
  | .fin n1 m1 e1, .fin n2 m2 e2 => .fin (n1 != n2) (m1 * m2) (e1 + e2)

/-- Whether the first value is below the second; false where either is a NaN; −0 and +0 compare equal. -/
def lt : FVal → FVal → Bool
  | .nan, _ => false
  | _, .nan => false
  | .inf a, .inf b => a && !b
  | .inf a, .fin .. => a
  | .fin .., .inf b => !b
  | .fin n1 m1 e1, .fin n2 m2 e2 =>
    let e0 := min e1 e2
    decide (scaled n1 m1 e1 e0 < scaled n2 m2 e2 e0)

def eq : FVal → FVal → Bool
  | .nan, _ => false
  | _, .nan => false
  | a, b => !(lt a b) && !(lt b a)

/-- A value times a power of two, exactly. -/
def scaleExp (v : FVal) (k : Int) : FVal :=
  match v with
  | .fin n m e => .fin n m (e + k)
  | w => w

end FVal

/-- The value that an encoding stands for (R41). -/
def FloatEnc.decode (f : FloatEnc) (bits : Nat) : FVal :=
  let m := bits % 2 ^ f.mw
  let e := bits / 2 ^ f.mw % 2 ^ f.ew
  let neg := decide (bits / 2 ^ (f.mw + f.ew) % 2 = 1)
  if f.inf && e == 2 ^ f.ew - 1 then (if m = 0 then .inf neg else .nan)
  else if f.nan.isSome && !f.inf && e == 2 ^ f.ew - 1 && m == 2 ^ f.mw - 1 then .nan
  else if e = 0 then .fin neg m (1 - f.bias - f.mw)
  else .fin neg (2 ^ f.mw + m) ((e : Int) - f.bias - f.mw)

/-- A two's complement field as an integer. -/
def signedOf (w bits : Nat) : Int :=
  let b := bits % 2 ^ w
  if b < 2 ^ (w - 1) then b else (b : Int) - (2 ^ w : Nat)

/-- The low `w` bits of an integer in two's complement. -/
def twosOf (w : Nat) (z : Int) : Nat := (z % (2 ^ w : Nat)).toNat

/-- The value of an element before its block scale (R41, R42). -/
def Fmt.value (f : Fmt) (bits : Nat) : FVal :=
  match f with
  | .mxInt8 => (FVal.ofInt (signedOf 8 bits)).scaleExp (-6)
  | .int8 => FVal.ofInt (signedOf 8 bits)
  | .int4 => FVal.ofInt (signedOf 4 bits)
  | g => match g.enc with
    | some e => e.decode bits
    | none => .nan

/-- The value of an MX element under its block scale (R46). -/
def mxValue (f : Fmt) (scale bits : Nat) : FVal :=
  if scale = 0xFF then .nan else (f.value bits).scaleExp ((scale : Int) - 127)

/-- How a discarded fraction is rounded: to nearest even, or stochastically with the element's 16-bit value (R60). -/
inductive Rnd where
  | rne
  | sr (r : Nat)
  deriving DecidableEq, Repr

/-- Whether the magnitude `rem / 2^shift`, discarded below `lo`, rounds away from zero. -/
def Rnd.up (r : Rnd) (lo rem shift : Nat) : Bool :=
  match r with
  | .rne => decide (2 * rem > 2 ^ shift) || (decide (2 * rem = 2 ^ shift) && lo % 2 == 1)
  | .sr v => decide (rem * 2 ^ 16 / 2 ^ shift + v % 2 ^ 16 ≥ 2 ^ 16)

/-- Magnitude m × 2^e in units of 2^q, rounded. -/
def roundAt (r : Rnd) (m : Nat) (e q : Int) : Nat :=
  if e ≥ q then m * 2 ^ (e - q).toNat
  else
    let sh := (q - e).toNat
    let lo := m / 2 ^ sh
    if r.up lo (m % 2 ^ sh) sh then lo + 1 else lo

/-- The magnitude code that m × 2^e rounds to with unbounded range (R57, R60); it may exceed `maxCode`. -/
def FloatEnc.magCode (f : FloatEnc) (r : Rnd) (m : Nat) (e : Int) : Nat :=
  if m = 0 then 0
  else
    let top : Int := (m.log2 : Int) + e
    let emin : Int := 1 - f.bias
    let q : Int := max top emin - f.mw
    let sig := roundAt r m e q
    if sig < 2 ^ f.mw then sig
    else (q + f.mw + f.bias).toNat * 2 ^ f.mw + (sig - 2 ^ f.mw)

def FloatEnc.signBit (f : FloatEnc) (neg : Bool) : Nat := if neg then 2 ^ (f.ew + f.mw) else 0

/-- The code of infinity in an encoding that has one. -/
def FloatEnc.infCode (f : FloatEnc) : Nat := (2 ^ f.ew - 1) * 2 ^ f.mw

/-- FP32 arithmetic result: round to nearest even, overflow to infinity (R51, R55), NaN canonical (R43). -/
def toFp32 (v : FVal) : W32 :=
  match v with
  | .nan => 0x7FC00000
  | .inf n => BitVec.ofNat 32 (encFp32.signBit n + encFp32.infCode)
  | .fin n m e => BitVec.ofNat 32 (encFp32.signBit n + min (encFp32.magCode .rne m e) encFp32.infCode)

def ofFp32 (w : W32) : FVal := encFp32.decode w.toNat

/-- Whether an FP32 value is a NaN or an infinity. -/
def fp32NonFinite (w : W32) : Bool := decide (w.toNat / 2 ^ 23 % 256 = 255)

def fp32Add (a b : W32) : W32 := toFp32 ((ofFp32 a).add (ofFp32 b))
def fp32Mul (a b : W32) : W32 := toFp32 ((ofFp32 a).mul (ofFp32 b))
def fp32Neg (a : W32) : W32 := toFp32 (ofFp32 a).negate
def fp32Sub (a b : W32) : W32 := toFp32 ((ofFp32 a).add (ofFp32 b).negate)
/-- Fused multiply-add a × b + c, one rounding (R51). -/
def fp32Fma (a b c : W32) : W32 := toFp32 (((ofFp32 a).mul (ofFp32 b)).add (ofFp32 c))

/-- Maximum of R52: the canonical NaN if either is a NaN; −0 below +0. -/
def FVal.max : FVal → FVal → FVal
  | .nan, _ => .nan
  | _, .nan => .nan
  | a, b => if a.lt b then b else if b.lt a then a else if a.isNeg then b else a

/-- Minimum of R52. -/
def FVal.min : FVal → FVal → FVal
  | .nan, _ => .nan
  | _, .nan => .nan
  | a, b => if a.lt b then a else if b.lt a then b else if a.isNeg then a else b

def fp32Max (a b : W32) : W32 := toFp32 ((ofFp32 a).max (ofFp32 b))
def fp32Min (a b : W32) : W32 := toFp32 ((ofFp32 a).min (ofFp32 b))

/-- The exact quotient, with a sticky bit below it where it does not end (R51). -/
def FVal.quot : FVal → FVal → FVal
  | .nan, _ => .nan
  | _, .nan => .nan
  | .inf _, .inf _ => .nan
  | .inf a, .fin b _ _ => .inf (a != b)
  | .fin a _ _, .inf b => .zero (a != b)
  | .fin a m1 e1, .fin b m2 e2 =>
    if m2 = 0 then (if m1 = 0 then .nan else .inf (a != b))
    else if m1 = 0 then .zero (a != b)
    else
      let k := m2.log2 + 64
      let num := m1 * 2 ^ k
      .fin (a != b) (2 * (num / m2) + (if num % m2 = 0 then 0 else 1)) (e1 - e2 - (k : Int) - 1)

def fp32Div (a b : W32) : W32 := toFp32 ((ofFp32 a).quot (ofFp32 b))

/-- A fixed tree over a list: neighbours first, then neighbours of the results, `levels` times (R191). -/
def pairUp {α : Type} (f : α → α → α) : List α → List α
  | a :: b :: rest => f a b :: pairUp f rest
  | l => l
def treeFold {α : Type} (f : α → α → α) : Nat → List α → List α
  | 0, l => l
  | k + 1, l => treeFold f k (pairUp f l)

/-- Element k of a list goes to lane k mod n; each lane's elements stay in order. -/
def lanesOfList {α : Type} (n : Nat) (l : List α) : List (List α) :=
  (List.range n).map (fun j => ((List.range l.length).zip l).filterMap (fun e => if e.1 % n = j then some e.2 else none))

def fp32One : W32 := 0x3F800000
def fp32NegInf : W32 := 0xFF800000
def fp32Nan : W32 := 0x7FC00000

/-- INT32 saturation of an exact sum and whether it saturated (R50). -/
def satInt32 (z : Int) : Int × Bool :=
  if z > 2147483647 then (2147483647, true)
  else if z < -2147483648 then (-2147483648, true)
  else (z, false)

/-- A saturating integer of a width, and whether it saturated. -/
def satInt (w : Nat) (z : Int) : Int × Bool :=
  let hi : Int := (2 ^ (w - 1) : Nat) - 1
  let lo : Int := -((2 ^ (w - 1) : Nat) : Int)
  if z > hi then (hi, true) else if z < lo then (lo, true) else (z, false)

/-! Conversion (R53 to R59). -/

/-- The conversion byte of R53. -/
structure Cvt where
  sr : Bool
  ovf : Nat
  stream : Nat
  deriving DecidableEq, Repr

/-- A conversion byte with no reserved value (R53). -/
def Cvt.ofByte (b : Nat) : Option Cvt :=
  if b % 4 < 2 && b / 4 % 4 < 3 then some ⟨b % 4 == 1, b / 4 % 4, b / 16 % 16⟩ else none

/-- The destinations that accept stochastic rounding (R54). -/
def Fmt.srOk : Fmt → Bool
  | .bf16 | .fp16 | .e4m3 | .e5m2 => true
  | _ => false

/-- The conversion byte is admitted for a destination (R54). -/
def Cvt.check (b : Nat) (dst : Fmt) : Option Cvt :=
  match Cvt.ofByte b with
  | some c => if c.sr && !dst.srOk then none else some c
  | none => none

/-- What an arithmetic or conversion step reports to the flags (R50, R55, R59, R66). -/
structure FpEv where
  nonfinite : Bool := false
  intSat : Bool := false
  fpSat : Bool := false
  satCount : Nat := 0
  deriving DecidableEq, Repr

def FpEv.none : FpEv := {}
def FpEv.join (a b : FpEv) : FpEv :=
  ⟨a.nonfinite || b.nonfinite, a.intSat || b.intSat, a.fpSat || b.fpSat, a.satCount + b.satCount⟩
def FpEv.joinAll (l : List FpEv) : FpEv := l.foldl FpEv.join {}

/-- Conversion of one element to a floating-point encoding (R55 to R57, R60). -/
def cvtFloat (f : FloatEnc) (ovf : Nat) (satDefault : Bool) (r : Rnd) (v : FVal) : Nat × FpEv :=
  let nanCode := f.nan.getD 0
  match v with
  | .nan => (nanCode, { nonfinite := true })
  | .inf n => (if f.inf then f.signBit n + f.infCode else nanCode, { nonfinite := true })
  | .fin n m e =>
    let code := f.magCode r m e
    if code ≤ f.maxCode then (f.signBit n + code, {})
    else if ovf = 1 || (ovf = 0 && satDefault) || f.nan.isNone then
      (f.signBit n + f.maxCode, { fpSat := true, satCount := 1 })
    else if f.inf then (f.signBit n + f.infCode, { nonfinite := true })
    else (nanCode, { nonfinite := true })

/-- Conversion of one element to INT8 or INT4 (R56, R59). -/
def cvtInt (w : Nat) (v : FVal) : Nat × FpEv :=
  match v with
  | .fin n m e =>
    let a : Int := roundAt .rne m e 0
    let (z, sat) := satInt w (if n then -a else a)
    (twosOf w z, { intSat := sat, satCount := if sat then 1 else 0 })
  | _ => (0, { nonfinite := true })

/-- Conversion of one element to a format without block scale. -/
def cvtElem (dst : Fmt) (c : Cvt) (r : Nat) (v : FVal) : Nat × FpEv :=
  let rnd : Rnd := if c.sr then .sr r else .rne
  match dst with
  | .fp32 => cvtFloat encFp32 c.ovf false rnd v
  | .fp16 => cvtFloat encFp16 c.ovf false rnd v
  | .bf16 => cvtFloat encBf16 c.ovf false rnd v
  | .e4m3 => cvtFloat encE4m3 c.ovf true rnd v
  | .e5m2 => cvtFloat encE5m2 c.ovf true rnd v
  | .int8 => cvtInt 8 v
  | .int4 => cvtInt 4 v
  | _ => (0, {})

/-- The largest element exponent of an MX format (R58). -/
def Fmt.emax : Fmt → Int
  | .mxE4m3 => 8 | .mxE5m2 => 15 | .mxE3m2 => 4 | .mxE2m3 => 2 | .mxE2m1 => 2 | _ => 0

/-- The largest floor(log2) of the magnitudes of a block; none where every element is zero. -/
def blockLog2 (vs : List FVal) : Option Int :=
  vs.foldl (fun a v => match v with
    | .fin _ m e => if m = 0 then a else
        let l : Int := (m.log2 : Int) + e
        match a with
        | some b => some (max b l)
        | none => some l
    | _ => a) none

/-- Quantisation of one block of 32 into an MX format: the scale byte, the elements and the report (R56, R58). -/
def cvtBlock (dst : Fmt) (c : Cvt) (vs : List FVal) : Nat × List Nat × FpEv :=
  if vs.any (fun v => !v.isFinite) then (0xFF, vs.map (fun _ => 0), { nonfinite := true })
  else match blockLog2 vs with
    | none => (0x7F, vs.map (fun v => match dst.enc with
        | some f => f.signBit v.isNeg
        | none => 0), {})
    | some l =>
      let x : Int := max (-127) (min 127 (l - dst.emax))
      let es := vs.map (fun v =>
        let w := v.scaleExp (-x)
        match dst with
        | .mxInt8 => (match w with
          | .fin n m e =>
            let a : Int := roundAt .rne m (e + 6) 0
            let (z, sat) := satInt 8 (if n then -a else a)
            ((twosOf 8 z, { fpSat := sat, satCount := if sat then 1 else 0 }) : Nat × FpEv)
          | _ => (0, {}))
        | g => (match g.enc with
          | some f => cvtFloat f c.ovf true .rne w
          | none => (0, {})))
      ((x + 127).toNat, es.map Prod.fst, FpEv.joinAll (es.map Prod.snd))

/-! Stochastic rounding: Philox-4×32-10 (R61). -/

/-- One round of R61 on (c0, c1, c2, c3) with keys k0, k1. -/
def philoxRound (c : Nat × Nat × Nat × Nat) (k0 k1 : Nat) : Nat × Nat × Nat × Nat :=
  let (c0, c1, c2, c3) := c
  let p0 := 0xD2511F53 * c0
  let p1 := 0xCD9E8D57 * c2
  (Nat.xor (Nat.xor (p1 / 2 ^ 32) c1) k0, p1 % 2 ^ 32, Nat.xor (Nat.xor (p0 / 2 ^ 32) c3) k1, p0 % 2 ^ 32)

/-- The generator of R61. -/
def philox (seed : Nat) (c : Nat × Nat × Nat × Nat) : Nat × Nat × Nat × Nat :=
  (List.range 10).foldl (fun s i =>
    philoxRound s ((seed + i * 0x9E3779B9) % 2 ^ 32) ((seed / 2 ^ 32 + i * 0xBB67AE85) % 2 ^ 32)) c

/-- The 16-bit random value of the element at byte address `addr` with destination size `size` bytes (R61). -/
def randomOf (seed step stream size addr : Nat) : Nat :=
  let i := addr / size
  let g := i / 8
  let j := i % 8
  let c1 := stream % 16 * 2 ^ 28 + g / 2 ^ 32 % 2 ^ 13
  let (x0, x1, x2, x3) := philox seed (g % 2 ^ 32, c1, step % 2 ^ 32, step / 2 ^ 32 % 2 ^ 32)
  let w := match j / 2 with
    | 0 => x0
    | 1 => x1
    | 2 => x2
    | _ => x3
  w / 2 ^ (16 * (j % 2)) % 2 ^ 16

/-! Products of the array (R49, R50). -/

/-- Sum of exact values, exactly. -/
def FVal.sum (l : List FVal) : FVal := l.foldl FVal.add (.zero false)

/-- FP32 accumulation of addends in order, one rounding each (R49). -/
def fp32Accumulate (acc : W32) (l : List FVal) : W32 := l.foldl (fun a v => toFp32 ((ofFp32 a).add v)) acc

end Sys2Proof
end

