-- ==== Sys2Proof/Config.lean ====
section
/-! DEFINITION. What the spec leaves to an implementation or gives no value for: opaque constants, which no proof can evaluate. -/
namespace Sys2Proof.Machine

/-- A decoded picture: its size, bit depth, colour kind (0 JPEG YCbCr, 1 RGB, 2 grey, 3 video), chroma subsampling as
shifts, the lines and columns that were present, and its planes in row order. -/
structure Picture where
  w : Nat
  h : Nat
  depth : Nat
  kind : Nat
  subX : Nat
  subY : Nat
  /-- the video stream's matrix: kr and kb in 1/10000, and whether the range is full -/
  kr : Nat
  kb : Nat
  fullRange : Bool
  lines : Nat
  planes : List (List Nat)
  /-- the data ran past the headers' size -/
  surplus : Bool
  deriving DecidableEq, Repr, Inhabited

/-- Decoded sound: rate, channels, FP32 samples per channel, and whether data ended early or ran past the headers. -/
structure Sound where
  rate : Nat
  samples : List (List W32)
  declared : Nat
  surplus : Bool
  deriving DecidableEq, Repr, Inhabited

/-- What a decoder reports (R368): an unsupported option, a bitstream error, or its output. -/
inductive Decoded where
  | unsupported
  | error
  | picture (p : Picture)
  | sound (a : Sound)
  deriving DecidableEq, Repr, Inhabited

/-- A decoded video picture and what its headers say: the decoder's next state, the picture, whether it is a random-access
point, a reference, and names a reference that was never decoded (R393, R394). -/
structure VideoOut where
  next : Nat
  out : Decoded
  randomAccess : Bool
  isRef : Bool
  missingRef : Bool
  deriving DecidableEq, Repr, Inhabited

end Sys2Proof.Machine

namespace Sys2Proof.Config
open Sys2Proof.Machine (Decoded VideoOut)

/-- The U24 special-function reference model (R194), which the spec names but does not give: function code and the
FP32 operands to the FP32 result. -/
opaque u24Function : Nat → BitVec 32 → BitVec 32 → BitVec 32

/-- The U24 reference model's row operations (R194): op, the first unmasked
element's index, scale and epsilon, the row's unmasked elements, gamma, beta, to
the FP32 results and the two statistics. -/
opaque u24Row : Nat → Nat → BitVec 32 × BitVec 32 → List (BitVec 32) → List (BitVec 32) → List (BitVec 32) →
  List (BitVec 32) × BitVec 32 × BitVec 32

/-- A fresh free value for each use of the counter `State.freeCount`. -/
opaque freeValue : Nat → Nat

/-- Phierelm's 11-bit JEDEC manufacturer code (R454). -/
opaque jedecCode : Nat

/-- The MCTP versions that Get MCTP Version Support reports (R453), as bytes. -/
opaque mctpVersions : List Byte

/-- The voltage-frequency table fused into a part (R435): die and frequency to a number that the controller's range of
600 to 1,000 mV bounds. -/
opaque dieMillivolts : Nat → Nat → Nat

/-- AES-256-GMAC truncated to its first 64 bits (R322, R353): key, 96-bit nonce, authenticated bytes. The manual names the
algorithm by its standard. -/
opaque gmac : BitVec 256 → BitVec 96 → List Byte → BitVec 64

/-- The SP 800-108r1 counter-mode KDF with AES-256-CMAC (R320, R353): key, label, context. -/
opaque kdf : BitVec 256 → List Byte → List Byte → BitVec 256

/-- The decoders of R370 that other standards define: JPEG (type 1), PNG (2), Ogg Opus (3), FLAC (4). -/
opaque decodeFile : Nat → List Byte → Decoded

/-- What the headers of such a file say before decoding (R367): width and height, or samples and rate. -/
opaque headerSize : Nat → List Byte → Nat × Nat

/-- The output pictures of a video elementary stream (R389): codec and bytes. -/
opaque videoPictures : Nat → List Byte → List VideoOut

/-- Width and height in a video elementary stream's headers. -/
opaque videoSize : Nat → List Byte → Nat × Nat

/-- One live picture (R379, R389): codec, decoder state, RTP payloads in order. -/
opaque liveVideo : Nat → Nat → List (List Byte) → VideoOut

/-- Width and height of a live picture from its headers (R381). -/
opaque liveSize : Nat → Nat → List (List Byte) → Nat × Nat

/-- One live Opus packet: decoder state and payload to the next state and the sound. -/
opaque liveSound : Nat → List Byte → Nat × Decoded

/-- Samples that an Opus packet's TOC gives (R367). -/
opaque opusSamples : List Byte → Nat

/-- Video YCbCr to RGB (R371 step 3): depth, kr, kb in 1/10000, full range, and the three scaled values. The manual gives
no coefficients. -/
opaque videoRgb : Nat × Nat × Nat × Bool → BitVec 32 → BitVec 32 → BitVec 32 → BitVec 32 × BitVec 32 × BitVec 32

/-- Coefficients of the resampler (R372 step 5): up, down, phase, tap. -/
opaque resampleTap : Nat → Nat → Nat → Nat → BitVec 32

/-- Weights of the mel filterbank (R373): Slaney scale; n_fft, rate, n_mels; fmin, fmax; filter; bin. -/
opaque melWeight : Bool → Nat × Nat × Nat → BitVec 32 × BitVec 32 → Nat → Nat → BitVec 32

/-- The encoder (R389, R395 to R400): session block, coder state, key picture, descriptor, input samples, to the
bitstream and the next state. -/
opaque encode : List Byte → Nat → Bool → BitVec 512 → List Byte → List Byte × Nat

/-- The buffer pool of a live stream (R383), which no register names. -/
opaque streamPool : Nat → Nat

/-- The base-2 logarithm of a function's BAR4 size as the host has set it, 34 to 40 (R341). -/
opaque bar4Log2 : Nat → Nat

/-- What the PCIe link trains to (R339): HST_LINK_STATUS with link_up 1. -/
opaque linkStatus : Nat

/-- The records of a configuration image, from the bytes after its header, when the certificate and the signature verify and
every record is known, present at most once and valid (R426, R427). -/
opaque imageRecords : List Byte → Option ImageRecords

/-- The version of a Thimble patch (R427). -/
opaque patchVersion : List Byte → Nat

/-- Whether the provisioning key's signature over header and body verifies (R356): key, block, signature. -/
opaque provisionOk : Nat → List Byte → List Byte → Bool

/-- The command key that a provisioning body wraps for the device with this key pair (R356): device public key, ephemeral
key, wrapped key; none when its integrity check fails. -/
opaque provisionUnwrap : List Byte → List Byte → List Byte → Option (BitVec 256)

/-- AES-256 key unwrap (RFC 3394): wrapping key, wrapped key; none when the integrity check fails. -/
opaque keyUnwrap : BitVec 256 → List Byte → Option (BitVec 256)

/-- SHA-384, and the ECDSA P-384 signature by the device key over such a hash (R456). -/
opaque sha384 : List Byte → BitVec 384
opaque sign : BitVec 384 → BitVec 768

/-- The 256-byte lines of the HBM row that holds an address (R258), which the manual does not map. -/
opaque hbmRow : Nat → List Nat

/-- Whether an immediate scalar opcode extends its 30-bit immediate with its sign (R127), which the manual leaves to the
opcode. -/
opaque immSigned : Nat → Bool

/-- The scalar operations that the manual names by opcode only (R126): opcode, x, y, immediate. -/
opaque scalarOther : Nat → BitVec 64 → BitVec 64 → BitVec 30 → BitVec 64

/-- The address operations that the manual names by opcode only: opcode, the address registers x and y, the scalar register
y, the immediate. -/
opaque addressOther : Nat → BitVec 48 → BitVec 48 → BitVec 64 → BitVec 30 → BitVec 48

/-- Whether a scalar load of this many bytes extends its data with its sign. -/
opaque signedLoad : Nat → Bool

/-- The result of INT32 lane arithmetic outside the INT32 range. -/
opaque int32Overflow : VecOp → BitVec 32 → BitVec 32 → BitVec 32 → BitVec 32

/-- Vector comparisons and the vector operations that the manual does not name: opcode, format, the registers x, y and d,
the immediate, to the result and whether a lane of it is not finite. -/
opaque vectorOther : Nat → LaneFmt → BitVec 8192 → BitVec 8192 → BitVec 8192 → BitVec 30 → BitVec 8192 × Bool

/-- What a conversion leaves in the register above its packed results: how many bits those take, the register's old value,
the block scales (R45, R58), whose place the manual does not give. -/
opaque vectorRest : Nat → BitVec 8192 → List Nat → BitVec 8192

/-- The block scales of an MX operand in a vector register. -/
opaque vectorScales : BitVec 8192 → List Nat

end Sys2Proof.Config
end

