-- ==== Sys2Proof/Machine/RegTable.lean ====
section
/-! DEFINITION. The register map of R28: the offset of every register of the register region, its fields and their
access codes (R9), and the value each field has at reset. Made from the register tables of the chapters; a field whose
reset the spec gives as "from image", "per part", "set at boot", "at boot", "at join", "at training" or "own" stands
at 0 here until the step that sets it (DESIGN CHOICE, log entry 2). Offsets are relative to 0x0180_0000_0000. -/
namespace Sys2Proof

/-- The access codes of R9. -/
inductive Access where
  | rw | ro | wo | w1c | rwl
  deriving DecidableEq, Repr

/-- A field of a register: its lowest bit and its width. -/
structure Fld where
  lo : Nat
  len : Nat
  deriving DecidableEq, Repr

/-- A field row of a register table. -/
structure FieldRow where
  lo : Nat
  len : Nat
  access : Access
  reset : Nat
  deriving DecidableEq, Repr

/-- A register row: base offset, (count, stride) of each index, width in bytes, fields. -/
structure RegRow where
  name : String
  off : Nat
  dims : List (Nat × Nat)
  bytes : Nat
  fields : List FieldRow
  deriving DecidableEq, Repr

namespace R
abbrev GLB_MODULE_ID : Nat := 0x0
abbrev GLB_STATUS : Nat := 0x4
abbrev GLB_POD_ID : Nat := 0x8
abbrev POD_TIME : Nat := 0x10
abbrev POD_STEP : Nat := 0x18
abbrev GLB_SPARE_MAP (d : Nat) : Nat := 0x20 + d * 0x4
abbrev GLB_CORE_ABSENT (d : Nat) : Nat := 0x30 + d * 0x4
abbrev THM_STATUS : Nat := 0x100000
abbrev THM_EVENT : Nat := 0x100008
abbrev THM_EVENT_LOST : Nat := 0x100010
abbrev THM_CERT_LEN : Nat := 0x100014
abbrev THM_DEVKEY (j : Nat) : Nat := 0x100100 + j * 0x8
abbrev THM_CERT (j : Nat) : Nat := 0x101000 + j * 0x8
abbrev PWR_BOOT_STATUS : Nat := 0x200000
abbrev PWR_BOOT_CAUSE : Nat := 0x200004
abbrev PWR_BOOT_ELAPSED : Nat := 0x200008
abbrev PWR_IMAGE_A : Nat := 0x200010
abbrev PWR_IMAGE_B : Nat := 0x200018
abbrev PWR_CAP : Nat := 0x200020
abbrev PWR_THERM_CFG : Nat := 0x200024
abbrev PWR_INPUT_STATUS : Nat := 0x200028
abbrev PWR_INPUT_V : Nat := 0x20002C
abbrev PWR_POWER : Nat := 0x200030
abbrev PWR_TRANSFERS : Nat := 0x200034
abbrev PWR_THROTTLE_EVENTS : Nat := 0x200038
abbrev PWR_PEAK_EVENTS : Nat := 0x20003C
abbrev PWR_RESET : Nat := 0x200040
abbrev PWR_DIE_REQ (d : Nat) : Nat := 0x200100 + d * 0x10
abbrev PWR_DIE_STATUS (d : Nat) : Nat := 0x200104 + d * 0x10
abbrev HST_LINK_STATUS : Nat := 0x400000
abbrev HST_BAR4_WINDOW : Nat := 0x400008
abbrev HST_BOOT_NONCE_LO : Nat := 0x400010
abbrev HST_BOOT_NONCE_HI : Nat := 0x400018
abbrev HST_AUTH_FAILS : Nat := 0x400020
abbrev HST_REPLAYS : Nat := 0x400024
abbrev HST_DIRECT_CRIT : Nat := 0x400028
abbrev HST_REMOTE_ERRORS : Nat := 0x40002C
abbrev HST_TUNNEL_TIMEOUT : Nat := 0x400030
abbrev HST_POD_STATE : Nat := 0x400040
abbrev HST_POD_MEMBERS : Nat := 0x400048
abbrev HST_POD_HELD : Nat := 0x400050
abbrev HST_POD_FENCED : Nat := 0x400058
abbrev HST_POD_SNAP : Nat := 0x400060
abbrev HST_SNAP_STEP : Nat := 0x400068
abbrev HST_SNAP_TIME : Nat := 0x400070
abbrev HST_SNAP_MEMBERS : Nat := 0x400078
abbrev HST_SNAP_HELD : Nat := 0x400080
abbrev HST_SNAP_FENCED : Nat := 0x400088
abbrev HST_SNAP_STATE : Nat := 0x400090
abbrev HST_MEMBER_NONCE_LO (n : Nat) : Nat := 0x404000 + n * 0x10
abbrev HST_MEMBER_NONCE_HI (n : Nat) : Nat := 0x404008 + n * 0x10
abbrev HST_PQ_BASE (q : Nat) : Nat := 0x408000 + q * 0x40
abbrev HST_PQ_CPL_BASE (q : Nat) : Nat := 0x408008 + q * 0x40
abbrev HST_PQ_CFG (q : Nat) : Nat := 0x408010 + q * 0x40
abbrev HST_PQ_TAIL (q : Nat) : Nat := 0x408014 + q * 0x40
abbrev HST_PQ_HEAD (q : Nat) : Nat := 0x408018 + q * 0x40
abbrev HST_PQ_STATUS (q : Nat) : Nat := 0x40801C + q * 0x40
abbrev HST_PQ_CPL_TAIL (q : Nat) : Nat := 0x408020 + q * 0x40
abbrev HST_Q_BASE (k q : Nat) : Nat := 0x410000 + k * 0x1000 + q * 0x40
abbrev HST_Q_CPL_BASE (k q : Nat) : Nat := 0x410008 + k * 0x1000 + q * 0x40
abbrev HST_Q_CFG (k q : Nat) : Nat := 0x410010 + k * 0x1000 + q * 0x40
abbrev HST_Q_TAIL (k q : Nat) : Nat := 0x410014 + k * 0x1000 + q * 0x40
abbrev HST_Q_HEAD (k q : Nat) : Nat := 0x410018 + k * 0x1000 + q * 0x40
abbrev HST_Q_STATUS (k q : Nat) : Nat := 0x41001C + k * 0x1000 + q * 0x40
abbrev HST_Q_CPL_TAIL (k q : Nat) : Nat := 0x410020 + k * 0x1000 + q * 0x40
abbrev HST_VF_BAR4_WINDOW (k : Nat) : Nat := 0x480000 + k * 0x8
abbrev SCH_INST_STATE (i : Nat) : Nat := 0x600000 + i * 0x40
abbrev SCH_INST_CORES (i : Nat) : Nat := 0x600004 + i * 0x40
abbrev SCH_INST_MEM (i : Nat) : Nat := 0x600008 + i * 0x40
abbrev SCH_INST_RANGES (i : Nat) : Nat := 0x60000C + i * 0x40
abbrev SCH_INST_WEIGHTS (i : Nat) : Nat := 0x600010 + i * 0x40
abbrev SCH_INST_DISPATCHED (i : Nat) : Nat := 0x600018 + i * 0x40
abbrev SCH_INST_AFF_HITS (i : Nat) : Nat := 0x600020 + i * 0x40
abbrev SCH_WATCHDOG : Nat := 0x600400
abbrev SCH_POOL_TIMEOUT : Nat := 0x600404
abbrev SCH_TIMEOUTS : Nat := 0x600408
abbrev SCH_ABANDONED : Nat := 0x60040C
abbrev SCH_FIREWALL_DENIED : Nat := 0x600410
abbrev SCH_STALE_WRITES : Nat := 0x600414
abbrev SCH_CORE (c : Nat) : Nat := 0x601000 + c * 0x8
abbrev SCH_SEM (n : Nat) : Nat := 0x700000 + n * 0x8
abbrev SCH_BOB_VALUE (n : Nat) : Nat := 0x780000 + n * 0x10
abbrev SCH_BOB_LIMIT (n : Nat) : Nat := 0x780004 + n * 0x10
abbrev SCH_BOB_STATUS (n : Nat) : Nat := 0x780008 + n * 0x10
abbrev SCH_POOL_CFG (p : Nat) : Nat := 0x7C0000 + p * 0x40
abbrev SCH_POOL_BASE (p : Nat) : Nat := 0x7C0008 + p * 0x40
abbrev SCH_POOL_SLOT (p : Nat) : Nat := 0x7C0010 + p * 0x40
abbrev SCH_POOL_TAKE (p : Nat) : Nat := 0x7C0018 + p * 0x40
abbrev SCH_POOL_RETURN (p : Nat) : Nat := 0x7C0020 + p * 0x40
abbrev SCH_POOL_STATUS (p : Nat) : Nat := 0x7C0028 + p * 0x40
abbrev SCH_POOL_EMPTY_COUNT (p : Nat) : Nat := 0x7C002C + p * 0x40
abbrev SCH_POOL_BAD_RETURNS (p : Nat) : Nat := 0x7C0030 + p * 0x40
abbrev MEM_OVC_GRANULE (k : Nat) : Nat := 0x800000 + k * 0x4
abbrev MEM_OVC_QUOTA (q i : Nat) : Nat := 0x800200 + q * 0x20 + i * 0x4
abbrev MEM_OVC_HELD (q i : Nat) : Nat := 0x800280 + q * 0x20 + i * 0x4
abbrev MEM_LATE_TIMEOUT : Nat := 0x800400
abbrev MEM_LTF_STEP : Nat := 0x800404
abbrev MEM_LTF_COUNT : Nat := 0x800408
abbrev MEM_LATE_DISCARDS : Nat := 0x80040C
abbrev MEM_OVC_STATUS (q : Nat) : Nat := 0x801000 + q * 0x100
abbrev MEM_OVC_HITS (q : Nat) : Nat := 0x801008 + q * 0x100
abbrev MEM_OVC_MISSES (q : Nat) : Nat := 0x801010 + q * 0x100
abbrev MEM_OVC_WRITEBACKS (q : Nat) : Nat := 0x801018 + q * 0x100
abbrev MEM_OVC_DIRTY (q : Nat) : Nat := 0x801020 + q * 0x100
abbrev MEM_OVC_POISONED (q : Nat) : Nat := 0x801024 + q * 0x100
abbrev MEM_HBM_STATUS (n : Nat) : Nat := 0x802000 + n * 0x100
abbrev MEM_HBM_CE (n : Nat) : Nat := 0x802004 + n * 0x100
abbrev MEM_HBM_UE (n : Nat) : Nat := 0x802008 + n * 0x100
abbrev MEM_HBM_LATE (n : Nat) : Nat := 0x80200C + n * 0x100
abbrev MEM_HBM_ERR_ADDR (n : Nat) : Nat := 0x802010 + n * 0x100
abbrev MEM_HBM_ADDS (n : Nat) : Nat := 0x802018 + n * 0x100
abbrev MEM_DT_STATUS (p : Nat) : Nat := 0x803000 + p * 0x100
abbrev MEM_DT_CE (p : Nat) : Nat := 0x803004 + p * 0x100
abbrev MEM_DT_UE (p : Nat) : Nat := 0x803008 + p * 0x100
abbrev MEM_DT_LATE (p : Nat) : Nat := 0x80300C + p * 0x100
abbrev MEM_DT_ERR_ADDR (p : Nat) : Nat := 0x803010 + p * 0x100
abbrev MEM_UPD_STATUS (d : Nat) : Nat := 0x808000 + d * 0x100
abbrev MEM_UPD_FLAGS (d : Nat) : Nat := 0x808004 + d * 0x100
abbrev MEM_UPD_ELEMENTS (d : Nat) : Nat := 0x808008 + d * 0x100
abbrev MEM_UPD_SKIPPED (d : Nat) : Nat := 0x808010 + d * 0x100
abbrev MEM_UPD_WIN_BASE (i j : Nat) : Nat := 0x809000 + i * 0x100 + j * 0x10
abbrev MEM_UPD_WIN_LIMIT (i j : Nat) : Nat := 0x809008 + i * 0x100 + j * 0x10
abbrev KV_SPACE_CFG (n : Nat) : Nat := 0xA00000 + n * 0x100
abbrev KV_SPACE_OWNER (n : Nat) : Nat := 0xA00004 + n * 0x100
abbrev KV_SPACE_LIMITS (n : Nat) : Nat := 0xA00008 + n * 0x100
abbrev KV_POOL_FRAMES (n : Nat) : Nat := 0xA0000C + n * 0x100
abbrev KV_L1_BASE (n : Nat) : Nat := 0xA00010 + n * 0x100
abbrev KV_L2_BASE (n : Nat) : Nat := 0xA00018 + n * 0x100
abbrev KV_POOL_BASE (n : Nat) : Nat := 0xA00020 + n * 0x100
abbrev KV_TREE_BASE (n : Nat) : Nat := 0xA00028 + n * 0x100
abbrev KV_TOKEN_BASE (n : Nat) : Nat := 0xA00030 + n * 0x100
abbrev KV_FRAMES_FREE (n : Nat) : Nat := 0xA00038 + n * 0x100
abbrev KV_FRAMES_EVICTABLE (n : Nat) : Nat := 0xA0003C + n * 0x100
abbrev KV_FRAMES_RESERVED (n : Nat) : Nat := 0xA00040 + n * 0x100
abbrev KV_OPEN_SEQS (n : Nat) : Nat := 0xA00044 + n * 0x100
abbrev KV_FULL_COUNT (n : Nat) : Nat := 0xA00048 + n * 0x100
abbrev KV_PREFIX_HITS (n : Nat) : Nat := 0xA00050 + n * 0x100
abbrev KV_EVICTIONS (n : Nat) : Nat := 0xA00058 + n * 0x100
abbrev KV_COW_COPIES (n : Nat) : Nat := 0xA00060 + n * 0x100
abbrev KV_HASH_MISMATCH (n : Nat) : Nat := 0xA00064 + n * 0x100
abbrev KV_WLK_HITS (d : Nat) : Nat := 0xA01000 + d * 0x100
abbrev KV_WLK_MISSES (d : Nat) : Nat := 0xA01008 + d * 0x100
abbrev SEAM_ENG_STATUS (d : Nat) : Nat := 0xC00000 + d * 0x100
abbrev SEAM_ENG_FLAGS (d : Nat) : Nat := 0xC00004 + d * 0x100
abbrev SEAM_ENG_BYTES (d : Nat) : Nat := 0xC00008 + d * 0x100
abbrev SEAM_ENG_ITEMS (d : Nat) : Nat := 0xC00010 + d * 0x100
abbrev SEAM_ENG_ABORTS (d : Nat) : Nat := 0xC00018 + d * 0x100
abbrev SEAM_ENG_INT_WRAPS (d : Nat) : Nat := 0xC0001C + d * 0x100
abbrev SEAM_GRP_BASE (i g : Nat) : Nat := 0xC04000 + i * 0x200 + g * 0x10
abbrev SEAM_GRP_CALL (i g : Nat) : Nat := 0xC04008 + i * 0x200 + g * 0x10
abbrev SEAM_PEER_TIMEOUT (i : Nat) : Nat := 0xC04100 + i * 0x200
abbrev SEAM_VOTE_CFG (i : Nat) : Nat := 0xC08000 + i * 0x100
abbrev SEAM_VOTE_TREE (i : Nat) : Nat := 0xC08004 + i * 0x100
abbrev SEAM_VOTE_CHILDREN (i : Nat) : Nat := 0xC08008 + i * 0x100
abbrev SEAM_VOTE_MEMBERS (i : Nat) : Nat := 0xC08010 + i * 0x100
abbrev SEAM_VOTE_PODS_LO (i : Nat) : Nat := 0xC08018 + i * 0x100
abbrev SEAM_VOTE_PODS_HI (i : Nat) : Nat := 0xC08020 + i * 0x100
abbrev SEAM_NORM_BOUND (i : Nat) : Nat := 0xC08028 + i * 0x100
abbrev SEAM_QUERY_AFTER (i : Nat) : Nat := 0xC0802C + i * 0x100
abbrev SEAM_STEP_COMMITTED (i : Nat) : Nat := 0xC08030 + i * 0x100
abbrev SEAM_STEP_DECIDED (i : Nat) : Nat := 0xC08038 + i * 0x100
abbrev SEAM_VOTE_STATUS (i : Nat) : Nat := 0xC08040 + i * 0x100
abbrev SEAM_LAST_CAUSES (i : Nat) : Nat := 0xC08048 + i * 0x100
abbrev SEAM_GNS_SUMS (i : Nat) : Nat := 0xC08050 + i * 0x100
abbrev SEAM_GNS_STEP (i : Nat) : Nat := 0xC08058 + i * 0x100
abbrev SEAM_COMMITS (i : Nat) : Nat := 0xC08060 + i * 0x100
abbrev SEAM_SKIPS (i : Nat) : Nat := 0xC08068 + i * 0x100
abbrev SEAM_LATE_VOTES (i : Nat) : Nat := 0xC08070 + i * 0x100
abbrev SEAM_DROPPED_RECORDS (i : Nat) : Nat := 0xC08074 + i * 0x100
abbrev SEAM_QUERIES (i : Nat) : Nat := 0xC08078 + i * 0x100
abbrev SEAM_APPLY_DEADLINE (i : Nat) : Nat := 0xC0807C + i * 0x100
abbrev FAB_UDP_PORT : Nat := 0xE00000
abbrev FAB_ACK_CFG : Nat := 0xE00004
abbrev FAB_RC_CFG : Nat := 0xE00008
abbrev FAB_PTP_CFG : Nat := 0xE0000C
abbrev FAB_PTP_STATUS : Nat := 0xE00010
abbrev FAB_PTP_OFFSET : Nat := 0xE00018
abbrev FAB_TXN_INUSE (d : Nat) : Nat := 0xE00020 + d * 0x4
abbrev FAB_SESS_INDEX : Nat := 0xE00030
abbrev FAB_SESS_STATUS : Nat := 0xE00034
abbrev FAB_SESS_RATE : Nat := 0xE00038
abbrev FAB_SESS_TX_PKTS : Nat := 0xE00040
abbrev FAB_SESS_RETX : Nat := 0xE00048
abbrev FAB_SESS_ACK_DEADLINE : Nat := 0xE0004C
abbrev FAB_PORT_CFG (p : Nat) : Nat := 0xE01000 + p * 0x40
abbrev FAB_PORT_STATUS (p : Nat) : Nat := 0xE01004 + p * 0x40
abbrev FAB_PORT_FEC_CORR (p : Nat) : Nat := 0xE01008 + p * 0x40
abbrev FAB_PORT_FEC_UNCORR (p : Nat) : Nat := 0xE01010 + p * 0x40
abbrev FAB_LP_CFG (n : Nat) : Nat := 0xE02000 + n * 0x40
abbrev FAB_LP_ACK_DEADLINE (n : Nat) : Nat := 0xE02004 + n * 0x40
abbrev FAB_LP_TX_BYTES (n : Nat) : Nat := 0xE02008 + n * 0x40
abbrev FAB_LP_RX_BYTES (n : Nat) : Nat := 0xE02010 + n * 0x40
abbrev FAB_LP_STRANGER_DROP (n : Nat) : Nat := 0xE02018 + n * 0x40
abbrev FAB_LP_AUTH_DROP (n : Nat) : Nat := 0xE02020 + n * 0x40
abbrev FAB_LP_RX_ERRORS (n : Nat) : Nat := 0xE02024 + n * 0x40
abbrev FAB_LP_RX_OVERRUN (n : Nat) : Nat := 0xE02028 + n * 0x40
abbrev FAB_LP_ECN_CE (n : Nat) : Nat := 0xE0202C + n * 0x40
abbrev FAB_LP_ADDR (n w : Nat) : Nat := 0xE02030 + n * 0x40 + w * 0x4
abbrev FAB_ROUTE (i d : Nat) : Nat := 0xE04000 + i * 0x100 + d * 0x4
abbrev FAB_LP_DUPLICATES (n : Nat) : Nat := 0xE05000 + n * 0x8
abbrev FAB_LP_STALE (n : Nat) : Nat := 0xE05004 + n * 0x8
abbrev ING_LIM_IMAGE : Nat := 0x1000000
abbrev ING_LIM_RECORD : Nat := 0x1000004
abbrev ING_LIM_AUDIO : Nat := 0x1000008
abbrev ING_STATUS : Nat := 0x100000C
abbrev ING_RING_BASE (i : Nat) : Nat := 0x1001000 + i * 0x80
abbrev ING_RING_CPL_BASE (i : Nat) : Nat := 0x1001008 + i * 0x80
abbrev ING_RING_CFG (i : Nat) : Nat := 0x1001010 + i * 0x80
abbrev ING_RING_TAIL (i : Nat) : Nat := 0x1001014 + i * 0x80
abbrev ING_RING_HEAD (i : Nat) : Nat := 0x1001018 + i * 0x80
abbrev ING_RING_STATUS (i : Nat) : Nat := 0x100101C + i * 0x80
abbrev ING_CNT_SAMPLES (i : Nat) : Nat := 0x1001020 + i * 0x80
abbrev ING_CNT_TRUNC (i : Nat) : Nat := 0x1001028 + i * 0x80
abbrev ING_CNT_PADDED (i : Nat) : Nat := 0x100102C + i * 0x80
abbrev ING_CNT_SUBST (i : Nat) : Nat := 0x1001030 + i * 0x80
abbrev ING_CNT_REJECT (i : Nat) : Nat := 0x1001034 + i * 0x80
abbrev ING_RESYNC_BYTES (i : Nat) : Nat := 0x1001038 + i * 0x80
abbrev ING_RESYNC_EVENTS (i : Nat) : Nat := 0x1001040 + i * 0x80
abbrev ING_STRM_CFG (s : Nat) : Nat := 0x1004000 + s * 0x100
abbrev ING_STRM_LIVE (s : Nat) : Nat := 0x1004004 + s * 0x100
abbrev ING_STRM_SEQ (s : Nat) : Nat := 0x1004008 + s * 0x100
abbrev ING_STRM_SET_ADDR (s : Nat) : Nat := 0x1004010 + s * 0x100
abbrev ING_STRM_SET_TARGET (s : Nat) : Nat := 0x1004018 + s * 0x100
abbrev ING_STRM_STATUS (s : Nat) : Nat := 0x1004020 + s * 0x100
abbrev ING_STRM_SSRC (s : Nat) : Nat := 0x1004024 + s * 0x100
abbrev ING_STRM_REC_BASE (s : Nat) : Nat := 0x1004028 + s * 0x100
abbrev ING_STRM_STAT_BASE (s : Nat) : Nat := 0x1004030 + s * 0x100
abbrev ING_STRM_ROI (s : Nat) : Nat := 0x1004038 + s * 0x100
abbrev ING_STRM_FRAMES (s : Nat) : Nat := 0x1004040 + s * 0x100
abbrev ING_STRM_LIVE_LATE (s : Nat) : Nat := 0x1004048 + s * 0x100
abbrev ING_STRM_NOSLOT (s : Nat) : Nat := 0x100404C + s * 0x100
abbrev ING_STRM_FOREIGN (s : Nat) : Nat := 0x1004050 + s * 0x100
abbrev CDC_ENG_STATUS (e : Nat) : Nat := 0x1200000 + e * 0x40
abbrev CDC_ENG_LIVE_RES (e : Nat) : Nat := 0x1200004 + e * 0x40
abbrev CDC_ENG_OVER_RES (e : Nat) : Nat := 0x1200008 + e * 0x40
abbrev CDC_ENG_PIXELS (e : Nat) : Nat := 0x1200010 + e * 0x40
abbrev CDC_DEC_CFG (s : Nat) : Nat := 0x1201000 + s * 0x10
abbrev CDC_DEC_CONCEALED (s : Nat) : Nat := 0x1201004 + s * 0x10
abbrev CDC_RING_BASE (i : Nat) : Nat := 0x1202000 + i * 0x80
abbrev CDC_RING_CPL_BASE (i : Nat) : Nat := 0x1202008 + i * 0x80
abbrev CDC_RING_CFG (i : Nat) : Nat := 0x1202010 + i * 0x80
abbrev CDC_RING_TAIL (i : Nat) : Nat := 0x1202014 + i * 0x80
abbrev CDC_RING_HEAD (i : Nat) : Nat := 0x1202018 + i * 0x80
abbrev CDC_RING_STATUS (i : Nat) : Nat := 0x120201C + i * 0x80
abbrev CDC_ENC_CFG (t : Nat) : Nat := 0x1204000 + t * 0x80
abbrev CDC_ENC_SESSION (t : Nat) : Nat := 0x1204008 + t * 0x80
abbrev CDC_ENC_KEY (t : Nat) : Nat := 0x1204010 + t * 0x80
abbrev CDC_ENC_STATUS (t : Nat) : Nat := 0x1204014 + t * 0x80
abbrev CDC_ENC_OUT_READ (t : Nat) : Nat := 0x1204018 + t * 0x80
abbrev CDC_ENC_PICTURES (t : Nat) : Nat := 0x1204020 + t * 0x80
abbrev CDC_ENC_LIVE_LATE (t : Nat) : Nat := 0x1204028 + t * 0x80
abbrev CDC_ENC_KEYS (t : Nat) : Nat := 0x120402C + t * 0x80
abbrev RAS_STATUS : Nat := 0x1400000
abbrev RAS_MAINT : Nat := 0x1400004
abbrev RAS_SCRUB_CFG : Nat := 0x1400008
abbrev RAS_LOG_CFG : Nat := 0x140000C
abbrev RAS_LOG_HEAD (c : Nat) : Nat := 0x1400010 + c * 0x4
abbrev RAS_LOG_WIN_SEL : Nat := 0x1400024
/-- of class `c` = 2, 3 or 4 -/
abbrev RAS_LOG_DROPS (c : Nat) : Nat := 0x1400028 + (c - 2) * 0x4
abbrev RAS_LOG_COALESCED : Nat := 0x1400034
abbrev RAS_SNAP_COUNT : Nat := 0x1400038
abbrev RAS_SRAM_CE (d : Nat) : Nat := 0x1400040 + d * 0x8
abbrev RAS_SRAM_UE (d : Nat) : Nat := 0x1400044 + d * 0x8
abbrev RAS_RETIRED (j : Nat) : Nat := 0x1400080 + j * 0x8
abbrev RAS_SMB_CFG : Nat := 0x1400090
abbrev RAS_SMB_ARB_LOST : Nat := 0x1400094
abbrev RAS_SMB_DROPS : Nat := 0x1400098
abbrev RAS_TEST_REFUSED : Nat := 0x140009C
abbrev RAS_ALARM_CFG (n : Nat) : Nat := 0x1400100 + n * 0x10
abbrev RAS_ALARM_THRESH (n : Nat) : Nat := 0x1400104 + n * 0x10
abbrev RAS_ALARM_COUNT (n : Nat) : Nat := 0x1400108 + n * 0x10
abbrev RAS_ALARM_STATUS : Nat := 0x1400200
abbrev CORE_SEQ_CTRL (c : Nat) : Nat := 0x2000000 + c * 0x10000
abbrev CORE_SEQ_STATUS (c : Nat) : Nat := 0x2000004 + c * 0x10000
abbrev CORE_SEQ_PC (c : Nat) : Nat := 0x2000008 + c * 0x10000
abbrev CORE_SEQ_FAULT (c : Nat) : Nat := 0x2000010 + c * 0x10000
abbrev CORE_SEQ_FAULT_PC (c : Nat) : Nat := 0x2000018 + c * 0x10000
abbrev CORE_SEQ_FAULT_ADDR (c : Nat) : Nat := 0x2000020 + c * 0x10000
abbrev CORE_SEQ_BUNDLES (c : Nat) : Nat := 0x2000028 + c * 0x10000
abbrev CORE_SEQ_STALLS (c : Nat) : Nat := 0x2000030 + c * 0x10000
abbrev CORE_SEQ_IREG (c n : Nat) : Nat := 0x2000040 + c * 0x10000 + n * 0x8
abbrev CORE_SEQ_ICACHE_MISSES (c : Nat) : Nat := 0x2000060 + c * 0x10000
abbrev CORE_FP_FLAGS (c : Nat) : Nat := 0x2000100 + c * 0x10000
abbrev CORE_FP_CTRL (c : Nat) : Nat := 0x2000104 + c * 0x10000
abbrev CORE_RNG_SEED (c : Nat) : Nat := 0x2000108 + c * 0x10000
abbrev CORE_RNG_STEP (c : Nat) : Nat := 0x2000110 + c * 0x10000
abbrev CORE_SAT_COUNT (c : Nat) : Nat := 0x2000118 + c * 0x10000
abbrev CORE_ARR_CTRL (c : Nat) : Nat := 0x2002000 + c * 0x10000
abbrev CORE_ARR_STATUS (c : Nat) : Nat := 0x2002004 + c * 0x10000
abbrev CORE_SLV_MISMATCHES (c : Nat) : Nat := 0x2002008 + c * 0x10000
abbrev CORE_SLV_SKIPPED (c : Nat) : Nat := 0x200200C + c * 0x10000
abbrev CORE_SLV_LAST (c : Nat) : Nat := 0x2002010 + c * 0x10000
abbrev CORE_SLV_LAST_VALUES (c : Nat) : Nat := 0x2002018 + c * 0x10000
abbrev CORE_ARR_PASSES (c : Nat) : Nat := 0x2002020 + c * 0x10000
abbrev CORE_ARR_IDLE (c : Nat) : Nat := 0x2002028 + c * 0x10000
abbrev CORE_ARR_GATED (c : Nat) : Nat := 0x2002030 + c * 0x10000
abbrev CORE_SKIP_ZERO_ROWS (c : Nat) : Nat := 0x2002040 + c * 0x10000
abbrev CORE_SKIP_MASK_ROWS (c : Nat) : Nat := 0x2002048 + c * 0x10000
abbrev CORE_SKIP_BLOCKS (c : Nat) : Nat := 0x2002050 + c * 0x10000
abbrev CORE_EXP_OVERFLOW (c : Nat) : Nat := 0x2002058 + c * 0x10000
abbrev CORE_ZSKIP_SUPPRESSED (c : Nat) : Nat := 0x200205C + c * 0x10000
abbrev CORE_STG_REGION (c : Nat) : Nat := 0x2002060 + c * 0x10000
abbrev CORE_STG_BYTES (c : Nat) : Nat := 0x2002068 + c * 0x10000
abbrev CORE_SFU_CTRL (c : Nat) : Nat := 0x2004000 + c * 0x10000
abbrev CORE_SFU_STATUS (c : Nat) : Nat := 0x2004004 + c * 0x10000
abbrev CORE_SFU_ROWS (c : Nat) : Nat := 0x2004008 + c * 0x10000
abbrev CORE_SFU_STALLS (c : Nat) : Nat := 0x2004010 + c * 0x10000
abbrev CORE_SFU_MASKED_ROWS (c : Nat) : Nat := 0x2004018 + c * 0x10000
abbrev CORE_CWU_STATUS (c : Nat) : Nat := 0x2006000 + c * 0x10000
abbrev CORE_CWU_LAST_BYTES (c : Nat) : Nat := 0x2006004 + c * 0x10000
abbrev CORE_CWU_LINE_BYTES (c : Nat) : Nat := 0x2006008 + c * 0x10000
abbrev CORE_CWU_FILL_STALLS (c : Nat) : Nat := 0x2006010 + c * 0x10000
abbrev CORE_CWU_OUTPUTS (c : Nat) : Nat := 0x2006018 + c * 0x10000
abbrev CORE_DMA_STATUS (c : Nat) : Nat := 0x2008000 + c * 0x10000
abbrev CORE_DMA_BYTES (c : Nat) : Nat := 0x2008008 + c * 0x10000
abbrev CORE_DMA_ITEMS (c : Nat) : Nat := 0x2008010 + c * 0x10000
end R

namespace F
abbrev GLB_MODULE_ID_variant : Fld := ⟨0, 8⟩
abbrev GLB_MODULE_ID_member : Fld := ⟨8, 8⟩
abbrev GLB_MODULE_ID_stepping : Fld := ⟨16, 8⟩
abbrev GLB_STATUS_state : Fld := ⟨0, 4⟩
abbrev GLB_STATUS_cfg_locked : Fld := ⟨4, 1⟩
abbrev GLB_STATUS_image_b : Fld := ⟨5, 1⟩
abbrev GLB_STATUS_on_input_b : Fld := ⟨6, 1⟩
abbrev GLB_STATUS_throttled : Fld := ⟨7, 1⟩
abbrev GLB_STATUS_die_ok : Fld := ⟨8, 4⟩
abbrev GLB_STATUS_active_cores : Fld := ⟨12, 8⟩
abbrev GLB_POD_ID_pod_device : Fld := ⟨0, 6⟩
abbrev GLB_POD_ID_gate : Fld := ⟨6, 1⟩
abbrev GLB_POD_ID_pod_number : Fld := ⟨8, 7⟩
abbrev POD_TIME_time : Fld := ⟨0, 64⟩
abbrev POD_STEP_step : Fld := ⟨0, 64⟩
abbrev GLB_SPARE_MAP_excluded_lo : Fld := ⟨0, 6⟩
abbrev GLB_SPARE_MAP_excluded_hi : Fld := ⟨8, 6⟩
abbrev GLB_CORE_ABSENT_absent : Fld := ⟨0, 32⟩
abbrev THM_STATUS_fw_ready : Fld := ⟨0, 1⟩
abbrev THM_STATUS_patch_loaded : Fld := ⟨1, 1⟩
abbrev THM_STATUS_event_pending : Fld := ⟨2, 1⟩
abbrev THM_STATUS_patch_version : Fld := ⟨8, 8⟩
abbrev THM_EVENT_valid : Fld := ⟨0, 1⟩
abbrev THM_EVENT_type : Fld := ⟨1, 3⟩
abbrev THM_EVENT_function : Fld := ⟨4, 4⟩
abbrev THM_EVENT_device : Fld := ⟨8, 6⟩
abbrev THM_EVENT_time : Fld := ⟨16, 48⟩
abbrev THM_EVENT_LOST_count : Fld := ⟨0, 32⟩
abbrev THM_CERT_LEN_bytes : Fld := ⟨0, 13⟩
abbrev THM_DEVKEY_key : Fld := ⟨0, 64⟩
abbrev THM_CERT_cert : Fld := ⟨0, 64⟩
abbrev PWR_BOOT_STATUS_step : Fld := ⟨0, 4⟩
abbrev PWR_BOOT_STATUS_fail_code : Fld := ⟨4, 8⟩
abbrev PWR_BOOT_STATUS_image_b : Fld := ⟨12, 1⟩
abbrev PWR_BOOT_CAUSE_cause : Fld := ⟨0, 3⟩
abbrev PWR_BOOT_ELAPSED_ms : Fld := ⟨0, 32⟩
abbrev PWR_IMAGE_A_sequence : Fld := ⟨0, 32⟩
abbrev PWR_IMAGE_A_svn : Fld := ⟨32, 16⟩
abbrev PWR_IMAGE_A_valid : Fld := ⟨48, 1⟩
abbrev PWR_IMAGE_A_running : Fld := ⟨49, 1⟩
abbrev PWR_IMAGE_A_programming : Fld := ⟨50, 1⟩
abbrev PWR_IMAGE_A_progress : Fld := ⟨51, 7⟩
abbrev PWR_IMAGE_B_sequence : Fld := ⟨0, 32⟩
abbrev PWR_IMAGE_B_svn : Fld := ⟨32, 16⟩
abbrev PWR_IMAGE_B_valid : Fld := ⟨48, 1⟩
abbrev PWR_IMAGE_B_running : Fld := ⟨49, 1⟩
abbrev PWR_IMAGE_B_programming : Fld := ⟨50, 1⟩
abbrev PWR_IMAGE_B_progress : Fld := ⟨51, 7⟩
abbrev PWR_CAP_tdp_w : Fld := ⟨0, 16⟩
abbrev PWR_CAP_backup_w : Fld := ⟨16, 16⟩
abbrev PWR_THERM_CFG_throttle_c : Fld := ⟨0, 8⟩
abbrev PWR_THERM_CFG_shutdown_c : Fld := ⟨8, 8⟩
abbrev PWR_INPUT_STATUS_a_good : Fld := ⟨0, 1⟩
abbrev PWR_INPUT_STATUS_b_good : Fld := ⟨1, 1⟩
abbrev PWR_INPUT_STATUS_on_b : Fld := ⟨2, 1⟩
abbrev PWR_INPUT_STATUS_timer : Fld := ⟨3, 1⟩
abbrev PWR_INPUT_V_a_cv : Fld := ⟨0, 16⟩
abbrev PWR_INPUT_V_b_cv : Fld := ⟨16, 16⟩
abbrev PWR_POWER_sample_w : Fld := ⟨0, 16⟩
abbrev PWR_POWER_mean_w : Fld := ⟨16, 16⟩
abbrev PWR_TRANSFERS_count : Fld := ⟨0, 32⟩
abbrev PWR_THROTTLE_EVENTS_count : Fld := ⟨0, 32⟩
abbrev PWR_PEAK_EVENTS_count : Fld := ⟨0, 32⟩
abbrev PWR_RESET_reset : Fld := ⟨0, 1⟩
abbrev PWR_DIE_REQ_req_mhz : Fld := ⟨0, 12⟩
abbrev PWR_DIE_STATUS_mhz : Fld := ⟨0, 12⟩
abbrev PWR_DIE_STATUS_mv : Fld := ⟨12, 12⟩
abbrev PWR_DIE_STATUS_temp_c : Fld := ⟨24, 7⟩
abbrev PWR_DIE_STATUS_limited : Fld := ⟨31, 1⟩
abbrev HST_LINK_STATUS_rate : Fld := ⟨0, 2⟩
abbrev HST_LINK_STATUS_width : Fld := ⟨2, 5⟩
abbrev HST_LINK_STATUS_flit : Fld := ⟨7, 1⟩
abbrev HST_LINK_STATUS_link_up : Fld := ⟨8, 1⟩
abbrev HST_BAR4_WINDOW_base : Fld := ⟨0, 48⟩
abbrev HST_BAR4_WINDOW_device : Fld := ⟨48, 6⟩
abbrev HST_BOOT_NONCE_LO_nonce : Fld := ⟨0, 64⟩
abbrev HST_BOOT_NONCE_HI_nonce : Fld := ⟨0, 64⟩
abbrev HST_AUTH_FAILS_count : Fld := ⟨0, 32⟩
abbrev HST_REPLAYS_count : Fld := ⟨0, 32⟩
abbrev HST_DIRECT_CRIT_count : Fld := ⟨0, 32⟩
abbrev HST_REMOTE_ERRORS_count : Fld := ⟨0, 32⟩
abbrev HST_TUNNEL_TIMEOUT_ms : Fld := ⟨0, 16⟩
abbrev HST_POD_STATE_state : Fld := ⟨0, 4⟩
abbrev HST_POD_STATE_members : Fld := ⟨4, 7⟩
abbrev HST_POD_MEMBERS_mask : Fld := ⟨0, 64⟩
abbrev HST_POD_HELD_mask : Fld := ⟨0, 64⟩
abbrev HST_POD_FENCED_mask : Fld := ⟨0, 64⟩
abbrev HST_POD_SNAP_snap : Fld := ⟨0, 1⟩
abbrev HST_SNAP_STEP_value : Fld := ⟨0, 64⟩
abbrev HST_SNAP_TIME_value : Fld := ⟨0, 64⟩
abbrev HST_SNAP_MEMBERS_mask : Fld := ⟨0, 64⟩
abbrev HST_SNAP_HELD_mask : Fld := ⟨0, 64⟩
abbrev HST_SNAP_FENCED_mask : Fld := ⟨0, 64⟩
abbrev HST_SNAP_STATE_state : Fld := ⟨0, 4⟩
abbrev HST_SNAP_STATE_members : Fld := ⟨4, 7⟩
abbrev HST_MEMBER_NONCE_LO_nonce : Fld := ⟨0, 64⟩
abbrev HST_MEMBER_NONCE_HI_nonce : Fld := ⟨0, 64⟩
abbrev HST_PQ_BASE_addr : Fld := ⟨0, 64⟩
abbrev HST_PQ_CPL_BASE_addr : Fld := ⟨0, 64⟩
abbrev HST_PQ_CFG_enable : Fld := ⟨0, 1⟩
abbrev HST_PQ_CFG_in_hbm : Fld := ⟨1, 1⟩
abbrev HST_PQ_CFG_verify : Fld := ⟨2, 1⟩
abbrev HST_PQ_CFG_size_log2 : Fld := ⟨3, 5⟩
abbrev HST_PQ_CFG_vector : Fld := ⟨8, 8⟩
abbrev HST_PQ_TAIL_tail : Fld := ⟨0, 16⟩
abbrev HST_PQ_HEAD_index : Fld := ⟨0, 16⟩
abbrev HST_PQ_STATUS_error : Fld := ⟨0, 8⟩
abbrev HST_PQ_STATUS_running : Fld := ⟨8, 8⟩
abbrev HST_PQ_CPL_TAIL_index : Fld := ⟨0, 16⟩
abbrev HST_Q_BASE_addr : Fld := ⟨0, 64⟩
abbrev HST_Q_CPL_BASE_addr : Fld := ⟨0, 64⟩
abbrev HST_Q_CFG_enable : Fld := ⟨0, 1⟩
abbrev HST_Q_CFG_in_hbm : Fld := ⟨1, 1⟩
abbrev HST_Q_CFG_verify : Fld := ⟨2, 1⟩
abbrev HST_Q_CFG_size_log2 : Fld := ⟨3, 5⟩
abbrev HST_Q_CFG_vector : Fld := ⟨8, 8⟩
abbrev HST_Q_TAIL_tail : Fld := ⟨0, 16⟩
abbrev HST_Q_HEAD_index : Fld := ⟨0, 16⟩
abbrev HST_Q_STATUS_error : Fld := ⟨0, 8⟩
abbrev HST_Q_STATUS_running : Fld := ⟨8, 8⟩
abbrev HST_Q_CPL_TAIL_index : Fld := ⟨0, 16⟩
abbrev HST_VF_BAR4_WINDOW_base : Fld := ⟨0, 48⟩
abbrev HST_VF_BAR4_WINDOW_device : Fld := ⟨48, 6⟩
abbrev SCH_INST_STATE_enable : Fld := ⟨0, 1⟩
abbrev SCH_INST_STATE_resetting : Fld := ⟨1, 1⟩
abbrev SCH_INST_STATE_generation : Fld := ⟨16, 16⟩
abbrev SCH_INST_CORES_core_groups : Fld := ⟨0, 16⟩
abbrev SCH_INST_MEM_stacks : Fld := ⟨0, 8⟩
abbrev SCH_INST_MEM_deep_base : Fld := ⟨8, 9⟩
abbrev SCH_INST_MEM_deep_size : Fld := ⟨17, 10⟩
abbrev SCH_INST_RANGES_bob_base : Fld := ⟨0, 6⟩
abbrev SCH_INST_RANGES_bob_count : Fld := ⟨6, 7⟩
abbrev SCH_INST_RANGES_sem_base : Fld := ⟨13, 6⟩
abbrev SCH_INST_RANGES_sem_count : Fld := ⟨19, 7⟩
abbrev SCH_INST_WEIGHTS_w1 : Fld := ⟨0, 8⟩
abbrev SCH_INST_WEIGHTS_w2 : Fld := ⟨8, 8⟩
abbrev SCH_INST_WEIGHTS_w3 : Fld := ⟨16, 8⟩
abbrev SCH_INST_DISPATCHED_count : Fld := ⟨0, 64⟩
abbrev SCH_INST_AFF_HITS_count : Fld := ⟨0, 64⟩
abbrev SCH_WATCHDOG_us : Fld := ⟨0, 17⟩
abbrev SCH_POOL_TIMEOUT_ms : Fld := ⟨0, 16⟩
abbrev SCH_TIMEOUTS_count : Fld := ⟨0, 32⟩
abbrev SCH_ABANDONED_count : Fld := ⟨0, 32⟩
abbrev SCH_FIREWALL_DENIED_count : Fld := ⟨0, 32⟩
abbrev SCH_STALE_WRITES_count : Fld := ⟨0, 32⟩
abbrev SCH_CORE_aff_key : Fld := ⟨0, 32⟩
abbrev SCH_CORE_load : Fld := ⟨32, 3⟩
abbrev SCH_CORE_running : Fld := ⟨35, 1⟩
abbrev SCH_CORE_instance : Fld := ⟨36, 3⟩
abbrev SCH_CORE_assigned : Fld := ⟨39, 1⟩
abbrev SCH_SEM_value : Fld := ⟨0, 16⟩
abbrev SCH_SEM_abandoned : Fld := ⟨16, 1⟩
abbrev SCH_SEM_owned : Fld := ⟨17, 1⟩
abbrev SCH_SEM_owner_core : Fld := ⟨18, 7⟩
abbrev SCH_SEM_owner_inst : Fld := ⟨25, 3⟩
abbrev SCH_SEM_waiters : Fld := ⟨32, 8⟩
abbrev SCH_SEM_owner_gen : Fld := ⟨48, 16⟩
abbrev SCH_BOB_VALUE_value : Fld := ⟨0, 32⟩
abbrev SCH_BOB_LIMIT_limit : Fld := ⟨0, 32⟩
abbrev SCH_BOB_STATUS_late_draws : Fld := ⟨0, 16⟩
abbrev SCH_BOB_STATUS_exhausted : Fld := ⟨16, 1⟩
abbrev SCH_POOL_CFG_owner : Fld := ⟨0, 3⟩
abbrev SCH_POOL_CFG_enable : Fld := ⟨3, 1⟩
abbrev SCH_POOL_CFG_count : Fld := ⟨8, 13⟩
abbrev SCH_POOL_BASE_base : Fld := ⟨0, 48⟩
abbrev SCH_POOL_SLOT_slot_bytes : Fld := ⟨0, 32⟩
abbrev SCH_POOL_TAKE_slot : Fld := ⟨0, 48⟩
abbrev SCH_POOL_TAKE_status : Fld := ⟨56, 8⟩
abbrev SCH_POOL_RETURN_slot : Fld := ⟨0, 48⟩
abbrev SCH_POOL_STATUS_free : Fld := ⟨0, 13⟩
abbrev SCH_POOL_STATUS_waiters : Fld := ⟨13, 8⟩
abbrev SCH_POOL_EMPTY_COUNT_count : Fld := ⟨0, 32⟩
abbrev SCH_POOL_BAD_RETURNS_count : Fld := ⟨0, 32⟩
abbrev MEM_OVC_GRANULE_mode : Fld := ⟨0, 1⟩
abbrev MEM_OVC_GRANULE_owner : Fld := ⟨1, 3⟩
abbrev MEM_OVC_GRANULE_assigned : Fld := ⟨4, 1⟩
abbrev MEM_OVC_GRANULE_firmware : Fld := ⟨5, 1⟩
abbrev MEM_OVC_GRANULE_state : Fld := ⟨6, 2⟩
abbrev MEM_OVC_QUOTA_quota : Fld := ⟨0, 16⟩
abbrev MEM_OVC_HELD_lines : Fld := ⟨0, 23⟩
abbrev MEM_LATE_TIMEOUT_timeout_us : Fld := ⟨0, 10⟩
abbrev MEM_LTF_STEP_ltf_step : Fld := ⟨0, 8⟩
abbrev MEM_LTF_COUNT_count : Fld := ⟨0, 32⟩
abbrev MEM_LATE_DISCARDS_count : Fld := ⟨0, 32⟩
abbrev MEM_OVC_STATUS_cache_granules : Fld := ⟨0, 5⟩
abbrev MEM_OVC_STATUS_maint_busy : Fld := ⟨5, 1⟩
abbrev MEM_OVC_STATUS_remap_busy : Fld := ⟨6, 1⟩
abbrev MEM_OVC_HITS_count : Fld := ⟨0, 64⟩
abbrev MEM_OVC_MISSES_count : Fld := ⟨0, 64⟩
abbrev MEM_OVC_WRITEBACKS_count : Fld := ⟨0, 64⟩
abbrev MEM_OVC_DIRTY_count : Fld := ⟨0, 32⟩
abbrev MEM_OVC_POISONED_count : Fld := ⟨0, 32⟩
abbrev MEM_HBM_STATUS_trained : Fld := ⟨0, 1⟩
abbrev MEM_HBM_STATUS_rate : Fld := ⟨1, 2⟩
abbrev MEM_HBM_STATUS_spares_left : Fld := ⟨3, 8⟩
abbrev MEM_HBM_STATUS_repairs : Fld := ⟨11, 8⟩
abbrev MEM_HBM_CE_count : Fld := ⟨0, 32⟩
abbrev MEM_HBM_UE_count : Fld := ⟨0, 32⟩
abbrev MEM_HBM_LATE_count : Fld := ⟨0, 32⟩
abbrev MEM_HBM_ERR_ADDR_addr : Fld := ⟨0, 48⟩
abbrev MEM_HBM_ERR_ADDR_ue : Fld := ⟨48, 1⟩
abbrev MEM_HBM_ADDS_count : Fld := ⟨0, 64⟩
abbrev MEM_DT_STATUS_trained : Fld := ⟨0, 1⟩
abbrev MEM_DT_CE_count : Fld := ⟨0, 32⟩
abbrev MEM_DT_UE_count : Fld := ⟨0, 32⟩
abbrev MEM_DT_LATE_count : Fld := ⟨0, 32⟩
abbrev MEM_DT_ERR_ADDR_addr : Fld := ⟨0, 48⟩
abbrev MEM_DT_ERR_ADDR_ue : Fld := ⟨48, 1⟩
abbrev MEM_UPD_STATUS_queued : Fld := ⟨0, 6⟩
abbrev MEM_UPD_STATUS_waiting : Fld := ⟨6, 1⟩
abbrev MEM_UPD_STATUS_prefetching : Fld := ⟨7, 1⟩
abbrev MEM_UPD_STATUS_instance : Fld := ⟨8, 3⟩
abbrev MEM_UPD_STATUS_last_status : Fld := ⟨16, 8⟩
abbrev MEM_UPD_FLAGS_nonfinite_step : Fld := ⟨0, 8⟩
abbrev MEM_UPD_FLAGS_nonfinite_any : Fld := ⟨8, 8⟩
abbrev MEM_UPD_ELEMENTS_count : Fld := ⟨0, 64⟩
abbrev MEM_UPD_SKIPPED_count : Fld := ⟨0, 32⟩
abbrev MEM_UPD_WIN_BASE_addr : Fld := ⟨0, 48⟩
abbrev MEM_UPD_WIN_LIMIT_addr : Fld := ⟨0, 48⟩
abbrev KV_SPACE_CFG_enable : Fld := ⟨0, 1⟩
abbrev KV_SPACE_CFG_home_die : Fld := ⟨1, 2⟩
abbrev KV_SPACE_CFG_fmt : Fld := ⟨3, 4⟩
abbrev KV_SPACE_CFG_hd : Fld := ⟨7, 2⟩
abbrev KV_SPACE_CFG_layers : Fld := ⟨16, 8⟩
abbrev KV_SPACE_CFG_kv_heads : Fld := ⟨24, 7⟩
abbrev KV_SPACE_CFG_cfg_error : Fld := ⟨31, 1⟩
abbrev KV_SPACE_OWNER_instance : Fld := ⟨0, 3⟩
abbrev KV_SPACE_LIMITS_slots : Fld := ⟨0, 17⟩
abbrev KV_SPACE_LIMITS_max_blocks : Fld := ⟨17, 13⟩
abbrev KV_POOL_FRAMES_frames : Fld := ⟨0, 24⟩
abbrev KV_L1_BASE_base : Fld := ⟨0, 48⟩
abbrev KV_L2_BASE_base : Fld := ⟨0, 48⟩
abbrev KV_POOL_BASE_base : Fld := ⟨0, 48⟩
abbrev KV_TREE_BASE_base : Fld := ⟨0, 48⟩
abbrev KV_TOKEN_BASE_base : Fld := ⟨0, 48⟩
abbrev KV_FRAMES_FREE_count : Fld := ⟨0, 24⟩
abbrev KV_FRAMES_EVICTABLE_count : Fld := ⟨0, 24⟩
abbrev KV_FRAMES_RESERVED_count : Fld := ⟨0, 24⟩
abbrev KV_OPEN_SEQS_count : Fld := ⟨0, 17⟩
abbrev KV_FULL_COUNT_count : Fld := ⟨0, 32⟩
abbrev KV_PREFIX_HITS_count : Fld := ⟨0, 64⟩
abbrev KV_EVICTIONS_count : Fld := ⟨0, 64⟩
abbrev KV_COW_COPIES_count : Fld := ⟨0, 32⟩
abbrev KV_HASH_MISMATCH_count : Fld := ⟨0, 32⟩
abbrev KV_WLK_HITS_count : Fld := ⟨0, 64⟩
abbrev KV_WLK_MISSES_count : Fld := ⟨0, 64⟩
abbrev SEAM_ENG_STATUS_queued : Fld := ⟨0, 6⟩
abbrev SEAM_ENG_STATUS_active : Fld := ⟨6, 3⟩
abbrev SEAM_ENG_STATUS_last_status : Fld := ⟨16, 8⟩
abbrev SEAM_ENG_FLAGS_nonfinite_step : Fld := ⟨0, 8⟩
abbrev SEAM_ENG_FLAGS_nonfinite_any : Fld := ⟨8, 8⟩
abbrev SEAM_ENG_BYTES_count : Fld := ⟨0, 64⟩
abbrev SEAM_ENG_ITEMS_count : Fld := ⟨0, 64⟩
abbrev SEAM_ENG_ABORTS_count : Fld := ⟨0, 32⟩
abbrev SEAM_ENG_INT_WRAPS_count : Fld := ⟨0, 32⟩
abbrev SEAM_GRP_BASE_base : Fld := ⟨0, 48⟩
abbrev SEAM_GRP_BASE_enable : Fld := ⟨48, 1⟩
abbrev SEAM_GRP_BASE_grp_error : Fld := ⟨49, 1⟩
abbrev SEAM_GRP_CALL_call : Fld := ⟨0, 64⟩
abbrev SEAM_PEER_TIMEOUT_us : Fld := ⟨0, 20⟩
abbrev SEAM_VOTE_CFG_enable : Fld := ⟨0, 1⟩
abbrev SEAM_VOTE_CFG_job_leader : Fld := ⟨1, 1⟩
abbrev SEAM_VOTE_CFG_pod_leader : Fld := ⟨2, 1⟩
abbrev SEAM_VOTE_CFG_tray_head : Fld := ⟨3, 1⟩
abbrev SEAM_VOTE_CFG_pod_deadline : Fld := ⟨8, 8⟩
abbrev SEAM_VOTE_CFG_job_deadline : Fld := ⟨16, 10⟩
abbrev SEAM_VOTE_TREE_parent : Fld := ⟨0, 6⟩
abbrev SEAM_VOTE_TREE_job_leader_pod : Fld := ⟨6, 7⟩
abbrev SEAM_VOTE_TREE_job_id : Fld := ⟨16, 16⟩
abbrev SEAM_VOTE_CHILDREN_mask : Fld := ⟨0, 64⟩
abbrev SEAM_VOTE_MEMBERS_mask : Fld := ⟨0, 64⟩
abbrev SEAM_VOTE_PODS_LO_mask : Fld := ⟨0, 64⟩
abbrev SEAM_VOTE_PODS_HI_mask : Fld := ⟨0, 64⟩
abbrev SEAM_NORM_BOUND_bound : Fld := ⟨0, 32⟩
abbrev SEAM_QUERY_AFTER_us : Fld := ⟨0, 16⟩
abbrev SEAM_STEP_COMMITTED_step : Fld := ⟨0, 64⟩
abbrev SEAM_STEP_DECIDED_step : Fld := ⟨0, 64⟩
abbrev SEAM_VOTE_STATUS_state : Fld := ⟨0, 3⟩
abbrev SEAM_VOTE_STATUS_last_commit : Fld := ⟨3, 1⟩
abbrev SEAM_VOTE_STATUS_last_causes : Fld := ⟨4, 8⟩
abbrev SEAM_VOTE_STATUS_fenced_device : Fld := ⟨12, 6⟩
abbrev SEAM_VOTE_STATUS_holding : Fld := ⟨18, 1⟩
abbrev SEAM_VOTE_STATUS_gns_valid : Fld := ⟨19, 1⟩
abbrev SEAM_VOTE_STATUS_step_inst : Fld := ⟨20, 3⟩
abbrev SEAM_LAST_CAUSES_devices : Fld := ⟨0, 64⟩
abbrev SEAM_GNS_SUMS_l_sum : Fld := ⟨0, 32⟩
abbrev SEAM_GNS_SUMS_n_sum : Fld := ⟨32, 32⟩
abbrev SEAM_GNS_STEP_step : Fld := ⟨0, 64⟩
abbrev SEAM_COMMITS_count : Fld := ⟨0, 64⟩
abbrev SEAM_SKIPS_count : Fld := ⟨0, 64⟩
abbrev SEAM_LATE_VOTES_count : Fld := ⟨0, 32⟩
abbrev SEAM_DROPPED_RECORDS_count : Fld := ⟨0, 32⟩
abbrev SEAM_QUERIES_count : Fld := ⟨0, 32⟩
abbrev SEAM_APPLY_DEADLINE_ms : Fld := ⟨0, 16⟩
abbrev FAB_UDP_PORT_port : Fld := ⟨0, 16⟩
abbrev FAB_ACK_CFG_deadline_ns : Fld := ⟨0, 14⟩
abbrev FAB_ACK_CFG_ack_delay : Fld := ⟨14, 7⟩
abbrev FAB_ACK_CFG_retry_limit : Fld := ⟨21, 4⟩
abbrev FAB_RC_CFG_period_us : Fld := ⟨0, 8⟩
abbrev FAB_RC_CFG_ai_div : Fld := ⟨8, 8⟩
abbrev FAB_RC_CFG_vc0_cap_div : Fld := ⟨16, 8⟩
abbrev FAB_RC_CFG_idle_ms : Fld := ⟨24, 8⟩
abbrev FAB_PTP_CFG_domain : Fld := ⟨0, 8⟩
abbrev FAB_PTP_CFG_grandmaster : Fld := ⟨8, 1⟩
abbrev FAB_PTP_CFG_timing_port : Fld := ⟨9, 7⟩
abbrev FAB_PTP_CFG_log_sync : Fld := ⟨16, 3⟩
abbrev FAB_PTP_STATUS_state : Fld := ⟨0, 2⟩
abbrev FAB_PTP_STATUS_time_valid : Fld := ⟨2, 1⟩
abbrev FAB_PTP_OFFSET_offset : Fld := ⟨0, 64⟩
abbrev FAB_TXN_INUSE_in_use : Fld := ⟨0, 16⟩
abbrev FAB_TXN_INUSE_peak : Fld := ⟨16, 16⟩
abbrev FAB_SESS_INDEX_index : Fld := ⟨0, 12⟩
abbrev FAB_SESS_STATUS_state : Fld := ⟨0, 3⟩
abbrev FAB_SESS_STATUS_port : Fld := ⟨3, 7⟩
abbrev FAB_SESS_STATUS_instance : Fld := ⟨10, 3⟩
abbrev FAB_SESS_STATUS_unacked : Fld := ⟨16, 13⟩
abbrev FAB_SESS_RATE_rate : Fld := ⟨0, 13⟩
abbrev FAB_SESS_TX_PKTS_count : Fld := ⟨0, 64⟩
abbrev FAB_SESS_RETX_count : Fld := ⟨0, 32⟩
abbrev FAB_SESS_ACK_DEADLINE_count : Fld := ⟨0, 32⟩
abbrev FAB_PORT_CFG_config : Fld := ⟨0, 2⟩
abbrev FAB_PORT_CFG_medium : Fld := ⟨2, 2⟩
abbrev FAB_PORT_STATUS_lane_lock : Fld := ⟨0, 8⟩
abbrev FAB_PORT_STATUS_link_up : Fld := ⟨8, 4⟩
abbrev FAB_PORT_STATUS_training : Fld := ⟨12, 1⟩
abbrev FAB_PORT_FEC_CORR_count : Fld := ⟨0, 64⟩
abbrev FAB_PORT_FEC_UNCORR_count : Fld := ⟨0, 64⟩
abbrev FAB_LP_CFG_w1 : Fld := ⟨0, 8⟩
abbrev FAB_LP_CFG_w2 : Fld := ⟨8, 8⟩
abbrev FAB_LP_CFG_w3 : Fld := ⟨16, 8⟩
abbrev FAB_LP_CFG_ipv6 : Fld := ⟨24, 1⟩
abbrev FAB_LP_ACK_DEADLINE_count : Fld := ⟨0, 32⟩
abbrev FAB_LP_TX_BYTES_count : Fld := ⟨0, 64⟩
abbrev FAB_LP_RX_BYTES_count : Fld := ⟨0, 64⟩
abbrev FAB_LP_STRANGER_DROP_count : Fld := ⟨0, 64⟩
abbrev FAB_LP_AUTH_DROP_count : Fld := ⟨0, 32⟩
abbrev FAB_LP_RX_ERRORS_count : Fld := ⟨0, 32⟩
abbrev FAB_LP_RX_OVERRUN_count : Fld := ⟨0, 32⟩
abbrev FAB_LP_ECN_CE_count : Fld := ⟨0, 32⟩
abbrev FAB_LP_ADDR_addr : Fld := ⟨0, 32⟩
abbrev FAB_ROUTE_vc2_session : Fld := ⟨0, 12⟩
abbrev FAB_ROUTE_vc2_valid : Fld := ⟨12, 1⟩
abbrev FAB_ROUTE_vc3_session : Fld := ⟨16, 12⟩
abbrev FAB_ROUTE_vc3_valid : Fld := ⟨28, 1⟩
abbrev FAB_LP_DUPLICATES_count : Fld := ⟨0, 32⟩
abbrev FAB_LP_STALE_count : Fld := ⟨0, 32⟩
abbrev ING_LIM_IMAGE_max_w : Fld := ⟨0, 15⟩
abbrev ING_LIM_IMAGE_max_h : Fld := ⟨16, 15⟩
abbrev ING_LIM_RECORD_max_mib : Fld := ⟨0, 9⟩
abbrev ING_LIM_AUDIO_max_s : Fld := ⟨0, 10⟩
abbrev ING_STATUS_jobs_active : Fld := ⟨0, 8⟩
abbrev ING_STATUS_live_active : Fld := ⟨8, 8⟩
abbrev ING_RING_BASE_addr : Fld := ⟨0, 64⟩
abbrev ING_RING_CPL_BASE_addr : Fld := ⟨0, 64⟩
abbrev ING_RING_CFG_enable : Fld := ⟨0, 1⟩
abbrev ING_RING_CFG_in_hbm : Fld := ⟨1, 1⟩
abbrev ING_RING_CFG_size_log2 : Fld := ⟨2, 4⟩
abbrev ING_RING_CFG_vector : Fld := ⟨8, 8⟩
abbrev ING_RING_TAIL_tail : Fld := ⟨0, 12⟩
abbrev ING_RING_HEAD_head : Fld := ⟨0, 12⟩
abbrev ING_RING_STATUS_error : Fld := ⟨0, 8⟩
abbrev ING_RING_STATUS_running : Fld := ⟨8, 8⟩
abbrev ING_CNT_SAMPLES_count : Fld := ⟨0, 64⟩
abbrev ING_CNT_TRUNC_count : Fld := ⟨0, 32⟩
abbrev ING_CNT_PADDED_count : Fld := ⟨0, 32⟩
abbrev ING_CNT_SUBST_count : Fld := ⟨0, 32⟩
abbrev ING_CNT_REJECT_count : Fld := ⟨0, 32⟩
abbrev ING_RESYNC_BYTES_count : Fld := ⟨0, 64⟩
abbrev ING_RESYNC_EVENTS_count : Fld := ⟨0, 32⟩
abbrev ING_STRM_CFG_enable : Fld := ⟨0, 1⟩
abbrev ING_STRM_CFG_kind : Fld := ⟨1, 2⟩
abbrev ING_STRM_CFG_owner : Fld := ⟨3, 3⟩
abbrev ING_STRM_CFG_strict : Fld := ⟨6, 1⟩
abbrev ING_STRM_CFG_codec : Fld := ⟨7, 2⟩
abbrev ING_STRM_CFG_pt : Fld := ⟨9, 7⟩
abbrev ING_STRM_CFG_bobbin : Fld := ⟨16, 10⟩
abbrev ING_STRM_CFG_bobbin_en : Fld := ⟨26, 1⟩
abbrev ING_STRM_LIVE_budget_us : Fld := ⟨0, 16⟩
abbrev ING_STRM_LIVE_session : Fld := ⟨16, 12⟩
abbrev ING_STRM_LIVE_ssrc_latch : Fld := ⟨28, 1⟩
abbrev ING_STRM_SEQ_seq : Fld := ⟨0, 64⟩
abbrev ING_STRM_SET_ADDR_addr : Fld := ⟨0, 48⟩
abbrev ING_STRM_SET_TARGET_target : Fld := ⟨0, 64⟩
abbrev ING_STRM_STATUS_generation : Fld := ⟨0, 16⟩
abbrev ING_STRM_STATUS_pending : Fld := ⟨16, 3⟩
abbrev ING_STRM_STATUS_set_error : Fld := ⟨19, 1⟩
abbrev ING_STRM_STATUS_set_refused : Fld := ⟨20, 1⟩
abbrev ING_STRM_STATUS_roi_valid : Fld := ⟨21, 1⟩
abbrev ING_STRM_SSRC_ssrc : Fld := ⟨0, 32⟩
abbrev ING_STRM_REC_BASE_base : Fld := ⟨0, 48⟩
abbrev ING_STRM_REC_BASE_entries_log2 : Fld := ⟨48, 4⟩
abbrev ING_STRM_STAT_BASE_base : Fld := ⟨0, 48⟩
abbrev ING_STRM_STAT_BASE_entries_log2 : Fld := ⟨48, 4⟩
abbrev ING_STRM_ROI_x : Fld := ⟨0, 16⟩
abbrev ING_STRM_ROI_y : Fld := ⟨16, 16⟩
abbrev ING_STRM_ROI_w : Fld := ⟨32, 16⟩
abbrev ING_STRM_ROI_h : Fld := ⟨48, 16⟩
abbrev ING_STRM_FRAMES_count : Fld := ⟨0, 64⟩
abbrev ING_STRM_LIVE_LATE_count : Fld := ⟨0, 32⟩
abbrev ING_STRM_NOSLOT_count : Fld := ⟨0, 32⟩
abbrev ING_STRM_FOREIGN_count : Fld := ⟨0, 32⟩
abbrev CDC_ENG_STATUS_class : Fld := ⟨0, 2⟩
abbrev CDC_ENG_STATUS_contexts : Fld := ⟨2, 6⟩
abbrev CDC_ENG_STATUS_suspended : Fld := ⟨8, 1⟩
abbrev CDC_ENG_LIVE_RES_mps : Fld := ⟨0, 9⟩
abbrev CDC_ENG_OVER_RES_count : Fld := ⟨0, 32⟩
abbrev CDC_ENG_PIXELS_count : Fld := ⟨0, 64⟩
abbrev CDC_DEC_CFG_class : Fld := ⟨0, 2⟩
abbrev CDC_DEC_CFG_live_mps : Fld := ⟨2, 9⟩
abbrev CDC_DEC_CFG_res_error : Fld := ⟨11, 1⟩
abbrev CDC_DEC_CONCEALED_count : Fld := ⟨0, 32⟩
abbrev CDC_RING_BASE_addr : Fld := ⟨0, 64⟩
abbrev CDC_RING_CPL_BASE_addr : Fld := ⟨0, 64⟩
abbrev CDC_RING_CFG_enable : Fld := ⟨0, 1⟩
abbrev CDC_RING_CFG_in_hbm : Fld := ⟨1, 1⟩
abbrev CDC_RING_CFG_size_log2 : Fld := ⟨2, 4⟩
abbrev CDC_RING_CFG_vector : Fld := ⟨8, 8⟩
abbrev CDC_RING_TAIL_tail : Fld := ⟨0, 12⟩
abbrev CDC_RING_HEAD_index : Fld := ⟨0, 12⟩
abbrev CDC_RING_STATUS_error : Fld := ⟨0, 8⟩
abbrev CDC_RING_STATUS_running : Fld := ⟨8, 8⟩
abbrev CDC_ENC_CFG_enable : Fld := ⟨0, 1⟩
abbrev CDC_ENC_CFG_owner : Fld := ⟨1, 3⟩
abbrev CDC_ENC_CFG_cfg_error : Fld := ⟨4, 1⟩
abbrev CDC_ENC_CFG_res_error : Fld := ⟨5, 1⟩
abbrev CDC_ENC_SESSION_addr : Fld := ⟨0, 48⟩
abbrev CDC_ENC_KEY_request : Fld := ⟨0, 1⟩
abbrev CDC_ENC_STATUS_lt_held : Fld := ⟨0, 5⟩
abbrev CDC_ENC_STATUS_key_pending : Fld := ⟨5, 1⟩
abbrev CDC_ENC_STATUS_engine : Fld := ⟨6, 1⟩
abbrev CDC_ENC_OUT_READ_offset : Fld := ⟨0, 30⟩
abbrev CDC_ENC_PICTURES_count : Fld := ⟨0, 64⟩
abbrev CDC_ENC_LIVE_LATE_count : Fld := ⟨0, 32⟩
abbrev CDC_ENC_KEYS_count : Fld := ⟨0, 32⟩
abbrev RAS_STATUS_flood : Fld := ⟨0, 5⟩
abbrev RAS_STATUS_snap_busy : Fld := ⟨5, 1⟩
abbrev RAS_MAINT_enter : Fld := ⟨0, 1⟩
abbrev RAS_SCRUB_CFG_period_h : Fld := ⟨0, 8⟩
abbrev RAS_SCRUB_CFG_enable : Fld := ⟨8, 1⟩
abbrev RAS_LOG_CFG_info_en : Fld := ⟨0, 1⟩
abbrev RAS_LOG_CFG_trace_en : Fld := ⟨1, 1⟩
abbrev RAS_LOG_HEAD_index : Fld := ⟨0, 17⟩
abbrev RAS_LOG_WIN_SEL_class : Fld := ⟨0, 3⟩
abbrev RAS_LOG_WIN_SEL_page : Fld := ⟨8, 6⟩
abbrev RAS_LOG_DROPS_count : Fld := ⟨0, 32⟩
abbrev RAS_LOG_COALESCED_count : Fld := ⟨0, 32⟩
abbrev RAS_SNAP_COUNT_count : Fld := ⟨0, 16⟩
abbrev RAS_SNAP_COUNT_next_slot : Fld := ⟨16, 4⟩
abbrev RAS_SRAM_CE_count : Fld := ⟨0, 32⟩
abbrev RAS_SRAM_UE_count : Fld := ⟨0, 32⟩
abbrev RAS_RETIRED_cores : Fld := ⟨0, 64⟩
abbrev RAS_SMB_CFG_addr : Fld := ⟨0, 7⟩
abbrev RAS_SMB_CFG_arp_assigned : Fld := ⟨7, 1⟩
abbrev RAS_SMB_CFG_speed : Fld := ⟨8, 2⟩
abbrev RAS_SMB_ARB_LOST_count : Fld := ⟨0, 32⟩
abbrev RAS_SMB_DROPS_count : Fld := ⟨0, 32⟩
abbrev RAS_TEST_REFUSED_count : Fld := ⟨0, 32⟩
abbrev RAS_ALARM_CFG_source : Fld := ⟨0, 4⟩
abbrev RAS_ALARM_CFG_enable : Fld := ⟨4, 1⟩
abbrev RAS_ALARM_CFG_window_ms : Fld := ⟨16, 16⟩
abbrev RAS_ALARM_THRESH_threshold : Fld := ⟨0, 32⟩
abbrev RAS_ALARM_COUNT_count : Fld := ⟨0, 32⟩
abbrev RAS_ALARM_STATUS_raised : Fld := ⟨0, 16⟩
abbrev CORE_SEQ_CTRL_stop : Fld := ⟨0, 1⟩
abbrev CORE_SEQ_CTRL_icinv : Fld := ⟨1, 1⟩
abbrev CORE_SEQ_STATUS_state : Fld := ⟨0, 2⟩
abbrev CORE_SEQ_STATUS_hold_cause : Fld := ⟨2, 3⟩
abbrev CORE_SEQ_STATUS_loop_depth : Fld := ⟨5, 3⟩
abbrev CORE_SEQ_STATUS_last_status : Fld := ⟨8, 8⟩
abbrev CORE_SEQ_PC_pc : Fld := ⟨0, 48⟩
abbrev CORE_SEQ_FAULT_code : Fld := ⟨0, 8⟩
abbrev CORE_SEQ_FAULT_slot : Fld := ⟨8, 3⟩
abbrev CORE_SEQ_FAULT_write : Fld := ⟨11, 1⟩
abbrev CORE_SEQ_FAULT_bnd : Fld := ⟨12, 4⟩
abbrev CORE_SEQ_FAULT_PC_pc : Fld := ⟨0, 48⟩
abbrev CORE_SEQ_FAULT_ADDR_addr : Fld := ⟨0, 54⟩
abbrev CORE_SEQ_BUNDLES_count : Fld := ⟨0, 64⟩
abbrev CORE_SEQ_STALLS_count : Fld := ⟨0, 64⟩
abbrev CORE_SEQ_IREG_base : Fld := ⟨0, 48⟩
abbrev CORE_SEQ_IREG_size : Fld := ⟨48, 16⟩
abbrev CORE_SEQ_ICACHE_MISSES_count : Fld := ⟨0, 32⟩
abbrev CORE_FP_FLAGS_nonfinite_step : Fld := ⟨0, 1⟩
abbrev CORE_FP_FLAGS_nonfinite_any : Fld := ⟨1, 1⟩
abbrev CORE_FP_FLAGS_int_sat : Fld := ⟨2, 1⟩
abbrev CORE_FP_FLAGS_fp_sat : Fld := ⟨3, 1⟩
abbrev CORE_FP_FLAGS_first_unit : Fld := ⟨4, 3⟩
abbrev CORE_FP_CTRL_vote_excl : Fld := ⟨0, 1⟩
abbrev CORE_RNG_SEED_seed : Fld := ⟨0, 64⟩
abbrev CORE_RNG_STEP_step : Fld := ⟨0, 64⟩
abbrev CORE_SAT_COUNT_count : Fld := ⟨0, 32⟩
abbrev CORE_ARR_CTRL_tol_exp : Fld := ⟨0, 5⟩
abbrev CORE_ARR_STATUS_busy : Fld := ⟨0, 1⟩
abbrev CORE_ARR_STATUS_active_bank : Fld := ⟨1, 1⟩
abbrev CORE_ARR_STATUS_dir : Fld := ⟨2, 1⟩
abbrev CORE_ARR_STATUS_retry_active : Fld := ⟨3, 1⟩
abbrev CORE_ARR_STATUS_suspect : Fld := ⟨4, 1⟩
abbrev CORE_ARR_STATUS_selvage_step : Fld := ⟨5, 1⟩
abbrev CORE_ARR_STATUS_selvage_any : Fld := ⟨6, 1⟩
abbrev CORE_SLV_MISMATCHES_count : Fld := ⟨0, 32⟩
abbrev CORE_SLV_SKIPPED_count : Fld := ⟨0, 32⟩
abbrev CORE_SLV_LAST_row : Fld := ⟨0, 12⟩
abbrev CORE_SLV_LAST_dir : Fld := ⟨12, 1⟩
abbrev CORE_SLV_LAST_attempt : Fld := ⟨13, 1⟩
abbrev CORE_SLV_LAST_integer : Fld := ⟨14, 1⟩
abbrev CORE_SLV_LAST_pass : Fld := ⟨16, 16⟩
abbrev CORE_SLV_LAST_VALUES_diff : Fld := ⟨0, 32⟩
abbrev CORE_SLV_LAST_VALUES_bound : Fld := ⟨32, 32⟩
abbrev CORE_ARR_PASSES_count : Fld := ⟨0, 64⟩
abbrev CORE_ARR_IDLE_count : Fld := ⟨0, 64⟩
abbrev CORE_ARR_GATED_count : Fld := ⟨0, 64⟩
abbrev CORE_SKIP_ZERO_ROWS_count : Fld := ⟨0, 64⟩
abbrev CORE_SKIP_MASK_ROWS_count : Fld := ⟨0, 64⟩
abbrev CORE_SKIP_BLOCKS_count : Fld := ⟨0, 64⟩
abbrev CORE_EXP_OVERFLOW_count : Fld := ⟨0, 32⟩
abbrev CORE_ZSKIP_SUPPRESSED_count : Fld := ⟨0, 32⟩
abbrev CORE_STG_REGION_base : Fld := ⟨0, 48⟩
abbrev CORE_STG_REGION_size : Fld := ⟨48, 16⟩
abbrev CORE_STG_BYTES_count : Fld := ⟨0, 64⟩
abbrev CORE_SFU_CTRL_legacy : Fld := ⟨0, 1⟩
abbrev CORE_SFU_STATUS_busy : Fld := ⟨0, 1⟩
abbrev CORE_SFU_STATUS_row_op : Fld := ⟨1, 1⟩
abbrev CORE_SFU_STATUS_op : Fld := ⟨2, 4⟩
abbrev CORE_SFU_STATUS_legacy_active : Fld := ⟨6, 1⟩
abbrev CORE_SFU_ROWS_count : Fld := ⟨0, 64⟩
abbrev CORE_SFU_STALLS_count : Fld := ⟨0, 64⟩
abbrev CORE_SFU_MASKED_ROWS_count : Fld := ⟨0, 32⟩
abbrev CORE_CWU_STATUS_busy : Fld := ⟨0, 1⟩
abbrev CORE_CWU_STATUS_window_op : Fld := ⟨1, 1⟩
abbrev CORE_CWU_STATUS_op : Fld := ⟨2, 4⟩
abbrev CORE_CWU_STATUS_active_window : Fld := ⟨6, 1⟩
abbrev CORE_CWU_LAST_BYTES_bytes : Fld := ⟨0, 32⟩
abbrev CORE_CWU_LINE_BYTES_count : Fld := ⟨0, 64⟩
abbrev CORE_CWU_FILL_STALLS_count : Fld := ⟨0, 64⟩
abbrev CORE_CWU_OUTPUTS_count : Fld := ⟨0, 64⟩
abbrev CORE_DMA_STATUS_queued : Fld := ⟨0, 5⟩
abbrev CORE_DMA_STATUS_active : Fld := ⟨5, 3⟩
abbrev CORE_DMA_STATUS_tags_busy : Fld := ⟨8, 8⟩
abbrev CORE_DMA_STATUS_last_status : Fld := ⟨16, 8⟩
abbrev CORE_DMA_BYTES_count : Fld := ⟨0, 64⟩
abbrev CORE_DMA_ITEMS_count : Fld := ⟨0, 64⟩
end F

/-- Register rows, part 0. -/
def regTable0 : List RegRow := [
  ⟨"GLB_MODULE_ID", 0x0, [], 4, [⟨0, 8, .ro, 0x0⟩, ⟨8, 8, .ro, 0x80⟩, ⟨16, 8, .ro, 0x0⟩]⟩,
  ⟨"GLB_STATUS", 0x4, [], 4, [⟨0, 4, .ro, 0x0⟩, ⟨4, 1, .ro, 0x0⟩, ⟨5, 1, .ro, 0x0⟩, ⟨6, 1, .ro, 0x0⟩, ⟨7, 1, .ro, 0x0⟩, ⟨8, 4, .ro, 0x0⟩, ⟨12, 8, .ro, 0x0⟩]⟩,
  ⟨"GLB_POD_ID", 0x8, [], 4, [⟨0, 6, .ro, 0x0⟩, ⟨6, 1, .ro, 0x0⟩, ⟨8, 7, .ro, 0x0⟩]⟩,
  ⟨"POD_TIME", 0x10, [], 8, [⟨0, 64, .ro, 0x0⟩]⟩,
  ⟨"POD_STEP", 0x18, [], 8, [⟨0, 64, .ro, 0xFFFFFFFFFFFFFFFF⟩]⟩,
  ⟨"GLB_SPARE_MAP", 0x20, [(4, 0x4)], 4, [⟨0, 6, .ro, 0x0⟩, ⟨8, 6, .ro, 0x0⟩]⟩,
  ⟨"GLB_CORE_ABSENT", 0x30, [(4, 0x4)], 4, [⟨0, 32, .ro, 0x0⟩]⟩,
  ⟨"THM_STATUS", 0x100000, [], 4, [⟨0, 1, .ro, 0x0⟩, ⟨1, 1, .ro, 0x0⟩, ⟨2, 1, .ro, 0x0⟩, ⟨8, 8, .ro, 0x0⟩]⟩,
  ⟨"THM_EVENT", 0x100008, [], 8, [⟨0, 1, .ro, 0x0⟩, ⟨1, 3, .ro, 0x0⟩, ⟨4, 4, .ro, 0x0⟩, ⟨8, 6, .ro, 0x0⟩, ⟨16, 48, .ro, 0x0⟩]⟩,
  ⟨"THM_EVENT_LOST", 0x100010, [], 4, [⟨0, 32, .rw, 0x0⟩]⟩,
  ⟨"THM_CERT_LEN", 0x100014, [], 4, [⟨0, 13, .ro, 0x0⟩]⟩,
  ⟨"THM_DEVKEY", 0x100100, [(16, 0x8)], 8, [⟨0, 64, .ro, 0x0⟩]⟩,
  ⟨"THM_CERT", 0x101000, [(512, 0x8)], 8, [⟨0, 64, .ro, 0x0⟩]⟩,
  ⟨"PWR_BOOT_STATUS", 0x200000, [], 4, [⟨0, 4, .ro, 0x1⟩, ⟨4, 8, .ro, 0x0⟩, ⟨12, 1, .ro, 0x0⟩]⟩,
  ⟨"PWR_BOOT_CAUSE", 0x200004, [], 4, [⟨0, 3, .ro, 0x0⟩]⟩,
  ⟨"PWR_BOOT_ELAPSED", 0x200008, [], 4, [⟨0, 32, .ro, 0x0⟩]⟩,
  ⟨"PWR_IMAGE_A", 0x200010, [], 8, [⟨0, 32, .ro, 0x0⟩, ⟨32, 16, .ro, 0x0⟩, ⟨48, 1, .ro, 0x0⟩, ⟨49, 1, .ro, 0x0⟩, ⟨50, 1, .ro, 0x0⟩, ⟨51, 7, .ro, 0x0⟩]⟩,
  ⟨"PWR_IMAGE_B", 0x200018, [], 8, [⟨0, 32, .ro, 0x0⟩, ⟨32, 16, .ro, 0x0⟩, ⟨48, 1, .ro, 0x0⟩, ⟨49, 1, .ro, 0x0⟩, ⟨50, 1, .ro, 0x0⟩, ⟨51, 7, .ro, 0x0⟩]⟩,
  ⟨"PWR_CAP", 0x200020, [], 4, [⟨0, 16, .ro, 0x0⟩, ⟨16, 16, .ro, 0x0⟩]⟩,
  ⟨"PWR_THERM_CFG", 0x200024, [], 4, [⟨0, 8, .rwl, 0x64⟩, ⟨8, 8, .rwl, 0x73⟩]⟩]
/-- Register rows, part 1. -/
def regTable1 : List RegRow := [
  ⟨"PWR_INPUT_STATUS", 0x200028, [], 4, [⟨0, 1, .ro, 0x0⟩, ⟨1, 1, .ro, 0x0⟩, ⟨2, 1, .ro, 0x0⟩, ⟨3, 1, .ro, 0x0⟩]⟩,
  ⟨"PWR_INPUT_V", 0x20002C, [], 4, [⟨0, 16, .ro, 0x0⟩, ⟨16, 16, .ro, 0x0⟩]⟩,
  ⟨"PWR_POWER", 0x200030, [], 4, [⟨0, 16, .ro, 0x0⟩, ⟨16, 16, .ro, 0x0⟩]⟩,
  ⟨"PWR_TRANSFERS", 0x200034, [], 4, [⟨0, 32, .rw, 0x0⟩]⟩,
  ⟨"PWR_THROTTLE_EVENTS", 0x200038, [], 4, [⟨0, 32, .rw, 0x0⟩]⟩,
  ⟨"PWR_PEAK_EVENTS", 0x20003C, [], 4, [⟨0, 32, .rw, 0x0⟩]⟩,
  ⟨"PWR_RESET", 0x200040, [], 4, [⟨0, 1, .wo, 0x0⟩]⟩,
  ⟨"PWR_DIE_REQ", 0x200100, [(4, 0x10)], 4, [⟨0, 12, .rw, 0x0⟩]⟩,
  ⟨"PWR_DIE_STATUS", 0x200104, [(4, 0x10)], 4, [⟨0, 12, .ro, 0x0⟩, ⟨12, 12, .ro, 0x0⟩, ⟨24, 7, .ro, 0x0⟩, ⟨31, 1, .ro, 0x0⟩]⟩,
  ⟨"HST_LINK_STATUS", 0x400000, [], 4, [⟨0, 2, .ro, 0x0⟩, ⟨2, 5, .ro, 0x0⟩, ⟨7, 1, .ro, 0x0⟩, ⟨8, 1, .ro, 0x0⟩]⟩,
  ⟨"HST_BAR4_WINDOW", 0x400008, [], 8, [⟨0, 48, .rw, 0x0⟩, ⟨48, 6, .rw, 0x0⟩]⟩,
  ⟨"HST_BOOT_NONCE_LO", 0x400010, [], 8, [⟨0, 64, .ro, 0x0⟩]⟩,
  ⟨"HST_BOOT_NONCE_HI", 0x400018, [], 8, [⟨0, 64, .ro, 0x0⟩]⟩,
  ⟨"HST_AUTH_FAILS", 0x400020, [], 4, [⟨0, 32, .rw, 0x0⟩]⟩,
  ⟨"HST_REPLAYS", 0x400024, [], 4, [⟨0, 32, .rw, 0x0⟩]⟩,
  ⟨"HST_DIRECT_CRIT", 0x400028, [], 4, [⟨0, 32, .rw, 0x0⟩]⟩,
  ⟨"HST_REMOTE_ERRORS", 0x40002C, [], 4, [⟨0, 32, .rw, 0x0⟩]⟩,
  ⟨"HST_TUNNEL_TIMEOUT", 0x400030, [], 4, [⟨0, 16, .rw, 0xA⟩]⟩,
  ⟨"HST_POD_STATE", 0x400040, [], 4, [⟨0, 4, .ro, 0x0⟩, ⟨4, 7, .ro, 0x0⟩]⟩,
  ⟨"HST_POD_MEMBERS", 0x400048, [], 8, [⟨0, 64, .ro, 0x0⟩]⟩]
/-- Register rows, part 2. -/
def regTable2 : List RegRow := [
  ⟨"HST_POD_HELD", 0x400050, [], 8, [⟨0, 64, .ro, 0x0⟩]⟩,
  ⟨"HST_POD_FENCED", 0x400058, [], 8, [⟨0, 64, .ro, 0x0⟩]⟩,
  ⟨"HST_POD_SNAP", 0x400060, [], 4, [⟨0, 1, .wo, 0x0⟩]⟩,
  ⟨"HST_SNAP_STEP", 0x400068, [], 8, [⟨0, 64, .ro, 0x0⟩]⟩,
  ⟨"HST_SNAP_TIME", 0x400070, [], 8, [⟨0, 64, .ro, 0x0⟩]⟩,
  ⟨"HST_SNAP_MEMBERS", 0x400078, [], 8, [⟨0, 64, .ro, 0x0⟩]⟩,
  ⟨"HST_SNAP_HELD", 0x400080, [], 8, [⟨0, 64, .ro, 0x0⟩]⟩,
  ⟨"HST_SNAP_FENCED", 0x400088, [], 8, [⟨0, 64, .ro, 0x0⟩]⟩,
  ⟨"HST_SNAP_STATE", 0x400090, [], 4, [⟨0, 4, .ro, 0x0⟩, ⟨4, 7, .ro, 0x0⟩]⟩,
  ⟨"HST_MEMBER_NONCE_LO", 0x404000, [(64, 0x10)], 8, [⟨0, 64, .ro, 0x0⟩]⟩,
  ⟨"HST_MEMBER_NONCE_HI", 0x404008, [(64, 0x10)], 8, [⟨0, 64, .ro, 0x0⟩]⟩,
  ⟨"HST_PQ_BASE", 0x408000, [(64, 0x40)], 8, [⟨0, 64, .rw, 0x0⟩]⟩,
  ⟨"HST_PQ_CPL_BASE", 0x408008, [(64, 0x40)], 8, [⟨0, 64, .rw, 0x0⟩]⟩,
  ⟨"HST_PQ_CFG", 0x408010, [(64, 0x40)], 4, [⟨0, 1, .rw, 0x0⟩, ⟨1, 1, .rw, 0x0⟩, ⟨2, 1, .rw, 0x0⟩, ⟨3, 5, .rw, 0x6⟩, ⟨8, 8, .rw, 0x0⟩]⟩,
  ⟨"HST_PQ_TAIL", 0x408014, [(64, 0x40)], 4, [⟨0, 16, .rw, 0x0⟩]⟩,
  ⟨"HST_PQ_HEAD", 0x408018, [(64, 0x40)], 4, [⟨0, 16, .ro, 0x0⟩]⟩,
  ⟨"HST_PQ_STATUS", 0x40801C, [(64, 0x40)], 4, [⟨0, 8, .ro, 0x0⟩, ⟨8, 8, .ro, 0x0⟩]⟩,
  ⟨"HST_PQ_CPL_TAIL", 0x408020, [(64, 0x40)], 4, [⟨0, 16, .ro, 0x0⟩]⟩,
  ⟨"HST_Q_BASE", 0x410000, [(8, 0x1000), (64, 0x40)], 8, [⟨0, 64, .rw, 0x0⟩]⟩,
  ⟨"HST_Q_CPL_BASE", 0x410008, [(8, 0x1000), (64, 0x40)], 8, [⟨0, 64, .rw, 0x0⟩]⟩]
/-- Register rows, part 3. -/
def regTable3 : List RegRow := [
  ⟨"HST_Q_CFG", 0x410010, [(8, 0x1000), (64, 0x40)], 4, [⟨0, 1, .rw, 0x0⟩, ⟨1, 1, .rw, 0x0⟩, ⟨2, 1, .rw, 0x0⟩, ⟨3, 5, .rw, 0x6⟩, ⟨8, 8, .rw, 0x0⟩]⟩,
  ⟨"HST_Q_TAIL", 0x410014, [(8, 0x1000), (64, 0x40)], 4, [⟨0, 16, .rw, 0x0⟩]⟩,
  ⟨"HST_Q_HEAD", 0x410018, [(8, 0x1000), (64, 0x40)], 4, [⟨0, 16, .ro, 0x0⟩]⟩,
  ⟨"HST_Q_STATUS", 0x41001C, [(8, 0x1000), (64, 0x40)], 4, [⟨0, 8, .ro, 0x0⟩, ⟨8, 8, .ro, 0x0⟩]⟩,
  ⟨"HST_Q_CPL_TAIL", 0x410020, [(8, 0x1000), (64, 0x40)], 4, [⟨0, 16, .ro, 0x0⟩]⟩,
  ⟨"HST_VF_BAR4_WINDOW", 0x480000, [(8, 0x8)], 8, [⟨0, 48, .rw, 0x0⟩, ⟨48, 6, .rw, 0x0⟩]⟩,
  ⟨"SCH_INST_STATE", 0x600000, [(8, 0x40)], 4, [⟨0, 1, .ro, 0x0⟩, ⟨1, 1, .ro, 0x0⟩, ⟨16, 16, .ro, 0x0⟩]⟩,
  ⟨"SCH_INST_CORES", 0x600004, [(8, 0x40)], 4, [⟨0, 16, .ro, 0x0⟩]⟩,
  ⟨"SCH_INST_MEM", 0x600008, [(8, 0x40)], 4, [⟨0, 8, .ro, 0x0⟩, ⟨8, 9, .ro, 0x0⟩, ⟨17, 10, .ro, 0x0⟩]⟩,
  ⟨"SCH_INST_RANGES", 0x60000C, [(8, 0x40)], 4, [⟨0, 6, .ro, 0x0⟩, ⟨6, 7, .ro, 0x0⟩, ⟨13, 6, .ro, 0x0⟩, ⟨19, 7, .ro, 0x0⟩]⟩,
  ⟨"SCH_INST_WEIGHTS", 0x600010, [(8, 0x40)], 4, [⟨0, 8, .ro, 0x0⟩, ⟨8, 8, .ro, 0x0⟩, ⟨16, 8, .ro, 0x0⟩]⟩,
  ⟨"SCH_INST_DISPATCHED", 0x600018, [(8, 0x40)], 8, [⟨0, 64, .rw, 0x0⟩]⟩,
  ⟨"SCH_INST_AFF_HITS", 0x600020, [(8, 0x40)], 8, [⟨0, 64, .rw, 0x0⟩]⟩,
  ⟨"SCH_WATCHDOG", 0x600400, [], 4, [⟨0, 17, .rw, 0x64⟩]⟩,
  ⟨"SCH_POOL_TIMEOUT", 0x600404, [], 4, [⟨0, 16, .rw, 0xA⟩]⟩,
  ⟨"SCH_TIMEOUTS", 0x600408, [], 4, [⟨0, 32, .rw, 0x0⟩]⟩,
  ⟨"SCH_ABANDONED", 0x60040C, [], 4, [⟨0, 32, .rw, 0x0⟩]⟩,
  ⟨"SCH_FIREWALL_DENIED", 0x600410, [], 4, [⟨0, 32, .rw, 0x0⟩]⟩,
  ⟨"SCH_STALE_WRITES", 0x600414, [], 4, [⟨0, 32, .rw, 0x0⟩]⟩,
  ⟨"SCH_CORE", 0x601000, [(128, 0x8)], 8, [⟨0, 32, .ro, 0x0⟩, ⟨32, 3, .ro, 0x0⟩, ⟨35, 1, .ro, 0x0⟩, ⟨36, 3, .ro, 0x0⟩, ⟨39, 1, .ro, 0x0⟩]⟩]
/-- Register rows, part 4. -/
def regTable4 : List RegRow := [
  ⟨"SCH_SEM", 0x700000, [(4096, 0x8)], 8, [⟨0, 16, .rw, 0x0⟩, ⟨16, 1, .ro, 0x0⟩, ⟨17, 1, .ro, 0x0⟩, ⟨18, 7, .ro, 0x0⟩, ⟨25, 3, .ro, 0x0⟩, ⟨32, 8, .ro, 0x0⟩, ⟨48, 16, .ro, 0x0⟩]⟩,
  ⟨"SCH_BOB_VALUE", 0x780000, [(1024, 0x10)], 4, [⟨0, 32, .rw, 0x0⟩]⟩,
  ⟨"SCH_BOB_LIMIT", 0x780004, [(1024, 0x10)], 4, [⟨0, 32, .rw, 0xFFFFFFFF⟩]⟩,
  ⟨"SCH_BOB_STATUS", 0x780008, [(1024, 0x10)], 4, [⟨0, 16, .rw, 0x0⟩, ⟨16, 1, .ro, 0x0⟩]⟩,
  ⟨"SCH_POOL_CFG", 0x7C0000, [(64, 0x40)], 4, [⟨0, 3, .rw, 0x0⟩, ⟨3, 1, .rw, 0x0⟩, ⟨8, 13, .rw, 0x0⟩]⟩,
  ⟨"SCH_POOL_BASE", 0x7C0008, [(64, 0x40)], 8, [⟨0, 48, .rw, 0x0⟩]⟩,
  ⟨"SCH_POOL_SLOT", 0x7C0010, [(64, 0x40)], 4, [⟨0, 32, .rw, 0x0⟩]⟩,
  ⟨"SCH_POOL_TAKE", 0x7C0018, [(64, 0x40)], 8, [⟨0, 48, .ro, 0x0⟩, ⟨56, 8, .ro, 0x0⟩]⟩,
  ⟨"SCH_POOL_RETURN", 0x7C0020, [(64, 0x40)], 8, [⟨0, 48, .wo, 0x0⟩]⟩,
  ⟨"SCH_POOL_STATUS", 0x7C0028, [(64, 0x40)], 4, [⟨0, 13, .ro, 0x0⟩, ⟨13, 8, .ro, 0x0⟩]⟩,
  ⟨"SCH_POOL_EMPTY_COUNT", 0x7C002C, [(64, 0x40)], 4, [⟨0, 32, .rw, 0x0⟩]⟩,
  ⟨"SCH_POOL_BAD_RETURNS", 0x7C0030, [(64, 0x40)], 4, [⟨0, 32, .rw, 0x0⟩]⟩,
  ⟨"MEM_OVC_GRANULE", 0x800000, [(96, 0x4)], 4, [⟨0, 1, .ro, 0x0⟩, ⟨1, 3, .ro, 0x0⟩, ⟨4, 1, .ro, 0x0⟩, ⟨5, 1, .ro, 0x0⟩, ⟨6, 2, .ro, 0x0⟩]⟩,
  ⟨"MEM_OVC_QUOTA", 0x800200, [(4, 0x20), (8, 0x4)], 4, [⟨0, 16, .ro, 0x0⟩]⟩,
  ⟨"MEM_OVC_HELD", 0x800280, [(4, 0x20), (8, 0x4)], 4, [⟨0, 23, .ro, 0x0⟩]⟩,
  ⟨"MEM_LATE_TIMEOUT", 0x800400, [], 4, [⟨0, 10, .rw, 0x32⟩]⟩,
  ⟨"MEM_LTF_STEP", 0x800404, [], 4, [⟨0, 8, .ro, 0x0⟩]⟩,
  ⟨"MEM_LTF_COUNT", 0x800408, [], 4, [⟨0, 32, .rw, 0x0⟩]⟩,
  ⟨"MEM_LATE_DISCARDS", 0x80040C, [], 4, [⟨0, 32, .rw, 0x0⟩]⟩,
  ⟨"MEM_OVC_STATUS", 0x801000, [(4, 0x100)], 4, [⟨0, 5, .ro, 0x0⟩, ⟨5, 1, .ro, 0x0⟩, ⟨6, 1, .ro, 0x0⟩]⟩]
/-- Register rows, part 5. -/
def regTable5 : List RegRow := [
  ⟨"MEM_OVC_HITS", 0x801008, [(4, 0x100)], 8, [⟨0, 64, .rw, 0x0⟩]⟩,
  ⟨"MEM_OVC_MISSES", 0x801010, [(4, 0x100)], 8, [⟨0, 64, .rw, 0x0⟩]⟩,
  ⟨"MEM_OVC_WRITEBACKS", 0x801018, [(4, 0x100)], 8, [⟨0, 64, .rw, 0x0⟩]⟩,
  ⟨"MEM_OVC_DIRTY", 0x801020, [(4, 0x100)], 4, [⟨0, 32, .ro, 0x0⟩]⟩,
  ⟨"MEM_OVC_POISONED", 0x801024, [(4, 0x100)], 4, [⟨0, 32, .ro, 0x0⟩]⟩,
  ⟨"MEM_HBM_STATUS", 0x802000, [(8, 0x100)], 4, [⟨0, 1, .ro, 0x0⟩, ⟨1, 2, .ro, 0x0⟩, ⟨3, 8, .ro, 0x0⟩, ⟨11, 8, .ro, 0x0⟩]⟩,
  ⟨"MEM_HBM_CE", 0x802004, [(8, 0x100)], 4, [⟨0, 32, .rw, 0x0⟩]⟩,
  ⟨"MEM_HBM_UE", 0x802008, [(8, 0x100)], 4, [⟨0, 32, .rw, 0x0⟩]⟩,
  ⟨"MEM_HBM_LATE", 0x80200C, [(8, 0x100)], 4, [⟨0, 32, .rw, 0x0⟩]⟩,
  ⟨"MEM_HBM_ERR_ADDR", 0x802010, [(8, 0x100)], 8, [⟨0, 48, .ro, 0x0⟩, ⟨48, 1, .ro, 0x0⟩]⟩,
  ⟨"MEM_HBM_ADDS", 0x802018, [(8, 0x100)], 8, [⟨0, 64, .rw, 0x0⟩]⟩,
  ⟨"MEM_DT_STATUS", 0x803000, [(8, 0x100)], 4, [⟨0, 1, .ro, 0x0⟩]⟩,
  ⟨"MEM_DT_CE", 0x803004, [(8, 0x100)], 4, [⟨0, 32, .rw, 0x0⟩]⟩,
  ⟨"MEM_DT_UE", 0x803008, [(8, 0x100)], 4, [⟨0, 32, .rw, 0x0⟩]⟩,
  ⟨"MEM_DT_LATE", 0x80300C, [(8, 0x100)], 4, [⟨0, 32, .rw, 0x0⟩]⟩,
  ⟨"MEM_DT_ERR_ADDR", 0x803010, [(8, 0x100)], 8, [⟨0, 48, .ro, 0x0⟩, ⟨48, 1, .ro, 0x0⟩]⟩,
  ⟨"MEM_UPD_STATUS", 0x808000, [(4, 0x100)], 4, [⟨0, 6, .ro, 0x0⟩, ⟨6, 1, .ro, 0x0⟩, ⟨7, 1, .ro, 0x0⟩, ⟨8, 3, .ro, 0x0⟩, ⟨16, 8, .ro, 0x0⟩]⟩,
  ⟨"MEM_UPD_FLAGS", 0x808004, [(4, 0x100)], 4, [⟨0, 8, .ro, 0x0⟩, ⟨8, 8, .w1c, 0x0⟩]⟩,
  ⟨"MEM_UPD_ELEMENTS", 0x808008, [(4, 0x100)], 8, [⟨0, 64, .rw, 0x0⟩]⟩,
  ⟨"MEM_UPD_SKIPPED", 0x808010, [(4, 0x100)], 4, [⟨0, 32, .rw, 0x0⟩]⟩]
/-- Register rows, part 6. -/
def regTable6 : List RegRow := [
  ⟨"MEM_UPD_WIN_BASE", 0x809000, [(8, 0x100), (8, 0x10)], 8, [⟨0, 48, .rw, 0x0⟩]⟩,
  ⟨"MEM_UPD_WIN_LIMIT", 0x809008, [(8, 0x100), (8, 0x10)], 8, [⟨0, 48, .rw, 0x0⟩]⟩,
  ⟨"KV_SPACE_CFG", 0xA00000, [(8, 0x100)], 4, [⟨0, 1, .rw, 0x0⟩, ⟨1, 2, .rw, 0x0⟩, ⟨3, 4, .rw, 0x0⟩, ⟨7, 2, .rw, 0x0⟩, ⟨16, 8, .rw, 0x0⟩, ⟨24, 7, .rw, 0x0⟩, ⟨31, 1, .ro, 0x0⟩]⟩,
  ⟨"KV_SPACE_OWNER", 0xA00004, [(8, 0x100)], 4, [⟨0, 3, .rw, 0x0⟩]⟩,
  ⟨"KV_SPACE_LIMITS", 0xA00008, [(8, 0x100)], 4, [⟨0, 17, .rw, 0x0⟩, ⟨17, 13, .rw, 0x0⟩]⟩,
  ⟨"KV_POOL_FRAMES", 0xA0000C, [(8, 0x100)], 4, [⟨0, 24, .rw, 0x0⟩]⟩,
  ⟨"KV_L1_BASE", 0xA00010, [(8, 0x100)], 8, [⟨0, 48, .rw, 0x0⟩]⟩,
  ⟨"KV_L2_BASE", 0xA00018, [(8, 0x100)], 8, [⟨0, 48, .rw, 0x0⟩]⟩,
  ⟨"KV_POOL_BASE", 0xA00020, [(8, 0x100)], 8, [⟨0, 48, .rw, 0x0⟩]⟩,
  ⟨"KV_TREE_BASE", 0xA00028, [(8, 0x100)], 8, [⟨0, 48, .rw, 0x0⟩]⟩,
  ⟨"KV_TOKEN_BASE", 0xA00030, [(8, 0x100)], 8, [⟨0, 48, .rw, 0x0⟩]⟩,
  ⟨"KV_FRAMES_FREE", 0xA00038, [(8, 0x100)], 4, [⟨0, 24, .ro, 0x0⟩]⟩,
  ⟨"KV_FRAMES_EVICTABLE", 0xA0003C, [(8, 0x100)], 4, [⟨0, 24, .ro, 0x0⟩]⟩,
  ⟨"KV_FRAMES_RESERVED", 0xA00040, [(8, 0x100)], 4, [⟨0, 24, .ro, 0x0⟩]⟩,
  ⟨"KV_OPEN_SEQS", 0xA00044, [(8, 0x100)], 4, [⟨0, 17, .ro, 0x0⟩]⟩,
  ⟨"KV_FULL_COUNT", 0xA00048, [(8, 0x100)], 4, [⟨0, 32, .rw, 0x0⟩]⟩,
  ⟨"KV_PREFIX_HITS", 0xA00050, [(8, 0x100)], 8, [⟨0, 64, .rw, 0x0⟩]⟩,
  ⟨"KV_EVICTIONS", 0xA00058, [(8, 0x100)], 8, [⟨0, 64, .rw, 0x0⟩]⟩,
  ⟨"KV_COW_COPIES", 0xA00060, [(8, 0x100)], 4, [⟨0, 32, .rw, 0x0⟩]⟩,
  ⟨"KV_HASH_MISMATCH", 0xA00064, [(8, 0x100)], 4, [⟨0, 32, .rw, 0x0⟩]⟩]
/-- Register rows, part 7. -/
def regTable7 : List RegRow := [
  ⟨"KV_WLK_HITS", 0xA01000, [(4, 0x100)], 8, [⟨0, 64, .rw, 0x0⟩]⟩,
  ⟨"KV_WLK_MISSES", 0xA01008, [(4, 0x100)], 8, [⟨0, 64, .rw, 0x0⟩]⟩,
  ⟨"SEAM_ENG_STATUS", 0xC00000, [(4, 0x100)], 4, [⟨0, 6, .ro, 0x0⟩, ⟨6, 3, .ro, 0x0⟩, ⟨16, 8, .ro, 0x0⟩]⟩,
  ⟨"SEAM_ENG_FLAGS", 0xC00004, [(4, 0x100)], 4, [⟨0, 8, .ro, 0x0⟩, ⟨8, 8, .w1c, 0x0⟩]⟩,
  ⟨"SEAM_ENG_BYTES", 0xC00008, [(4, 0x100)], 8, [⟨0, 64, .rw, 0x0⟩]⟩,
  ⟨"SEAM_ENG_ITEMS", 0xC00010, [(4, 0x100)], 8, [⟨0, 64, .rw, 0x0⟩]⟩,
  ⟨"SEAM_ENG_ABORTS", 0xC00018, [(4, 0x100)], 4, [⟨0, 32, .rw, 0x0⟩]⟩,
  ⟨"SEAM_ENG_INT_WRAPS", 0xC0001C, [(4, 0x100)], 4, [⟨0, 32, .rw, 0x0⟩]⟩,
  ⟨"SEAM_GRP_BASE", 0xC04000, [(8, 0x200), (16, 0x10)], 8, [⟨0, 48, .rw, 0x0⟩, ⟨48, 1, .rw, 0x0⟩, ⟨49, 1, .ro, 0x0⟩]⟩,
  ⟨"SEAM_GRP_CALL", 0xC04008, [(8, 0x200), (16, 0x10)], 8, [⟨0, 64, .rw, 0x0⟩]⟩,
  ⟨"SEAM_PEER_TIMEOUT", 0xC04100, [(8, 0x200)], 4, [⟨0, 20, .rw, 0xC8⟩]⟩,
  ⟨"SEAM_VOTE_CFG", 0xC08000, [(8, 0x100)], 4, [⟨0, 1, .rw, 0x0⟩, ⟨1, 1, .rw, 0x0⟩, ⟨2, 1, .rw, 0x0⟩, ⟨3, 1, .rw, 0x0⟩, ⟨8, 8, .rw, 0xC⟩, ⟨16, 10, .rw, 0x28⟩]⟩,
  ⟨"SEAM_VOTE_TREE", 0xC08004, [(8, 0x100)], 4, [⟨0, 6, .rw, 0x0⟩, ⟨6, 7, .rw, 0x0⟩, ⟨16, 16, .rw, 0x0⟩]⟩,
  ⟨"SEAM_VOTE_CHILDREN", 0xC08008, [(8, 0x100)], 8, [⟨0, 64, .rw, 0x0⟩]⟩,
  ⟨"SEAM_VOTE_MEMBERS", 0xC08010, [(8, 0x100)], 8, [⟨0, 64, .rw, 0x0⟩]⟩,
  ⟨"SEAM_VOTE_PODS_LO", 0xC08018, [(8, 0x100)], 8, [⟨0, 64, .rw, 0x0⟩]⟩,
  ⟨"SEAM_VOTE_PODS_HI", 0xC08020, [(8, 0x100)], 8, [⟨0, 64, .rw, 0x0⟩]⟩,
  ⟨"SEAM_NORM_BOUND", 0xC08028, [(8, 0x100)], 4, [⟨0, 32, .rw, 0x7F800000⟩]⟩,
  ⟨"SEAM_QUERY_AFTER", 0xC0802C, [(8, 0x100)], 4, [⟨0, 16, .rw, 0x32⟩]⟩,
  ⟨"SEAM_STEP_COMMITTED", 0xC08030, [(8, 0x100)], 8, [⟨0, 64, .ro, 0xFFFFFFFFFFFFFFFF⟩]⟩]
/-- Register rows, part 8. -/
def regTable8 : List RegRow := [
  ⟨"SEAM_STEP_DECIDED", 0xC08038, [(8, 0x100)], 8, [⟨0, 64, .ro, 0xFFFFFFFFFFFFFFFF⟩]⟩,
  ⟨"SEAM_VOTE_STATUS", 0xC08040, [(8, 0x100)], 4, [⟨0, 3, .ro, 0x0⟩, ⟨3, 1, .ro, 0x0⟩, ⟨4, 8, .ro, 0x0⟩, ⟨12, 6, .ro, 0x0⟩, ⟨18, 1, .ro, 0x0⟩, ⟨19, 1, .ro, 0x0⟩, ⟨20, 3, .rw, 0x0⟩]⟩,
  ⟨"SEAM_LAST_CAUSES", 0xC08048, [(8, 0x100)], 8, [⟨0, 64, .ro, 0x0⟩]⟩,
  ⟨"SEAM_GNS_SUMS", 0xC08050, [(8, 0x100)], 8, [⟨0, 32, .ro, 0x0⟩, ⟨32, 32, .ro, 0x0⟩]⟩,
  ⟨"SEAM_GNS_STEP", 0xC08058, [(8, 0x100)], 8, [⟨0, 64, .ro, 0x0⟩]⟩,
  ⟨"SEAM_COMMITS", 0xC08060, [(8, 0x100)], 8, [⟨0, 64, .rw, 0x0⟩]⟩,
  ⟨"SEAM_SKIPS", 0xC08068, [(8, 0x100)], 8, [⟨0, 64, .rw, 0x0⟩]⟩,
  ⟨"SEAM_LATE_VOTES", 0xC08070, [(8, 0x100)], 4, [⟨0, 32, .rw, 0x0⟩]⟩,
  ⟨"SEAM_DROPPED_RECORDS", 0xC08074, [(8, 0x100)], 4, [⟨0, 32, .rw, 0x0⟩]⟩,
  ⟨"SEAM_QUERIES", 0xC08078, [(8, 0x100)], 4, [⟨0, 32, .rw, 0x0⟩]⟩,
  ⟨"SEAM_APPLY_DEADLINE", 0xC0807C, [(8, 0x100)], 4, [⟨0, 16, .rw, 0x3E8⟩]⟩,
  ⟨"FAB_UDP_PORT", 0xE00000, [], 4, [⟨0, 16, .rwl, 0x4A42⟩]⟩,
  ⟨"FAB_ACK_CFG", 0xE00004, [], 4, [⟨0, 14, .rw, 0x7D0⟩, ⟨14, 7, .rw, 0x19⟩, ⟨21, 4, .rw, 0x7⟩]⟩,
  ⟨"FAB_RC_CFG", 0xE00008, [], 4, [⟨0, 8, .rw, 0x4⟩, ⟨8, 8, .rw, 0x20⟩, ⟨16, 8, .rw, 0x10⟩, ⟨24, 8, .rw, 0xA⟩]⟩,
  ⟨"FAB_PTP_CFG", 0xE0000C, [], 4, [⟨0, 8, .rwl, 0x0⟩, ⟨8, 1, .rwl, 0x0⟩, ⟨9, 7, .rwl, 0x0⟩, ⟨16, 3, .rwl, 0x7⟩]⟩,
  ⟨"FAB_PTP_STATUS", 0xE00010, [], 4, [⟨0, 2, .ro, 0x0⟩, ⟨2, 1, .ro, 0x0⟩]⟩,
  ⟨"FAB_PTP_OFFSET", 0xE00018, [], 8, [⟨0, 64, .ro, 0x0⟩]⟩,
  ⟨"FAB_TXN_INUSE", 0xE00020, [(4, 0x4)], 4, [⟨0, 16, .ro, 0x0⟩, ⟨16, 16, .rw, 0x0⟩]⟩,
  ⟨"FAB_SESS_INDEX", 0xE00030, [], 4, [⟨0, 12, .rw, 0x0⟩]⟩,
  ⟨"FAB_SESS_STATUS", 0xE00034, [], 4, [⟨0, 3, .ro, 0x0⟩, ⟨3, 7, .ro, 0x0⟩, ⟨10, 3, .ro, 0x0⟩, ⟨16, 13, .ro, 0x0⟩]⟩]
/-- Register rows, part 9. -/
def regTable9 : List RegRow := [
  ⟨"FAB_SESS_RATE", 0xE00038, [], 4, [⟨0, 13, .ro, 0x200⟩]⟩,
  ⟨"FAB_SESS_TX_PKTS", 0xE00040, [], 8, [⟨0, 64, .rw, 0x0⟩]⟩,
  ⟨"FAB_SESS_RETX", 0xE00048, [], 4, [⟨0, 32, .rw, 0x0⟩]⟩,
  ⟨"FAB_SESS_ACK_DEADLINE", 0xE0004C, [], 4, [⟨0, 32, .rw, 0x0⟩]⟩,
  ⟨"FAB_PORT_CFG", 0xE01000, [(24, 0x40)], 4, [⟨0, 2, .ro, 0x0⟩, ⟨2, 2, .ro, 0x0⟩]⟩,
  ⟨"FAB_PORT_STATUS", 0xE01004, [(24, 0x40)], 4, [⟨0, 8, .ro, 0x0⟩, ⟨8, 4, .ro, 0x0⟩, ⟨12, 1, .ro, 0x0⟩]⟩,
  ⟨"FAB_PORT_FEC_CORR", 0xE01008, [(24, 0x40)], 8, [⟨0, 64, .rw, 0x0⟩]⟩,
  ⟨"FAB_PORT_FEC_UNCORR", 0xE01010, [(24, 0x40)], 8, [⟨0, 64, .rw, 0x0⟩]⟩,
  ⟨"FAB_LP_CFG", 0xE02000, [(96, 0x40)], 4, [⟨0, 8, .rw, 0x8⟩, ⟨8, 8, .rw, 0x4⟩, ⟨16, 8, .rw, 0x4⟩, ⟨24, 1, .ro, 0x0⟩]⟩,
  ⟨"FAB_LP_ACK_DEADLINE", 0xE02004, [(96, 0x40)], 4, [⟨0, 32, .rw, 0x0⟩]⟩,
  ⟨"FAB_LP_TX_BYTES", 0xE02008, [(96, 0x40)], 8, [⟨0, 64, .rw, 0x0⟩]⟩,
  ⟨"FAB_LP_RX_BYTES", 0xE02010, [(96, 0x40)], 8, [⟨0, 64, .rw, 0x0⟩]⟩,
  ⟨"FAB_LP_STRANGER_DROP", 0xE02018, [(96, 0x40)], 8, [⟨0, 64, .rw, 0x0⟩]⟩,
  ⟨"FAB_LP_AUTH_DROP", 0xE02020, [(96, 0x40)], 4, [⟨0, 32, .rw, 0x0⟩]⟩,
  ⟨"FAB_LP_RX_ERRORS", 0xE02024, [(96, 0x40)], 4, [⟨0, 32, .rw, 0x0⟩]⟩,
  ⟨"FAB_LP_RX_OVERRUN", 0xE02028, [(96, 0x40)], 4, [⟨0, 32, .rw, 0x0⟩]⟩,
  ⟨"FAB_LP_ECN_CE", 0xE0202C, [(96, 0x40)], 4, [⟨0, 32, .rw, 0x0⟩]⟩,
  ⟨"FAB_LP_ADDR", 0xE02030, [(96, 0x40), (4, 0x4)], 4, [⟨0, 32, .ro, 0x0⟩]⟩,
  ⟨"FAB_ROUTE", 0xE04000, [(8, 0x100), (64, 0x4)], 4, [⟨0, 12, .rw, 0x0⟩, ⟨12, 1, .rw, 0x0⟩, ⟨16, 12, .rw, 0x0⟩, ⟨28, 1, .rw, 0x0⟩]⟩,
  ⟨"FAB_LP_DUPLICATES", 0xE05000, [(96, 0x8)], 4, [⟨0, 32, .rw, 0x0⟩]⟩]
/-- Register rows, part 10. -/
def regTable10 : List RegRow := [
  ⟨"FAB_LP_STALE", 0xE05004, [(96, 0x8)], 4, [⟨0, 32, .rw, 0x0⟩]⟩,
  ⟨"ING_LIM_IMAGE", 0x1000000, [], 4, [⟨0, 15, .rw, 0x4000⟩, ⟨16, 15, .rw, 0x4000⟩]⟩,
  ⟨"ING_LIM_RECORD", 0x1000004, [], 4, [⟨0, 9, .rw, 0x100⟩]⟩,
  ⟨"ING_LIM_AUDIO", 0x1000008, [], 4, [⟨0, 10, .rw, 0x258⟩]⟩,
  ⟨"ING_STATUS", 0x100000C, [], 4, [⟨0, 8, .ro, 0x0⟩, ⟨8, 8, .ro, 0x0⟩]⟩,
  ⟨"ING_RING_BASE", 0x1001000, [(8, 0x80)], 8, [⟨0, 64, .rw, 0x0⟩]⟩,
  ⟨"ING_RING_CPL_BASE", 0x1001008, [(8, 0x80)], 8, [⟨0, 64, .rw, 0x0⟩]⟩,
  ⟨"ING_RING_CFG", 0x1001010, [(8, 0x80)], 4, [⟨0, 1, .rw, 0x0⟩, ⟨1, 1, .rw, 0x0⟩, ⟨2, 4, .rw, 0x4⟩, ⟨8, 8, .rw, 0x0⟩]⟩,
  ⟨"ING_RING_TAIL", 0x1001014, [(8, 0x80)], 4, [⟨0, 12, .rw, 0x0⟩]⟩,
  ⟨"ING_RING_HEAD", 0x1001018, [(8, 0x80)], 4, [⟨0, 12, .ro, 0x0⟩]⟩,
  ⟨"ING_RING_STATUS", 0x100101C, [(8, 0x80)], 4, [⟨0, 8, .ro, 0x0⟩, ⟨8, 8, .ro, 0x0⟩]⟩,
  ⟨"ING_CNT_SAMPLES", 0x1001020, [(8, 0x80)], 8, [⟨0, 64, .rw, 0x0⟩]⟩,
  ⟨"ING_CNT_TRUNC", 0x1001028, [(8, 0x80)], 4, [⟨0, 32, .rw, 0x0⟩]⟩,
  ⟨"ING_CNT_PADDED", 0x100102C, [(8, 0x80)], 4, [⟨0, 32, .rw, 0x0⟩]⟩,
  ⟨"ING_CNT_SUBST", 0x1001030, [(8, 0x80)], 4, [⟨0, 32, .rw, 0x0⟩]⟩,
  ⟨"ING_CNT_REJECT", 0x1001034, [(8, 0x80)], 4, [⟨0, 32, .rw, 0x0⟩]⟩,
  ⟨"ING_RESYNC_BYTES", 0x1001038, [(8, 0x80)], 8, [⟨0, 64, .rw, 0x0⟩]⟩,
  ⟨"ING_RESYNC_EVENTS", 0x1001040, [(8, 0x80)], 4, [⟨0, 32, .rw, 0x0⟩]⟩,
  ⟨"ING_STRM_CFG", 0x1004000, [(32, 0x100)], 4, [⟨0, 1, .rw, 0x0⟩, ⟨1, 2, .rw, 0x0⟩, ⟨3, 3, .rw, 0x0⟩, ⟨6, 1, .rw, 0x0⟩, ⟨7, 2, .rw, 0x0⟩, ⟨9, 7, .rw, 0x0⟩, ⟨16, 10, .rw, 0x0⟩, ⟨26, 1, .rw, 0x0⟩]⟩,
  ⟨"ING_STRM_LIVE", 0x1004004, [(32, 0x100)], 4, [⟨0, 16, .rw, 0xC350⟩, ⟨16, 12, .rw, 0x0⟩, ⟨28, 1, .rw, 0x1⟩]⟩]
/-- Register rows, part 11. -/
def regTable11 : List RegRow := [
  ⟨"ING_STRM_SEQ", 0x1004008, [(32, 0x100)], 8, [⟨0, 64, .ro, 0x0⟩]⟩,
  ⟨"ING_STRM_SET_ADDR", 0x1004010, [(32, 0x100)], 8, [⟨0, 48, .rw, 0x0⟩]⟩,
  ⟨"ING_STRM_SET_TARGET", 0x1004018, [(32, 0x100)], 8, [⟨0, 64, .wo, 0x0⟩]⟩,
  ⟨"ING_STRM_STATUS", 0x1004020, [(32, 0x100)], 4, [⟨0, 16, .ro, 0x0⟩, ⟨16, 3, .ro, 0x0⟩, ⟨19, 1, .w1c, 0x0⟩, ⟨20, 1, .w1c, 0x0⟩, ⟨21, 1, .ro, 0x0⟩]⟩,
  ⟨"ING_STRM_SSRC", 0x1004024, [(32, 0x100)], 4, [⟨0, 32, .rw, 0x0⟩]⟩,
  ⟨"ING_STRM_REC_BASE", 0x1004028, [(32, 0x100)], 8, [⟨0, 48, .rw, 0x0⟩, ⟨48, 4, .rw, 0x0⟩]⟩,
  ⟨"ING_STRM_STAT_BASE", 0x1004030, [(32, 0x100)], 8, [⟨0, 48, .rw, 0x0⟩, ⟨48, 4, .rw, 0x0⟩]⟩,
  ⟨"ING_STRM_ROI", 0x1004038, [(32, 0x100)], 8, [⟨0, 16, .ro, 0x0⟩, ⟨16, 16, .ro, 0x0⟩, ⟨32, 16, .ro, 0x0⟩, ⟨48, 16, .ro, 0x0⟩]⟩,
  ⟨"ING_STRM_FRAMES", 0x1004040, [(32, 0x100)], 8, [⟨0, 64, .rw, 0x0⟩]⟩,
  ⟨"ING_STRM_LIVE_LATE", 0x1004048, [(32, 0x100)], 4, [⟨0, 32, .rw, 0x0⟩]⟩,
  ⟨"ING_STRM_NOSLOT", 0x100404C, [(32, 0x100)], 4, [⟨0, 32, .rw, 0x0⟩]⟩,
  ⟨"ING_STRM_FOREIGN", 0x1004050, [(32, 0x100)], 4, [⟨0, 32, .rw, 0x0⟩]⟩,
  ⟨"CDC_ENG_STATUS", 0x1200000, [(10, 0x40)], 4, [⟨0, 2, .ro, 0x0⟩, ⟨2, 6, .ro, 0x0⟩, ⟨8, 1, .ro, 0x0⟩]⟩,
  ⟨"CDC_ENG_LIVE_RES", 0x1200004, [(10, 0x40)], 4, [⟨0, 9, .ro, 0x0⟩]⟩,
  ⟨"CDC_ENG_OVER_RES", 0x1200008, [(10, 0x40)], 4, [⟨0, 32, .rw, 0x0⟩]⟩,
  ⟨"CDC_ENG_PIXELS", 0x1200010, [(10, 0x40)], 8, [⟨0, 64, .rw, 0x0⟩]⟩,
  ⟨"CDC_DEC_CFG", 0x1201000, [(32, 0x10)], 4, [⟨0, 2, .rw, 0x2⟩, ⟨2, 9, .rw, 0x1E0⟩, ⟨11, 1, .w1c, 0x0⟩]⟩,
  ⟨"CDC_DEC_CONCEALED", 0x1201004, [(32, 0x10)], 4, [⟨0, 32, .rw, 0x0⟩]⟩,
  ⟨"CDC_RING_BASE", 0x1202000, [(8, 0x80)], 8, [⟨0, 64, .rw, 0x0⟩]⟩,
  ⟨"CDC_RING_CPL_BASE", 0x1202008, [(8, 0x80)], 8, [⟨0, 64, .rw, 0x0⟩]⟩]
/-- Register rows, part 12. -/
def regTable12 : List RegRow := [
  ⟨"CDC_RING_CFG", 0x1202010, [(8, 0x80)], 4, [⟨0, 1, .rw, 0x0⟩, ⟨1, 1, .rw, 0x0⟩, ⟨2, 4, .rw, 0x4⟩, ⟨8, 8, .rw, 0x0⟩]⟩,
  ⟨"CDC_RING_TAIL", 0x1202014, [(8, 0x80)], 4, [⟨0, 12, .rw, 0x0⟩]⟩,
  ⟨"CDC_RING_HEAD", 0x1202018, [(8, 0x80)], 4, [⟨0, 12, .ro, 0x0⟩]⟩,
  ⟨"CDC_RING_STATUS", 0x120201C, [(8, 0x80)], 4, [⟨0, 8, .ro, 0x0⟩, ⟨8, 8, .ro, 0x0⟩]⟩,
  ⟨"CDC_ENC_CFG", 0x1204000, [(8, 0x80)], 4, [⟨0, 1, .rw, 0x0⟩, ⟨1, 3, .rw, 0x0⟩, ⟨4, 1, .w1c, 0x0⟩, ⟨5, 1, .w1c, 0x0⟩]⟩,
  ⟨"CDC_ENC_SESSION", 0x1204008, [(8, 0x80)], 8, [⟨0, 48, .rw, 0x0⟩]⟩,
  ⟨"CDC_ENC_KEY", 0x1204010, [(8, 0x80)], 4, [⟨0, 1, .wo, 0x0⟩]⟩,
  ⟨"CDC_ENC_STATUS", 0x1204014, [(8, 0x80)], 4, [⟨0, 5, .ro, 0x0⟩, ⟨5, 1, .ro, 0x0⟩, ⟨6, 1, .ro, 0x0⟩]⟩,
  ⟨"CDC_ENC_OUT_READ", 0x1204018, [(8, 0x80)], 4, [⟨0, 30, .rw, 0x0⟩]⟩,
  ⟨"CDC_ENC_PICTURES", 0x1204020, [(8, 0x80)], 8, [⟨0, 64, .rw, 0x0⟩]⟩,
  ⟨"CDC_ENC_LIVE_LATE", 0x1204028, [(8, 0x80)], 4, [⟨0, 32, .rw, 0x0⟩]⟩,
  ⟨"CDC_ENC_KEYS", 0x120402C, [(8, 0x80)], 4, [⟨0, 32, .rw, 0x0⟩]⟩,
  ⟨"RAS_STATUS", 0x1400000, [], 4, [⟨0, 5, .ro, 0x0⟩, ⟨5, 1, .ro, 0x0⟩]⟩,
  ⟨"RAS_MAINT", 0x1400004, [], 4, [⟨0, 1, .rw, 0x0⟩]⟩,
  ⟨"RAS_SCRUB_CFG", 0x1400008, [], 4, [⟨0, 8, .rw, 0x4⟩, ⟨8, 1, .rw, 0x1⟩]⟩,
  ⟨"RAS_LOG_CFG", 0x140000C, [], 4, [⟨0, 1, .rw, 0x1⟩, ⟨1, 1, .rw, 0x0⟩]⟩,
  ⟨"RAS_LOG_HEAD", 0x1400010, [(5, 0x4)], 4, [⟨0, 17, .ro, 0x0⟩]⟩,
  ⟨"RAS_LOG_WIN_SEL", 0x1400024, [], 4, [⟨0, 3, .rw, 0x0⟩, ⟨8, 6, .rw, 0x0⟩]⟩,
  ⟨"RAS_LOG_DROPS", 0x1400028, [(3, 0x4)], 4, [⟨0, 32, .rw, 0x0⟩]⟩,
  ⟨"RAS_LOG_COALESCED", 0x1400034, [], 4, [⟨0, 32, .rw, 0x0⟩]⟩]
/-- Register rows, part 13. -/
def regTable13 : List RegRow := [
  ⟨"RAS_SNAP_COUNT", 0x1400038, [], 4, [⟨0, 16, .ro, 0x0⟩, ⟨16, 4, .ro, 0x0⟩]⟩,
  ⟨"RAS_SRAM_CE", 0x1400040, [(5, 0x8)], 4, [⟨0, 32, .rw, 0x0⟩]⟩,
  ⟨"RAS_SRAM_UE", 0x1400044, [(5, 0x8)], 4, [⟨0, 32, .rw, 0x0⟩]⟩,
  ⟨"RAS_RETIRED", 0x1400080, [(2, 0x8)], 8, [⟨0, 64, .ro, 0x0⟩]⟩,
  ⟨"RAS_SMB_CFG", 0x1400090, [], 4, [⟨0, 7, .ro, 0x4C⟩, ⟨7, 1, .ro, 0x0⟩, ⟨8, 2, .rw, 0x0⟩]⟩,
  ⟨"RAS_SMB_ARB_LOST", 0x1400094, [], 4, [⟨0, 32, .rw, 0x0⟩]⟩,
  ⟨"RAS_SMB_DROPS", 0x1400098, [], 4, [⟨0, 32, .rw, 0x0⟩]⟩,
  ⟨"RAS_TEST_REFUSED", 0x140009C, [], 4, [⟨0, 32, .rw, 0x0⟩]⟩,
  ⟨"RAS_ALARM_CFG", 0x1400100, [(16, 0x10)], 4, [⟨0, 4, .rw, 0x0⟩, ⟨4, 1, .rw, 0x0⟩, ⟨16, 16, .rw, 0x3E8⟩]⟩,
  ⟨"RAS_ALARM_THRESH", 0x1400104, [(16, 0x10)], 4, [⟨0, 32, .rw, 0x0⟩]⟩,
  ⟨"RAS_ALARM_COUNT", 0x1400108, [(16, 0x10)], 4, [⟨0, 32, .ro, 0x0⟩]⟩,
  ⟨"RAS_ALARM_STATUS", 0x1400200, [], 4, [⟨0, 16, .w1c, 0x0⟩]⟩,
  ⟨"CORE_SEQ_CTRL", 0x2000000, [(128, 0x10000)], 4, [⟨0, 1, .wo, 0x0⟩, ⟨1, 1, .wo, 0x0⟩]⟩,
  ⟨"CORE_SEQ_STATUS", 0x2000004, [(128, 0x10000)], 4, [⟨0, 2, .ro, 0x0⟩, ⟨2, 3, .ro, 0x0⟩, ⟨5, 3, .ro, 0x0⟩, ⟨8, 8, .ro, 0x0⟩]⟩,
  ⟨"CORE_SEQ_PC", 0x2000008, [(128, 0x10000)], 8, [⟨0, 48, .ro, 0x0⟩]⟩,
  ⟨"CORE_SEQ_FAULT", 0x2000010, [(128, 0x10000)], 4, [⟨0, 8, .ro, 0x0⟩, ⟨8, 3, .ro, 0x0⟩, ⟨11, 1, .ro, 0x0⟩, ⟨12, 4, .ro, 0x0⟩]⟩,
  ⟨"CORE_SEQ_FAULT_PC", 0x2000018, [(128, 0x10000)], 8, [⟨0, 48, .ro, 0x0⟩]⟩,
  ⟨"CORE_SEQ_FAULT_ADDR", 0x2000020, [(128, 0x10000)], 8, [⟨0, 54, .ro, 0x0⟩]⟩,
  ⟨"CORE_SEQ_BUNDLES", 0x2000028, [(128, 0x10000)], 8, [⟨0, 64, .rw, 0x0⟩]⟩,
  ⟨"CORE_SEQ_STALLS", 0x2000030, [(128, 0x10000)], 8, [⟨0, 64, .rw, 0x0⟩]⟩]
/-- Register rows, part 14. -/
def regTable14 : List RegRow := [
  ⟨"CORE_SEQ_IREG", 0x2000040, [(128, 0x10000), (4, 0x8)], 8, [⟨0, 48, .rw, 0x0⟩, ⟨48, 16, .rw, 0x0⟩]⟩,
  ⟨"CORE_SEQ_ICACHE_MISSES", 0x2000060, [(128, 0x10000)], 4, [⟨0, 32, .rw, 0x0⟩]⟩,
  ⟨"CORE_FP_FLAGS", 0x2000100, [(128, 0x10000)], 4, [⟨0, 1, .ro, 0x0⟩, ⟨1, 1, .w1c, 0x0⟩, ⟨2, 1, .w1c, 0x0⟩, ⟨3, 1, .w1c, 0x0⟩, ⟨4, 3, .ro, 0x0⟩]⟩,
  ⟨"CORE_FP_CTRL", 0x2000104, [(128, 0x10000)], 4, [⟨0, 1, .rw, 0x0⟩]⟩,
  ⟨"CORE_RNG_SEED", 0x2000108, [(128, 0x10000)], 8, [⟨0, 64, .rw, 0x0⟩]⟩,
  ⟨"CORE_RNG_STEP", 0x2000110, [(128, 0x10000)], 8, [⟨0, 64, .rw, 0x0⟩]⟩,
  ⟨"CORE_SAT_COUNT", 0x2000118, [(128, 0x10000)], 4, [⟨0, 32, .rw, 0x0⟩]⟩,
  ⟨"CORE_ARR_CTRL", 0x2002000, [(128, 0x10000)], 4, [⟨0, 5, .rw, 0xA⟩]⟩,
  ⟨"CORE_ARR_STATUS", 0x2002004, [(128, 0x10000)], 4, [⟨0, 1, .ro, 0x0⟩, ⟨1, 1, .ro, 0x0⟩, ⟨2, 1, .ro, 0x0⟩, ⟨3, 1, .ro, 0x0⟩, ⟨4, 1, .ro, 0x0⟩, ⟨5, 1, .ro, 0x0⟩, ⟨6, 1, .w1c, 0x0⟩]⟩,
  ⟨"CORE_SLV_MISMATCHES", 0x2002008, [(128, 0x10000)], 4, [⟨0, 32, .rw, 0x0⟩]⟩,
  ⟨"CORE_SLV_SKIPPED", 0x200200C, [(128, 0x10000)], 4, [⟨0, 32, .rw, 0x0⟩]⟩,
  ⟨"CORE_SLV_LAST", 0x2002010, [(128, 0x10000)], 4, [⟨0, 12, .ro, 0x0⟩, ⟨12, 1, .ro, 0x0⟩, ⟨13, 1, .ro, 0x0⟩, ⟨14, 1, .ro, 0x0⟩, ⟨16, 16, .ro, 0x0⟩]⟩,
  ⟨"CORE_SLV_LAST_VALUES", 0x2002018, [(128, 0x10000)], 8, [⟨0, 32, .ro, 0x0⟩, ⟨32, 32, .ro, 0x0⟩]⟩,
  ⟨"CORE_ARR_PASSES", 0x2002020, [(128, 0x10000)], 8, [⟨0, 64, .rw, 0x0⟩]⟩,
  ⟨"CORE_ARR_IDLE", 0x2002028, [(128, 0x10000)], 8, [⟨0, 64, .rw, 0x0⟩]⟩,
  ⟨"CORE_ARR_GATED", 0x2002030, [(128, 0x10000)], 8, [⟨0, 64, .rw, 0x0⟩]⟩,
  ⟨"CORE_SKIP_ZERO_ROWS", 0x2002040, [(128, 0x10000)], 8, [⟨0, 64, .rw, 0x0⟩]⟩,
  ⟨"CORE_SKIP_MASK_ROWS", 0x2002048, [(128, 0x10000)], 8, [⟨0, 64, .rw, 0x0⟩]⟩,
  ⟨"CORE_SKIP_BLOCKS", 0x2002050, [(128, 0x10000)], 8, [⟨0, 64, .rw, 0x0⟩]⟩,
  ⟨"CORE_EXP_OVERFLOW", 0x2002058, [(128, 0x10000)], 4, [⟨0, 32, .rw, 0x0⟩]⟩]
/-- Register rows, part 15. -/
def regTable15 : List RegRow := [
  ⟨"CORE_ZSKIP_SUPPRESSED", 0x200205C, [(128, 0x10000)], 4, [⟨0, 32, .rw, 0x0⟩]⟩,
  ⟨"CORE_STG_REGION", 0x2002060, [(128, 0x10000)], 8, [⟨0, 48, .rw, 0x0⟩, ⟨48, 16, .rw, 0x0⟩]⟩,
  ⟨"CORE_STG_BYTES", 0x2002068, [(128, 0x10000)], 8, [⟨0, 64, .rw, 0x0⟩]⟩,
  ⟨"CORE_SFU_CTRL", 0x2004000, [(128, 0x10000)], 4, [⟨0, 1, .rw, 0x0⟩]⟩,
  ⟨"CORE_SFU_STATUS", 0x2004004, [(128, 0x10000)], 4, [⟨0, 1, .ro, 0x0⟩, ⟨1, 1, .ro, 0x0⟩, ⟨2, 4, .ro, 0x0⟩, ⟨6, 1, .ro, 0x0⟩]⟩,
  ⟨"CORE_SFU_ROWS", 0x2004008, [(128, 0x10000)], 8, [⟨0, 64, .rw, 0x0⟩]⟩,
  ⟨"CORE_SFU_STALLS", 0x2004010, [(128, 0x10000)], 8, [⟨0, 64, .rw, 0x0⟩]⟩,
  ⟨"CORE_SFU_MASKED_ROWS", 0x2004018, [(128, 0x10000)], 4, [⟨0, 32, .rw, 0x0⟩]⟩,
  ⟨"CORE_CWU_STATUS", 0x2006000, [(128, 0x10000)], 4, [⟨0, 1, .ro, 0x0⟩, ⟨1, 1, .ro, 0x0⟩, ⟨2, 4, .ro, 0x0⟩, ⟨6, 1, .ro, 0x0⟩]⟩,
  ⟨"CORE_CWU_LAST_BYTES", 0x2006004, [(128, 0x10000)], 4, [⟨0, 32, .ro, 0x0⟩]⟩,
  ⟨"CORE_CWU_LINE_BYTES", 0x2006008, [(128, 0x10000)], 8, [⟨0, 64, .rw, 0x0⟩]⟩,
  ⟨"CORE_CWU_FILL_STALLS", 0x2006010, [(128, 0x10000)], 8, [⟨0, 64, .rw, 0x0⟩]⟩,
  ⟨"CORE_CWU_OUTPUTS", 0x2006018, [(128, 0x10000)], 8, [⟨0, 64, .rw, 0x0⟩]⟩,
  ⟨"CORE_DMA_STATUS", 0x2008000, [(128, 0x10000)], 4, [⟨0, 5, .ro, 0x0⟩, ⟨5, 3, .ro, 0x0⟩, ⟨8, 8, .ro, 0x0⟩, ⟨16, 8, .ro, 0x0⟩]⟩,
  ⟨"CORE_DMA_BYTES", 0x2008008, [(128, 0x10000)], 8, [⟨0, 64, .rw, 0x0⟩]⟩,
  ⟨"CORE_DMA_ITEMS", 0x2008010, [(128, 0x10000)], 8, [⟨0, 64, .rw, 0x0⟩]⟩]
/-- Every register of the region (R28, R29). -/
def regTable : List RegRow :=
  regTable0 ++ regTable1 ++ regTable2 ++ regTable3 ++ regTable4 ++ regTable5 ++ regTable6 ++ regTable7 ++ regTable8 ++ regTable9 ++ regTable10 ++ regTable11 ++ regTable12 ++ regTable13 ++ regTable14 ++ regTable15

/-- Whether `off`, relative to a row's base, is a multiple of the row's strides within its counts. -/
def dimsHit : List (Nat × Nat) → Nat → Bool
  | [], off => off == 0
  | (n, st) :: rest, off => decide (off / st < n) && dimsHit rest (off % st)

/-- The indices that select `off` in a row. -/
def dimsIdx : List (Nat × Nat) → Nat → List Nat
  | [], _ => []
  | (_, st) :: rest, off => off / st :: dimsIdx rest (off % st)

/-- The row that occupies an offset. -/
def RegRow.hit (r : RegRow) (off : Nat) : Bool :=
  decide (r.off ≤ off) && dimsHit r.dims (off - r.off)

/-- The register row at an offset of the register region; none where no register stands (R28). -/
def rowAt (off : Nat) : Option RegRow := regTable.find? (fun r => r.hit off)

/-- The value that a row's fields have at reset. -/
def fieldsReset (fs : List FieldRow) : Nat := fs.foldl (fun a f => a + f.reset * 2 ^ f.lo) 0

/-- The reset value of the register at an offset. The firmware bit of granule 23 of quadrant 0 is fixed (R238). -/
@[irreducible] def regReset (off : Nat) : BitVec 64 :=
  if off = R.MEM_OVC_GRANULE 23 then 0x20 else
  match rowAt off with
  | some r => BitVec.ofNat 64 (fieldsReset r.fields)
  | none => 0

end Sys2Proof
end

