-- ==== Sys2Proof/Machine/Tbl.lean ====
section
/-! DEFINITION. Sparse tables over Nat keys in one canonical form, register fields, and little-endian byte strings. -/
namespace Sys2Proof

/-- A sparse table: key and value pairs; a key that is not listed has the table's default. -/
abbrev Tbl (α : Type) := List (Nat × α)

namespace Tbl

/-- The value at a key; `d` where none is listed. -/
def get {α : Type} (t : Tbl α) (d : α) (k : Nat) : α :=
  match t with
  | [] => d
  | (k', v) :: rest => if k' = k then v else get rest d k

/-- Insertion in key order, replacing an entry of the same key. -/
def insert {α : Type} (t : Tbl α) (k : Nat) (v : α) : Tbl α :=
  match t with
  | [] => [(k, v)]
  | (k', v') :: rest =>
    if k' = k then (k, v) :: rest
    else if k < k' then (k, v) :: (k', v') :: rest
    else (k', v') :: insert rest k v

/-- The table without a key. -/
def erase {α : Type} (t : Tbl α) (k : Nat) : Tbl α := t.filter (fun e => decide (e.1 ≠ k))

/-- Writing a value; writing the default removes the entry, so that equal tables are equal lists. -/
def set {α : Type} [DecidableEq α] (t : Tbl α) (d : α) (k : Nat) (v : α) : Tbl α :=
  if v = d then t.erase k else t.insert k v

/-- The canonical form: keys strictly rising and no entry equal to the default of its key. -/
def wf {α : Type} [DecidableEq α] (d : Nat → α) (t : Tbl α) : Bool :=
  match t with
  | [] => true
  | [(k, v)] => decide (v ≠ d k)
  | (k, v) :: (k', v') :: rest => decide (k < k') && decide (v ≠ d k) && wf d ((k', v') :: rest)

end Tbl

/-- A field's value in a register. -/
def Fld.get (f : Fld) (w : Word) : Nat := w.toNat / 2 ^ f.lo % 2 ^ f.len

/-- A register with one field set; the value is cut to the field's width. -/
def Fld.set (f : Fld) (w : Word) (v : Nat) : Word :=
  BitVec.ofNat 64 (w.toNat - f.get w * 2 ^ f.lo + v % 2 ^ f.len * 2 ^ f.lo)

/-- Bits [lo + len − 1 : lo] of a number. -/
def bitsOf (x lo len : Nat) : Nat := x / 2 ^ lo % 2 ^ len

/-- Bit `i` of a number. -/
def bitOf (x i : Nat) : Bool := decide (x / 2 ^ i % 2 = 1)

/-- A number with bit `i` set. -/
def setBit (x i : Nat) : Nat := if bitOf x i then x else x + 2 ^ i

/-- A number with bit `i` cleared. -/
def clearBit (x i : Nat) : Nat := if bitOf x i then x - 2 ^ i else x

/-- A number with bit `i` equal to `b`. -/
def putBit (x i : Nat) (b : Bool) : Nat := if b then setBit x i else clearBit x i

/-- The bits set in the low `n` bits of a number, ascending. -/
def bitList (x n : Nat) : List Nat := (List.range n).filter (bitOf x)

/-- The low `n` bytes of a number, little-endian. -/
def bytesOf (x n : Nat) : List Byte := (List.range n).map (fun i => BitVec.ofNat 8 (x / 256 ^ i))

/-- The number that a little-endian byte string spells. -/
def natOfBytes : List Byte → Nat
  | [] => 0
  | b :: rest => b.toNat + 256 * natOfBytes rest

/-- Ceiling division. -/
def cdiv (a b : Nat) : Nat := (a + b - 1) / b

/-- An element of a list replaced. -/
def listPut {α : Type} (l : List α) (i : Nat) (v : α) : List α := l.set i v

/-- A 16-bit generation `g` older than `h` (R413). -/
def genOlder (g h : Nat) : Bool :=
  let d := (h + 2 ^ 16 - g % 2 ^ 16) % 2 ^ 16
  decide (1 ≤ d ∧ d ≤ 0x8000)

/-- A 16-bit generation `g` newer than `h` (R413). -/
def genNewer (g h : Nat) : Bool :=
  let d := (h + 2 ^ 16 - g % 2 ^ 16) % 2 ^ 16
  decide (0x8001 ≤ d)

end Sys2Proof
end

