-- ==== Sys2Proof/Machine/CoreState.lean ====
section
/-! DEFINITION. The state of one core: register files, issue, instruction cache, queues, array, run queue (R126 to R157). -/
namespace Sys2Proof.Machine

/-- A bounds pair (R129, R140). -/
structure Bnd where
  base : Addr
  limit : Addr
  perm : BitVec 2
  deriving DecidableEq, Repr

def Bnd.off : Bnd := ⟨0, 0, 0⟩

/-- A register of a core's files (R129). -/
inductive RegRef where
  | s (i : Nat) | a (i : Nat) | b (i : Nat) | v (i : Nat) | p (i : Nat) | lc (i : Nat)
  deriving DecidableEq, Repr

/-- The scope of a fence (R34). -/
inductive FenceScope where
  | core | device | pod
  deriving DecidableEq, Repr

/-- What a slot does when its bundle issues: plain data, applied in ascending slot order (R133). -/
inductive Eff where
  | wS (i : Nat) (v : BitVec 64)
  | wA (i : Nat) (v : Addr)
  | wB (i : Nat) (v : Bnd)
  | wV (i : Nat) (v : BitVec 8192)
  | wP (i : Nat) (v : Bool)
  | load (d : RegRef) (segs : List Nat) (n : Nat) (bnd : Nat)
  | store (segs : List Nat) (n : Nat) (v : Nat)
  | mxIssue (addr : Nat)
  | mxCollect (d : Nat)
  | mxAbort
  | dmaIssue (addr : Nat)
  | dmaCollect (d tag : Nat)
  | send (target port : Nat) (msg : BitVec 512)
  | receive (d port : Nat)
  | fence (scope : FenceScope)
  | semAcquire (n : Nat)
  | semTaken (d : Nat)
  | semRelease (n : Nat)
  | bobAdd (d n : Nat) (addend : W32)
  | bobWait (n : Nat) (v : Nat)
  | bobTaken (d : Nat)
  | rcvWait (port : Nat)
  | icinv
  | halt (code : Nat)
  | branch (target : Addr) (close : Bool)
  | openLoop (lc : Nat) (count : W32) (len : Nat)
  | fp (unit : Nat) (ev : FpEv)
  deriving DecidableEq, Repr

/-- What a slot can do in the bundle: nothing (a false predicate, R134), hold (R131), fault (R142), or issue. -/
inductive PlanOut where
  | skip
  | hold (cause : Nat) (eff : List Eff)
  | fault (code : Nat) (write : Bool) (bnd : Nat) (addr : Nat)
  | ok (eff : List Eff)
  deriving DecidableEq, Repr

/-- A slot of the bundle being presented: what it writes and what it can do. -/
structure SlotPlan where
  slot : Nat
  writes : List RegRef
  mem : Bool
  out : PlanOut
  deriving DecidableEq, Repr

/-- An open zero-overhead loop (R136). -/
structure OpenLoop where
  lc : Nat
  body : Addr
  last : Addr
  deriving DecidableEq, Repr

/-- A result that a core still waits for: a load from another tier, or a fetch-and-add (R132). -/
inductive PendKind where
  | load (segs : List Nat) (n : Nat) (data : List Byte) (failed : Bool)
  | bob (id : Nat)
  deriving DecidableEq, Repr

structure Pend where
  dest : RegRef
  kind : PendKind
  pc : Addr
  slot : Nat
  bnd : Nat
  /-- no later instruction has written the register since (R131: writes take effect in issue order) -/
  live : Bool
  deriving DecidableEq, Repr

/-- Who issued an item and under which instance, generation and vote exclusion (R257, R407). -/
structure Owner where
  inst : Option InstId
  gen : Nat
  voteExcl : Bool
  deriving DecidableEq, Repr

/-- A queued matrix-class descriptor with its bounds snapshot (R143, R146). -/
structure MxItem where
  desc : BitVec 1024
  snap : List Bnd
  owner : Owner
  deriving DecidableEq, Repr

/-- Where a core DMA item came from: a core's DMA.Q, a host queue entry, a list of a copy (R152, R347, R411). -/
inductive DmaOrigin where
  | tag (t : Nat)
  | host (work : Nat)
  | copyList
  deriving DecidableEq, Repr

/-- A core DMA item (R152, R153). -/
structure DmaItem where
  id : Nat
  desc : BitVec 512
  snap : Option (List Bnd)
  owner : Owner
  origin : DmaOrigin
  /-- 0 not begun; 1 waits for remote reads; 2 waits for remote writes or for the engine it was handed to; 3 finished -/
  stage : Nat
  /-- transactions outstanding and the first status other than OK among them -/
  waits : Nat
  err : Nat
  /-- bytes read from a remote source, by offset -/
  rbuf : List (Nat × Byte)
  done : Option Nat
  /-- the result value of its completion record (R348) -/
  result : Nat
  deriving DecidableEq, Repr

/-- One pass of a matrix-class product (R71, R160): the bases of its operands, its rows as (source, destination), the
reduction tile and the output tile, how its sums start (0 they are open, 1 fresh, 2 from the partials held in C) and
stop (0 they stay open, 1 held in C, 2 the output conversion), its stored tile's number, its Pocket tile, and the place of
its first row among that tile's rows. -/
structure Pass where
  a : Nat
  w : Nat
  c : Nat
  rows : List (Nat × Nat)
  kT : Nat
  oT : Nat
  start : Nat
  stop : Nat
  tid : Nat
  ptile : Nat
  row0 : Nat
  deriving DecidableEq, Repr

/-- A stored weight tile in a bank: element bits by row, 2:4 positions, block scales, the checksum weights of R87 (per
position under R108), whether a weight is not finite, and the status that the load met. -/
structure TileBank where
  tid : Nat
  vals : List (List Nat)
  pos : List (List Nat)
  scales : List (List Nat)
  wc : List (List W32)
  ac : List (List W32)
  wr : List W32
  ar : List W32
  nonfinite : Bool
  bad : Nat
  deriving DecidableEq, Repr

/-- The operand slice that the staging engine holds: which operand (0 A, 1 W, 2 C) and its place in the product. -/
structure StgBuf where
  op : Nat
  key : List Nat
  deriving DecidableEq, Repr

/-- The active product of the array (R71 to R92, R160 to R175, R202 to R206). -/
structure ArrJob where
  item : MxItem
  /-- units of the descriptor, the one that runs, the next one drawn (R173) -/
  units : Nat
  unit : Nat
  nextUnit : Option Nat
  /-- passes of the running unit, its Pocket tiles, the pass that runs -/
  passes : List Pass
  ptiles : Nat
  cur : Nat
  passNo : Nat
  /-- the pass's first row has entered; the next row to drain; where the feeder stopped; the retry -/
  entered : Bool
  row : Nat
  stopAt : Option Nat
  attempt : Nat
  mismatched : List Nat
  failed : Bool
  /-- rows (destination, output tile) written as +0, and as though the product were +0, at the unit's end -/
  fills : List (Nat × Nat)
  voids : List (Nat × Nat)
  overflow : Nat
  /-- staging: slices held, Pocket tiles staged, C cells not yet written back by Pocket tile -/
  staged : List StgBuf
  stagedTo : Nat
  cBufs : List (Nat × List Host.Cell)
  /-- passes whose lines are in the line windows (R204) -/
  linesTo : Nat
  /-- the row at which MX.ABORT stops the pass (R145) -/
  abortAt : Option Nat
  /-- descriptors that end with this one's abort (R145) -/
  dropped : List MxItem
  deriving DecidableEq, Repr

/-- Progress of an attention descriptor: the entry being served and the pins taken (R228, R229). -/
structure AttnJob where
  item : MxItem
  entry : Nat
  pinned : Option (Nat × Nat)
  deriving DecidableEq, Repr

/-- The array of a core (R70 to R99). -/
structure ArrState where
  job : Option ArrJob
  attn : Option AttnJob
  bank0 : Option TileBank
  bank1 : Option TileBank
  useBank : Nat
  /-- open sums of the drain accumulator: by the row's place in its Pocket tile and its output tile (R83, R119) -/
  sums : List ((Nat × Nat) × List W32)
  /-- gated cell operations below the counter's unit (R86) -/
  gatedRem : Nat
  deriving DecidableEq, Repr

def ArrState.reset : ArrState := ⟨none, none, none, none, 0, [], 0⟩

/-- The step that a copy on a run queue has reached (R411). -/
inductive Phase where
  | waiting | restoring (k : Nat) | ready | running | ended | saving (k : Nat) | finished
  deriving DecidableEq, Repr

/-- A copy of a core-work entry on a run queue (R409 to R411). -/
structure Copy where
  work : Nat
  owner : Owner
  prog : BitVec 1024
  argBlock : Addr
  arg : BitVec 64
  affKey : Nat
  phase : Phase
  status : Nat
  skipped : Bool
  deriving DecidableEq, Repr

/-- A core. -/
structure Core where
  s : Tbl (BitVec 64)
  a : Tbl Addr
  b : Tbl Bnd
  v : Tbl (BitVec 8192)
  p : Tbl Bool
  lc : Tbl W32
  loops : List OpenLoop
  bundle : List SlotPlan
  pend : List Pend
  icache : List Nat
  fetchMiss : Option Nat
  mxq : List MxItem
  mxStatus : Nat
  dmaq : List DmaItem
  tagStatus : Tbl Nat
  ports : Tbl (List (BitVec 512))
  semSent : Option Nat
  semGrant : Option Nat
  bobSent : Option Nat
  bobGrant : Option Nat
  rcvWait : Option Nat
  rcvExpired : Bool
  fence : Option FenceScope
  ending : Option Nat
  runq : List Copy
  arr : ArrState
  deriving DecidableEq, Repr

/-- A core at reset: every file zero, p0 reading 1, every queue empty. -/
def Core.reset : Core :=
  { s := [], a := [], b := [], v := [], p := [], lc := [], loops := [], bundle := [], pend := [], icache := [],
    fetchMiss := none, mxq := [], mxStatus := 0, dmaq := [], tagStatus := [], ports := [], semSent := none,
    semGrant := none, bobSent := none, bobGrant := none, rcvWait := none, rcvExpired := false, fence := none,
    ending := none, runq := [], arr := ArrState.reset }

/-- s0 reads zero (R129). -/
def Core.sreg (c : Core) (i : Nat) : BitVec 64 := if i = 0 then 0 else c.s.get 0 i
def Core.areg (c : Core) (i : Nat) : Addr := c.a.get 0 i
def Core.breg (c : Core) (i : Nat) : Bnd := c.b.get Bnd.off i
def Core.vreg (c : Core) (i : Nat) : BitVec 8192 := c.v.get 0 i
/-- p0 reads 1 (R129). -/
def Core.preg (c : Core) (i : Nat) : Bool := if i = 0 then true else c.p.get false i
def Core.lcreg (c : Core) (i : Nat) : W32 := c.lc.get 0 i

/-- A write of s0 is ignored (R129). -/
def Core.setS (c : Core) (i : Nat) (v : BitVec 64) : Core := if i = 0 then c else { c with s := c.s.set 0 i v }
def Core.setA (c : Core) (i : Nat) (v : Addr) : Core := { c with a := c.a.set 0 i v }
def Core.setB (c : Core) (i : Nat) (v : Bnd) : Core := { c with b := c.b.set Bnd.off i v }
def Core.setV (c : Core) (i : Nat) (v : BitVec 8192) : Core := { c with v := c.v.set 0 i v }
/-- A write of p0 is ignored (R129). -/
def Core.setP (c : Core) (i : Nat) (v : Bool) : Core := if i = 0 then c else { c with p := c.p.set false i v }
def Core.setLc (c : Core) (i : Nat) (v : W32) : Core := { c with lc := c.lc.set 0 i v }

/-- The sixteen bounds pairs, for a snapshot (R143). -/
def Core.snapshot (c : Core) : List Bnd := (List.range 16).map c.breg

end Sys2Proof.Machine
end

