-- ==== Sys2Proof/Machine/NetState.lean ====
section
/-! DEFINITION. The state of the training, collective and transport units: update engines, the Squall vote, Seam engines,
sessions, transactions (R262 to R338). -/
namespace Sys2Proof.Machine

/-- The DMA item that carries an engine's work and waits for its completion (R36, R153, R347). -/
structure ItemOrigin where
  unit : DmaUnit
  id : Nat
  deriving DecidableEq, Repr

/-- An update item in an update engine's queue (R262, R265): the address of its descriptor, whether its instance's vote was
disabled when it was submitted, and, once started, the descriptor, and, once it applies, the N² of its decision. -/
structure UpdItem where
  src : Nat
  owner : Owner
  origin : ItemOrigin
  voteOff : Bool
  desc : Option (BitVec 1024)
  applying : Option W32
  deriving DecidableEq, Repr

/-- A recorded decision (R270, R274): step, commit, causes, N² and L as FP32 bits. -/
structure Decided where
  step : Nat
  commit : Bool
  causes : Nat
  n2 : W32
  l : W32
  causeDevices : Nat
  deriving DecidableEq, Repr

/-- A member's vote record (R270). -/
structure VoteRec where
  device : Nat
  commit : Bool
  causes : Nat
  normSq : W32
  localSq : W32
  deriving DecidableEq, Repr

/-- A pod's vote record (R270). -/
structure PodRec where
  pod : Nat
  commit : Bool
  causes : Nat
  normSq : W32
  localSq : W32
  causeDevices : Nat
  deriving DecidableEq, Repr

/-- A step that a role holds open (R272, R274): the member records at a tray head and at the pod leader, the pod
records at the job leader, and which of the role's timers have run out. -/
structure OpenStep where
  step : Nat
  tray : List VoteRec
  members : List VoteRec
  pods : List PodRec
  traySent : Bool
  podFormed : Bool
  deriving DecidableEq, Repr

/-- A SQUALL_VOTE item waiting for its vote or its decision (R267). -/
structure VoteItem where
  step : Nat
  updItems : Nat
  doneSem : Nat
  owner : Owner
  origin : ItemOrigin
  die : DieId
  voted : Bool
  waitsFor : List Nat
  deriving DecidableEq, Repr

/-- The update items of a step on this module (R275): how many there are, once the vote says so, how many have ended,
whether one failed, and whether APPLIED was sent. -/
structure ApplyStep where
  step : Nat
  total : Option Nat
  ended : Nat
  failed : Bool
  sent : Bool
  deriving DecidableEq, Repr

/-- The vote of one instance on this module (R271 to R284). -/
structure VoteState where
  items : List VoteItem
  opened : List OpenStep
  history : List Decided
  applies : List ApplyStep
  applied : List (Nat × Nat)
  applyTimer : List Nat
  skipCounts : Tbl Nat
  seenGen : List (Nat × Nat)
  /-- gradient sums of the step: grad_seq, norm_sq, local_sq (R299) -/
  gradSums : List (Nat × W32 × W32)
  held : Bool
  fenced : Bool
  logged : Bool
  resetCause : Bool
  gnsCount : Nat
  queried : List (Nat × Nat)
  /-- the next step after a RESUME (R282) -/
  next : Option Nat
  deriving DecidableEq, Repr

def VoteState.reset : VoteState :=
  ⟨[], [], [], [], [], [], [], [], [], false, false, false, false, 0, [], none⟩

/-- A message of a Seam stage, to send or received: the stage peer, the die column, the bytes field, the offset, the data
(R298). -/
structure SeamChunk where
  peer : Nat
  die : Nat
  bytes : Nat
  arg : Nat
  data : List Byte
  deriving DecidableEq, Repr

/-- A block on its way in an all-to-all or a permute: its source and destination ranks (R295, R301). -/
structure SeamBlock where
  src : Nat
  dst : Nat
  data : List Byte
  deriving DecidableEq, Repr

/-- A Seam item (R287, R288): its source address until it starts, then its descriptor, call number and progress: the
position in its list of stages, whether that stage's streams are prepared, the chunks still to send and those received,
the grants given in the stage and the grants used in all, by stage, peer and die, the working bytes of each die rank, the
blocks held, its sums of squares (R299). -/
structure SeamItem where
  id : Nat
  src : Nat
  owner : Owner
  origin : ItemOrigin
  desc : Option (BitVec 1024)
  call : Nat
  started : Bool
  stage : Nat
  opened : Bool
  out : List SeamChunk
  inbox : List SeamChunk
  given : Tbl Nat
  used : Tbl Nat
  work : List (Nat × List Byte)
  blocks : List SeamBlock
  localSq : W32
  normSq : W32
  /-- a failing transaction or check, or an ABORT received -/
  fail : Option Nat
  deriving DecidableEq, Repr

/-- A GRANT or an ABORT held for an item, which may not have started here (R298, R300, R303): instance, group, call, stage,
the sender's rank, die, and chunks granted, or the abort's code. -/
structure SeamNote where
  inst : Nat
  group : Nat
  call : Nat
  stage : Nat
  peer : Nat
  die : Nat
  count : Nat
  abort : Option Nat
  deriving DecidableEq, Repr

/-- The five states of a session (R319). -/
inductive SessState where
  | closed | listen | opening | opened | failed
  deriving DecidableEq, Repr

/-- A packet that this module has to send or has sent without acknowledgement (R324, R327). -/
structure TxPkt where
  pkt : Pkt
  inst : Option InstId
  core : Option CoreId
  misses : Nat
  fast : Bool
  deriving DecidableEq, Repr

/-- A session record (R318) and the state of its two directions (R319 to R329). -/
structure Session where
  created : Bool
  inst : Nat
  port : Nat
  responder : Bool
  peerPod : Nat
  peerDevice : Nat
  peerIndex : Nat
  peerIp : Nat
  nextHop : Nat
  keyId : Nat
  deadlineNs : Nat
  vcMask : Nat
  state : SessState
  epoch : Nat
  mgmt : Bool
  notice : Bool
  lastAccepted : Option Nat
  ownNonce : BitVec 128
  peerNonce : BitVec 128
  key : Option (BitVec 256)
  waitsEpoch : Bool
  /-- the OPEN or OPEN_ACK last sent, for repetition -/
  openAck : Option Pkt
  txSeq : Nat
  txCtl : Nat
  queue : List TxPkt
  unacked : List TxPkt
  control : List Pkt
  rxCum : Nat
  rxSeen : List Nat
  unackedRx : Nat
  ceBytes : Nat
  rate : Nat
  doubling : Bool
  periodAcked : Nat
  periodCe : Nat
  periodMiss : Bool
  missRun : Nat
  peerGen : Nat
  txPkts : Nat
  retx : Nat
  deadlines : Nat
  deriving DecidableEq, Repr

def Session.reset : Session :=
  { created := false, inst := 0, port := 0, responder := false, peerPod := 0, peerDevice := 0, peerIndex := 0,
    peerIp := 0, nextHop := 0, keyId := 0, deadlineNs := 0, vcMask := 0, state := .closed, epoch := 0, mgmt := false, notice := false,
    lastAccepted := none, ownNonce := 0, peerNonce := 0, key := none, waitsEpoch := false, openAck := none,
    txSeq := 0, txCtl := 0, queue := [], unacked := [], control := [], rxCum := 0, rxSeen := [], unackedRx := 0,
    ceBytes := 0, rate := 512, doubling := true, periodAcked := 0, periodCe := 0, periodMiss := false, missRun := 0,
    peerGen := 0, txPkts := 0, retx := 0, deadlines := 0 }

/-- What a transaction's completion serves (R334). -/
inductive TxnUser where
  | dma (u : DmaUnit) (id : Nat) (dst : Nat)
  | core (c : CoreId)
  | coreLoad (c : CoreId) (k : Nat)
  | barRead (f : Fn)
  | barWrite (f : Fn)
  | seam (die : DieId) (id : Nat)
  | squall
  | tunnel (k : Nat)
  | ingest (job : Nat)
  | plain
  deriving DecidableEq, Repr

/-- A transaction entry (R334). -/
structure Txn where
  num : Nat
  sess : SessId
  die : DieId
  vc : Nat
  op : Nat
  addr : Nat
  user : TxnUser
  inst : Option InstId
  gen : Nat
  /-- packets not yet acknowledged; whether one was sent -/
  packets : Nat
  sent : Bool
  status : Nat
  readLen : Nat
  /-- bytes already received -/
  readGot : Nat
  readData : List (Nat × Byte)
  deriving DecidableEq, Repr

/-- A received packet that passed the port's checks and waits for its effect (R326, R332). -/
structure RxPkt where
  port : LPort
  sess : SessId
  pkt : Pkt
  deriving DecidableEq, Repr

/-- The rest of the transport (R310 to R335): the timing lock, what the ports announce, the packets last sent. -/
structure FabState where
  ptpLocked : Bool
  everLocked : Bool
  ptpOffset : Int
  /-- deficit counters and rotation of each logical port (R331) -/
  deficit : Tbl Nat
  rotor : Tbl Nat
  /-- packets sent, newest first: port and packet -/
  wire : List (LPort × Pkt)
  /-- ARP or neighbour announcements, Sync and Delay_Req messages sent, and port resets asked, by port -/
  announced : Nat
  ptpSent : Nat
  lps : List LpParams
  epochNext : Tbl Nat
  nextTxn : Nat
  /-- fabric keys whose epoch counter is being written to flash, with the value (R320) -/
  epochWrites : List (Nat × Nat)
  /-- received bytes of OPENs refused, and such: strangers' last record -/
  lastTraffic : Tbl Nat
  deriving DecidableEq, Repr

def FabState.reset : FabState :=
  { ptpLocked := false, everLocked := false, ptpOffset := 0, deficit := [], rotor := [], wire := [], announced := 0,
    ptpSent := 0, lps := [], epochNext := [], nextTxn := 0, epochWrites := [], lastTraffic := [] }

end Sys2Proof.Machine
end

