-- ==== Sys2Proof/Machine/HostState.lean ====
section
/-! DEFINITION. The state of the host link, the queues, Thimble and the boot flash (R339 to R358, R424 to R432). -/
namespace Sys2Proof.Machine

/-- A queue entry that has started and not completed (R344 to R349). -/
structure Work where
  id : Nat
  q : QRef
  idx : Nat
  inst : Option Nat
  gen : Nat
  desc : BitVec 512
  kind : Nat
  /-- core work: copies not yet ended, whether they are placed, the first failing core and its status, copies failed -/
  left : Nat
  placed : Bool
  failCore : Option (Nat × Nat)
  failed : Nat
  deriving DecidableEq, Repr

/-- Where a command came from: a queue entry, a tunnel message of a session, the boot image. -/
inductive CmdVia where
  | queue (q : QRef) (work : Nat)
  | tunnel (sess : SessId) (cmdId : Nat)
  | boot
  deriving DecidableEq, Repr

/-- A parsed command block (R350). -/
structure CmdBlock where
  opcode : Nat
  device : Nat
  pod : Nat
  keyId : Nat
  inst : Nat
  sender : Nat
  counter : Nat
  body : Bytes
  raw : Bytes
  tag : BitVec 64
  deriving DecidableEq, Repr

/-- A long command that Thimble is executing. -/
inductive LongCmd where
  | reset (i : Nat)
  | partition (body : Bytes)
  | maintEnter
  deriving DecidableEq, Repr

structure ThmRun where
  via : CmdVia
  cmd : LongCmd
  deriving DecidableEq, Repr

/-- A command sent to a pod member and not answered (R354, R355). -/
structure Tunnel where
  id : Nat
  q : QRef
  work : Nat
  device : Nat
  deriving DecidableEq, Repr

/-- What the host reads: the data of its last read and the PCIe EP bit; none while a remote read is outstanding. -/
structure HostReply where
  req : Requester
  data : Bytes
  poisoned : Bool
  deriving DecidableEq, Repr

/-- The boot flash (R424): the two image copies, the wrapped key store and the epoch counters. -/
structure Flash where
  imageA : Option Image
  imageB : Option Image
  svnFloor : Nat
  cmdKeys : List (Nat × BitVec 256)
  fabKeys : List (Nat × BitVec 256)
  epochs : Tbl Nat
  deriving DecidableEq, Repr

structure HostState where
  works : List Work
  nextWork : Nat
  thm : Option ThmRun
  /-- last accepted counter of each (key_id, sender), 256 at most (R352) -/
  counters : List (Nat × Nat × Nat)
  kvKeys : Tbl (BitVec 128)
  provKey : Nat
  flash : Flash
  /-- the image being programmed and its copy: true for B -/
  programming : Option (Image × Bool)
  tunnels : List Tunnel
  events : List Word
  /-- MSI-X messages sent: function (0 PF, k + 1 VF) and vector -/
  irqs : List (Nat × Nat)
  reply : Option HostReply
  /-- the pod members that the image lists, whether boot step 7 has ended -/
  members : Nat
  joined : Bool
  gateDevice : Nat
  /-- boot records kept for later steps -/
  image : Option ImageRecords
  joinLimit : Nat
  jobId : Nat
  deriving DecidableEq, Repr

def HostState.reset : HostState :=
  { works := [], nextWork := 0, thm := none, counters := [], kvKeys := [], provKey := 0,
    flash := ⟨none, none, 0, [], [], []⟩, programming := none, tunnels := [], events := [],
    irqs := [], reply := none, members := 0, joined := false, gateDevice := 0, image := none, joinLimit := 30, jobId := 0 }

/-- The power inputs, the controller's runs and the pins (R422, R432 to R436). -/
structure PowerState where
  aFailed : Bool
  bFailed : Bool
  powered : Bool
  /-- consecutive samples above the TDP -/
  peakRun : Nat
  minimum : Bool
  lastDraws : List Nat
  resetHigh : Bool
  pwrGood : Bool
  thermLow : Bool
  deriving DecidableEq, Repr

def PowerState.reset : PowerState :=
  { aFailed := false, bFailed := false, powered := true, peakRun := 0, minimum := false, lastDraws := [], resetHigh := true,
    pwrGood := false, thermLow := false }

end Sys2Proof.Machine
end

