-- ==== Sys2Proof/Machine/KvState.lean ====
section
/-! DEFINITION. The state of the KV spaces and walkers (R218 to R234) beside the tables that stand in memory. -/
namespace Sys2Proof.Machine

/-- A KV command waiting at its home walker (R221, R222). -/
structure KvItem where
  desc : BitVec 512
  owner : Owner
  origin : ItemOrigin
  deriving DecidableEq, Repr

/-- An entry of the prefix tree: the block's hash, its page set, and the age it took when it became evictable. -/
structure KvNode where
  hash : Nat
  frame : Nat
  age : Option Nat
  deriving DecidableEq, Repr

/-- The walker's own state of a space: the free frames, reference counts, the prefix tree, each open slot's
max_tokens, the pins, the commands in arrival order, and the CLOSE commands that wait for pins. -/
structure KvSpace where
  free : List Nat
  refs : Tbl Nat
  tree : List KvNode
  maxTokens : Tbl Nat
  pins : Tbl Nat
  queue : List KvItem
  closing : Option (Nat × KvItem)
  deriving DecidableEq, Repr

def KvSpace.reset : KvSpace := ⟨[], [], [], [], [], [], none⟩

/-- A look-aside entry (R231), tagged with the instance and its generation. -/
structure LabEntry where
  space : Nat
  slot : Nat
  block : Nat
  frame : Nat
  inst : Nat
  gen : Nat
  deriving DecidableEq, Repr

end Sys2Proof.Machine
end

