-- ==== Sys2Proof/Machine/MediaState.lean ====
section
/-! DEFINITION. The state of the ingest streams and jobs (R360 to R387) and of the codec engines and encode streams
(R389 to R402). -/
namespace Sys2Proof.Machine

/-- A media record of a sample (R364): its type (0xFF for a side file), where its payload lies in the source, aux. -/
structure IngRecord where
  type : Nat
  payload : List Byte
  aux : Nat
  side : Bool
  deriving DecidableEq, Repr

/-- A pending install of settings (R376). -/
structure Install where
  target : Nat
  block : List Byte
  deriving DecidableEq, Repr

/-- A frame that has its sequence number and is not yet published (R360, R380, R383). -/
structure IngFrame where
  seq : Nat
  gen : Nat
  settings : List Byte
  job : Option Nat
  key : Nat
  records : List IngRecord
  /-- kept picture number within a video record -/
  keptIdx : Nat
  aug : List Byte
  strict : Bool
  pool : Nat
  wait : Bool
  deadline : Option Nat
  slot : Option Nat
  waiting : Bool
  needPic : Bool
  needAud : Bool
  /-- 0 waits for an engine, 1 on an engine, 2 decoded by it: video pictures only -/
  engine : Nat
  /-- when a video picture became ready for an engine, by a count over the module -/
  readyNo : Nat
  /-- luma histogram and the levels of each channel, for the statistics entry (R377) -/
  hist : List Nat
  levels : List (W32 × W32)
  status : Nat
  trunc : Bool
  padded : Bool
  incomplete : Bool
  regionUsed : Bool
  cause : Nat
  picW : Nat
  picH : Nat
  audN : Nat
  sideBytes : Nat
  /-- the sample record can be published -/
  ready : Bool
  deriving DecidableEq, Repr

/-- A packet in a stream's jitter buffer (R378, R380). -/
structure JitPkt where
  seq : Nat
  ts : Nat
  marker : Bool
  payload : List Byte
  deriving DecidableEq, Repr

/-- A live access unit that waits for its decode: its frame and its payloads in order. -/
structure LiveUnit where
  seq : Nat
  payloads : List (List Byte)
  deadline : Nat
  readyNo : Nat
  deriving DecidableEq, Repr

/-- An ingest stream beside its registers. -/
structure IngStream where
  settings : List Byte
  installs : List Install
  frames : List IngFrame
  jitter : List JitPkt
  extSeq : Option Nat
  latched : Option Nat
  /-- timestamp of the last live frame assigned -/
  lastTs : Option Nat
  /-- thumbnail of the previous frame: size and cell means -/
  thumb : Option (Nat × Nat × List Nat)
  concealing : Bool
  engine : Option Nat
  /-- extended sequence number after the marker of the last complete timestamp -/
  nextStart : Option Nat
  /-- the decoders' states, as opaque numbers -/
  video : Nat
  sound : Nat
  /-- live pictures to decode, oldest first -/
  units : List LiveUnit
  deriving DecidableEq, Repr

def IngStream.reset : IngStream :=
  { settings := [], installs := [], frames := [], jitter := [], extSeq := none, latched := none,
    lastTs := none, thumb := none, concealing := false, engine := none, nextStart := none, video := 0, sound := 0,
    units := [] }

/-- An ingest job (R361): its descriptor and the parser's place in it. -/
structure IngJob where
  id : Nat
  inst : Nat
  idx : Nat
  gen : Nat
  desc : BitVec 1024
  stream : Nat
  running : Bool
  pos : Nat
  /-- remote source bytes received so far, by offset (R362) -/
  remote : List (Nat × Byte)
  asked : Nat
  /-- the sample being formed: its records, key, offset of its first record, cause of its failure, its ustar name -/
  sampleOpen : Bool
  sample : List IngRecord
  sampleKey : Nat
  sampleAt : Nat
  sampleCause : Nat
  sampleName : List Byte
  /-- samples formed so far -/
  sampleNo : Nat
  frames : Nat
  /-- ustar: path and size from a pax header for the next member -/
  paxPath : Option (List Byte)
  paxSize : Option Nat
  /-- status that ends the job once its frames are published -/
  ended : Option Nat
  deriving DecidableEq, Repr

/-- Work of a codec engine: a decode of a live or record frame, or an encode picture. -/
inductive CodecWork where
  | dec (s : StrmId) (seq : Nat)
  | enc (t : EncId) (id : Nat)
  deriving DecidableEq, Repr

structure CodecEng where
  running : Option CodecWork
  stopped : Option CodecWork
  /-- bound streams: ingest streams of a decode engine, encode streams of an encode engine -/
  bound : List Nat
  /-- last batch stream served, for the rotation of R392 -/
  lastBatch : Nat
  deriving DecidableEq, Repr

def CodecEng.reset : CodecEng := ⟨none, none, [], 0⟩

/-- An encode picture (R396). -/
structure EncPic where
  id : Nat
  inst : Nat
  idx : Nat
  gen : Nat
  desc : BitVec 512
  key : Bool
  started : Bool
  deriving DecidableEq, Repr

/-- An encode stream beside its registers (R395 to R399): its session block, the coder's state as an opaque number, the
long-term pictures held, pictures since the last key picture, and the ring's write offset. -/
structure EncStream where
  session : List Byte
  coder : Nat
  lt : List Nat
  sinceKey : Option Nat
  pics : List EncPic
  outWrite : Nat
  engine : Nat
  deriving DecidableEq, Repr

def EncStream.reset : EncStream := ⟨[], 0, [], none, [], 0, 0⟩

structure MediaState where
  streams : Tbl IngStream
  jobs : List IngJob
  nextId : Nat
  engines : Tbl CodecEng
  enc : Tbl EncStream
  /-- live reservations by engine: (ingest or encode stream, Mpixel/s) -/
  reserved : Tbl (List (Nat × Nat))
  /-- luma samples of each live stream in the current second of pod time; encode streams from 32 -/
  rate : Tbl (Nat × Nat)
  /-- next entry of the completion rings of ingest and encode, by instance -/
  ingCpl : Tbl Nat
  encCpl : Tbl Nat
  deriving DecidableEq, Repr

def MediaState.reset : MediaState := ⟨[], [], 0, [], [], [], [], [], []⟩

end Sys2Proof.Machine
end

