-- ==== Sys2Proof/Machine/MemState.lean ====
section
/-! DEFINITION. The state of the Overcast caches and the lower tiers beside memory itself (R238 to R258). -/
namespace Sys2Proof.Machine

/-- A cache line (R241, R242): its granule and way, the instance that owns its stack, its age stamp (a larger one was
accessed later), its flags and its 256 bytes. -/
structure Line where
  gran : Nat
  way : Nat
  inst : Option Nat
  stamp : Nat
  dirty : Bool
  poisoned : Bool
  data : BitVec 2048
  deriving DecidableEq, Repr

/-- A line in a quadrant's victim buffer (R243, R256): the way it came from is reused once its write-back ends. -/
structure Victim where
  line : Nat
  home : Line
  fails : Nat
  deriving DecidableEq, Repr

/-- An outstanding lower-tier read of a line (R241, R255): whether it fills the cache, its request and those joined to it. -/
structure Miss where
  line : Nat
  fill : Bool
  reqs : List MemReq
  deriving DecidableEq, Repr

/-- A deep-tier access that a controller performs (R254). -/
structure DeepAcc where
  id : Nat
  req : MemReq
  deriving DecidableEq, Repr

/-- The home's answer to a request: its status, its data, whether it is poisoned for the PCIe EP bit (R256). -/
structure MemReply where
  src : ReqSrc
  status : Nat
  data : List Byte
  deriving DecidableEq, Repr

/-- A partition change in progress (R246): the new partition body, the granules to zero, the quadrants to flush. -/
structure Remap where
  body : List Byte
  zero : List Nat
  quads : List Nat
  deriving DecidableEq, Repr

structure MemState where
  lines : Tbl Line
  stamp : Nat
  victims : Tbl (List Victim)
  misses : List Miss
  deep : List DeepAcc
  /-- core DMA records that the host queued at a die (R347) -/
  hostDma : Tbl (List DmaItem)
  nextDeep : Nat
  /-- requests that wait for a free victim-buffer entry (R243) -/
  waiting : List MemReq
  /-- lower-tier accesses whose timeout has passed and whose data may still arrive (R255) -/
  late : List LowerRef
  /-- poisoned 64-bit words of Pocket and Overcast, by address / 8 (R439) -/
  poison : List Nat
  /-- the last reply of the memory system to a requester -/
  reply : Option MemReply
  remap : Option Remap
  /-- stacks and packages left out at training (R431) -/
  noStack : Nat
  noPackage : Nat
  /-- compute dies that failed their die test (R458) -/
  noDie : Nat
  /-- the partition in force: the body of R405 -/
  partition : List Byte
  deriving DecidableEq, Repr

def MemState.reset : MemState :=
  { lines := [], stamp := 0, victims := [], misses := [], deep := [], hostDma := [], nextDeep := 0, waiting := [], late := [],
    poison := [], reply := none, remap := none, noStack := 0, noPackage := 0, noDie := 0, partition := [] }

end Sys2Proof.Machine
end

