-- ==== Sys2Proof/Machine/RasState.lean ====
section
/-! DEFINITION. The state of the Contrail log, its flash snapshots, the alarms, the management bus and the TAP
(R438 to R456). -/
namespace Sys2Proof.Machine

/-- A Contrail entry (R444): its fields as numbers; `seq` is set when it is written. -/
structure LogEntry where
  time : Nat
  seq : Nat
  cls : Nat
  code : Nat
  unitType : Nat
  unitDie : Nat
  index : Nat
  inst : Option Nat
  gen : Nat
  count : Nat
  last : Nat
  flood : Bool
  addr : Nat
  pc : Nat
  peer : Nat
  value : Nat
  deriving DecidableEq, Repr

/-- An entry in the intake spool, with the class whose share it occupies (R445). -/
structure IntakeEntry where
  share : Nat
  entry : LogEntry
  deriving DecidableEq, Repr

/-- An open entry of the coalescing table (R446); a FATAL or ERROR entry also stands in its ring at `slot`. -/
structure OpenEntry where
  entry : LogEntry
  slot : Option Nat
  deriving DecidableEq, Repr

/-- A class's flood buffer (R447): the first 64 and the last 64 refused entries, and how many were lost. -/
structure Flood where
  active : Bool
  first : List LogEntry
  tail : List LogEntry
  lost : Nat
  deriving DecidableEq, Repr

def Flood.none : Flood := ⟨false, [], [], 0⟩

/-- A FATAL snapshot in flash (R449): the header's register values and the entries. -/
structure Snapshot where
  header : List Nat
  entries : List LogEntry
  deriving DecidableEq, Repr

structure RasState where
  intake : List IntakeEntry
  opened : List OpenEntry
  /-- the ring of each class: key class × 2^17 + index -/
  rings : Tbl LogEntry
  /-- entries ever written to each class's ring, up to its size -/
  filled : Tbl Nat
  nextSeq : Nat
  floods : Tbl Flood
  snaps : Tbl Snapshot
  snapRunning : Option Snapshot
  snapWaiting : Nat
  alarmNow : Tbl Nat
  eid : Nat
  /-- consecutive arbitration losses of the packet being sent -/
  smbLosses : Nat
  /-- the transaction being answered (R451) -/
  smbHeld : Option (List Byte)
  /-- the module's last answer on the bus -/
  smbReply : List Byte
  /-- the TAP's current instruction code: 0 BYPASS, 1 IDCODE, 2 SAMPLE/PRELOAD, 3 EXTEST, 4 CLAMP, 5 HIGHZ -/
  tap : Nat
  boundary : Nat
  tapOut : Nat
  testReply : Nat
  /-- PLDM alarm events sent (R453) -/
  pldmEvents : List Nat
  deriving DecidableEq, Repr

/-- The empty entry: what a ring slot that nothing has written holds. -/
def LogEntry.blank : LogEntry := ⟨0, 0, 0, 0, 0, 0, 0, none, 0, 0, 0, false, 0, 0, 0, 0⟩

def RasState.reset : RasState :=
  { intake := [], opened := [], rings := [], filled := [], nextSeq := 0, floods := [], snaps := [],
    snapRunning := none, snapWaiting := 0, alarmNow := [], eid := 0, smbLosses := 0, smbHeld := none,
    smbReply := [], tap := 1, boundary := 0, tapOut := 0, testReply := 0, pldmEvents := [] }

end Sys2Proof.Machine
end

