-- ==== Sys2Proof/Machine/SchedState.lean ====
section
/-! DEFINITION. The state of the semaphores, Bobbin counters and buffer pools beside their registers (R171, R414 to R419). -/
namespace Sys2Proof.Machine

/-- Who makes a semaphore, counter or pool request: a core, an engine of a die, ingest, the host. -/
inductive Agent where
  | core (c : CoreId)
  | engine (unitType die : Nat)
  | ingest (s : StrmId) (seq : Nat)
  | host
  deriving DecidableEq, Repr

/-- A semaphore operation on its way to the semaphore (R415). -/
structure SemOp where
  acquire : Bool
  who : Agent
  inst : Nat
  gen : Nat
  deriving DecidableEq, Repr

/-- A waiting acquire, with the address of the waiting bundle. -/
structure SemWaiter where
  who : Agent
  inst : Nat
  gen : Nat
  pc : Addr
  deriving DecidableEq, Repr

/-- A Bobbin operation on its way to its counter (R171): a fetch-and-add of a core with its own number and its destination register, a wait,
or a draw of an array's unit. -/
inductive BobOp where
  | add (c : CoreId) (id d : Nat) (addend : W32)
  | wait (c : CoreId) (value : Nat) (pc : Addr)
  deriving DecidableEq, Repr

/-- A pool take that waits (R419). -/
structure PoolWaiter where
  who : Agent
  inst : Nat
  gen : Nat
  deriving DecidableEq, Repr

structure SchedState where
  semIn : Tbl (List SemOp)
  semWait : Tbl (List SemWaiter)
  bobIn : Tbl (List BobOp)
  bobWait : Tbl (List BobOp)
  bobAdder : Tbl (Option Nat)
  poolFree : Tbl (List Nat)
  poolWait : Tbl (List PoolWaiter)
  /-- the queue of each instance that the dispatcher serves next (R410) -/
  rotation : Tbl Nat
  deriving DecidableEq, Repr

def SchedState.reset : SchedState := ⟨[], [], [], [], [], [], [], []⟩

end Sys2Proof.Machine
end

