-- ==== Sys2Proof/Machine/State.lean ====
section
/-! DEFINITION. The state of the block: every register by its offset, the memories, the cores, the engines, the units'
queues, and the commands that wait. Plain data throughout. -/
namespace Sys2Proof.Machine

/-- A word of a 64-bit register that a requester's 4-byte access holds (R31): a captured high word or a held-back low
word. -/
structure HalfWord where
  req : Requester
  off : Nat
  val : W32
  deriving DecidableEq, Repr

structure State where
  /-- every register of the region, by offset; one that is not listed reads its reset value (R28) -/
  regs : Tbl Word
  captured : List HalfWord
  heldLow : List HalfWord
  /-- module memory by physical address (R25): HBM, deep tier, Overcast scratchpad, Pocket; unlisted bytes read 0 -/
  mem : List Host.Cell
  /-- host memory by host bus address, which the module reaches over PCIe -/
  hostMem : List Host.Cell
  cores : Tbl Core
  sch : SchedState
  msys : MemState
  kv : Tbl KvSpace
  /-- look-aside buffers of the four walkers, oldest first (R231) -/
  lab : Tbl (List LabEntry)
  upd : Tbl (List UpdItem)
  votes : Tbl VoteState
  /-- Squall messages of this module to itself -/
  localMsgs : List (Nat × Nat × Bytes)
  seam : Tbl (List SeamItem)
  seamNotes : List SeamNote
  /-- the loaded record of each enabled group, by 16 × instance + group (R290) -/
  seamGroups : Tbl (List Byte)
  sessions : Tbl Session
  txns : List Txn
  ingress : List RxPkt
  fab : FabState
  media : MediaState
  host : HostState
  pwr : PowerState
  ras : RasState
  /-- how many free values have been used: the model's own field -/
  free : Nat
  /-- commands that wait, first in, first out -/
  pending : List Instr
  deriving DecidableEq, Repr

/-- Stops. No meaning of this model raises one: the manual gives every command an effect (safe). -/
inductive Fault where
  /-- the manual calls the behaviour undefined and gives no effect; raised by no meaning (safe) -/
  | unspecified (rule : String)
  deriving DecidableEq, Repr

/-- Refusals. -/
inductive Refusal where
  /-- raised by the dispatch for a command without a meaning; safe, for no effect is claimed -/
  | notModelled (mnemonic : String)
  deriving DecidableEq, Repr

/-- What a command answers. -/
abbrev Out := Host.Outcome State Fault Refusal

/-- The module right after a power-on reset, before cold boot: every register at its reset value, nothing stored,
nothing queued (R430 step 1). -/
def State.reset : State :=
  { regs := [], captured := [], heldLow := [], mem := [], hostMem := [], cores := [], sch := SchedState.reset,
    msys := MemState.reset, kv := [], lab := [], upd := [], votes := [], localMsgs := [], seam := [], seamNotes := [],
    seamGroups := [], sessions := [],
    txns := [], ingress := [], fab := FabState.reset, media := MediaState.reset, host := HostState.reset,
    pwr := PowerState.reset, ras := RasState.reset, free := 0, pending := [] }

end Sys2Proof.Machine
end

