-- ==== Sys2Proof/Machine/Ops.lean ====
section
/-! DEFINITION. The named operations that the meanings share: registers and their fields, counters, memory, the address
map and the memory firewall, the log, completions. -/
namespace Sys2Proof.Machine
namespace State

/-! ## Registers -/

/-- The value of a register by offset (R28). -/
def reg (s : State) (off : Nat) : Word := s.regs.get (regReset off) off

/-- A register with a new value. -/
def setReg (s : State) (off : Nat) (v : Word) : State := { s with regs := s.regs.set (regReset off) off v }

/-- A field of a register. -/
def fld (s : State) (off : Nat) (f : Fld) : Nat := f.get (s.reg off)

/-- A register with one field set. -/
def setFld (s : State) (off : Nat) (f : Fld) (v : Nat) : State := s.setReg off (f.set (s.reg off) v)

/-- Add to a 32-bit event counter, which stops at 0xFFFF_FFFF. -/
def addSat (s : State) (off n : Nat) : State :=
  s.setReg off (BitVec.ofNat 64 (min 0xFFFFFFFF ((s.reg off).toNat + n)))

/-- One more event in a 32-bit counter. -/
def inc (s : State) (off : Nat) : State := s.addSat off 1

/-- Add to a 64-bit counter. -/
def add64 (s : State) (off n : Nat) : State := s.setReg off (BitVec.ofNat 64 ((s.reg off).toNat + n))

/-- Subtract from a counter, at least 0. -/
def sub (s : State) (off n : Nat) : State := s.setReg off (BitVec.ofNat 64 ((s.reg off).toNat - n))

/-- Set bit `i` of a register. -/
def setRegBit (s : State) (off i : Nat) (b : Bool) : State :=
  s.setReg off (BitVec.ofNat 64 (putBit (s.reg off).toNat i b))

/-- Bit `i` of a register. -/
def regBit (s : State) (off i : Nat) : Bool := bitOf (s.reg off).toNat i

/-- A free value: nothing constrains it; the counter moves on. -/
def fresh (s : State) : Nat × State := (Config.freeValue s.free, { s with free := s.free + 1 })

/-! ## Cores -/

def core (s : State) (c : Nat) : Core := s.cores.get Core.reset c
def setCore (s : State) (c : Nat) (k : Core) : State := { s with cores := s.cores.set Core.reset c k }

/-- Whether core `c` is absent (R14, R441). -/
def absent (s : State) (c : Nat) : Bool := s.regBit (R.GLB_CORE_ABSENT (c / 32)) (c % 32)

/-! ## Instances (R404, R413) -/

def gen (s : State) (i : Nat) : Nat := s.fld (R.SCH_INST_STATE i) F.SCH_INST_STATE_generation
def instOn (s : State) (i : Nat) : Bool := s.regBit (R.SCH_INST_STATE i) 0
def ownsCore (s : State) (i c : Nat) : Bool := bitOf (s.fld (R.SCH_INST_CORES i) F.SCH_INST_CORES_core_groups) (c / 8)
def ownsStack (s : State) (i n : Nat) : Bool := bitOf (s.fld (R.SCH_INST_MEM i) F.SCH_INST_MEM_stacks) n
def ownsSem (s : State) (i n : Nat) : Bool :=
  let b := s.fld (R.SCH_INST_RANGES i) F.SCH_INST_RANGES_sem_base
  decide (64 * b ≤ n ∧ n < 64 * (b + s.fld (R.SCH_INST_RANGES i) F.SCH_INST_RANGES_sem_count))
/-- The counters of a die that failed its test exist for no instance (R458). -/
def ownsBob (s : State) (i n : Nat) : Bool :=
  let b := s.fld (R.SCH_INST_RANGES i) F.SCH_INST_RANGES_bob_base
  decide (16 * b ≤ n ∧ n < 16 * (b + s.fld (R.SCH_INST_RANGES i) F.SCH_INST_RANGES_bob_count)) &&
  !bitOf s.msys.noDie (n / 256)
/-- The enabled instance that owns core `c`. -/
def instOfCore (s : State) (c : Nat) : Option Nat := (List.range 8).find? (fun i => s.instOn i && s.ownsCore i c)
/-- The enabled instance that owns stack `n`. -/
def instOfStack (s : State) (n : Nat) : Option Nat := (List.range 8).find? (fun i => s.instOn i && s.ownsStack i n)

/-! ## The address map (R25) -/

/-- Where a module physical address lies; `none` is unmapped. -/
inductive Region where
  | hbm (n : Nat) | deep (p : Nat) | ovc (k : Nat) | pocket (c : Nat) | regs (off : Nat) | none
  deriving DecidableEq, Repr

/-- The map of R25, before absent cores, cache granules and missing stacks are taken out. -/
def regionOf (a : Nat) : Region :=
  if a < 0x6000000000 then .hbm (a / 0xC00000000)
  else if a < 0x8000000000 then .none
  else if a < 0x10000000000 then .deep ((a - 0x8000000000) / 4096 % 8)
  else if a < 0x10180000000 then .ovc ((a - 0x10000000000) / 0x4000000)
  else if a < 0x11000000000 then .none
  else if a < 0x11100000000 then
    if (a - 0x11000000000) % 0x2000000 < 0x1800000 then .pocket ((a - 0x11000000000) / 0x2000000) else .none
  else if a < 0x18000000000 then .none
  else if a < 0x18010000000 then .regs (a - 0x18000000000)
  else .none

/-- The region of an address in this state: the slot of an absent core, a cache granule's scratchpad address and a stack
or package left out are unmapped (R25, R239, R431). -/
def region (s : State) (a : Nat) : Region :=
  match regionOf a with
  | .hbm n => if bitOf s.msys.noStack n then .none else .hbm n
  | .deep p => if bitOf s.msys.noPackage p then .none else .deep p
  | .ovc k => if s.regBit (R.MEM_OVC_GRANULE k) 0 || bitOf s.msys.noDie (k / 24) then .none else .ovc k
  | .pocket c => if s.absent c then .none else .pocket c
  | r => r

/-- Who makes an access: Thimble and the log writer are not checked; the physical function is refused only the firmware
granule; everything else acts for an instance (R407). -/
inductive Who where
  | thimble | pf | inst (i : Nat)
  deriving DecidableEq, Repr

/-- The registers that the firewall admits for instance `i` (R407). -/
def regAdmitted (s : State) (i off : Nat) : Bool :=
  if 0x2000000 ≤ off then decide (off < 0x2800000) && s.ownsCore i ((off - 0x2000000) / 0x10000)
  else if 0x700000 ≤ off && off < 0x708000 then s.ownsSem i ((off - 0x700000) / 8)
  else if 0x780000 ≤ off && off < 0x784000 then s.ownsBob i ((off - 0x780000) / 16)
  else if 0x7C0000 ≤ off && off < 0x7C1000 then
    decide (s.fld (R.SCH_POOL_CFG ((off - 0x7C0000) / 0x40)) F.SCH_POOL_CFG_owner = i)
  else if 0x410000 + i * 0x1000 ≤ off && off < 0x410000 + (i + 1) * 0x1000 then true
  else decide (off = R.ING_RING_TAIL i ∨ off = R.CDC_RING_TAIL i)

/-- Whether the firewall admits an access to an address of a mapped region (R407). -/
def admits (s : State) (w : Who) (a : Nat) : Bool :=
  match w, s.region a with
  | .thimble, _ => true
  | .pf, .ovc k => decide (k ≠ 23)
  | .pf, _ => true
  | .inst i, .hbm n => s.ownsStack i n
  | .inst i, .deep _ =>
    let g := (a - 0x8000000000) / 2 ^ 30
    let b := s.fld (R.SCH_INST_MEM i) F.SCH_INST_MEM_deep_base
    decide (b ≤ g ∧ g < b + s.fld (R.SCH_INST_MEM i) F.SCH_INST_MEM_deep_size)
  | .inst i, .ovc k =>
    let off := R.MEM_OVC_GRANULE k
    decide (k ≠ 23) && decide (s.fld off F.MEM_OVC_GRANULE_assigned = 1 ∧ s.fld off F.MEM_OVC_GRANULE_owner = i)
  | .inst i, .pocket c => s.ownsCore i c
  | .inst i, .regs off => s.regAdmitted i off
  | .inst _, .none => false

/-- OK, UNMAPPED (0x03) or FIREWALL (0x64) for one address: unmapped is judged first (R26, R407). -/
def checkAt (s : State) (w : Who) (a : Nat) : Nat :=
  if s.region a = .none then 0x03 else if s.admits w a then 0 else 0x64

/-- The points at which the verdict on a range can change: its ends and every 16 MiB boundary inside, and every 4 KiB in
the deep tier when a package is left out. -/
def probePoints (s : State) (a n : Nat) : List Nat :=
  let step := if s.msys.noPackage ≠ 0 ∧ a ≥ 0x8000000000 ∧ a < 0x10000000000 then 4096 else 0x1000000
  let first := a / step + 1
  let last := (a + n - 1) / step
  a :: ((List.range (last + 1 - first)).map (fun j => (first + j) * step) ++ [a + n - 1])

/-- The verdict on a range: the first failing address decides; an empty range passes. -/
def checkRange (s : State) (w : Who) (a n : Nat) : Nat :=
  if n = 0 then 0
  else if a + n > 2 ^ 48 then 0x03
  else ((s.probePoints a n).map (s.checkAt w)).find? (fun x => decide (x ≠ 0)) |>.getD 0

/-! ## Memory -/

/-- The cached copy of a byte of HBM: a valid line, else a line in the victim buffer (R240, R243). -/
def lineOf (s : State) (a : Nat) : Option (BitVec 2048) :=
  match s.msys.lines.find? (fun e => e.1 == a / 256) with
  | some e => some e.2.data
  | none =>
    if a < 0x6000000000 then
      ((s.msys.victims.get [] (a / 0x1800000000)).find? (fun v => v.line == a / 256)).map (fun v => v.home.data)
    else none

/-- The register region (R25): an engine's access of it has no effect and reads all ones (R30). -/
def inRegs (a : Nat) : Bool := decide (0x18000000000 ≤ a ∧ a < 0x18010000000)

/-- A byte as every agent sees it: HBM and the caches are coherent (R240). -/
def byteAt (s : State) (a : Nat) : Byte :=
  if inRegs a then 0xFF
  else match s.lineOf a with
    | some d => d.extractLsb' (8 * (a % 256)) 8
    | none => Tbl.get s.mem 0 a

def bytesAt (s : State) (a n : Nat) : List Byte := (List.range n).map (fun j => s.byteAt (a + j))

/-- A little-endian number of `n` bytes. -/
def natAt (s : State) (a n : Nat) : Nat := natOfBytes (s.bytesAt a n)

/-- A 256-byte line with one byte replaced. -/
def lineWithByte (d : BitVec 2048) (k : Nat) (b : Byte) : BitVec 2048 :=
  BitVec.ofNat 2048 (d.toNat - (d.toNat / 256 ^ k % 256) * 256 ^ k + b.toNat * 256 ^ k)

/-- The cache line of line number `l` set. -/
def setLine (s : State) (l : Nat) (v : Line) : State :=
  { s with msys := { s.msys with lines := Tbl.insert s.msys.lines l v } }

/-- One byte written: into the cached line when there is one, which becomes dirty, else into memory. -/
def putByte (s : State) (a : Nat) (b : Byte) : State :=
  match s.msys.lines.find? (fun e => e.1 == a / 256) with
  | some e =>
    have s := if e.2.dirty then s else s.addSat (R.MEM_OVC_DIRTY (a / 0x1800000000)) 1
    s.setLine (a / 256) { e.2 with dirty := true, data := lineWithByte e.2.data (a % 256) b }
  | none =>
    let q := a / 0x1800000000
    let vs := s.msys.victims.get [] q
    if decide (a < 0x6000000000) && vs.any (fun v => v.line == a / 256) then
      { s with msys := { s.msys with victims := s.msys.victims.set [] q (vs.map (fun v =>
          if v.line == a / 256 then { v with home := { v.home with data := lineWithByte v.home.data (a % 256) b } }
          else v)) } }
    else if inRegs a then s
    else { s with mem := Tbl.set s.mem 0 a b }

/-- Poison that a write of `n` bytes at `a` clears: 64-bit SRAM words wholly covered (R439), lines wholly covered (R256). -/
def clearPoison (s : State) (a n : Nat) : State :=
  let left := s.msys.poison.filter (fun w => !(decide (a ≤ 8 * w ∧ 8 * w + 8 ≤ a + n)))
  let hit := fun (e : Nat × Line) => e.2.poisoned && decide (a ≤ 256 * e.1 ∧ 256 * e.1 + 256 ≤ a + n)
  let gone := s.msys.lines.filter hit
  have s := { s with msys := { s.msys with
    poison := left, lines := s.msys.lines.map (fun e => if hit e then (e.1, { e.2 with poisoned := false }) else e) } }
  gone.foldl (fun s e => s.sub (R.MEM_OVC_POISONED (e.1 / 0x18000000)) 1) s

/-- Bytes written in ascending order. -/
def putBytes (s : State) (a : Nat) (bs : List Byte) : State :=
  have s := if s.msys.poison.isEmpty && s.msys.lines.isEmpty then s else s.clearPoison a bs.length
  (bs.foldl (fun (st : State × Nat) b => (st.1.putByte st.2 b, st.2 + 1)) (s, a)).1

def putNat (s : State) (a n v : Nat) : State := s.putBytes a (bytesOf v n)

/-- What a read of a range meets: SRAM_UE (0x91) on a poisoned SRAM word, LOWER_TIER_FAIL (0x24) on a poisoned line
(R256, R439). -/
def readStatus (s : State) (a n : Nat) : Nat :=
  if s.msys.poison.any (fun w => decide (8 * w < a + n ∧ a < 8 * w + 8)) then 0x91
  else if s.msys.lines.any (fun e => e.2.poisoned && decide (256 * e.1 < a + n ∧ a < 256 * e.1 + 256)) then 0x24
  else 0

/-- Host memory. -/
def hostBytes (s : State) (a n : Nat) : List Byte := (List.range n).map (fun j => Tbl.get s.hostMem 0 (a + j))
def putHostBytes (s : State) (a : Nat) (bs : List Byte) : State :=
  { s with hostMem := (bs.foldl (fun (st : List Host.Cell × Nat) b => (Tbl.set st.1 0 st.2 b, st.2 + 1)) (s.hostMem, a)).1 }

/-- A ring or descriptor access in HBM or in host memory. -/
def ringBytes (s : State) (hbm : Bool) (a n : Nat) : List Byte := if hbm then s.bytesAt a n else s.hostBytes a n
def putRing (s : State) (hbm : Bool) (a : Nat) (bs : List Byte) : State :=
  if hbm then s.putBytes a bs else s.putHostBytes a bs

/-! ## Interrupts and module state -/

/-- An MSI-X message: function 0 is the PF, k + 1 the VF of instance k. -/
def irq (s : State) (fn vec : Nat) : State := { s with host := { s.host with irqs := (fn, vec) :: s.host.irqs } }

def time (s : State) : Nat := (s.reg R.POD_TIME).toNat
def modState (s : State) : Nat := s.fld R.GLB_STATUS F.GLB_STATUS_state
def setModState (s : State) (v : Nat) : State := s.setFld R.GLB_STATUS F.GLB_STATUS_state v
def podDevice (s : State) : Nat := s.fld R.GLB_POD_ID F.GLB_POD_ID_pod_device
def isGate (s : State) : Bool := s.regBit R.GLB_POD_ID 6
def podNumber (s : State) : Nat := s.fld R.GLB_POD_ID F.GLB_POD_ID_pod_number

/-! ## Alarms (R450) -/

/-- An event of an alarm source: every enabled alarm of that source counts it in its window. -/
def alarmEvent (s : State) (src : Nat) (n : Nat := 1) : State :=
  (List.range 16).foldl (fun s k =>
    if s.fld (R.RAS_ALARM_CFG k) F.RAS_ALARM_CFG_enable = 1 ∧ s.fld (R.RAS_ALARM_CFG k) F.RAS_ALARM_CFG_source = src then
      { s with ras := { s.ras with alarmNow := s.ras.alarmNow.set 0 k (s.ras.alarmNow.get 0 k + n) } }
    else s) s

/-- SMB_ALERT_N is asserted while any alarm status bit is set (R450). -/
def smbAlert (s : State) : Bool := decide (s.fld R.RAS_ALARM_STATUS F.RAS_ALARM_STATUS_raised ≠ 0)

/-! ## The Contrail log: intake (R444, R445, R447) -/

/-- The unit of an entry: type, die (4 the hub), index within the type. -/
structure LogUnit where
  type : Nat
  die : Nat
  index : Nat
  deriving DecidableEq, Repr

def uThimble : LogUnit := ⟨0, 4, 0⟩
def uCore (c : Nat) : LogUnit := ⟨1, c / 32, c⟩
def uPower : LogUnit := ⟨10, 4, 0⟩

/-- Entries of each class in the intake's reserved share. -/
def intakeShare : Nat → Nat
  | 0 => 64 | 1 => 512 | 2 => 1024 | 3 => 1024 | _ => 1472

/-- The class whose share a new entry takes: its own, else a lower class's, from the lowest. -/
def shareFor (s : State) (cls : Nat) : Option Nat :=
  let used := fun k => (s.ras.intake.filter (fun e => e.share == k)).length
  (cls :: ((List.range 5).reverse.filter (fun k => decide (cls < k)))).find? (fun k => decide (used k < intakeShare k))

/-- A refused entry: it starts or extends the flood of its class and is kept among the first or the last 64, or lost. -/
def floodEntry (s : State) (e : LogEntry) : State :=
  let f := s.ras.floods.get Flood.none e.cls
  let passed := decide (f.first.length ≥ 64) && decide (f.tail.length ≥ 64)
  let f' : Flood :=
    if f.first.length < 64 then { f with active := true, first := f.first ++ [e] }
    else { f with active := true, tail := (if passed then f.tail.drop 1 else f.tail) ++ [e],
                  lost := if passed then f.lost + 1 else f.lost }
  have s := { s with ras := { s.ras with floods := s.ras.floods.set Flood.none e.cls f' } }
  have s := s.setRegBit R.RAS_STATUS e.cls true
  if passed then (s.inc (R.RAS_LOG_DROPS e.cls)).alarmEvent 9 else s

/-- An entry reaches the intake: INFO and TRACE only while enabled; FATAL and ERROR are never refused. -/
def logEntry (s : State) (e : LogEntry) : State :=
  if e.cls = 3 ∧ s.fld R.RAS_LOG_CFG F.RAS_LOG_CFG_info_en = 0 then s
  else if e.cls = 4 ∧ s.fld R.RAS_LOG_CFG F.RAS_LOG_CFG_trace_en = 0 then s
  else match s.shareFor e.cls with
    | some k => { s with ras := { s.ras with intake := s.ras.intake ++ [⟨k, e⟩] } }
    | none =>
      if e.cls ≤ 1 then { s with ras := { s.ras with intake := s.ras.intake ++ [⟨e.cls, e⟩] } }
      else s.floodEntry e

/-- An event is logged (R444, R459). -/
def log (s : State) (cls code : Nat) (u : LogUnit) (inst : Option Nat := none) (addr : Nat := 0) (pc : Nat := 0)
    (peer : Nat := 0) (value : Nat := 0) : State :=
  s.logEntry { time := s.time, seq := 0, cls := cls, code := code, unitType := u.type, unitDie := u.die,
               index := u.index, inst := inst, gen := (inst.map s.gen).getD 0, count := 1, last := 0, flood := false,
               addr := addr, pc := pc, peer := peer, value := value }

def fatal (s : State) (code : Nat) (u : LogUnit) (inst : Option Nat := none) : State := s.log 0 code u inst

/-- The peer field of an entry (R444). -/
def peerField (device pod sess : Nat) : Nat := device % 64 + pod % 128 * 2 ^ 6 + sess % 4096 * 2 ^ 13 + 2 ^ 25

/-! ## Refused accesses and lower-tier failures -/

/-- A firewall refusal counts and is logged as WARN (R408). -/
def firewallDenied (s : State) (u : LogUnit) (inst : Option Nat) (a : Nat) (pc : Nat := 0) : State :=
  (s.inc R.SCH_FIREWALL_DENIED).log 2 0x64 u inst a pc

/-- Whether a write of a generation is stale for its instance: it is discarded silently and counted (R408). -/
def stale (s : State) (inst : Option Nat) (g : Nat) : Bool :=
  match inst with
  | some i => genOlder g (s.gen i)
  | none => false

def staleWrite (s : State) : State := s.inc R.SCH_STALE_WRITES

/-- A request of an instance ends by R255 or R439: its MEM_LTF_STEP bit is set unless its core is out of the vote (R257). -/
def ltfMark (s : State) (inst : Option Nat) (voteExcl : Bool) : State :=
  match inst with
  | some i => if voteExcl then s else s.setRegBit R.MEM_LTF_STEP i true
  | none => s

/-- A request ends with LOWER_TIER_FAIL. -/
def ltfEnd (s : State) (inst : Option Nat) (voteExcl : Bool) : State :=
  (s.inc R.MEM_LTF_COUNT).ltfMark inst voteExcl

/-- The die that holds an SRAM address, the hub for none (R438). -/
def sramDie (a : Nat) : Nat :=
  match regionOf a with
  | .ovc k => k / 24
  | .pocket c => c / 32
  | _ => 4

/-- An uncorrectable SRAM error met by a requester: counted, logged as ERROR, marked for the vote (R439). -/
def sramUe (s : State) (u : LogUnit) (inst : Option Nat) (voteExcl : Bool) (a : Nat) : State :=
  ((((s.inc (R.RAS_SRAM_UE (sramDie a))).alarmEvent 1).log 1 0x91 u inst a).ltfMark inst voteExcl)

/-- The end of a failing read by an engine: its flags and counts for the status that `readStatus` gave. -/
def readFailed (s : State) (st : Nat) (u : LogUnit) (inst : Option Nat) (voteExcl : Bool) (a : Nat) : State :=
  if st = 0x91 then s.sramUe u inst voteExcl a
  else if st = 0x24 then s.ltfEnd inst voteExcl
  else if st = 0x64 then s.firewallDenied u inst a
  else s

/-- An engine's range: unmapped, refused, or unreadable (R26, R408, R256, R439). -/
def engineRead (s : State) (w : Who) (a n : Nat) : Nat :=
  match s.checkRange w a n with
  | 0 => s.readStatus a n
  | st => st

/-! ## Register access by requesters (R341, R343, R407) -/

/-- The instance for which core `c` acts: that of its running copy, else the owner of the core. -/
def coreInst (s : State) (c : Nat) : Option Nat :=
  match (s.core c).runq.find? (fun p => decide (p.phase = .running)) with
  | some p => p.owner.inst.map (fun i => i.val)
  | none => s.instOfCore c

/-- Whether a requester's path reaches a register: the PF's BAR0 and Thimble reach all, a VF its queue page, a core what
the firewall admits. -/
def reach (s : State) (req : Requester) (off : Nat) : Bool :=
  match req with
  | .pf => true
  | .thimble => true
  | .vf k => decide (0x410000 + k.val * 0x1000 ≤ off ∧ off < 0x411000 + k.val * 0x1000)
  | .core c => match s.coreInst c.val with
    | some i => s.regAdmitted i off
    | none => false

/-- A register access that its requester's path does not reach: refused by the firewall, no effect (R408). -/
def regRefused (s : State) (req : Requester) (off : Nat) : State :=
  match req with
  | .core c => s.firewallDenied (uCore c.val) (s.coreInst c.val) (0x18000000000 + off)
  | .vf k => s.firewallDenied ⟨0, 4, k.val + 1⟩ (some k.val) (0x18000000000 + off)
  | _ => s

/-- A read of a register that the requester's path does not reach answers all ones (R26, R341). -/
def refusedRead (s : State) (req : Requester) (off : Nat) : State :=
  have s := s.regRefused req off
  { s with host := { s.host with reply := some ⟨req, List.replicate 8 0xFF, false⟩ } }

/-- Registers whose write is a critical command: PWR_RESET, RAS_MAINT and the vote configuration (R343, R436, R442). -/
def critical (off : Nat) : Bool :=
  decide (off = R.PWR_RESET ∨ off = R.RAS_MAINT) ||
  (List.range 8).any (fun i => [R.SEAM_VOTE_CFG i, R.SEAM_VOTE_TREE i, R.SEAM_VOTE_CHILDREN i, R.SEAM_VOTE_MEMBERS i,
    R.SEAM_VOTE_PODS_LO i, R.SEAM_VOTE_PODS_HI i, R.SEAM_NORM_BOUND i, R.SEAM_QUERY_AFTER i,
    R.SEAM_APPLY_DEADLINE i].any (fun r => decide (r ≤ off ∧ off < r + 4 ∨ off = r + 4 ∧ r % 8 = 0)))

/-- A host write to a critical register: no effect, counted and logged (R343). -/
def directCritical (s : State) (off : Nat) : State :=
  (s.inc R.HST_DIRECT_CRIT).log 2 0x73 uThimble (addr := off)

/-- Nearest value in a range, for fields whose outside values act as the nearer limit. -/
def clampTo (lo hi v : Nat) : Nat := max lo (min hi v)

/-! ## Semaphore releases and completions -/

/-- A done_sem field that names a semaphore outside the instance's set ends its item with SEM_FOREIGN (R414). -/
def semForeign (s : State) (inst : Option Nat) (n : Nat) : Bool :=
  decide (n ≠ 0xFFFF) && (match inst with
    | some i => !s.ownsSem i n
    | none => true)

/-- A release of a done_sem on its way to the semaphore (R36, R415); 0xFFFF is none, and one outside the instance's set
is released by nothing. -/
def doneSem (s : State) (n : Nat) (who : Agent) (inst gen : Nat) : State :=
  if n = 0xFFFF ∨ s.ownsSem inst n = false then s
  else { s with sch := { s.sch with semIn := s.sch.semIn.set [] n (s.sch.semIn.get [] n ++ [⟨false, who, inst, gen⟩]) } }

end State

/-- The base of a queue's registers (R344). -/
def queueBase (q : QRef) : Nat :=
  match q.page with
  | .inst k => 0x410000 + k.val * 0x1000 + q.q.val * 0x40
  | .pf => 0x408000 + q.q.val * 0x40

namespace State

/-- A field of a queue's registers, at the offset that HST_Q_* has within queue 0 of page 0. -/
def qfld (s : State) (q : QRef) (r : Nat) (f : Fld) : Nat := s.fld (queueBase q + (r - 0x410000)) f
def setQfld (s : State) (q : QRef) (r : Nat) (f : Fld) (v : Nat) : State := s.setFld (queueBase q + (r - 0x410000)) f v

def queueSize (s : State) (q : QRef) : Nat := 2 ^ min 16 (max 6 (s.qfld q (R.HST_Q_CFG 0 0) F.HST_Q_CFG_size_log2))

/-- The function whose vectors a queue uses. -/
def queueFn (q : QRef) : Nat :=
  match q.page with
  | .inst k => k.val + 1
  | .pf => 0

/-- A 16-byte completion record (R348). -/
def cplRecord (idx status result : Nat) : List Byte :=
  bytesOf (idx % 2 ^ 16 + status % 256 * 2 ^ 16) 8 ++ bytesOf result 8

/-- A completion record written to a queue's companion ring, with the vector of the queue when asked (R346, R348). -/
def writeCpl (s : State) (q : QRef) (idx status result : Nat) (irq : Bool) : State :=
  let hbm := decide (s.qfld q (R.HST_Q_CFG 0 0) F.HST_Q_CFG_in_hbm = 1)
  let tail := s.qfld q (R.HST_Q_CPL_TAIL 0 0) F.HST_Q_CPL_TAIL_index
  let base := s.qfld q (R.HST_Q_CPL_BASE 0 0) F.HST_Q_CPL_BASE_addr
  have s := s.putRing hbm (base + 16 * tail) (cplRecord idx status result)
  have s := s.setQfld q (R.HST_Q_CPL_TAIL 0 0) F.HST_Q_CPL_TAIL_index ((tail + 1) % s.queueSize q)
  if irq then
    let v := s.qfld q (R.HST_Q_CFG 0 0) F.HST_Q_CFG_vector
    s.irq (queueFn q) (if queueFn q = 0 then v else v % 16)
  else s

/-- The entry of queue `q` that work `id` stands for. -/
def workOf (s : State) (id : Nat) : Option Work := s.host.works.find? (fun w => w.id == id)

/-- The running count of a queue: entries started and not completed, saturating at 255. -/
def showRunning (s : State) (q : QRef) : State :=
  s.setQfld q (R.HST_Q_STATUS 0 0) F.HST_Q_STATUS_running
    (min 255 (s.host.works.filter (fun w => decide (w.q = q))).length)

/-- A queue entry completes (R348). -/
def completeWork (s : State) (id status result : Nat) : State :=
  match s.workOf id with
  | none => s
  | some w =>
    have s := { s with host := { s.host with works := s.host.works.filter (fun x => x.id != id) } }
    (s.showRunning w.q).writeCpl w.q w.idx status result (bitOf w.desc.toNat 10)

/-- An entry's completion is suppressed (R349). -/
def dropWork (s : State) (id : Nat) : State :=
  match s.workOf id with
  | none => s
  | some w => ({ s with host := { s.host with works := s.host.works.filter (fun x => x.id != id) } }).showRunning w.q

/-- A DMA item of a unit changed. -/
def mapDma (s : State) (u : DmaUnit) (id : Nat) (f : DmaItem → DmaItem) : State :=
  let g := fun (l : List DmaItem) => l.map (fun it => if it.id = id then f it else it)
  match u with
  | .core c => s.setCore c.val { s.core c.val with dmaq := g (s.core c.val).dmaq }
  | .die d => { s with msys := { s.msys with hostDma := s.msys.hostDma.set [] d.val (g (s.msys.hostDma.get [] d.val)) } }

/-- An engine's item finishes: its done_sem is released, and the DMA item that carries it takes the status, to be
reported by DMA_ITEM_COMPLETION (R36, R153, R348). -/
def finishItem (s : State) (o : ItemOrigin) (status result done : Nat) (who : Agent) (ow : Owner) : State :=
  have s := s.mapDma o.unit o.id (fun it => { it with done := some status, result := result })
  match ow.inst with
  | some i => if status = 0x65 then s else s.doneSem done who i.val ow.gen
  | none => s

/-- The owner's firewall identity. -/
def whoOf (o : Owner) : Who :=
  match o.inst with
  | some i => .inst i.val
  | none => .pf

/-- The owner's instance as a number. -/
def instOf (o : Owner) : Option Nat := o.inst.map (fun i => i.val)

/-- Whether an owner's generation is not its instance's current one any more. -/
def oldOwner (s : State) (o : Owner) : Bool := s.stale (instOf o) o.gen

end State
end Sys2Proof.Machine
end

