-- ==== Sys2Proof/Machine/Flags.lean ====
section
/-! DEFINITION. The flag computations: a core's floating-point flags (R66 to R68) and the memory-side adders with what
their completions report (R251, R252). -/
namespace Sys2Proof.Machine
namespace State

/-- A core's exception state after an operation of a unit (R55, R66, R68): 0 array, 1 vector unit, 2 special-function
unit, 3 drain conversion, 4 core DMA conversion. -/
def fpEvent (s : State) (c unit : Nat) (ev : FpEv) : State :=
  have s := if ev.nonfinite then
      have s := if s.fld (R.CORE_FP_FLAGS c) F.CORE_FP_FLAGS_nonfinite_any = 0
        then s.setFld (R.CORE_FP_FLAGS c) F.CORE_FP_FLAGS_first_unit unit else s
      have s := s.setFld (R.CORE_FP_FLAGS c) F.CORE_FP_FLAGS_nonfinite_any 1
      if s.fld (R.CORE_FP_CTRL c) F.CORE_FP_CTRL_vote_excl = 1 then s
      else s.setFld (R.CORE_FP_FLAGS c) F.CORE_FP_FLAGS_nonfinite_step 1
    else s
  have s := if ev.intSat then s.setFld (R.CORE_FP_FLAGS c) F.CORE_FP_FLAGS_int_sat 1 else s
  have s := if ev.fpSat then s.setFld (R.CORE_FP_FLAGS c) F.CORE_FP_FLAGS_fp_sat 1 else s
  if ev.satCount = 0 then s else s.addSat (R.CORE_SAT_COUNT c) ev.satCount

/-- The vote exclusion of the core that issues an item (R257). -/
def voteExcl (s : State) (c : Nat) : Bool := decide (s.fld (R.CORE_FP_CTRL c) F.CORE_FP_CTRL_vote_excl = 1)

end State

/-! ## Memory-side adders (R251, R252) -/

/-- Bytes of an element by its code in R251; none for codes it does not give. -/
def addSize : Nat → Option Nat
  | 0 => some 4 | 1 => some 2 | 2 => some 2 | 4 => some 4 | 5 => some 8 | _ => none

/-- Round-to-nearest-even into an encoding that has infinities (R252). -/
def toEnc (f : FloatEnc) (v : FVal) : Nat :=
  match v with
  | .nan => f.nan.getD 0
  | .inf n => f.signBit n + f.infCode
  | .fin n m e => f.signBit n + min (f.magCode .rne m e) f.infCode

/-- One floating-point element operation: 0 add, 1 max, 2 min; and whether its result is not finite. -/
def addFloat (f g : FloatEnc) (op dst src : Nat) : Nat × Bool :=
  let a := f.decode dst
  let b := g.decode src
  let v := match op with
    | 0 => a.add b
    | 1 => a.max b
    | _ => a.min b
  let r := toEnc f v
  (r, !(f.decode r).isFinite)

/-- One integer element operation of `w` bits; and whether an add wrapped. -/
def addInt (w op dst src : Nat) : Nat × Bool :=
  let a := signedOf w dst
  let b := signedOf w src
  match op with
  | 0 => (twosOf w (a + b), decide (signedOf w (twosOf w (a + b)) ≠ a + b))
  | 1 => (twosOf w (max a b), false)
  | _ => (twosOf w (min a b), false)

/-- One element operation of the adders on a destination code and a source code (an FP16 or BF16 source widens exactly into
FP32): the result, whether it is not finite, whether it wrapped. -/
def addElem (dstCode srcCode op dst src : Nat) : Nat × Bool × Bool :=
  let enc := fun c => if c = 0 then encFp32 else if c = 1 then encFp16 else encBf16
  if dstCode = 4 ∨ dstCode = 5 then
    let (r, w) := addInt (if dstCode = 4 then 32 else 64) op dst src
    (r, false, w)
  else
    let (r, n) := addFloat (enc dstCode) (enc srcCode) op dst src
    (r, n, false)

/-- What a reduction reports with its completion. -/
structure AddRep where
  nonfinite : Bool
  wraps : Nat
  deriving DecidableEq, Repr

namespace State

/-- A reduction into ascending elements from `a`: the home combines each element where it lives (R253). -/
def reduceAt (s : State) (dstCode srcCode op a : Nat) (vals : List Nat) : AddRep × State :=
  let n := (addSize dstCode).getD 1
  let r := vals.foldl (fun (st : State × Nat × AddRep) v =>
    let (s, x, rep) := st
    let (v', nf, w) := addElem dstCode srcCode op (s.natAt x n) v
    have s := if x < 0x6000000000 ∧ (s.lineOf x).isNone then s.add64 (R.MEM_HBM_ADDS (x / 0xC00000000)) 1 else s
    (s.putNat x n v', x + n, ⟨rep.nonfinite || nf, rep.wraps + (if w then 1 else 0)⟩)) (s, a, ⟨false, 0⟩)
  (r.2.2, r.1)

/-- Where a reduction of a code is accepted (R251): the floating-point ones in HBM and Overcast, integers in Pocket too. -/
def reduceOk (s : State) (dstCode a n : Nat) : Bool :=
  let ok := fun x => match s.region x with
    | .hbm _ => true
    | .ovc _ => true
    | .pocket _ => decide (dstCode = 4 ∨ dstCode = 5)
    | .none => true
    | _ => false
  ok a && ok (a + n - 1)

end State

/-- Bytes as elements of `n` bytes each. -/
def elemsOf (n : Nat) (bs : List Byte) : List Nat :=
  (List.range (bs.length / n)).map (fun k => natOfBytes ((bs.drop (k * n)).take n))

end Sys2Proof.Machine
end

