-- ==== Sys2Proof/Machine/Pod.lean ====
section
/-! DEFINITION. The coherent pod view of the gate and the event FIFO of the Thimble mailbox (R357, R358). -/
namespace Sys2Proof.Machine
namespace State

/-- Thimble reports an event to the PF driver (R358): type 1 a function-level reset, type 2 a change of the members. -/
def addEvent (s : State) (type fn dev : Nat) : State :=
  if s.host.events.length ≥ 64 then s.inc R.THM_EVENT_LOST
  else
    let w : Word := BitVec.ofNat 64 (1 + type % 8 * 2 + fn % 16 * 2 ^ 4 + dev % 64 * 2 ^ 8 + s.time % 2 ^ 48 * 2 ^ 16)
    have s := { s with host := { s.host with events := s.host.events ++ [w] } }
    (s.setFld R.THM_STATUS F.THM_STATUS_event_pending 1).irq 0 1

/-- A read of THM_EVENT takes the oldest entry (R358). -/
def popEvent (s : State) : Word × State :=
  match s.host.events with
  | [] => (0, s)
  | w :: rest =>
    have s := { s with host := { s.host with events := rest } }
    (w, s.setFld R.THM_STATUS F.THM_STATUS_event_pending (if rest.isEmpty then 0 else 1))

def popCount (n x : Nat) : Nat := ((List.range n).filter (fun k => bitOf x k)).length

/-- The gate's pod registers: the members of a held instance's job show held, and the state is held, degraded while a
listed member is missing, or ready once the join has ended (R357; DEDUCED, the manual gives the fields without the
moments at which they change). -/
def showPod (s : State) : State :=
  if !s.isGate then s
  else
    let held := (List.range 8).foldl (fun m i =>
      if (s.votes.get VoteState.reset i).held then m ||| (s.reg (R.SEAM_VOTE_MEMBERS i)).toNat else m) 0
    let members := (s.reg R.HST_POD_MEMBERS).toNat
    have s := s.setReg R.HST_POD_HELD (BitVec.ofNat 64 held)
    have s := if held = 0 then s.setReg R.HST_POD_FENCED 0 else s
    have s := s.setFld R.HST_POD_STATE F.HST_POD_STATE_members (popCount 64 members)
    if s.fld R.HST_POD_STATE F.HST_POD_STATE_state = 0 then s
    else s.setFld R.HST_POD_STATE F.HST_POD_STATE_state
      (if held ≠ 0 then 2 else if s.host.members &&& members ≠ s.host.members then 3 else 1)

/-- A member joins or is lost: the gate's mask changes and the driver hears of it (R358, R430). -/
def setMember (s : State) (dev : Nat) (on : Bool) : State :=
  if !s.isGate || s.regBit R.HST_POD_MEMBERS dev == on then s
  else ((s.setRegBit R.HST_POD_MEMBERS dev on).addEvent 2 0 dev).showPod

/-- POD_STEP as a requester sees it (R280). -/
def podStep (s : State) (req : Requester) : Word :=
  match req with
  | .vf k => s.reg (R.SEAM_STEP_COMMITTED k.val)
  | _ => s.reg (R.SEAM_STEP_COMMITTED (s.fld (R.SEAM_VOTE_STATUS 0) F.SEAM_VOTE_STATUS_step_inst))

/-- The snapshot of the pod view (R357). -/
def podSnap (s : State) : State :=
  have s := (s.setReg R.HST_SNAP_STEP (s.podStep .pf)).setReg R.HST_SNAP_TIME (s.reg R.POD_TIME)
  have s := s.setReg R.HST_SNAP_MEMBERS (s.reg R.HST_POD_MEMBERS)
  have s := s.setReg R.HST_SNAP_HELD (s.reg R.HST_POD_HELD)
  have s := s.setReg R.HST_SNAP_FENCED (s.reg R.HST_POD_FENCED)
  s.setReg R.HST_SNAP_STATE (s.reg R.HST_POD_STATE)

end State

/-- HST_POD_SNAP (R357): a write of 1 to snap. -/
def execHstPodSnap (req : Requester) (s : State) : Out :=
  if s.reach req R.HST_POD_SNAP then .next s.podSnap else .next (s.regRefused req R.HST_POD_SNAP)

/-- THM_EVENT (R358): a read of THM_EVENT. -/
def execThmEvent (req : Requester) (s : State) : Out :=
  if s.reach req R.THM_EVENT then
    let (w, s) := s.popEvent
    .next { s with host := { s.host with reply := some ⟨req, bytesOf w.toNat 8, false⟩ } }
  else .next (s.refusedRead req R.THM_EVENT)

end Sys2Proof.Machine
end

