-- ==== Sys2Proof/Machine/Ras.lean ====
section
/-! DEFINITION. Reliability and diagnostics: the scrubber, the Contrail log writer, snapshots, alarms, the management bus
and the TAP (R438 to R456). -/
namespace Sys2Proof.Machine

/-- The 64 bytes of an entry (R444). -/
def LogEntry.bytes (e : LogEntry) : List Byte :=
  bytesOf e.time 8 ++ bytesOf e.seq 8 ++ bytesOf e.cls 1 ++ bytesOf e.code 1 ++
  bytesOf (e.unitType % 16 + e.unitDie % 8 * 16) 1 ++ bytesOf e.index 2 ++
  bytesOf (match e.inst with
    | some i => i % 8 + 128
    | none => 0) 1 ++
  bytesOf e.gen 2 ++ bytesOf e.count 4 ++ bytesOf e.last 4 ++ bytesOf (if e.flood then 1 else 0) 1 ++
  bytesOf (e.addr % 2 ^ 54) 8 ++ bytesOf e.pc 6 ++ bytesOf e.peer 4 ++ bytesOf e.value 8 ++ bytesOf 0 5

/-- Entries in each class's share of the ring (R445). -/
def ringSize : Nat → Nat
  | 0 => 4096 | 1 => 65536 | 2 => 65536 | 3 => 65536 | _ => 61440

/-- Whether an event coalesces into an open entry (R446): same class, code, unit, index and instance, within 1 ms. -/
def OpenEntry.takes (o : OpenEntry) (e : LogEntry) : Bool :=
  decide (o.entry.cls = e.cls ∧ o.entry.code = e.code ∧ o.entry.unitType = e.unitType ∧ o.entry.unitDie = e.unitDie ∧
    o.entry.index = e.index ∧ o.entry.inst = e.inst ∧ o.entry.time ≤ e.time ∧ e.time < o.entry.time + 1000000)

/-- The first position of a list that satisfies a test. -/
def findPos {α : Type} (p : α → Bool) : List α → Option Nat
  | [] => none
  | x :: xs => if p x then some 0 else (findPos p xs).map (· + 1)

/-- A list without its element at a position. -/
def dropAt {α : Type} (l : List α) (k : Nat) : List α := l.take k ++ l.drop (k + 1)

/-- Insertion by sequence number. -/
def insertSeq (e : LogEntry) : List LogEntry → List LogEntry
  | [] => [e]
  | x :: xs => if e.seq ≤ x.seq then e :: x :: xs else x :: insertSeq e xs

/-- Entries in seq order. -/
def sortSeq (l : List LogEntry) : List LogEntry := l.foldr insertSeq []

/-- The last `n` elements. -/
def newest {α : Type} (n : Nat) (l : List α) : List α := l.drop (l.length - n)

namespace State

/-- An entry written to its class's ring: it takes the next number and the share's next place (R444, R445). -/
def ringWrite (s : State) (e : LogEntry) : Nat × State :=
  let h := s.fld (R.RAS_LOG_HEAD e.cls) F.RAS_LOG_HEAD_index
  let f := s.ras.filled.get 0 e.cls
  have s := { s with ras := { s.ras with
    rings := s.ras.rings.set LogEntry.blank (e.cls * 2 ^ 17 + h) { e with seq := s.ras.nextSeq },
    nextSeq := s.ras.nextSeq + 1, filled := s.ras.filled.set 0 e.cls (min (ringSize e.cls) (f + 1)) } }
  (h, s.setFld (R.RAS_LOG_HEAD e.cls) F.RAS_LOG_HEAD_index ((h + 1) % ringSize e.cls))

/-- The entries of a class's ring in seq order. -/
def ringEntries (s : State) (cls : Nat) : List LogEntry :=
  sortSeq ((s.ras.rings.filter (fun e => e.1 / 2 ^ 17 == cls)).map Prod.snd)

/-- What a FATAL snapshot holds (R449). -/
def snapshotNow (s : State) : Snapshot :=
  let f := newest 64 (s.ringEntries 0)
  let e := newest (2048 - f.length) (s.ringEntries 1)
  let w := newest (4032 - f.length - e.length) (sortSeq (s.ringEntries 2 ++ s.ringEntries 3))
  { header := ([R.GLB_MODULE_ID, R.GLB_STATUS, R.HST_BOOT_NONCE_LO, R.HST_BOOT_NONCE_HI, R.POD_TIME, R.PWR_BOOT_STATUS,
      R.PWR_INPUT_STATUS, R.PWR_DIE_STATUS 0, R.PWR_DIE_STATUS 1, R.PWR_DIE_STATUS 2, R.PWR_DIE_STATUS 3, R.RAS_STATUS,
      R.RAS_LOG_DROPS 2, R.RAS_LOG_DROPS 3, R.RAS_LOG_DROPS 4].map (fun r => (s.reg r).toNat)),
    entries := sortSeq (f ++ e ++ w) }

/-- A FATAL entry starts a snapshot, or one more after the one being written; none once both inputs have failed (R449). -/
def startSnapshot (s : State) : State :=
  if s.pwr.minimum then s
  else match s.ras.snapRunning with
    | some _ => { s with ras := { s.ras with snapWaiting := s.ras.snapWaiting + 1 } }
    | none => ({ s with ras := { s.ras with snapRunning := some s.snapshotNow } }).setRegBit R.RAS_STATUS 5 true

/-- The window of an open entry closes: WARN, INFO and TRACE are written now; FATAL and ERROR were written at once. -/
def closeOpen (s : State) (k : Nat) : State :=
  match s.ras.opened[k]? with
  | none => s
  | some o =>
    have s := { s with ras := { s.ras with opened := dropAt s.ras.opened k } }
    if o.slot.isSome then s else (s.ringWrite o.entry).2

/-- The position of the open entry with the oldest time. -/
def oldestOpen (s : State) : Nat :=
  ((List.range s.ras.opened.length).foldl (fun (b : Nat × Nat) k =>
    match s.ras.opened[k]? with
    | some o => if o.entry.time < b.2 then (k, o.entry.time) else b
    | none => b) (0, 2 ^ 64)).1

/-- The log writer handles an entry: it coalesces or opens it (R446). -/
def takeEntry (s : State) (e : LogEntry) : State :=
  match findPos (fun o => o.takes e) s.ras.opened with
  | some k =>
    match s.ras.opened[k]? with
    | none => s
    | some o =>
      let e' := { o.entry with count := o.entry.count + 1, last := e.time - o.entry.time }
      have s := { s with ras := { s.ras with opened := s.ras.opened.set k { o with entry := e' } } }
      have s := match o.slot with
        | some p => { s with ras := { s.ras with rings := s.ras.rings.set LogEntry.blank (e.cls * 2 ^ 17 + p) e' } }
        | none => s
      s.inc R.RAS_LOG_COALESCED
  | none =>
    have s := if s.ras.opened.length ≥ 1024 then s.closeOpen s.oldestOpen else s
    if e.cls ≤ 1 then
      let n := s.ras.nextSeq
      let (p, s) := s.ringWrite e
      have s := { s with ras := { s.ras with opened := s.ras.opened ++ [⟨{ e with seq := n }, some p⟩] } }
      if e.cls = 0 then s.startSnapshot else s
    else { s with ras := { s.ras with opened := s.ras.opened ++ [⟨e, none⟩] } }

/-- The entry that the writer takes next: class order from FATAL down, oldest first (R445). -/
def nextIntake (s : State) : Option Nat :=
  (List.range 5).foldl (fun r c => match r with
    | some k => some k
    | none => findPos (fun (i : IntakeEntry) => i.entry.cls == c) s.ras.intake) none

/-- The alarm whose window closes is evaluated (R450). -/
def closeAlarm (s : State) (n : Nat) : State :=
  let cfg := R.RAS_ALARM_CFG n
  if s.fld cfg F.RAS_ALARM_CFG_enable = 1 ∧ s.fld cfg F.RAS_ALARM_CFG_source ≤ 9 then
    let k := min (s.ras.alarmNow.get 0 n) 0xFFFFFFFF
    have s := { s with ras := { s.ras with alarmNow := s.ras.alarmNow.set 0 n 0 } }
    have s := s.setFld (R.RAS_ALARM_COUNT n) F.RAS_ALARM_COUNT_count k
    if k > s.fld (R.RAS_ALARM_THRESH n) F.RAS_ALARM_THRESH_threshold then
      have s := s.setRegBit R.RAS_ALARM_STATUS n true
      have s := s.log 2 0x97 ⟨0, 4, n⟩ (value := k)
      have s := s.irq 0 0
      { s with ras := { s.ras with pldmEvents := s.ras.pldmEvents ++ [n] } }
    else s
  else s

/-- The 64 bytes of a window entry (R448): class and page chosen by RAS_LOG_WIN_SEL; pages beyond the share read 0. -/
def logWindowByte (s : State) (x : Nat) : Byte :=
  let cls := s.fld R.RAS_LOG_WIN_SEL F.RAS_LOG_WIN_SEL_class
  let idx := s.fld R.RAS_LOG_WIN_SEL F.RAS_LOG_WIN_SEL_page * 1024 + x / 64
  if cls ≤ 4 ∧ idx < ringSize cls ∧ idx < s.ras.filled.get 0 cls then
    ((s.ras.rings.get LogEntry.blank (cls * 2 ^ 17 + idx)).bytes)[x % 64]?.getD 0
  else 0

/-- An answer of the module on the management bus; the transaction ends. -/
def smbAnswer (s : State) (bs : List Byte) : State := { s with ras := { s.ras with smbReply := bs, smbHeld := none } }

/-- Selects a TAP instruction. -/
def setTap (s : State) (k : Nat) : State := { s with ras := { s.ras with tap := k } }

end State

/-! ## The scrubber and the log -/

/-- PATROL_SCRUB (R438 to R440). -/
def execPatrolScrub (addr : Nat) (f : ScrubFinding) (s : State) : Out :=
  let u : State.LogUnit := match s.region addr with
    | .pocket c => State.uCore c
    | _ => ⟨2, State.sramDie addr, State.sramDie addr⟩
  let sram := match s.region addr with
    | .pocket _ => true
    | .ovc _ => true
    | _ => false
  if s.fld R.RAS_SCRUB_CFG F.RAS_SCRUB_CFG_enable = 0 || !sram then .next s
  else match f with
    | .clean => .next s
    | .single => .next ((s.inc (R.RAS_SRAM_CE (State.sramDie addr))).alarmEvent 0)
    | .double =>
      let p := if addr / 8 ∈ s.msys.poison then s.msys.poison else addr / 8 :: s.msys.poison
      have s := { s with msys := { s.msys with poison := p } }
      .next (((s.inc (R.RAS_SRAM_UE (State.sramDie addr))).alarmEvent 1).log 1 0x91 u (addr := addr))

/-- CONTRAIL_ENTRY: the log writer takes one entry off the intake (R445, R446). -/
def execContrailEntry (s : State) : Out :=
  match s.nextIntake with
  | none => .next s
  | some k =>
    match s.ras.intake[k]? with
    | none => .next s
    | some i => .next (({ s with ras := { s.ras with intake := dropAt s.ras.intake k } }).takeEntry i.entry)

/-- SNAPSHOT_COMPLETE: the running snapshot stands in the next slot; one that waits starts (R449). -/
def execSnapshotComplete (s : State) : Out :=
  match s.ras.snapRunning with
  | none => .next s
  | some x =>
    let n := s.fld R.RAS_SNAP_COUNT F.RAS_SNAP_COUNT_next_slot
    let c := s.fld R.RAS_SNAP_COUNT F.RAS_SNAP_COUNT_count
    have s := { s with ras := { s.ras with snaps := s.ras.snaps.insert n x, snapRunning := none } }
    have s := s.setFld R.RAS_SNAP_COUNT F.RAS_SNAP_COUNT_next_slot ((n + 1) % 16)
    have s := s.setFld R.RAS_SNAP_COUNT F.RAS_SNAP_COUNT_count ((c + 1) % 2 ^ 16)
    have s := s.setRegBit R.RAS_STATUS 5 false
    if s.ras.snapWaiting = 0 then .next s
    else .next ({ s with ras := { s.ras with snapWaiting := s.ras.snapWaiting - 1 } }).startSnapshot

/-- COALESCE_WINDOW_CLOSE: the k-th open entry's 1 ms has passed (R446). -/
def execCoalesceWindowClose (k : Nat) (s : State) : Out :=
  match s.ras.opened[k]? with
  | none => .next s
  | some o => if o.entry.time + 1000000 ≤ s.time then .next (s.closeOpen k) else .next s

/-- FLOOD_END (R447). -/
def execFloodEnd (cls : Fin 5) (s : State) : Out :=
  let f := s.ras.floods.get Flood.none cls.val
  if f.active then
    have s := { s with ras := { s.ras with floods := s.ras.floods.set Flood.none cls.val Flood.none } }
    have s := s.setRegBit R.RAS_STATUS cls.val false
    have s := (f.first ++ f.tail).foldl (fun s e => (s.ringWrite { e with flood := true }).2) s
    .next (s.log 2 0x96 ⟨12, 4, cls.val⟩ (value := f.lost))
  else .next s

/-- ALARM_WINDOW_CLOSE (R450). -/
def execAlarmWindowClose (n : Fin 16) (s : State) : Out := .next (s.closeAlarm n.val)

/-! ## The management bus -/

/-- SMBUS_TRANSACTION: a transaction to the module's target address; a bad PEC discards it (R451). -/
def execSmbusTransaction (addr : Nat) (pecGood : Bool) (data : Bytes) (s : State) : Out :=
  if addr ≠ s.fld R.RAS_SMB_CFG F.RAS_SMB_CFG_addr then .next s
  else if pecGood then .next { s with ras := { s.ras with smbHeld := some data } }
  else .next (s.inc R.RAS_SMB_DROPS)

/-- SMBUS_ARP: the board controller assigns a dynamic address (R451). -/
def execSmbusArp (addr : Nat) (s : State) : Out :=
  .next ((s.setFld R.RAS_SMB_CFG F.RAS_SMB_CFG_addr addr).setFld R.RAS_SMB_CFG F.RAS_SMB_CFG_arp_assigned 1)

/-- SMBUS_TIMEOUT: the module releases the bus and abandons the transaction (R451). -/
def execSmbusTimeout (s : State) : Out := .next { s with ras := { s.ras with smbHeld := none } }

/-- MCTP_TRANSMIT: the module sends its next packet, or loses arbitration; 16 losses in a row discard the packet (R452). -/
def execMctpTransmit (lost addressed : Bool) (s : State) : Out :=
  if lost then
    have s := s.inc R.RAS_SMB_ARB_LOST
    have s := if addressed then { s with ras := { s.ras with smbHeld := some [] } } else s
    if s.ras.smbLosses + 1 ≥ 16 then
      have s := { s with ras := { s.ras with smbLosses := 0, pldmEvents := s.ras.pldmEvents.drop 1 } }
      .next ((s.inc R.RAS_SMB_DROPS).log 2 0x98 ⟨11, 4, 0⟩)
    else .next { s with ras := { s.ras with smbLosses := s.ras.smbLosses + 1 } }
  else .next { s with ras := { s.ras with smbLosses := 0, pldmEvents := s.ras.pldmEvents.drop 1 } }

/-- SET_ENDPOINT_ID (R453): the answer's layout and the two reserved IDs are those of DSP0236 (PRESUMED, log entry 20). -/
def execSetEndpointId (eid : Nat) (s : State) : Out :=
  if eid = 0 ∨ eid ≥ 255 then .next (s.smbAnswer [2])
  else .next (({ s with ras := { s.ras with eid := eid } }).smbAnswer [0, 0, BitVec.ofNat 8 eid, 0])

/-- GET_ENDPOINT_ID (R453). -/
def execGetEndpointId (s : State) : Out := .next (s.smbAnswer [0, BitVec.ofNat 8 s.ras.eid, 0, 0])

/-- GET_MCTP_VERSION_SUPPORT (R453); the manual does not give the version numbers. -/
def execGetMctpVersionSupport (s : State) : Out := .next (s.smbAnswer (0 :: Config.mctpVersions))

/-- GET_MESSAGE_TYPE_SUPPORT: MCTP control and PLDM (R453). -/
def execGetMessageTypeSupport (s : State) : Out := .next (s.smbAnswer [0, 2, 0, 1])

/-- The reading of a numeric sensor (R453): die temperatures 0 to 3, inputs A and B in 10 mV 4 and 5, input power 6. The
sensor numbers are the model's (DESIGN CHOICE, log entry 20). -/
def State.sensor (s : State) (k : Nat) : Option Nat :=
  if k < 4 then some (s.fld (R.PWR_DIE_STATUS k) F.PWR_DIE_STATUS_temp_c)
  else match k with
    | 4 => some (s.fld R.PWR_INPUT_V F.PWR_INPUT_V_a_cv)
    | 5 => some (s.fld R.PWR_INPUT_V F.PWR_INPUT_V_b_cv)
    | 6 => some (s.fld R.PWR_POWER F.PWR_POWER_sample_w)
    | _ => none

/-- PLDM_REQUEST (R453). -/
def execPldmRequest (sensor : Nat) (s : State) : Out :=
  match s.sensor sensor with
  | some v => .next (s.smbAnswer (0 :: bytesOf v 2))
  | none => .next (s.smbAnswer [0x80])

/-! ## The TAP and the test modes (R454, R455) -/

def execBypass (s : State) : Out := .next (s.setTap 0)

/-- IDCODE: stepping, part number 0x0128, the manufacturer's code, and the fixed low bit of IEEE 1149.1. -/
def execIdcode (s : State) : Out :=
  let id := s.fld R.GLB_MODULE_ID F.GLB_MODULE_ID_stepping % 16 * 2 ^ 28 + 0x0128 * 2 ^ 12 +
    Config.jedecCode % 2 ^ 11 * 2 + 1
  .next { s with ras := { s.ras with tap := 1, tapOut := id } }

/-- SAMPLE_PRELOAD: the boundary register takes the pins; its layout is in the BSDL description, which the manual does not
give, so its value is free. -/
def execSamplePreload (s : State) : Out :=
  let (v, s) := s.fresh
  .next { s with ras := { s.ras with tap := 2, boundary := v } }

/-- EXTEST, CLAMP and HIGHZ act only while MOD_RESET_N is low, and as BYPASS otherwise. -/
def State.tapInReset (s : State) (k : Nat) : State := s.setTap (if s.pwr.resetHigh then 0 else k)

def execExtest (s : State) : Out := .next (s.tapInReset 3)
def execClamp (s : State) : Out := .next (s.tapInReset 4)
def execHighz (s : State) : Out := .next (s.tapInReset 5)

/-- TEST_MODE_ENTRY: refused, counted and logged; a private instruction acts as BYPASS, a message or write completes with
TEST_LOCKED (R455). -/
def execTestModeEntry (path : TestPath) (s : State) : Out :=
  have s := (s.inc R.RAS_TEST_REFUSED).log 2 0x94 State.uThimble
  match path with
  | .privateTap _ => .next (s.setTap 0)
  | .mctpVendor => .next { s with ras := { s.ras with testReply := 0x94 } }
  | .mailboxWrite => .next { s with ras := { s.ras with testReply := 0x94 } }

end Sys2Proof.Machine
end

