-- ==== Sys2Proof/Machine/Fabric.lean ====
section
/-! DEFINITION. Fabric ports and the Buinby transport: sessions, packets, acknowledgement, transactions (R308 to R335).
Shared operations; the commands stand in Transport.lean. -/
namespace Sys2Proof.Machine

/-- Header bytes of a packet (R321). -/
def pktHeader (p : Pkt) : List Byte :=
  let b2n := fun (b : Bool) => if b then 1 else 0
  bytesOf (1 + p.type * 16) 1 ++ bytesOf (p.vc + b2n p.ord * 4 + b2n p.ackReq * 8 + b2n p.last * 16) 1 ++
  bytesOf (p.attempt % 2 ^ 13 + b2n p.dir * 2 ^ 13) 2 ++ bytesOf p.dstSess 4 ++ bytesOf p.seq 6 ++
  bytesOf p.sgen 2 ++ bytesOf p.tgen 2 ++ bytesOf p.op 1 ++ bytesOf p.sub 1 ++ bytesOf p.payload.length 2 ++
  bytesOf p.addr 6 ++ bytesOf (p.txn % 2 ^ 17) 4

/-- The endpoint triple of R320 as 32 bits: pod, device, session index. -/
def triple (pod dev idx : Nat) : Nat := pod % 128 * 2 ^ 24 + dev % 64 * 2 ^ 16 + idx % 4096

/-- The nonce of a packet's tag (R322), the first field in the high bits. -/
def pktNonce (p : Pkt) (pod dev epoch : Nat) : BitVec 96 :=
  let d := if p.dir then 1 else 0
  BitVec.ofNat 96 (
    if p.type = 5 ∨ p.type = 6 then 2 * 2 ^ 94 + pod % 128 * 2 ^ 87 + dev % 64 * 2 ^ 81 + epoch % 2 ^ 64
    else p.dstSess % 2 ^ 32 * 2 ^ 64 + (if p.type ≤ 2 then 0 else 1) * 2 ^ 62 + d * 2 ^ 61 +
      p.attempt % 2 ^ 13 * 2 ^ 48 + p.seq % 2 ^ 48)

namespace State

def sess (s : State) (k : Nat) : Session := s.sessions.get Session.reset k
def setSess (s : State) (k : Nat) (x : Session) : State := { s with sessions := s.sessions.set Session.reset k x }

/-! ### Ports -/

/-- Whether a logical port exists in its port's configuration (R15, R308). -/
def lpExists (s : State) (n : Nat) : Bool :=
  let sub := n % 4
  match s.fld (R.FAB_PORT_CFG (n / 4)) F.FAB_PORT_CFG_config with
  | 0 => decide (sub = 0)
  | 1 => decide (sub = 0 ∨ sub = 2)
  | 2 => true
  | _ => false

/-- A die that failed its test has its ports down (R458). -/
def lpUp (s : State) (n : Nat) : Bool :=
  s.lpExists n && s.regBit (R.FAB_PORT_STATUS (n / 4)) (8 + n % 4)

def setLink (s : State) (n : Nat) (up : Bool) : State := s.setRegBit (R.FAB_PORT_STATUS (n / 4)) (8 + n % 4) up

/-- The transport's log unit: a logical port on its die, or a session. -/
def uPort (n : Nat) : LogUnit := ⟨6, n / 24, n⟩

/-- The image's parameters of a logical port (R312). -/
def lpParams (s : State) (n : Nat) : Option LpParams := s.fab.lps.find? (fun l => decide (l.port.val = n))

def lpIpv6 (s : State) (n : Nat) : Bool := decide (s.fld (R.FAB_LP_CFG n) F.FAB_LP_CFG_ipv6 = 1)

/-- Frame bytes of a packet on a port: Ethernet, an optional tag, IP, UDP, header, payload, tag, FCS. -/
def frameBytes (s : State) (n : Nat) (payload : Nat) : Nat :=
  let vlan := match s.lpParams n with
    | some l => if l.vlan.isSome then 4 else 0
    | none => 0
  14 + vlan + (if s.lpIpv6 n then 40 else 20) + 8 + 32 + payload + 8 + 4

/-- The largest payload of a packet: 8,192 bytes or what the MTU admits (R334). A port without parameters has MTU 1,500. -/
def maxPayload (s : State) (n : Nat) : Nat :=
  let mtu := match s.lpParams n with
    | some l => clampTo 1500 9216 l.mtu
    | none => 1500
  min 8192 (mtu - (if s.lpIpv6 n then 40 else 20) - 8 - 40)

/-! ### Keys and tags -/

def fabKey (s : State) (k : Nat) : BitVec 256 :=
  ((s.host.flash.fabKeys.find? (fun e => e.1 == k)).map Prod.snd).getD 0

/-- The tag of a packet of session `x` sent by pod and device (R322). -/
def tagOf (s : State) (x : Session) (p : Pkt) (pod dev : Nat) : BitVec 64 :=
  let key := if p.type = 5 ∨ p.type = 6 then s.fabKey x.keyId else x.key.getD 0
  let epoch := if p.type = 5 ∨ p.type = 6 then natOfBytes (p.payload.take 8) else x.epoch
  Config.gmac key (pktNonce p pod dev epoch) (pktHeader p ++ p.payload)

/-- The session key of R320. The initiator's nonce and triple come first. -/
def sessionKey (s : State) (k : Nat) (x : Session) (epoch : Nat) : BitVec 256 :=
  let own := triple s.podNumber s.podDevice k
  let peer := triple x.peerPod x.peerDevice x.peerIndex
  let (n1, n2, t1, t2) := if x.responder then (x.peerNonce, x.ownNonce, peer, own) else (x.ownNonce, x.peerNonce, own, peer)
  Config.kdf (s.fabKey x.keyId) (("BUINBY-S".toList).map (fun c => BitVec.ofNat 8 c.toNat))
    (bytesOf n1.toNat 16 ++ bytesOf n2.toNat 16 ++ bytesOf t1 4 ++ bytesOf t2 4 ++ bytesOf epoch 8)

/-! ### Sending -/

/-- A packet leaves on the session's port: its bytes count, it stands on the wire (R321). -/
def emit (s : State) (k : Nat) (p : Pkt) : State :=
  let x := s.sess k
  let p := { p with tag := s.tagOf x p s.podNumber s.podDevice }
  if h : x.port < 96 then
    have s := { s with fab := { s.fab with wire := (⟨x.port, h⟩, p) :: s.fab.wire } }
    s.add64 (R.FAB_LP_TX_BYTES x.port) (s.frameBytes x.port p.payload.length)
  else s

/-- A control packet of a session (R321): its seq is the control counter of the sender's direction. -/
def controlPkt (s : State) (k type : Nat) (payload : List Byte) : Pkt :=
  let x := s.sess k
  { type := type, vc := 0, ord := false, ackReq := false, last := false, attempt := 0, dir := x.responder,
    dstSess := x.peerIndex, seq := x.txCtl, sgen := s.gen x.inst, tgen := x.peerGen, op := 0, sub := 0, addr := 0, txn := 0,
    payload := payload, tag := 0 }

/-- A control packet queued on channel 0. -/
def queueControl (s : State) (k type : Nat) (payload : List Byte) : State :=
  let p := s.controlPkt k type payload
  let x := s.sess k
  s.setSess k { x with control := x.control ++ [p], txCtl := x.txCtl + 1 }

/-- The runs of consecutive numbers of an ascending list, as offset and length from `cum`. -/
def runsOf (cum : Nat) : List Nat → List (Nat × Nat)
  | [] => []
  | n :: rest =>
    match runsOf cum rest with
    | (o, l) :: more => if cum + o = n + 1 then (n - cum, l + 1) :: more else (n - cum, 1) :: (o, l) :: more
    | [] => [(n - cum, 1)]

/-- Insertion in ascending order without repeats. -/
def insertNat (n : Nat) : List Nat → List Nat
  | [] => [n]
  | x :: xs => if n < x then n :: x :: xs else if n = x then x :: xs else x :: insertNat n xs

/-- The payload of an ACK (R323): cumulative value, up to four SACK ranges, CE-marked bytes. -/
def ackPayload (x : Session) : List Byte :=
  bytesOf x.rxCum 6 ++ ((runsOf x.rxCum x.rxSeen).take 4).flatMap (fun r => bytesOf r.1 2 ++ bytesOf r.2 2) ++
  bytesOf x.ceBytes 4

/-- An ACK is sent (R325). -/
def sendAck (s : State) (k : Nat) : State :=
  let x := s.sess k
  (s.queueControl k 3 (ackPayload x)).setSess k
    { ((s.queueControl k 3 (ackPayload x)).sess k) with unackedRx := 0, ceBytes := 0 }

/-- The payload of a NAK (R323): 48-bit seq, 17-bit txn, 8-bit status, in contiguous bits. -/
def nakPayload (seq txn status : Nat) : List Byte :=
  bytesOf (seq % 2 ^ 48 + txn % 2 ^ 17 * 2 ^ 48 + status % 256 * 2 ^ 65) 10

/-- A received REQ or RESP packet's number is recorded, and the cumulative value moves up (R324). -/
def recordRx (x : Session) (seq : Nat) : Session :=
  let seen := insertNat seq x.rxSeen
  let r := seen.foldl (fun (st : Nat × List Nat) n => if n = st.1 then (n + 1, st.2) else (st.1, st.2 ++ [n])) (x.rxCum, [])
  { x with rxCum := r.1, rxSeen := r.2, unackedRx := x.unackedRx + 1 }

/-- A packet's effect is done (R325, R326): acknowledged under the rules of R325, or NAKed with its failing status. -/
def answerRx (s : State) (rx : RxPkt) (status : Nat) : State :=
  let k := rx.sess.val
  have s := s.setSess k (recordRx (s.sess k) rx.pkt.seq)
  have s := if status = 0 then s else s.queueControl k 4 (nakPayload rx.pkt.seq rx.pkt.txn status)
  if (s.sess k).unackedRx ≥ 16 || rx.pkt.ackReq || rx.pkt.vc == 0 then s.sendAck k else s

/-! ### Transactions (R334) -/

def showTxns (s : State) (d : Nat) : State :=
  let n := (s.txns.filter (fun t => t.die.val == d)).length
  have s := s.setFld (R.FAB_TXN_INUSE d) F.FAB_TXN_INUSE_in_use n
  if n > s.fld (R.FAB_TXN_INUSE d) F.FAB_TXN_INUSE_peak then
    s.setFld (R.FAB_TXN_INUSE d) F.FAB_TXN_INUSE_peak (min n 0xFFFF) else s

/-- A DMA item's transaction ends. -/
def dmaTxnDone (it : DmaItem) (status dst : Nat) (data : List (Nat × Byte)) : DmaItem :=
  { it with waits := it.waits - 1, err := if it.err = 0 then status else it.err,
            rbuf := it.rbuf ++ data.map (fun e => (dst + e.1, e.2)),
            done := if it.waits ≤ 1 && it.stage == 2 then some (if it.err = 0 then status else it.err) else it.done }

/-- A host's remote access that failed (R342). -/
def remoteError (s : State) (f : Fn) (status addr : Nat) (x : Session) (k : Nat) : State :=
  let fi := match f with
    | .pf => 0
    | .vf i => i.val + 1
  (s.inc R.HST_REMOTE_ERRORS).log 2 status ⟨0, 4, fi⟩ (addr := addr) (peer := peerField x.peerDevice x.peerPod k)

def fnReq : Fn → Requester
  | .pf => .pf
  | .vf k => .vf k

/-- What the end of a transaction does for its user. -/
def userDone (s : State) (t : Txn) (status : Nat) : State :=
  match t.user with
  | .dma u id dst => s.mapDma u id (fun it => dmaTxnDone it status dst t.readData)
  | .barRead f =>
    let data := (List.range t.readLen).map (fun j =>
      ((t.readData.find? (fun e => e.1 == j)).map Prod.snd).getD 0)
    have s := if status = 0 then s else s.remoteError f status t.addr (s.sess t.sess.val) t.sess.val
    { s with host := { s.host with reply := some ⟨fnReq f, if status = 0 then data else data.map (fun _ => 0xFF), false⟩ } }
  | .barWrite f => if status = 0 then s else s.remoteError f status t.addr (s.sess t.sess.val) t.sess.val
  | .seam d id =>
    if status = 0 then s
    else { s with seam := s.seam.set [] d.val ((s.seam.get [] d.val).map (fun it =>
      if it.id = id && it.fail.isNone then { it with fail := some status } else it)) }
  | .tunnel k =>
    if status = 0 then s
    else match s.host.tunnels.find? (fun t => t.id == k) with
      | some w =>
        have s := { s with host := { s.host with tunnels := s.host.tunnels.filter (fun t => t.id != k) } }
        s.completeWork w.work status 0
      | none => s
  | .ingest j =>
    { s with media := { s.media with jobs := s.media.jobs.map (fun b =>
        if b.id = j then
          { b with remote := b.remote ++ t.readData.map (fun e => (t.addr - bitsOf b.desc.toNat 64 64 + e.1, e.2)),
                   ended := if status ≠ 0 && b.ended.isNone then some status else b.ended }
        else b) } }
  | _ => s

/-- A transaction ends and frees its entry. -/
def endTxn (s : State) (num status : Nat) : State :=
  match s.txns.find? (fun t => t.num == num) with
  | none => s
  | some t =>
    let st := if t.status = 0 then status else t.status
    have s := { s with txns := s.txns.filter (fun x => x.num != num) }
    (s.showTxns t.die.val).userDone t st

/-- One packet of a transaction is acknowledged or NAKed. -/
def txnAcked (s : State) (num status : Nat) : State :=
  match s.txns.find? (fun t => t.num == num) with
  | none => s
  | some t =>
    let t' := { t with packets := t.packets - 1, status := if t.status = 0 then status else t.status }
    have s := { s with txns := s.txns.map (fun x => if x.num = num then t' else x) }
    if t'.packets = 0 ∧ (t.op ≠ 2 ∨ t'.status ≠ 0) then s.endTxn num 0 else s

/-- Every transaction of a session that satisfies a test ends with a status; its queued packets go. -/
def endTxnsOf (s : State) (k status : Nat) (p : Txn → Bool) : State :=
  let ts := s.txns.filter (fun t => t.sess.val == k && p t)
  let gone := ts.map (fun t => t.num)
  let keep := fun (q : TxPkt) => !(q.pkt.type == 1 && decide (q.pkt.txn ∈ gone))
  let x := s.sess k
  have s := s.setSess k { x with queue := x.queue.filter keep, unacked := x.unacked.filter keep }
  ts.foldl (fun s t => s.endTxn t.num status) s

/-- The packets of a transaction: payloads of at most the port's limit, at rising addresses. -/
def splitPayload (limit : Nat) (fuel : Nat) (off : Nat) (bs : List Byte) : List (Nat × List Byte) :=
  match fuel with
  | 0 => []
  | f + 1 => if bs.length ≤ max 1 limit then [(off, bs)]
    else (off, bs.take (max 1 limit)) :: splitPayload limit f (off + max 1 limit) (bs.drop (max 1 limit))

/-- A requester queues a transaction (R319, R334): at once SESSION_FAIL on a closed or failed session; no entry free holds
the requester (none). The length of a READ stands in a 4-byte payload (DESIGN CHOICE, log entry 30). -/
def startTxn (s : State) (t : TxnReq) (user : TxnUser) (inst : Option InstId) (gen : Nat) : Option State :=
  let k := t.sess.val
  let x := s.sess k
  let used := (s.txns.filter (fun y => y.die == t.die)).length
  if used ≥ 32768 then none
  else
    let num := s.fab.nextTxn % 2 ^ 17
    let payload := if t.op = 2 then bytesOf t.readLen 4 else t.data
    let parts := splitPayload (s.maxPayload x.port) (payload.length + 1) 0 payload
    let rec' : Txn := { num := num, sess := t.sess, die := t.die, vc := t.vc.val, op := t.op, addr := t.addr, user := user,
                        inst := inst, gen := gen, packets := parts.length, sent := false, status := 0,
                        readLen := t.readLen, readGot := 0, readData := [] }
    have s := { s with fab := { s.fab with nextTxn := s.fab.nextTxn + 1 }, txns := s.txns ++ [rec'] }
    have s := s.showTxns t.die.val
    if !x.created || x.state == .closed || x.state == .failed then some (s.endTxn num 0x43)
    else
      let n := parts.length
      let pkts : List TxPkt := ((List.range n).zip parts).map (fun e =>
        let pkt : Pkt := { type := 1, vc := t.vc.val, ord := t.ord, ackReq := decide (e.1 + 1 = n), last := decide (e.1 + 1 = n),
                           attempt := 0, dir := x.responder, dstSess := x.peerIndex, seq := 0, sgen := gen, tgen := x.peerGen,
                           op := t.op, sub := t.sub, addr := t.addr + e.2.1, txn := num, payload := e.2.2, tag := 0 }
        { pkt := pkt, inst := inst, core := t.core, misses := 0, fast := false })
      some (s.setSess k { x with queue := x.queue ++ pkts })

/-- The route of an instance to a pod device on channel 2 or 3 (R334). -/
def route (s : State) (i dev vc : Nat) : Option SessId :=
  let off := R.FAB_ROUTE i dev
  let (v, k) := if vc = 2 then (s.fld off F.FAB_ROUTE_vc2_valid, s.fld off F.FAB_ROUTE_vc2_session)
    else (s.fld off F.FAB_ROUTE_vc3_valid, s.fld off F.FAB_ROUTE_vc3_session)
  if v = 1 then (if h : k < 4096 then some ⟨k, h⟩ else none) else none

/-- The management session to a pod device, opened at pod join (R342, R354). -/
def mgmtSession (s : State) (dev : Nat) : Option SessId :=
  match s.sessions.find? (fun e => e.2.mgmt && e.2.created && e.2.peerPod == s.podNumber && e.2.peerDevice == dev) with
  | some e => if h : e.1 < 4096 then some ⟨e.1, h⟩ else none
  | none => none

/-! ### Session life (R319, R320) -/

/-- The next epoch of a fabric key, when the stored counter covers it; the last of a block waits for the flash write that
covers the next block (R320). -/
def takeEpoch (s : State) (key : Nat) : Option Nat × State :=
  let next := s.fab.epochNext.get 0 key
  let stored := s.host.flash.epochs.get 0 key
  if next + 1 < stored then
    (some next, { s with fab := { s.fab with epochNext := s.fab.epochNext.set 0 key (next + 1) } })
  else if s.fab.epochWrites.any (fun e => e.1 == key) then (none, s)
  else (none, { s with fab := { s.fab with epochWrites := (key, stored + 2 ^ 16) :: s.fab.epochWrites } })

/-- The payload of OPEN and OPEN_ACK (R320): epoch, nonce, the sender's and the receiver's triples. -/
def openPayload (s : State) (k : Nat) (x : Session) (epoch : Nat) (nonce : BitVec 128) : List Byte :=
  bytesOf epoch 8 ++ bytesOf nonce.toNat 16 ++ bytesOf (triple s.podNumber s.podDevice k) 4 ++
  bytesOf (triple x.peerPod x.peerDevice x.peerIndex) 4

/-- An initiator sends OPEN with a new epoch, or waits for one (R319, R320). -/
def sendOpen (s : State) (k : Nat) (nonce : BitVec 128) : State :=
  have s := s.setSess k { s.sess k with state := .opening, ownNonce := nonce, key := none }
  match s.takeEpoch (s.sess k).keyId with
  | (none, s) => s.setSess k { s.sess k with waitsEpoch := true }
  | (some e, s) =>
    let x := { s.sess k with epoch := e, waitsEpoch := false }
    have s := s.setSess k x
    let p := s.controlPkt k 5 (s.openPayload k x e nonce)
    have s := s.setSess k { x with openAck := some p, txCtl := x.txCtl + 1 }
    s.emit k p

/-- Sequence state at an open (R319): numbering from 0; packets still unacknowledged are sent again, first; the rate
starts over (R329). -/
def restart (x : Session) : Session :=
  { x with txSeq := 0, rxCum := 0, rxSeen := [], unackedRx := 0, ceBytes := 0, missRun := 0,
           queue := x.unacked.map (fun q => { q with misses := 0, fast := false, pkt := { q.pkt with attempt := 0 } }) ++ x.queue,
           unacked := [], rate := 512, doubling := true, periodAcked := 0, periodCe := 0, periodMiss := false }

/-- A session fails (R319, a management session's member is lost, R358): its outstanding and held transactions end with SESSION_FAIL, and ERROR is logged with 0 for an
open timeout or 1 for the retry limit. -/
def failSession (s : State) (k why : Nat) : State :=
  have s := s.endTxnsOf k 0x43 (fun _ => true)
  let x := s.sess k
  have s := s.setSess k { x with state := .failed, queue := [], unacked := [], control := [], key := none, waitsEpoch := false }
  have s := s.log 1 0x43 ⟨6, x.port / 24, k⟩ (some x.inst) (peer := peerField x.peerDevice x.peerPod k) (value := why)
  if x.mgmt && x.peerPod == s.podNumber then s.setMember x.peerDevice false else s

/-- A session closes (R319). -/
def closeSession (s : State) (k : Nat) : State :=
  have s := s.endTxnsOf k 0x43 (fun _ => true)
  s.setSess k { Session.reset with lastAccepted := (s.sess k).lastAccepted }

/-- A retransmission of an unacknowledged packet (R327): attempt + 1; 8,191 attempts end the numbering. -/
def retransmit (s : State) (k seq : Nat) (miss : Bool) : State :=
  match (s.sess k).unacked.find? (fun q => q.pkt.seq == seq) with
  | none => s
  | some q =>
    let q' := { q with misses := if miss then q.misses + 1 else q.misses, fast := q.fast || !miss,
                       pkt := { q.pkt with attempt := q.pkt.attempt + 1 } }
    let x := s.sess k
    have s := s.setSess k { x with
      unacked := x.unacked.map (fun y => if y.pkt.seq = seq then q' else y), retx := min 0xFFFFFFFF (x.retx + 1) }
    s.emit k q'.pkt

/-- Acknowledgement of packets of a session (R325, R327): their transactions progress; a packet missing below at least
three acknowledged ones is sent again, once. -/
def ackArrived (s : State) (k cum : Nat) (ranges : List (Nat × Nat)) (ce : Nat) (status : Nat) : State :=
  let hit := fun (n : Nat) => decide (n < cum) || ranges.any (fun r => decide (cum + r.1 ≤ n ∧ n < cum + r.1 + r.2))
  let x := s.sess k
  let acked := x.unacked.filter (fun q => hit q.pkt.seq)
  let left := x.unacked.filter (fun q => !hit q.pkt.seq)
  let bytes := acked.foldl (fun a q => a + s.frameBytes x.port q.pkt.payload.length) 0
  let moved := match x.unacked.head? with
    | some q => hit q.pkt.seq
    | none => false
  have s := s.setSess k { x with unacked := left, missRun := if moved then 0 else x.missRun,
                                 periodAcked := x.periodAcked + bytes, periodCe := x.periodCe + ce, notice := false }
  have s := acked.foldl (fun s q => if q.pkt.type == 1 then s.txnAcked q.pkt.txn status else s) s
  let sack := ranges.flatMap (fun r => (List.range r.2).map (fun j => cum + r.1 + j))
  let lost := left.filter (fun (q : TxPkt) => !q.fast && decide ((sack.filter (fun (n : Nat) => decide (q.pkt.seq < n))).length ≥ 3))
  lost.foldl (fun s q => s.retransmit k q.pkt.seq false) s

/-! ### Deficit round robin (R331) -/

/-- One class of a deficit round: its deficit key, its quantum, the size of its head packet when it has one. -/
structure DrrClass where
  key : Nat
  quantum : Nat
  size : Option Nat
  deriving DecidableEq, Repr

/-- The class whose head packet goes next from position `i`, with the deficits and the position after it. -/
def drr (cs : List DrrClass) : Nat → Nat → Tbl Nat → Option (Nat × Nat × Tbl Nat)
  | 0, _, _ => none
  | fuel + 1, i, d =>
    let j := i % max 1 cs.length
    let next := (j + 1) % max 1 cs.length
    let grant := fun (d : Tbl Nat) => match cs[next]? with
      | some c => d.set 0 c.key (d.get 0 c.key + c.quantum)
      | none => d
    match cs[j]? with
    | none => none
    | some c => match c.size with
      | none => drr cs fuel next (grant (d.set 0 c.key 0))
      | some n => if d.get 0 c.key ≥ n then some (j, j, d.set 0 c.key (d.get 0 c.key - n)) else drr cs fuel next (grant d)

/-- Sessions of an instance on a port with a packet of a channel that its state and window let it send. -/
def readySessions (s : State) (n vc i : Nat) : List (Nat × TxPkt) :=
  s.sessions.filterMap (fun e =>
    let x := e.2
    if x.created && x.port == n && x.inst == i && x.state == .opened && decide (x.unacked.length < 4096) &&
        decide (x.txSeq < 2 ^ 47) then
      (x.queue.find? (fun q => q.pkt.vc == vc)).map (fun q => (e.1, q))
    else none)

/-- The session that has its turn: the first above the last served, else the lowest. -/
def turnOf (last : Nat) (l : List (Nat × TxPkt)) : Option (Nat × TxPkt) :=
  match l.find? (fun e => decide (last < e.1)) with
  | some e => some e
  | none => l.head?

/-- The candidate of a channel on a port: instances share by their weights, the sessions of one take turns. -/
def channelNext (s : State) (n vc : Nat) : Option (Nat × TxPkt × Nat × Tbl Nat) :=
  let weight := fun i => max 1 (s.fld (R.SCH_INST_WEIGHTS i) (match vc with
    | 1 => F.SCH_INST_WEIGHTS_w1
    | 2 => F.SCH_INST_WEIGHTS_w2
    | _ => F.SCH_INST_WEIGHTS_w3))
  let pick := fun i => turnOf (s.fab.rotor.get 0 (0x10000 + (n * 4 + vc) * 8 + i)) (s.readySessions n vc i)
  let cs := (List.range 8).map (fun i => (⟨0x10000 + (n * 4 + vc) * 8 + i, 256 * weight i,
    (pick i).map (fun e => s.frameBytes n e.2.pkt.payload.length)⟩ : DrrClass))
  if cs.all (fun c => c.size.isNone) then none
  else match drr cs 400 (s.fab.rotor.get 0 (0x8000 + n * 4 + vc)) s.fab.deficit with
    | none => none
    | some (j, r, d) => (pick j).map (fun e => (e.1, e.2, r, d))

/-- A queued packet is sent: it takes its number, waits for acknowledgement, and carries ord where an unacknowledged
earlier packet overlaps its range (R328). -/
def sendQueued (s : State) (k : Nat) (q : TxPkt) : State :=
  let x := s.sess k
  let lap := fun (o : TxPkt) => o.pkt.type == 1 && decide (o.pkt.op ≠ 7) && decide (q.pkt.op ≠ 7) &&
    decide (o.pkt.addr < q.pkt.addr + max 1 q.pkt.payload.length ∧ q.pkt.addr < o.pkt.addr + max 1 o.pkt.payload.length)
  let pkt := { q.pkt with seq := x.txSeq, tgen := x.peerGen, dstSess := x.peerIndex, ord := q.pkt.ord || x.unacked.any lap }
  let rest := match findPos (fun y => decide (y = q)) x.queue with
    | some j => dropAt x.queue j
    | none => x.queue
  have s := s.setSess k { x with queue := rest, unacked := x.unacked ++ [{ q with pkt := pkt }], txSeq := x.txSeq + 1,
                                 txPkts := (x.txPkts + 1) % 2 ^ 64 }
  have s := { s with txns := s.txns.map (fun (t : Txn) => if pkt.type = 1 ∧ t.num = pkt.txn then { t with sent := true } else t) }
  s.emit k pkt

/-! ### Received packets -/

/-- A stranger: discarded without a reply (R333). -/
def stranger (s : State) (n : Nat) : State := s.add64 (R.FAB_LP_STRANGER_DROP n) 1

/-- The k-th received packet, when it is of a type and its ord rule lets it be applied (R328). -/
def takeRx (s : State) (k : Nat) (want : Pkt → Bool) : Option (RxPkt × State) :=
  match s.ingress[k]? with
  | none => none
  | some rx =>
    if want rx.pkt && !(rx.pkt.type ≤ 2 && rx.pkt.ord && rx.pkt.seq != (s.sess rx.sess.val).rxCum) then
      some (rx, { s with ingress := dropAt s.ingress k })
    else none

/-- The status that a REQ for an instance's target meets before its effect: an older generation, then mapping and the
firewall (R326, R335, R407). -/
def reqStatus (s : State) (rx : RxPkt) (n : Nat) : Nat :=
  let i := (s.sess rx.sess.val).inst
  if genOlder rx.pkt.tgen (s.gen i) then 0x63
  else s.checkRange (.inst i) rx.pkt.addr n

/-- A REQ refused by the firewall counts and is logged (R408). -/
def reqRefused (s : State) (rx : RxPkt) (st : Nat) : State :=
  if st = 0x64 then s.firewallDenied ⟨6, rx.port.val / 24, rx.sess.val⟩ (some (s.sess rx.sess.val).inst) rx.pkt.addr else s

end State
end Sys2Proof.Machine
end

