-- ==== Sys2Proof/Machine/Access.lean ====
section
/-! DEFINITION. Accesses by engines under a bounds snapshot and the memory firewall (R143, R144, R407), bit packing
(R44), and the reads of parameter windows (R279). -/
namespace Sys2Proof.Machine

/-- Values of `w` bits packed from bit 0 upward (R44). -/
def packBits (w : Nat) (vals : List Nat) : List Byte :=
  bytesOf (vals.reverse.foldl (fun a v => a * 2 ^ w + v % 2 ^ w) 0) (cdiv (vals.length * w) 8)

/-- The first `n` values of `w` bits of a byte string. -/
def unpackBits (w n : Nat) (bs : List Byte) : List Nat :=
  let x := natOfBytes bs
  (List.range n).map (fun j => bitsOf x (w * j) w)

/-- Who an engine's item acts for (R143, R257, R407). -/
structure Eng where
  who : State.Who
  inst : Option Nat
  voteExcl : Bool
  snap : Option (List Bnd)
  unit : State.LogUnit
  deriving DecidableEq, Repr

/-- An access lies within an enabled pair of the snapshot that allows it (R140, R143); no snapshot, no check. -/
def snapOk (snap : Option (List Bnd)) (write : Bool) (a n : Nat) : Bool :=
  match snap with
  | none => true
  | some l => l.any (fun b => bitOf b.perm.toNat (if write then 1 else 0) && decide (b.base.toNat ≤ a ∧ a + n ≤ b.limit.toNat))

namespace State

/-- The identity of an item's owner. -/
def engOf (o : Owner) (snap : Option (List Bnd)) (u : LogUnit) : Eng := ⟨whoOf o, instOf o, o.voteExcl, snap, u⟩

/-- The status that a read of a range meets: its bounds first, then mapping and the firewall, then the data (R144). -/
def engReadSt (s : State) (e : Eng) (a n : Nat) : Nat :=
  if n = 0 then 0
  else if !snapOk e.snap false a n then 0x11
  else s.engineRead e.who a n

/-- The status that a write of a range meets. -/
def engWriteSt (s : State) (e : Eng) (a n : Nat) : Nat :=
  if n = 0 then 0
  else if !snapOk e.snap true a n then 0x11
  else s.checkRange e.who a n

/-- An engine's failing access: counted, logged and marked for the vote as its status requires (R255, R408, R439). -/
def engFail (s : State) (e : Eng) (st a : Nat) : State := s.readFailed st e.unit e.inst e.voteExcl a

/-- Whether an instance is applying an update on this module (R265, R275, R279). -/
def applyingInst (s : State) (i : Nat) : Bool :=
  let v := s.votes.get VoteState.reset i
  v.applies.any (fun p => !p.sent && v.history.any (fun d => d.commit && d.step == p.step)) ||
  s.upd.any (fun e => e.2.any (fun it => it.applying.isSome && (it.owner.inst.map (fun k => k.val)) == some i))

/-- Whether a read from outside meets a parameter window of an instance that is applying (R279). -/
def windowHeld (s : State) (a n : Nat) : Bool :=
  (List.range 8).any (fun i => s.applyingInst i && (List.range 8).any (fun j =>
    let lo := (s.reg (R.MEM_UPD_WIN_BASE i j)).toNat
    let hi := (s.reg (R.MEM_UPD_WIN_LIMIT i j)).toNat
    decide (lo < hi ∧ lo < a + n ∧ a < hi)))

end State
end Sys2Proof.Machine
end

