-- ==== Sys2Proof/Machine/Mem.lean ====
section
/-! DEFINITION. The Overcast caches, the HBM controllers and the deep tier (R236 to R258): requests at their homes, misses,
victims, late and failing accesses. -/
namespace Sys2Proof.Machine
namespace State

/-! ### Geometry (R238, R241) -/

/-- The cache granules of a quadrant, ascending. -/
def cacheGranules (s : State) (q : Nat) : List Nat :=
  ((List.range 24).map (fun g => 24 * q + g)).filter (fun k => s.regBit (R.MEM_OVC_GRANULE k) 0)

def stackOf (l : Nat) : Nat := l * 256 / 0xC00000000
def quadOf (l : Nat) : Nat := stackOf l / 2

/-- The cache granule and the set of a line. -/
def granOf (s : State) (l : Nat) : Nat :=
  let gs := s.cacheGranules (quadOf l)
  (gs[l / 2 ^ 14 % max 1 gs.length]?).getD 0
def setOf (l : Nat) : Nat := l % 16384

def quotaLines (s : State) (q i : Nat) : Nat := 4096 * s.fld (R.MEM_OVC_QUOTA q i) F.MEM_OVC_QUOTA_quota
def heldLines (s : State) (q i : Nat) : Nat := s.fld (R.MEM_OVC_HELD q i) F.MEM_OVC_HELD_lines

/-- A line's accesses pass uncached: no cache granule, quota 0, or a partition change in its quadrant (R241, R242, R246). -/
def uncached (s : State) (l : Nat) : Bool :=
  let q := quadOf l
  (s.cacheGranules q).isEmpty || decide (s.fld (R.MEM_OVC_STATUS q) F.MEM_OVC_STATUS_remap_busy = 1) ||
  (match s.instOfStack (stackOf l) with
   | some i => decide (s.quotaLines q i = 0)
   | none => true)

def findLine (s : State) (l : Nat) : Option Line := (s.msys.lines.find? (fun e => e.1 == l)).map Prod.snd

/-! ### Lines -/

def lineBytes (d : BitVec 2048) : List Byte := bytesOf d.toNat 256
def bytesLine (bs : List Byte) : BitVec 2048 := BitVec.ofNat 2048 (natOfBytes bs)

/-- The backing data of a line in its stack. -/
def backing (s : State) (l : Nat) : BitVec 2048 := bytesLine ((List.range 256).map (fun j => Tbl.get s.mem 0 (256 * l + j)))

/-- Data written to the stack. -/
def storeBacking (s : State) (l : Nat) (d : BitVec 2048) : State :=
  { s with mem := ((List.range 256).zip (lineBytes d)).foldl (fun (m : List Host.Cell) e => Tbl.set m 0 (256 * l + e.1) e.2) s.mem }

def heldBy (s : State) (q : Nat) (inst : Option Nat) (up : Bool) : State :=
  match inst with
  | some i => s.setFld (R.MEM_OVC_HELD q i) F.MEM_OVC_HELD_lines (if up then s.heldLines q i + 1 else s.heldLines q i - 1)
  | none => s

/-- A line leaves the cache without a write-back. -/
def dropLine (s : State) (l : Nat) : State :=
  match s.findLine l with
  | none => s
  | some v =>
    let q := quadOf l
    have s := { s with msys := { s.msys with lines := Tbl.erase s.msys.lines l } }
    have s := s.heldBy q v.inst false
    have s := if v.dirty then s.sub (R.MEM_OVC_DIRTY q) 1 else s
    if v.poisoned then s.sub (R.MEM_OVC_POISONED q) 1 else s

/-- A line enters the cache. -/
def addLine (s : State) (l : Nat) (v : Line) : State :=
  let q := quadOf l
  have s := s.setLine l { v with stamp := s.msys.stamp + 1 }
  have s := { s with msys := { s.msys with stamp := s.msys.stamp + 1 } }
  have s := s.heldBy q v.inst true
  have s := if v.dirty then s.addSat (R.MEM_OVC_DIRTY q) 1 else s
  if v.poisoned then s.addSat (R.MEM_OVC_POISONED q) 1 else s

/-- A dirty line is written back and stays valid and clean; a poisoned one stays as it is. -/
def cleanLine (s : State) (l : Nat) : State :=
  match s.findLine l with
  | some v =>
    if v.dirty && !v.poisoned then
      (((s.storeBacking l v.data).setLine l { v with dirty := false }).sub (R.MEM_OVC_DIRTY (quadOf l)) 1).add64
        (R.MEM_OVC_WRITEBACKS (quadOf l)) 1
    else s
  | none => s

def setVictims (s : State) (q : Nat) (vs : List Victim) : State :=
  { s with msys := { s.msys with victims := s.msys.victims.set [] q vs } }

/-- A victim's write-back ends: its data is in the stack. -/
def endVictim (s : State) (q : Nat) (v : Victim) : State :=
  ((s.storeBacking v.line v.home.data).setVictims q ((s.msys.victims.get [] q).filter (fun x => x.line != v.line))).add64
    (R.MEM_OVC_WRITEBACKS q) 1

/-- The oldest of a list of lines. -/
def oldestLine (l : List (Nat × Line)) : Option (Nat × Line) :=
  l.foldl (fun a e => match a with
    | some b => if e.2.stamp < b.2.stamp then some e else a
    | none => some e) none

/-- The line that an allocation by `inst` replaces when its set is full (R242, rules 2 to 4). -/
def victimOf (s : State) (q : Nat) (inst : Option Nat) (ls : List (Nat × Line)) : Option (Nat × Line) :=
  let passed := ls.filter (fun e => match e.2.inst with
    | some i => decide (s.heldLines q i > s.quotaLines q i)
    | none => true)
  let own := match inst with
    | some i => if s.heldLines q i ≥ s.quotaLines q i then ls.filter (fun e => e.2.inst == some i) else []
    | none => []
  match oldestLine passed with
  | some e => some e
  | none => match oldestLine own with
    | some e => some e
    | none => oldestLine ls

/-- A way for a line: an invalid one, else a clean victim's; a dirty victim moves to the victim buffer, and the way waits
for its write-back (R242, R243). -/
def findWay (s : State) (l : Nat) : Option Nat × State :=
  let q := quadOf l
  let g := s.granOf l
  let ls := s.msys.lines.filter (fun e => e.2.gran == g && setOf e.1 == setOf l && quadOf e.1 == q)
  let vs := (s.msys.victims.get [] q).filter (fun v => v.home.gran == g && setOf v.line == setOf l)
  let used := ls.map (fun e => e.2.way) ++ vs.map (fun v => v.home.way)
  match (List.range 16).find? (fun w => !used.contains w) with
  | some w => (some w, s)
  | none =>
    if !vs.isEmpty then (none, s)
    else match s.victimOf q (s.instOfStack (stackOf l)) ls with
      | none => (none, s)
      | some (k, v) =>
        if !v.dirty then (some v.way, s.dropLine k)
        else if v.poisoned || decide ((s.msys.victims.get [] q).length ≥ 64) then (none, s)
        else (none, (s.dropLine k).setVictims q (s.msys.victims.get [] q ++ [⟨k, v, 0⟩]))

/-! ### Answers -/

/-- A home answers a request: a core's load is marked when it fails, the host sees its data, others see the reply. -/
def answer (s : State) (r : MemReq) (st : Nat) (data : List Byte) (ep : Bool := false) : State :=
  let shown := if st = 0 then data else data.map (fun _ => (0xFF : Byte))
  match r.src with
  | .coreLoad c k =>
    if st = 0 then s
    else
      let x := s.core c.val
      s.setCore c.val { x with pend := (List.range x.pend.length).zip x.pend |>.map (fun e =>
        match e.2.kind with
        | .load segs n d _ => if e.1 = k then { e.2 with kind := .load segs n d true } else e.2
        | .bob _ => e.2) }
  | .agent _ => { s with msys := { s.msys with reply := some ⟨r.src, st, if st = 0 then data else []⟩ } }
  | .host f =>
    let req : Requester := match f with
      | .pf => .pf
      | .vf k => .vf k
    { s with msys := { s.msys with reply := some ⟨r.src, st, shown⟩ },
             host := { s.host with reply := if r.wdata.isNone then some ⟨req, shown, ep⟩ else s.host.reply } }

def uHome (q : Nat) : LogUnit := ⟨2, q, q⟩
def uStack (n : Nat) : LogUnit := ⟨3, n / 2, n⟩
def uPackage (p : Nat) : LogUnit := ⟨3, 4, p⟩

def reqInst (r : MemReq) : Option Nat := r.inst.map (fun i => i.val)

/-- A request is performed on memory as it stands. -/
def serve (s : State) (r : MemReq) : State :=
  match r.wdata with
  | some bs => (s.putBytes r.addr bs).answer r 0 []
  | none =>
    match s.readStatus r.addr r.len with
    | 0 => s.answer r 0 (s.bytesAt r.addr r.len)
    | 0x91 => (s.sramUe (uHome (sramDie r.addr)) (reqInst r) r.voteExcl r.addr).answer r 0x91 (s.bytesAt r.addr r.len)
    | st => (s.ltfEnd (reqInst r) r.voteExcl).answer r st (s.bytesAt r.addr r.len) true

/-- A request that a failed or late access ends (R255, R257). -/
def failReq (s : State) (r : MemReq) : State :=
  (s.ltfEnd (reqInst r) r.voteExcl).answer r 0x24 ((List.range r.len).map (fun _ => 0))

/-- A line is accessed: it becomes the youngest of its set. -/
def touch (s : State) (l : Nat) : State :=
  match s.findLine l with
  | some v => { (s.setLine l { v with stamp := s.msys.stamp + 1 }) with
      msys := { (s.setLine l { v with stamp := s.msys.stamp + 1 }).msys with stamp := s.msys.stamp + 1 } }
  | none => s

def addMiss (s : State) (m : Miss) : State := { s with msys := { s.msys with misses := s.msys.misses ++ [m] } }

/-- A request within one line at its home quadrant (R241 to R243). -/
def hbmAccess (s : State) (r : MemReq) : State :=
  let l := r.addr / 256
  let q := quadOf l
  if s.uncached l then s.addMiss ⟨l, false, [r]⟩
  else match s.findLine l with
    | some _ => ((s.touch l).add64 (R.MEM_OVC_HITS q) 1).serve r
    | none =>
      match (s.msys.victims.get [] q).find? (fun v => v.line == l) with
      | some v =>
        have s := s.setVictims q ((s.msys.victims.get [] q).filter (fun x => x.line != l))
        (((s.addLine l v.home).add64 (R.MEM_OVC_HITS q) 1)).serve r
      | none =>
        if s.msys.misses.any (fun m => m.fill && m.line == l) then
          { (s.add64 (R.MEM_OVC_MISSES q) 1) with
            msys := { (s.add64 (R.MEM_OVC_MISSES q) 1).msys with misses := s.msys.misses.map (fun m =>
              if m.fill && m.line == l then { m with reqs := m.reqs ++ [r] } else m) } }
        else
          match r.wdata with
          | some bs =>
            if bs.length = 256 ∧ r.addr % 256 = 0 then
              match s.findWay l with
              | (some w, s) =>
                (((s.addLine l ⟨s.granOf l, w, s.instOfStack (stackOf l), 0, true, false, bytesLine bs⟩).add64
                  (R.MEM_OVC_MISSES q) 1)).answer r 0 []
              | (none, s) => { s with msys := { s.msys with waiting := s.msys.waiting ++ [r] } }
            else (s.add64 (R.MEM_OVC_MISSES q) 1).addMiss ⟨l, true, [r]⟩
          | none => (s.add64 (R.MEM_OVC_MISSES q) 1).addMiss ⟨l, true, [r]⟩

/-- The parts of a request by line. -/
def splitReq (r : MemReq) : List MemReq :=
  let n := match r.wdata with
    | some bs => bs.length
    | none => r.len
  let first := r.addr / 256
  let last := (r.addr + n - 1) / 256
  (List.range (last + 1 - first)).map (fun j =>
    let a := max r.addr ((first + j) * 256)
    let z := min (r.addr + n) ((first + j + 1) * 256)
    { r with addr := a, len := z - a, wdata := r.wdata.map (fun bs => (bs.drop (a - r.addr)).take (z - a)) })

/-! ### Failing accesses (R255) -/

/-- A lower-tier access of HBM failed: counted, its address kept, logged as ERROR (R255, R450). -/
def hbmFailed (s : State) (l : Nat) (late : Bool) (inst : Option Nat) : State :=
  let n := stackOf l
  have s := (s.inc (if late then R.MEM_HBM_LATE n else R.MEM_HBM_UE n)).alarmEvent 3
  have s := s.setReg (R.MEM_HBM_ERR_ADDR n) (BitVec.ofNat 64 (256 * l + 2 ^ 48))
  s.log 1 0x24 (uStack n) inst (256 * l)

def hbmCorrected (s : State) (l : Nat) : State :=
  let n := stackOf l
  ((s.inc (R.MEM_HBM_CE n)).alarmEvent 2).setReg (R.MEM_HBM_ERR_ADDR n) (BitVec.ofNat 64 (256 * l))

def deepPkg (a : Nat) : Nat := (a - 0x8000000000) / 4096 % 8

def deepFailed (s : State) (a : Nat) (late : Bool) (inst : Option Nat) : State :=
  let p := deepPkg a
  have s := s.inc (if late then R.MEM_DT_LATE p else R.MEM_DT_UE p)
  have s := if late then s.alarmEvent 3 else s
  have s := s.setReg (R.MEM_DT_ERR_ADDR p) (BitVec.ofNat 64 (a + 2 ^ 48))
  s.log 1 0x24 (uPackage p) inst a

def deepCorrected (s : State) (a : Nat) : State :=
  let p := deepPkg a
  ((s.inc (R.MEM_DT_CE p)).alarmEvent 4).setReg (R.MEM_DT_ERR_ADDR p) (BitVec.ofNat 64 a)

/-- The outstanding miss of a line is taken out. -/
def takeMiss (s : State) (l : Nat) : Option (Miss × State) :=
  match s.msys.misses.findIdx? (fun m => m.line == l) with
  | none => none
  | some j => match s.msys.misses[j]? with
    | none => none
    | some m => some (m, { s with msys := { s.msys with misses := s.msys.misses.take j ++ s.msys.misses.drop (j + 1) } })

/-- A miss fails: its first request ends; those that joined are reissued as a new miss (R255). -/
def failMiss (s : State) (m : Miss) (late : Bool) : State :=
  match m.reqs with
  | [] => s
  | r :: rest =>
    have s := (s.hbmFailed m.line late (reqInst r)).failReq r
    if rest.isEmpty then s else s.addMiss { m with reqs := rest }

/-- A write-back fails: after the third the line is back in the cache, dirty and poisoned (R256). -/
def failVictim (s : State) (q l : Nat) (late : Bool) : State :=
  match (s.msys.victims.get [] q).find? (fun v => v.line == l) with
  | none => s
  | some v =>
    have s := s.hbmFailed l late v.home.inst
    let others := (s.msys.victims.get [] q).filter (fun x => x.line != l)
    if v.fails + 1 ≥ 3 then (s.setVictims q others).addLine l { v.home with poisoned := true }
    else s.setVictims q ((s.msys.victims.get [] q).map (fun x => if x.line == l then { x with fails := x.fails + 1 } else x))

/-- Requests that waited for the victim buffer try again (R243). -/
def retryWaiting (s : State) (q : Nat) : State :=
  let mine := s.msys.waiting.filter (fun r => quadOf (r.addr / 256) == q)
  have s := { s with msys := { s.msys with waiting := s.msys.waiting.filter (fun r => quadOf (r.addr / 256) != q) } }
  mine.foldl (fun s r => s.hbmAccess r) s

end State

/-- OVERCAST_ACCESS (R240 to R243, R254): a request at its home. An unmapped or refused one has no effect; a write of an
older generation is discarded (R408); a host read of a parameter window waits while its instance applies (R279). -/
def execOvercastAccess (r : MemReq) (s : State) : Out :=
  let n := match r.wdata with
    | some bs => bs.length
    | none => r.len
  let who : State.Who := match r.inst with
    | some i => .inst i.val
    | none => .pf
  if n = 0 then .next (s.answer r 0 [])
  else if s.stale (State.reqInst r) r.gen then .next (if r.wdata.isSome then s.staleWrite else s)
  else match s.checkRange who r.addr n with
    | 0 =>
      let host := match r.src with
        | .host _ => true
        | _ => false
      if host && r.wdata.isNone && s.windowHeld r.addr n then .next s
      else match s.region r.addr with
        | .hbm _ => .next ((State.splitReq r).foldl (fun s x => s.hbmAccess x) s)
        | .deep _ => .next { s with msys := { s.msys with deep := s.msys.deep ++ [⟨s.msys.nextDeep, r⟩],
                                                          nextDeep := s.msys.nextDeep + 1 } }
        | _ => .next (s.serve r)
    | 0x64 => .next ((s.firewallDenied (State.uHome (State.sramDie r.addr)) (State.reqInst r) r.addr).answer r 0x64
        ((List.range n).map (fun _ => 0)))
    | st => .next (s.answer r st ((List.range n).map (fun _ => 0)))

/-- CACHE_MISS_FILL (R241, R255): the data of an outstanding read arrives. -/
def execCacheMissFill (line : Nat) (out : TierOutcome) (s : State) : Out :=
  match s.takeMiss line with
  | none => .next s
  | some (m, s') =>
    match out with
    | .uncorrectable => .next (s'.failMiss m false)
    | _ =>
      have s' := if out = .corrected then s'.hbmCorrected line else s'
      if !m.fill then .next (m.reqs.foldl (fun s r => s.serve r) s')
      else match s'.findWay line with
        | (none, s2) => .next (s2.addMiss m)
        | (some w, s2) =>
          have s2 := s2.addLine line ⟨s2.granOf line, w, s2.instOfStack (State.stackOf line), 0, false, false, s2.backing line⟩
          .next (m.reqs.foldl (fun s r => s.serve r) s2)

/-- VICTIM_WRITEBACK (R243, R256). -/
def execVictimWriteback (q : DieId) (line : Nat) (good : Bool) (s : State) : Out :=
  match (s.msys.victims.get [] q.val).find? (fun v => v.line == line) with
  | none => .next s
  | some v => .next ((if good then s.endVictim q.val v else s.failVictim q.val line false).retryWaiting q.val)

/-- LATE_ACCESS_TIMEOUT (R255, R256). -/
def execLateAccessTimeout (a : LowerRef) (s : State) : Out :=
  match a with
  | .miss line => match s.takeMiss line with
    | none => .next s
    | some (m, s') => .next ({ s' with msys := { s'.msys with late := s'.msys.late ++ [a] } }.failMiss m true)
  | .writeback q line =>
    if (s.msys.victims.get [] q.val).any (fun v => v.line == line) then .next ((s.failVictim q.val line true).retryWaiting q.val)
    else .next s
  | .deep k => match s.msys.deep.find? (fun d => d.id == k) with
    | none => .next s
    | some d =>
      have s := { s with msys := { s.msys with deep := s.msys.deep.filter (fun x => x.id != k), late := s.msys.late ++ [a] } }
      .next ((s.deepFailed d.req.addr true (State.reqInst d.req)).failReq d.req)

/-- LATE_DATA_DISCARD (R255). -/
def execLateDataDiscard (a : LowerRef) (s : State) : Out :=
  match s.msys.late.findIdx? (fun x => x == a) with
  | none => .next s
  | some j => .next (({ s with msys := { s.msys with late := s.msys.late.take j ++ s.msys.late.drop (j + 1) } }).inc
      R.MEM_LATE_DISCARDS)

/-- DEEP_TIER_ACCESS (R254, R255). -/
def execDeepTierAccess (k : Nat) (out : TierOutcome) (s : State) : Out :=
  match s.msys.deep.find? (fun d => d.id == k) with
  | none => .next s
  | some d =>
    have s := { s with msys := { s.msys with deep := s.msys.deep.filter (fun x => x.id != k) } }
    match out with
    | .good => .next (s.serve d.req)
    | .corrected => .next ((s.deepCorrected d.req.addr).serve d.req)
    | .uncorrectable => .next ((s.deepFailed d.req.addr false (State.reqInst d.req)).failReq d.req)

end Sys2Proof.Machine
end

