-- ==== Sys2Proof/Machine/Dma.lean ====
section
/-! DEFINITION. The core DMA (R152, R153), its conversions, swizzles and reductions (R249 to R253), cache maintenance
(R244, R245) and pod-global transfers (R143, R334). -/
namespace Sys2Proof.Machine

/-- Bits of a word of a 64-byte record. -/
def dw (d : BitVec 512) (w lo len : Nat) : Nat := bitsOf d.toNat (64 * w + lo) len

/-- Bits of a word of a 128-byte descriptor. -/
def xw (d : BitVec 1024) (w lo len : Nat) : Nat := bitsOf d.toNat (64 * w + lo) len

def DmaItem.opcode (it : DmaItem) : Nat := dw it.desc 0 0 8
def DmaItem.tag (it : DmaItem) : Nat := dw it.desc 0 8 3

/-- Items of other engines that the DMA queue only carries: KV, update, Seam (R262, R287, R347). -/
def DmaItem.handed (it : DmaItem) : Bool := it.stage == 2 && decide (0x48 ≤ it.opcode ∧ it.opcode ≤ 0x4A)

/-- An item that occupies the DMA itself. -/
def DmaItem.live (it : DmaItem) : Bool := it.done.isNone && !it.handed

namespace State

/-! ### Queues -/

def dmaList (s : State) (u : DmaUnit) : List DmaItem :=
  match u with
  | .core c => (s.core c.val).dmaq
  | .die d => s.msys.hostDma.get [] d.val

/-- What CORE_DMA_STATUS shows: four live items are active, the rest are queued (R153). -/
def showDma (s : State) (c : Nat) : State :=
  let q := (s.core c).dmaq
  let n := (q.filter DmaItem.live).length
  have s := s.setFld (R.CORE_DMA_STATUS c) F.CORE_DMA_STATUS_queued (n - min 4 n)
  have s := s.setFld (R.CORE_DMA_STATUS c) F.CORE_DMA_STATUS_active (min 4 n)
  s.setFld (R.CORE_DMA_STATUS c) F.CORE_DMA_STATUS_tags_busy
    ((List.range 8).foldl (fun a t => if q.any (fun it => it.tag == t && (it.origin == .tag t)) then setBit a t else a) 0)

def setDmaList (s : State) (u : DmaUnit) (l : List DmaItem) : State :=
  match u with
  | .core c => (s.setCore c.val { s.core c.val with dmaq := l }).showDma c.val
  | .die d => { s with msys := { s.msys with hostDma := s.msys.hostDma.set [] d.val l } }

/-- The `k`-th item of a unit, when it is one of the four live items that are active. -/
def activeItem (s : State) (u : DmaUnit) (k : Nat) : Option DmaItem :=
  let l := s.dmaList u
  match l[k]? with
  | some it => if it.live && decide (((l.take k).filter DmaItem.live).length < 4) then some it else none
  | none => none

def putItem (s : State) (u : DmaUnit) (it : DmaItem) : State :=
  s.setDmaList u ((s.dmaList u).map (fun x => if x.id = it.id then it else x))

def dropDma (s : State) (u : DmaUnit) (id : Nat) : State := s.setDmaList u ((s.dmaList u).filter (fun x => x.id != id))

/-- An item finishes with a status; DMA_ITEM_COMPLETION reports it. -/
def endItem (s : State) (u : DmaUnit) (it : DmaItem) (st : Nat) : State := s.putItem u { it with stage := 3, done := some st }

def dmaUnit (u : DmaUnit) : LogUnit :=
  match u with
  | .core c => uCore c.val
  | .die d => ⟨1, d.val, 32 * d.val⟩

def dmaEng (u : DmaUnit) (it : DmaItem) : Eng := engOf it.owner it.snap (dmaUnit u)

end State

/-! ### Fields (R152) -/

/-- A core DMA descriptor's fields; an address of a remote module carries its pod device. -/
structure DmaPlan where
  op : Nat
  srcDev : Option Nat
  src : Nat
  dstDev : Option Nat
  dst : Nat
  rb : Nat
  rows : Nat
  ss : Nat
  ds : Nat
  fs : Nat
  fd : Nat
  sw : Nat
  red : Nat
  cvt : Nat
  rng : Nat
  sem : Nat
  deriving DecidableEq, Repr

/-- The device that a pod-global address names, none for the local module (R27). -/
def State.podDev (s : State) (pod : Bool) (a : Nat) : Option Nat :=
  if pod && decide (a / 2 ^ 48 ≠ s.podDevice) then some (a / 2 ^ 48) else none

def State.dmaPlan (s : State) (d : BitVec 512) : DmaPlan :=
  { op := dw d 0 0 8, srcDev := s.podDev (bitOf d.toNat 11) (dw d 1 0 54), src := dw d 1 0 48,
    dstDev := s.podDev (bitOf d.toNat 12) (dw d 2 0 54), dst := dw d 2 0 48, rb := dw d 3 0 32, rows := dw d 3 32 32,
    ss := dw d 4 0 32, ds := dw d 4 32 32, fs := dw d 0 16 4, fd := dw d 0 20 4, sw := dw d 0 32 4, red := dw d 0 36 2,
    cvt := dw d 0 24 8, rng := dw d 5 0 48, sem := dw d 6 0 16 }

/-- Element bits of a swizzle (R250). -/
def swizzleBits : Nat → Nat
  | 1 => 8 | 2 => 16 | 3 => 32 | 4 => 4 | _ => 8

/-- Element bits of the source and of the destination of an item. -/
def DmaPlan.srcBits (p : DmaPlan) : Nat :=
  if p.op = 0x41 then ((Fmt.ofCode p.fs).map Fmt.bits).getD 8
  else if p.op = 0x42 then 8 * (addSize p.fs).getD 1
  else swizzleBits p.sw
def DmaPlan.dstBits (p : DmaPlan) : Nat :=
  if p.op = 0x41 then ((Fmt.ofCode p.fd).map Fmt.bits).getD 8
  else if p.op = 0x42 then 8 * (addSize p.fd).getD 1
  else swizzleBits p.sw

/-- Elements of a source row, and bytes of a destination row. -/
def DmaPlan.cols (p : DmaPlan) : Nat := p.rb * 8 / p.srcBits
def DmaPlan.dstBytes (p : DmaPlan) : Nat :=
  if p.sw = 0 ∨ p.op = 0x42 then cdiv (p.cols * p.dstBits) 8 else cdiv (p.rows * p.dstBits) 8

/-- The formats that a reduction combines (R251). -/
def redFmtOk (fs fd : Nat) : Bool :=
  (addSize fs).isSome && (addSize fd).isSome && (fs == fd || (fd == 0 && (fs == 1 || fs == 2)))

namespace State

/-- Bits of a descriptor that R152 reserves, for opcodes 0x40 to 0x42. -/
def dmaReserved (d : BitVec 512) : Bool :=
  decide (dw d 0 13 3 ≠ 0 ∨ dw d 0 38 26 ≠ 0 ∨ dw d 1 54 10 ≠ 0 ∨ dw d 2 54 10 ≠ 0 ∨ dw d 5 48 16 ≠ 0 ∨ dw d 6 16 48 ≠ 0 ∨
    dw d 7 0 64 ≠ 0)

/-- The checks at an item's start (R152, R153, R250, R251, R414). -/
def dmaCheck (s : State) (it : DmaItem) : Nat :=
  let d := it.desc
  let p := s.dmaPlan d
  let bad := dmaReserved d || decide (p.rb = 0 ∨ p.rows = 0 ∨ 4 < p.sw) || (p.srcDev.isSome && p.dstDev.isSome) ||
    (!bitOf d.toNat 11 && decide (dw d 1 48 6 ≠ 0)) || (!bitOf d.toNat 12 && decide (dw d 2 48 6 ≠ 0)) ||
    decide (p.red = 3 ∨ (p.op ≠ 0x42 ∧ p.red ≠ 0))
  let fmts := match p.op with
    | 0x41 => match Fmt.ofCode p.fs, Fmt.ofCode p.fd with
      | some f, some g => !f.isMx && !g.isMx && (Cvt.check p.cvt g).isSome && decide (p.sw = 0 ∨ swizzleBits p.sw = g.bits)
      | _, _ => false
    | 0x42 => redFmtOk p.fs p.fd && decide (p.sw = 0) && (p.dstDev.isSome || s.reduceOk p.fd p.dst 1)
    | _ => true
  let len := decide (p.rb * 8 % p.srcBits = 0) && (p.sw == 0 ||
    (decide (p.rb * 8 % swizzleBits p.sw = 0 ∧ p.rb * p.rows ≤ 65536) && !(p.sw == 4 && p.rows % 2 == 1)))
  if bad || !fmts || !len then 0x02
  else if s.semForeign (instOf it.owner) p.sem then 0x65
  else 0

/-! ### Moving data -/

/-- A source row: from memory, or from what the remote reads brought. -/
def dmaRead (s : State) (e : Eng) (p : DmaPlan) (it : DmaItem) (r : Nat) : Nat × List Byte :=
  if p.srcDev.isSome then (0, (List.range p.rb).map (fun j => Tbl.get it.rbuf 0 (r * p.rb + j)))
  else
    let a := p.src + r * p.ss
    match s.engReadSt e a p.rb with
    | 0 => (0, s.bytesAt a p.rb)
    | st => (st, [])

/-- A converted row (R53 to R62): element (r, j) draws at the address that it is written to, or at rng_base plus its
offset. -/
def cvtRow (p : DmaPlan) (seed step r : Nat) (bs : List Byte) : List Byte × FpEv :=
  match Fmt.ofCode p.fs, Fmt.ofCode p.fd, Cvt.ofByte p.cvt with
  | some f, some g, some c =>
    let vals := unpackBits f.bits p.cols bs
    let off := fun j => if p.sw = 0 then r * p.ds + j * g.bits / 8 else j * p.ds + r * g.bits / 8
    let base := if p.rng = 0 then p.dst else p.rng
    let res := ((List.range p.cols).zip vals).map (fun e =>
      cvtElem g c (randomOf seed step c.stream (max 1 (g.bits / 8)) (base + off e.1)) (f.value e.2))
    (packBits g.bits (res.map Prod.fst), FpEv.joinAll (res.map Prod.snd))
  | _, _, _ => (bs, {})

/-- A source row as destination elements: converted, widened for a reduction (R251), or as it is. -/
def dmaRow (p : DmaPlan) (seed step r : Nat) (bs : List Byte) : List Byte × FpEv :=
  if p.op = 0x41 then cvtRow p seed step r bs
  else if p.op = 0x42 ∧ p.fs ≠ p.fd then
    let f : Fmt := if p.fs = 1 then .fp16 else .bf16
    (((unpackBits 16 p.cols bs).flatMap (fun v => bytesOf (toFp32 (f.value v)).toNat 4)), {})
  else (bs, {})

/-- The rows of the transpose: destination row j holds column j in row order (R250). -/
def transposeRows (bits cols : Nat) (rows : List (List Byte)) : List (List Byte) :=
  let m := rows.map (unpackBits bits cols)
  (List.range cols).map (fun j => packBits bits (m.map (fun r => (r[j]?).getD 0)))

/-- What the conversion of a core's item reports (R66). -/
def dmaEvent (s : State) (u : DmaUnit) (ev : FpEv) : State :=
  match u with
  | .core c => s.fpEvent c.val 4 ev
  | .die _ => s

/-- A destination row stored or combined; none where the access fails. -/
def dmaWrite (s : State) (u : DmaUnit) (e : Eng) (p : DmaPlan) (a : Nat) (bs : List Byte) : Nat × State :=
  match s.engWriteSt e a bs.length with
  | 0 =>
    if p.op = 0x42 then
      match s.readStatus a bs.length with
      | 0 =>
        let (rep, s') := s.reduceAt p.fd p.fd p.red a (elemsOf ((addSize p.fd).getD 1) bs)
        (0, s'.dmaEvent u { nonfinite := rep.nonfinite, intSat := decide (0 < rep.wraps) })
      | st => (st, s.engFail e st a)
    else (0, s.putBytes a bs)
  | st => (st, s.engFail e st a)

/-- The seed and step of an item's stochastic rounding: its core's (R62); a host record has none stated, so they are free
values (log entry 31). -/
def dmaSeed (s : State) (u : DmaUnit) : Nat × Nat × State :=
  match u with
  | .core c => ((s.reg (R.CORE_RNG_SEED c.val)).toNat, (s.reg (R.CORE_RNG_STEP c.val)).toNat, s)
  | .die _ =>
    let (a, s) := s.fresh
    let (b, s) := s.fresh
    (a % 2 ^ 64, b % 2 ^ 64, s)

def addMoved (s : State) (u : DmaUnit) (n : Nat) : State :=
  match u with
  | .core c => s.add64 (R.CORE_DMA_BYTES c.val) n
  | .die _ => s

/-- Rows read in order until one fails: the status, and the rows with their offsets at the destination. -/
def dmaGather (s : State) (u : DmaUnit) (p : DmaPlan) (it : DmaItem) : Nat × List (Nat × List Byte) × State :=
  let e := dmaEng u it
  let (seed, step, s) := s.dmaSeed u
  let r := (List.range p.rows).foldl (fun (st : Nat × List (List Byte) × State) r =>
    let (code, out, s) := st
    if code ≠ 0 then st
    else match s.dmaRead e p it r with
      | (0, bs) =>
        let (row, ev) := dmaRow p seed step r bs
        (0, out ++ [row], s.dmaEvent u ev)
      | (c, _) => (c, out, s.engFail e c (p.src + r * p.ss))) (0, [], s)
  let rows := if p.sw = 0 then r.2.1 else if r.1 ≠ 0 then [] else transposeRows p.dstBits p.cols r.2.1
  (r.1, ((List.range rows.length).map (fun j => j * p.ds)).zip rows, r.2.2)

/-- A local item without a swizzle: row by row, read then written; a failing access ends it and earlier rows stand
(R143). An access is a row (DESIGN CHOICE, log entry 32). -/
def dmaRows (s : State) (u : DmaUnit) (p : DmaPlan) (it : DmaItem) : Nat × State :=
  let e := dmaEng u it
  let (seed, step, s) := s.dmaSeed u
  (List.range p.rows).foldl (fun (st : Nat × State) r =>
    let (code, s) := st
    if code ≠ 0 then st
    else match s.dmaRead e p it r with
      | (0, bs) =>
        let (row, ev) := dmaRow p seed step r bs
        match s.dmaWrite u e p (p.dst + r * p.ds) row with
        | (0, s) => (0, (s.dmaEvent u ev).addMoved u row.length)
        | (c, s) => (c, s)
      | (c, _) => (c, s.engFail e c (p.src + r * p.ss))) (0, s)

/-- A swizzled local item: the matrix is read whole, then its destination rows are written in order. -/
def dmaSwizzle (s : State) (u : DmaUnit) (p : DmaPlan) (it : DmaItem) : Nat × State :=
  let (code, rows, s) := s.dmaGather u p it
  rows.foldl (fun (st : Nat × State) row =>
    if st.1 ≠ 0 then st
    else match st.2.dmaWrite u (dmaEng u it) p (p.dst + row.1) row.2 with
      | (0, s) => (0, s.addMoved u row.2.length)
      | (c, s) => (c, s)) (code, s)

/-! ### Remote transfers (R334) -/

/-- The transactions of a run of bytes: at most 64 KiB each, none across a 64 KiB boundary. -/
def chunks64 : Nat → Nat → Nat → List (Nat × Nat)
  | 0, _, _ => []
  | fuel + 1, a, n =>
    if n = 0 then []
    else
      let k := min n (65536 - a % 65536)
      (a, k) :: chunks64 fuel (a + k) (n - k)

/-- Transactions of an item; none where no entry is free, so that the item holds. -/
def dmaSend (s : State) (u : DmaUnit) (it : DmaItem) (sess : SessId) (reqs : List (TxnReq × Nat)) : Option State :=
  reqs.foldl (fun (o : Option State) (q : TxnReq × Nat) => match o with
    | none => none
    | some s => s.startTxn { q.1 with sess := sess } (.dma u it.id q.2) it.owner.inst it.owner.gen) (some s)

def dmaDie (u : DmaUnit) : DieId :=
  match u with
  | .core c => ⟨c.val / 32, by omega⟩
  | .die d => d

def dmaCore (u : DmaUnit) : Option CoreId :=
  match u with
  | .core c => some c
  | .die _ => none

def dmaRoute (s : State) (it : DmaItem) (dev : Nat) : Option SessId :=
  match it.owner.inst with
  | some i => s.route i.val dev 2
  | none => none

/-- An item whose source is remote asks for it (R334). -/
def dmaAsk (s : State) (u : DmaUnit) (p : DmaPlan) (it : DmaItem) (dev : Nat) : State :=
  match s.dmaRoute it dev with
  | none => s.endItem u it 0x44
  | some k =>
    let reqs := (List.range p.rows).flatMap (fun r => (chunks64 (p.rb + 1) (p.src + r * p.ss) p.rb).map (fun c =>
      ((⟨k, 2, 2, 0, c.1, c.2, [], false, dmaCore u, dmaDie u⟩ : TxnReq), r * p.rb + (c.1 - (p.src + r * p.ss)))))
    match (s.putItem u { it with stage := 1, waits := reqs.length, err := 0, rbuf := [] }).dmaSend u it k reqs with
    | some s' => s'
    | none => s

/-- An item whose destination is remote sends it: WRITE, or ADD, MAX, MIN with the element code (R251, R321). -/
def dmaPush (s : State) (u : DmaUnit) (p : DmaPlan) (it : DmaItem) (dev : Nat) : State :=
  match s.dmaRoute it dev with
  | none => s.endItem u it 0x44
  | some k =>
    let (code, rows, s1) := s.dmaGather u p it
    let op := if p.op = 0x42 then 4 + p.red else 1
    let reqs := rows.flatMap (fun row => (chunks64 (row.2.length + 1) (p.dst + row.1) row.2.length).map (fun c =>
      let o := c.1 - (p.dst + row.1)
      ((⟨k, 2, op, if p.op = 0x42 then p.fd else 0, c.1, 0, (row.2.drop o).take c.2, false, dmaCore u, dmaDie u⟩ : TxnReq), 0)))
    let moved := (rows.map (fun r => r.2.length)).sum
    if reqs.isEmpty then s1.endItem u it code
    else match (s1.putItem u { it with stage := 2, waits := reqs.length, err := code }).dmaSend u it k reqs with
      | some s' => s'.addMoved u moved
      | none => s

/-- The part of an item after its source is at hand. -/
def dmaMove (s : State) (u : DmaUnit) (p : DmaPlan) (it : DmaItem) : State :=
  match p.dstDev with
  | some dev => s.dmaPush u p it dev
  | none =>
    let (code, s) := if p.sw = 0 then s.dmaRows u p it else s.dmaSwizzle u p it
    s.endItem u it code

/-- An item of an opcode acts: its checks, its remote reads, its data (R153); an item of an older generation is discarded
at its item boundary (R260). -/
def runDma (s : State) (u : DmaUnit) (k op : Nat) : State :=
  match s.activeItem u k with
  | none => s
  | some it =>
    let p := s.dmaPlan it.desc
    if it.opcode ≠ op then s
    else if s.oldOwner it.owner then s.dropDma u it.id
    else if it.stage = 0 then
      match s.dmaCheck it with
      | 0 => match p.srcDev with
        | some dev => s.dmaAsk u p it dev
        | none => s.dmaMove u p it
      | st => s.endItem u it st
    else if it.stage = 1 ∧ it.waits = 0 then
      (if it.err ≠ 0 then s.endItem u it it.err else s.dmaMove u p it)
    else s

/-! ### Cache maintenance (R244, R245) -/

/-- The checks of a maintenance record: its fields, its bounds snapshot, mapping and the firewall. -/
def maintCheck (s : State) (u : DmaUnit) (it : DmaItem) (op : Nat) : Nat :=
  let d := it.desc
  let p := s.dmaPlan d
  let whole := bitOf d.toNat 38
  let last := if whole then p.src else p.src + p.rb - 1
  let bad := decide (dw d 0 13 3 ≠ 0 ∨ dw d 0 39 25 ≠ 0 ∨ dw d 1 54 10 ≠ 0 ∨ dw d 6 16 48 ≠ 0 ∨ dw d 7 0 64 ≠ 0) ||
    p.srcDev.isSome || (!bitOf d.toNat 11 && decide (dw d 1 48 6 ≠ 0)) || decide (op = 3 ∨ p.rows ≠ 1 ∨ p.src % 256 ≠ 0) ||
    (!whole && decide (p.rb = 0 ∨ p.rb % 256 ≠ 0)) ||
    (match regionOf p.src, regionOf last with
     | .hbm a, .hbm b => decide (a ≠ b)
     | _, _ => true)
  let e := dmaEng u it
  if bad then 0x02
  else if s.semForeign (instOf it.owner) p.sem then 0x65
  else if !whole && !snapOk e.snap (op != 0) p.src p.rb then 0x11
  else s.checkRange e.who p.src (if whole then 1 else p.rb)

/-- The cached lines that a maintenance item covers. -/
def maintLines (s : State) (it : DmaItem) : Nat → Option Nat → Bool :=
  let p := s.dmaPlan it.desc
  fun l inst =>
    if bitOf it.desc.toNat 38 then stackOf l == p.src / 0xC00000000 && inst == instOf it.owner
    else decide (p.src ≤ 256 * l ∧ 256 * l < p.src + p.rb)

/-- FLUSH, INVALIDATE or both on every line covered, those in the victim buffer included; a flush of a poisoned line
leaves it so and ends with LOWER_TIER_FAIL, an invalidate discards it (R256). -/
def runMaint (s : State) (u : DmaUnit) (k op : Nat) : State :=
  match s.activeItem u k with
  | none => s
  | some it =>
    if it.opcode ≠ 0x43 then s
    else if dw it.desc 0 36 2 ≠ op then (if op = 0 ∧ dw it.desc 0 36 2 = 3 then s.endItem u it 0x02 else s)
    else if s.oldOwner it.owner then s.dropDma u it.id
    else match s.maintCheck u it op with
      | 0 =>
        let hit := s.maintLines it
        let ls := (s.msys.lines.filter (fun e => hit e.1 e.2.inst))
        let q := (s.dmaPlan it.desc).src / 0x1800000000
        let vs := (s.msys.victims.get [] q).filter (fun v => hit v.line v.home.inst)
        let bad := decide (op ≠ 1) && ls.any (fun e => e.2.poisoned)
        have s := if op = 1 then s.setVictims q ((s.msys.victims.get [] q).filter (fun v => !hit v.line v.home.inst))
          else vs.foldl (fun s v => s.endVictim q v) s
        have s := if op = 1 then s else ls.foldl (fun s e => s.cleanLine e.1) s
        have s := if op = 0 then s else ls.foldl (fun s e => s.dropLine e.1) s
        have s := if bad then s.ltfEnd (instOf it.owner) it.owner.voteExcl else s
        s.endItem u it (if bad then 0x24 else 0)
      | st => (s.engFail (dmaEng u it) st (s.dmaPlan it.desc).src).endItem u it st

/-! ### Completion (R36, R153, R348) -/

/-- The units whose items reach the engines of a die: its cores' queues, then the host's records (R262, R287, R347). -/
def dieUnits (d : DieId) : List DmaUnit :=
  (List.range 32).filterMap (fun j => if h : 32 * d.val + j < 128 then some (.core ⟨32 * d.val + j, h⟩) else none) ++ [.die d]

/-- The first waiting item of an opcode among the units: where it stands. -/
def waitingItem (s : State) (us : List DmaUnit) (op : Nat) (p : DmaItem → Bool) : Option (DmaUnit × DmaItem) :=
  us.findSome? (fun u =>
    ((List.range (s.dmaList u).length).findSome? (fun k => match s.activeItem u k with
      | some it => if it.opcode == op && it.stage == 0 && p it then some it else none
      | none => none)).map (fun it => (u, it)))

/-- A waiting item is handed to its engine. -/
def handItem (s : State) (u : DmaUnit) (it : DmaItem) : State := s.putItem u { it with stage := 2 }

/-- A status joins the record of a tag: the first one other than OK stays (R151). -/
def tagRecord (c : Core) (t st : Nat) : Core :=
  if st ≠ 0 ∧ c.tagStatus.get 0 t = 0 then { c with tagStatus := c.tagStatus.set 0 t st } else c

/-- An item's completion is reported: on its tag, to its list's copy, or as its queue entry's record; its done_sem is
released. A Seam item's record has no done_sem field (R287). -/
def reportItem (s : State) (u : DmaUnit) (it : DmaItem) (st : Nat) : State :=
  have s := s.dropDma u it.id
  let sem := if it.opcode = 0x4A ∨ st = 0x65 then 0xFFFF else dw it.desc 6 0 16
  let who : Agent := match u with
    | .core c => .core c
    | .die d => .engine 1 d.val
  have s := match it.owner.inst with
    | some i => s.doneSem sem who i.val it.owner.gen
    | none => s
  have s := match u with
    | .core c => (s.setFld (R.CORE_DMA_STATUS c.val) F.CORE_DMA_STATUS_last_status st).add64 (R.CORE_DMA_ITEMS c.val) 1
    | .die _ => s
  match it.origin, u with
  | .tag t, .core c => s.setCore c.val (tagRecord (s.core c.val) t st)
  | .copyList, .core c =>
    let k := s.core c.val
    s.setCore c.val { k with runq := match k.runq with
      | p :: rest => { p with status := if p.status = 0 then st else p.status } :: rest
      | [] => [] }
  | .host w, _ => s.completeWork w st it.result
  | _, _ => s

end State

/-! ### Commands -/

/-- COPY (R153): item `k` of a unit's queue, opcode 0x40. -/
def execCopy (u : DmaUnit) (k : Nat) (s : State) : Out := .next (s.runDma u k 0x40)
/-- COPY_WITH_CONVERSION (R250): opcode 0x41. -/
def execCopyWithConversion (u : DmaUnit) (k : Nat) (s : State) : Out := .next (s.runDma u k 0x41)
/-- MEMORY_SIDE_REDUCTION (R251): opcode 0x42. -/
def execMemorySideReduction (u : DmaUnit) (k : Nat) (s : State) : Out := .next (s.runDma u k 0x42)
/-- FLUSH (R245): opcode 0x43, maint_op 0. A reserved maint_op 3 ends here with BAD_FIELD. -/
def execFlush (u : DmaUnit) (k : Nat) (s : State) : Out := .next (s.runMaint u k 0)
/-- INVALIDATE (R245): maint_op 1. -/
def execInvalidate (u : DmaUnit) (k : Nat) (s : State) : Out := .next (s.runMaint u k 1)
/-- FLUSH_AND_INVALIDATE (R245): maint_op 2. -/
def execFlushAndInvalidate (u : DmaUnit) (k : Nat) (s : State) : Out := .next (s.runMaint u k 2)

/-- DMA_ITEM_COMPLETION (R153): a finished item is reported once no earlier item of its tag is left; an item of an
undefined opcode ends with BAD_OPCODE (0x01) when it starts. -/
def execDmaItemCompletion (u : DmaUnit) (k : Nat) (s : State) : Out :=
  match (s.dmaList u)[k]? with
  | none => .next s
  | some it =>
    let undef := (s.activeItem u k).isSome && it.stage == 0 &&
      !decide ((0x40 ≤ it.opcode ∧ it.opcode ≤ 0x43) ∨ (0x48 ≤ it.opcode ∧ it.opcode ≤ 0x4A))
    let st := if undef then some 0x01 else it.done
    match st with
    | none => .next s
    | some st =>
      let earlier := ((s.dmaList u).take k).any (fun x => x.tag == it.tag && x.origin == it.origin)
      if earlier then .next (s.putItem u { it with stage := 3, done := some st }) else .next (s.reportItem u it st)

end Sys2Proof.Machine
end

