-- ==== Sys2Proof/Machine/Sched.lean ====
section
/-! DEFINITION. Semaphores, Bobbin counters, watchdogs, buffer pools, dispatch and the steps of a copy (R170 to R172, R409
to R419), and the retirement of a core (R441). -/
namespace Sys2Proof.Machine

/-- Element `k` of a list removed. -/
def removeAt {α : Type} (l : List α) (k : Nat) : List α := l.take k ++ l.drop (k + 1)

namespace State

def setSch (s : State) (x : SchedState) : State := { s with sch := x }

/-! ### Semaphores (R414 to R416) -/

def semVal (s : State) (n : Nat) : Nat := s.fld (R.SCH_SEM n) F.SCH_SEM_value

def showSem (s : State) (n : Nat) : State :=
  s.setFld (R.SCH_SEM n) F.SCH_SEM_waiters (min 255 (s.sch.semWait.get [] n).length)

/-- A semaphore is granted: its value falls by 1, the acquirer becomes its owner; after an abandonment it answers
ABANDONED (0x62) once. -/
def semGrantTo (s : State) (n : Nat) (w : SemWaiter) : State :=
  let off := R.SCH_SEM n
  let st := if s.fld off F.SCH_SEM_abandoned = 1 then 0x62 else 0
  have s := s.setFld off F.SCH_SEM_value (s.semVal n - 1)
  have s := (s.setFld off F.SCH_SEM_owned 1).setFld off F.SCH_SEM_abandoned 0
  have s := (s.setFld off F.SCH_SEM_owner_inst w.inst).setFld off F.SCH_SEM_owner_gen w.gen
  have s := if st = 0x62 then s.inc R.SCH_ABANDONED else s
  match w.who with
  | .core c => (s.setFld off F.SCH_SEM_owner_core c.val).setCore c.val { s.core c.val with semGrant := some st }
  | _ => s

/-- Waiters proceed from the head of the queue while the value is not 0. -/
def semServe (s : State) (n : Nat) : Nat → State
  | 0 => s.showSem n
  | fuel + 1 =>
    match s.sch.semWait.get [] n with
    | [] => s.showSem n
    | w :: rest =>
      if s.semVal n = 0 then s.showSem n
      else semServe ((s.setSch { s.sch with semWait := s.sch.semWait.set [] n rest }).semGrantTo n w) n fuel

def semServeAll (s : State) (n : Nat) : State := s.semServe n ((s.sch.semWait.get [] n).length + 1)

def agentUnit : Agent → LogUnit
  | .core c => uCore c.val
  | .engine t d => ⟨t, d, d⟩
  | .ingest x _ => ⟨8, 4, x.val⟩
  | .host => uThimble

/-- An operation is applied at its semaphore (R415); one of an older generation is discarded. -/
def semApply (s : State) (n : Nat) (op : SemOp) : State :=
  if genOlder op.gen (s.gen op.inst) then s
  else if op.acquire then
    let pc := match op.who with
      | .core c => BitVec.ofNat 48 (s.reg (R.CORE_SEQ_PC c.val)).toNat
      | _ => 0
    let w : SemWaiter := ⟨op.who, op.inst, op.gen, pc⟩
    if (s.sch.semWait.get [] n).isEmpty && s.semVal n != 0 then s.semGrantTo n w
    else (s.setSch { s.sch with semWait := s.sch.semWait.set [] n (s.sch.semWait.get [] n ++ [w]) }).showSem n
  else if s.semVal n = 0xFFFF then s.log 2 0x66 (agentUnit op.who) (some op.inst) (value := n)
  else
    ((s.setFld (R.SCH_SEM n) F.SCH_SEM_value (s.semVal n + 1)).setFld (R.SCH_SEM n) F.SCH_SEM_owned 0).semServeAll n

/-- A write of SCH_SEM (R415). -/
def writeSem (s : State) (n v : Nat) : State := (s.setFld (R.SCH_SEM n) F.SCH_SEM_value v).semServeAll n

/-! ### Bobbin counters (R170, R171) -/

def bobVal (s : State) (n : Nat) : Nat := s.fld (R.SCH_BOB_VALUE n) F.SCH_BOB_VALUE_value
def bobLimit (s : State) (n : Nat) : Nat := s.fld (R.SCH_BOB_LIMIT n) F.SCH_BOB_LIMIT_limit

/-- Waits that the counter's value satisfies complete with OK, the others stay. -/
def bobServe (s : State) (n : Nat) : State :=
  let done := fun (o : BobOp) => match o with
    | .wait _ v _ => decide (v ≤ s.bobVal n)
    | .add .. => false
  let ws := s.sch.bobWait.get [] n
  have s := s.setSch { s.sch with bobWait := s.sch.bobWait.set [] n (ws.filter (fun o => !done o)) }
  (ws.filter done).foldl (fun s o => match o with
    | .wait c _ _ => s.setCore c.val { s.core c.val with bobGrant := some 0 }
    | .add .. => s) s

def showBob (s : State) (n : Nat) : State :=
  s.setFld (R.SCH_BOB_STATUS n) F.SCH_BOB_STATUS_exhausted (if s.bobVal n ≥ s.bobLimit n then 1 else 0)

/-- One fetch-and-add (R170): the old value, and the counter after it. -/
def bobAdd (s : State) (n : Nat) (addend : W32) (by' : Option Nat) : Nat × State :=
  let old := s.bobVal n
  let limit := s.bobLimit n
  let add := addend.toInt
  let new : Int := if add ≥ 0 then (if old ≥ limit then (old : Int) else min ((old : Int) + add) limit) else max ((old : Int) + add) 0
  have s := if old ≥ limit ∧ add ≥ 0 then
      s.setFld (R.SCH_BOB_STATUS n) F.SCH_BOB_STATUS_late_draws
        (min 0xFFFF (s.fld (R.SCH_BOB_STATUS n) F.SCH_BOB_STATUS_late_draws + 1)) else s
  have s := (s.setFld (R.SCH_BOB_VALUE n) F.SCH_BOB_VALUE_value new.toNat).showBob n
  have s := s.setSch { s.sch with bobAdder := s.sch.bobAdder.set none n by' }
  (old, s.bobServe n)

/-- A fetch-and-add's old value lands in its register, unless a later instruction has written that register (R131, R132). -/
def bobReturn (c : Core) (id d old : Nat) : Core :=
  match c.pend.find? (fun p => decide (p.kind = .bob id)) with
  | some p =>
    let c := { c with pend := c.pend.filter (fun q => decide (q.kind ≠ .bob id)) }
    if p.live then c.setS d (BitVec.ofNat 64 old) else c
  | none => c

/-- A write of SCH_BOB_VALUE (R171). -/
def writeBob (s : State) (n v : Nat) : State :=
  ((s.setFld (R.SCH_BOB_VALUE n) F.SCH_BOB_VALUE_value v).showBob n).bobServe n

/-! ### Pools (R418, R419) -/

def poolOn (s : State) (p : Nat) : Bool := decide (s.fld (R.SCH_POOL_CFG p) F.SCH_POOL_CFG_enable = 1)

def showPool (s : State) (p : Nat) : State :=
  have s := s.setFld (R.SCH_POOL_STATUS p) F.SCH_POOL_STATUS_free (s.sch.poolFree.get [] p).length
  s.setFld (R.SCH_POOL_STATUS p) F.SCH_POOL_STATUS_waiters (min 255 (s.sch.poolWait.get [] p).length)

/-- The slots of a pool in ascending order. -/
def poolSlots (s : State) (p : Nat) : List Nat :=
  (List.range (s.fld (R.SCH_POOL_CFG p) F.SCH_POOL_CFG_count)).map (fun j =>
    (s.reg (R.SCH_POOL_BASE p)).toNat + j * (s.reg (R.SCH_POOL_SLOT p)).toNat)

/-- Every slot becomes free, in ascending order. -/
def poolFill (s : State) (p : Nat) : State :=
  (s.setSch { s.sch with poolFree := s.sch.poolFree.set [] p (s.poolSlots p) }).showPool p

/-- An ingest frame's take ends with a slot or a status. -/
def frameSlot (s : State) (x seq : Nat) (slot : Option Nat) (st : Nat) : State :=
  let t := s.media.streams.get IngStream.reset x
  let t := { t with frames := t.frames.map (fun f =>
    if f.seq = seq ∧ f.waiting then { f with slot := slot, waiting := false, cause := if st = 0 then f.cause else st } else f) }
  { s with media := { s.media with streams := s.media.streams.set IngStream.reset x t } }

/-- The head of the wait queue takes the oldest free slot. -/
def poolGrant (s : State) (p : Nat) : State :=
  match s.sch.poolWait.get [] p, s.sch.poolFree.get [] p with
  | w :: ws, slot :: rest =>
    have s := (s.setSch { s.sch with poolWait := s.sch.poolWait.set [] p ws, poolFree := s.sch.poolFree.set [] p rest }).showPool p
    match w.who with
    | .ingest x seq => s.frameSlot x.val seq (some slot) 0
    | _ => s
  | _, _ => s

/-- A take that does not wait: slot and status; waiting takes go first (R419). -/
def takeSlot (s : State) (p : Nat) : Option Nat × State :=
  have s := (s.sch.poolWait.get [] p).foldl (fun s _ => s.poolGrant p) s
  match s.poolOn p, s.sch.poolFree.get [] p with
  | true, slot :: rest => (some slot, (s.setSch { s.sch with poolFree := s.sch.poolFree.set [] p rest }).showPool p)
  | _, _ => (none, s.inc (R.SCH_POOL_EMPTY_COUNT p))

/-- What a read of SCH_POOL_TAKE returns. -/
def takeWord (o : Option Nat) : Nat :=
  match o with
  | some a => a % 2 ^ 48
  | none => 0x61 * 2 ^ 56

/-- A return of a slot (R418). -/
def returnSlot (s : State) (p slot : Nat) (who : Agent) (inst : Option Nat) : State :=
  if s.poolOn p && (s.poolSlots p).contains slot && !(s.sch.poolFree.get [] p).contains slot then
    (s.setSch { s.sch with poolFree := s.sch.poolFree.set [] p (s.sch.poolFree.get [] p ++ [slot]) }).showPool p
  else (s.inc (R.SCH_POOL_BAD_RETURNS p)).log 2 0x67 (agentUnit who) inst (addr := slot) (value := p)

/-- A write of SCH_POOL_CFG: owner and count only while enable is 0; enabling frees every slot. -/
def writePoolCfg (s : State) (p v : Nat) : State :=
  let off := R.SCH_POOL_CFG p
  let on := s.poolOn p
  have s := if on then s else (s.setFld off F.SCH_POOL_CFG_owner (bitsOf v 0 3)).setFld off F.SCH_POOL_CFG_count (bitsOf v 8 13)
  have s := s.setFld off F.SCH_POOL_CFG_enable (bitsOf v 3 1)
  if !on && bitOf v 3 then s.poolFill p else s

def reqAgent : Requester → Agent
  | .core c => .core c
  | _ => .host

def reqInstOf (s : State) : Requester → Option Nat
  | .core c => s.coreInst c.val
  | .vf k => some k.val
  | _ => none

/-! ### Watchdogs (R417) -/

/-- The holder's part of a watchdog entry: core number, unit type 1, die; 0xFFFF for none. -/
def holderValue (h : Option Nat) : Nat :=
  match h with
  | some c => c % 2 ^ 16 + 1 * 2 ^ 16 + c / 32 % 8 * 2 ^ 20
  | none => 0xFFFF

/-- A wait ends with TIMEOUT (0x05): counted and logged. -/
def timedOut (s : State) (who : Agent) (inst : Option Nat) (pc : Addr) (holder : Option Nat) : State :=
  (s.inc R.SCH_TIMEOUTS).log 2 0x05 (agentUnit who) inst (pc := pc.toNat) (value := holderValue holder)

/-! ### Run queues (R410, R411) -/

def showCore (s : State) (c : Nat) : State :=
  let q := (s.core c).runq
  have s := s.setFld (R.SCH_CORE c) F.SCH_CORE_load q.length
  s.setFld (R.SCH_CORE c) F.SCH_CORE_running (if q.any (fun p => p.phase == .running) then 1 else 0)

def affKeyOf (s : State) (c : Nat) : Nat := s.fld (R.SCH_CORE c) F.SCH_CORE_aff_key

/-- Cores of the instance that are present and have a free run-queue entry. -/
def freeCores (s : State) (i : Nat) : List Nat :=
  (List.range 128).filter (fun c => s.ownsCore i c && !s.absent c && decide ((s.core c).runq.length < 4))

/-- The least-loaded of a list of cores, ties to the lower number. -/
def leastLoaded (s : State) (l : List Nat) : Option Nat :=
  l.foldl (fun a c => match a with
    | some b => if (s.core c).runq.length < (s.core b).runq.length then some c else some b
    | none => some c) none

/-- The cores that an entry's copies take, one after another (R410). -/
def chooseCores (s : State) (key : Nat) : Nat → List Nat → List Nat
  | 0, _ => []
  | w + 1, free =>
    let same := if key = 0 then [] else free.filter (fun c => s.affKeyOf c == key)
    match (match s.leastLoaded same with
      | some c => some c
      | none => s.leastLoaded free) with
    | none => []
    | some c => c :: chooseCores s key w (free.filter (fun x => x != c))

def setRunq (s : State) (c : Nat) (q : List Copy) : State := (s.setCore c { s.core c with runq := q }).showCore c

/-- An entry's copies are placed, when its width finds free cores. -/
def placeEntry (s : State) (i : InstId) (w : Work) : Option State :=
  let width := dw w.desc 4 48 8
  let cores := s.chooseCores (dw w.desc 5 0 32) width (s.freeCores i.val)
  if cores.length < width ∨ width = 0 then none
  else
    let copy : Copy :=
      { work := w.id, owner := ⟨some i, s.gen i.val, false⟩, prog := BitVec.ofNat 1024 (s.natAt (dw w.desc 4 0 48) 128),
        argBlock := BitVec.ofNat 48 (dw w.desc 1 0 48), arg := BitVec.ofNat 64 (dw w.desc 3 0 64), affKey := dw w.desc 5 0 32,
        phase := .waiting, status := 0, skipped := false }
    have s := cores.foldl (fun s c => s.setRunq c ((s.core c).runq ++ [copy])) s
    some { s with host := { s.host with works := s.host.works.map (fun x =>
      if x.id = w.id then { x with placed := true, left := width } else x) } }

/-- The queues whose entries run for an instance, in the order of the rotation (R410). -/
def queueOf (i : InstId) (j : Nat) : QRef := ⟨if j % 128 < 64 then .inst i else .pf, ⟨j % 64, by omega⟩⟩

/-- The first entry of core work of a queue, for the instance, that is not yet placed. -/
def nextEntry (s : State) (i : InstId) (q : QRef) : Option Work :=
  s.host.works.find? (fun w => w.kind == 1 && !w.placed && decide (w.q = q) && w.inst == some i.val)

/-- The dispatcher starts no copy in MAINTENANCE nor while it is being entered (R442). -/
def dispatchStopped (s : State) : Bool :=
  decide (s.modState = 7) || (match s.host.thm with
    | some r => r.cmd == .maintEnter
    | none => false)

/-! ### The end of a copy (R411, R412, R441) -/

/-- A copy leaves its core: the residency key, the entry's counts and, with the last one, its completion. -/
def finishCopy (s : State) (c : Nat) (p : Copy) (st : Nat) : State :=
  match s.workOf p.work with
  | none => s
  | some w =>
    let fail := if st = 0 then w.failCore
      else match w.failCore with
        | some (c0, s0) => if c < c0 then some (c, st) else some (c0, s0)
        | none => some (c, st)
    let w' := { w with left := w.left - 1, failCore := fail, failed := w.failed + (if st = 0 then 0 else 1) }
    have s := { s with host := { s.host with works := s.host.works.map (fun x => if x.id = w.id then w' else x) } }
    if w'.left = 0 then
      s.completeWork w.id (match fail with
        | some (_, e) => e
        | none => 0) (w'.failed % 2 ^ 16)
    else s

/-- A suspect core is retired (R441): absent, its Pocket lost, its queued copies ended with CORE_RETIRED (0x92). -/
def retireCore (s : State) (c : Nat) : State :=
  have s := s.setFld (R.CORE_ARR_STATUS c) F.CORE_ARR_STATUS_suspect 0
  have s := s.setRegBit (R.GLB_CORE_ABSENT (c / 32)) (c % 32) true
  have s := s.setRegBit (R.RAS_RETIRED (c / 64)) (c % 64) true
  have s := s.setFld R.GLB_STATUS F.GLB_STATUS_active_cores (s.fld R.GLB_STATUS F.GLB_STATUS_active_cores - 1)
  let lo := 0x11000000000 + c * 0x2000000
  have s := { s with mem := s.mem.filter (fun e => !(decide (lo ≤ e.1 ∧ e.1 < lo + 0x2000000))),
                     msys := { s.msys with poison := s.msys.poison.filter (fun w =>
                       !(decide (lo ≤ 8 * w ∧ 8 * w < lo + 0x2000000))) } }
  let waiting := (s.core c).runq.filter (fun p => p.phase == .waiting)
  have s := s.setRunq c ((s.core c).runq.filter (fun p => p.phase != .waiting))
  have s := waiting.foldl (fun s p => s.finishCopy c p 0x92) s
  s.log 2 0x92 (uCore c) (s.instOfCore c)

def suspect (s : State) (c : Nat) : Bool := decide (s.fld (R.CORE_ARR_STATUS c) F.CORE_ARR_STATUS_suspect = 1)

/-- The suspect cores of an instance retire at its step boundary (R269, R441). -/
def retireSuspects (s : State) (i : Nat) : State :=
  ((List.range 128).filter (fun c => s.ownsCore i c && s.suspect c && !s.absent c)).foldl (fun s c => s.retireCore c) s

def voteOn (s : State) (i : Nat) : Bool := decide (s.fld (R.SEAM_VOTE_CFG i) F.SEAM_VOTE_CFG_enable = 1)

/-! ### Restore and save lists (R411) -/

/-- The items of a list of core DMA descriptors (R152). -/
def listItems (s : State) (p : Copy) (base count : Nat) : List DmaItem :=
  (List.range count).map (fun j =>
    { id := s.host.nextWork + j, desc := BitVec.ofNat 512 (s.natAt (base + 64 * j) 64), snap := none, owner := p.owner,
      origin := .copyList, stage := 0, waits := 0, err := 0, rbuf := [], done := none, result := 0 })

/-- A list is queued on a core's DMA; an unreadable list ends the copy's step with its status. -/
def queueList (s : State) (c : CoreId) (p : Copy) (base count : Nat) : Nat × State :=
  match if count = 0 then 0 else s.engineRead (whoOf p.owner) base (64 * count) with
  | 0 =>
    let items := s.listItems p base count
    have s := { s with host := { s.host with nextWork := s.host.nextWork + count } }
    (0, s.setDmaList (.core c) ((s.core c.val).dmaq ++ items))
  | st => (st, s.readFailed st (uCore c.val) (instOf p.owner) p.owner.voteExcl base)

/-- Items of a copy's list that the core's DMA still holds. -/
def listBusy (s : State) (c : Nat) : Bool := (s.core c).dmaq.any (fun it => it.origin == .copyList)

def headCopy (s : State) (c : Nat) : Option Copy := (s.core c).runq.head?

def putHead (s : State) (c : Nat) (p : Copy) : State :=
  match (s.core c).runq with
  | [] => s
  | _ :: rest => s.setRunq c (p :: rest)

end State

/-! ### Commands -/

/-- SEMAPHORE_OPERATION (R415): the k-th operation on its way to a semaphore is applied. -/
def execSemaphoreOperation (n : SemId) (k : Nat) (s : State) : Out :=
  let ops := s.sch.semIn.get [] n.val
  match ops[k]? with
  | none => .next s
  | some op => .next ((s.setSch { s.sch with semIn := s.sch.semIn.set [] n.val (removeAt ops k) }).semApply n.val op)

/-- SEMAPHORE_WRITE (R415). -/
def execSemaphoreWrite (req : Requester) (n : SemId) (v : BitVec 16) (s : State) : Out :=
  .next (if s.reach req (R.SCH_SEM n.val) then s.writeSem n.val v.toNat else s.regRefused req (R.SCH_SEM n.val))

/-- BOBBIN_COUNTER_OP (R171): the k-th operation on its way to a counter is applied. -/
def execBobbinCounterOp (n : BobId) (k : Nat) (s : State) : Out :=
  let ops := s.sch.bobIn.get [] n.val
  match ops[k]? with
  | none => .next s
  | some op =>
    have s := s.setSch { s.sch with bobIn := s.sch.bobIn.set [] n.val (removeAt ops k) }
    match op with
    | .add c id d a =>
      let (old, s) := s.bobAdd n.val a (some c.val)
      .next (s.setCore c.val (State.bobReturn (s.core c.val) id d old))
    | .wait c v pc =>
      if v ≤ s.bobVal n.val then .next (s.setCore c.val { s.core c.val with bobGrant := some 0 })
      else .next (s.setSch { s.sch with bobWait := s.sch.bobWait.set [] n.val (s.sch.bobWait.get [] n.val ++ [.wait c v pc]) })

/-- BOBBIN_VALUE_WRITE (R171). -/
def execBobbinValueWrite (req : Requester) (n : BobId) (v : W32) (s : State) : Out :=
  .next (if s.reach req (R.SCH_BOB_VALUE n.val) then s.writeBob n.val v.toNat else s.regRefused req (R.SCH_BOB_VALUE n.val))

/-- POOL_TAKE (R419): a read of SCH_POOL_TAKE. -/
def execPoolTake (req : Requester) (p : PoolId) (s : State) : Out :=
  if !s.reach req (R.SCH_POOL_TAKE p.val) then .next (s.refusedRead req (R.SCH_POOL_TAKE p.val))
  else
    let (o, s) := s.takeSlot p.val
    .next { s with host := { s.host with reply := some ⟨req, bytesOf (State.takeWord o) 8, false⟩ } }

/-- POOL_RETURN (R418): a write of SCH_POOL_RETURN. -/
def execPoolReturn (req : Requester) (p : PoolId) (slot : Addr) (s : State) : Out :=
  .next (if s.reach req (R.SCH_POOL_RETURN p.val) then s.returnSlot p.val slot.toNat (State.reqAgent req) (s.reqInstOf req)
    else s.regRefused req (R.SCH_POOL_RETURN p.val))

/-- SLOT_GRANT (R419). -/
def execSlotGrant (p : PoolId) (s : State) : Out := .next (s.poolGrant p.val)

/-- WATCHDOG_EXPIRY (R417): the wait ends with TIMEOUT and leaves its queue. -/
def execWatchdogExpiry (w : WaitRef) (s : State) : Out :=
  match w with
  | .sem n k =>
    let ws := s.sch.semWait.get [] n.val
    (match ws[k]? with
     | none => .next s
     | some x =>
       have s := (s.setSch { s.sch with semWait := s.sch.semWait.set [] n.val (removeAt ws k) }).showSem n.val
       let holder := if s.fld (R.SCH_SEM n.val) F.SCH_SEM_owned = 1
         then some (s.fld (R.SCH_SEM n.val) F.SCH_SEM_owner_core) else none
       have s := s.timedOut x.who (some x.inst) x.pc holder
       match x.who with
       | .core c => .next (s.setCore c.val { s.core c.val with semGrant := some 0x05 })
       | _ => .next s)
  | .bob n k =>
    let ws := s.sch.bobWait.get [] n.val
    (match ws[k]? with
     | some (.wait c _ pc) =>
       have s := s.setSch { s.sch with bobWait := s.sch.bobWait.set [] n.val (removeAt ws k) }
       have s := s.timedOut (.core c) (s.coreInst c.val) pc (s.sch.bobAdder.get none n.val)
       .next (s.setCore c.val { s.core c.val with bobGrant := some 0x05 })
     | _ => .next s)
  | .rcv c =>
    let k := s.core c.val
    if k.rcvWait.isNone || k.rcvExpired then .next s
    else
      have s := s.timedOut (.core c) (s.coreInst c.val) (BitVec.ofNat 48 (s.reg (R.CORE_SEQ_PC c.val)).toNat) none
      .next (s.setCore c.val { k with rcvExpired := true })
  | .pool p k =>
    let ws := s.sch.poolWait.get [] p.val
    (match ws[k]? with
     | none => .next s
     | some x =>
       have s := (s.setSch { s.sch with poolWait := s.sch.poolWait.set [] p.val (removeAt ws k) }).showPool p.val
       have s := s.timedOut x.who (some x.inst) 0 none
       match x.who with
       | .ingest y seq => .next (s.frameSlot y.val seq none 0x05)
       | _ => .next s)

/-- DISPATCH (R410): the instance's queues are served in rotation; the first whose next entry finds its cores has it
placed. -/
def execDispatch (i : InstId) (s : State) : Out :=
  if s.dispatchStopped || !s.instOn i.val then .next s
  else
    let start := s.sch.rotation.get 0 i.val
    let tryQ := fun (j : Nat) => match s.nextEntry i (State.queueOf i (start + j)) with
      | some w => (s.placeEntry i w).map (fun t => (j, t))
      | none => none
    match (List.range 128).findSome? tryQ with
    | some (j, t) => .next (t.setSch { t.sch with rotation := t.sch.rotation.set 0 i.val ((start + j + 1) % 128) })
    | none => .next s

/-- COPY_RESTORE (R411): the head copy's restore list is queued on the core's DMA, or skipped on a match of its
residency key; when the list has run, the copy is ready, or ended by the failing status. -/
def execCopyRestore (c : CoreId) (s : State) : Out :=
  match s.headCopy c.val with
  | none => .next s
  | some p =>
    match p.phase with
    | .waiting =>
      let i := (State.instOf p.owner).getD 0
      have s := s.add64 (R.SCH_INST_DISPATCHED i) 1
      if p.affKey ≠ 0 ∧ s.affKeyOf c.val = p.affKey then
        .next ((s.add64 (R.SCH_INST_AFF_HITS i) 1).putHead c.val { p with phase := .ready, skipped := true })
      else
        let count := xw p.prog 7 0 16
        let (st, s) := s.queueList c p (xw p.prog 6 0 64 % 2 ^ 48) count
        .next (s.putHead c.val { p with phase := if st = 0 then .restoring count else .finished, status := st })
    | .restoring _ =>
      if s.listBusy c.val then .next s
      else .next (s.putHead c.val { p with phase := if p.status = 0 then .ready else .finished })
    | _ => .next s

/-- PROGRAM_START (R130, R411): the register files are cleared and set, the regions loaded, the instruction cache
emptied, and the entry bundle is next. -/
def execProgramStart (c : CoreId) (s : State) : Out :=
  match s.headCopy c.val with
  | none => .next s
  | some p =>
    if p.phase ≠ .ready then .next s
    else
      let k := s.core c.val
      let pocket : Addr := BitVec.ofNat 48 (0x11000000000 + c.val * 0x2000000)
      let k' : Core :=
        { Core.reset with mxq := k.mxq, dmaq := k.dmaq, ports := k.ports, runq := k.runq, arr := k.arr }
      let k' := ((k'.setB 0 ⟨pocket, pocket + 0x1800000, 3⟩).setA 0 p.argBlock).setS 1 p.arg
      have s := s.setCore c.val k'
      have s := (List.range 4).foldl (fun s n => s.setReg (R.CORE_SEQ_IREG c.val n) (BitVec.ofNat 64 (xw p.prog (1 + n) 0 64))) s
      have s := s.setReg (R.CORE_STG_REGION c.val) (BitVec.ofNat 64 (xw p.prog 5 0 64))
      have s := s.setReg (R.CORE_SEQ_PC c.val) (BitVec.ofNat 64 (xw p.prog 0 0 48))
      have s := (s.setFld (R.CORE_SEQ_STATUS c.val) F.CORE_SEQ_STATUS_state 1).setFld (R.CORE_SEQ_STATUS c.val)
        F.CORE_SEQ_STATUS_hold_cause 0
      have s := s.setFld (R.CORE_SEQ_STATUS c.val) F.CORE_SEQ_STATUS_loop_depth 0
      .next (s.putHead c.val { p with phase := .running })

/-- Whether a core's engines hold nothing of its program (R142, R151). -/
def State.drained (s : State) (c : Nat) : Bool :=
  let k := s.core c
  k.mxq.isEmpty && k.arr.job.isNone && k.arr.attn.isNone && k.dmaq.isEmpty

/-- COPY_SAVE (R411): the ended program's queues have drained; its status is recorded and the save list is queued. -/
def execCopySave (c : CoreId) (s : State) : Out :=
  match s.headCopy c.val, (s.core c.val).ending with
  | some p, some code =>
    if p.phase ≠ .running || !s.drained c.val then .next s
    else
      have s := s.setCore c.val { s.core c.val with ending := none, mxStatus := 0, tagStatus := [] }
      have s := s.setFld (R.CORE_SEQ_STATUS c.val) F.CORE_SEQ_STATUS_last_status code
      have s := if s.fld (R.CORE_SEQ_STATUS c.val) F.CORE_SEQ_STATUS_state = 3 then s
        else (s.setFld (R.CORE_SEQ_STATUS c.val) F.CORE_SEQ_STATUS_state 0).setFld (R.CORE_SEQ_STATUS c.val)
          F.CORE_SEQ_STATUS_hold_cause 0
      let count := xw p.prog 7 16 16
      let (st, s) := s.queueList c p (xw p.prog 8 0 64 % 2 ^ 48) count
      .next (s.putHead c.val { p with phase := if st = 0 then .saving count else .finished,
                                      status := if code ≠ 0 then code else st })
  | _, _ => .next s

/-- COPY_END (R411, R412): the copy ends, the residency key is its aff_key if every step ended OK, else 0. A suspect core
of an instance without a vote retires (R441). -/
def execCopyEnd (c : CoreId) (s : State) : Out :=
  match s.headCopy c.val with
  | none => .next s
  | some p =>
    let passed := match p.phase with
      | .saving _ => !s.listBusy c.val
      | .finished => true
      | _ => false
    if !passed then .next s
    else
      have s := s.setRunq c.val ((s.core c.val).runq.drop 1)
      have s := s.setFld (R.SCH_CORE c.val) F.SCH_CORE_aff_key (if p.status = 0 then p.affKey else 0)
      have s := s.setFld (R.CORE_SEQ_STATUS c.val) F.CORE_SEQ_STATUS_state 0
      have s := s.finishCopy c.val p p.status
      let i := (State.instOf p.owner).getD 0
      .next (if s.suspect c.val && !s.voteOn i then s.retireCore c.val else s)

end Sys2Proof.Machine
end

