-- ==== Sys2Proof/Machine/Product.lean ====
section
/-! DEFINITION. Matrix-class products: their descriptors (R95, R101, R167, R208), their tiles, loop nests and passes (R158
to R161, R111 to R113), where their operands lie, and the arithmetic of one row (R73 to R77, R87, R88, R107, R108). -/
namespace Sys2Proof.Machine

/-- Sizes and placement of a convolution (R197 to R208). -/
structure ConvP where
  inW : Nat
  inH : Nat
  inC : Nat
  outC : Nat
  kh : Nat
  kw : Nat
  sy : Nat
  sx : Nat
  dy : Nat
  dx : Nat
  iy : Nat
  ix : Nat
  pt : Nat
  pb : Nat
  pl : Nat
  pr : Nat
  replicate : Bool
  xRow : Nat
  xPlane : Nat
  cRow : Nat
  cPlane : Nat
  row0 : Nat
  rows : Nat
  inRow0 : Nat
  inRows : Nat
  deriving DecidableEq, Repr

/-- A product's fields. `kind`: 0 a matrix product, 1 a convolution, 2 a weight gradient; of a convolution, wk, wn and m
are those of its virtual matrices (R198, R206). -/
structure Prod where
  kind : Nat
  op : Nat
  dir : Nat
  acc : Bool
  aTrans : Bool
  fa : Nat
  fw : Nat
  fc : Nat
  cvt : Nat
  pleat : Nat
  zskip : Bool
  bmask : Bool
  a : Nat
  w : Nat
  c : Nat
  asb : Nat
  wsb : Nat
  m : Nat
  wk : Nat
  wn : Nat
  passM : Nat
  aS : Nat
  wS : Nat
  cS : Nat
  loA : Nat
  loP : Nat
  loO : Nat
  loH : Nat
  tp : Nat × Nat × Nat
  colT : Nat × Nat × Nat
  th : Nat × Nat × Nat
  rng : Nat
  aux : Nat
  sem : Nat
  bob : Nat
  conv : ConvP
  deriving DecidableEq, Repr

/-- The convolution fields of words 4 to 9 of R208. -/
def convOf (d : BitVec 1024) : ConvP :=
  { inW := xw d 4 0 16, inH := xw d 4 16 16, inC := xw d 4 32 16, outC := xw d 4 48 16, kh := xw d 5 0 8, kw := xw d 5 8 8,
    sy := xw d 5 16 4, sx := xw d 5 20 4, dy := xw d 5 24 3, dx := xw d 5 28 3, iy := xw d 5 32 4, ix := xw d 5 36 4,
    pt := xw d 6 0 8, pb := xw d 6 8 8, pl := xw d 6 16 8, pr := xw d 6 24 8, replicate := bitOf d.toNat 10,
    xRow := xw d 7 0 32, xPlane := xw d 7 32 32, cRow := xw d 8 0 32, cPlane := xw d 8 32 32, row0 := xw d 9 0 16,
    rows := xw d 9 16 16, inRow0 := xw d 9 32 16, inRows := xw d 9 48 16 }

/-- The output size of R199 in one dimension. -/
def outSize (inn lo hi dil k stride : Nat) : Int :=
  (((inn : Int) + lo + hi - dil * ((k : Int) - 1) - 1) / (stride : Int)) + 1

/-- The virtual input size (R198). -/
def virtSize (n idil : Nat) : Nat := (n - 1) * idil + 1

def ConvP.outH (p : ConvP) : Int := outSize (virtSize p.inH p.iy) p.pt p.pb p.dy p.kh p.sy
def ConvP.outW (p : ConvP) : Int := outSize (virtSize p.inW p.ix) p.pl p.pr p.dx p.kw p.sx

/-- Pixels of the band. -/
def ConvP.pixels (p : ConvP) : Nat := p.rows * p.outW.toNat
/-- Rows of the virtual weight matrix. -/
def ConvP.taps (p : ConvP) : Nat := p.inC * p.kh * p.kw

/-- The fields of a matrix descriptor (R95). -/
def matrixOf (d : BitVec 1024) : Prod :=
  let t := fun w => (xw d w 0 16, xw d w 16 16, xw d w 32 16)
  { kind := 0, op := xw d 0 0 8, dir := xw d 0 8 1, acc := bitOf d.toNat 9, aTrans := bitOf d.toNat 10, fa := xw d 0 12 4,
    fw := xw d 0 16 4, fc := xw d 0 20 4, cvt := xw d 0 24 8, pleat := xw d 0 32 2, zskip := bitOf d.toNat 34,
    bmask := bitOf d.toNat 35, a := xw d 1 0 48, w := xw d 2 0 48, c := xw d 3 0 48, asb := xw d 4 0 48, wsb := xw d 5 0 48,
    m := xw d 6 0 32, wk := xw d 6 32 32, wn := xw d 7 0 32, passM := xw d 7 32 13, aS := xw d 8 0 32, wS := xw d 8 32 32,
    cS := xw d 9 0 32, loA := xw d 9 32 3, loP := xw d 9 35 3, loO := xw d 9 38 3, loH := xw d 9 41 3, tp := t 10,
    colT := t 11, th := t 12, rng := xw d 13 0 48, aux := xw d 14 0 48, sem := xw d 15 0 16, bob := xw d 15 16 16,
    conv := convOf d }

/-- The product of a convolution descriptor (R198, R206, R208). -/
def convProd (d : BitVec 1024) : Prod :=
  let v := convOf d
  let grad := bitOf d.toNat 8
  let m := if grad then v.taps else v.pixels
  let wk := if grad then v.pixels else v.taps
  { matrixOf d with
    kind := if grad then 2 else 1, dir := 0, aTrans := false, pleat := 0, zskip := bitOf d.toNat 11, bmask := false,
    asb := 0, wsb := 0, m := m, wk := wk, wn := v.outC, passM := xw d 10 0 13, aS := 0, wS := xw d 10 32 32, cS := 0,
    loA := xw d 10 16 3, loP := 0, loO := 0, loH := 0, tp := (m, wk, v.outC), colT := (0, 0, 0), th := (0, 0, 0),
    rng := xw d 13 0 48, aux := 0, bob := 0xFFFF, conv := v }

namespace Prod

def fmtA (p : Prod) : Fmt := (Fmt.ofCode p.fa).getD .fp32
def fmtW (p : Prod) : Fmt := (Fmt.ofCode p.fw).getD .fp32
def fmtC (p : Prod) : Fmt := (Fmt.ofCode p.fc).getD .fp32
def isInt (p : Prod) : Bool := p.fmtA.isInt
def isMx (p : Prod) : Bool := p.fmtA.isMx
/-- Bits of an element of C; INT32 for an integer product with fmt_c 0 (R85). -/
def cBits (p : Prod) : Nat := p.fmtC.bits
/-- Lengths of the reduction and of an output row. -/
def red (p : Prod) : Nat := if p.dir = 0 then p.wk else p.wn
def out (p : Prod) : Nat := if p.dir = 0 then p.wn else p.wk
def overcast (p : Prod) : Bool := decide (p.colT ≠ (0, 0, 0))
def hbm (p : Prod) : Bool := decide (p.th ≠ (0, 0, 0))
/-- Whether a level above Pocket is used, so that staging runs (R162). -/
def tiled (p : Prod) : Bool := p.overcast || p.hbm

end Prod

/-! ### The auxiliary block and its tables (R100, R101, R110, R117, R119) -/

/-- The fields of the auxiliary block. -/
structure Aux where
  version : Nat
  branch : Nat
  maskFill : Bool
  meta' : Nat
  off : Nat
  mask : Nat
  samples : Nat
  list : Nat
  first : Nat
  capacity : Nat
  reserved : Bool
  deriving DecidableEq, Repr

def auxOf (x : Nat) : Aux :=
  let f := fun w lo len => bitsOf x (64 * w + lo) len
  { version := f 0 0 8, branch := f 0 8 6, maskFill := bitOf x 14, meta' := f 1 0 48, off := f 2 0 48, mask := f 3 0 48,
    samples := f 4 0 32, list := f 5 0 48, first := f 6 0 32, capacity := f 6 32 32,
    reserved := decide (f 0 15 49 ≠ 0 ∨ f 1 48 16 ≠ 0 ∨ f 2 48 16 ≠ 0 ∨ f 3 48 16 ≠ 0 ∨ f 4 32 32 ≠ 0 ∨ f 5 48 16 ≠ 0 ∨
      f 7 32 32 ≠ 0) }

namespace State

def auxAt (s : State) (p : Prod) : Aux := auxOf (s.natAt p.aux 64)

/-- Entry `n` of the sample table: first row, row count, branches. -/
def sampleAt (s : State) (x : Aux) (n : Nat) : Nat × Nat × Nat :=
  (s.natAt (x.mask + 16 * n) 4, s.natAt (x.mask + 16 * n + 4) 4, s.natAt (x.mask + 16 * n + 8) 8)

/-- Whether row `r` is dropped by the branch mask (R118). -/
def dropped (s : State) (p : Prod) (r : Nat) : Bool :=
  p.bmask && (
    let x := s.auxAt p
    (List.range x.samples).any (fun n =>
      let (f, k, b) := s.sampleAt x n
      decide (f ≤ r ∧ r < f + k) && !bitOf b x.branch))

/-- Entry `n` of the rows of a product: its source and destination row (R119). -/
def rowOf (s : State) (p : Prod) (n : Nat) : Nat × Nat :=
  if p.op = 0x21 then
    let x := s.auxAt p
    (s.natAt (x.list + 8 * (x.first + n)) 4, s.natAt (x.list + 8 * (x.first + n) + 4) 4)
  else (n, n)

/-- Whether entry `n` of a dispatched product overflows (R120). -/
def overflows (s : State) (p : Prod) (n : Nat) : Bool :=
  decide (p.op = 0x21) && (
    let x := s.auxAt p
    decide (x.capacity ≤ x.first + n))

/-! ### The block pleat (R110 to R113) -/

/-- Whether block (br, bc) is present. -/
def present (s : State) (p : Prod) (br bc : Nat) : Bool :=
  let i := br * (p.wn / 16) + bc
  bitOf (s.byteAt ((s.auxAt p).meta' + i / 8)).toNat (i % 8)

/-- The block rows (forward) or block columns (backward) present in strip `t`, ascending: P(s) and Q(t). -/
def stripBlocks (s : State) (p : Prod) (t : Nat) : List Nat :=
  if p.dir = 0 then
    (List.range (p.wk / 16)).filter (fun br => (List.range 8).any (fun j => decide (8 * t + j < p.wn / 16) && s.present p br (8 * t + j)))
  else
    (List.range (p.wn / 16)).filter (fun bc => (List.range 8).any (fun j => decide (8 * t + j < p.wk / 16) && s.present p (8 * t + j) bc))

/-- The eight or fewer blocks gathered into reduction tile `g` of strip `t`. -/
def groupBlocks (s : State) (p : Prod) (t g : Nat) : List Nat := ((s.stripBlocks p t).drop (8 * g)).take 8

/-- Reduction tiles of output tile `t` (R113). -/
def redTiles (s : State) (p : Prod) (t : Nat) : Nat :=
  if p.pleat = 2 then cdiv (s.stripBlocks p t).length 8 else cdiv p.red 128

end State

/-! ### Loop nests (R96, R158 to R161) -/

/-- A part of the product: rows, weight rows and weight columns, half-open. -/
structure Box where
  m0 : Nat
  m1 : Nat
  k0 : Nat
  k1 : Nat
  n0 : Nat
  n1 : Nat
  deriving DecidableEq, Repr

/-- [lo, hi) in steps of `t`. -/
def stepsOf (lo hi t : Nat) : List (Nat × Nat) :=
  if t = 0 then [(lo, hi)]
  else (List.range (cdiv (hi - lo) t)).map (fun j => (lo + j * t, min hi (lo + (j + 1) * t)))

/-- The three loops of a level from outermost to innermost (R96). -/
def nest {α β γ : Type} (code : Nat) (ms : List α) (ks : List β) (ns : List γ) : List (α × β × γ) :=
  match code with
  | 0 => ms.flatMap (fun m => ks.flatMap (fun k => ns.map (fun n => (m, k, n))))
  | 1 => ms.flatMap (fun m => ns.flatMap (fun n => ks.map (fun k => (m, k, n))))
  | 2 => ks.flatMap (fun k => ms.flatMap (fun m => ns.map (fun n => (m, k, n))))
  | 3 => ns.flatMap (fun n => ks.flatMap (fun k => ms.map (fun m => (m, k, n))))
  | 4 => ks.flatMap (fun k => ns.flatMap (fun n => ms.map (fun m => (m, k, n))))
  | _ => ns.flatMap (fun n => ms.flatMap (fun m => ks.map (fun k => (m, k, n))))

/-- The tiles of a box in a loop order. -/
def splitBox (code : Nat) (t : Nat × Nat × Nat) (b : Box) : List Box :=
  (nest code (stepsOf b.m0 b.m1 t.1) (stepsOf b.k0 b.k1 t.2.1) (stepsOf b.n0 b.n1 t.2.2)).map (fun x =>
    ⟨x.1.1, x.1.2, x.2.1.1, x.2.1.2, x.2.2.1, x.2.2.2⟩)

def times128 (t : Nat × Nat × Nat) : Nat × Nat × Nat := (128 * t.1, 128 * t.2.1, 128 * t.2.2)

namespace Prod

def whole (p : Prod) : Box := ⟨0, p.m, 0, p.wk, 0, p.wn⟩

/-- The tiles of the outermost used level, in traversal order: the units of R173. -/
def unitBoxes (p : Prod) : List Box :=
  if p.hbm then splitBox p.loH (times128 p.th) p.whole
  else if p.overcast then splitBox p.loO (times128 p.colT) p.whole
  else [p.whole]

/-- The Pocket tiles of a unit, in traversal order. -/
def pocketBoxes (p : Prod) (u : Box) : List Box :=
  (if p.hbm && p.overcast then splitBox p.loO (times128 p.colT) u else [u]).flatMap (splitBox p.loP p.tp)

/-- The reduction and output intervals of a box. -/
def redOf (p : Prod) (b : Box) : Nat × Nat := if p.dir = 0 then (b.k0, b.k1) else (b.n0, b.n1)
def outOf (p : Prod) (b : Box) : Nat × Nat := if p.dir = 0 then (b.n0, b.n1) else (b.k0, b.k1)

/-- The 128-wide output tiles of a box. -/
def outTiles (p : Prod) (b : Box) : List Nat :=
  let (lo, hi) := p.outOf b
  (List.range (cdiv hi 128 - lo / 128)).map (fun j => lo / 128 + j)

end Prod

/-- A list cut into pieces of `n`. -/
def chunksOf {α : Type} (n : Nat) (l : List α) : List (List α) :=
  (List.range (cdiv l.length (max 1 n))).map (fun j => (l.drop (j * max 1 n)).take (max 1 n))

namespace State

/-- The rows of a box that enter the array, as (source, destination): overflowed entries and dropped rows are left out
(R118, R120). -/
def rowsIn (s : State) (p : Prod) (b : Box) : List (Nat × Nat) :=
  ((List.range (b.m1 - b.m0)).map (fun j => b.m0 + j)).filterMap (fun n =>
    if s.overflows p n || s.dropped p n then none else some (s.rowOf p n))

/-- The passes of a Pocket tile in lo_array order; `entry` numbers the product within a list (R160, R168). -/
def passesOf (s : State) (p : Prod) (entry : Nat) (b : Box) (ptile : Nat) : List Pass :=
  let cut := chunksOf p.passM (s.rowsIn p b)
  let chunks := (List.range cut.length).zip cut
  let (r0, r1) := p.redOf b
  let first := r0 / 128
  let outs := (p.outTiles b).map (fun o => (o, s.redTiles p o))
  let reds := (List.range (cdiv r1 128 - first)).map (fun j => first + j)
  let mk := fun (rows : Nat × List (Nat × Nat)) (k : Nat) (o : Nat × Nat) =>
    if k < o.2 then
      [({ a := p.a, w := p.w, c := p.c, rows := rows.2, kT := k, oT := o.1,
          start := if k = first then (if k = 0 then 1 else 2) else 0,
          stop := if k + 1 = o.2 then 2 else if k + 1 = cdiv r1 128 then 1 else 0,
          tid := (entry * 2 ^ 32 + k) * 2 ^ 32 + o.1, ptile := ptile, row0 := rows.1 * p.passM } : Pass)]
    else []
  if p.dir = 0 then (nest p.loA chunks reds outs).flatMap (fun x => mk x.1 x.2.1 x.2.2)
  else (nest p.loA chunks outs reds).flatMap (fun x => mk x.1 x.2.2 x.2.1)

/-- The most output rows that are open at one time over a list of passes (R83). -/
def peakOpen (ps : List Pass) : Nat :=
  (ps.foldl (fun (st : Nat × Nat) x =>
    let now := if x.start ≠ 0 then st.1 + x.rows.length else st.1
    (if x.stop ≠ 0 then now - x.rows.length else now, max st.2 now)) (0, 0)).2

/-- Rows of a unit that are written as +0 (overflow with acc = 0, dropped samples under mask_fill), and rows of strips
without a block, each with its output tile (R113, R118, R120). -/
def fillsOf (s : State) (p : Prod) (u : Box) : List (Nat × Nat) :=
  let fill := p.bmask && (s.auxAt p).maskFill
  ((List.range (u.m1 - u.m0)).map (fun j => u.m0 + j)).flatMap (fun n =>
    if (s.overflows p n && !p.acc) || (fill && s.dropped p n) then (p.outTiles u).map (fun o => ((s.rowOf p n).2, o)) else [])

def voidsOf (s : State) (p : Prod) (u : Box) : List (Nat × Nat) :=
  if p.pleat ≠ 2 then []
  else ((p.outTiles u).filter (fun o => s.redTiles p o == 0)).flatMap (fun o => (s.rowsIn p u).map (fun r => (r.2, o)))

/-! ### Where elements lie: bit addresses; none is a zero that no read fetches -/

/-- The pixel of band index `m` and tap `k` in the input (R198, R201, R207). -/
def convCell (p : Prod) (m k : Nat) : Option Nat :=
  let v := p.conv
  let ow := max 1 v.outW.toNat
  let c := k / (v.kh * v.kw)
  let vy : Int := ((v.row0 + m / ow) * v.sy + (k / v.kw % v.kh) * v.dy : Nat) - (v.pt : Int)
  let vx : Int := ((m % ow) * v.sx + (k % v.kw) * v.dx : Nat) - (v.pl : Int)
  let at' := fun (y x : Nat) => some (8 * (p.a + c * v.xPlane + (y - v.inRow0) * v.xRow) + x * p.fmtA.bits)
  let inY := decide (0 ≤ vy ∧ vy < (virtSize v.inH v.iy : Nat))
  let inX := decide (0 ≤ vx ∧ vx < (virtSize v.inW v.ix : Nat))
  if v.replicate then at' (min (v.inH - 1) vy.toNat) (min (v.inW - 1) vx.toNat)
  else if inY && inX && vy.toNat % v.iy == 0 && vx.toNat % v.ix == 0 then at' (vy.toNat / v.iy) (vx.toNat / v.ix)
  else none

/-- The logical reduction index of position `i` of reduction tile `kT`; none beyond the matrix or in a left-over block. -/
def redIndex (s : State) (p : Prod) (kT oT i : Nat) : Option Nat :=
  if p.pleat = 2 then ((s.groupBlocks p oT kT)[i / 16]?).map (fun b => 16 * b + i % 16)
  else if 128 * kT + i < p.red then some (128 * kT + i) else none

/-- The streamed slice of a source row: 128 elements of the reduction (R73, R74, R82, R111, R112, R198, R206). -/
def aCells (s : State) (p : Prod) (x : Pass) (r : Nat) : List (Option Nat) :=
  (List.range 128).map (fun i =>
    (s.redIndex p x.kT x.oT i).bind (fun k =>
      if p.kind = 1 then convCell p r k
      else if p.kind = 2 then convCell p k r
      else if p.aTrans then some (8 * (x.a + k * p.aS) + r * p.fmtA.bits)
      else some (8 * (x.a + r * p.aS) + k * p.fmtA.bits)))

/-- The packed number of a present block (R110). -/
def blockIndex (s : State) (p : Prod) (br bc : Nat) : Nat :=
  s.natAt ((s.auxAt p).off + 4 * br) 4 + ((List.range bc).filter (s.present p br)).length

/-- The stored tile's elements by row: 128 × 128, or 64 kept rows under the 2:4 pleat (R70, R72, R103, R110, R206). -/
def wCells (s : State) (p : Prod) (x : Pass) : List (List (Option Nat)) :=
  let b := p.fmtW.bits
  let kw := if p.dir = 0 then x.kT else x.oT
  let nw := if p.dir = 0 then x.oT else x.kT
  if p.kind = 2 then
    let v := p.conv
    let ow := max 1 v.outW.toNat
    (List.range 128).map (fun i => (List.range 128).map (fun j =>
      let m := 128 * kw + i
      let c := 128 * nw + j
      if m < p.wk ∧ c < p.wn then some (8 * (p.w + c * v.cPlane + (m / ow) * v.cRow) + (m % ow) * b) else none))
  else if p.pleat = 2 then
    let blocks := s.groupBlocks p x.oT x.kT
    (List.range 128).map (fun i => (List.range 128).map (fun j =>
      let br := if p.dir = 0 then blocks[i / 16]? else (if 8 * kw + i / 16 < p.wk / 16 then some (8 * kw + i / 16) else none)
      let bc := if p.dir = 0 then (if 8 * nw + j / 16 < p.wn / 16 then some (8 * nw + j / 16) else none) else blocks[j / 16]?
      match br, bc with
      | some r, some c =>
        if s.present p r c then some (8 * x.w + (256 * s.blockIndex p r c + 16 * (i % 16) + j % 16) * b) else none
      | _, _ => none))
  else
    let n := if p.pleat = 1 then 64 else 128
    let rows := if p.pleat = 1 then p.wk / 2 else p.wk
    (List.range n).map (fun i => (List.range 128).map (fun j =>
      if n * kw + i < rows ∧ 128 * nw + j < p.wn then some (8 * (x.w + (n * kw + i) * p.wS) + (128 * nw + j) * b) else none))

/-- The elements of an output row in tile `oT` (R95, R197, R205, R206). -/
def cCells (p : Prod) (base dst oT : Nat) : List Nat :=
  let n := min 128 (p.out - 128 * oT)
  let b := p.cBits
  let v := p.conv
  let ow := max 1 v.outW.toNat
  (List.range n).map (fun j =>
    if p.kind = 1 then 8 * (base + (128 * oT + j) * v.cPlane + (dst / ow) * v.cRow) + (dst % ow) * b
    else if p.kind = 2 then 8 * (base + dst * p.wS) + (128 * oT + j) * b
    else 8 * (base + dst * p.cS) + (128 * oT + j) * b)

/-- The bytes that an element of `w` bits at a bit address touches: address and count. -/
def cellRange (w x : Nat) : Nat × Nat := (x / 8, (x + w - 1) / 8 + 1 - x / 8)

/-- The first failing access among elements of `w` bits: its status and address. -/
def cellsStatus (s : State) (e : Eng) (w : Nat) (l : List (Option Nat)) : Nat × Nat :=
  (l.findSome? (fun o => match o with
    | some x =>
      let (a, n) := cellRange w x
      match s.engReadSt e a n with
      | 0 => none
      | st => some (st, a)
    | none => none)).getD (0, 0)

/-- An element of `w` bits at a bit address. -/
def cellAt (s : State) (w x : Nat) : Nat :=
  let (a, n) := cellRange w x
  s.natAt a n / 2 ^ (x % 8) % 2 ^ w

def cellOr (s : State) (w : Nat) (o : Option Nat) : Nat :=
  match o with
  | some x => s.cellAt w x
  | none => 0

end State

/-! ### One row through a tile -/

/-- A product's element as a value, scaled under MX (R46). -/
def elemVal (f : Fmt) (scale bits : Nat) : FVal := if f.isMx then mxValue f scale bits else f.value bits

/-- The four block scales of a slice spread over its 128 positions. -/
def spread (l : List Nat) : List Nat := l.flatMap (fun x => List.replicate 32 x)

/-- Sum of FP32 values in order from +0 (R87, R88). -/
def fp32Chain (l : List W32) : W32 := l.foldl fp32Add 0
def int32Chain (l : List W32) : W32 := l.foldl (fun a b => a + b) 0

/-- Transposition of a square list of lists. -/
def transposeList {α : Type} (n : Nat) (l : List (List α)) : List (List α) :=
  (List.range n).map (fun j => l.filterMap (fun r => r[j]?))

/-- Adds one reduction step to every running sum: an FP32 rounding each (R49, R76). -/
def stepFp (acc : List W32) (terms : List FVal) : List W32 :=
  (acc.zip terms).map (fun e => toFp32 ((ofFp32 e.1).add e.2))

/-- INT32 sums (R50): exact within a pass. -/
def stepInt (acc : List W32) (terms : List FVal) : List W32 :=
  (acc.zip terms).map (fun e => match e.2 with
    | .fin n m _ => if n then e.1 - BitVec.ofNat 32 m else e.1 + BitVec.ofNat 32 m
    | _ => e.1)

/-- The weights that meet each reduction step: by row forward, by column backward (R73, R74). -/
def linesOf {α : Type} (dir : Nat) (w : List (List α)) : List (List α) := if dir = 0 then w else transposeList 128 w

/-- The operand that a kept weight selects from its group of four (R104). -/
def selected (xs : List FVal) (row : Nat) (t : Nat) : FVal := (xs[4 * (row / 2) + t]?).getD (.zero false)

/-- The products of each reduction step, one list per step: dense steps pair input k with line k; a kept row selects its
inputs by position. -/
def termsOf (p : Prod) (xs : List FVal) (lines : List (List FVal)) (pos : List (List Nat)) : List (List FVal) :=
  if p.pleat = 1 then
    ((List.range 64).zip (lines.zip pos)).map (fun e => (e.2.1.zip e.2.2).map (fun v => (selected xs e.1 v.2).mul v.1))
  else (xs.zip lines).map (fun e => e.2.map (fun v => e.1.mul v))

/-- Column sums of a block of steps, exactly (R49). -/
def sumSteps (l : List (List FVal)) : List FVal :=
  match l with
  | [] => []
  | x :: rest => rest.foldl (fun a b => (a.zip b).map (fun e => e.1.add e.2)) x

/-- The 128 results of a row: `xs` the slice's element values, `sx` its block scales, `bank` the tile (R76, R107). -/
def rowResults (p : Prod) (xs : List FVal) (sx : List Nat) (b : TileBank) : List W32 :=
  let zero : List W32 := List.replicate 128 0
  let lines := linesOf p.dir (b.vals.map (fun r => r.map p.fmtW.value))
  let terms := termsOf p xs lines b.pos
  if p.isInt then terms.foldl stepInt zero
  else if p.isMx then
    let per := if p.pleat = 1 then 16 else 32
    ((List.range 4).foldl (fun acc g =>
      let sum := sumSteps ((terms.drop (per * g)).take per)
      let sxg := (sx[g]?).getD 0x7F
      let ws := if p.dir = 0 then (b.scales[g]?).getD []
        else (List.range 128).map (fun o => (((b.scales[o / 32]?).getD [])[32 * g]?).getD 0x7F)
      stepFp acc ((sum.zip ws).map (fun e =>
        if sxg = 0xFF ∨ e.2 = 0xFF then .nan else e.1.scaleExp ((sxg : Int) + e.2 - 254)))) zero)
  else terms.foldl stepFp zero

/-- The tile's scaled weights by row. -/
def scaledTile (p : Prod) (b : TileBank) : List (List FVal) :=
  if p.isMx then
    ((List.range b.vals.length).zip b.vals).map (fun e =>
      (e.2.zip ((b.scales[(if p.pleat = 1 then 2 * e.1 else e.1) / 32]?).getD [])).map (fun v => mxValue p.fmtW v.2 v.1))
  else b.vals.map (fun r => r.map p.fmtW.value)

/-- C and A of a row: the checksum line (R88, R108). `xv` are the slice's scaled values. -/
def checksums (p : Prod) (xv : List FVal) (b : TileBank) : W32 × W32 :=
  let v := fun (w : W32) => if p.isInt then FVal.ofInt w.toInt else ofFp32 w
  let step := fun (acc : W32) (t : FVal) => ((if p.isInt then stepInt else stepFp) [acc] [t]).headD 0
  if p.pleat = 1 then
    let cells := (List.range 64).flatMap (fun i => (List.range 4).map (fun t =>
      ((selected xv i t), ((b.wc[i]?).getD [])[t]?.getD 0, ((b.ac[i]?).getD [])[t]?.getD 0)))
    (cells.foldl (fun a e => step a (e.1.mul (v e.2.1))) 0, cells.foldl (fun a e => step a (e.1.abs.mul (v e.2.2))) 0)
  else
    let w := if p.dir = 0 then b.wc.map (fun r => r.headD 0) else b.wr
    let a := if p.dir = 0 then b.ac.map (fun r => r.headD 0) else b.ar
    ((xv.zip w).foldl (fun c e => step c (e.1.mul (v e.2))) 0, (xv.zip a).foldl (fun c e => step c (e.1.abs.mul (v e.2))) 0)

/-- Gated cell operations of a row (R86). -/
def gatedOf (p : Prod) (xv : List FVal) (b : TileBank) : Nat :=
  let g := fun (x w : FVal) => (x.isZero && w.isFinite) || (w.isZero && x.isFinite)
  let t := scaledTile p b
  if p.pleat = 1 then
    ((List.range 64).zip (t.zip b.pos)).foldl (fun n e =>
      n + ((e.2.1.zip e.2.2).filter (fun v => g (selected xv e.1 v.2) v.1)).length) 0
  else (xv.zip (linesOf p.dir t)).foldl (fun n e => n + (e.2.filter (g e.1)).length) 0

/-- The checksum weights of a tile (R87, R108): w_c and a_c per row (per position under the 2:4 pleat), w_r and a_r. -/
def withChecks (p : Prod) (b : TileBank) : TileBank :=
  let t := scaledTile p b
  let sum := fun (l : List FVal) =>
    if p.isInt then (l.foldl (fun a v => (stepInt [a] [v]).headD 0) (0 : W32)) else fp32Accumulate 0 l
  let abs := fun (l : List FVal) => l.map FVal.abs
  let wc := if p.pleat = 1 then
      (t.zip b.pos).map (fun e => (List.range 4).map (fun q => sum (((e.1.zip e.2).filter (fun v => v.2 == q)).map Prod.fst)))
    else t.map (fun r => [sum r])
  let ac := if p.pleat = 1 then
      (t.zip b.pos).map (fun e => (List.range 4).map (fun q => sum (abs (((e.1.zip e.2).filter (fun v => v.2 == q)).map Prod.fst))))
    else t.map (fun r => [sum (abs r)])
  let cols := transposeList 128 t
  { b with wc := wc, ac := ac, wr := cols.map sum, ar := cols.map (fun c => sum (abs c)),
           nonfinite := t.any (fun r => r.any (fun v => !v.isFinite)) }

/-- The streamed position `k` of a row in its pass as an entry cycle after the first (R74, R78, R105). -/
def entryCycle (p : Prod) (k : Nat) : Nat :=
  let w := max p.fmtA.bits p.fmtW.bits
  let narrow := decide (p.fmtA.bits = 4 ∧ p.fmtW.bits = 4)
  if p.pleat = 1 then (if narrow then k / 4 else if w = 16 then 2 * (k / 2) else k / 2)
  else if w = 32 then 16 * k else if w = 16 then 2 * k else if narrow then k / 2 else k

end Sys2Proof.Machine
end

