-- ==== Sys2Proof/Machine/Array.lean ====
section
/-! DEFINITION. The matrix array: the checks of a descriptor (R97, R100, R125, R159, R162, R163, R167, R175), its units and
passes, loads, drains, the Selvage and its retry (R71 to R94), staging (R162 to R166). -/
namespace Sys2Proof.Machine
namespace State

/-! ### Identities -/

/-- The engine identity of a matrix-class item. -/
def mxEng (c : Nat) (it : MxItem) : Eng := engOf it.owner (some it.snap) (uCore c)

def pocketOf (c : Nat) : Nat := 0x11000000000 + c * 0x2000000

/-- Whether a range lies in a core's own mapped Pocket. -/
def inPocket (c a n : Nat) : Bool := decide (pocketOf c ≤ a ∧ a + n ≤ pocketOf c + 0x1800000)

/-- The fields of entry `n` of a pointer list (R167). -/
def listEntry (s : State) (p : Prod) (n : Nat) : Nat × Nat × Nat × Nat :=
  (s.natAt (p.aux + 32 * n) 8, s.natAt (p.aux + 32 * n + 8) 8, s.natAt (p.aux + 32 * n + 16) 8, s.natAt (p.aux + 32 * n + 24) 8)

/-- The product of list entry `n` (R168). -/
def entryProd (s : State) (p : Prod) (n : Nat) : Prod :=
  let (a, w, c, m) := s.listEntry p n
  { p with a := a % 2 ^ 48, w := w % 2 ^ 48, c := c % 2 ^ 48, m := m % 2 ^ 32, aux := 0 }

def prodOfItem (it : MxItem) : Prod := if xw it.desc 0 0 8 = 0x24 then convProd it.desc else matrixOf it.desc

/-- The product that unit `u` of a descriptor belongs to. -/
def unitProd (s : State) (it : MxItem) (u : Nat) : Prod :=
  let p := prodOfItem it
  if p.op = 0x22 then s.entryProd p u else p

/-- How many units a descriptor has (R173); an undivided product runs as one. -/
def unitCount (p : Prod) : Nat :=
  if p.op = 0x22 then p.m else if p.bob = 0xFFFF then 1 else p.unitBoxes.length

/-- The parts of a unit: one tile of the outermost level, a whole list entry, or the whole product. -/
def unitParts (s : State) (it : MxItem) (u : Nat) : List Box :=
  let p := s.unitProd it u
  if p.op = 0x22 ∨ p.bob = 0xFFFF then p.unitBoxes else (p.unitBoxes[u]?).toList

/-! ### Staged operands (R162, R163) -/

/-- Whether operand `op` (0 A, 1 W, 2 C) is staged. -/
def isStaged (c : Nat) (p : Prod) (op : Nat) : Bool :=
  p.tiled && !inPocket c (if op = 0 then p.a else if op = 1 then p.w else p.c) 1

/-- A product whose reduction spans Pocket tiles (R83). -/
def spansPocket (s : State) (p : Prod) : Bool :=
  let t := if p.dir = 0 then p.tp.2.1 else p.tp.2.2
  if p.pleat = 2 then (p.outTiles p.whole).any (fun o => decide (cdiv t 128 < s.redTiles p o)) else decide (t < p.red)

def round4k (n : Nat) : Nat := 4096 * cdiv n 4096

/-- Bytes of the staging buffers that a descriptor needs (R163). -/
def stageBytes (s : State) (c : Nat) (p : Prod) : Nat :=
  let (tm, tk, tn) := p.tp
  let r := if p.dir = 0 then tk else tn
  let o := if p.dir = 0 then tn else tk
  let a := cdiv (tm * r * p.fmtA.bits) 8 + (if p.isMx then cdiv (tm * r) 32 else 0)
  let w := cdiv (tk * tn * p.fmtW.bits) (if p.pleat = 1 then 16 else 8) + (if p.isMx then cdiv (tk * tn) 32 else 0) +
    (if p.pleat = 1 then cdiv (tk * tn) 8 else if p.pleat = 2 then cdiv (tk * tn) 2048 else 0)
  let cb := cdiv (tm * o * (if s.spansPocket p then 32 else p.cBits)) 8
  (if isStaged c p 0 then 2 * round4k a else 0) + (if isStaged c p 1 then 2 * round4k w else 0) +
    (if isStaged c p 2 then 2 * round4k cb else 0)

/-- The staging region cannot hold a descriptor's buffers (R163). -/
def stageBad (s : State) (c : Nat) (p : Prod) : Bool :=
  let need := s.stageBytes c p
  let base := s.fld (R.CORE_STG_REGION c) F.CORE_STG_REGION_base / 4096 * 4096
  let size := 4096 * s.fld (R.CORE_STG_REGION c) F.CORE_STG_REGION_size
  decide (0 < need) && (decide (size < need) || !inPocket c base size)

/-! ### Checks before any pass -/

/-- A level's tile: wholly used or wholly unused (R159). -/
def levelOk (t : Nat × Nat × Nat) : Bool := decide (t = (0, 0, 0) ∨ (t.1 ≠ 0 ∧ t.2.1 ≠ 0 ∧ t.2.2 ≠ 0))

/-- A tile is a multiple of the next lower one or covers the dimension (R159). -/
def tileNests (dim hi lo : Nat) : Bool := decide (lo ≠ 0) && (decide (hi % lo = 0) || decide (dim ≤ hi))

def nests (p : Prod) (hi lo : Nat × Nat × Nat) : Bool :=
  tileNests p.m hi.1 lo.1 && tileNests p.wk hi.2.1 lo.2.1 && tileNests p.wn hi.2.2 lo.2.2

def tilesOk (p : Prod) : Bool :=
  let (tm, tk, tn) := p.tp
  let o := times128 p.colT
  let h := times128 p.th
  decide (tm ≠ 0 ∧ tk ≠ 0 ∧ tn ≠ 0) && (decide (tk % 128 = 0) || decide (p.wk ≤ tk)) &&
  (decide (tn % 128 = 0) || decide (p.wn ≤ tn)) && levelOk p.colT && levelOk p.th &&
  (!p.overcast || nests p o p.tp) && (!p.hbm || nests p h (if p.overcast then o else p.tp))

/-- Reserved bits of a matrix descriptor (R95). -/
def matrixReserved (d : BitVec 1024) : Bool :=
  decide (xw d 0 11 1 ≠ 0 ∨ xw d 0 36 28 ≠ 0 ∨ xw d 7 45 19 ≠ 0 ∨ xw d 9 44 20 ≠ 0 ∨ xw d 15 32 32 ≠ 0) ||
  [1, 2, 3, 4, 5, 10, 11, 12, 13, 14].any (fun w => decide (xw d w 48 16 ≠ 0))

/-- Formats and conversion byte (R40, R45, R48, R54, R85). -/
def fmtsBad (p : Prod) : Bool :=
  match Fmt.ofCode p.fa, Fmt.ofCode p.fw, Fmt.ofCode p.fc with
  | some a, some w, some c =>
    a.isInt != w.isInt || a.isMx != w.isMx || (a.isMx && decide (p.red % 32 ≠ 0 ∨ p.wk % 32 ≠ 0)) ||
    (if a.isInt then !decide (p.fc = 0 ∨ p.fc = 11 ∨ p.fc = 12) else c.isMx) || (Cvt.check p.cvt c).isNone
  | _, _, _ => true

/-- Whether a product needs the auxiliary block (R100). -/
def needsAux (p : Prod) : Bool := decide (p.kind = 0) && (decide (p.pleat ≠ 0) || p.bmask || decide (p.op = 0x21))

/-- Bytes from a base to the end of `n` lines of `bits` bits. -/
def spanOf (base n stride bits : Nat) : Nat × Nat := (base, base + (n - 1) * stride + cdiv bits 8)

/-- The half-open ranges that a product reads, and that of C (R94, R102, R209). -/
def cRange (s : State) (p : Prod) : Nat × Nat :=
  let v := p.conv
  let ow := v.outW.toNat
  if p.kind = 1 then (p.c, p.c + (v.outC - 1) * v.cPlane + (v.rows - 1) * v.cRow + cdiv (ow * p.cBits) 8)
  else if p.kind = 2 then spanOf p.c p.m p.wS (p.wn * p.cBits)
  else if p.op = 0x21 then
    let ds := (List.range p.m).map (fun n => (s.rowOf p n).2)
    let lo := ds.foldl min (ds.headD 0)
    let hi := ds.foldl max 0
    (p.c + lo * p.cS, p.c + hi * p.cS + cdiv (p.out * p.cBits) 8)
  else spanOf p.c p.m p.cS (p.out * p.cBits)

def readRanges (s : State) (p : Prod) : List (Nat × Nat) :=
  let v := p.conv
  let ow := v.outW.toNat
  if p.kind ≠ 0 then
    [(p.a, p.a + (v.inC - 1) * v.xPlane + (v.inRows - 1) * v.xRow + cdiv (v.inW * p.fmtA.bits) 8),
     if p.kind = 2 then (p.w, p.w + (v.outC - 1) * v.cPlane + (v.rows - 1) * v.cRow + cdiv (ow * p.fmtW.bits) 8)
     else spanOf p.w p.wk p.wS (p.wn * p.fmtW.bits)]
  else
    let x := s.auxAt p
    let rows := if p.op = 0x21 then (List.range p.m).map (fun n => (s.rowOf p n).1) else [p.m - 1]
    let top := rows.foldl max 0 + 1
    let lo := if p.op = 0x21 then rows.foldl min (rows.headD 0) else 0
    let a := if p.aTrans then (p.a, p.a + (p.red - 1) * p.aS + cdiv (top * p.fmtA.bits) 8)
      else (p.a + lo * p.aS, p.a + (top - 1) * p.aS + cdiv (p.red * p.fmtA.bits) 8)
    let blocks := s.natAt (x.off + 4 * (p.wk / 16)) 4
    let w := if p.pleat = 2 then (p.w, p.w + blocks * 32 * p.fmtW.bits)
      else spanOf p.w (if p.pleat = 1 then p.wk / 2 else p.wk) p.wS (p.wn * p.fmtW.bits)
    [a, w] ++
    (if p.isMx then [(p.asb, p.asb + top * (p.red / 32)), (p.wsb, p.wsb + p.wk / 32 * p.wn)] else []) ++
    (if needsAux p then [(p.aux, p.aux + 56)] else []) ++
    (if p.pleat = 1 then [(x.meta', x.meta' + cdiv (p.wk / 2 * p.wn) 4)] else []) ++
    (if p.pleat = 2 then [(x.meta', x.meta' + cdiv (p.wk / 16 * (p.wn / 16)) 8), (x.off, x.off + 4 * (p.wk / 16 + 1))] else []) ++
    (if p.bmask then [(x.mask, x.mask + 16 * x.samples)] else []) ++
    (if p.op = 0x21 then [(x.list + 8 * x.first, x.list + 8 * (x.first + p.m))] else [])

def overlaps (a b : Nat × Nat) : Bool := decide (a.1 < b.2 ∧ b.1 < a.2)

/-- The sample table is not in ascending order, overlaps or leaves the rows (R117). -/
def samplesBad (s : State) (p : Prod) : Bool :=
  let x := s.auxAt p
  decide (65536 < x.samples) || !((List.range x.samples).foldl (fun (st : Bool × Nat) n =>
    let (f, k, _) := s.sampleAt x n
    (st.1 && decide (st.2 ≤ f ∧ f + k ≤ p.m), f + k)) (true, 0)).1

/-- The tables that the checks read: their ranges. -/
def tableRanges (s : State) (p : Prod) : List (Nat × Nat) :=
  if needsAux p then
    let x := s.auxAt p
    (if p.bmask then [(x.mask, 16 * x.samples)] else []) ++
    (if p.pleat = 2 then [(x.meta', cdiv (p.wk / 16 * (p.wn / 16)) 8)] else []) ++
    (if p.op = 0x21 then [(x.list + 8 * x.first, 8 * p.m)] else [])
  else []

/-- The first failing read of a list of ranges. -/
def rangesStatus (s : State) (e : Eng) (l : List (Nat × Nat)) : Nat × Nat :=
  (l.findSome? (fun r => match s.engReadSt e r.1 r.2 with
    | 0 => none
    | st => some (st, r.1))).getD (0, 0)

/-- The field checks of one product (R83, R85, R97, R109, R114, R125, R159, R162, R163): BAD_FIELD or OK. -/
def productBad (s : State) (c : Nat) (p : Prod) : Bool :=
  let deep := fun a => decide (0x8000000000 ≤ a ∧ a < 0x10000000000)
  decide (p.m = 0 ∨ p.wk = 0 ∨ p.wn = 0 ∨ p.passM = 0 ∨ 4096 < p.passM) || !tilesOk p ||
  (!p.tiled && !(inPocket c p.a 1 && inPocket c p.w 1 && inPocket c p.c 1)) ||
  (p.tiled && (deep p.a || deep p.w || deep p.c || (p.isMx && (deep p.asb || deep p.wsb)))) ||
  s.stageBad c p || (s.spansPocket p && (decide (p.fc ≠ 0) || p.acc)) ||
  (s.readRanges p).any (overlaps (s.cRange p)) ||
  (p.unitBoxes.flatMap p.pocketBoxes).any (fun b => decide (512 < peakOpen (s.passesOf p 0 b 0)))

/-- The checks of a matrix-class product at its start (R97, R100, R125, R167, R169, R174, R175, R414), in the order BAD_FIELD,
failing table reads, BOBBIN_FOREIGN, SEM_FOREIGN: status and address. -/
def matrixCheck (s : State) (c : Nat) (it : MxItem) : Nat × Nat :=
  let d := it.desc
  let p := matrixOf d
  let e := mxEng c it
  let basic := matrixReserved d || decide (p.pleat = 3 ∨ 5 < p.loA ∨ 5 < p.loP ∨ 5 < p.loO ∨ 5 < p.loH) || fmtsBad p ||
    decide (p.m = 0 ∨ p.wk = 0 ∨ p.wn = 0) ||
    (p.pleat == 1 && decide (p.dir = 1 ∨ p.fw = 0 ∨ p.wk % 4 ≠ 0)) ||
    (p.pleat == 2 && (decide (p.wk % 16 ≠ 0 ∨ p.wn % 16 ≠ 0) || p.isMx)) || (p.bmask && p.op == 0x21) ||
    (needsAux p && decide (p.aux = 0 ∨ p.aux % 64 ≠ 0)) ||
    (p.op == 0x22 && (decide (4096 < p.m ∨ p.a ≠ 0 ∨ p.w ≠ 0 ∨ p.c ≠ 0 ∨ p.asb ≠ 0 ∨ p.wsb ≠ 0 ∨ p.pleat ≠ 0 ∨ p.aux % 32 ≠ 0) ||
      p.bmask || p.isMx)) ||
    (p.bob != 0xFFFF && (decide (p.bob % 2 = 1) || (!p.tiled && p.op != 0x22) ||
      (p.op != 0x22 && p.unitBoxes.any (fun b => decide (b.k0 ≠ 0 ∨ b.k1 ≠ p.wk)))))
  if basic then (0x02, 0)
  else if needsAux p && s.engReadSt e p.aux 64 != 0 then (s.engReadSt e p.aux 64, p.aux)
  else if needsAux p && (decide ((s.auxAt p).version ≠ 1) || (s.auxAt p).reserved) then (0x02, 0)
  else if p.op = 0x22 ∧ s.engReadSt e p.aux (32 * p.m) ≠ 0 then (s.engReadSt e p.aux (32 * p.m), p.aux)
  else match s.rangesStatus e (s.tableRanges p) with
    | (0, _) =>
      if p.bmask && s.samplesBad p then (0x02, 0)
      else if p.op ≠ 0x22 ∧ s.productBad c p then (0x02, 0)
      else
        let owned := match it.owner.inst with
          | some i => s.ownsBob i.val p.bob && s.ownsBob i.val (p.bob + 1)
          | none => false
        if p.bob ≠ 0xFFFF ∧ !owned then (0x1C, 0)
        else if s.semForeign (instOf it.owner) p.sem then (0x65, 0)
        else (0, 0)
    | r => r

/-! ### Ending -/

/-- A matrix-class item ends: the first status other than OK is kept until collected; its done_sem is released (R36,
R151). -/
def recordMx (s : State) (c : Nat) (it : MxItem) (st : Nat) : State :=
  let k := s.core c
  have s := if st ≠ 0 ∧ k.mxStatus = 0 then s.setCore c { k with mxStatus := st } else s
  match it.owner.inst with
  | some i =>
    if st = 0x65 then s
    else match (if h : c < 128 then some (⟨c, h⟩ : CoreId) else none) with
      | some cc => s.doneSem (xw it.desc 15 0 16) (.core cc) i.val it.owner.gen
      | none => s
  | none => s

def arr (s : State) (c : Nat) : ArrState := (s.core c).arr
def setArr (s : State) (c : Nat) (a : ArrState) : State := s.setCore c { s.core c with arr := a }
def setJob (s : State) (c : Nat) (j : ArrJob) : State := s.setArr c { s.arr c with job := some j }

/-- The companion counter rises by one (R174). -/
def companion (s : State) (c : Nat) (p : Prod) : State :=
  if p.bob = 0xFFFF then s else (s.bobAdd (p.bob + 1) 1 (some c)).2

/-- The active product ends with a status: units drawn and not finished raise the companion, overflowed entries are
added (R121, R174), what the array holds of it is discarded, and the descriptors that its abort took end with it. -/
def endJob (s : State) (c : Nat) (j : ArrJob) (st : Nat) : State :=
  let p := prodOfItem j.item
  have s := if st ≠ 0 ∧ j.unit < j.units then s.companion c p else s
  have s := if st ≠ 0 ∧ (j.nextUnit.map (fun u => decide (u < j.units))).getD false then s.companion c p else s
  have s := if p.op = 0x21 ∧ j.overflow ≠ 0 then
      have s := s.addSat (R.CORE_EXP_OVERFLOW c) j.overflow
      if s.engWriteSt { mxEng c j.item with snap := none } (p.aux + 56) 4 = 0 then (s.reduceAt 4 4 0 (p.aux + 56) [j.overflow]).2 else s
    else s
  have s := s.setArr c { s.arr c with job := none, sums := [] }
  have s := (s.setFld (R.CORE_ARR_STATUS c) F.CORE_ARR_STATUS_busy 0).setFld (R.CORE_ARR_STATUS c) F.CORE_ARR_STATUS_retry_active 0
  have s := if p.kind = 0 then s else s.setReg (R.CORE_CWU_STATUS c) 0
  have s := s.recordMx c j.item st
  j.dropped.foldl (fun s it => s.recordMx c it 0x06) s

/-- A failing access ends the active product. -/
def failJob (s : State) (c : Nat) (j : ArrJob) (st a : Nat) : State := (s.engFail (mxEng c j.item) st a).endJob c j st

/-! ### C (R84, R85, R90, R165) -/

/-- A byte of C as the drain sees it: a staged one first. -/
def cByte (s : State) (j : ArrJob) (a : Nat) : Byte :=
  match j.cBufs.findSome? (fun b => (b.2.find? (fun e => e.1 == a)).map Prod.snd) with
  | some v => v
  | none => s.byteAt a

def cAt (s : State) (j : ArrJob) (w x : Nat) : Nat :=
  let (a, n) := cellRange w x
  natOfBytes ((List.range n).map (fun i => s.cByte j (a + i))) / 2 ^ (x % 8) % 2 ^ w

/-- The bytes that elements of `w` bits at bit addresses make: whole bytes, or nibbles joined with what stands there. -/
def cellBytes (s : State) (j : ArrJob) (w : Nat) (l : List (Nat × Nat)) : List Host.Cell :=
  l.foldl (fun (acc : List Host.Cell) e =>
    if w % 8 = 0 then acc ++ (((List.range (w / 8)).zip (bytesOf e.2 (w / 8))).map (fun b => (e.1 / 8 + b.1, b.2)))
    else
      let a := e.1 / 8
      let old := ((acc.find? (fun b => b.1 == a)).map Prod.snd).getD (s.cByte j a)
      let new := BitVec.ofNat 8 (old.toNat - old.toNat / 2 ^ (e.1 % 8) % 2 ^ w * 2 ^ (e.1 % 8) + e.2 % 2 ^ w * 2 ^ (e.1 % 8))
      acc.filter (fun b => b.1 != a) ++ [(a, new)]) []

/-- The first failing write among cells. -/
def writesStatus (s : State) (e : Eng) (w : Nat) (l : List Nat) : Nat × Nat :=
  (l.findSome? (fun x =>
    let (a, n) := cellRange w x
    match s.engWriteSt e a n with
    | 0 => none
    | st => some (st, a))).getD (0, 0)

/-- Elements of C written: into the C buffer of the pass's Pocket tile when C is staged, else at their home. -/
def putC (s : State) (c : Nat) (j : ArrJob) (p : Prod) (ptile : Nat) (l : List (Nat × Nat)) : Nat × Nat × ArrJob × State :=
  if isStaged c p 2 then
    let new := s.cellBytes j p.cBits l
    let mine := ((j.cBufs.find? (fun b => b.1 == ptile)).map Prod.snd).getD []
    let kept := mine.filter (fun e => !new.any (fun b => b.1 == e.1))
    (0, 0, { j with cBufs := j.cBufs.filter (fun b => b.1 != ptile) ++ [(ptile, kept ++ new)] }, s)
  else match s.writesStatus (mxEng c j.item) p.cBits (l.map Prod.fst) with
    | (0, _) => (0, 0, j, (s.cellBytes j p.cBits l).foldl (fun s e => s.putBytes e.1 [e.2]) s)
    | (st, a) => (st, a, j, s)

/-- The value of an element of C as an addend of the drain (R84). -/
def cValue (p : Prod) (bits : Nat) : W32 :=
  if p.isInt then BitVec.ofInt 32 (signedOf p.cBits bits) else toFp32 (p.fmtC.value bits)

/-- One addition in the drain: FP32, or INT32 with saturation (R50, R84). -/
def drainAdd (p : Prod) (a b : W32) : W32 × Bool :=
  if p.isInt then
    let (z, sat) := satInt32 (a.toInt + b.toInt)
    (BitVec.ofInt 32 z, sat)
  else (fp32Add a b, false)

/-- Two rows added; and whether an INT32 sum saturated. -/
def addRows (p : Prod) (a b : List W32) : List W32 × Bool :=
  let l := (a.zip b).map (fun e => drainAdd p e.1 e.2)
  (l.map Prod.fst, l.any Prod.snd)

/-- The output conversion of one value (R85). -/
def convertC (s : State) (c : Nat) (p : Prod) (base x : Nat) (v : W32) : Nat × FpEv :=
  if p.isInt then
    if p.fc = 0 then (v.toNat, {}) else cvtInt p.cBits (FVal.ofInt v.toInt)
  else
    let addr := if p.rng = 0 then x / 8 else p.rng + (x / 8 - base)
    let b := (Cvt.check p.cvt p.fmtC).getD ⟨false, 0, 0⟩
    cvtElem p.fmtC b (randomOf (s.reg (R.CORE_RNG_SEED c)).toNat (s.reg (R.CORE_RNG_STEP c)).toNat b.stream
      (max 1 (p.cBits / 8)) addr) (ofFp32 v)

/-- A row's finished sum is converted and written (R84, R85): status and address of a failing access. -/
def writeRow (s : State) (c : Nat) (j : ArrJob) (p : Prod) (x : Pass) (dst : Nat) (sum : List W32) (final : Bool) :
    Nat × Nat × ArrJob × State :=
  let cells := cCells p x.c dst x.oT
  let e := mxEng c j.item
  let (st, a) := if final && p.acc then s.cellsStatus e p.cBits (cells.map some) else (0, 0)
  if st ≠ 0 then (st, a, j, s)
  else
    let (vals, sat) := if final && p.acc then addRows p (sum.take cells.length) (cells.map (fun q => cValue p (s.cAt j p.cBits q)))
      else (sum.take cells.length, false)
    let conv := if final then (cells.zip vals).map (fun q => s.convertC c p x.c q.1 q.2)
      else vals.map (fun v => (v.toNat, ({} : FpEv)))
    have s := if sat then s.fpEvent c 0 { intSat := true } else s
    have s := if !p.isInt && vals.any fp32NonFinite then s.fpEvent c 0 { nonfinite := true } else s
    have s := s.fpEvent c 3 (FpEv.joinAll (conv.map Prod.snd))
    s.putC c j p x.ptile (cells.zip (conv.map Prod.fst))

def openKey (a : ArrState) (k : Nat × Nat) : List W32 := ((a.sums.find? (fun e => e.1 == k)).map Prod.snd).getD []
def dropKey (a : ArrState) (k : Nat × Nat) : ArrState := { a with sums := a.sums.filter (fun e => e.1 != k) }

/-- A row's results join their sum (R83, R84): fresh, from the partials in C, or the open sum; at the last pass of its
Pocket tile or of the sum it is written. -/
def accumulate (s : State) (c : Nat) (j : ArrJob) (p : Prod) (x : Pass) (dst : Nat) (res : List W32) :
    Nat × Nat × ArrJob × State :=
  let key := (x.row0 + j.row, x.oT)
  let cells := cCells p x.c dst x.oT
  let (st, a) := if x.start = 2 then s.cellsStatus (mxEng c j.item) p.cBits (cells.map some) else (0, 0)
  if st ≠ 0 then (st, a, j, s)
  else
    let pad := fun (l : List W32) => l ++ List.replicate (128 - l.length) 0
    let (sum, sat) := match x.start with
      | 1 => (res, false)
      | 2 => addRows p (pad (cells.map (fun q => cValue p (s.cAt j p.cBits q)))) res
      | _ => addRows p (pad (openKey (s.arr c) key)) res
    have s := if sat then s.fpEvent c 0 { intSat := true } else s
    have s := s.setArr c (dropKey (s.arr c) key)
    if x.stop = 0 then (0, 0, j, s.setArr c { s.arr c with sums := (key, sum) :: (s.arr c).sums })
    else s.writeRow c j p x dst sum (x.stop == 2)

/-! ### Units (R160, R168, R173) -/

/-- Next draw of a divided descriptor: a fetch-and-add of 1 (R173). -/
def drawUnit (s : State) (c : Nat) (p : Prod) : Nat × State := s.bobAdd p.bob 1 (some c)

/-- The rows that a unit writes without a pass: +0 rows, then rows of strips without a block (R113, R118, R120). -/
def finishUnit (s : State) (c : Nat) (j : ArrJob) : Nat × Nat × State :=
  let p := s.unitProd j.item j.unit
  let row : Nat → Pass := fun o =>
    { a := p.a, w := p.w, c := p.c, rows := [], kT := 0, oT := o, start := 1, stop := 2, tid := 0, ptile := 0,
      row0 := 0 }
  let home := { p with colT := (0, 0, 0), th := (0, 0, 0) }
  let zeros : List W32 := List.replicate 128 0
  let r := j.fills.foldl (fun (st : Nat × Nat × State) f =>
    if st.1 ≠ 0 then st
    else
      let cells := cCells p p.c f.1 f.2
      let (code, a, _, s) := st.2.2.putC c j home 0 (cells.map (fun q => (q, 0)))
      (code, a, s)) (0, 0, s)
  let r := j.voids.foldl (fun (st : Nat × Nat × State) f =>
    if st.1 ≠ 0 then st
    else
      let (code, a, _, s) := st.2.2.writeRow c j home (row f.2) f.1 zeros true
      (code, a, s)) r
  (r.1, r.2.1, if r.1 = 0 then r.2.2.companion c p else r.2.2)

/-- The fields of a job for its unit `u`. -/
def loadUnit (s : State) (j : ArrJob) (u : Nat) : ArrJob :=
  let p := s.unitProd j.item u
  let parts := s.unitParts j.item u
  let boxes := parts.flatMap p.pocketBoxes
  let passes := ((List.range boxes.length).zip boxes).flatMap (fun e => s.passesOf p (if p.op = 0x22 then u else 0) e.2 e.1)
  let n := if p.op = 0x21 then (parts.map (fun b => if (p.outOf b).1 = 0
    then ((List.range (b.m1 - b.m0)).filter (fun k => s.overflows p (b.m0 + k))).length else 0)).sum else 0
  let j := { j with unit := u, nextUnit := none, passes := passes, ptiles := boxes.length, cur := 0, entered := false }
  let j := { j with row := 0, stopAt := none, attempt := 0, mismatched := [], failed := false }
  { j with fills := parts.flatMap (s.fillsOf p), voids := parts.flatMap (s.voidsOf p), overflow := j.overflow + n,
           stagedTo := 0, cBufs := [], linesTo := 0 }

/-- Units from `u` on: one with passes becomes the active one; one without is finished at once; past the last the product
ends with OK. A list entry is checked when it is reached (R168); one of no rows is skipped. -/
def runUnits : Nat → State → Nat → ArrJob → Nat → State
  | 0, s, c, j, _ => s.endJob c j 0
  | fuel + 1, s, c, j, u =>
    let p := s.unitProd j.item u
    if u ≥ j.units then s.endJob c { j with unit := u } 0
    else if p.op = 0x22 ∧ (let (a, w, x, m) := s.listEntry (prodOfItem j.item) u
        (decide (2 ^ 48 ≤ a ∨ 2 ^ 48 ≤ w ∨ 2 ^ 48 ≤ x ∨ 2 ^ 32 ≤ m) || (decide (p.m ≠ 0) && s.productBad c p)) = true) then
      s.endJob c { j with unit := u, nextUnit := none } 0x02
    else
      let j := s.loadUnit j u
      if !j.passes.isEmpty then s.setJob c j
      else match s.finishUnit c j with
        | (0, _, s) =>
          let (u', s) := if p.bob = 0xFFFF then (u + 1, s) else s.drawUnit c p
          runUnits fuel s c j u'
        | (st, a, s) => (s.engFail (mxEng c j.item) st a).endJob c j st

/-- The running unit's passes and write-backs are over: its other rows are written, and the next unit runs. -/
def closeUnit (s : State) (c : Nat) (j : ArrJob) : State :=
  let p := prodOfItem j.item
  match s.finishUnit c j with
  | (0, _, s) =>
    let (u, s) := if p.bob = 0xFFFF then (j.unit + 1, s) else match j.nextUnit with
      | some u => (u, s)
      | none => s.drawUnit c p
    runUnits (j.units + 1) s c j u
  | (st, a, s) => s.failJob c j st a

/-- A product that passed its checks becomes active (R146, R173): the dropped rows are counted, the first unit runs. -/
def startJob (s : State) (c : Nat) (it : MxItem) : State :=
  let p := prodOfItem it
  let j : ArrJob :=
    { item := it, units := unitCount p, unit := 0, nextUnit := none, passes := [], ptiles := 0, cur := 0, passNo := 0,
      entered := false, row := 0, stopAt := none, attempt := 0, mismatched := [], failed := false, fills := [], voids := [],
      overflow := 0, staged := [], stagedTo := 0, cBufs := [], linesTo := 0, abortAt := none, dropped := [] }
  have s := s.setFld (R.CORE_ARR_STATUS c) F.CORE_ARR_STATUS_busy 1
  have s := s.setArr c { s.arr c with job := some j, bank0 := none, bank1 := none, sums := [] }
  have s := if p.bmask then s.add64 (R.CORE_SKIP_MASK_ROWS c) ((List.range p.m).filter (s.dropped p)).length else s
  let (u, s) := if p.bob = 0xFFFF then (0, s) else s.drawUnit c p
  runUnits (j.units + 1) s c j u

/-- The descriptor at the head of the matrix queue, when nothing is active (R146). -/
def headMx (s : State) (c : Nat) : Option MxItem :=
  let k := s.core c
  if k.arr.job.isNone && k.arr.attn.isNone then k.mxq.head? else none

/-- The head of the matrix queue leaves it. -/
def popMx (s : State) (c : Nat) : State := s.setCore c { s.core c with mxq := (s.core c).mxq.drop 1 }

/-- A queued item whose instance has been reset is discarded (R156). -/
def oldMx (s : State) (it : MxItem) : Bool := s.oldOwner it.owner

/-- A product descriptor of opcode `op` at the head starts or ends by its checks. -/
def startProduct (s : State) (c : Nat) (it : MxItem) : State :=
  have s := s.popMx c
  if s.oldMx it then s
  else match s.matrixCheck c it with
    | (0, _) => s.startJob c it
    | (st, a) => (s.engFail (mxEng c it) st a).recordMx c it st

/-! ### Loads (R71, R72, R77, R79, R87, R103, R110) -/

def bank (a : ArrState) (k : Nat) : Option TileBank := if k % 2 = 0 then a.bank0 else a.bank1
def setBank (a : ArrState) (k : Nat) (b : TileBank) : ArrState :=
  if k % 2 = 0 then { a with bank0 := some b } else { a with bank1 := some b }

/-- The 2:4 positions of a tile; a position beyond the matrix is its row's parity. -/
def tilePos (s : State) (p : Prod) (x : Pass) : List (List Nat) :=
  if p.pleat = 1 then
    (List.range 64).map (fun i => (List.range 128).map (fun q =>
      let r := 64 * x.kT + i
      let col := 128 * x.oT + q
      if r < p.wk / 2 ∧ col < p.wn then
        let n := r * p.wn + col
        bitsOf (s.byteAt ((s.auxAt p).meta' + n / 4)).toNat (2 * (n % 4)) 2
      else i % 2))
  else []

/-- The block scales of a tile: four rows of 128; 1 beyond the matrix (R45). -/
def tileScales (s : State) (p : Prod) (x : Pass) : List (List Nat) :=
  if p.isMx then
    let kw := if p.dir = 0 then x.kT else x.oT
    let nw := if p.dir = 0 then x.oT else x.kT
    (List.range 4).map (fun g => (List.range 128).map (fun q =>
      if 4 * kw + g < p.wk / 32 ∧ 128 * nw + q < p.wn then (s.byteAt (p.wsb + (4 * kw + g) * p.wn + 128 * nw + q)).toNat else 0x7F))
  else []

/-- The 2:4 positions of every group rise (R103). -/
def posOk (pos : List (List Nat)) : Bool :=
  (List.range 32).all (fun g => (((pos[2 * g]?).getD []).zip ((pos[2 * g + 1]?).getD [])).all (fun e => decide (e.1 < e.2)))

/-- The block rows that a tile's load uses, and whether their offsets agree with the bitmap (R110). -/
def offsetsOk (s : State) (p : Prod) (x : Pass) : Bool :=
  let rows := if p.dir = 0 then s.groupBlocks p x.oT x.kT
    else ((List.range 8).map (fun b => 8 * x.oT + b)).filter (fun r => decide (r < p.wk / 16))
  rows.all (fun r => decide (s.natAt ((s.auxAt p).off + 4 * (r + 1)) 4 =
    s.natAt ((s.auxAt p).off + 4 * r) 4 + ((List.range (p.wn / 16)).filter (s.present p r)).length))

/-- MX scales of a backward pass are equal over every 32 columns (R77). -/
def squareOk (sc : List (List Nat)) : Bool :=
  sc.all (fun r => (List.range 128).all (fun q => decide (r[q]? = r[32 * (q / 32)]?)))

/-- Reads that a tile's load makes beside its elements: scales, positions, offsets. -/
def tileRanges (s : State) (p : Prod) (x : Pass) : List (Nat × Nat) :=
  let kw := if p.dir = 0 then x.kT else x.oT
  let nw := if p.dir = 0 then x.oT else x.kT
  (if p.isMx then (List.range (min 4 (p.wk / 32 - 4 * kw))).map (fun g =>
    (p.wsb + (4 * kw + g) * p.wn + 128 * nw, min 128 (p.wn - 128 * nw))) else []) ++
  (if p.pleat = 1 then (List.range (min 64 (p.wk / 2 - 64 * kw))).map (fun i =>
    let n := (64 * kw + i) * p.wn + 128 * nw
    ((s.auxAt p).meta' + n / 4, (n % 4 + min 128 (p.wn - 128 * nw) + 3) / 4)) else []) ++
  (if p.pleat = 2 then [((s.auxAt p).off, 4 * (p.wk / 16 + 1))] else [])

/-- A stored tile as the loader forms it; `bad` is the status that its reads or checks met. -/
def loadTile (s : State) (c : Nat) (it : MxItem) (p : Prod) (x : Pass) : TileBank × Nat :=
  let e := mxEng c it
  let cells := s.wCells p x
  let (st, a) := match s.rangesStatus e (s.tileRanges p x) with
    | (0, _) => s.cellsStatus e p.fmtW.bits cells.flatten
    | r => r
  let pos := s.tilePos p x
  let sc := s.tileScales p x
  let bad := if st ≠ 0 then st else if p.pleat = 1 ∧ !posOk pos then 0x17 else if p.pleat = 2 ∧ !s.offsetsOk p x then 0x17
    else if p.dir = 1 ∧ p.isMx ∧ !squareOk sc then 0x16 else 0
  let vals := if bad ≠ 0 then [] else cells.map (fun r => r.map (s.cellOr p.fmtW.bits))
  (withChecks p { tid := x.tid, vals := vals, pos := pos, scales := sc, wc := [], ac := [], wr := [], ar := [],
                  nonfinite := false, bad := bad }, a)

/-- Absent 16 × 16 blocks of a block-pleated tile's block rows or columns (CORE_SKIP_BLOCKS). -/
def absentBlocks (s : State) (p : Prod) (x : Pass) : Nat :=
  if p.pleat ≠ 2 then 0
  else ((s.groupBlocks p x.oT x.kT).map (fun b => ((List.range 8).filter (fun q =>
    if p.dir = 0 then decide (8 * x.oT + q < p.wn / 16) && !s.present p b (8 * x.oT + q)
    else decide (8 * x.oT + q < p.wk / 16) && !s.present p (8 * x.oT + q) b)).length)).sum

/-- A load into bank `k`: the tile, its failing read counted and logged, its absent blocks counted. -/
def loadBank (s : State) (c : Nat) (j : ArrJob) (x : Pass) (k : Nat) : State :=
  let p := s.unitProd j.item j.unit
  let (b, a) := s.loadTile c j.item p x
  have s := if b.bad = 0 then s.add64 (R.CORE_SKIP_BLOCKS c) (s.absentBlocks p x) else s.engFail (mxEng c j.item) b.bad a
  s.setArr c (setBank (s.arr c) k b)

/-- The first pass after the current one that uses another tile. -/
def nextTile (j : ArrJob) : Option Pass :=
  match j.passes[j.cur]? with
  | none => none
  | some x => (j.passes.drop (j.cur + 1)).find? (fun y => y.tid != x.tid)

def holds (b : Option TileBank) (x : Pass) : Bool :=
  match b with
  | some t => t.tid == x.tid
  | none => false

/-- Whether the slices of a pass are in place (R164, R165, R204): its Pocket tile staged, the C buffer of the tile two
before written back, its lines fetched. -/
def operandsReady (s : State) (c : Nat) (j : ArrJob) (x : Pass) : Bool :=
  let p := s.unitProd j.item j.unit
  let staged := isStaged c p 0 || isStaged c p 1 || isStaged c p 2
  (!staged || decide (x.ptile < j.stagedTo)) && !j.cBufs.any (fun b => decide (b.1 + 2 ≤ x.ptile)) &&
  (p.kind == 0 || (p.conv.kh == 1 && p.conv.kw == 1) || decide (j.cur < j.linesTo))

/-! ### Rows (R75, R86, R88 to R92, R115, R116) -/

/-- A pass's row as the feeder sees it: element values, block scales, its failing read. -/
def rowInput (s : State) (c : Nat) (j : ArrJob) (p : Prod) (x : Pass) (src : Nat) : (Nat × Nat) × List Nat × List Nat :=
  let e := mxEng c j.item
  let cells := s.aCells p x src
  let per := p.red / 32
  let at' := fun g => p.asb + src * per + 4 * x.kT + g
  let st := match s.cellsStatus e p.fmtA.bits cells with
    | (0, _) => if p.isMx then s.rangesStatus e [(at' 0, min 4 (per - 4 * x.kT))] else (0, 0)
    | r => r
  let sc := if p.isMx then (List.range 4).map (fun g => if 4 * x.kT + g < per then (s.byteAt (at' g)).toNat else 0x7F)
    else [0x7F, 0x7F, 0x7F, 0x7F]
  (st, cells.map (s.cellOr p.fmtA.bits), sc)

/-- Whether the zero-vector skip takes a row (R115). -/
def zeroRow (p : Prod) (b : TileBank) (bits sc : List Nat) : Bool :=
  p.zskip && !b.nonfinite && bits.all (fun v => (p.fmtA.value v).isZero) && (!p.isMx || sc.all (fun v => v != 0xFF))

/-- Where the feeder stops after a first mismatch in row `i` (R91): the rows whose entry lies before e_i + 264. Skipped
rows take no interval. -/
def stopRow (s : State) (c : Nat) (j : ArrJob) (p : Prod) (x : Pass) (b : TileBank) (i : Nat) : Nat :=
  let idx := (x.rows.foldl (fun (st : List Nat × Nat) r =>
    let inp := s.rowInput c j p x r.1
    if zeroRow p b inp.2.1 inp.2.2 then (st.1 ++ [st.2], st.2) else (st.1 ++ [st.2], st.2 + 1)) ([], 0)).1
  let e := fun k => entryCycle p ((idx[k]?).getD 0)
  ((List.range x.rows.length).find? (fun k => decide (i < k ∧ e i + 264 ≤ e k))).getD x.rows.length

/-- What the Selvage says of a row (R88, R89): compared, mismatched, difference, bound. -/
structure Verdict where
  compared : Bool
  mismatch : Bool
  diff : W32
  bound : W32
  deriving DecidableEq, Repr

/-- The tolerance of CORE_ARR_CTRL as FP32. -/
def tolerance (s : State) (c : Nat) : W32 :=
  let t := s.fld (R.CORE_ARR_CTRL c) F.CORE_ARR_CTRL_tol_exp
  if t = 0 then 0 else toFp32 (.fin false 1 (-(min 24 t : Nat)))

def verdict (s : State) (c : Nat) (p : Prod) (b : TileBank) (xv : List FVal) (res : List W32) : Verdict :=
  let (ck, av) := checksums p xv b
  if p.isInt then
    let sum := int32Chain res
    ⟨true, decide (sum ≠ ck), sum - ck, 0⟩
  else
    let sum := fp32Chain res
    if fp32NonFinite sum || fp32NonFinite ck || fp32NonFinite av then ⟨false, false, 0, 0⟩
    else
      let diff := toFp32 (ofFp32 (fp32Sub sum ck)).abs
      let bound := fp32Mul (s.tolerance c) av
      ⟨true, (ofFp32 bound).lt (ofFp32 diff), diff, bound⟩

/-- A mismatch is recorded (R90, R92, R93). -/
def recordMismatch (s : State) (c : Nat) (j : ArrJob) (p : Prod) (v : Verdict) : State :=
  let last := j.row % 4096 + p.dir * 2 ^ 12 + j.attempt * 2 ^ 13 + (if p.isInt then 2 ^ 14 else 0) + j.passNo % 2 ^ 16 * 2 ^ 16
  have s := s.setReg (R.CORE_SLV_LAST c) (BitVec.ofNat 64 last)
  have s := s.setReg (R.CORE_SLV_LAST_VALUES c) (BitVec.ofNat 64 (v.diff.toNat + v.bound.toNat * 2 ^ 32))
  have s := s.setFld (R.CORE_ARR_STATUS c) F.CORE_ARR_STATUS_selvage_any 1
  if j.attempt = 0 then s.inc (R.CORE_SLV_MISMATCHES c)
  else
    have s := s.setFld (R.CORE_ARR_STATUS c) F.CORE_ARR_STATUS_suspect 1
    have s := if s.voteExcl c then s else s.setFld (R.CORE_ARR_STATUS c) F.CORE_ARR_STATUS_selvage_step 1
    s.log 1 0x12 (uCore c) (instOf j.item.owner) (value := last + v.diff.toNat * 2 ^ 32)

/-- The rows of the current attempt. -/
def rowLimit (j : ArrJob) (x : Pass) : Nat :=
  let n := if j.attempt = 0 then j.stopAt.getD x.rows.length else x.rows.length
  min n (j.abortAt.getD n)

/-- A pass is over: the next one, the unit's end, or the product's end (R91, R92, R145). -/
def nextPass (s : State) (c : Nat) (j : ArrJob) : State :=
  have s := s.add64 (R.CORE_ARR_PASSES c) 1
  if j.abortAt.isSome then s.endJob c j 0x06
  else if j.attempt = 0 ∧ j.mismatched ≠ [] then s.setJob c j
  else if j.failed then s.endJob c j 0x12
  else
    have s := s.setFld (R.CORE_ARR_STATUS c) F.CORE_ARR_STATUS_retry_active 0
    let j := { j with cur := j.cur + 1, passNo := j.passNo + 1, entered := false, row := 0, stopAt := none, attempt := 0,
                      mismatched := [], failed := false }
    if j.cur < j.passes.length ∨ j.cBufs ≠ [] then s.setJob c j else s.closeUnit c j

/-- The next row after row `j.row`. -/
def afterRow (s : State) (c : Nat) (j : ArrJob) (x : Pass) : State :=
  let j := { j with row := j.row + 1 }
  if j.row < rowLimit j x then s.setJob c j else s.nextPass c j

/-- A row's results that are kept join their sum, else are discarded. -/
def keepRow (s : State) (c : Nat) (j : ArrJob) (p : Prod) (x : Pass) (dst : Nat) (keep : Bool) (res : List W32) : State :=
  if !keep then s.afterRow c j x
  else match s.accumulate c j p x dst res with
    | (0, _, j, s) => s.afterRow c j x
    | (st, a, j, s) => s.failJob c j st a

/-- Row `j.row` of the running pass reaches the drain. -/
def drainRow (s : State) (c : Nat) (j : ArrJob) (x : Pass) (b : TileBank) (upsets : List (Fin 128 × W32)) : State :=
  let p := s.unitProd j.item j.unit
  match x.rows[j.row]? with
  | none => s
  | some (src, dst) =>
    let ((st, a), bits, sc) := s.rowInput c j p x src
    if st ≠ 0 then s.failJob c j st a
    else
      let stop := j.stopAt.getD x.rows.length
      let fresh := decide (j.attempt = 0 ∨ stop ≤ j.row)
      let keep := fresh || j.mismatched.contains j.row
      if zeroRow p b bits sc then
        have s := if fresh then (s.inc (R.CORE_SLV_SKIPPED c)).add64 (R.CORE_SKIP_ZERO_ROWS c) 1 else s
        s.keepRow c j p x dst keep (List.replicate 128 0)
      else
        let xs := bits.map p.fmtA.value
        let xv := (bits.zip (spread sc)).map (fun e => elemVal p.fmtA e.2 e.1)
        let res := (rowResults p xs sc b)
        let res := ((List.range 128).zip res).map (fun e =>
          upsets.foldl (fun v u => if u.1.val = e.1 then v ^^^ u.2 else v) e.2)
        let g := (s.arr c).gatedRem + gatedOf p xv b
        have s := (s.setArr c { s.arr c with gatedRem := g % 1024 }).add64 (R.CORE_ARR_GATED c) (g / 1024)
        have s := if !p.isInt && res.any fp32NonFinite then s.fpEvent c 0 { nonfinite := true } else s
        let v := s.verdict c p b xv res
        have s := if !v.compared && fresh then s.inc (R.CORE_SLV_SKIPPED c) else s
        if !v.mismatch then s.keepRow c j p x dst keep res
        else
          have s := s.recordMismatch c j p v
          if j.attempt = 0 then
            let stop' := match j.stopAt with
              | some k => some k
              | none => some (s.stopRow c j p x b j.row)
            s.afterRow c { j with stopAt := stop', mismatched := j.mismatched ++ [j.row] } x
          else s.afterRow c { j with failed := true } x

/-! ### Staging (R162 to R166) -/

/-- The Pocket tiles of the running unit. -/
def jobBoxes (s : State) (j : ArrJob) : List Box :=
  (s.unitParts j.item j.unit).flatMap (s.unitProd j.item j.unit).pocketBoxes

/-- The slice of an operand that a Pocket tile uses: its place, and its row segments at home. -/
def sliceKey (p : Prod) (b : Box) (op : Nat) : List Nat :=
  let (r0, r1) := p.redOf b
  if op = 0 then [p.a, b.m0, b.m1, r0, r1] else [p.w, b.k0, b.k1, b.n0, b.n1]

def sliceRanges (s : State) (p : Prod) (b : Box) (op : Nat) : List (Nat × Nat) :=
  let (r0, r1) := p.redOf b
  if op = 0 then
    let w := p.fmtA.bits
    let rows := (s.rowsIn p b).map Prod.fst
    (if p.aTrans then (List.range (r1 - r0)).map (fun k => (p.a + (r0 + k) * p.aS + b.m0 * w / 8, cdiv ((b.m1 - b.m0) * w) 8))
     else rows.map (fun r => (p.a + r * p.aS + r0 * w / 8, cdiv ((r1 - r0) * w) 8))) ++
    (if p.isMx then rows.map (fun r => (p.asb + r * (p.red / 32) + r0 / 32, cdiv (r1 - r0) 32)) else [])
  else
    let w := p.fmtW.bits
    if p.pleat = 2 then
      let rows := (List.range (cdiv b.k1 16 - b.k0 / 16)).map (fun k => b.k0 / 16 + k)
      rows.flatMap (fun r => ((List.range (cdiv b.n1 16 - b.n0 / 16)).map (fun k => b.n0 / 16 + k)).filterMap (fun q =>
        if s.present p r q then some (p.w + s.blockIndex p r q * 32 * w, 32 * w) else none))
    else
      let h := if p.pleat = 1 then 2 else 1
      (List.range (b.k1 / h - b.k0 / h)).map (fun k => (p.w + (b.k0 / h + k) * p.wS + b.n0 * w / 8, cdiv ((b.n1 - b.n0) * w) 8)) ++
      (if p.isMx then (List.range (cdiv b.k1 32 - b.k0 / 32)).map (fun k => (p.wsb + (b.k0 / 32 + k) * p.wn + b.n0, b.n1 - b.n0)) else []) ++
      (if p.pleat = 1 then (List.range (b.k1 / 2 - b.k0 / 2)).map (fun k =>
        ((s.auxAt p).meta' + ((b.k0 / 2 + k) * p.wn + b.n0) / 4, cdiv (b.n1 - b.n0) 4)) else [])

/-- Partials of C that a Pocket tile after the first along the reduction reads back (R165). -/
def partialRanges (s : State) (p : Prod) (b : Box) : List (Nat × Nat) :=
  let (o0, o1) := p.outOf b
  if (p.redOf b).1 = 0 then []
  else (s.rowsIn p b).map (fun r => (p.c + r.2 * p.cS + o0 * p.cBits / 8, cdiv ((o1 - o0) * p.cBits) 8))

/-- The staging engine fills the buffers of the next Pocket tile: a slice equal to the one held is not fetched again; a
failing access ends the item (R164, R166). The next unit is drawn when the last tile's staging begins (R173). -/
def fetchTile (s : State) (c : Nat) (j : ArrJob) (b : Box) : State :=
  let p := s.unitProd j.item j.unit
  let e := mxEng c j.item
  let needs := [0, 1].filter (fun op => isStaged c p op && !j.staged.any (fun h => h.op == op && h.key == sliceKey p b op))
  let ranges := needs.flatMap (s.sliceRanges p b) ++ (if isStaged c p 2 then s.partialRanges p b else [])
  match s.rangesStatus e ranges with
  | (0, _) =>
    have s := s.add64 (R.CORE_STG_BYTES c) (ranges.map Prod.snd).sum
    let held := j.staged.filter (fun h => !needs.contains h.op) ++ needs.map (fun op => ⟨op, sliceKey p b op⟩)
    let j := { j with staged := held, stagedTo := j.stagedTo + 1 }
    if p.bob ≠ 0xFFFF ∧ j.stagedTo = j.ptiles ∧ j.nextUnit.isNone then
      let (u, s) := s.drawUnit c p
      s.setJob c { j with nextUnit := some u }
    else s.setJob c j
  | (st, a) => s.failJob c j st a

/-- A finished C tile goes back to its home (R165). -/
def writeBack (s : State) (c : Nat) (j : ArrJob) (t : Nat × List Host.Cell) : State :=
  match s.writesStatus (mxEng c j.item) 8 (t.2.map (fun e => 8 * e.1)) with
  | (0, _) =>
    have s := (t.2.foldl (fun s e => s.putBytes e.1 [e.2]) s).add64 (R.CORE_STG_BYTES c) t.2.length
    let j := { j with cBufs := j.cBufs.filter (fun b => b.1 != t.1) }
    if j.cur < j.passes.length ∨ j.cBufs ≠ [] then s.setJob c j else s.closeUnit c j
  | (st, a) => s.failJob c j st a

/-! ### MX.ABORT (R145) -/

/-- The active and queued descriptors end with ABORTED. How many rows of the streaming pass had entered is not shown, so
it is a free value; those finish, the rest do not enter. -/
def abortMx (s : State) (c : Nat) : State :=
  let k := s.core c
  let queued := k.mxq
  have s := s.setCore c { s.core c with mxq := [] }
  match k.arr.job with
  | none => queued.foldl (fun s it => s.recordMx c it 0x06) s
  | some j =>
    let j := { j with dropped := j.dropped ++ queued }
    match j.passes[j.cur]? with
    | none => s.endJob c j 0x06
    | some x =>
      if !j.entered || decide (rowLimit j x ≤ j.row) then s.endJob c j 0x06
      else
        let (f, s) := s.fresh
        let n := j.row + f % (rowLimit j x - j.row + 1)
        let j := { j with abortAt := some n }
        if n ≤ j.row then s.endJob c j 0x06 else s.setJob c j

end State

/-! ### Commands -/

/-- MATRIX_PRODUCT (R97, R146): a descriptor of opcode 0x20 becomes active; one of no defined opcode ends with BAD_OPCODE. -/
def execMatrixProduct (c : CoreId) (s : State) : Out :=
  match s.headMx c.val with
  | none => .next s
  | some it =>
    let op := xw it.desc 0 0 8
    if op = 0x20 then .next (s.startProduct c.val it)
    else if op < 0x20 ∨ 0x27 < op then .next ((s.popMx c.val).recordMx c.val it 0x01)
    else .next s

/-- DISPATCHED_MATRIX_PRODUCT (R119): opcode 0x21. -/
def execDispatchedMatrixProduct (c : CoreId) (s : State) : Out :=
  match s.headMx c.val with
  | some it => .next (if xw it.desc 0 0 8 = 0x21 then s.startProduct c.val it else s)
  | none => .next s

/-- POINTER_LIST_PRODUCT (R168): opcode 0x22. -/
def execPointerListProduct (c : CoreId) (s : State) : Out :=
  match s.headMx c.val with
  | some it => .next (if xw it.desc 0 0 8 = 0x22 then s.startProduct c.val it else s)
  | none => .next s

/-- WEIGHT_TILE_LOAD (R79): the tile of the pass that is next to enter, or, once that pass has entered, the next tile into
the other bank. -/
def execWeightTileLoad (c : CoreId) (s : State) : Out :=
  match (s.arr c.val).job with
  | none => .next s
  | some j =>
    let a := s.arr c.val
    match j.passes[j.cur]? with
    | none => .next s
    | some x =>
      if !j.entered then
        if State.holds (State.bank a a.useBank) x || State.holds (State.bank a (a.useBank + 1)) x || !s.operandsReady c.val j x
        then .next s
        else .next (s.loadBank c.val j x (a.useBank + 1))
      else match State.nextTile j with
        | none => .next s
        | some y =>
          if j.attempt = 1 || !j.mismatched.isEmpty || State.holds (State.bank a (a.useBank + 1)) y || !s.operandsReady c.val j y
          then .next s
          else .next (s.loadBank c.val j y (a.useBank + 1))

/-- PASS_ENTRY (R79, R115): the first row of the next pass enters with its tile's bank; a tile whose load failed ends the
item (R77, R125). -/
def execPassEntry (c : CoreId) (s : State) : Out :=
  match (s.arr c.val).job with
  | none => .next s
  | some j =>
    let a := s.arr c.val
    match j.passes[j.cur]? with
    | none => .next s
    | some x =>
      if j.entered || !s.operandsReady c.val j x then .next s
      else
        let k := if State.holds (State.bank a a.useBank) x then a.useBank else a.useBank + 1
        match State.bank a k with
        | none => .next s
        | some b =>
          if b.tid ≠ x.tid then .next s
          else if b.bad ≠ 0 then .next (s.endJob c.val j b.bad)
          else
            let p := s.unitProd j.item j.unit
            have s := s.setArr c.val { s.arr c.val with useBank := k % 2 }
            have s := (s.setFld (R.CORE_ARR_STATUS c.val) F.CORE_ARR_STATUS_active_bank (k % 2)).setFld
              (R.CORE_ARR_STATUS c.val) F.CORE_ARR_STATUS_dir p.dir
            have s := if p.zskip && b.nonfinite then s.inc (R.CORE_ZSKIP_SUPPRESSED c.val) else s
            have s := if p.kind = 0 then s
              else s.setFld (R.CORE_CWU_STATUS c.val) F.CORE_CWU_STATUS_active_window (j.cur % 2)
            .next (s.setJob c.val { j with entered := true })

/-- ROW_DRAIN (R90): the next row of the running pass is compared and written, accumulated or marked. `upsets` are the
bits that physics flips in the row's results on their way. -/
def execRowDrain (c : CoreId) (upsets : List (Fin 128 × W32)) (s : State) : Out :=
  match (s.arr c.val).job with
  | none => .next s
  | some j =>
    match j.passes[j.cur]?, State.bank (s.arr c.val) (s.arr c.val).useBank with
    | some x, some b =>
      .next (if j.entered && decide (j.row < State.rowLimit j x) then s.drainRow c.val j x b upsets else s)
    | _, _ => .next s

/-- SELVAGE_RETRY (R91): the pass's tile is reloaded into the other bank and the whole pass streams again. -/
def execSelvageRetry (c : CoreId) (s : State) : Out :=
  match (s.arr c.val).job with
  | none => .next s
  | some j =>
    match j.passes[j.cur]? with
    | none => .next s
    | some x =>
      if j.attempt = 0 && j.entered && !j.mismatched.isEmpty && decide (State.rowLimit j x ≤ j.row) then
        let k := ((s.arr c.val).useBank + 1) % 2
        have s := s.loadBank c.val j x k
        have s := s.setArr c.val { s.arr c.val with useBank := k }
        match State.bank (s.arr c.val) k with
        | some b =>
          if b.bad ≠ 0 then .next (s.endJob c.val j b.bad)
          else
            have s := (s.setFld (R.CORE_ARR_STATUS c.val) F.CORE_ARR_STATUS_retry_active 1).setFld
              (R.CORE_ARR_STATUS c.val) F.CORE_ARR_STATUS_active_bank k
            .next (s.setJob c.val { j with attempt := 1, row := 0 })
        | none => .next s
      else .next s

/-- STAGING_FETCH (R164): the buffers of the next Pocket tile are filled; at most one tile ahead of the running one. -/
def execStagingFetch (c : CoreId) (s : State) : Out :=
  match (s.arr c.val).job with
  | none => .next s
  | some j =>
    let p := s.unitProd j.item j.unit
    let now := ((j.passes[j.cur]?).map (fun x => x.ptile)).getD 0
    let any := State.isStaged c.val p 0 || State.isStaged c.val p 1 || State.isStaged c.val p 2
    match (s.jobBoxes j)[j.stagedTo]? with
    | some b => .next (if any && decide (j.stagedTo ≤ now + 1) && j.abortAt.isNone then s.fetchTile c.val j b else s)
    | none => .next s

/-- STAGING_WRITEBACK (R165): the oldest C tile whose passes are over goes back to its home. -/
def execStagingWriteback (c : CoreId) (s : State) : Out :=
  match (s.arr c.val).job with
  | none => .next s
  | some j =>
    let now := ((j.passes[j.cur]?).map (fun x => x.ptile)).getD j.ptiles
    match j.cBufs.find? (fun b => decide (b.1 < now)) with
    | some t => .next (s.writeBack c.val j t)
    | none => .next s

end Sys2Proof.Machine
end

