-- ==== Sys2Proof/Machine/Special.lean ====
section
/-! DEFINITION. The special functions of R183 and R184. RECIP and RSQRT are rounded from exact integer quotients and
roots. The transcendental ones are evaluated in fixed point with 640 fraction bits and rounded once; that no FP32 result
lies closer to a rounding boundary than that evaluation's error is DEDUCED (log entry 10). -/
namespace Sys2Proof

namespace Fix

/-- Fraction bits of the fixed-point evaluation. -/
def P : Nat := 640
def one : Int := (2 ^ P : Nat)

def mul (a b : Int) : Int := a * b / one
def div (a b : Int) : Int := a * one / b

/-- A dyadic value in fixed point (exact for exponents not below −P). -/
def ofDyadic (neg : Bool) (m : Nat) (e : Int) : Int :=
  let k := e + P
  let a : Int := if k ≥ 0 then (m * 2 ^ k.toNat : Nat) else (m / 2 ^ (-k).toNat : Nat)
  if neg then -a else a

/-- Integer square root by bisection of its bits. -/
def isqrtGo (n : Nat) : Nat → Nat → Nat
  | 0, r => r
  | k + 1, r =>
    let t := r + 2 ^ k
    isqrtGo n k (if t * t ≤ n then t else r)

def isqrt (n : Nat) : Nat := isqrtGo n (n.log2 / 2 + 1) 0

def sqrt (a : Int) : Int := (isqrt (a.toNat * 2 ^ P) : Nat)

/-- Sum of `terms` terms t(n+1) = next n t(n), from t(0). -/
def series (terms : Nat) (t0 : Int) (next : Nat → Int → Int) : Int :=
  ((List.range terms).foldl (fun (st : Int × Int) n =>
    let t := next (n + 1) st.1
    (t, st.2 + t)) (t0, t0)).2

/-- 2 × atanh z = 2 (z + z^3/3 + ...). -/
def twoAtanh (z : Int) : Int :=
  let z2 := mul z z
  2 * ((List.range 140).foldl (fun (st : Int × Int) n =>
    let p := mul st.1 z2
    (p, st.2 + p / (2 * (n + 1) + 1 : Nat))) (z, z)).2

def ln2 : Int := twoAtanh (one / 3)

/-- arctan (1/k). -/
def atanInv (k : Nat) : Int :=
  ((List.range 300).foldl (fun (st : Int × Int) n =>
    let p := st.1 / ((k * k : Nat) : Int)
    let t := p / (2 * (n + 1) + 1 : Nat)
    (p, if n % 2 = 0 then st.2 - t else st.2 + t)) (one / (k : Int), one / (k : Int))).2

def pi : Int := 4 * (4 * atanInv 5 - atanInv 239)

/-- e^x as a significand in fixed point and a power of two. -/
def exp (x : Int) : Int × Int :=
  let k := x / ln2
  let r := x - k * ln2
  (series 140 one (fun n t => mul t r / (n : Int)), k)

/-- e^x in fixed point; x is clamped to [−400, 400] by the callers. -/
def expFix (x : Int) : Int :=
  let (m, k) := exp x
  if k ≥ 0 then m * (2 ^ k.toNat : Nat) else m / (2 ^ (-k).toNat : Nat)

def clamp (lim x : Int) : Int := max (-(lim * one)) (min (lim * one) x)

/-- 1 / (1 + e^(−x)). -/
def sigmoid (x : Int) : Int :=
  if x ≥ 0 then div one (one + expFix (-(clamp 300 x)))
  else
    let t := expFix (clamp 300 x)
    div t (one + t)

def tanh (x : Int) : Int :=
  let t := expFix (2 * clamp 150 x)
  div (t - one) (t + one)

/-- sin r and cos r for |r| below 1. -/
def sinSmall (r : Int) : Int :=
  let r2 := mul r r
  series 80 r (fun n t => -(mul t r2) / ((2 * n * (2 * n + 1) : Nat) : Int))
def cosSmall (r : Int) : Int :=
  let r2 := mul r r
  series 80 one (fun n t => -(mul t r2) / ((2 * n * (2 * n - 1) : Nat) : Int))

/-- sin (x + quarter × π/2). -/
def sin (x : Int) (quarter : Int) : Int :=
  let h := pi / 2
  let k := (2 * x + h) / (2 * h)
  let r := x - k * h
  match ((k + quarter) % 4).toNat with
  | 0 => sinSmall r
  | 1 => cosSmall r
  | 2 => -(sinSmall r)
  | _ => -(cosSmall r)

/-- 1 + erf(x / √2), for |x| at most 16. -/
def onePlusErf (x : Int) : Int :=
  let z := div x (sqrt (2 * one))
  let z2 := mul z z
  let s := series 1200 z (fun n t => 2 * mul t z2 / ((2 * n + 1 : Nat) : Int))
  one + div (2 * mul (expFix (-z2)) s) (sqrt pi)

/-- A fixed-point result as an exact value with a sticky bit below it: an irrational result lies strictly between
the fixed-point steps. -/
def toVal (x : Int) : FVal := .fin (decide (x < 0)) (2 * x.natAbs + 1) (-(P : Int) - 1)

end Fix

/-- The single functions of R183 by code. -/
inductive SfnFunc where
  | exp | log | recip | rsqrt | sin | cos | tanh | sigmoid | geluTanh | geluErf | silu | sinPos | cosPos
  | gate (act : SfnFunc)
  deriving DecidableEq, Repr

/-- The unary activation of a code from 0x07 to 0x0B. -/
def SfnFunc.ofAct : Nat → Option SfnFunc
  | 0x07 => some .tanh | 0x08 => some .sigmoid | 0x09 => some .geluTanh | 0x0A => some .geluErf | 0x0B => some .silu
  | _ => none

/-- The function codes of R183. -/
def SfnFunc.ofCode : Nat → Option SfnFunc
  | 0x01 => some .exp | 0x02 => some .log | 0x03 => some .recip | 0x04 => some .rsqrt | 0x05 => some .sin | 0x06 => some .cos
  | 0x10 => some .sinPos | 0x11 => some .cosPos
  | c => if c ≥ 0x40 then (SfnFunc.ofAct (c - 0x40)).map .gate else SfnFunc.ofAct c

/-- Functions that have a U24 legacy form (R194). -/
def SfnFunc.legacyOk : SfnFunc → Bool
  | .exp | .log | .recip | .rsqrt | .sin | .cos | .tanh | .sigmoid | .geluTanh => true
  | _ => false

/-- Two-operand functions (R185). -/
def SfnFunc.binary : SfnFunc → Bool
  | .sinPos | .cosPos | .gate _ => true
  | _ => false

def recipVal : FVal → FVal
  | .nan => .nan
  | .inf n => .zero n
  | .fin n m e =>
    if m = 0 then .inf n
    else
      let num := 2 ^ (m.log2 + 64)
      .fin n (2 * (num / m) + (if num % m = 0 then 0 else 1)) (-e - (m.log2 + 64 : Nat) - 1)

def rsqrtVal : FVal → FVal
  | .nan => .nan
  | .inf true => .nan
  | .inf false => .zero false
  | .fin n m e =>
    if m = 0 then .inf n
    else if n then .nan
    else
      -- m × 2^e with e made even; then 2^k / √m with 2k bits of scaling
      let (m, e) := if e % 2 = 0 then (m, e) else (2 * m, e - 1)
      let k := m.log2 + 64
      let q := 2 ^ (2 * k) / m
      let r := Fix.isqrt q
      let exact := r * r * m = 2 ^ (2 * k)
      .fin false (2 * r + (if exact then 0 else 1)) (-(e / 2) - (k : Int) - 1)

/-- The exact square root, with a sticky bit (R51). -/
def sqrtVal : FVal → FVal
  | .nan => .nan
  | .inf n => if n then .nan else .inf false
  | .fin n m e =>
    if m = 0 then .zero n
    else if n then .nan
    else
      let (m, e) := if e % 2 = 0 then (m, e) else (2 * m, e - 1)
      let k : Nat := 64
      let r := Fix.isqrt (m * 2 ^ (2 * k))
      .fin false (2 * r + (if r * r = m * 2 ^ (2 * k) then 0 else 1)) (e / 2 - (k : Int) - 1)

def fp32Sqrt (a : W32) : W32 := toFp32 (sqrtVal (ofFp32 a))

/-- sin (quarter 0) or cos (quarter 1) of an exact angle. -/
def sinVal (quarter : Int) : FVal → FVal
  | .fin n m e => if m = 0 then (if quarter = 0 then .zero n else .fin false 1 0)
    else Fix.toVal (Fix.sin (Fix.ofDyadic n m e) quarter)
  | _ => .nan

/-- The exact activation of one operand (R183, R184), rounded by the caller. -/
def SfnFunc.unary (f : SfnFunc) (v : FVal) : FVal :=
  match f, v with
  | _, .nan => .nan
  | .exp, .inf n => if n then .zero false else .inf false
  | .exp, .fin n m e =>
    if m = 0 then .fin false 1 0
    else
      let x := Fix.clamp 200 (Fix.ofDyadic n m e)
      let (s, k) := Fix.exp x
      (Fix.toVal s).scaleExp k
  | .log, .inf n => if n then .nan else .inf false
  | .log, .fin n m e =>
    if m = 0 then .inf true
    else if n then .nan
    else if FVal.eq v (.fin false 1 0) then .zero false
    else
      -- m × 2^e = y × 2^k with y in [1, 2); y above 3/2 is halved
      let k0 : Int := (m.log2 : Int) + e
      let y0 := Fix.ofDyadic false m (-(m.log2 : Int))
      let (y, k) := if 2 * y0 > 3 * Fix.one then (y0 / 2, k0 + 1) else (y0, k0)
      let z := Fix.div (y - Fix.one) (y + Fix.one)
      Fix.toVal (Fix.twoAtanh z + k * Fix.ln2)
  | .recip, w => recipVal w
  | .rsqrt, w => rsqrtVal w
  | .sin, w => sinVal 0 w
  | .cos, w => sinVal 1 w
  | .tanh, .inf n => .fin n 1 0
  | .tanh, .fin n m e => if m = 0 then v else Fix.toVal (Fix.tanh (Fix.clamp 200 (Fix.ofDyadic n m e)))
  | .sigmoid, .inf n => if n then .zero false else .fin false 1 0
  | .sigmoid, .fin n m e =>
    if m = 0 then .fin false 1 (-1) else Fix.toVal (Fix.sigmoid (Fix.clamp 300 (Fix.ofDyadic n m e)))
  | .silu, .inf n => if n then .zero true else .inf false
  | .silu, .fin n m e =>
    if m = 0 then v else (Fix.toVal (Fix.sigmoid (Fix.clamp 300 (Fix.ofDyadic n m e)))).mul v
  | .geluTanh, .inf n => if n then .zero true else .inf false
  | .geluTanh, .fin n m e =>
    if m = 0 then v
    else
      let x := Fix.clamp 64 (Fix.ofDyadic n m e)
      let c := Fix.sqrt (Fix.div (2 * Fix.one) Fix.pi)
      let u := Fix.mul c (x + Fix.mul (Fix.mul x x) x * 44715 / 1000000)
      (Fix.toVal (Fix.sigmoid (Fix.clamp 300 (2 * u)))).mul v
  | .geluErf, .inf n => if n then .zero true else .inf false
  | .geluErf, .fin n m e =>
    if m = 0 then v
    else ((Fix.toVal (Fix.onePlusErf (Fix.clamp 16 (Fix.ofDyadic n m e)))).scaleExp (-1)).mul v
  | _, _ => .nan

/-- A special function in native mode: the FP32 result nearest to the exact one (R183). -/
def sfnNative (f : SfnFunc) (x y : W32) : W32 :=
  match f with
  | .sinPos => toFp32 (sinVal 0 ((ofFp32 x).mul (ofFp32 y)))
  | .cosPos => toFp32 (sinVal 1 ((ofFp32 x).mul (ofFp32 y)))
  | .gate a => fp32Mul (toFp32 (a.unary (ofFp32 x))) y
  | g => toFp32 (g.unary (ofFp32 x))

/-- The legacy code of a function. -/
def SfnFunc.code : SfnFunc → Nat
  | .exp => 1 | .log => 2 | .recip => 3 | .rsqrt => 4 | .sin => 5 | .cos => 6 | .tanh => 7 | .sigmoid => 8
  | .geluTanh => 9 | .geluErf => 10 | .silu => 11 | .sinPos => 16 | .cosPos => 17 | .gate a => 64 + a.code

/-- A special function in the selected mode (R183, R194). -/
def sfnApply (legacy : Bool) (f : SfnFunc) (x y : W32) : W32 :=
  if legacy && f.legacyOk then Config.u24Function f.code x y else sfnNative f x y

end Sys2Proof
end

