-- ==== Sys2Proof/Machine/Squall.lean ====
section
/-! DEFINITION. The Squall vote's shared operations: messages, roles, the window of steps, decisions, applies and holding
(R267 to R286). The commands stand in Vote.lean, the update engines in Upd.lean. -/
namespace Sys2Proof.Machine
namespace State

def vote (s : State) (i : Nat) : VoteState := s.votes.get VoteState.reset i
def setVote (s : State) (i : Nat) (v : VoteState) : State := { s with votes := s.votes.set VoteState.reset i v }

def isJobLeader (s : State) (i : Nat) : Bool := s.regBit (R.SEAM_VOTE_CFG i) 1
def isPodLeader (s : State) (i : Nat) : Bool := s.regBit (R.SEAM_VOTE_CFG i) 2
def isTrayHead (s : State) (i : Nat) : Bool := s.regBit (R.SEAM_VOTE_CFG i) 3
def parentOf (s : State) (i : Nat) : Nat := s.fld (R.SEAM_VOTE_TREE i) F.SEAM_VOTE_TREE_parent
def jobLeaderPod (s : State) (i : Nat) : Nat := s.fld (R.SEAM_VOTE_TREE i) F.SEAM_VOTE_TREE_job_leader_pod
def jobId (s : State) (i : Nat) : Nat := s.fld (R.SEAM_VOTE_TREE i) F.SEAM_VOTE_TREE_job_id
def membersOf (s : State) (i : Nat) : List Nat := bitList (s.reg (R.SEAM_VOTE_MEMBERS i)).toNat 64
def childrenOf (s : State) (i : Nat) : List Nat :=
  (bitList (s.reg (R.SEAM_VOTE_CHILDREN i)).toNat 64).filter (fun d => d != s.podDevice)

/-- The pods of the job; none configured is this pod alone. -/
def podsOf (s : State) (i : Nat) : List Nat :=
  let l := bitList ((s.reg (R.SEAM_VOTE_PODS_LO i)).toNat + (s.reg (R.SEAM_VOTE_PODS_HI i)).toNat * 2 ^ 64) 128
  if l.isEmpty then [s.podNumber] else l

/-- In a one-pod job the pod leader decides (R272). -/
def onePod (s : State) (i : Nat) : Bool := s.podsOf i == [s.podNumber]

/-- The last decided step; none is all ones. -/
def lastDecided (s : State) (i : Nat) : Option Nat :=
  let x := (s.reg (R.SEAM_STEP_DECIDED i)).toNat
  if x = 2 ^ 64 - 1 then none else some x

def decisionOf (s : State) (i step : Nat) : Option Decided := (s.vote i).history.find? (fun d => d.step == step)

/-! ### Messages (R270) -/

/-- A Squall message: header and records. -/
def squallMsg (s : State) (i type step : Nat) (dev pod records body : Nat) (recs : List Byte) : List Byte :=
  bytesOf step 8 ++ bytesOf type 1 ++ bytesOf i 1 ++ bytesOf (s.jobId i) 2 ++ bytesOf (s.gen i) 2 ++ bytesOf dev 1 ++
  bytesOf pod 1 ++ bytesOf records 1 ++ bytesOf 0 7 ++ bytesOf body 8 ++ recs

def voteRecBytes (r : VoteRec) : List Byte :=
  bytesOf (r.device % 64 + (if r.commit then 64 else 0) + r.causes % 256 * 2 ^ 8 + r.normSq.toNat * 2 ^ 32 + r.localSq.toNat * 2 ^ 64) 16

def podRecBytes (r : PodRec) : List Byte :=
  bytesOf (r.pod % 128 + (if r.commit then 128 else 0) + r.causes % 256 * 2 ^ 8 + r.normSq.toNat * 2 ^ 32 +
    r.localSq.toNat * 2 ^ 64 + r.causeDevices % 2 ^ 64 * 2 ^ 128) 32

def voteRecOf (bs : List Byte) : VoteRec :=
  let x := natOfBytes (bs.take 16)
  ⟨bitsOf x 0 6, bitOf x 6, bitsOf x 8 8, BitVec.ofNat 32 (bitsOf x 32 32), BitVec.ofNat 32 (bitsOf x 64 32)⟩

def podRecOf (bs : List Byte) : PodRec :=
  let x := natOfBytes (bs.take 32)
  ⟨bitsOf x 0 7, bitOf x 7, bitsOf x 8 8, BitVec.ofNat 32 (bitsOf x 32 32), BitVec.ofNat 32 (bitsOf x 64 32), bitsOf x 128 64⟩

/-- The session of an instance to a neighbour in the tree: a device of its pod, or any device of another pod. -/
def treeSession (s : State) (i pod : Nat) (dev : Option Nat) : Option SessId :=
  match s.sessions.find? (fun e => e.2.created && e.2.inst == i && !e.2.mgmt && e.2.peerPod == pod &&
      (match dev with
       | some d => e.2.peerDevice == d
       | none => true)) with
  | some e => if h : e.1 < 4096 then some ⟨e.1, h⟩ else none
  | none => none

/-- A message goes to a neighbour on channel 0, or back to this module (R270, R330). Where no session leads there, or no
entry is free, it is lost as on a broken hop (R283). -/
def sendSquall (s : State) (i pod : Nat) (dev : Option Nat) (msg : List Byte) : State :=
  if pod = s.podNumber ∧ (dev = some s.podDevice) then { s with localMsgs := s.localMsgs ++ [(i, 0, msg)] }
  else match s.treeSession i pod dev with
    | none => s
    | some k =>
      let inst : Option InstId := if h : i < 8 then some ⟨i, h⟩ else none
      (s.startTxn ⟨k, 0, 7, 2, 0, 0, msg, false, none, 0⟩ .squall inst (s.gen i)).getD s

/-- The neighbours below a role: a pod leader's children and the devices it has votes from, a tray head's children. -/
def below (s : State) (i : Nat) : List Nat :=
  let seen := ((s.vote i).seenGen.filter (fun e => e.1 / 64 == s.podNumber)).map (fun e => e.1 % 64)
  if s.isPodLeader i then
    (s.childrenOf i ++ seen.filter (fun d => !(s.childrenOf i).contains d)).filter (fun d => d != s.podDevice)
  else if s.isTrayHead i then s.childrenOf i
  else []

/-- A message down the tree: job leader to pod leaders, pod leader to tray heads, tray head to children (R274). -/
def fanOut (s : State) (i : Nat) (msg : List Byte) : State :=
  have s := if s.isJobLeader i then
      ((s.podsOf i).filter (fun p => p != s.podNumber)).foldl (fun s p => s.sendSquall i p none msg) s
    else s
  (s.below i).foldl (fun s d => s.sendSquall i s.podNumber (some d) msg) s

/-- A message up the tree: a pod leader's goes to the job leader's pod, others' to the parent. -/
def sendUp (s : State) (i : Nat) (msg : List Byte) : State :=
  if s.isPodLeader i then s.sendSquall i (s.jobLeaderPod i) none msg else s.sendSquall i s.podNumber (some (s.parentOf i)) msg

/-! ### Status (R275, R281) -/

/-- SEAM_VOTE_STATUS.state and holding, and the module state while an instance is held or fenced. -/
def showVote (s : State) (i : Nat) : State :=
  let v := s.vote i
  let off := R.SEAM_VOTE_STATUS i
  let open' := v.items.filter (fun it => it.voted && (s.decisionOf i it.step).isNone)
  let live := v.applies.filter (fun a => v.history.any (fun d => d.commit && d.step == a.step))
  let top := (open'.map (fun it => it.step) ++ live.map (fun a => a.step)).foldl max 0
  let st := if v.fenced then 5 else if v.held then 4
    else if open'.any (fun it => it.step == top) then 1
    else if live.any (fun a => a.step == top && a.sent) then 3
    else if live.any (fun a => a.step == top) then 2
    else 0
  have s := (s.setFld off F.SEAM_VOTE_STATUS_state st).showPod
  let any := fun (p : VoteState → Bool) => (List.range 8).any (fun j => p (s.vote j))
  if s.modState = 4 ∨ s.modState = 5 ∨ s.modState = 6 then
    s.setModState (if any (fun v => v.fenced) then 6 else if any (fun v => v.held) then 5 else 4)
  else s

/-! ### Applied updates (R275, R276) -/

/-- APPLIED goes up the tree, or counts here at the job leader. -/
def applied (s : State) (i step dev pod : Nat) (fail : Bool) : State :=
  if s.isJobLeader i then { s with localMsgs := s.localMsgs ++ [(i, 0, s.squallMsg i 5 step dev pod 0 (if fail then 1 else 0) [])] }
  else s.sendUp i (s.squallMsg i 5 step dev pod 0 (if fail then 1 else 0) [])

/-- Steps whose items have all ended, committed and not yet reported, report APPLIED in step order (R275, R278). -/
def tryApplied (s : State) (i : Nat) : State :=
  let v := s.vote i
  let due := v.applies.filter (fun a => !a.sent && a.total == some a.ended && v.history.any (fun d => d.commit && d.step == a.step))
  if v.held then s
  else
    have s := s.setVote i { v with applies := v.applies.map (fun a => if due.contains a then { a with sent := true } else a) }
    (due.foldl (fun s a => s.applied i a.step s.podDevice s.podNumber a.failed) s).showVote i

/-- An update item of a step has ended. -/
def itemEnded (s : State) (i step : Nat) (ok : Bool) : State :=
  let v := s.vote i
  let a := (v.applies.find? (fun a => a.step == step)).getD ⟨step, none, 0, false, false⟩
  let a := { a with ended := a.ended + 1, failed := a.failed || !ok }
  (s.setVote i { v with applies := v.applies.filter (fun b => b.step != step) ++ [a] }).tryApplied i

/-- The vote says how many update items its step has. -/
def itemTotal (s : State) (i step total : Nat) : State :=
  let v := s.vote i
  let a := (v.applies.find? (fun a => a.step == step)).getD ⟨step, none, 0, false, false⟩
  (s.setVote i { v with applies := v.applies.filter (fun b => b.step != step) ++ [{ a with total := some total }] }).tryApplied i

end State
end Sys2Proof.Machine
end

