-- ==== Sys2Proof/Machine/Upd.lean ====
section
/-! DEFINITION. The update engines (R262 to R266): the optimisers' element arithmetic, the wait for a decision, the apply. -/
namespace Sys2Proof.Machine

/-! ### The descriptor (R262) -/

/-- An update descriptor's fields. -/
structure UpdPlan where
  opt : Nat
  fw : Fmt
  fg : Fmt
  fm : Fmt
  cw : Cvt
  cm : Cvt
  clipEn : Bool
  w : Nat
  g : Nat
  m : Nat
  v : Nat
  count : Nat
  lr : W32
  wd : W32
  b1 : W32
  b2 : W32
  eps : W32
  gscale : W32
  step : Nat
  seed : Nat
  t : Nat
  clip : W32
  rng : Nat
  deriving DecidableEq, Repr

/-- Whether the optimiser keeps a second moment. -/
def UpdPlan.hasV (p : UpdPlan) : Bool := decide (p.opt = 2 ∨ p.opt = 3 ∨ p.opt = 5)

/-- Bits of an update descriptor that R262 reserves. -/
def updReserved (d : BitVec 1024) : Bool :=
  decide (xw d 0 41 23 ≠ 0 ∨ xw d 1 48 16 ≠ 0 ∨ xw d 2 48 16 ≠ 0 ∨ xw d 3 48 16 ≠ 0 ∨ xw d 4 48 16 ≠ 0 ∨
    xw d 5 40 24 ≠ 0 ∨ xw d 12 48 16 ≠ 0 ∨ xw d 13 16 48 ≠ 0 ∨ xw d 14 0 64 ≠ 0 ∨ xw d 15 0 64 ≠ 0)

/-- The formats that each operand admits. -/
def updFmt (k : Nat) (allowed : List Nat) : Option Fmt := if k ∈ allowed then Fmt.ofCode k else none

/-- A descriptor without a bad field. -/
def updPlan (d : BitVec 1024) : Option UpdPlan :=
  let f := fun w lo => BitVec.ofNat 32 (xw d w lo 32)
  match updFmt (xw d 0 12 4) [1, 2, 3, 4], updFmt (xw d 0 16 4) [0, 1, 2], updFmt (xw d 0 20 4) [0, 2] with
  | some fw, some fg, some fm =>
    match Cvt.check (xw d 0 24 4) fw, Cvt.check (xw d 0 32 4) fm with
    | some cw, some cm =>
      let p : UpdPlan :=
        { opt := xw d 0 8 4, fw := fw, fg := fg, fm := fm, cw := cw, cm := cm, clipEn := bitOf d.toNat 40, w := xw d 1 0 48,
          g := xw d 2 0 48, m := xw d 3 0 48, v := xw d 4 0 48, count := xw d 5 0 40, lr := f 6 0, wd := f 6 32, b1 := f 7 0,
          b2 := f 7 32, eps := f 8 0, gscale := f 8 32, step := xw d 9 0 64, seed := xw d 10 0 64, t := xw d 11 0 32,
          clip := f 11 32, rng := xw d 12 0 48 }
      if updReserved d || decide (5 < p.opt ∨ p.count = 0 ∨ p.t = 0) || (!p.hasV && decide (p.v ≠ 0)) then none else some p
    | _, _ => none
  | _, _, _ => none

def updSem (d : BitVec 1024) : Nat := xw d 13 0 16
def updStep (d : BitVec 1024) : Nat := xw d 9 0 64

/-! ### Arithmetic (R263) -/

/-- β to the power t by squaring and multiplying over the bits of t from the most significant (R263). -/
def fp32Pow (b : W32) (t : Nat) : W32 :=
  (List.range t.log2).foldl (fun r j =>
    let sq := fp32Mul r r
    if bitOf t (t.log2 - 1 - j) then fp32Mul sq b else sq) b

/-- What one item computes once. -/
structure UpdHyper where
  nlr : W32
  c1 : W32
  c2 : W32
  k1 : W32
  k2 : W32
  clip : W32
  deriving DecidableEq, Repr

def UpdPlan.hyper (p : UpdPlan) (n2 : W32) : UpdHyper :=
  { nlr := fp32Neg p.lr, c1 := fp32Sub fp32One p.b1, c2 := fp32Sub fp32One p.b2,
    k1 := fp32Div fp32One (fp32Sub fp32One (fp32Pow p.b1 p.t)),
    k2 := fp32Div fp32One (fp32Sub fp32One (fp32Pow p.b2 p.t)),
    clip := if p.clipEn && (FVal.zero false).lt (ofFp32 n2) then
        fp32Min fp32One (fp32Mul p.clip (toFp32 (rsqrtVal (ofFp32 n2)))) else fp32One }

/-- sign, with sign(±0) = 0; a NaN stays one. -/
def fp32Sign (a : W32) : W32 :=
  match ofFp32 a with
  | .nan => fp32Nan
  | v => if v.isZero then 0 else if v.isNeg then 0xBF800000 else fp32One

/-- One element's results: the new weight, the moments, and everything computed on the way, for the NONFINITE flag (R66). -/
structure UpdElem where
  w : W32
  m : W32
  v : W32
  seen : List W32
  deriving DecidableEq, Repr

/-- ĝ = (g × gscale) × c. -/
def updGrad (p : UpdPlan) (h : UpdHyper) (g : W32) : W32 := fp32Mul (fp32Mul g p.gscale) h.clip

/-- β·m + (1 − β)·x: the first product is the fused one (DEDUCED, log entry 33). -/
def updMoment (b c m x : W32) : W32 := fp32Fma b m (fp32Mul c x)

/-- (m·k₁) / (√(v·k₂) + ε), and the steps on the way. -/
def adamRatio (p : UpdPlan) (h : UpdHyper) (m v : W32) : W32 × List W32 :=
  let a := fp32Mul m h.k1
  let b := fp32Add (fp32Sqrt (fp32Mul v h.k2)) p.eps
  let q := fp32Div a b
  (q, [a, fp32Mul v h.k2, b, q])

/-- LAMB's r from the stored moments. -/
def lambR (p : UpdPlan) (h : UpdHyper) (w m v : W32) : W32 := fp32Fma p.wd w (adamRatio p h m v).1

/-- One element of optimisers 0 to 4, and pass 1 of 5, each line in the order written. -/
def updElem (p : UpdPlan) (h : UpdHyper) (w g m v : W32) : UpdElem :=
  let gh := updGrad p h g
  let d := fp32Fma p.wd w gh
  match p.opt with
  | 0 =>
    let m' := fp32Fma p.b1 m d
    let w' := fp32Fma h.nlr m' w
    ⟨w', m', v, [gh, d, m', w']⟩
  | 1 =>
    let m' := fp32Fma p.b1 m d
    let u := fp32Fma p.b1 m' d
    let w' := fp32Fma h.nlr u w
    ⟨w', m', v, [gh, d, m', u, w']⟩
  | 2 =>
    let m' := updMoment p.b1 h.c1 m d
    let v' := updMoment p.b2 h.c2 v (fp32Mul d d)
    let (q, l) := adamRatio p h m' v'
    let w' := fp32Fma h.nlr q w
    ⟨w', m', v', [gh, d, fp32Mul d d, m', v', w'] ++ l⟩
  | 3 =>
    let m' := updMoment p.b1 h.c1 m gh
    let v' := updMoment p.b2 h.c2 v (fp32Mul gh gh)
    let (q, l) := adamRatio p h m' v'
    let r := fp32Fma p.wd w q
    let w' := fp32Fma h.nlr r w
    ⟨w', m', v', [gh, fp32Mul gh gh, m', v', r, w'] ++ l⟩
  | 4 =>
    let x := updMoment p.b1 h.c1 m gh
    let r := fp32Fma p.wd w (fp32Sign x)
    let w' := fp32Fma h.nlr r w
    let m' := updMoment p.b2 h.c2 m gh
    ⟨w', m', v, [gh, x, r, w', m']⟩
  | _ =>
    let m' := updMoment p.b1 h.c1 m gh
    let v' := updMoment p.b2 h.c2 v (fp32Mul gh gh)
    ⟨w, m', v', [gh, fp32Mul gh gh, m', v']⟩

/-- A sum of squares in 128 lanes, combined in the fixed tree of seven levels (R191, R263). -/
def lambSum (l : List W32) : W32 :=
  let lanes := (lanesOfList 128 l).map (fun xs => xs.foldl (fun a x => fp32Fma x x a) 0)
  ((treeFold fp32Add 7 lanes).head?).getD 0

/-- Pass 2 of LAMB: the new weights from the stored moments, and what was computed. -/
def lambPass2 (p : UpdPlan) (h : UpdHyper) (ws ms vs : List W32) : List W32 × List W32 :=
  let rs := (ws.zip (ms.zip vs)).map (fun e => lambR p h e.1 e.2.1 e.2.2)
  let sw := lambSum ws
  let sr := lambSum rs
  let phi := if (ofFp32 sw).isZero || (ofFp32 sr).isZero then fp32One else fp32Div (fp32Sqrt sw) (fp32Sqrt sr)
  let out := (ws.zip rs).map (fun e => fp32Fma h.nlr (fp32Mul phi e.2) e.1)
  (out, rs ++ out ++ [sw, sr, phi])

/-- New values as stored: converted under the byte of the operand, drawing its stream at each element's address (R62,
R264). -/
def updStore (p : UpdPlan) (f : Fmt) (c : Cvt) (stream base : Nat) (vals : List W32) : List Nat × Bool :=
  let sz := f.bits / 8
  let a := if p.rng = 0 then base else p.rng
  let r := ((List.range vals.length).zip vals).map (fun e =>
    cvtElem f c (randomOf p.seed p.step stream sz (a + e.1 * sz)) (ofFp32 e.2))
  (r.map Prod.fst, r.any (fun e => e.2.nonfinite))

namespace State

/-- An operand widened to FP32. -/
def updRead (s : State) (a : Nat) (f : Fmt) (n : Nat) : List W32 :=
  (unpackBits f.bits n (s.bytesAt a (n * (f.bits / 8)))).map (fun b => toFp32 (f.value b))

def updWrite (s : State) (a : Nat) (f : Fmt) (vals : List Nat) : State := s.putBytes a (packBits f.bits vals)

/-! ### The queue of an engine (R265, R266) -/

def updQ (s : State) (d : Nat) : List UpdItem := s.upd.get [] d

/-- What MEM_UPD_STATUS shows. A waiting head prefetches. -/
def showUpd (s : State) (d : Nat) : State :=
  let q := s.updQ d
  let off := R.MEM_UPD_STATUS d
  let wait := match q.head? with
    | some it => if it.desc.isSome && it.applying.isNone then 1 else 0
    | none => 0
  have s := (s.setFld off F.MEM_UPD_STATUS_queued (min 32 q.length)).setFld off F.MEM_UPD_STATUS_waiting wait
  (s.setFld off F.MEM_UPD_STATUS_prefetching wait).setFld off F.MEM_UPD_STATUS_instance
    ((q.head?.bind (fun it => instOf it.owner)).getD 0)

def setUpdQ (s : State) (d : Nat) (q : List UpdItem) : State := ({ s with upd := s.upd.set [] d q }).showUpd d

/-- The DMA item that carries a unit's item. -/
def carrier (s : State) (o : ItemOrigin) : Option DmaItem := (s.dmaList o.unit).find? (fun x => x.id == o.id)

def updEng (s : State) (d : Nat) (it : UpdItem) : Eng :=
  engOf it.owner ((s.carrier it.origin).bind (fun x => x.snap)) ⟨5, d, d⟩

/-- The head of a die's queue ends with a status. -/
def updEnd (s : State) (d : Nat) (it : UpdItem) (st : Nat) : State :=
  have s := s.setUpdQ d ((s.updQ d).drop 1)
  have s := s.setFld (R.MEM_UPD_STATUS d) F.MEM_UPD_STATUS_last_status st
  have s := if st = 0x31 then s.inc (R.MEM_UPD_SKIPPED d) else s
  let sem := match it.desc with
    | some x => updSem x
    | none => 0xFFFF
  have s := s.finishItem it.origin st 0 sem (.engine 5 d) it.owner
  match instOf it.owner, it.desc with
  | some i, some x => if it.voteOff then s else s.itemEnded i (updStep x) (st == 0)
  | _, _ => s

/-- The head starts: its address, its descriptor, its fields (R262, R414). -/
def updStart (s : State) (d : Nat) (it : UpdItem) : State :=
  let e := s.updEng d it
  if it.src % 128 ≠ 0 then s.updEnd d it 0x02
  else match s.engReadSt e it.src 128 with
    | 0 =>
      let x := BitVec.ofNat 1024 (s.natAt it.src 128)
      let it := { it with desc := some x }
      if xw x 0 0 8 ≠ 0x30 then s.updEnd d it 0x01
      else if (updPlan x).isNone then s.updEnd d it 0x02
      else if s.semForeign (instOf it.owner) (updSem x) then s.updEnd d it 0x65
      else s.setUpdQ d (it :: (s.updQ d).drop 1)
    | st => (s.engFail e st it.src).updEnd d it st

/-- What the decision of its step does to the waiting head (R265). A decided step proceeds though the job is held since. -/
def updRelease (s : State) (d : Nat) (it : UpdItem) (x : BitVec 1024) : State :=
  let i := (instOf it.owner).getD 0
  let go := fun (n : W32) => s.setUpdQ d ({ it with applying := some n } :: (s.updQ d).drop 1)
  if it.voteOff then go 0
  else match s.decisionOf i (updStep x) with
    | some c => if c.commit then go c.n2 else s.updEnd d it 0x31
    | none =>
      let old := match s.lastDecided i with
        | some l => decide (updStep x ≤ l)
        | none => false
      if old then s.updEnd d it 0x02
      else if (s.vote i).held then s.updEnd d it 0x34
      else s.showUpd d

/-- Heads of a die start, and end or apply, until one waits, applies, or the queue is empty. -/
def updRun (s : State) (d : Nat) : Nat → State
  | 0 => s
  | fuel + 1 =>
    match s.updQ d with
    | [] => s.showUpd d
    | it :: rest =>
      if it.applying.isSome then s.showUpd d
      else if s.oldOwner it.owner then
        updRun ((s.setUpdQ d rest).dropDma it.origin.unit it.origin.id) d fuel
      else match it.desc with
        | none => updRun (s.updStart d it) d fuel
        | some x =>
          have t := s.updRelease d it x
          if (t.updQ d).head? = some it then t else updRun t d fuel

def updRunDie (s : State) (d : Nat) : State := s.updRun d (3 * (s.updQ d).length + 3)

/-- Every die's waiting heads look at the decisions again (R265, R275). -/
def updRunAll (s : State) : State := (List.range 4).foldl (fun s d => s.updRunDie d) s

/-! ### The apply (R263, R264) -/

/-- Bytes of an operand. -/
def updLen (p : UpdPlan) (f : Fmt) : Nat := p.count * (f.bits / 8)

/-- The operands that an item reads, and those that it writes. -/
def updReads (p : UpdPlan) : List (Nat × Nat) :=
  [(p.w, updLen p p.fw), (p.g, updLen p p.fg), (p.m, updLen p p.fm)] ++ (if p.hasV then [(p.v, updLen p p.fm)] else [])
def updWrites (p : UpdPlan) : List (Nat × Nat) :=
  [(p.w, updLen p p.fw), (p.m, updLen p p.fm)] ++ (if p.hasV then [(p.v, updLen p p.fm)] else [])

/-- The first failing operand access of an item; a failing read or write ends it before it writes (DESIGN CHOICE, log
entry 34). -/
def updCheck (s : State) (e : Eng) (p : UpdPlan) : Nat × Nat :=
  let r := (updReads p).map (fun o => (s.engReadSt e o.1 o.2, o.1)) ++ (updWrites p).map (fun o => (s.engWriteSt e o.1 o.2, o.1))
  (r.find? (fun x => x.1 != 0)).getD (0, 0)

/-- The bits that an item stores: weights, first and second moments; and whether a result was not finite. -/
def updCompute (s : State) (p : UpdPlan) (n2 : W32) : List Nat × List Nat × List Nat × Bool :=
  let h := p.hyper n2
  let ws := s.updRead p.w p.fw p.count
  let gs := s.updRead p.g p.fg p.count
  let ms := s.updRead p.m p.fm p.count
  let vs := if p.hasV then s.updRead p.v p.fm p.count else ms.map (fun _ => 0)
  let es := (ws.zip (gs.zip (ms.zip vs))).map (fun e => updElem p h e.1 e.2.1 e.2.2.1 e.2.2.2)
  let (mb, mn) := updStore p p.fm p.cm 1 p.m (es.map (fun e => e.m))
  let (vb, vn) := if p.hasV then updStore p p.fm p.cm 1 p.v (es.map (fun e => e.v)) else ([], false)
  let wide := fun (b : Nat) => toFp32 (p.fm.value b)
  let (w', more) := if p.opt = 5 then lambPass2 p h ws (mb.map wide) (vb.map wide) else (es.map (fun e => e.w), [])
  let (wb, wn) := updStore p p.fw p.cw 0 p.w w'
  let seen := es.any (fun e => e.seen.any fp32NonFinite) || more.any fp32NonFinite ||
    [h.k1, h.k2, h.clip].any fp32NonFinite
  (wb, mb, vb, mn || vn || wn || seen)

/-- An applying item stores its results and ends with OK. -/
def updApply (s : State) (d : Nat) (it : UpdItem) (p : UpdPlan) (n2 : W32) : State :=
  let e := s.updEng d it
  match s.updCheck e p with
  | (0, _) =>
    let (wb, mb, vb, nf) := s.updCompute p n2
    have s := (s.updWrite p.m p.fm mb).updWrite p.w p.fw wb
    have s := if p.hasV then s.updWrite p.v p.fm vb else s
    have s := s.add64 (R.MEM_UPD_ELEMENTS d) p.count
    let i := (instOf it.owner).getD 0
    have s := if nf then (s.setRegBit (R.MEM_UPD_FLAGS d) i true).setRegBit (R.MEM_UPD_FLAGS d) (8 + i) true else s
    s.updEnd d it 0
  | (st, a) => (s.engFail e st a).updEnd d it st

/-- An item handed over by a DMA queue joins the engine's queue. -/
def updTake (s : State) (d : DieId) : State :=
  if (s.updQ d.val).length ≥ 32 then s
  else match s.waitingItem (dieUnits d) 0x49 (fun _ => true) with
    | none => s
    | some (u, x) =>
      let off := match instOf x.owner with
        | some i => !s.voteOn i
        | none => true
      let it : UpdItem :=
        { src := dw x.desc 1 0 48, owner := x.owner, origin := ⟨u, x.id⟩, voteOff := off, desc := none, applying := none }
      (s.handItem u x).setUpdQ d.val (s.updQ d.val ++ [it])

end State

/-- UPDATE_ITEM (R262, R265): a waiting item of the die joins its update engine's queue of depth 32; the head starts, and
waits for its step's decision or begins to apply. -/
def execUpdateItem (d : DieId) (s : State) : Out := .next ((s.updTake d).updRunDie d.val)

/-- UPDATE_APPLY_COMPLETE (R263 to R265): the applying head's update has been written; the next head starts. -/
def execUpdateApplyComplete (d : DieId) (s : State) : Out :=
  match s.updQ d.val with
  | it :: _ =>
    (match it.applying, it.desc.bind updPlan with
     | some n2, some p =>
       if s.oldOwner it.owner then
         .next (((s.setUpdQ d.val ((s.updQ d.val).drop 1)).dropDma it.origin.unit it.origin.id).updRunDie d.val)
       else .next ((s.updApply d.val it p n2).updRunDie d.val)
     | _, _ => .next s)
  | [] => .next s

end Sys2Proof.Machine
end

