-- ==== Sys2Proof/Machine/Kv.lean ====
section
/-! DEFINITION. The KV spaces and their walkers (R218 to R234): tables, the prefix tree, admission, the KV commands, translation. -/
namespace Sys2Proof.Machine

/-! ### SipHash-2-4 (R224) -/

def rotl64 (x k : Nat) : Nat := (x * 2 ^ k + x / 2 ^ (64 - k)) % 2 ^ 64

/-- One SipRound on (v0, v1, v2, v3). -/
def sipRound (v : Nat × Nat × Nat × Nat) : Nat × Nat × Nat × Nat :=
  let (v0, v1, v2, v3) := v
  let v0 := (v0 + v1) % 2 ^ 64
  let v1 := Nat.xor (rotl64 v1 13) v0
  let v0 := rotl64 v0 32
  let v2 := (v2 + v3) % 2 ^ 64
  let v3 := Nat.xor (rotl64 v3 16) v2
  let v0 := (v0 + v3) % 2 ^ 64
  let v3 := Nat.xor (rotl64 v3 21) v0
  let v2 := (v2 + v1) % 2 ^ 64
  let v1 := Nat.xor (rotl64 v1 17) v2
  (v0, v1, rotl64 v2 32, v3)

/-- Absorption of one 64-bit word with two rounds. -/
def sipWord (v : Nat × Nat × Nat × Nat) (m : Nat) : Nat × Nat × Nat × Nat :=
  let (v0, v1, v2, v3) := v
  let (a, b, c, d) := sipRound (sipRound (v0, v1, v2, Nat.xor v3 m))
  (Nat.xor a m, b, c, d)

/-- SipHash-2-4 of a byte string under a 128-bit key. -/
def sipHash (key : BitVec 128) (msg : List Byte) : Nat :=
  let k0 := bitsOf key.toNat 0 64
  let k1 := bitsOf key.toNat 64 64
  let n := msg.length
  let words := (List.range (n / 8)).map (fun j => natOfBytes ((msg.drop (8 * j)).take 8)) ++
    [natOfBytes (msg.drop (8 * (n / 8))) + n % 256 * 2 ^ 56]
  let v := words.foldl sipWord (Nat.xor k0 0x736f6d6570736575, Nat.xor k1 0x646f72616e646f6d,
    Nat.xor k0 0x6c7967656e657261, Nat.xor k1 0x7465646279746573)
  let (v0, v1, v2, v3) := v
  let (a, b, c, d) := sipRound (sipRound (sipRound (sipRound (v0, v1, Nat.xor v2 0xff, v3))))
  Nat.xor (Nat.xor a b) (Nat.xor c d)

/-- The hash of a block from its predecessor's (R224). -/
def blockHash (key : BitVec 128) (prev : Nat) (tokens : List Byte) : Nat := sipHash key (bytesOf prev 8 ++ tokens)

namespace State

/-! ### Parameters (R218, R219) -/

def kvOn (s : State) (n : Nat) : Bool := decide (s.fld (R.KV_SPACE_CFG n) F.KV_SPACE_CFG_enable = 1)
def kvHome (s : State) (n : Nat) : Nat := s.fld (R.KV_SPACE_CFG n) F.KV_SPACE_CFG_home_die
def kvFmt (s : State) (n : Nat) : Fmt := (Fmt.ofCode (s.fld (R.KV_SPACE_CFG n) F.KV_SPACE_CFG_fmt)).getD .bf16
def kvHd (s : State) (n : Nat) : Nat := 64 * 2 ^ s.fld (R.KV_SPACE_CFG n) F.KV_SPACE_CFG_hd
def kvLayers (s : State) (n : Nat) : Nat := s.fld (R.KV_SPACE_CFG n) F.KV_SPACE_CFG_layers
def kvHeads (s : State) (n : Nat) : Nat := s.fld (R.KV_SPACE_CFG n) F.KV_SPACE_CFG_kv_heads
def kvOwner (s : State) (n : Nat) : Nat := s.fld (R.KV_SPACE_OWNER n) F.KV_SPACE_OWNER_instance
def kvSlots (s : State) (n : Nat) : Nat := s.fld (R.KV_SPACE_LIMITS n) F.KV_SPACE_LIMITS_slots
def kvMaxBlocks (s : State) (n : Nat) : Nat := s.fld (R.KV_SPACE_LIMITS n) F.KV_SPACE_LIMITS_max_blocks
def kvFrames (s : State) (n : Nat) : Nat := s.fld (R.KV_POOL_FRAMES n) F.KV_POOL_FRAMES_frames
/-- Bytes of a row, tokens of a block, bytes of a page set. -/
def kvRow (s : State) (n : Nat) : Nat := s.kvHd n * ((s.kvFmt n).bits / 8)
def kvT (s : State) (n : Nat) : Nat := 32768 / max 1 (s.kvRow n)
def kvSet (s : State) (n : Nat) : Nat := s.kvLayers n * s.kvHeads n * 65536

/-- The page of a layer and head of a frame. -/
def kvPage (s : State) (n frame layer head : Nat) : Nat :=
  (s.reg (R.KV_POOL_BASE n)).toNat + frame * s.kvSet n + (layer * s.kvHeads n + head) * 65536

def l1At (s : State) (n slot : Nat) : Nat := (s.reg (R.KV_L1_BASE n)).toNat + 16 * slot
def l2At (s : State) (n slot b : Nat) : Nat := (s.reg (R.KV_L2_BASE n)).toNat + (slot * s.kvMaxBlocks n + b) * 4
def tokAt (s : State) (n frame : Nat) : Nat := (s.reg (R.KV_TOKEN_BASE n)).toNat + frame * s.kvT n * 4

/-- A slot's level-1 entry: open, length, reserved blocks. -/
def kvOpenSlot (s : State) (n slot : Nat) : Bool := bitOf (s.natAt (s.l1At n slot) 8) 48
def kvLen (s : State) (n slot : Nat) : Nat := if s.kvOpenSlot n slot then s.natAt (s.l1At n slot + 8) 4 else 0
def kvRes (s : State) (n slot : Nat) : Nat := s.natAt (s.l1At n slot + 12) 4

def setL1 (s : State) (n slot : Nat) (open' : Bool) (len res : Nat) : State :=
  s.putNat (s.l1At n slot) 16 (s.l2At n slot 0 % 2 ^ 48 + (if open' then 2 ^ 48 else 0) + len % 2 ^ 32 * 2 ^ 64 + res % 2 ^ 32 * 2 ^ 96)

/-- The frame of a slot's block, when its level-2 entry is valid. -/
def kvFrame (s : State) (n slot b : Nat) : Option Nat :=
  let e := s.natAt (s.l2At n slot b) 4
  if bitOf e 31 then some (e % 2 ^ 24) else none

def setL2 (s : State) (n slot b : Nat) (f : Option Nat) : State :=
  s.putNat (s.l2At n slot b) 4 (match f with
    | some f => f % 2 ^ 24 + 2 ^ 31
    | none => 0)

/-- Blocks of a length. -/
def kvBlocks (s : State) (n len : Nat) : Nat := cdiv len (s.kvT n)

def kvSpace (s : State) (n : Nat) : KvSpace := s.kv.get KvSpace.reset n
def kvKey (s : State) (n : Nat) : BitVec 128 := s.host.kvKeys.get 0 n

/-- The frame counters follow the walker's lists. -/
def setKv (s : State) (n : Nat) (k : KvSpace) : State :=
  have s := { s with kv := s.kv.set KvSpace.reset n k }
  have s := s.setFld (R.KV_FRAMES_FREE n) F.KV_FRAMES_FREE_count k.free.length
  s.setFld (R.KV_FRAMES_EVICTABLE n) F.KV_FRAMES_EVICTABLE_count
    (k.tree.filter (fun e => decide (k.refs.get 0 e.frame = 0))).length

def kvFreeCount (s : State) (n : Nat) : Nat := s.fld (R.KV_FRAMES_FREE n) F.KV_FRAMES_FREE_count
def kvEvictable (s : State) (n : Nat) : Nat := s.fld (R.KV_FRAMES_EVICTABLE n) F.KV_FRAMES_EVICTABLE_count
def kvReserved (s : State) (n : Nat) : Nat := s.fld (R.KV_FRAMES_RESERVED n) F.KV_FRAMES_RESERVED_count
def setReserved (s : State) (n v : Nat) : State := s.setFld (R.KV_FRAMES_RESERVED n) F.KV_FRAMES_RESERVED_count v

/-! ### The look-aside buffers (R231, R232) -/

def labOf (s : State) (d : Nat) : List LabEntry := s.lab.get [] d
def setLab (s : State) (d : Nat) (l : List LabEntry) : State := { s with lab := s.lab.set [] d l }

/-- Entries that a test picks leave all four walkers. -/
def labDrop (s : State) (p : LabEntry → Bool) : State :=
  (List.range 4).foldl (fun s d => s.setLab d ((s.labOf d).filter (fun e => !p e))) s

/-- An entry joins a walker's buffer of 256; the least recently used one leaves. -/
def labAdd (s : State) (d : Nat) (e : LabEntry) : State :=
  let l := s.labOf d
  s.setLab d ((if l.length ≥ 256 then l.drop 1 else l) ++ [e])

/-- Whether an entry stands for a block of a slot, under the space's instance and its generation. -/
def labHit (s : State) (space slot block : Nat) (e : LabEntry) : Bool :=
  e.space == space && e.slot == slot && e.block == block && e.inst == s.kvOwner space && e.gen == s.gen e.inst

/-- The frame that the tables give a block of an open slot below its length. -/
def kvLookup (s : State) (space slot block : Nat) : Option Nat :=
  if s.kvOpenSlot space slot && decide (block < s.kvBlocks space (s.kvLen space slot)) then s.kvFrame space slot block else none

/-- One translation by the walker of die `d`: a hit, or a walk of the tables; then the next block is prefetched. -/
def kvTranslate (s : State) (d space slot block : Nat) : Option Nat × State :=
  let entry := fun (b f : Nat) => (⟨space, slot, b, f, s.kvOwner space, s.gen (s.kvOwner space)⟩ : LabEntry)
  let fetch := fun (s : State) => match (s.labOf d).any (s.labHit space slot (block + 1)), s.kvLookup space slot (block + 1) with
    | false, some f => s.labAdd d (entry (block + 1) f)
    | _, _ => s
  match (s.labOf d).find? (s.labHit space slot block) with
  | some e =>
    have s := s.setLab d ((s.labOf d).filter (fun x => x != e) ++ [e])
    (some e.frame, fetch (s.add64 (R.KV_WLK_HITS d) 1))
  | none =>
    have s := s.add64 (R.KV_WLK_MISSES d) 1
    match s.kvLookup space slot block with
    | some f => (some f, fetch (s.labAdd d (entry block f)))
    | none => (none, s)

/-! ### Frames (R223) -/

/-- The evictable set with the oldest age, ties to the lower frame. -/
def kvVictim (k : KvSpace) : Option KvNode :=
  (k.tree.filter (fun e => decide (k.refs.get 0 e.frame = 0))).foldl (fun (a : Option KvNode) e => match a with
    | none => some e
    | some b =>
      let x := e.age.getD 0
      let y := b.age.getD 0
      if x < y ∨ (x = y ∧ e.frame < b.frame) then some e else some b) none

/-- A frame for a slot, with one reference: any frame of the free list (a free value: the manual does not say which), else
the evicted one. -/
def kvAlloc (s : State) (n : Nat) : Option Nat × State :=
  let k := s.kvSpace n
  if k.free.isEmpty then
    match kvVictim k with
    | none => (none, s)
    | some e =>
      have s := s.setKv n { k with tree := k.tree.filter (fun x => x != e), refs := k.refs.set 0 e.frame 1 }
      have s := s.labDrop (fun x => x.space == n && x.frame == e.frame)
      (some e.frame, s.add64 (R.KV_EVICTIONS n) 1)
  else
    let (v, s) := s.fresh
    match k.free[v % k.free.length]? with
    | none => (none, s)
    | some f => (some f, s.setKv n { k with free := k.free.filter (fun x => x != f), refs := k.refs.set 0 f 1 })

/-- A reference to a set; a set of the tree is no longer evictable. -/
def kvRef (s : State) (n f : Nat) : State :=
  let k := s.kvSpace n
  s.setKv n { k with refs := k.refs.set 0 f (k.refs.get 0 f + 1),
                     tree := k.tree.map (fun e => if e.frame = f then { e with age := none } else e) }

/-- One reference less: at 0 a set of the tree becomes evictable now, another is freed (R222). -/
def kvUnref (s : State) (n f : Nat) : State :=
  let k := s.kvSpace n
  let r := k.refs.get 0 f - 1
  let k := { k with refs := k.refs.set 0 f r }
  if r ≠ 0 then s.setKv n k
  else if k.tree.any (fun e => e.frame == f) then
    s.setKv n { k with tree := k.tree.map (fun e => if e.frame = f then { e with age := some s.time } else e) }
  else s.setKv n { k with free := k.free ++ [f] }

/-- Blocks `from` to `to` − 1 of a slot take frames out of its reservation; false where none is left. -/
def kvGrow (s : State) (n slot : Nat) : List Nat → Bool × State
  | [] => (true, s)
  | b :: rest =>
    match s.kvAlloc n with
    | (none, s) => (false, s)
    | (some f, s) => kvGrow ((s.setL2 n slot b (some f)).setReserved n (s.kvReserved n - 1)) n slot rest

/-- Token IDs of positions from `pos` on stand in the token table. -/
def putTokens (s : State) (n slot pos : Nat) (toks : List Byte) : State :=
  (List.range (toks.length / 4)).foldl (fun s j =>
    match s.kvFrame n slot ((pos + j) / s.kvT n) with
    | some f => s.putBytes (s.tokAt n f + (pos + j) % s.kvT n * 4) ((toks.drop (4 * j)).take 4)
    | none => s) s

def frameTokens (s : State) (n f : Nat) : List Byte := s.bytesAt (s.tokAt n f) (s.kvT n * 4)

/-- The prompt's full blocks that stand in the tree, in order: their frames, and whether a hash met other tokens (R222). -/
def kvMatch (s : State) (n : Nat) (prev : Nat) : List (List Byte) → List Nat × Bool
  | [] => ([], false)
  | b :: rest =>
    let h := blockHash (s.kvKey n) prev b
    match (s.kvSpace n).tree.filter (fun e => e.hash == h) with
    | [] => ([], false)
    | hits =>
      match hits.find? (fun e => s.frameTokens n e.frame == b) with
      | some e =>
        let (l, m) := kvMatch s n h rest
        (e.frame :: l, m)
      | none => ([], true)

/-! ### The commands (R221, R222) -/

namespace KvCmd
def op (d : BitVec 512) : Nat := dw d 0 16 4
def space (d : BitVec 512) : Nat := dw d 0 20 3
def slot (d : BitVec 512) : Nat := dw d 1 0 16
def parent (d : BitVec 512) : Nat := dw d 1 32 16
def tok (d : BitVec 512) : Nat := dw d 2 0 48
def count (d : BitVec 512) : Nat := dw d 3 0 32
def maxTokens (d : BitVec 512) : Nat := dw d 3 32 32
def res (d : BitVec 512) : Nat := dw d 4 0 48
def sem (d : BitVec 512) : Nat := dw d 5 0 16
def reserved (d : BitVec 512) : Bool :=
  decide (dw d 0 11 5 ≠ 0 ∨ dw d 0 23 41 ≠ 0 ∨ dw d 1 16 16 ≠ 0 ∨ dw d 1 48 16 ≠ 0 ∨ dw d 2 48 16 ≠ 0 ∨ dw d 4 48 16 ≠ 0 ∨
    dw d 5 16 48 ≠ 0 ∨ dw d 6 0 64 ≠ 0 ∨ dw d 7 0 64 ≠ 0)
end KvCmd

/-- Whether a command is malformed: its reserved bits, its space, slots and counts. A space that is not enabled or not the
instance's is refused so too (DESIGN CHOICE, log entry 39). -/
def kvBad (s : State) (it : KvItem) : Bool :=
  let d := it.desc
  let n := KvCmd.space d
  let op := KvCmd.op d
  KvCmd.reserved d || decide (4 < op ∨ KvCmd.res d % 16 ≠ 0) || !s.kvOn n || decide (instOf it.owner ≠ some (s.kvOwner n)) ||
  decide (s.kvSlots n ≤ KvCmd.slot d) ||
  (op == 0 && decide (KvCmd.count d < 1 ∨ KvCmd.maxTokens d < KvCmd.count d ∨ s.kvMaxBlocks n * s.kvT n < KvCmd.count d)) ||
  (op == 2 && decide (s.kvSlots n ≤ KvCmd.parent d ∨ KvCmd.maxTokens d < s.kvLen n (KvCmd.parent d)))

def kvEng (s : State) (it : KvItem) : Eng :=
  engOf it.owner ((s.carrier it.origin).bind (fun x => x.snap)) ⟨7, s.kvHome (KvCmd.space it.desc), KvCmd.space it.desc⟩

/-- A command completes: its result record is written, then it is reported (R221). -/
def kvEnd (s : State) (it : KvItem) (st tokens : Nat) (record : Bool) : State :=
  let d := it.desc
  let n := KvCmd.space d
  let word := st + tokens % 2 ^ 32 * 2 ^ 32
  let len := s.kvLen n (KvCmd.slot d)
  let e := s.kvEng it
  let st' := if record then s.engWriteSt e (KvCmd.res d) 16 else 0
  have s := if !record then s
    else if st' = 0 then s.putBytes (KvCmd.res d) (bytesOf word 8 ++ bytesOf len 8)
    else s.engFail e st' (KvCmd.res d)
  s.finishItem it.origin (if st' = 0 then st else st') word (KvCmd.sem d) (.engine 7 (s.kvHome n)) it.owner

/-- OPEN (R222, R223). -/
def kvOpenCmd (s : State) (it : KvItem) : State :=
  let d := it.desc
  let n := KvCmd.space d
  let slot := KvCmd.slot d
  let count := KvCmd.count d
  let t := s.kvT n
  if s.kvOpenSlot n slot then s.kvEnd it 0x22 0 true
  else match s.engReadSt (s.kvEng it) (KvCmd.tok d) (4 * count) with
    | 0 =>
      let toks := s.bytesAt (KvCmd.tok d) (4 * count)
      let blocks := (List.range (count / t)).map (fun b => (toks.drop (4 * t * b)).take (4 * t))
      let (hit, clash) := s.kvMatch n 0 blocks
      have s := if clash then s.inc (R.KV_HASH_MISMATCH n) else s
      let k := hit.length
      let need := cdiv (KvCmd.maxTokens d) t - k
      let u := (hit.filter (fun f => decide ((s.kvSpace n).refs.get 0 f = 0))).length
      if s.kvReserved n + need + u > s.kvFreeCount n + s.kvEvictable n then (s.inc (R.KV_FULL_COUNT n)).kvEnd it 0x21 0 true
      else
        have s := hit.foldl (fun s f => s.kvRef n f) s
        have s := ((List.range k).zip hit).foldl (fun s e => s.setL2 n slot e.1 (some e.2)) s
        have s := s.setReserved n (s.kvReserved n + need)
        let nb := cdiv count t
        let (_, s) := s.kvGrow n slot ((List.range (nb - k)).map (fun j => k + j))
        have s := s.setL1 n slot true count (need - (nb - k))
        have s := s.putTokens n slot (k * t) (toks.drop (4 * t * k))
        let sp := s.kvSpace n
        have s := s.setKv n { sp with maxTokens := sp.maxTokens.set 0 slot (KvCmd.maxTokens d) }
        have s := s.setFld (R.KV_OPEN_SEQS n) F.KV_OPEN_SEQS_count (s.fld (R.KV_OPEN_SEQS n) F.KV_OPEN_SEQS_count + 1)
        (s.add64 (R.KV_PREFIX_HITS n) k).kvEnd it 0 (k * t) true
    | st => (s.engFail (s.kvEng it) st (KvCmd.tok d)).kvEnd it st 0 true

/-- The pages of a shared set are copied into a new one for a slot (R227). -/
def kvCow (s : State) (n slot b rows : Nat) (old : Nat) : Bool × State :=
  match s.kvAlloc n with
  | (none, s) => (false, s)
  | (some f, s) =>
    let len := rows * s.kvRow n
    have s := (List.range (s.kvLayers n * s.kvHeads n)).foldl (fun s p =>
      let src := s.kvPage n old 0 0 + p * 65536
      let dst := s.kvPage n f 0 0 + p * 65536
      (s.putBytes dst (s.bytesAt src len)).putBytes (dst + 32768) (s.bytesAt (src + 32768) len)) s
    have s := s.putBytes (s.tokAt n f) (s.bytesAt (s.tokAt n old) (4 * rows))
    have s := (s.setL2 n slot b (some f)).kvUnref n old
    have s := s.labDrop (fun e => e.space == n && e.slot == slot && e.block == b)
    (true, s.inc (R.KV_COW_COPIES n))

/-- APPEND (R222, R227). A copy takes its frame from the slot's reservation. -/
def kvAppendCmd (s : State) (it : KvItem) : State :=
  let d := it.desc
  let n := KvCmd.space d
  let slot := KvCmd.slot d
  let count := KvCmd.count d
  let t := s.kvT n
  let len := s.kvLen n slot
  if !s.kvOpenSlot n slot then s.kvEnd it 0x22 0 true
  else if len + count > (s.kvSpace n).maxTokens.get 0 slot ∨ len + count > s.kvMaxBlocks n * t then s.kvEnd it 0x23 0 true
  else match s.engReadSt (s.kvEng it) (KvCmd.tok d) (4 * count) with
    | 0 =>
      let toks := s.bytesAt (KvCmd.tok d) (4 * count)
      let shared := match s.kvFrame n slot (len / t) with
        | some f => if count ≠ 0 ∧ len % t ≠ 0 ∧ (s.kvSpace n).refs.get 0 f > 1 then some f else none
        | none => none
      let res := s.kvRes n slot
      let (ok, s) := match shared with
        | some f =>
          let (ok, s) := s.kvCow n slot (len / t) (len % t) f
          (ok, s.setReserved n (s.kvReserved n - min 1 res))
        | none => (true, s)
      let res := if shared.isSome then res - 1 else res
      if !ok then s.kvEnd it 0x21 0 true
      else
        let have' := cdiv len t
        let want := cdiv (len + count) t
        let (_, s) := s.kvGrow n slot ((List.range (want - have')).map (fun j => have' + j))
        have s := s.setL1 n slot true (len + count) (res - (want - have'))
        (s.putTokens n slot len toks).kvEnd it 0 0 true
    | st => (s.engFail (s.kvEng it) st (KvCmd.tok d)).kvEnd it st 0 true

/-- FORK (R222). -/
def kvForkCmd (s : State) (it : KvItem) : State :=
  let d := it.desc
  let n := KvCmd.space d
  let slot := KvCmd.slot d
  let parent := KvCmd.parent d
  let t := s.kvT n
  let len := s.kvLen n parent
  if !s.kvOpenSlot n parent || s.kvOpenSlot n slot then s.kvEnd it 0x22 0 true
  else
    let need := cdiv (KvCmd.maxTokens d) t - len / t
    if s.kvReserved n + need > s.kvFreeCount n + s.kvEvictable n then (s.inc (R.KV_FULL_COUNT n)).kvEnd it 0x21 0 true
    else
      have s := (List.range (cdiv len t)).foldl (fun s b => match s.kvFrame n parent b with
        | some f => (s.kvRef n f).setL2 n slot b (some f)
        | none => s) s
      have s := (s.setReserved n (s.kvReserved n + need)).setL1 n slot true len need
      let sp := s.kvSpace n
      have s := s.setKv n { sp with maxTokens := sp.maxTokens.set 0 slot (KvCmd.maxTokens d) }
      (s.setFld (R.KV_OPEN_SEQS n) F.KV_OPEN_SEQS_count (s.fld (R.KV_OPEN_SEQS n) F.KV_OPEN_SEQS_count + 1)).kvEnd it 0 0 true

/-- PUBLISH (R222). -/
def kvPublishCmd (s : State) (it : KvItem) : State :=
  let d := it.desc
  let n := KvCmd.space d
  let slot := KvCmd.slot d
  if !s.kvOpenSlot n slot then s.kvEnd it 0x22 0 true
  else
    let full := min (KvCmd.count d) (s.kvLen n slot) / s.kvT n
    let r := (List.range full).foldl (fun (st : Nat × State) b =>
      match st.2.kvFrame n slot b with
      | none => st
      | some f =>
        let toks := st.2.frameTokens n f
        let h := blockHash (st.2.kvKey n) st.1 toks
        let k := st.2.kvSpace n
        let there := k.tree.any (fun e => e.frame == f || (e.hash == h && st.2.frameTokens n e.frame == toks))
        (h, if there then st.2 else st.2.setKv n { k with tree := k.tree ++ [⟨h, f, none⟩] })) (0, s)
    r.2.kvEnd it 0 0 true

/-- The slot of a CLOSE is released (R222, R229, R232). -/
def kvRelease (s : State) (it : KvItem) : State :=
  let n := KvCmd.space it.desc
  let slot := KvCmd.slot it.desc
  let nb := s.kvBlocks n (s.kvLen n slot)
  have s := (List.range nb).foldl (fun s b => match s.kvFrame n slot b with
    | some f => (s.kvUnref n f).setL2 n slot b none
    | none => s) s
  have s := s.setReserved n (s.kvReserved n - s.kvRes n slot)
  have s := s.setL1 n slot false 0 0
  let k := s.kvSpace n
  have s := s.setKv n { k with maxTokens := k.maxTokens.set 0 slot 0, closing := none }
  have s := s.labDrop (fun e => e.space == n && e.slot == slot)
  (s.setFld (R.KV_OPEN_SEQS n) F.KV_OPEN_SEQS_count (s.fld (R.KV_OPEN_SEQS n) F.KV_OPEN_SEQS_count - 1)).kvEnd it 0 0 true

/-- CLOSE: a pinned slot is waited for, and the commands behind it wait too. -/
def kvCloseCmd (s : State) (it : KvItem) : State :=
  let n := KvCmd.space it.desc
  let slot := KvCmd.slot it.desc
  if !s.kvOpenSlot n slot then s.kvEnd it 0x22 0 true
  else if (s.kvSpace n).pins.get 0 slot = 0 then s.kvRelease it
  else s.setKv n { s.kvSpace n with closing := some (slot, it) }

/-- Waiting KV records of the module join the queue of their space, 64 deep, in unit order. -/
def kvDeliver (s : State) (n : Nat) : Nat → State
  | 0 => s
  | fuel + 1 =>
    let k := s.kvSpace n
    if k.queue.length ≥ 64 then s
    else match s.waitingItem ((List.finRange 128).map DmaUnit.core ++ (List.finRange 4).map DmaUnit.die) 0x48
        (fun it => KvCmd.space it.desc == n) with
      | none => s
      | some (u, x) => kvDeliver ((s.handItem u x).setKv n { k with queue := k.queue ++ [⟨x.desc, x.owner, ⟨u, x.id⟩⟩] }) n fuel

/-- The home walker takes the head of a space's queue when it is a command of an operation (R222); malformed commands end
with the OPEN row. -/
def kvCommand (s : State) (n op : Nat) (f : State → KvItem → State) : State :=
  have s := s.kvDeliver n 64
  let k := s.kvSpace n
  match k.closing, k.queue with
  | none, it :: rest =>
    if s.oldOwner it.owner then (s.setKv n { k with queue := rest }).dropDma it.origin.unit it.origin.id
    else if s.kvBad it then (if op = 0 then (s.setKv n { k with queue := rest }).kvEnd it 0x02 0 false else s)
    else if KvCmd.op it.desc ≠ op then s
    else
      have s := s.setKv n { k with queue := rest }
      if s.semForeign (instOf it.owner) (KvCmd.sem it.desc) then s.kvEnd it 0x65 0 true else f s it
  | _, _ => s

/-! ### Enabling (R220, R234) -/

/-- A range of memory is zeroed. -/
def zeroRange (s : State) (a n : Nat) : State :=
  let hit := fun (l : Nat) => decide (256 * l < a + n ∧ a < 256 * l + 256)
  let lines := (s.msys.lines.filter (fun e => hit e.1)).map Prod.fst ++
    (s.msys.victims.flatMap (fun q => (q.2.filter (fun v => hit v.line)).map (fun v => v.line)))
  have s := lines.foldl (fun s l =>
    (List.range 256).foldl (fun s j => if a ≤ 256 * l + j ∧ 256 * l + j < a + n then s.putByte (256 * l + j) 0 else s) s) s
  have s := s.clearPoison a n
  { s with mem := s.mem.filter (fun c => !(decide (a ≤ c.1 ∧ c.1 < a + n))) }

/-- A space as it is just after enable. -/
def kvFreshSpace (s : State) (n : Nat) : State :=
  have s := s.zeroRange (s.l1At n 0) (16 * s.kvSlots n)
  have s := s.zeroRange (s.l2At n 0 0) (4 * s.kvSlots n * s.kvMaxBlocks n)
  have s := s.setKv n { KvSpace.reset with free := List.range (s.kvFrames n) }
  have s := (s.setReserved n 0).setFld (R.KV_OPEN_SEQS n) F.KV_OPEN_SEQS_count 0
  s.labDrop (fun e => e.space == n)

/-- The areas of a space: base and size. -/
def kvAreas (s : State) (n : Nat) : List (Nat × Nat) :=
  [((s.reg (R.KV_L1_BASE n)).toNat, 16 * s.kvSlots n), ((s.reg (R.KV_L2_BASE n)).toNat, 4 * s.kvSlots n * s.kvMaxBlocks n),
   ((s.reg (R.KV_POOL_BASE n)).toNat, s.kvFrames n * s.kvSet n), ((s.reg (R.KV_TREE_BASE n)).toNat, 64 * s.kvFrames n),
   ((s.reg (R.KV_TOKEN_BASE n)).toNat, 4 * s.kvT n * s.kvFrames n)]

/-- The conditions of R220; the walker of a die that failed its test exists for no instance (R458). -/
def kvCanEnable (s : State) (n : Nat) : Bool :=
  let cfg := R.KV_SPACE_CFG n
  let others := ((List.range 8).filter (fun k => k != n && s.kvOn k)).map s.kvSlots
  decide (1 ≤ s.fld cfg F.KV_SPACE_CFG_fmt ∧ s.fld cfg F.KV_SPACE_CFG_fmt ≤ 4 ∧ s.fld cfg F.KV_SPACE_CFG_hd < 3 ∧
    1 ≤ s.kvLayers n ∧ 1 ≤ s.kvHeads n ∧ s.kvHeads n ≤ 64 ∧ 1 ≤ s.kvSlots n ∧ s.kvSlots n ≤ 65536 ∧ 1 ≤ s.kvMaxBlocks n ∧
    s.kvMaxBlocks n ≤ 4096 ∧ others.sum + s.kvSlots n ≤ 65536) &&
  (s.kvAreas n).all (fun a => decide (a.1 % 4096 = 0 ∧ a.1 + a.2 ≤ 0x18000000000) && s.checkRange (.inst (s.kvOwner n)) a.1 a.2 == 0) &&
  s.host.kvKeys.any (fun e => e.1 == n) && !bitOf s.msys.noDie (s.kvHome n)

/-- A write of KV_SPACE_CFG (R220). -/
def writeKvCfg (s : State) (n v : Nat) : State :=
  let off := R.KV_SPACE_CFG n
  let seqs := s.fld (R.KV_OPEN_SEQS n) F.KV_OPEN_SEQS_count
  if s.kvOn n then
    if bitOf v 0 then s
    else if seqs = 0 then s.setFld off F.KV_SPACE_CFG_enable 0
    else s.log 2 0x2B ⟨7, s.kvHome n, n⟩ (some (s.kvOwner n)) (value := seqs)
  else
    let err := s.fld off F.KV_SPACE_CFG_cfg_error
    have s := s.setReg off (BitVec.ofNat 64 (bitsOf v 1 8 * 2 + bitsOf v 16 15 * 2 ^ 16 + err * 2 ^ 31))
    if !bitOf v 0 then s
    else if s.kvCanEnable n then
      have s := (s.setFld off F.KV_SPACE_CFG_enable 1).setFld off F.KV_SPACE_CFG_cfg_error 0
      have s := [R.KV_FULL_COUNT n, R.KV_PREFIX_HITS n, R.KV_EVICTIONS n, R.KV_COW_COPIES n, R.KV_HASH_MISMATCH n].foldl
        (fun s r => s.setReg r 0) s
      s.kvFreshSpace n
    else s.setFld off F.KV_SPACE_CFG_cfg_error 1

/-- An instance reset returns its enabled spaces to their state just after enable; counters stay (R234). -/
def resetKv (s : State) (i : Nat) : State :=
  have s := ((List.range 8).filter (fun n => s.kvOn n && s.kvOwner n == i)).foldl (fun s n => s.kvFreshSpace n) s
  s.labDrop (fun e => e.inst == i)

end State

/-! ### Commands -/

/-- KV_OPEN (R222): the head of the space's queue, an OPEN; a malformed head ends here with BAD_FIELD. -/
def execKvOpen (space : InstId) (s : State) : Out := .next (s.kvCommand space.val 0 State.kvOpenCmd)
/-- KV_APPEND (R222). -/
def execKvAppend (space : InstId) (s : State) : Out := .next (s.kvCommand space.val 1 State.kvAppendCmd)
/-- KV_FORK (R222). -/
def execKvFork (space : InstId) (s : State) : Out := .next (s.kvCommand space.val 2 State.kvForkCmd)
/-- KV_PUBLISH (R222). -/
def execKvPublish (space : InstId) (s : State) : Out := .next (s.kvCommand space.val 3 State.kvPublishCmd)
/-- KV_CLOSE (R222): a slot without pins is released at once. -/
def execKvClose (space : InstId) (s : State) : Out := .next (s.kvCommand space.val 4 State.kvCloseCmd)

/-- KV_CLOSE_RELEASE (R222, R229): the CLOSE that waited for its slot's pins goes on. -/
def execKvCloseRelease (space : InstId) (slot : Nat) (s : State) : Out :=
  let k := s.kvSpace space.val
  match k.closing with
  | some (w, it) =>
    if w = slot ∧ k.pins.get 0 slot = 0 then
      if s.oldOwner it.owner then .next ((s.setKv space.val { k with closing := none }).dropDma it.origin.unit it.origin.id)
      else .next (s.kvRelease it)
    else .next s
  | none => .next s

/-- KV_TRANSLATION (R231); a failed die has no walker (R458). -/
def execKvTranslation (d : DieId) (space slot block : Nat) (s : State) : Out :=
  .next (if bitOf s.msys.noDie d.val then s else (s.kvTranslate d.val (space % 8) slot block).2)

/-- KV_SPACE_ENABLE (R220): a write of KV_SPACE_CFG with enable set. -/
def execKvSpaceEnable (req : Requester) (space : InstId) (val : W32) (s : State) : Out :=
  let off := R.KV_SPACE_CFG space.val
  if s.reach req off then .next (s.writeKvCfg space.val (setBit val.toNat 0)) else .next (s.regRefused req off)

/-- KV_SPACE_DISABLE (R220): a write of KV_SPACE_CFG with enable clear. -/
def execKvSpaceDisable (req : Requester) (space : InstId) (val : W32) (s : State) : Out :=
  let off := R.KV_SPACE_CFG space.val
  if s.reach req off then .next (s.writeKvCfg space.val (clearBit val.toNat 0)) else .next (s.regRefused req off)

end Sys2Proof.Machine
end

