-- ==== Sys2Proof/Machine/Sfu.lean ====
section
/-! DEFINITION. Row operations of the special-function unit (R188 to R192, R194, R195). A row descriptor runs in one step. -/
namespace Sys2Proof.Machine

/-- The fields of a row descriptor (R188). -/
structure RowD where
  op : Nat
  fx : Nat
  fy : Nat
  fg : Nat
  cvt : Nat
  act : Nat
  mode : Nat
  mask : Nat
  x : Nat
  y : Nat
  g : Nat
  b : Nat
  stat : Nat
  rows : Nat
  cols : Nat
  xS : Nat
  yS : Nat
  uS : Nat
  maskOff : Int
  eps : W32
  scale : W32
  rng : Nat
  sem : Nat
  deriving DecidableEq, Repr

def rowDOf (d : BitVec 1024) : RowD :=
  { op := xw d 0 8 4, fx := xw d 0 12 4, fy := xw d 0 16 4, fg := xw d 0 20 4, cvt := xw d 0 24 8, act := xw d 0 32 4,
    mode := xw d 0 36 2, mask := xw d 0 38 2, x := xw d 1 0 48, y := xw d 2 0 48, g := xw d 3 0 48, b := xw d 4 0 48,
    stat := xw d 5 0 48, rows := xw d 6 0 32, cols := xw d 6 32 32, xS := xw d 7 0 32, yS := xw d 7 32 32,
    uS := xw d 8 0 32, maskOff := signedOf 32 (xw d 8 32 32), eps := BitVec.ofNat 32 (xw d 9 0 32),
    scale := BitVec.ofNat 32 (xw d 9 32 32), rng := xw d 10 0 48, sem := xw d 15 0 16 }

/-- Reserved bits of a row descriptor. -/
def rowReserved (d : BitVec 1024) : Bool :=
  decide (xw d 0 40 24 ≠ 0 ∨ xw d 10 48 16 ≠ 0 ∨ xw d 15 16 48 ≠ 0) ||
  [1, 2, 3, 4, 5].any (fun w => decide (xw d w 48 16 ≠ 0)) || [11, 12, 13, 14].any (fun w => decide (xw d w 0 64 ≠ 0))

/-- The formats FP32, FP16 and BF16 by code (R185, R188). -/
def sfuFmt (c : Nat) : Fmt := (Fmt.ofCode c).getD .fp32
def sfuBytes (c : Nat) : Nat := (sfuFmt c).bits / 8

/-- Elements of row `r` that the mask leaves: a prefix of this length (R190). -/
def RowD.kept (d : RowD) (r : Nat) : Nat :=
  match d.mask with
  | 1 => min d.cols ((r : Int) + d.maskOff + 1).toNat
  | 2 => min d.cols d.maskOff.toNat
  | _ => d.cols

/-- Widening into FP32 (R186). -/
def widen (f : Fmt) (bits : Nat) : W32 := toFp32 (f.value bits)

/-! ### Order of evaluation (R191, R192) -/

/-- Soft maximum: one element of a lane. -/
def smStep (leg : Bool) (st : W32 × W32) (z : W32) : W32 × W32 :=
  let ex := fun v => sfnApply leg .exp v 0
  if (ofFp32 st.1).lt (ofFp32 z) then (z, fp32Fma st.2 (ex (fp32Sub st.1 z)) fp32One)
  else (st.1, fp32Add st.2 (ex (fp32Sub z st.1)))

/-- Soft maximum: two sides joined; a side whose maximum is −∞ contributes nothing. -/
def smJoin (leg : Bool) (a b : W32 × W32) : W32 × W32 :=
  let ex := fun v => sfnApply leg .exp v 0
  if a.1 = fp32NegInf ∧ b.1 = fp32NegInf then (fp32NegInf, 0)
  else if a.1 = fp32NegInf then b
  else if b.1 = fp32NegInf then a
  else
    let m := fp32Max a.1 b.1
    (m, fp32Fma a.2 (ex (fp32Sub a.1 m)) (fp32Mul b.2 (ex (fp32Sub b.1 m))))

/-- A count as FP32. -/
def fp32Nat (n : Nat) : W32 := toFp32 (.fin false n 0)
def fp32Recip (v : W32) : W32 := sfnNative .recip v 0
def fp32Rsqrt (v : W32) : W32 := sfnNative .rsqrt v 0

/-- LayerNorm: one element of a lane (n, μ, q). -/
def lnStep (st : Nat × W32 × W32) (x : W32) : Nat × W32 × W32 :=
  let (n, mu, q) := st
  let n := n + 1
  let d := fp32Sub x mu
  let mu := fp32Fma d (fp32Recip (fp32Nat n)) mu
  (n, mu, fp32Fma d (fp32Sub x mu) q)

def lnJoin (a b : Nat × W32 × W32) : Nat × W32 × W32 :=
  let n := a.1 + b.1
  let w := fp32Mul (fp32Nat b.1) (fp32Recip (fp32Nat n))
  let d := fp32Sub b.2.1 a.2.1
  (n, fp32Fma d w a.2.1, fp32Fma (fp32Mul (fp32Mul d d) (fp32Nat a.1)) w (fp32Add a.2.2 b.2.2))

/-- The fixed tree over the 64 lanes. -/
def laneTree {α : Type} (join : α → α → α) (zero : α) (lanes : List α) : α := (treeFold join 6 lanes).headD zero

/-- A row's statistics and factors, its results where the op writes them, and whether every value was finite. -/
structure RowOut where
  stats : W32 × W32
  vals : List W32
  finite : Bool
  deriving DecidableEq, Repr

def allFinite (l : List W32) : Bool := l.all (fun v => !fp32NonFinite v)

/-- The soft maximum of a row whose elements `first` and on are `xs`; the others are masked. -/
def softMaximumRow (first : Nat) (scale : W32) (xs : List W32) : RowOut :=
  let zs := xs.map (fun x => fp32Mul x scale)
  let lanes := (((lanesOfList 64 (List.replicate (first % 64) (0 : W32) ++ zs)).zip (List.range 64)).map
    (fun e => if e.2 < first % 64 then e.1.drop 1 else e.1)).map (fun l => l.foldl (smStep false) (fp32NegInf, 0))
  let (m, s) := laneTree (smJoin false) (fp32NegInf, 0) lanes
  let r := fp32Recip s
  let out := zs.map (fun z => fp32Mul (sfnNative .exp (fp32Sub z m) 0) r)
  ⟨(m, s), out, allFinite (lanes.map Prod.snd) && allFinite (m :: s :: r :: out)⟩

def layerNormRow (eps : W32) (n : Nat) (xs g b : List W32) : RowOut :=
  let lanes := (lanesOfList 64 xs).map (fun l => l.foldl lnStep (0, 0, 0))
  let (_, mu, q) := laneTree lnJoin (0, 0, 0) lanes
  let rho := fp32Rsqrt (fp32Add (fp32Mul q (fp32Recip (fp32Nat n))) eps)
  let out := (xs.zip (g.zip b)).map (fun e => fp32Fma (fp32Mul (fp32Sub e.1 mu) rho) e.2.1 e.2.2)
  ⟨(mu, rho), out, allFinite (lanes.flatMap (fun l => [l.2.1, l.2.2])) && allFinite (mu :: q :: rho :: out)⟩

def rmsNormRow (eps : W32) (n : Nat) (xs g : List W32) : RowOut :=
  let lanes := (lanesOfList 64 xs).map (fun l => l.foldl (fun q x => fp32Fma x x q) 0)
  let q := laneTree fp32Add 0 lanes
  let ms := fp32Mul q (fp32Recip (fp32Nat n))
  let rho := fp32Rsqrt (fp32Add ms eps)
  let out := (xs.zip g).map (fun e => fp32Mul (fp32Mul e.1 rho) e.2)
  ⟨(ms, rho), out, allFinite lanes && allFinite (q :: ms :: rho :: out)⟩

def gateRow (act : Nat) (xs us : List W32) : RowOut :=
  let f := (SfnFunc.ofAct act).getD .silu
  let out := (xs.zip us).map (fun e => sfnNative (.gate f) e.1 e.2)
  ⟨(0, 0), out, allFinite out⟩

/-- One row of an op: `xs` its unmasked elements (R191, R192); legacy rows are the U24 model's (R194). -/
def rowOp (d : RowD) (leg : Bool) (xs g b : List W32) : RowOut :=
  if leg && decide (d.op < 6) then
    let (out, a, q) := Config.u24Row d.op 0 (d.scale, d.eps) xs g b
    let out := (List.range xs.length).map (fun k => (out[k]?).getD 0)
    ⟨(a, q), out, allFinite (a :: q :: out)⟩
  else match d.op with
    | 0 | 3 => softMaximumRow 0 d.scale xs
    | 1 | 4 => layerNormRow d.eps d.cols xs g b
    | 2 | 5 => rmsNormRow d.eps d.cols xs g
    | _ => gateRow d.act xs g

namespace State

/-- Whether a row descriptor's range lies in the core's own Pocket or in Overcast (R189). -/
def sfuPlace (c : Nat) (r : Nat × Nat) : Bool :=
  let n := r.2 - r.1
  let ovc := fun a => match regionOf a with
    | .ovc _ => true
    | _ => false
  inPocket c r.1 n || (ovc r.1 && ovc (r.2 - 1))

/-- The legacy choice of a descriptor or an SFN: its mode field, else CORE_SFU_CTRL (R195). -/
def legacyOf (s : State) (c mode : Nat) : Bool :=
  if mode = 0 then decide (s.fld (R.CORE_SFU_CTRL c) F.CORE_SFU_CTRL_legacy = 1) else decide (mode = 2)

/-- The checks of R189 and R414. -/
def rowCheck (s : State) (c : Nat) (it : MxItem) : Nat :=
  let d := rowDOf it.desc
  let span := fun base stride bytes => (base, base + (d.rows - 1) * stride + d.cols * bytes)
  let x := span d.x d.xS (sfuBytes d.fx)
  let y := span d.y d.yS (sfuBytes d.fy)
  let writes := decide (d.op < 3 ∨ d.op = 6)
  let g := if d.op = 6 then [span d.g d.uS (sfuBytes d.fg)]
    else if (d.op = 1 ∨ d.op = 2) ∧ d.g ≠ 0 then [(d.g, d.g + d.cols * sfuBytes d.fg)] else []
  let b := if d.op = 1 ∧ d.b ≠ 0 then [(d.b, d.b + d.cols * sfuBytes d.fg)] else []
  let st := if d.stat ≠ 0 ∧ d.op ≠ 6 then [(d.stat, d.stat + 8 * d.rows)] else []
  let bad := rowReserved it.desc ||
    decide (6 < d.op ∨ 2 < d.fx ∨ 2 < d.fy ∨ 2 < d.fg ∨ d.mode = 3 ∨ d.mask = 3 ∨ d.rows = 0 ∨ d.cols = 0 ∨ 2 ^ 24 < d.cols) ||
    (Cvt.check d.cvt (sfuFmt d.fy)).isNone || (d.op == 6 && (SfnFunc.ofAct d.act).isNone) ||
    (d.mask != 0 && d.op != 0 && d.op != 3) || (d.op == 6 && d.g == 0) ||
    (decide (3 ≤ d.op ∧ d.op ≤ 5) && d.stat == 0) || decide (d.stat % 8 ≠ 0) ||
    decide (d.x % 64 ≠ 0 ∨ d.y % 64 ≠ 0 ∨ d.g % 64 ≠ 0 ∨ d.b % 64 ≠ 0 ∨ d.xS % 64 ≠ 0 ∨ d.yS % 64 ≠ 0 ∨ d.uS % 64 ≠ 0) ||
    !(x :: g ++ b ++ st ++ (if writes then [y] else [])).all (sfuPlace c) ||
    (writes && ((overlaps x y && !decide (d.x = d.y ∧ d.xS = d.yS)) || (g ++ b ++ st).any (overlaps y)))
  if bad then 0x02 else if s.semForeign (instOf it.owner) d.sem then 0x65 else 0

/-- `n` FP32 values read from a row of a format. -/
def rowVals (s : State) (f a n : Nat) : List W32 :=
  (List.range n).map (fun k => widen (sfuFmt f) (s.natAt (a + k * sfuBytes f) (sfuBytes f)))

/-- Reads of row `r` that the op makes. -/
def rowReads (d : RowD) (r n : Nat) : List (Nat × Nat) :=
  (d.x + r * d.xS, n * sfuBytes d.fx) ::
  ((if d.op = 6 then [(d.g + r * d.uS, n * sfuBytes d.fg)]
    else if (d.op = 1 ∨ d.op = 2) ∧ d.g ≠ 0 then [(d.g, n * sfuBytes d.fg)] else []) ++
   (if d.op = 1 ∧ d.b ≠ 0 then [(d.b, n * sfuBytes d.fg)] else []))

/-- Row `r` of a row descriptor: its status, the failing address, the state after it. -/
def runRow (s : State) (c : Nat) (it : MxItem) (d : RowD) (leg : Bool) (r : Nat) : Nat × Nat × State :=
  let e := mxEng c it
  let n := d.kept r
  let yb := sfuBytes d.fy
  let writes := decide (d.op < 3 ∨ d.op = 6)
  let stats := decide (d.stat ≠ 0 ∧ d.op ≠ 6)
  let ya := d.y + r * d.yS
  match s.rangesStatus e (rowReads d r n) with
  | (0, _) =>
    let xs := s.rowVals d.fx (d.x + r * d.xS) n
    let g := if d.op = 6 then s.rowVals d.fg (d.g + r * d.uS) n
      else if (d.op = 1 ∨ d.op = 2) ∧ d.g ≠ 0 then s.rowVals d.fg d.g n else List.replicate n fp32One
    let b := if d.op = 1 ∧ d.b ≠ 0 then s.rowVals d.fg d.b n else List.replicate n 0
    let o : RowOut := if n = 0 then ⟨(fp32NegInf, 0), [], true⟩ else rowOp d leg xs g b
    let stW := if stats then s.engWriteSt e (d.stat + 8 * r) 8 else 0
    let yW := if writes then s.engWriteSt e ya (d.cols * yb) else 0
    if stW ≠ 0 then (stW, d.stat + 8 * r, s)
    else
      have s := if stats then (s.putNat (d.stat + 8 * r) 4 o.stats.1.toNat).putNat (d.stat + 8 * r + 4) 4 o.stats.2.toNat else s
      have s := if o.finite then s else s.fpEvent c 2 { nonfinite := true }
      have s := if n = 0 then s.inc (R.CORE_SFU_MASKED_ROWS c) else s
      if yW ≠ 0 then (yW, ya, s)
      else
        let cv := (Cvt.check d.cvt (sfuFmt d.fy)).getD ⟨false, 0, 0⟩
        let addr := fun k => if d.rng = 0 then ya + k * yb else d.rng + r * d.yS + k * yb
        let res := ((List.range n).zip o.vals).map (fun q => cvtElem (sfuFmt d.fy) cv
          (randomOf (s.reg (R.CORE_RNG_SEED c)).toNat (s.reg (R.CORE_RNG_STEP c)).toNat cv.stream yb (addr q.1)) (ofFp32 q.2))
        have s := if writes then s.fpEvent c 2 (FpEv.joinAll (res.map Prod.snd)) else s
        have s := if writes then s.putBytes ya (res.flatMap (fun q => bytesOf q.1 yb) ++ List.replicate ((d.cols - n) * yb) 0) else s
        (0, 0, s.add64 (R.CORE_SFU_ROWS c) 1)
  | (st, a) => (st, a, s)

/-- The row descriptor at the head runs when its op is the command's; a reserved op ends by its checks under op 0's
command. -/
def runRowOp (s : State) (c : CoreId) (op : Nat) : State :=
  match s.headMx c.val with
  | none => s
  | some it =>
    let d := rowDOf it.desc
    if xw it.desc 0 0 8 ≠ 0x23 ∨ (d.op ≠ op ∧ ¬(op = 0 ∧ 6 < d.op)) then s
    else
      have s := s.popMx c.val
      if s.oldMx it then s
      else match s.rowCheck c.val it with
        | 0 =>
          let leg := s.legacyOf c.val d.mode
          let r := (List.range d.rows).foldl (fun (st : Nat × Nat × State) k =>
            if st.1 ≠ 0 then st else st.2.2.runRow c.val it d leg k) (0, 0, s)
          (if r.1 = 0 then r.2.2 else r.2.2.engFail (mxEng c.val it) r.1 r.2.1).recordMx c.val it r.1
        | st => s.recordMx c.val it st

end State

/-! ### Commands -/

/-- SOFT_MAXIMUM (R192): op 0. -/
def execSoftMaximum (c : CoreId) (s : State) : Out := .next (s.runRowOp c 0)
/-- LAYERNORM (R192): op 1. -/
def execLayernorm (c : CoreId) (s : State) : Out := .next (s.runRowOp c 1)
/-- RMSNORM (R192): op 2. -/
def execRmsnorm (c : CoreId) (s : State) : Out := .next (s.runRowOp c 2)
/-- SOFT_MAXIMUM_STATISTICS (R192): op 3. -/
def execSoftMaximumStatistics (c : CoreId) (s : State) : Out := .next (s.runRowOp c 3)
/-- LAYERNORM_STATISTICS (R192): op 4. -/
def execLayernormStatistics (c : CoreId) (s : State) : Out := .next (s.runRowOp c 4)
/-- RMSNORM_STATISTICS (R192): op 5. -/
def execRmsnormStatistics (c : CoreId) (s : State) : Out := .next (s.runRowOp c 5)
/-- GATED_ACTIVATION (R192): op 6. -/
def execGatedActivation (c : CoreId) (s : State) : Out := .next (s.runRowOp c 6)

end Sys2Proof.Machine
end

