-- ==== Sys2Proof/Machine/Attn.lean ====
section
/-! DEFINITION. The attention descriptor (R225 to R229) and the KV store descriptor (R230). An entry of an attention
descriptor runs in one step. -/
namespace Sys2Proof.Machine

/-- The fields of an attention descriptor (R226). -/
structure AttnD where
  fq : Nat
  fs : Nat
  fp : Nat
  fo : Nat
  cvt : Nat
  mask : Nat
  rope : Bool
  style : Bool
  space : Nat
  mode : Nat
  list : Nat
  sBase : Nat
  sBytes : Nat
  entries : Nat
  layer : Nat
  head : Nat
  group : Nat
  scale : W32
  window : Nat
  freq : Nat
  rng : Nat
  sem : Nat
  bob : Nat
  deriving DecidableEq, Repr

def attnOf (d : BitVec 1024) : AttnD :=
  { fq := xw d 0 8 4, fs := xw d 0 12 4, fp := xw d 0 16 4, fo := xw d 0 20 4, cvt := xw d 0 24 8, mask := xw d 0 32 2,
    rope := bitOf d.toNat 34, style := bitOf d.toNat 35, space := xw d 0 36 3, mode := xw d 0 40 2, list := xw d 1 0 48,
    sBase := xw d 2 0 48, sBytes := xw d 3 0 32, entries := xw d 3 32 13, layer := xw d 4 0 8, head := xw d 4 8 7,
    group := xw d 4 16 7, scale := BitVec.ofNat 32 (xw d 4 32 32), window := xw d 5 0 32, freq := xw d 6 0 48,
    rng := xw d 13 0 48, sem := xw d 15 0 16, bob := xw d 15 16 16 }

/-- Reserved bits of an attention descriptor. -/
def attnReserved (d : BitVec 1024) : Bool :=
  decide (xw d 0 39 1 ≠ 0 ∨ xw d 0 42 22 ≠ 0 ∨ xw d 1 48 16 ≠ 0 ∨ xw d 2 48 16 ≠ 0 ∨ xw d 3 45 19 ≠ 0 ∨ xw d 4 15 1 ≠ 0 ∨
    xw d 4 23 9 ≠ 0 ∨ xw d 5 32 32 ≠ 0 ∨ xw d 6 48 16 ≠ 0 ∨ xw d 13 48 16 ≠ 0 ∨ xw d 15 32 32 ≠ 0) ||
  [7, 8, 9, 10, 11, 12, 14].any (fun w => decide (xw d w 0 64 ≠ 0))

/-- An entry of the list (R226). -/
structure AttnEntry where
  slot : Nat
  q : Nat
  o : Nat
  rows : Nat
  pos : Nat
  reserved : Bool
  deriving DecidableEq, Repr

def fmtOr (c : Nat) : Fmt := (Fmt.ofCode c).getD .fp32
def fmtBytes (f : Fmt) : Nat := f.bits / 8
def round64 (n : Nat) : Nat := 64 * cdiv n 64

/-! ### The rotary stage (R225) -/

/-- The partner of element `j` and whether `j` is the first of its pair. -/
def rotPair (style : Bool) (hd j : Nat) : Nat × Nat × Bool :=
  if style then (if j < hd / 2 then (j, j + hd / 2, true) else (j - hd / 2, j - hd / 2, false))
  else (j / 2, if j % 2 = 0 then j + 1 else j - 1, j % 2 == 0)

/-- A row turned to position `pos`: bits of format `f` in and out, and whether any result was not finite. -/
def rotate (f : Fmt) (style : Bool) (freqs : List W32) (pos : Nat) (row : List Nat) : List Nat × Bool :=
  let v := row.map (widen f)
  let turns := freqs.map (fun w => (sfnNative .cosPos (fp32Nat pos) w, sfnNative .sinPos (fp32Nat pos) w))
  let out := (List.range row.length).map (fun j =>
    let (i, q, first) := rotPair style row.length j
    let (c, sn) := (turns[i]?).getD (0, 0)
    let me := (v[j]?).getD 0
    let other := (v[q]?).getD 0
    if first then fp32Fma me c (fp32Neg (fp32Mul other sn)) else fp32Fma other sn (fp32Mul me c))
  let res := out.map (fun w => cvtElem f ⟨false, 0, 0⟩ 0 (ofFp32 w))
  (res.map Prod.fst, res.any (fun e => e.2.nonfinite) || !allFinite out || turns.any (fun t => fp32NonFinite t.1 || fp32NonFinite t.2))

namespace State

def freqsAt (s : State) (a hd : Nat) : List W32 := (List.range (hd / 2)).map (fun i => BitVec.ofNat 32 (s.natAt (a + 4 * i) 4))

def attnEntry (s : State) (d : AttnD) (n : Nat) : AttnEntry :=
  let w := fun k => s.natAt (d.list + 32 * n + 8 * k) 8
  { slot := bitsOf (w 0) 0 16, q := bitsOf (w 1) 0 48, o := bitsOf (w 2) 0 48, rows := bitsOf (w 3) 0 13,
    pos := bitsOf (w 3) 32 32,
    reserved := decide (2 ^ 16 ≤ w 0 ∨ 2 ^ 48 ≤ w 1 ∨ 2 ^ 48 ≤ w 2 ∨ bitsOf (w 3) 13 19 ≠ 0) }

/-- Bytes of a score row. -/
def scoreRow (d : AttnD) (n : Nat) : Nat := round64 (n * fmtBytes (fmtOr d.fs))

/-- Rows of a query group (R228). -/
def attnG (s : State) (d : AttnD) (e : AttnEntry) (n : Nat) : Nat :=
  min (min e.rows (512 / cdiv (s.kvHd d.space) 128)) (d.sBytes / scoreRow d n)

/-- Reserved values of an entry, or no query group for the length that its slot has. -/
def entryBad (s : State) (d : AttnD) (e : AttnEntry) : Bool :=
  e.reserved || decide (e.rows = 0 ∨ 4096 < e.rows ∨ e.rows % d.group ≠ 0) ||
  (s.kvOpenSlot d.space e.slot && decide (s.attnG d e (s.kvLen d.space e.slot) = 0))

/-- The staging buffers of a key tile (R163). -/
def attnStageBad (s : State) (c : Nat) (d : AttnD) : Bool :=
  let base := s.fld (R.CORE_STG_REGION c) F.CORE_STG_REGION_base / 4096 * 4096
  let size := 4096 * s.fld (R.CORE_STG_REGION c) F.CORE_STG_REGION_size
  decide (size < 2 * round4k (128 * s.kvRow d.space)) || !inPocket c base size

/-- The checks before any pass of an attention descriptor (R48, R174, R226, R228, R414): status and failing address. -/
def attnCheck (s : State) (c : Nat) (it : MxItem) : Nat × Nat :=
  let d := attnOf it.desc
  let ok8 := fun f => decide (1 ≤ f ∧ f ≤ 4)
  let bad := attnReserved it.desc || !ok8 d.fq || !decide (d.fs = 0 ∨ d.fs = 2) || !ok8 d.fp || decide (4 < d.fo) ||
    (Cvt.check d.cvt (fmtOr d.fo)).isNone || decide (d.mask = 3 ∨ d.mode = 3 ∨ d.list % 32 ≠ 0 ∨ d.sBase % 64 ≠ 0 ∨
      d.entries = 0 ∨ 4096 < d.entries ∨ d.group = 0 ∨ 64 < d.group) || !sfuPlace c (d.sBase, d.sBase + max 1 d.sBytes) ||
    !s.kvOn d.space || decide (instOf it.owner ≠ some (s.kvOwner d.space)) || decide (s.kvLayers d.space ≤ d.layer) ||
    decide (s.kvHeads d.space ≤ d.head) || s.attnStageBad c d || (d.bob != 0xFFFF && d.bob % 2 == 1)
  if bad then (0x02, 0)
  else match s.engReadSt (mxEng c it) d.list (32 * d.entries) with
    | 0 =>
      let owned := match it.owner.inst with
        | some i => s.ownsBob i.val d.bob && s.ownsBob i.val (d.bob + 1)
        | none => false
      if (List.range d.entries).any (fun n => s.entryBad d (s.attnEntry d n)) then (0x02, 0)
      else if d.bob ≠ 0xFFFF ∧ !owned then (0x1C, 0)
      else if s.semForeign (instOf it.owner) d.sem then (0x65, 0)
      else (0, 0)
    | st => (st, d.list)

/-! ### Passes -/

/-- The product whose arithmetic a pass of attention has: backward over K, forward over V. -/
def attnProd (d : AttnD) (dir fa fw fc cvt : Nat) (it : MxItem) : Prod :=
  { matrixOf 0 with dir := dir, fa := fa, fw := fw, fc := fc, cvt := cvt, rng := if dir = 0 then d.rng else 0, sem := d.sem,
                    bob := 0xFFFF, op := xw it.desc 0 0 8 }

/-- The address of a slot's K (0) or V (1) row at a position. -/
def kvRowAt (s : State) (sp layer head slot v pos : Nat) : Nat :=
  let t := max 1 (s.kvT sp)
  s.kvPage sp ((s.kvFrame sp slot (pos / t)).getD 0) layer head + 32768 * v + pos % t * s.kvRow sp

/-- A key tile's blocks are translated by the walker of the core's die (R228, R231), and its bytes staged: the status it
meets. -/
def kvStage (s : State) (c : Nat) (e : Eng) (d : AttnD) (slot n t v : Nat) : Nat × Nat × State :=
  let hi := min n (128 * t + 128)
  let per := max 1 (s.kvT d.space)
  let r := (List.range ((hi - 1) / per + 1 - 128 * t / per)).foldl (fun (st : Bool × State) k =>
    let (f, s) := st.2.kvTranslate (c / 32) d.space slot (128 * t / per + k)
    (st.1 && f.isSome, s)) (true, s)
  have s := r.2
  if !r.1 then (0x22, 0, s)
  else
    let (st, a) := s.rangesStatus e ((List.range (hi - 128 * t)).map (fun k =>
      (s.kvRowAt d.space d.layer d.head slot v (128 * t + k), s.kvRow d.space)))
    (st, a, if st = 0 then s.add64 (R.CORE_STG_BYTES c) ((hi - 128 * t) * s.kvRow d.space) else s)

/-- The stored tile of 128 keys and 128 dimensions, zero beyond the length and the head dimension (R72). -/
def kvTile (s : State) (d : AttnD) (p : Prod) (slot n t x v : Nat) : TileBank :=
  let b := s.kvRow d.space / max 1 (s.kvHd d.space)
  let vals := (List.range 128).map (fun i => (List.range 128).map (fun j =>
    if 128 * t + i < n ∧ 128 * x + j < s.kvHd d.space then
      s.natAt (s.kvRowAt d.space d.layer d.head slot v (128 * t + i) + (128 * x + j) * b) b
    else 0))
  withChecks p { tid := 0, vals := vals, pos := [], scales := [], wc := [], ac := [], wr := [], ar := [], nonfinite := false,
                 bad := 0 }

/-- A job that stands for a pass in the Selvage's records. -/
def attnJob (it : MxItem) (no row attempt : Nat) : ArrJob :=
  { item := it, units := 1, unit := 0, nextUnit := none, passes := [], ptiles := 0, cur := 0, passNo := no, entered := true,
    row := row, stopAt := none, attempt := attempt, mismatched := [], failed := false, fills := [], voids := [],
    overflow := 0, staged := [], stagedTo := 0, cBufs := [], linesTo := 0, abortAt := none, dropped := [] }

/-- One pass over rows of 128 streamed elements (R73, R74, R86 to R92): each row's results, or none where the Selvage
found a mismatch; the retry of an unchanged tile finds it again. -/
def attnPass (s : State) (c : Nat) (it : MxItem) (p : Prod) (b : TileBank) (no : Nat) (rows : List (List Nat)) :
    List (Option (List W32)) × State :=
  let e := fun k => entryCycle p k
  let res := rows.map (fun r =>
    let xv := r.map p.fmtA.value
    let out := rowResults p xv [] b
    (out, s.verdict c p b xv out, gatedOf p xv b))
  let bad := ((List.range rows.length).zip res).filter (fun q => q.2.2.1.mismatch)
  have s := (s.setFld (R.CORE_ARR_STATUS c) F.CORE_ARR_STATUS_dir p.dir).add64 (R.CORE_ARR_PASSES c) (if bad.isEmpty then 1 else 2)
  let g := (s.arr c).gatedRem + (res.map (fun q => q.2.2)).sum
  have s := (s.setArr c { s.arr c with gatedRem := g % 1024 }).add64 (R.CORE_ARR_GATED c) (g / 1024)
  have s := if res.any (fun q => q.1.any fp32NonFinite) then s.fpEvent c 0 { nonfinite := true } else s
  have s := s.addSat (R.CORE_SLV_SKIPPED c) (res.filter (fun q => !q.2.1.compared)).length
  let first := (bad.map Prod.fst).headD 0
  have s := (bad.filter (fun q => decide (e q.1 < e first + 264))).foldl
    (fun s q => s.recordMismatch c (attnJob it no q.1 0) p q.2.2.1) s
  have s := bad.foldl (fun s q => s.recordMismatch c (attnJob it no q.1 1) p q.2.2.1) s
  (res.map (fun q => if q.2.1.mismatch then none else some q.1), s)

/-- Running sums of rows after one more pass. -/
def joinSums (p : Prod) (prev : List (List W32)) (res : List (Option (List W32))) : List (List W32) :=
  if prev.isEmpty then res.map (fun r => r.getD []) else (prev.zip res).map (fun e => (addRows p e.1 (e.2.getD [])).1)

/-- Elements `lo` to `lo + 127` of a row, with zeros beyond it. -/
def sliceRow (lo : Nat) (r : List Nat) : List Nat :=
  let l := (r.drop lo).take 128
  l ++ List.replicate (128 - l.length) 0

/-- A row of converted values written at an address: status, address, state. -/
def putRow (s : State) (c : Nat) (e : Eng) (p : Prod) (base a : Nat) (vals : List W32) : Nat × Nat × State :=
  let b := fmtBytes p.fmtC
  match s.engWriteSt e a (vals.length * b) with
  | 0 =>
    let conv := ((List.range vals.length).zip vals).map (fun q => s.convertC c p base (8 * (a + q.1 * b)) q.2)
    have s := if vals.any fp32NonFinite then s.fpEvent c 0 { nonfinite := true } else s
    (0, 0, (s.fpEvent c 3 (FpEv.joinAll (conv.map Prod.snd))).putBytes a (conv.flatMap (fun q => bytesOf q.1 b)))
  | st => (st, a, s)

/-- Rows written in order; the first failing one ends them. -/
def putRows (s : State) (c : Nat) (e : Eng) (p : Prod) (base : Nat) (l : List (Nat × List W32)) : Nat × Nat × State :=
  l.foldl (fun (st : Nat × Nat × State) q => if st.1 ≠ 0 then st else st.2.2.putRow c e p base q.1 q.2) (0, 0, s)

/-- A query row, turned when rope is set. -/
def queryRow (s : State) (c : Nat) (d : AttnD) (e : AttnEntry) (r : Nat) : List Nat × State :=
  let f := fmtOr d.fq
  let hd := s.kvHd d.space
  let row := unpackBits f.bits hd (s.bytesAt (e.q + r * round64 (hd * fmtBytes f)) (hd * fmtBytes f))
  if d.rope then
    let (out, bad) := rotate f d.style (s.freqsAt d.freq hd) (e.pos + r / max 1 d.group) row
    (out, if bad then s.fpEvent c 2 { nonfinite := true } else s)
  else (row, s)

/-- Phase 1 (R228): the scores of a query group, key tile by key tile. -/
def attnScores (s : State) (c : Nat) (it : MxItem) (d : AttnD) (e : AttnEntry) (n r0 g no : Nat) : Nat × Nat × State :=
  let eng := mxEng c it
  let hd := s.kvHd d.space
  let p := attnProd d 1 d.fq (s.fld (R.KV_SPACE_CFG d.space) F.KV_SPACE_CFG_fmt) d.fs 0 it
  let qb := fmtBytes (fmtOr d.fq)
  let (st, a) := s.rangesStatus eng ((List.range g).map (fun k => (e.q + (r0 + k) * round64 (hd * qb), hd * qb)) ++
    (if d.rope then [(d.freq, 2 * hd)] else []))
  if st ≠ 0 then (st, a, s)
  else
    let (rows, s) := (List.range g).foldl (fun (q : List (List Nat) × State) k =>
      let (row, s) := q.2.queryRow c d e (r0 + k)
      (q.1 ++ [row], s)) ([], s)
    let per := cdiv hd 128
    (List.range (cdiv n 128)).foldl (fun (q : Nat × Nat × State) t =>
      if q.1 ≠ 0 then q
      else
        let (st, a, s) := q.2.2.kvStage c eng d e.slot n t 0
        if st ≠ 0 then (st, a, s)
        else
          let (sums, bad, s) := (List.range per).foldl (fun (z : List (List W32) × List Nat × State) x =>
            if !z.2.1.isEmpty then z
            else
              let (res, s) := z.2.2.attnPass c it p (z.2.2.kvTile d p e.slot n t x 0) (no + t * per + x) (rows.map (sliceRow (128 * x)))
              (joinSums p z.1 res, (List.range g).filter (fun k => ((res[k]?).getD none).isNone), s)) ([], [], s)
          let keep := if bad.isEmpty ∨ per = 1 then (List.range g).filter (fun k => !bad.contains k) else []
          let (st, a, s) := s.putRows c eng p d.sBase (keep.map (fun k =>
            (d.sBase + k * scoreRow d n + 128 * t * fmtBytes p.fmtC, ((sums[k]?).getD []).take (n - 128 * t))))
          (if st ≠ 0 then st else if bad.isEmpty then 0 else 0x12, a, s)) (0, 0, s)

/-- The keys that a query position leaves unmasked: first and past the last. -/
def keptKeys (d : AttnD) (n p : Nat) : Nat × Nat :=
  if d.mask = 0 then (0, n)
  else
    let hi := min n (p + 1)
    (if d.mask = 2 ∧ d.window ≤ p then min hi (p + 1 - d.window) else 0, hi)

/-- Phase 2 (R190 to R193, R228): row `k` of the score buffer is normalised in place. -/
def attnNorm (s : State) (c : Nat) (it : MxItem) (d : AttnD) (e : AttnEntry) (n r0 k : Nat) : Nat × Nat × State :=
  let eng := mxEng c it
  let a := d.sBase + k * scoreRow d n
  let fs := fmtOr d.fs
  let fp := fmtOr d.fp
  let (lo, hi) := keptKeys d n (e.pos + (r0 + k) / max 1 d.group)
  match s.engReadSt eng (a + lo * fmtBytes fs) ((hi - lo) * fmtBytes fs), s.engWriteSt eng a (n * fmtBytes fp) with
  | 0, 0 =>
    let xs := (List.range (hi - lo)).map (fun j => widen fs (s.natAt (a + (lo + j) * fmtBytes fs) (fmtBytes fs)))
    let leg := s.legacyOf c d.mode
    let o : RowOut := if hi - lo = 0 then ⟨(fp32NegInf, 0), [], true⟩
      else if leg then
        let (out, m, q) := Config.u24Row 0 lo (d.scale, 0) xs (List.replicate xs.length fp32One) (List.replicate xs.length 0)
        let out := (List.range xs.length).map (fun j => (out[j]?).getD 0)
        ⟨(m, q), out, allFinite (m :: q :: out)⟩
      else softMaximumRow lo d.scale xs
    let res := o.vals.map (fun v => cvtElem fp ⟨false, 0, 0⟩ 0 (ofFp32 v))
    have s := if o.finite then s else s.fpEvent c 2 { nonfinite := true }
    have s := if hi - lo = 0 then s.inc (R.CORE_SFU_MASKED_ROWS c) else s
    have s := s.fpEvent c 2 (FpEv.joinAll (res.map Prod.snd))
    have s := s.putBytes a (List.replicate (lo * fmtBytes fp) 0 ++ res.flatMap (fun q => bytesOf q.1 (fmtBytes fp)) ++
      List.replicate ((n - hi) * fmtBytes fp) 0)
    (0, 0, s.add64 (R.CORE_SFU_ROWS c) 1)
  | 0, st => (st, a, s)
  | st, _ => (st, a, s)

/-- Phase 3 (R228): the output rows of a query group; the sums of all key tiles stay open. -/
def attnOutput (s : State) (c : Nat) (it : MxItem) (d : AttnD) (e : AttnEntry) (n r0 g no : Nat) : Nat × Nat × State :=
  let eng := mxEng c it
  let hd := s.kvHd d.space
  let p := attnProd d 0 d.fp (s.fld (R.KV_SPACE_CFG d.space) F.KV_SPACE_CFG_fmt) d.fo d.cvt it
  let fp := fmtOr d.fp
  let rows := (List.range g).map (fun k => unpackBits fp.bits n (s.bytesAt (d.sBase + k * scoreRow d n) (n * fmtBytes fp)))
  let (st, a) := s.rangesStatus eng ((List.range g).map (fun k => (d.sBase + k * scoreRow d n, n * fmtBytes fp)))
  let per := cdiv hd 128
  let last := cdiv n 128
  let z0 : Nat × Nat × List (List (List W32)) × State := (st, a, List.replicate per [], s)
  let r := (List.range last).foldl (fun (q : Nat × Nat × List (List (List W32)) × State) t =>
    if q.1 ≠ 0 then q
    else
      let (st, a, s) := q.2.2.2.kvStage c eng d e.slot n t 1
      if st ≠ 0 then (st, a, q.2.2.1, s)
      else (List.range per).foldl (fun (z : Nat × Nat × List (List (List W32)) × State) x =>
        if z.1 ≠ 0 then z
        else
          let (res, s) := z.2.2.2.attnPass c it p (z.2.2.2.kvTile d p e.slot n t x 1) (no + t * per + x)
            (rows.map (sliceRow (128 * t)))
          let bad := res.any Option.isNone
          let sums := joinSums p ((z.2.2.1[x]?).getD []) res
          let good := (List.range g).filter (fun k => ((res[k]?).getD none).isSome)
          let cut := hd - 128 * x
          let (st, a, s) := if t + 1 = last then s.putRows c eng p e.o (good.map (fun k =>
              (e.o + (r0 + k) * round64 (hd * fmtBytes p.fmtC) + 128 * x * fmtBytes p.fmtC, ((sums[k]?).getD []).take cut)))
            else (0, 0, s)
          (if st ≠ 0 then st else if bad then 0x12 else 0, a, z.2.2.1.set x sums, s)) (0, 0, q.2.2.1, s)) z0
  (r.1, r.2.1, r.2.2.2)

/-- One entry (R228): its query groups in order, three phases each. -/
def runEntry (s : State) (c : Nat) (it : MxItem) (d : AttnD) (e : AttnEntry) (n : Nat) : Nat × Nat × State :=
  let g := s.attnG d e n
  if g = 0 then (0x02, 0, s)
  else
    let each := 2 * cdiv n 128 * cdiv (s.kvHd d.space) 128
    (List.range (cdiv e.rows g)).foldl (fun (q : Nat × Nat × State) k =>
      let r0 := k * g
      let now := min g (e.rows - r0)
      if q.1 ≠ 0 then q
      else match q.2.2.attnScores c it d e n r0 now (k * each) with
        | (0, _, s) =>
          (match (List.range now).foldl (fun (z : Nat × Nat × State) j => if z.1 ≠ 0 then z else z.2.2.attnNorm c it d e n r0 j) (0, 0, s) with
            | (0, _, s) => s.attnOutput c it d e n r0 now (k * each + each / 2)
            | z => z)
        | z => z) (0, 0, s)

/-! ### The descriptor's course (R173, R174, R228, R229) -/

/-- A pin of a slot taken or dropped. -/
def pinSlot (s : State) (sp slot : Nat) (up : Bool) : State :=
  let k := s.kvSpace sp
  let n := k.pins.get 0 slot
  s.setKv sp { k with pins := k.pins.set 0 slot (if up then n + 1 else n - 1) }

def dropPin (s : State) (sp : Nat) (p : Option (Nat × Nat)) : State :=
  match p with
  | some (slot, _) => s.pinSlot sp slot false
  | none => s

/-- An attention descriptor ends; an entry drawn and not finished raises the companion. -/
def endAttn (s : State) (c : Nat) (j : AttnJob) (st : Nat) : State :=
  let d := attnOf j.item.desc
  have s := s.dropPin d.space j.pinned
  have s := if st ≠ 0 ∧ d.bob ≠ 0xFFFF ∧ j.entry < d.entries then (s.bobAdd (d.bob + 1) 1 (some c)).2 else s
  have s := s.setArr c { s.arr c with attn := none }
  (s.setFld (R.CORE_ARR_STATUS c) F.CORE_ARR_STATUS_busy 0).recordMx c j.item st

/-- Entry `j.entry` starts: its slot's length is taken and its slot pinned; a closed slot ends the descriptor, and so
does an entry past the last. -/
def beginEntry (s : State) (c : Nat) (j : AttnJob) : State :=
  let d := attnOf j.item.desc
  if d.entries ≤ j.entry then s.endAttn c { j with pinned := none } 0
  else
    let e := s.attnEntry d j.entry
    if s.kvOpenSlot d.space e.slot && decide (e.slot < s.kvSlots d.space) then
      let n := s.kvLen d.space e.slot
      (s.pinSlot d.space e.slot true).setArr c { s.arr c with attn := some { j with pinned := some (e.slot, n) } }
    else s.endAttn c { j with pinned := none } 0x22

def firstEntry (s : State) (c : Nat) (it : MxItem) : State :=
  let d := attnOf it.desc
  have s := s.setFld (R.CORE_ARR_STATUS c) F.CORE_ARR_STATUS_busy 1
  have s := s.setArr c { s.arr c with bank0 := none, bank1 := none, sums := [] }
  let (u, s) := if d.bob = 0xFFFF then (0, s) else s.bobAdd d.bob 1 (some c)
  s.beginEntry c ⟨it, u, none⟩

/-- The running entry runs and the next one starts. -/
def nextAttn (s : State) (c : Nat) (j : AttnJob) : State :=
  let d := attnOf j.item.desc
  match j.pinned with
  | none => s.endAttn c j 0x22
  | some (_, n) =>
    if s.oldMx j.item then (s.dropPin d.space j.pinned).setArr c { s.arr c with attn := none }
    else match s.runEntry c j.item d (s.attnEntry d j.entry) n with
      | (0, _, s) =>
        have s := s.dropPin d.space j.pinned
        have s := if d.bob = 0xFFFF then s else (s.bobAdd (d.bob + 1) 1 (some c)).2
        let (u, s) := if d.bob = 0xFFFF then (j.entry + 1, s) else s.bobAdd d.bob 1 (some c)
        s.beginEntry c { j with entry := u, pinned := none }
      | (st, a, s) => (s.engFail (mxEng c j.item) st a).endAttn c j st

/-- MX.ABORT with whatever is active (R145). -/
def abortAll (s : State) (c : Nat) : State :=
  match (s.arr c).attn with
  | some j => (s.endAttn c j 0x06).abortMx c
  | none => s.abortMx c

/-! ### The KV store (R230) -/

def storeReserved (d : BitVec 1024) : Bool :=
  decide (xw d 0 12 12 ≠ 0 ∨ xw d 0 32 2 ≠ 0 ∨ xw d 0 39 25 ≠ 0 ∨ xw d 1 48 16 ≠ 0 ∨ xw d 2 48 16 ≠ 0 ∨ xw d 3 16 16 ≠ 0 ∨
    xw d 4 47 17 ≠ 0 ∨ xw d 6 48 16 ≠ 0 ∨ xw d 13 48 16 ≠ 0 ∨ xw d 15 16 48 ≠ 0) ||
  [5, 7, 8, 9, 10, 11, 12, 14].any (fun w => decide (xw d w 0 64 ≠ 0))

/-- The checks of a KV store: BAD_FIELD, SEM_FOREIGN, KV_SEQ. -/
def storeCheck (s : State) (c : Nat) (it : MxItem) : Nat :=
  let d := it.desc
  let sp := xw d 0 36 3
  let rows := xw d 4 0 32
  let slot := xw d 3 0 16
  let pos := xw d 3 32 32
  let len := rows * s.kvHd sp * fmtBytes (fmtOr (xw d 0 8 4))
  let k := s.kvSpace sp
  let t := max 1 (s.kvT sp)
  let bad := storeReserved d || decide (2 < xw d 0 8 4 ∨ rows = 0 ∨ 65536 < rows ∨ xw d 1 0 48 % 64 ≠ 0 ∨ xw d 2 0 48 % 64 ≠ 0) ||
    (Cvt.check (xw d 0 24 8) (s.kvFmt sp)).isNone || !inPocket c (xw d 1 0 48) len || !inPocket c (xw d 2 0 48) len ||
    !s.kvOn sp || decide (instOf it.owner ≠ some (s.kvOwner sp)) || decide (s.kvLayers sp ≤ xw d 4 32 8) ||
    decide (s.kvHeads sp ≤ xw d 4 40 7) || decide (s.kvSlots sp ≤ slot)
  if bad then 0x02
  else if s.semForeign (instOf it.owner) (xw d 15 0 16) then 0x65
  else if s.kvOpenSlot sp slot && decide (pos + rows ≤ s.kvLen sp slot) &&
    (List.range ((pos + rows - 1) / t + 1 - pos / t)).all (fun j => match s.kvFrame sp slot (pos / t + j) with
      | some f => decide (k.refs.get 0 f = 1) && !k.tree.any (fun e => e.frame == f)
      | none => false) then 0
  else 0x22

/-- Row `r` of a KV store: the K row turned and converted, then the V row. -/
def storeRow (s : State) (c : Nat) (it : MxItem) (r : Nat) : Nat × Nat × State :=
  let d := it.desc
  let e := mxEng c it
  let sp := xw d 0 36 3
  let f := fmtOr (xw d 0 8 4)
  let hd := s.kvHd sp
  let rope := bitOf d.toNat 34
  let pos := xw d 3 32 32 + r
  let t := max 1 (s.kvT sp)
  let cv := (Cvt.check (xw d 0 24 8) (s.kvFmt sp)).getD ⟨false, 0, 0⟩
  have s := if r = 0 ∨ pos % t = 0 then (s.kvTranslate (c / 32) sp (xw d 3 0 16) (pos / t)).2 else s
  [0, 1].foldl (fun (st : Nat × Nat × State) v =>
    if st.1 ≠ 0 then st
    else
      have s := st.2.2
      let src := xw d (1 + v) 0 48 + r * hd * fmtBytes f
      let dst := s.kvRowAt sp (xw d 4 32 8) (xw d 4 40 7) (xw d 3 0 16) v pos
      match s.rangesStatus e ((src, hd * fmtBytes f) :: (if rope && v == 0 then [(xw d 6 0 48, 2 * hd)] else [])),
          s.engWriteSt e dst (s.kvRow sp) with
      | (0, _), 0 =>
        let row := unpackBits f.bits hd (s.bytesAt src (hd * fmtBytes f))
        let (row, bad) := if rope && v == 0 then rotate f (bitOf d.toNat 35) (s.freqsAt (xw d 6 0 48) hd) pos row else (row, false)
        let b := fmtBytes (s.kvFmt sp)
        let addr := fun j => if xw d 13 0 48 = 0 then dst + j * b else xw d 13 0 48 + r * s.kvRow sp + j * b
        let res := ((List.range hd).zip row).map (fun q => cvtElem (s.kvFmt sp) cv
          (randomOf (s.reg (R.CORE_RNG_SEED c)).toNat (s.reg (R.CORE_RNG_STEP c)).toNat cv.stream b (addr q.1)) (f.value q.2))
        have s := if bad then s.fpEvent c 2 { nonfinite := true } else s
        (0, 0, (s.fpEvent c 3 (FpEv.joinAll (res.map Prod.snd))).putBytes dst (res.flatMap (fun q => bytesOf q.1 b)))
      | (0, _), w => (w, dst, s)
      | (w, a), _ => (w, a, s)) (0, 0, s)

def runStore (s : State) (c : Nat) (it : MxItem) : State :=
  match s.storeCheck c it with
  | 0 =>
    let r := (List.range (xw it.desc 4 0 32)).foldl (fun (st : Nat × Nat × State) k =>
      if st.1 ≠ 0 then st else st.2.2.storeRow c it k) (0, 0, s)
    (if r.1 = 0 then r.2.2 else r.2.2.engFail (mxEng c it) r.1 r.2.1).recordMx c it r.1
  | st => s.recordMx c it st

end State

/-! ### Commands -/

/-- ATTENTION (R228, R229): the descriptor at the head of the queue is checked and its first entry pins its slot; while one
is active, its running entry runs to its last output row, drops its pin, and the next entry starts. -/
def execAttention (c : CoreId) (s : State) : Out :=
  match (s.arr c.val).attn with
  | some j => .next (s.nextAttn c.val j)
  | none => match s.headMx c.val with
    | none => .next s
    | some it =>
      if xw it.desc 0 0 8 ≠ 0x26 then .next s
      else
        have s := s.popMx c.val
        if s.oldMx it then .next s
        else match s.attnCheck c.val it with
          | (0, _) => .next (s.firstEntry c.val it)
          | (st, a) => .next ((s.engFail (State.mxEng c.val it) st a).recordMx c.val it st)

/-- KV_STORE (R230): the descriptor at the head of the queue. -/
def execKvStore (c : CoreId) (s : State) : Out :=
  match s.headMx c.val with
  | none => .next s
  | some it =>
    if xw it.desc 0 0 8 ≠ 0x27 then .next s
    else
      have s := s.popMx c.val
      .next (if s.oldMx it then s else s.runStore c.val it)

end Sys2Proof.Machine
end

