-- ==== Sys2Proof/Machine/Pipeline.lean ====
section
/-! DEFINITION. The picture and sound pipelines (R369 to R373), the settings fields (R375), CRC32C, PCM and WAVE. -/
namespace Sys2Proof.Machine

/-- Bytes [lo, lo + n) of a record as a little-endian number. -/
def le (b : List Byte) (lo n : Nat) : Nat := natOfBytes ((b.drop lo).take n)

/-- One byte into a reflected CRC32C (Castagnoli). -/
def crcByte (crc : Nat) (b : Byte) : Nat :=
  (List.range 8).foldl (fun c _ => if c % 2 = 1 then Nat.xor (c / 2) 0x82F63B78 else c / 2) (Nat.xor crc b.toNat)

/-- CRC32C of a byte string (R363). -/
def crc32c (bs : List Byte) : Nat := Nat.xor (bs.foldl crcByte 0xFFFFFFFF) 0xFFFFFFFF

/-- A quotient of naturals as the nearest FP32. -/
def fp32Ratio (a b : Nat) : W32 := toFp32 (FVal.quot (.fin false a 0) (.fin false b 0))

def w32At (b : List Byte) (lo : Nat) : W32 := BitVec.ofNat 32 (le b lo 4)

/-! ### Settings (R375) -/

/-- The output format; the codes R375 lists. -/
def outFmt (st : List Byte) : Option Fmt :=
  if [0, 1, 2, 3, 4, 11].contains (le st 0 1) then Fmt.ofCode (le st 0 1) else none

def outBytes (st : List Byte) : Nat := match outFmt st with
  | some f => f.bits / 8
  | none => 0

/-- Output planes of a colour setting. -/
def outPlanes (st : List Byte) : Nat := if le st 2 1 = 1 then 1 else 3

def pictureBytes (st : List Byte) : Nat := outPlanes st * le st 6 2 * le st 4 2 * outBytes st

/-- Conversion to the output format (R371 step 11): the element's code. -/
def outCode (st : List Byte) (x : W32) : Nat :=
  match outFmt st, Cvt.ofByte (le st 1 1) with
  | some f, some c => (cvtElem f c 0 (ofFp32 x)).1
  | _, _ => 0

/-- Whether bytes of the block that the table does not list are zero, and the unlisted bits of listed ones. -/
def settingsReserved (b : List Byte) : Bool :=
  let zero := fun (lo n : Nat) => decide (le b lo n = 0)
  zero 19 1 && zero 61 3 && zero 116 140 && decide (le b 16 1 < 2) && decide (le b 68 1 < 32) &&
  decide (bitsOf (le b 68 1) 2 2 < 2)

/-- The checks on a settings block (R375, R376), apart from the pool's slot size: image limits `mw`, `mh`. -/
def settingsOk (b : List Byte) (mw mh : Nat) : Bool :=
  let ow := le b 4 2
  let oh := le b 6 2
  let ao := le b 69 1
  let slot := le b 112 4
  let unit := fun (c : Nat) => decide (w32At b (24 + 4 * c) = 0x3F800000 ∧ w32At b (40 + 4 * c) = 0xC3000000)
  settingsReserved b && (outFmt b).isSome &&
  (match outFmt b with
   | some f => (match Cvt.check (le b 1 1) f with
     | some c => !c.sr
     | none => false)
   | none => false) &&
  decide (le b 2 1 ≤ 2 ∧ le b 3 1 ≤ 2) && decide (1 ≤ ow ∧ ow ≤ mw ∧ 1 ≤ oh ∧ oh ≤ mh) &&
  decide (le b 17 1 ≤ 15 ∧ 1 ≤ le b 18 1 ∧ 1 ≤ le b 60 1 ∧ ao ≤ 3) &&
  (decide (le b 0 1 ≠ 11) || (List.range (outPlanes b)).all unit) &&
  (decide (ao = 0) || [256, 512, 1024, 2048].contains (le b 70 2) && decide (1 ≤ le b 72 2)) &&
  (decide (ao < 2) || decide (1 ≤ le b 74 2 ∧ le b 74 2 ≤ 256)) &&
  decide (le b 96 4 + pictureBytes b ≤ slot ∧ le b 100 4 ≤ slot ∧ le b 104 4 + le b 108 4 ≤ slot)

/-! ### Augmentation records (R374) -/

/-- Bytes of an augmentation record that the table does not list are zero. -/
def augOk (a : List Byte) : Bool :=
  decide (le a 8 1 < 16) && decide (le a 9 3 = 0) && decide (le a 48 16 = 0)

/-! ### The picture pipeline (R371) -/

/-- A plane of values: its width and its rows one after another. -/
structure Plane where
  w : Nat
  h : Nat
  v : List W32
  deriving DecidableEq, Repr

def Plane.at (p : Plane) (x y : Nat) : W32 := p.v.getD (min y (p.h - 1) * p.w + min x (p.w - 1)) 0

/-- A plane from its values by column and row. -/
def Plane.make (w h : Nat) (f : Nat → Nat → W32) : Plane :=
  ⟨w, h, (List.range h).flatMap (fun y => (List.range w).map (fun x => f x y))⟩

/-- Step 1: plane `c` at luma resolution by replication, and the fit of R369 to `w` by `h`: lines beyond those received
repeat the last one, missing columns the last column. -/
def lumaPlane (p : Picture) (c w h : Nat) : List Nat :=
  let l := p.planes.getD c []
  let (sx, sy) := if c = 0 || p.planes.length < 3 then (0, 0) else (p.subX, p.subY)
  let cw := (p.w + 2 ^ sx - 1) / 2 ^ sx
  (List.range h).flatMap (fun y => (List.range w).map (fun x =>
    let x := min x (p.w - 1)
    let y := min y (min p.h p.lines - 1)
    l.getD (y / 2 ^ sy * cw + x / 2 ^ sx) 0))

def wsum (l : List (W32 × W32)) : W32 := l.foldl (fun a e => fp32Fma e.1 e.2 a) 0

/-- The FP32 constant nearest to a decimal n / 10^6. -/
def mil (n : Nat) : W32 := fp32Ratio n 1000000

/-- Full-range BT.601 (R371 step 3). -/
def jpegRgb (y cb cr : W32) : W32 × W32 × W32 :=
  let b := fp32Sub cb 0x43000000
  let r := fp32Sub cr 0x43000000
  (wsum [(fp32One, y), (mil 1402000, r)],
   wsum [(fp32One, y), (fp32Neg (mil 344136), b), (fp32Neg (mil 714136), r)],
   wsum [(fp32One, y), (mil 1772000, b)])

/-- BT.709 luma of three values. -/
def luma709 (r g b : W32) : W32 := wsum [(mil 212600, r), (mil 715200, g), (mil 72200, b)]

/-- Steps 2 and 3: the colour planes of one pixel from its scaled samples. -/
def colourPixel (p : Picture) (colour : Nat) (v : List W32) : List W32 :=
  let a := v.getD 0 0
  let b := v.getD 1 0
  let c := v.getD 2 0
  let rgb : W32 × W32 × W32 := match p.kind with
    | 0 => if p.planes.length < 3 then (a, a, a) else jpegRgb a b c
    | 1 => (a, b, c)
    | 3 => if p.planes.length < 3 then (a, a, a) else Config.videoRgb (p.depth, p.kr, p.kb, p.fullRange) a b c
    | _ => (a, a, a)
  match colour with
  | 0 => [rgb.1, rgb.2.1, rgb.2.2]
  | 1 => if p.kind = 1 then [luma709 a b c] else [a]
  | _ => v

/-- Steps 1 to 3 on a picture brought to `w` by `h`: the colour planes. -/
def colourPlanes (p : Picture) (colour w h : Nat) : List Plane :=
  let k := fp32Ratio 255 (2 ^ p.depth - 1)
  let ps := (List.range p.planes.length).map (fun c => lumaPlane p c w h)
  let px := (List.range (w * h)).map (fun i => colourPixel p colour (ps.map (fun l => fp32Mul (fp32Nat (l.getD i 0)) k)))
  let n := (px.headD []).length
  (List.range n).map (fun c => ⟨w, h, px.map (fun v => v.getD c 0)⟩)

/-- A rectangle clamped into a frame (R371 step 4); at least one pixel stands. -/
def clampRect (r : Nat × Nat × Nat × Nat) (w h : Nat) : Nat × Nat × Nat × Nat :=
  let x := min r.1 (w - 1)
  let y := min r.2.1 (h - 1)
  (x, y, max 1 (min r.2.2.1 (w - x)), max 1 (min r.2.2.2 (h - y)))

def cropPlane (p : Plane) (r : Nat × Nat × Nat × Nat) : Plane := Plane.make r.2.2.1 r.2.2.2 (fun x y => p.at (r.1 + x) (r.2.1 + y))

/-- Step 5: one quarter turn clockwise. -/
def turnPlane (p : Plane) : Plane := Plane.make p.h p.w (fun x y => p.at y (p.h - 1 - x))

def turns : Nat → Plane → Plane
  | 0, p => p
  | n + 1, p => turns n (turnPlane p)

/-- Cubic weights at distance t (a = −1/2), each rounded once. -/
def cubicWeight (t : FVal) : W32 :=
  let half := fun (n : Int) => (if n < 0 then FVal.fin true n.natAbs (-1) else FVal.fin false n.natAbs (-1) : FVal)
  let t1 := t.abs
  let t2 := t1.mul t1
  let t3 := t2.mul t1
  if FVal.lt (.fin false 1 0) t1 then
    if FVal.lt t1 (.fin false 2 0) then
      toFp32 (FVal.sum [(half (-1)).mul t3, (half 5).mul t2, (half (-8)).mul t1, half 4])
    else 0
  else toFp32 (FVal.sum [(half 3).mul t3, (half (-5)).mul t2, half 2])

/-- The floor of a finite value. -/
def floorVal : FVal → Int
  | .fin n m e =>
    let f : Int := if e ≥ 0 then (m * 2 ^ e.toNat : Nat) else ((m / 2 ^ (-e).toNat : Nat) : Int)
    let exact := decide (e ≥ 0) || decide (m % 2 ^ (-e).toNat = 0)
    if n then (if exact then -f else -f - 1) else f
  | _ => 0

/-- Taps of output position `x` in a span of `w` inputs and `ow` outputs (R371 step 6): input index and weight. -/
def resizeTaps (mode w ow x : Nat) : List (Nat × W32) :=
  let clampI := fun (i : Int) => (max 0 (min (w - 1 : Int) i)).toNat
  if mode = 2 ∧ ow < w then
    -- covered span [x w / ow, (x + 1) w / ow), in units of 1 / ow
    let lo := x * w
    let hi := (x + 1) * w
    (List.range (cdiv hi ow - lo / ow)).map (fun j =>
      let i := lo / ow + j
      (i, fp32Ratio (min hi ((i + 1) * ow) - max lo (i * ow)) w))
  else
    let xs := fp32Sub (fp32Mul (toFp32 (.fin false (2 * x + 1) (-1))) (fp32Ratio w ow)) 0x3F000000
    let i0 := floorVal (ofFp32 xs)
    let f := fp32Sub xs (toFp32 (FVal.ofInt i0))
    if mode = 1 then
      [(-1 : Int), 0, 1, 2].map (fun (j : Int) =>
        (clampI (i0 + j), cubicWeight ((ofFp32 f).add (FVal.ofInt (-j)))))
    else [(clampI i0, fp32Sub fp32One f), (clampI (i0 + 1), f)]

/-- Step 6: horizontal pass, then vertical. -/
def resizePlane (mode ow oh : Nat) (p : Plane) : Plane :=
  let cols := (List.range ow).map (resizeTaps mode p.w ow)
  let q := Plane.make ow p.h (fun x y => wsum ((cols.getD x []).map (fun e => (e.2, p.at e.1 y))))
  let rows := (List.range oh).map (resizeTaps mode p.h oh)
  Plane.make ow oh (fun x y => wsum ((rows.getD y []).map (fun e => (e.2, q.at x e.1))))

/-- The nearest integer of an FP32 value, clamped to 0 to 255. -/
def byteLevel (v : W32) : Nat :=
  match ofFp32 v with
  | .fin n m e => if n then 0 else min 255 (roundAt .rne m e 0)
  | .inf n => if n then 0 else 255
  | .nan => 0

/-- A crop of four 16-bit fields; none where the width is 0. -/
def rectAt (b : List Byte) (lo : Nat) : Option (Nat × Nat × Nat × Nat) :=
  if le b (lo + 4) 2 = 0 then none else some (le b lo 2, le b (lo + 2) 2, le b (lo + 4) 2, le b (lo + 6) 2)

/-- What the pipeline gives: the slot's element codes in order, the histogram, whether the region of interest was used. -/
structure PicOut where
  codes : List Nat
  hist : List Nat
  region : Bool
  deriving DecidableEq, Repr

/-- R371 on a picture brought to `w` by `h`. -/
def runPicture (p : Picture) (st aug : List Byte) (w h : Nat) (roi : Option (Nat × Nat × Nat × Nat)) : PicOut :=
  let ow := le st 4 2
  let oh := le st 6 2
  let (r, used) := match rectAt aug 0, roi, rectAt st 8 with
    | some r, _, _ => (r, false)
    | none, some r, _ => (r, true)
    | none, none, some r => (r, false)
    | none, none, none => ((0, 0, w, h), false)
  let r := clampRect r w h
  let flags := le aug 8 1
  let gain := fp32Add fp32One (w32At aug 16)
  let step8 := (colourPlanes p (le st 2 1) w h).map (fun pl =>
    let q := resizePlane (le st 3 1) ow oh (turns (bitsOf flags 2 2) (cropPlane pl r))
    Plane.make ow oh (fun x y =>
      let x := if bitOf flags 0 then ow - 1 - x else x
      let y := if bitOf flags 1 then oh - 1 - y else y
      fp32Fma (q.at x y) gain (w32At aug 12)))
  let lumaAt := fun (i : Nat) =>
    let v := step8.map (fun pl => pl.v.getD i 0)
    if le st 2 1 = 0 then luma709 (v.getD 0 0) (v.getD 1 0) (v.getD 2 0) else v.getD 0 0
  let levels := (List.range (ow * oh)).map (fun i => byteLevel (lumaAt i))
  let erased := fun (i : Nat) => match rectAt aug 32 with
    | some (ex, ey, ew, eh) => decide (ex ≤ i % ow ∧ i % ow < ex + ew ∧ ey ≤ i / ow ∧ i / ow < ey + eh)
    | none => false
  let codes := ((List.range step8.length).zip step8).flatMap (fun cp =>
    ((List.range (ow * oh)).zip cp.2.v).map (fun e =>
      outCode st (if erased e.1 then 0 else fp32Fma e.2 (w32At st (24 + 4 * cp.1)) (w32At st (40 + 4 * cp.1)))))
  ⟨codes, (List.range 256).map (fun b => levels.count b), used⟩

/-! ### The region of interest (R382) -/

/-- The thumbnail: cells of 8 by 8 luma samples. -/
def thumbnail (p : Picture) : Nat × Nat × List Nat :=
  let l := lumaPlane p 0 p.w p.h
  let cw := cdiv p.w 8
  let ch := cdiv p.h 8
  (cw, ch, (List.range (cw * ch)).map (fun i =>
    let cells := (List.range 64).map (fun k =>
      let x := i % cw * 8 + k % 8
      let y := i / cw * 8 + k / 8
      if x < p.w ∧ y < p.h then l.getD (y * p.w + x) 0 else 0)
    (cells.sum + 32) / 64))

/-- Grown about its centre to at least `m` blocks, clamped to `n` blocks. -/
def growSpan (lo hi m n : Nat) : Nat × Nat :=
  if hi - lo ≥ m then (lo, hi)
  else
    let add := m - (hi - lo)
    let lo' := lo - add / 2
    let hi' := min n (lo' + m)
    (hi' - min hi' m, hi')

/-- The region of frame n from the cells of n and n − 1, in pixels; none with no active block. -/
def regionFrom (st : List Byte) (w h : Nat) (new old : Nat × Nat × List Nat) : Option (Nat × Nat × Nat × Nat) :=
  let bw := cdiv w 64
  let bh := cdiv h 64
  let change := fun (b : Nat) => ((List.range 64).map (fun k =>
    let x := b % bw * 8 + k % 8
    let y := b / bw * 8 + k / 8
    if x < new.1 ∧ y < new.2.1 then
      let a := new.2.2.getD (y * new.1 + x) 0
      let c := old.2.2.getD (y * new.1 + x) 0
      (a - c) + (c - a)
    else 0)).sum
  let act := (List.range (bw * bh)).filter (fun b => decide (le st 20 4 < change b))
  match act with
  | [] => none
  | a :: rest =>
    let x0 := rest.foldl (fun m b => min m (b % bw)) (a % bw)
    let x1 := rest.foldl (fun m b => max m (b % bw)) (a % bw) + 1
    let y0 := rest.foldl (fun m b => min m (b / bw)) (a / bw)
    let y1 := rest.foldl (fun m b => max m (b / bw)) (a / bw) + 1
    let g := le st 17 1
    let xs := growSpan (x0 - g) (min bw (x1 + g)) (min bw (le st 18 1)) bw
    let ys := growSpan (y0 - g) (min bh (y1 + g)) (min bh (le st 18 1)) bh
    some (64 * xs.1, 64 * ys.1, min w (64 * xs.2) - 64 * xs.1, min h (64 * ys.2) - 64 * ys.1)

/-! ### The sound pipeline (R372, R373) -/

/-- A PCM sample of format 0 s16, 1 s24, 2 s32, 3 f32, scaled to [−1, 1). -/
def pcmSample (fmt : Nat) (bs : List Byte) : W32 :=
  match fmt with
  | 0 => toFp32 ((FVal.ofInt (signedOf 16 (natOfBytes bs))).scaleExp (-15))
  | 1 => toFp32 ((FVal.ofInt (signedOf 24 (natOfBytes bs))).scaleExp (-23))
  | 2 => toFp32 ((FVal.ofInt (signedOf 32 (natOfBytes bs))).scaleExp (-31))
  | _ => BitVec.ofNat 32 (natOfBytes bs)

def pcmWidth (fmt : Nat) : Nat := match fmt with
  | 0 => 2 | 1 => 3 | _ => 4

/-- Interleaved PCM (R364): `declared` samples that the headers give. -/
def pcmDecode (fmt ch rate declared : Nat) (bs : List Byte) : Decoded :=
  if fmt > 3 || ch = 0 || ch > 8 || rate < 8000 || rate > 192000 then .unsupported
  else
    let e := pcmWidth fmt
    let n := min declared (bs.length / (e * ch))
    if n = 0 then .error
    else .sound ⟨rate, (List.range ch).map (fun c => (List.range n).map (fun t =>
      pcmSample fmt ((bs.drop ((t * ch + c) * e)).take e))), declared, decide (declared * e * ch < bs.length)⟩

/-- The chunks of a RIFF WAVE file: identifier, declared size and place. -/
def riffChunks (bs : List Byte) : Nat → Nat → List (Nat × Nat × Nat)
  | 0, _ => []
  | fuel + 1, pos =>
    if pos + 8 ≤ bs.length then
      let n := le bs (pos + 4) 4
      (le bs pos 4, n, pos + 8) :: riffChunks bs fuel (pos + 8 + n + n % 2)
    else []

/-- The format and data chunks of a WAVE file: format, channels, rate, bits, data size, data place. -/
def waveHeader (bs : List Byte) : Option (Nat × Nat × Nat × Nat × Nat × Nat) :=
  if le bs 0 4 = 0x46464952 ∧ le bs 8 4 = 0x45564157 then
    let cs := riffChunks bs (bs.length / 8 + 1) 12
    match cs.find? (fun c => c.1 == 0x20746D66), cs.find? (fun c => c.1 == 0x61746164) with
    | some (_, n, f), some (_, d, at') =>
      if n ≥ 16 then some (le bs f 2, le bs (f + 2) 2, le bs (f + 4) 4, le bs (f + 14) 2, d, at') else none
    | _, _ => none
  else none

/-- The sample format of a WAVE file (R364 type 0x06); none where R370 does not support it. -/
def waveFmt (format bits : Nat) : Option Nat :=
  match format, bits with
  | 1, 16 => some 0 | 1, 24 => some 1 | 1, 32 => some 2 | 3, 32 => some 3
  | _, _ => none

def waveDecode (bs : List Byte) : Decoded :=
  match waveHeader bs with
  | none => .error
  | some (f, ch, rate, bits, d, at') =>
    match waveFmt f bits with
    | none => .unsupported
    | some k => pcmDecode k ch rate (d / (pcmWidth k * max 1 ch)) ((bs.drop at').take d)

/-- ln 10 in fixed point. -/
def ln10 : Int := 3 * Fix.ln2 + Fix.twoAtanh (Fix.one / 9)

/-- 10^(g / 20), correctly rounded (R372 step 3). -/
def gainOf (g : W32) : W32 :=
  match ofFp32 g with
  | .fin n m e => if m = 0 then fp32One
    else
      let x := Fix.clamp 200 (Fix.mul (Fix.ofDyadic n m e) (Fix.div ln10 (20 * Fix.one)))
      let (v, k) := Fix.exp x
      toFp32 ((Fix.toVal v).scaleExp k)
  | .inf n => if n then 0 else 0x7F800000
  | .nan => fp32Nan

/-- Steps 2 to 4 of R372. -/
def soundSpan (a : Sound) (st aug : List Byte) : List (List W32) :=
  let off := le aug 24 4
  let len := le aug 28 4
  let g := gainOf (w32At aug 20)
  let chs := a.samples.map (fun l =>
    let l := l.drop off
    (if len = 0 then l else l.take len).map (fun v => fp32Mul v g))
  if bitOf (le st 68 1) 0 then
    let r := fp32Recip (fp32Nat chs.length)
    [(List.range (chs.headD []).length).map (fun t =>
      fp32Mul (chs.foldl (fun acc l => fp32Add acc (l.getD t 0)) 0) r)]
  else chs

/-- The reduced terms up / down of a resampling; none outside R372 step 5. -/
def resampleTerms (inRate outRate : Nat) : Option (Nat × Nat) :=
  let g := max 1 (Nat.gcd inRate outRate)
  if outRate / g ≤ 4096 ∧ inRate / g ≤ 4096 then some (outRate / g, inRate / g) else none

/-- Step 5 on one channel. -/
def resample (up down : Nat) (l : List W32) : List W32 :=
  if up = down then l
  else (List.range (cdiv (l.length * up) down)).map (fun t =>
    let i := t * down / up
    let ph := t * down % up
    wsum ((List.range 32).map (fun k =>
      (Config.resampleTap up down ph k, if i + k < 15 then 0 else l.getD (i + k - 15) 0))))

/-- 20 log10 of a magnitude's square's half: dBFS of an exact square sum over n (R377); −200 for silence. -/
def dbfs (sq : FVal) (n : Nat) : W32 :=
  if sq.isZero then 0xC3480000
  else match SfnFunc.log.unary sq, SfnFunc.log.unary (.fin false n 0) with
    | .fin sa ma ea, .fin sb mb eb =>
      toFp32 (Fix.toVal (Fix.div ((Fix.ofDyadic sa ma ea - (if mb = 0 then 0 else Fix.ofDyadic sb mb eb)) * 10) ln10))
    | _, _ => fp32Nan

/-- RMS and peak level of a channel. -/
def levelsOf (l : List W32) : W32 × W32 :=
  let vs := l.map ofFp32
  let peak := vs.foldl (fun m v => FVal.max m v.abs) (.zero false)
  (dbfs (FVal.sum (vs.map (fun v => v.mul v))) (max 1 l.length), dbfs (peak.mul peak) 1)

/-- A window value (R373), correctly rounded. -/
def windowAt (hamming : Bool) (nfft i : Nat) : W32 :=
  let c := Fix.sin (2 * Fix.pi * i / nfft) 1
  if hamming then toFp32 (Fix.toVal (Fix.one * 54 / 100 - c * 46 / 100))
  else if i = 0 then 0 else toFp32 (Fix.toVal ((Fix.one - c) / 2))

/-- A twiddle e^(−2πi k / n), correctly rounded. -/
def twiddle (n k : Nat) : W32 × W32 :=
  if k = 0 then (fp32One, 0)
  else if 4 * k = n then (0, fp32Neg fp32One)
  else (toFp32 (Fix.toVal (Fix.sin (2 * Fix.pi * k / n) 1)), fp32Neg (toFp32 (Fix.toVal (Fix.sin (2 * Fix.pi * k / n) 0))))

def evens {α : Type} : List α → List α
  | [] => []
  | [a] => [a]
  | a :: _ :: r => a :: evens r

/-- Radix-2 decimation in time; each butterfly's product rounds one product and one fma. -/
def fft : Nat → List (W32 × W32) → List (W32 × W32)
  | 0, l => l
  | d + 1, l =>
    let a := fft d (evens l)
    let b := fft d (evens (l.drop 1))
    let n := l.length
    let t := ((List.range b.length).zip b).map (fun e =>
      let w := twiddle n e.1
      (fp32Fma w.1 e.2.1 (fp32Neg (fp32Mul w.2 e.2.2)), fp32Fma w.1 e.2.2 (fp32Mul w.2 e.2.1)))
    (a.zip t).map (fun e => (fp32Add e.1.1 e.2.1, fp32Add e.1.2 e.2.2)) ++
    (a.zip t).map (fun e => (fp32Sub e.1.1 e.2.1, fp32Sub e.1.2 e.2.2))

/-- The sample at a position of the padded signal: one reflection at each end, zeros beyond (R373). -/
def reflected (l : List W32) (i : Int) : W32 :=
  let n : Int := l.length
  let j := if i < 0 then -i else if i ≥ n then 2 * (n - 1) - i else i
  if 0 ≤ j ∧ j < n then l.getD j.toNat 0 else 0

/-- Frames of the STFT: F, at least 1 where `pad` asks; 0 where the signal is too short. -/
def stftFrames (st : List Byte) (n : Nat) : Nat :=
  let nfft := le st 70 2
  let p := if bitOf (le st 68 1) 1 then nfft else 0
  if n + p < nfft then 0 else (n + p - nfft) / max 1 (le st 72 2) + 1

/-- The power spectrum of frame `t` of a channel. -/
def powerFrame (st : List Byte) (l : List W32) (t : Nat) : List W32 :=
  let nfft := le st 70 2
  let centre := bitOf (le st 68 1) 1
  let base : Int := (t * le st 72 2 : Nat) - (if centre then (nfft / 2 : Nat) else (0 : Nat) : Int)
  let xs := (List.range nfft).map (fun (i : Nat) =>
    let v := if centre then reflected l (base + i) else l.getD (base + i).toNat 0
    (fp32Mul v (windowAt (decide (bitsOf (le st 68 1) 2 2 = 1)) nfft i), (0 : W32)))
  ((fft nfft.log2 xs).take (nfft / 2 + 1)).map (fun c => fp32Fma c.1 c.1 (fp32Mul c.2 c.2))

/-- The bins of frame `t` under audio_out (R373). -/
def audioFrame (st : List Byte) (rate : Nat) (l : List W32) (t : Nat) : List W32 :=
  let ps := powerFrame st l t
  let mel := (List.range (le st 74 2)).map (fun m =>
    wsum (((List.range ps.length).zip ps).map (fun e =>
      (Config.melWeight (bitOf (le st 68 1) 4) (le st 70 2, rate, le st 74 2) (w32At st 76, w32At st 80) m e.1, e.2))))
  match le st 69 1 with
  | 1 => ps
  | 2 => mel
  | _ => mel.map (fun m => sfnNative .log (fp32Max m (w32At st 84)) 0)

/-- What the sound pipeline gives: elements in order, samples N after resampling, levels, whether it was cut or padded. -/
structure SndOut where
  codes : List Nat
  n : Nat
  levels : List (W32 × W32)
  trunc : Bool
  padded : Bool
  deriving DecidableEq, Repr

/-- R372 and R373; none where the resampling ratio is outside R372. `some` with no codes and F = 0 is left to the caller by
`short`. -/
def runSound (a : Sound) (st aug : List Byte) : Option (SndOut × Bool) :=
  let outRate := if le st 64 4 = 0 then a.rate else le st 64 4
  match resampleTerms a.rate outRate with
  | none => none
  | some (up, down) =>
    let chs := (soundSpan a st aug).map (resample up down)
    let n := (chs.headD []).length
    let want := le st 92 4
    let fit := if want = 0 then chs else chs.map (fun l => (l ++ List.replicate (want - l.length) 0).take want)
    let trunc := decide (want ≠ 0 ∧ want < n)
    let padded := decide (want ≠ 0 ∧ n < want)
    let levels := (chs.take 8).map levelsOf
    if le st 69 1 = 0 then
      some (⟨fit.flatMap (fun l => l.map (outCode st)), n, levels, trunc, padded⟩, false)
    else
      let len := (fit.headD []).length
      let short := decide (stftFrames st len = 0)
      let need := le st 70 2 - (if bitOf (le st 68 1) 1 then le st 70 2 else 0)
      let fit := if short then fit.map (fun l => l ++ List.replicate (need - l.length) 0) else fit
      let fr := max 1 (stftFrames st (fit.headD []).length)
      let masked := fun (b t : Nat) =>
        let m := fun (at' x : Nat) => decide (le aug at' 2 ≤ x ∧ x < le aug at' 2 + le aug (at' + 2) 2)
        m 40 t || m 44 b
      let codes := fit.flatMap (fun l =>
        let frames := (List.range fr).map (audioFrame st outRate l)
        (List.range (frames.headD []).length).flatMap (fun b =>
          ((List.range fr).zip frames).map (fun e => outCode st (if masked b e.1 then 0 else e.2.getD b 0))))
      some (⟨codes, n, levels, trunc, padded || short⟩, short)

end Sys2Proof.Machine
end

