-- ==== Sys2Proof/Machine/Vote.lean ====
section
/-! DEFINITION. The Squall vote's commands (R267 to R286): formation, the tree's roles and their timers, decisions, queries,
APPLIED and STEP_DONE, fencing and the hold. -/
namespace Sys2Proof.Machine

/-! ### Messages -/

/-- A parsed Squall message (R270). -/
structure SMsg where
  step : Nat
  type : Nat
  inst : Nat
  job : Nat
  gen : Nat
  dev : Nat
  pod : Nat
  records : Nat
  body : Nat
  recs : List Byte
  raw : List Byte
  deriving DecidableEq, Repr

def smsgOf (b : List Byte) : SMsg :=
  let f := fun lo n => natOfBytes ((b.drop lo).take n)
  { step := f 0 8, type := f 8 1, inst := f 9 1 % 8, job := f 10 2, gen := f 12 2, dev := f 14 1 % 64, pod := f 15 1 % 128,
    records := f 16 1, body := f 24 8, recs := b.drop 32, raw := b }

/-- The VOTE records of a message. -/
def SMsg.votes (m : SMsg) : List VoteRec := (List.range m.records).map (fun j => State.voteRecOf (m.recs.drop (16 * j)))
def SMsg.pods (m : SMsg) : List PodRec := (List.range m.records).map (fun j => State.podRecOf (m.recs.drop (32 * j)))

def absentRec (d : Nat) : VoteRec := ⟨d, false, 8, 0, 0⟩
def VoteRec.absent (r : VoteRec) : Bool := bitOf r.causes 3

/-- The causes that name the module that has them: Selvage, lower tier, absent, reset (R281). -/
def moduleCauses (c : Nat) : Bool := bitOf c 1 || bitOf c 2 || bitOf c 3 || bitOf c 4
/-- Those of them that count toward fencing (R281). -/
def countedCauses (c : Nat) : Bool := bitOf c 1 || bitOf c 2 || bitOf c 3

/-- A sum in the order given, one rounding per addition, from the first value (R273). -/
def fp32SumFrom (l : List W32) : W32 :=
  match l with
  | [] => 0
  | x :: xs => xs.foldl fp32Add x

namespace State

/-! ### Message transport on channel 0 and 1 (R270, R298, R334) -/

/-- The packets of one message, in address order. -/
def insertAddr (r : RxPkt) : List RxPkt → List RxPkt
  | [] => [r]
  | x :: xs => if r.pkt.addr ≤ x.pkt.addr then r :: x :: xs else x :: insertAddr r xs

/-- Whether packets join from offset `a` to the last of their transaction. -/
def joined (a : Nat) : List RxPkt → Bool
  | [] => false
  | [r] => decide (r.pkt.addr = a) && r.pkt.last
  | r :: rest => decide (r.pkt.addr = a) && joined (a + r.pkt.payload.length) rest

/-- A whole MSG of a sub, found by one of its packets: the session, the bytes, its packets (R321, R334). -/
def msgAt (s : State) (k sub : Nat) : Option (SessId × List Byte × List RxPkt) :=
  match s.ingress[k]? with
  | none => none
  | some rx =>
    let mine := fun (r : RxPkt) => r.sess == rx.sess && r.pkt.type == 1 && r.pkt.op == 7 && r.pkt.sub == sub && r.pkt.txn == rx.pkt.txn
    let parts := (s.ingress.filter mine).foldr insertAddr []
    if mine rx && joined 0 parts then some (rx.sess, parts.flatMap (fun r => r.pkt.payload), parts) else none

/-- A message takes effect, then its packets are acknowledged; one for an older generation is NAKed (R326, R335). -/
def withMsg (s : State) (k sub : Nat) (want : List Byte → Bool) (f : SessId → List Byte → State → State) : State :=
  match s.msgAt k sub with
  | none => s
  | some (j, bytes, parts) =>
    if !want bytes then s
    else
      have s := { s with ingress := s.ingress.filter (fun r => !parts.contains r) }
      let old := parts.any (fun r => genOlder r.pkt.tgen (s.gen (s.sess j.val).inst))
      have s := if old then s else f j bytes s
      parts.foldl (fun s r => s.answerRx r (if old then 0x63 else 0)) s

/-- A Squall message of a type, from a packet or from this module itself; the checks of R270. -/
def withSquall (s : State) (m : MsgRef) (want : Nat → Bool) (f : Nat → SMsg → State → State) : State :=
  match m with
  | .loopback k =>
    (match s.localMsgs[k]? with
     | none => s
     | some (i, _, b) =>
       if want (smsgOf b).type then f i (smsgOf b) { s with localMsgs := dropAt s.localMsgs k } else s)
  | .ingress k => s.withMsg k 2 (fun b => want (smsgOf b).type) (fun j b s =>
      let x := smsgOf b
      let i := (s.sess j.val).inst
      let key := x.pod * 64 + x.dev
      let v := s.vote i
      if x.type = 0 ∨ 7 < x.type then s
      else
        let seen := (v.seenGen.find? (fun e => e.1 == key)).map Prod.snd
        let old := match seen with
          | some g => genOlder x.gen g
          | none => false
        if x.inst ≠ i ∨ x.job ≠ s.jobId i || !s.voteOn i || old then s.inc (R.SEAM_DROPPED_RECORDS i)
        else
          have s := s.setVote i { v with seenGen := v.seenGen.filter (fun e => e.1 != key) ++ [(key, x.gen)] }
          f i x s)

/-! ### Steps that a role holds open (R272, R274) -/

def OpenStep.new (step : Nat) : OpenStep := ⟨step, [], [], [], false, false⟩

def openOf (s : State) (i step : Nat) : Option OpenStep := (s.vote i).opened.find? (fun o => o.step == step)

def putOpen (s : State) (i : Nat) (o : OpenStep) : State :=
  let v := s.vote i
  s.setVote i { v with opened := v.opened.filter (fun x => x.step != o.step) ++ [o] }

/-- The open step: the lowest one not decided. -/
def baseStep (s : State) (i : Nat) : Option Nat :=
  (s.vote i).opened.foldl (fun a o => match a with
    | none => some o.step
    | some b => some (min b o.step)) none

/-- Where a leader's record for a step falls: 0 accepted, 1 older, 2 newer (R274). -/
def windowOf (s : State) (i step : Nat) : Nat :=
  let decided := (s.decisionOf i step).isSome || (match s.lastDecided i with
    | some l => decide (step ≤ l)
    | none => false)
  let floor := match (s.vote i).next with
    | some n => decide (step < n)
    | none => false
  if decided || floor then 1
  else match s.baseStep i with
    | none => 0
    | some b => if step < b then 1 else if b + 1 < step then 2 else 0

/-- A record at a leader that its window turns away. -/
def refuseRec (s : State) (i w : Nat) : State :=
  if w = 1 then s.inc (R.SEAM_LATE_VOTES i) else s.inc (R.SEAM_DROPPED_RECORDS i)

/-! ### Decisions at a module (R265, R267, R275, R284) -/

/-- What SEAM_ENG_STATUS shows: items queued and items running; a SQUALL_VOTE counts as queued (R288). -/
def showSeam (s : State) (d : Nat) : State :=
  let q := s.seam.get [] d
  let votes := ((List.range 8).map (fun i => ((s.vote i).items.filter (fun it => it.die.val == d)).length)).sum
  have s := s.setFld (R.SEAM_ENG_STATUS d) F.SEAM_ENG_STATUS_queued (min 32 ((q.filter (fun it => !it.started)).length + votes))
  s.setFld (R.SEAM_ENG_STATUS d) F.SEAM_ENG_STATUS_active (min 4 (q.filter (fun it => it.started)).length)

/-- A SQUALL_VOTE item ends on its engine. -/
def endVote (s : State) (it : VoteItem) (st : Nat) : State :=
  have s := s.setFld (R.SEAM_ENG_STATUS it.die.val) F.SEAM_ENG_STATUS_last_status st
  have s := (s.add64 (R.SEAM_ENG_ITEMS it.die.val) 1).showSeam it.die.val
  s.finishItem it.origin st 0 it.doneSem (.engine 4 it.die.val) it.owner

/-- The vote items that a test picks end with a status. -/
def endVotes (s : State) (i st : Nat) (p : VoteItem → Bool) : State :=
  let v := s.vote i
  have s := s.setVote i { v with items := v.items.filter (fun it => !p it) }
  (v.items.filter p).foldl (fun s it => s.endVote it st) s

/-- The message of a decision: its body, and L in one record of the VOTE layout (DESIGN CHOICE, log entry 35). -/
def decisionMsg (s : State) (i : Nat) (d : Decided) : List Byte :=
  s.squallMsg i 3 d.step s.podDevice s.podNumber 1
    ((if d.commit then 1 else 0) + d.causes % 256 * 2 ^ 8 + d.n2.toNat * 2 ^ 32)
    (voteRecBytes ⟨s.podDevice, d.commit, d.causes, d.n2, d.l⟩)

/-- The gradient-noise sums of a decision (R284). -/
def recordGns (s : State) (i : Nat) (d : Decided) : State :=
  if fp32NonFinite d.n2 || fp32NonFinite d.l then s
  else
    let v := s.vote i
    have s := s.setReg (R.SEAM_GNS_SUMS i) (BitVec.ofNat 64 (d.l.toNat + d.n2.toNat * 2 ^ 32))
    have s := s.setReg (R.SEAM_GNS_STEP i) (BitVec.ofNat 64 d.step)
    have s := s.setVote i { v with gnsCount := v.gnsCount + 1 }
    if v.gnsCount ≥ 1 then s.setFld (R.SEAM_VOTE_STATUS i) F.SEAM_VOTE_STATUS_gns_valid 1 else s

/-- The pod's record from its members' (R273); a missing member counts as absent. -/
def podVote (s : State) (i : Nat) (o : OpenStep) : PodRec :=
  let recs := (s.membersOf i).map (fun d => (o.members.find? (fun r => r.device == d)).getD (absentRec d))
  let real := recs.filter (fun r => !r.absent)
  { pod := s.podNumber, commit := recs.all (fun r => r.commit && !r.absent), causes := recs.foldl (fun a r => Nat.lor a r.causes) 0,
    normSq := fp32SumFrom (real.map (fun r => r.normSq)), localSq := fp32SumFrom (real.map (fun r => r.localSq)),
    causeDevices := recs.foldl (fun a r => if moduleCauses r.causes then setBit a r.device else a) 0 }

/-- At a pod leader that is not the job leader, the members that caused a skip (R285 SEAM_LAST_CAUSES). -/
def podCauses (s : State) (i : Nat) (d : Decided) : State :=
  match s.openOf i d.step with
  | some o =>
    if s.isPodLeader i && !s.isJobLeader i && o.podFormed && !d.commit then
      s.setReg (R.SEAM_LAST_CAUSES i) (BitVec.ofNat 64 (s.podVote i o).causeDevices)
    else s
  | none => s

/-- A decision is recorded, passed down, and takes effect here: the step boundary of R269. -/
def recordDecision (s : State) (i : Nat) (d : Decided) : State :=
  let v := s.vote i
  let last := match s.lastDecided i with
    | some l => max l d.step
    | none => d.step
  let keep := (v.history ++ [d]).filter (fun x => decide (last < x.step + 64))
  let asked := v.queried.filter (fun q => q.1 == d.step)
  let opened := v.opened.filter (fun o => decide (d.step < o.step))
  let open' := v.items.any (fun it => it.voted && decide (it.step ≠ d.step) && !v.history.any (fun x => x.step == it.step))
  have s := s.podCauses i d
  have s := s.setVote i { v with
    history := keep, opened := opened, queried := v.queried.filter (fun q => q.1 != d.step), logged := v.logged && open',
    applyTimer := if s.isJobLeader i && d.commit then v.applyTimer ++ [d.step] else v.applyTimer,
    applies := if d.commit then
        (if v.applies.any (fun a => a.step == d.step) then v.applies else v.applies ++ [⟨d.step, none, 0, false, false⟩])
      else v.applies.filter (fun a => a.step != d.step) }
  have s := s.setReg (R.SEAM_STEP_DECIDED i) (BitVec.ofNat 64 last)
  have s := s.add64 (if d.commit then R.SEAM_COMMITS i else R.SEAM_SKIPS i) 1
  have s := s.setFld (R.SEAM_VOTE_STATUS i) F.SEAM_VOTE_STATUS_last_commit (if d.commit then 1 else 0)
  have s := s.setFld (R.SEAM_VOTE_STATUS i) F.SEAM_VOTE_STATUS_last_causes d.causes
  have s := if open' then s else s.setFld (R.SEAM_VOTE_STATUS i) F.SEAM_VOTE_STATUS_holding 0
  have s := s.recordGns i d
  have s := s.fanOut i (s.decisionMsg i d)
  have s := asked.foldl (fun s q => s.sendSquall i (q.2 / 64) (some (q.2 % 64)) (s.decisionMsg i d)) s
  have s := s.retireSuspects i
  have s := s.endVotes i (if d.commit then 0 else 0x31) (fun it => it.voted && it.step == d.step)
  (s.updRunAll.tryApplied i).showVote i

/-! ### Holding the job (R281, R282) -/

/-- This module's part of the hold: waiting items end with POD_HELD. -/
def holdJob (s : State) (i pod dev : Nat) : State :=
  let v := s.vote i
  have s := s.setVote i { v with held := true, fenced := v.fenced || (decide (pod = s.podNumber) && decide (dev = s.podDevice)) }
  have s := s.endVotes i 0x34 (fun _ => true)
  have s := if pod = s.podNumber && s.isGate then s.setRegBit R.HST_POD_FENCED (dev % 64) true else s
  (s.setFld (R.SEAM_VOTE_STATUS i) F.SEAM_VOTE_STATUS_holding 0).updRunAll.showVote i

/-- The job leader fences a member and holds the job; the member is named by a record of the POD_VOTE layout (DESIGN
CHOICE, log entry 35). -/
def fenceMember (s : State) (i step pod dev : Nat) : State :=
  let v := s.vote i
  have s := s.setVote i { v with held := true, applyTimer := v.applyTimer.filter (fun t => decide (t < step)) }
  have s := s.setFld (R.SEAM_VOTE_STATUS i) F.SEAM_VOTE_STATUS_fenced_device dev
  have s := s.fanOut i (s.squallMsg i 7 step s.podDevice s.podNumber 1 0 (podRecBytes ⟨pod, false, 2 ^ 6, 0, 0, 2 ^ dev⟩))
  s.holdJob i pod dev

/-! ### Deciding (R273, R274, R281) -/

/-- The members of the job as keys pod × 64 + device; other pods are taken to have this pod's members (DESIGN CHOICE, log
entry 36). -/
def jobMembers (s : State) (i : Nat) : List Nat := (s.podsOf i).flatMap (fun p => (s.membersOf i).map (fun d => p * 64 + d))

/-- N² is finite and below the bound; a bound of +∞ disables the test. -/
def normOk (s : State) (i : Nat) (n2 : W32) : Bool :=
  let b := ofFp32 (BitVec.ofNat 32 (s.reg (R.SEAM_NORM_BOUND i)).toNat)
  !fp32NonFinite n2 && (ofFp32 n2).lt b

/-- Whether a member counts as the cause of a skip: its own record tells in the leader's pod, the pod's record elsewhere. -/
def countsFor (s : State) (members : List VoteRec) (pods : List PodRec) (key : Nat) : Bool :=
  if key / 64 = s.podNumber then
    match members.find? (fun r => r.device == key % 64) with
    | some r => countedCauses r.causes
    | none => true
  else match pods.find? (fun p => p.pod == key / 64) with
    | some p => bitOf p.causeDevices (key % 64) && countedCauses p.causes
    | none => true

/-- The job leader decides a step from the pod records (R273). -/
def decide' (s : State) (i : Nat) (o : OpenStep) : State :=
  if (s.vote i).held then s
  else
    let pods := s.podsOf i
    let recs := pods.filterMap (fun p => o.pods.find? (fun r => r.pod == p))
    let missing := decide (recs.length < pods.length)
    let n2 := fp32SumFrom (recs.map (fun r => r.normSq))
    let l := fp32SumFrom (recs.map (fun r => r.localSq))
    let all := !missing && recs.all (fun r => r.commit)
    let commit := all && s.normOk i n2
    let causes := recs.foldl (fun a r => Nat.lor a r.causes) (if missing then 8 else 0)
    let causes := if all && !commit then Nat.lor causes 32 else causes
    let caused := if commit then [] else (s.jobMembers i).filter (s.countsFor o.members recs)
    let counts := (s.jobMembers i).foldl (fun (t : Tbl Nat) k =>
      t.set 0 k (if caused.contains k then (s.vote i).skipCounts.get 0 k + 1 else 0)) (s.vote i).skipCounts
    let fenced := caused.filter (fun k => counts.get 0 k == 3)
    let causes := if fenced.isEmpty then causes else Nat.lor causes 64
    have s := s.setVote i { s.vote i with skipCounts := counts }
    have s := if commit then s else
      s.setReg (R.SEAM_LAST_CAUSES i) (BitVec.ofNat 64 (recs.foldl (fun a r => Nat.lor a r.causeDevices)
        (if missing then (s.membersOf i).foldl setBit 0 else 0)))
    have s := s.recordDecision i ⟨o.step, commit, causes, n2, l, 0⟩
    fenced.foldl (fun s k => s.fenceMember i o.step (k / 64) (k % 64)) s

/-- The job leader decides when every pod record of its open step is there, or its timer has run out. -/
def tryJob (s : State) (i step : Nat) (expired : Bool) : State :=
  match s.openOf i step with
  | none => s
  | some o =>
    if s.baseStep i = some step ∧ s.isJobLeader i = true ∧
        (expired = true ∨ (s.podsOf i).all (fun p => o.pods.any (fun r => r.pod == p)) = true) then s.decide' i o else s

/-- A pod record reaches the job leader. -/
def addPod (s : State) (i step : Nat) (r : PodRec) : State :=
  match s.windowOf i step with
  | 0 =>
    let o := (s.openOf i step).getD (OpenStep.new step)
    if o.pods.any (fun x => x.pod == r.pod) then s.inc (R.SEAM_DROPPED_RECORDS i)
    else (s.putOpen i { o with pods := o.pods ++ [r] }).tryJob i step false
  | w => s.refuseRec i w

/-- A pod leader forms its pod's vote for its open step when every member's record is there, or at its deadline. -/
def tryPod (s : State) (i step : Nat) (expired : Bool) : State :=
  match s.openOf i step with
  | none => s
  | some o =>
    let full := (s.membersOf i).all (fun d => o.members.any (fun r => r.device == d && !r.absent))
    if s.baseStep i = some step ∧ o.podFormed = false ∧ s.isPodLeader i = true ∧ (expired = true ∨ full = true) then
      let v := s.podVote i o
      let o := { o with podFormed := true }
      if s.onePod i then (s.putOpen i o).decide' i { o with pods := [v] }
      else if s.isJobLeader i then (s.putOpen i o).addPod i step v
      else (s.putOpen i o).sendSquall i (s.jobLeaderPod i) none (s.squallMsg i 2 step s.podDevice s.podNumber 1 0 (podRecBytes v))
    else s

/-- After a decision the next open step is looked at (R274). -/
def tryNext (s : State) (i : Nat) : State :=
  match s.baseStep i with
  | some b => (s.tryPod i b false).tryJob i b false
  | none => s

/-- A member record reaches the pod leader; a real record replaces an absent one. -/
def addMember (s : State) (i step : Nat) (r : VoteRec) : State :=
  match s.windowOf i step with
  | 0 =>
    let o := (s.openOf i step).getD (OpenStep.new step)
    let held := o.members.find? (fun x => x.device == r.device)
    let dup := match held with
      | some h => !h.absent
      | none => false
    if dup then s.inc (R.SEAM_DROPPED_RECORDS i)
    else if o.podFormed then s.inc (R.SEAM_LATE_VOTES i)
    else
      have s := s.putOpen i { o with members := o.members.filter (fun x => x.device != r.device) ++ [r] }
      ((s.tryPod i step false).tryNext i).tryNext i
  | w => s.refuseRec i w

/-! ### Tray heads (R272) -/

def sendTray (s : State) (i step : Nat) (recs : List VoteRec) : State :=
  s.sendSquall i s.podNumber (some (s.parentOf i))
    (s.squallMsg i 1 step s.podDevice s.podNumber recs.length 0 (recs.flatMap voteRecBytes))

/-- The devices whose records a tray head expects. -/
def trayOf (s : State) (i : Nat) : List Nat := s.podDevice :: s.childrenOf i

/-- A tray head sends what it has once, when complete or when its timer has run out. -/
def tryTray (s : State) (i step : Nat) (expired : Bool) : State :=
  match s.openOf i step with
  | none => s
  | some o =>
    let full := (s.trayOf i).all (fun d => o.tray.any (fun r => r.device == d))
    if o.traySent = false ∧ (expired = true ∨ full = true) then
      let gone := (s.childrenOf i).filter (fun d => !o.tray.any (fun r => r.device == d))
      (s.putOpen i { o with traySent := true }).sendTray i step (o.tray ++ gone.map absentRec)
    else s

def addTray (s : State) (i step : Nat) (r : VoteRec) : State :=
  let o := (s.openOf i step).getD (OpenStep.new step)
  if o.tray.any (fun x => x.device == r.device) then s.inc (R.SEAM_DROPPED_RECORDS i)
  else if o.traySent || (s.decisionOf i step).isSome then s.sendTray i step [r]
  else (s.putOpen i { o with tray := o.tray ++ [r] }).tryTray i step false

/-- A record joins the role of this module, or goes to its parent. -/
def addVote (s : State) (i step : Nat) (r : VoteRec) : State :=
  if s.isPodLeader i then s.addMember i step r
  else if s.isTrayHead i then s.addTray i step r
  else s.sendTray i step [r]

/-! ### Formation (R268) -/

/-- The flags of an instance are read and cleared: the causes of its vote. -/
def takeCauses (s : State) (i : Nat) : Nat × State :=
  let cores := (List.range 128).filter (fun c => s.ownsCore i c)
  let nonfin := cores.any (fun c => decide (s.fld (R.CORE_FP_FLAGS c) F.CORE_FP_FLAGS_nonfinite_step = 1)) ||
    (List.range 4).any (fun d => s.regBit (R.SEAM_ENG_FLAGS d) i || s.regBit (R.MEM_UPD_FLAGS d) i)
  let selv := cores.any (fun c => decide (s.fld (R.CORE_ARR_STATUS c) F.CORE_ARR_STATUS_selvage_step = 1))
  let ltf := s.regBit R.MEM_LTF_STEP i
  let v := s.vote i
  have s := cores.foldl (fun s c => (s.setFld (R.CORE_FP_FLAGS c) F.CORE_FP_FLAGS_nonfinite_step 0).setFld
    (R.CORE_ARR_STATUS c) F.CORE_ARR_STATUS_selvage_step 0) s
  have s := (List.range 4).foldl (fun s d =>
    (s.setRegBit (R.SEAM_ENG_FLAGS d) i false).setRegBit (R.MEM_UPD_FLAGS d) i false) s
  have s := s.setRegBit R.MEM_LTF_STEP i false
  let b := fun (x : Bool) (n : Nat) => if x then n else 0
  (b nonfin 1 + b selv 2 + b ltf 4 + b v.resetCause 16, s.setVote i { v with resetCause := false, gradSums := [] })

/-- The vote of an item is formed and sent. -/
def formVote (s : State) (i : Nat) (it : VoteItem) : State :=
  let g := (s.vote i).gradSums
  let n := fp32SumFrom (g.map (fun e => e.2.1))
  let l := fp32SumFrom (g.map (fun e => e.2.2))
  let (causes, s) := s.takeCauses i
  let v := s.vote i
  have s := s.setVote i { v with items := v.items.map (fun x => if x = it then { x with voted := true } else x) }
  have s := s.itemTotal i it.step it.updItems
  have s := if s.isJobLeader i && !s.onePod i && decide (s.windowOf i it.step = 0) then
      s.putOpen i ((s.openOf i it.step).getD (OpenStep.new it.step)) else s
  have s := s.addVote i it.step ⟨s.podDevice, decide (causes = 0), causes, n, l⟩
  match s.decisionOf i it.step with
  | some d => (s.endVotes i (if d.commit then 0 else 0x31) (fun x => x.voted && x.step == it.step)).showVote i
  | none => s.showVote i

/-! ### APPLIED and STEP_DONE (R276 to R278) -/

/-- A module learns that a step is applied everywhere. -/
def stepDone (s : State) (i step : Nat) : State :=
  let v := s.vote i
  have s := s.setVote i { v with applies := v.applies.filter (fun a => a.step != step) }
  (s.setReg (R.SEAM_STEP_COMMITTED i) (BitVec.ofNat 64 step)).showVote i

/-- STEP_DONE in step order, while the lowest committed step is applied by every member. -/
def tryDone (s : State) (i : Nat) : Nat → State
  | 0 => s
  | fuel + 1 =>
    let v := s.vote i
    match v.applyTimer.foldl (fun (a : Option Nat) t => match a with
        | none => some t
        | some b => some (min b t)) none with
    | none => s
    | some step =>
      if (s.jobMembers i).all (fun k => v.applied.contains (step, k)) then
        have s := s.setVote i { v with applyTimer := v.applyTimer.filter (fun t => t != step),
                                       applied := v.applied.filter (fun e => e.1 != step) }
        have s := s.fanOut i (s.squallMsg i 6 step s.podDevice s.podNumber 0 0 [])
        tryDone (s.stepDone i step) i fuel
      else s

/-- APPLIED reaches the job leader. -/
def appliedAt (s : State) (i step key : Nat) (fail : Bool) : State :=
  let v := s.vote i
  if !v.applyTimer.contains step then s
  else if fail then s.fenceMember i step (key / 64) (key % 64)
  else if v.applied.contains (step, key) then s
  else (s.setVote i { v with applied := v.applied ++ [(step, key)] }).tryDone i (v.applyTimer.length + 1)

/-! ### RESUME and reset (R282, R283, R286) -/

/-- RESUME: the hold ends; leaders start afresh at the next step. -/
def resumeVote (s : State) (i next : Nat) : State :=
  let v := s.vote i
  have s := s.setVote i { v with opened := [], applies := [], applied := [], applyTimer := [], skipCounts := [], queried := [],
                                 held := false, fenced := false, logged := false, gnsCount := 0, next := some next }
  (s.setFld (R.SEAM_VOTE_STATUS i) F.SEAM_VOTE_STATUS_gns_valid 0).showVote i

/-- An instance reset loses the vote's state; the next vote carries the reset cause; steps voted and not applied will be
reported with apply_fail. -/
def resetVote (s : State) (i : Nat) : State :=
  let v := s.vote i
  let owed := v.applies.filter (fun a => !a.sent && a.total.isSome)
  let known := owed.filter (fun a => v.history.any (fun d => d.commit && d.step == a.step))
  let later := owed.filter (fun a => !v.history.any (fun d => d.step == a.step))
  have s := s.setVote i { VoteState.reset with
    resetCause := s.voteOn i, applies := later.map (fun a => { a with total := some a.ended, failed := true }) }
  have s := known.foldl (fun s a => s.applied i a.step s.podDevice s.podNumber true) s
  let keep := (s.reg (R.SEAM_VOTE_STATUS i)).toNat / 2 ^ 20 % 8
  (s.setReg (R.SEAM_VOTE_STATUS i) (if i = 0 then BitVec.ofNat 64 (keep * 2 ^ 20) else 0)).showVote i

/-! ### The SQUALL_VOTE item (R267, R287) -/

/-- The units whose Seam items a die may receive: every core, and the host's records for the die. -/
def seamUnits (d : DieId) : List DmaUnit := (List.finRange 128).map DmaUnit.core ++ [.die d]

/-- The die that a Seam item names: dst[1:0], or the host record's die. -/
def seamDie (u : DmaUnit) (it : DmaItem) : Nat :=
  match u with
  | .core _ => dw it.desc 2 0 2
  | .die d => d.val

/-- Whether the instance of an owner holds a core on a die. -/
def holdsDie (s : State) (o : Owner) (d : Nat) : Bool :=
  match instOf o with
  | some i => (List.range 32).any (fun j => s.ownsCore i (32 * d + j))
  | none => false

def seamEng (d : Nat) (it : DmaItem) : Eng := engOf it.owner it.snap ⟨4, d, d⟩

/-- Whether a waiting Seam item is a SQUALL_VOTE: aligned, on a die of its instance, readable, of opcode 0x38. -/
def isVoteItem (s : State) (d : Nat) (it : DmaItem) : Bool :=
  let a := dw it.desc 1 0 48
  s.holdsDie it.owner d && decide (a % 64 = 0) && s.engReadSt (seamEng d it) a 64 == 0 && s.natAt a 1 == 0x38

/-- The Seam items of an instance on the four engines. -/
def seamIds (s : State) (i : Nat) : List Nat :=
  (List.range 4).flatMap (fun d => ((s.seam.get [] d).filter (fun it => instOf it.owner == some i)).map (fun it => it.id))

end State

/-- SQUALL_VOTE (R267, R287): a vote item joins the vote of its instance. While the vote is disabled it ends with OK at
once (DESIGN CHOICE, log entry 37). -/
def execSquallVote (d : DieId) (s : State) : Out :=
  match s.waitingItem (State.seamUnits d) 0x4A (fun _ => true) with
  | none => .next s
  | some _ =>
    match (State.seamUnits d).findSome? (fun u =>
        (s.waitingItem [u] 0x4A (fun it => State.seamDie u it == d.val && s.isVoteItem d.val it))) with
    | none => .next s
    | some (u, x) =>
      let a := dw x.desc 1 0 48
      let w := fun k => s.natAt (a + 8 * k) 8
      let i := (State.instOf x.owner).getD 0
      let it : VoteItem :=
        { step := w 1, updItems := w 2 % 2 ^ 32, doneSem := w 3 % 2 ^ 16, owner := x.owner, origin := ⟨u, x.id⟩, die := d,
          voted := false, waitsFor := s.seamIds i }
      let bad := decide (w 0 / 256 ≠ 0 ∨ w 2 / 2 ^ 32 ≠ 0 ∨ w 3 / 2 ^ 16 ≠ 0 ∨ w 4 ≠ 0 ∨ w 5 ≠ 0 ∨ w 6 ≠ 0 ∨ w 7 ≠ 0)
      have s := s.handItem u x
      if bad then .next (s.endVote it 0x02)
      else if s.semForeign (some i) it.doneSem then .next (s.endVote it 0x65)
      else if !s.voteOn i then .next (s.endVote it 0)
      else if (s.vote i).held then .next (s.endVote it 0x34)
      else
        let v := s.vote i
        .next ((s.setVote i { v with items := v.items ++ [it] }).showSeam d.val)

/-- VOTE_FORMATION (none in MAINTENANCE, R442; R268): the oldest vote item whose earlier collectives have completed forms the module's vote. -/
def execVoteFormation (i : InstId) (s : State) : Out :=
  if s.modState = 7 then .next s else
  match (s.vote i.val).items.find? (fun it => !it.voted) with
  | none => .next s
  | some it =>
    let live := s.seamIds i.val
    if it.waitsFor.any (fun k => live.contains k) then .next s
    else .next (s.formVote i.val it)

/-- VOTE (R272): records at a tray head or a pod leader; a message of an unknown type is discarded here. -/
def execVoteMsg (m : MsgRef) (s : State) : Out :=
  .next (s.withSquall m (fun t => t == 1 || t == 0 || decide (7 < t)) (fun i x s =>
    if s.isPodLeader i || s.isTrayHead i then x.votes.foldl (fun s r => s.addVote i x.step r) s else s))

/-- POD_VOTE (R273). -/
def execPodVoteMsg (m : MsgRef) (s : State) : Out :=
  .next (s.withSquall m (fun t => t == 2) (fun i x s =>
    if s.isJobLeader i && !s.onePod i then (x.pods.foldl (fun s r => s.addPod i x.step r) s).tryNext i else s))

/-- DECISION (R275): recorded and passed on, unless the step is already decided. -/
def execDecisionMsg (m : MsgRef) (s : State) : Out :=
  .next (s.withSquall m (fun t => t == 3) (fun i x s =>
    if (s.decisionOf i x.step).isSome || s.isJobLeader i then s
    else (s.recordDecision i ⟨x.step, bitOf x.body 0, bitsOf x.body 8 8, BitVec.ofNat 32 (bitsOf x.body 32 32),
      (State.voteRecOf x.recs).localSq, 0⟩).tryNext i))

/-- QUERY (R275): answered from the recorded history, else asked on upward; an undecided job leader does not answer. -/
def execQueryMsg (m : MsgRef) (s : State) : Out :=
  .next (s.withSquall m (fun t => t == 4) (fun i x s =>
    match s.decisionOf i x.step with
    | some d => s.sendSquall i x.pod (if x.pod = s.podNumber then some x.dev else none) (s.decisionMsg i d)
    | none =>
      if s.isJobLeader i then s
      else
        let v := s.vote i
        have s := s.setVote i { v with queried := v.queried.filter (fun q => q != (x.step, x.pod * 64 + x.dev)) ++
          [(x.step, x.pod * 64 + x.dev)] }
        s.sendUp i (s.squallMsg i 4 x.step s.podDevice s.podNumber 0 0 [])))

/-- APPLIED (R276): passed up unchanged, or counted at the job leader. -/
def execAppliedMsg (m : MsgRef) (s : State) : Out :=
  .next (s.withSquall m (fun t => t == 5) (fun i x s =>
    if s.isJobLeader i then s.appliedAt i x.step (x.pod * 64 + x.dev) (bitOf x.body 0)
    else if s.isPodLeader i || s.isTrayHead i then s.sendUp i x.raw
    else s))

/-- STEP_DONE (R276). -/
def execStepDoneMsg (m : MsgRef) (s : State) : Out :=
  .next (s.withSquall m (fun t => t == 6) (fun i x s =>
    if s.isJobLeader i then s
    else (s.fanOut i (s.squallMsg i 6 x.step s.podDevice s.podNumber 0 0 [])).stepDone i x.step))

/-- FENCE (R281): passed down; this module's job is held. -/
def execFenceMsg (m : MsgRef) (s : State) : Out :=
  .next (s.withSquall m (fun t => t == 7) (fun i x s =>
    if s.isJobLeader i then s
    else
      let r := State.podRecOf x.recs
      let dev := ((bitList r.causeDevices 64).head?).getD 0
      (s.fanOut i (s.squallMsg i 7 x.step s.podDevice s.podNumber 1 0 (State.podRecBytes r))).holdJob i r.pod dev))

/-- TRAY_TIMER_EXPIRY (R272). -/
def execTrayTimerExpiry (i : InstId) (step : Nat) (s : State) : Out :=
  .next (if s.isTrayHead i.val && !s.isPodLeader i.val then s.tryTray i.val step true else s)

/-- POD_DEADLINE_EXPIRY (R272). -/
def execPodDeadlineExpiry (i : InstId) (step : Nat) (s : State) : Out :=
  .next ((s.tryPod i.val step true).tryNext i.val)

/-- JOB_DEADLINE_EXPIRY (R272): a one-pod job decides with its pod deadline. -/
def execJobDeadlineExpiry (i : InstId) (step : Nat) (s : State) : Out :=
  .next (if s.onePod i.val then s else (s.tryJob i.val step true).tryNext i.val)

/-- The earliest step that a module has voted and has no decision for. -/
def State.holdingItem (s : State) (i : Nat) : Option VoteItem :=
  (s.vote i).items.find? (fun it => it.voted && (s.decisionOf i it.step).isNone)

/-- QUERY_INTERVAL (R275): a module without the decision asks up the tree; the job leader has nobody to ask. -/
def execQueryInterval (i : InstId) (s : State) : Out :=
  match s.holdingItem i.val with
  | none => .next s
  | some it =>
    if s.isJobLeader i.val then .next s
    else
      have s := (s.inc (R.SEAM_QUERIES i.val)).setFld (R.SEAM_VOTE_STATUS i.val) F.SEAM_VOTE_STATUS_holding 1
      .next (s.sendUp i.val (s.squallMsg i.val 4 it.step s.podDevice s.podNumber 0 0 []))

/-- DECISION_WAIT (R275, R459): ERROR once, after 10 ms of holding. -/
def execDecisionWait (i : InstId) (s : State) : Out :=
  match s.holdingItem i.val with
  | none => .next s
  | some it =>
    let v := s.vote i.val
    if v.logged || decide (s.fld (R.SEAM_VOTE_STATUS i.val) F.SEAM_VOTE_STATUS_holding = 0) then .next s
    else
      have s := s.setVote i.val { v with logged := true }
      .next (s.log 1 0x32 ⟨4, it.die.val, i.val⟩ (some i.val) (value := it.step))

/-- APPLY_LATE (R277, R459): each member whose APPLIED is missing is logged and fenced. The job leader's die is taken to be
die 0 (DESIGN CHOICE, log entry 36). -/
def execApplyLate (i : InstId) (step : Nat) (s : State) : Out :=
  let v := s.vote i.val
  if v.applyTimer.contains step && s.isJobLeader i.val then
    let late := (s.jobMembers i.val).filter (fun k => !v.applied.contains (step, k))
    .next (late.foldl (fun s k =>
      (s.log 1 0x37 ⟨4, 0, i.val⟩ (some i.val) (peer := State.peerField (k % 64) (k / 64) 0) (value := step)).fenceMember
        i.val step (k / 64) (k % 64)) s)
  else .next s

end Sys2Proof.Machine
end

