-- ==== Sys2Proof/Machine/Ingest.lean ====
section
/-! DEFINITION. The ingest unit (R360 to R387): rings and jobs, parsing, frames and slots, installs, live streams. -/
namespace Sys2Proof.Machine
namespace State

def setMedia (s : State) (m : MediaState) : State := { s with media := m }
def strm (s : State) (x : Nat) : IngStream := s.media.streams.get IngStream.reset x
def setStrm (s : State) (x : Nat) (t : IngStream) : State :=
  s.setMedia { s.media with streams := s.media.streams.set IngStream.reset x t }
def uIngest (x : Nat) : LogUnit := ⟨8, 4, x⟩
def strmOn (s : State) (x : Nat) : Bool := decide (s.fld (R.ING_STRM_CFG x) F.ING_STRM_CFG_enable = 1)
def strmKind (s : State) (x : Nat) : Nat := s.fld (R.ING_STRM_CFG x) F.ING_STRM_CFG_kind
def strmOwner (s : State) (x : Nat) : Nat := s.fld (R.ING_STRM_CFG x) F.ING_STRM_CFG_owner
def strmStrict (s : State) (x : Nat) : Bool := decide (s.fld (R.ING_STRM_CFG x) F.ING_STRM_CFG_strict = 1)

/-- A write of the ingest or codec unit for an instance, through its firewall. -/
def mediaWrite (s : State) (u : LogUnit) (i a : Nat) (bs : List Byte) : State :=
  if bs.isEmpty then s
  else match s.checkRange (.inst i) a bs.length with
    | 0 => s.putBytes a bs
    | 0x64 => s.firewallDenied u (some i) a
    | _ => s

/-! ### Rings (R361, R396) -/

/-- The ring registers of instance `i`: ingest, or the codec's encode ring, which have one layout. -/
def ringAt (codec : Bool) (i : Nat) : Nat := if codec then R.CDC_RING_BASE i else R.ING_RING_BASE i
def ringFld (s : State) (codec : Bool) (i r : Nat) (f : Fld) : Nat := s.fld (ringAt codec i + (r - R.ING_RING_BASE 0)) f
def setRingFld (s : State) (codec : Bool) (i r : Nat) (f : Fld) (v : Nat) : State :=
  s.setFld (ringAt codec i + (r - R.ING_RING_BASE 0)) f v
def ringEntriesOf (s : State) (codec : Bool) (i : Nat) : Nat :=
  2 ^ min 12 (max 4 (s.ringFld codec i (R.ING_RING_CFG 0) F.ING_RING_CFG_size_log2))
def ringHbm (s : State) (codec : Bool) (i : Nat) : Bool := decide (s.ringFld codec i (R.ING_RING_CFG 0) F.ING_RING_CFG_in_hbm = 1)

/-- A write of the doorbell (R345): a tail at or beyond the size disables the ring. -/
def writeMediaTail (s : State) (codec : Bool) (i v : Nat) : State :=
  if v ≥ s.ringEntriesOf codec i then
    (s.setRingFld codec i (R.ING_RING_CFG 0) F.ING_RING_CFG_enable 0).setRingFld codec i (R.ING_RING_STATUS 0) F.ING_RING_STATUS_error 0x02
  else s.setRingFld codec i (R.ING_RING_TAIL 0) F.ING_RING_TAIL_tail v

/-- The next entry of a ring of `n`-byte entries: its index and bytes, and the head past it. -/
def mediaFetch (s : State) (codec : Bool) (i n : Nat) : Option (Nat × Nat × State) :=
  let size := s.ringEntriesOf codec i
  let head := s.ringFld codec i (R.ING_RING_HEAD 0) F.ING_RING_HEAD_head % size
  let tail := s.ringFld codec i (R.ING_RING_TAIL 0) F.ING_RING_TAIL_tail % size
  if s.ringFld codec i (R.ING_RING_CFG 0) F.ING_RING_CFG_enable = 0 ∨ head = tail ∨ s.dispatchStopped then none
  else
    let base := s.ringFld codec i (R.ING_RING_BASE 0) F.ING_RING_BASE_addr
    some (head, natOfBytes (s.ringBytes (s.ringHbm codec i) (base + n * head) n),
      s.setRingFld codec i (R.ING_RING_HEAD 0) F.ING_RING_HEAD_head ((head + 1) % size))

/-- A completion record in a ring's companion, with the ring's vector (R348, R361). -/
def mediaCpl (s : State) (codec : Bool) (i idx status result : Nat) : State :=
  let size := s.ringEntriesOf codec i
  let tbl := if codec then s.media.encCpl else s.media.ingCpl
  let at' := tbl.get 0 i % size
  let base := s.ringFld codec i (R.ING_RING_CPL_BASE 0) F.ING_RING_CPL_BASE_addr
  have s := s.putRing (s.ringHbm codec i) (base + 16 * at') (cplRecord idx status result)
  let next := tbl.set 0 i ((at' + 1) % size)
  have s := s.setMedia (if codec then { s.media with encCpl := next } else { s.media with ingCpl := next })
  s.irq 0 (s.ringFld codec i (R.ING_RING_CFG 0) F.ING_RING_CFG_vector)

/-- The counts of jobs in progress and of enabled live streams. -/
def showIngest (s : State) : State :=
  have s := (List.range 8).foldl (fun s i => s.setFld (R.ING_RING_STATUS i) F.ING_RING_STATUS_running
    (min 255 (s.media.jobs.filter (fun b => b.running && b.inst == i)).length)) s
  have s := s.setFld R.ING_STATUS F.ING_STATUS_jobs_active (min 255 (s.media.jobs.filter (fun b => b.running)).length)
  s.setFld R.ING_STATUS F.ING_STATUS_live_active
    ((List.range 32).filter (fun x => s.strmOn x && (s.strmKind x == 1 || s.strmKind x == 2))).length

/-! ### Codec engines as the decoder of video pictures (R390, R392) -/

def cdc (s : State) (e : Nat) : CodecEng := s.media.engines.get CodecEng.reset e
def setCdc (s : State) (e : Nat) (x : CodecEng) : State :=
  s.setMedia { s.media with engines := s.media.engines.set CodecEng.reset e x }
def encS (s : State) (t : Nat) : EncStream := s.media.enc.get EncStream.reset t
def setEncS (s : State) (t : Nat) (x : EncStream) : State :=
  s.setMedia { s.media with enc := s.media.enc.set EncStream.reset t x }

/-- The class of a piece of work: 1 live, 2 interactive, 3 batch. -/
def workClass (s : State) : CodecWork → Nat
  | .dec x _ => if s.strmKind x.val = 1 then 1 else if s.fld (R.CDC_DEC_CFG x.val) F.CDC_DEC_CFG_class = 1 then 2 else 3
  | .enc t _ => min 3 (le (s.encS t.val).session 3 1 + 1)

/-- What CDC_ENG_STATUS and CDC_ENG_LIVE_RES show. -/
def showEng (s : State) (e : Nat) : State :=
  let x := s.cdc e
  have s := s.setFld (R.CDC_ENG_STATUS e) F.CDC_ENG_STATUS_class ((x.running.map s.workClass).getD 0)
  have s := s.setFld (R.CDC_ENG_STATUS e) F.CDC_ENG_STATUS_contexts (min 63 x.bound.length)
  have s := s.setFld (R.CDC_ENG_STATUS e) F.CDC_ENG_STATUS_suspended (if x.stopped.isSome then 1 else 0)
  s.setFld (R.CDC_ENG_LIVE_RES e) F.CDC_ENG_LIVE_RES_mps (((s.media.reserved.get [] e).map Prod.snd).sum)

/-- Mpixel/s of an engine's live reservations. -/
def reservedOn (s : State) (e : Nat) : Nat := ((s.media.reserved.get [] e).map Prod.snd).sum

/-- The engine among `es` with the most unreserved capacity, the lowest of equals (R391). -/
def leastReserved (s : State) (es : List Nat) : Nat :=
  es.foldl (fun b e => if s.reservedOn e < s.reservedOn b then e else b) (es.headD 0)

/-- A reservation of `mps` for a stream on engine `e`; none where it would pass 480 Mpixel/s. -/
def reserve (s : State) (e x mps : Nat) : Option State :=
  if s.reservedOn e + mps > 480 then none
  else
    have s := s.setMedia { s.media with reserved := s.media.reserved.set [] e ((x, mps) :: s.media.reserved.get [] e) }
    have s := s.setCdc e { s.cdc e with bound := if (s.cdc e).bound.contains x then (s.cdc e).bound else x :: (s.cdc e).bound }
    some (s.showEng e)

/-- A stream leaves the engines `es`: reservation, binding and work. -/
def unbind (s : State) (es : List Nat) (x : Nat) (mine : CodecWork → Bool) : State :=
  es.foldl (fun s e =>
    have s := s.setMedia { s.media with reserved := s.media.reserved.set [] e ((s.media.reserved.get [] e).filter (fun r => r.1 != x)) }
    let c := s.cdc e
    let keep := fun (o : Option CodecWork) => if (o.map mine).getD false then none else o
    have s := s.setCdc e { c with bound := c.bound.filter (fun y => y != x), running := keep c.running, stopped := keep c.stopped }
    s.showEng e) s

def decOf (x : Nat) : CodecWork → Bool
  | .dec y _ => y.val == x
  | .enc _ _ => false

/-- Luma samples processed on an engine for a stream; a live stream's picture beyond its reservation of this second of pod
time counts (R391). -/
def pixelsDone (s : State) (e key n : Nat) (live : Option Nat) : State :=
  have s := s.add64 (R.CDC_ENG_PIXELS e) n
  match live with
  | none => s
  | some mps =>
    let sec := s.time / 1000000000
    let (t, used) := s.media.rate.get (0, 0) key
    let used := (if t = sec then used else 0) + n
    have s := s.setMedia { s.media with rate := s.media.rate.set (0, 0) key (sec, used) }
    if used > mps * 1000000 then s.inc (R.CDC_ENG_OVER_RES e) else s

/-! ### Installs and assignment (R360, R376) -/

def insertTarget (n : Install) : List Install → List Install
  | [] => [n]
  | m :: r => if n.target < m.target then n :: m :: r else m :: insertTarget n r

/-- Pending installs in the order in which they take effect: by target, ties in install order. -/
def sortInstalls (l : List Install) : List Install := l.foldl (fun acc n => insertTarget n acc) []

/-- Settings that frame `seq` would be processed under. -/
def settingsFor (s : State) (x seq : Nat) : List Byte :=
  let t := s.strm x
  match (sortInstalls (t.installs.filter (fun n => decide (n.target ≤ seq)))).getLast? with
  | some n => n.block
  | none => t.settings

/-- Every pending install with a target of `seq` or less takes effect. -/
def applyInstalls (s : State) (x seq : Nat) : State :=
  let t := s.strm x
  let due := sortInstalls (t.installs.filter (fun n => decide (n.target ≤ seq)))
  let rest := t.installs.filter (fun n => !decide (n.target ≤ seq))
  let block := s.settingsFor x seq
  let resized := decide (le block 56 4 ≠ le t.settings 56 4)
  have s := s.setStrm x { t with settings := block, installs := rest, thumb := if resized then none else t.thumb }
  have s := if resized then s.setFld (R.ING_STRM_STATUS x) F.ING_STRM_STATUS_roi_valid 0 else s
  have s := s.setFld (R.ING_STRM_STATUS x) F.ING_STRM_STATUS_pending rest.length
  s.setFld (R.ING_STRM_STATUS x) F.ING_STRM_STATUS_generation
    (s.fld (R.ING_STRM_STATUS x) F.ING_STRM_STATUS_generation + due.length)

/-- The next frame of a stream takes its sequence number, settings and generation. -/
def assignFrame (s : State) (x : Nat) (fill : IngFrame → IngFrame) : State :=
  let seq := (s.reg (R.ING_STRM_SEQ x)).toNat
  have s := s.applyInstalls x seq
  let t := s.strm x
  let f : IngFrame := fill
    { seq := seq, gen := s.fld (R.ING_STRM_STATUS x) F.ING_STRM_STATUS_generation, settings := t.settings, job := none,
      key := 0, records := [], keptIdx := 0, aug := [], strict := false, pool := 0, wait := false, deadline := none,
      slot := none, waiting := false, needPic := false, needAud := false, engine := 0, readyNo := 0, hist := [], levels := [],
      status := 0, trunc := false, padded := false, incomplete := false, regionUsed := false, cause := 0, picW := 0,
      picH := 0, audN := 0, sideBytes := 0, ready := false }
  have s := s.setStrm x { t with frames := t.frames ++ [f] }
  (s.add64 (R.ING_STRM_SEQ x) 1).add64 (R.ING_STRM_FRAMES x) 1

def frameOf (s : State) (x seq : Nat) : Option IngFrame := (s.strm x).frames.find? (fun f => f.seq == seq)
def mapFrame (s : State) (x seq : Nat) (g : IngFrame → IngFrame) : State :=
  s.setStrm x { s.strm x with frames := (s.strm x).frames.map (fun f => if f.seq = seq then g f else f) }

def ingAgent (x seq : Nat) : Agent := if h : x < 32 then .ingest ⟨x, h⟩ seq else .host

/-- A frame gives its slot back. -/
def dropSlot (s : State) (x : Nat) (f : IngFrame) : State :=
  match f.slot with
  | some a => (s.returnSlot f.pool a (ingAgent x f.seq) (some (s.strmOwner x))).mapFrame x f.seq (fun f => { f with slot := none })
  | none => s

/-! ### Records of a sample and what their headers say (R364, R367) -/

/-- 0 picture, 1 audio, 2 side; none for a type outside the table. -/
def recKind (type : Nat) (side : Bool) : Option Nat :=
  if side || type = 8 || type = 9 then some 2
  else if [1, 2, 7].contains type then some 0
  else if [3, 4, 5, 6].contains type then some 1
  else none

def recOf (l : List IngRecord) (kind : Nat) : Option IngRecord := l.find? (fun r => recKind r.type r.side == some kind)

/-- Width and height of a picture record from its headers. -/
def picSize (r : IngRecord) : Nat × Nat :=
  if r.type = 7 then Config.videoSize (r.aux % 4) r.payload else Config.headerSize r.type r.payload

/-- Samples and rate of an audio record from its headers. -/
def audSize (r : IngRecord) : Nat × Nat :=
  match r.type with
  | 5 => (r.payload.length / (pcmWidth (bitsOf r.aux 24 4) * (bitsOf r.aux 20 4 + 1)), bitsOf r.aux 0 20)
  | 6 => (match waveHeader r.payload with
    | some (_, ch, rate, bits, d, _) => (d / max 1 (bits / 8 * ch), rate)
    | none => (0, 0))
  | t => Config.headerSize t r.payload

def decodeAudio (r : IngRecord) : Decoded :=
  match r.type with
  | 5 => pcmDecode (bitsOf r.aux 24 4) (bitsOf r.aux 20 4 + 1) (bitsOf r.aux 0 20)
      (r.payload.length / (pcmWidth (bitsOf r.aux 24 4) * (bitsOf r.aux 20 4 + 1))) r.payload
  | 6 => waveDecode r.payload
  | t => Config.decodeFile t r.payload

def limImage (s : State) : Nat × Nat :=
  (clampTo 1 16384 (s.fld R.ING_LIM_IMAGE F.ING_LIM_IMAGE_max_w), clampTo 1 16384 (s.fld R.ING_LIM_IMAGE F.ING_LIM_IMAGE_max_h))
def limRecord (s : State) : Nat := clampTo 1 256 (s.fld R.ING_LIM_RECORD F.ING_LIM_RECORD_max_mib) * 2 ^ 20
def limAudio (s : State) : Nat := clampTo 1 600 (s.fld R.ING_LIM_AUDIO F.ING_LIM_AUDIO_max_s)

/-- Whether a sample's records pass the limits of pictures and sound. -/
def overLimit (s : State) (l : List IngRecord) : Bool :=
  (match recOf l 0 with
   | some r => decide ((picSize r).1 > s.limImage.1 ∨ (picSize r).2 > s.limImage.2)
   | none => false) ||
  (match recOf l 1 with
   | some r => decide ((audSize r).1 > s.limAudio * (audSize r).2)
   | none => false)

/-- The declared size of a picture record (R364). -/
def declaredOf (r : IngRecord) : Option (Nat × Nat) :=
  if (r.type = 1 ∨ r.type = 2) ∧ bitOf r.aux 28 then some (bitsOf r.aux 0 14 + 1, bitsOf r.aux 14 14 + 1) else none

/-! ### Settling and publishing a frame (R368, R369, R377, R383) -/

/-- Bytes written in a slot, within its slot_bytes. -/
def slotWrite (s : State) (x : Nat) (f : IngFrame) (off : Nat) (bs : List Byte) : State :=
  match f.slot with
  | some a => s.mediaWrite (uIngest x) (s.strmOwner x) (a + off) (bs.take (le f.settings 112 4 - off))
  | none => s

/-- The end of the audio area: the next area or the slot's end. -/
def audioEnd (st : List Byte) : Nat :=
  let a := le st 100 4
  [le st 96 4, le st 104 4].foldl (fun m o => if o > a then min m o else m) (le st 112 4)

/-- A frame whose parts are all done gets its status (R368, R369): a rejected frame gives its slot back, a substituted one
has +0 areas, and each flag counts. -/
def settle (s : State) (x : Nat) (f : IngFrame) : State :=
  if f.waiting || f.needPic || f.needAud || f.ready then s
  else
    let i := s.strmOwner x
    if f.cause ≠ 0 ∧ (f.strict ∨ f.slot = none) then
      have s := s.dropSlot x f
      (s.inc (R.ING_CNT_REJECT i)).mapFrame x f.seq (fun f => { f with status := f.cause, cause := 0, ready := true })
    else
      let side := match recOf f.records 2 with
        | some r => r.payload
        | none => []
      let kept := side.take (le f.settings 108 4)
      let trunc := f.trunc || decide (kept.length < side.length)
      have s := s.slotWrite x f (le f.settings 104 4) kept
      have s := if f.cause ≠ 0 then
          let a := le f.settings 100 4
          (s.slotWrite x f (le f.settings 96 4) (List.replicate (pictureBytes f.settings) 0)).slotWrite x f a
            (List.replicate (audioEnd f.settings - a) 0)
        else s
      have s := if f.cause ≠ 0 then s.inc (R.ING_CNT_SUBST i) else s
      have s := if f.padded then s.inc (R.ING_CNT_PADDED i) else s
      have s := if trunc then s.inc (R.ING_CNT_TRUNC i) else s
      let st := if f.cause ≠ 0 then 0x55 else if f.padded then 0x53 else if trunc then 0x52 else 0
      s.mapFrame x f.seq (fun f => { f with status := st, trunc := trunc, sideBytes := kept.length, ready := true })

/-- The sample record (R383). -/
def sampleRecord (f : IngFrame) : List Byte :=
  let flags := (if f.trunc then 1 else 0) + (if f.padded then 2 else 0) + (if f.cause ≠ 0 then 4 else 0) +
    (if f.incomplete then 8 else 0) + (if f.regionUsed then 16 else 0)
  bytesOf (f.status % 256 + flags * 2 ^ 8 + f.cause % 256 * 2 ^ 16 + f.gen % 2 ^ 16 * 2 ^ 32) 8 ++ bytesOf f.seq 8 ++
  bytesOf f.key 8 ++ bytesOf (f.slot.getD 0 % 2 ^ 48) 8 ++
  bytesOf (f.picW % 2 ^ 16 + f.picH % 2 ^ 16 * 2 ^ 16 + f.audN % 2 ^ 32 * 2 ^ 32) 8 ++
  bytesOf (f.sideBytes % 2 ^ 32) 8 ++ List.replicate 16 0

/-- The statistics entry (R377). -/
def statEntry (f : IngFrame) (kind : Nat) : List Byte :=
  let hist := (List.range 256).flatMap (fun b => bytesOf (f.hist.getD b 0) 4)
  let lv := (List.range 8).flatMap (fun c => match f.levels[c]? with
    | some (r, p) => bytesOf r.toNat 4 ++ bytesOf p.toNat 4
    | none => List.replicate 8 0)
  bytesOf f.seq 8 ++ bytesOf f.gen 2 ++ bytesOf kind 1 ++ List.replicate 21 0 ++ hist ++ lv ++ List.replicate 928 0

/-- A slot of a stream's record or statistics ring. -/
def ringSlot (s : State) (off seq size : Nat) : Nat :=
  s.fld off F.ING_STRM_REC_BASE_base + seq % 2 ^ max 4 (s.fld off F.ING_STRM_REC_BASE_entries_log2) * size

/-- A job whose parser has ended completes once its frames are published (R361). -/
def tryEndJob (s : State) (id : Nat) : State :=
  match s.media.jobs.find? (fun b => b.id == id) with
  | none => s
  | some b =>
    match b.ended with
    | none => s
    | some st =>
      if (s.strm b.stream).frames.any (fun f => f.job == some id) then s
      else
        have s := s.setMedia { s.media with jobs := s.media.jobs.filter (fun y => y.id != id) }
        let res := b.pos % 2 ^ 48 + min b.frames 0xFFFF * 2 ^ 48
        have s := (s.mediaCpl false b.inst b.idx st res).doneSem (bitsOf b.desc.toNat 448 16) (.engine 8 4) b.inst b.gen
        -- the next job of the stream starts
        match s.media.jobs.find? (fun y => y.stream == b.stream && !y.running) with
        | none => s.showIngest
        | some n => (s.setMedia { s.media with jobs := s.media.jobs.map (fun y => if y.id = n.id then { y with running := true } else y) }).showIngest

/-- The oldest frame of a stream is published when it is ready (R383). -/
def publish (s : State) (x : Nat) : State :=
  match (s.strm x).frames with
  | [] => s
  | f0 :: _ =>
    have s := s.settle x f0
    match (s.strm x).frames with
    | [] => s
    | f :: rest =>
      if !f.ready then s
      else
        let i := s.strmOwner x
        let kind := if s.strmKind x = 1 ∨ (recOf f.records 0).isSome then 1
          else if s.strmKind x = 2 ∨ (recOf f.records 1).isSome then 2 else 0
        have s := s.mediaWrite (uIngest x) i (s.ringSlot (R.ING_STRM_STAT_BASE x) f.seq 2048) (statEntry f kind)
        have s := s.mediaWrite (uIngest x) i (s.ringSlot (R.ING_STRM_REC_BASE x) f.seq 64) (sampleRecord f)
        let n := s.fld (R.ING_STRM_CFG x) F.ING_STRM_CFG_bobbin
        have s := if s.fld (R.ING_STRM_CFG x) F.ING_STRM_CFG_bobbin_en = 1 && s.ownsBob i n then (s.bobAdd n 1 none).2 else s
        have s := s.setStrm x { s.strm x with frames := rest }
        match f.job with
        | some id => s.tryEndJob id
        | none => s

/-! ### Jobs and the source (R361, R362) -/

def job? (s : State) (x : Nat) : Option IngJob := s.media.jobs.find? (fun b => b.running && b.stream == x)
def putJob (s : State) (b : IngJob) : State :=
  s.setMedia { s.media with jobs := s.media.jobs.map (fun y => if y.id = b.id then b else y) }
def jd (b : IngJob) (w lo len : Nat) : Nat := bitsOf b.desc.toNat (64 * w + lo) len
def jobLength (b : IngJob) : Nat := jd b 2 0 48
def jobStrict (b : IngJob) : Bool := decide (jd b 0 12 1 = 1)

/-- The job's parser ends with a status; what it had not formed is dropped. -/
def endJob' (s : State) (id st : Nat) : State :=
  have s := s.setMedia { s.media with jobs := s.media.jobs.map (fun b => if b.id = id then { b with ended := some st, sampleOpen := false } else b) }
  s.tryEndJob id

/-- Source bytes [pos, pos + n): a status, and the bytes unless a remote part is still to come. -/
def sourceBytes (s : State) (b : IngJob) (pos n : Nat) : Nat × Option (List Byte) :=
  match jd b 0 8 2 with
  | 0 => (0, some (s.hostBytes (jd b 1 0 64 + pos) n))
  | 1 =>
    (match s.engineRead (.inst b.inst) (jd b 1 0 64 + pos) n with
     | 0 => (0, some (s.bytesAt (jd b 1 0 64 + pos) n))
     | st => (st, none))
  | _ =>
    let l := (List.range n).map (fun k => (b.remote.find? (fun e => e.1 == pos + k)).map Prod.snd)
    if l.all (fun o => o.isSome) then (0, some (l.map (fun o => o.getD 0))) else (0, none)

/-- The reader asks for the next part of a remote source, one READ at a time (R362). -/
def askRemote (s : State) (b : IngJob) : State :=
  if jd b 0 8 2 ≠ 2 ∨ b.asked ≥ jobLength b ∨ b.remote.length < b.asked then s
  else
    let n := min 65536 (jobLength b - b.asked)
    if h : jd b 3 0 12 < 4096 then
      let t : TxnReq := ⟨⟨jd b 3 0 12, h⟩, 3, 2, 0, jd b 1 0 64 + b.asked, n, [], false, none, 0⟩
      let inst : Option InstId := if h : b.inst < 8 then some ⟨b.inst, h⟩ else none
      match s.startTxn t (.ingest b.id) inst b.gen with
      | some s => s.setMedia { s.media with jobs := s.media.jobs.map (fun y => if y.id = b.id then { y with asked := b.asked + n } else y) }
      | none => s
    else s

/-- Bytes for the parser of job `b`: a failed read ends the job; absent remote bytes are asked for. -/
def parserBytes (s : State) (b : IngJob) (pos n : Nat) (f : List Byte → State → State) : State :=
  match s.sourceBytes b pos n with
  | (0, some bs) => f bs s
  | (0, none) => s.askRemote b
  | (st, _) => (s.readFailed st (uIngest b.stream) (some b.inst) false (jd b 1 0 64 + pos)).endJob' b.id st

/-! ### Forming frames -/

/-- Kept pictures of a video record (R360, R370). -/
def keptPictures (st : List Byte) (r : IngRecord) : Nat :=
  cdiv (Config.videoPictures (r.aux % 4) r.payload).length (max 1 (le st 60 1))

def augOf (s : State) (b : IngJob) : Nat × List Byte :=
  if jd b 5 0 48 = 0 then (0, List.replicate 64 0)
  else
    let a := jd b 5 0 48 + b.sampleNo * 64
    match s.engineRead (.inst b.inst) a 64 with
    | 0 => (0, s.bytesAt a 64)
    | st => (st, [])

/-- A slot for a frame: taken, to be waited for, or none (R383, R419): whether the frame waits, the slot, the state. -/
def slotFor (s : State) (p : Nat) (wait : Bool) : Option (Bool × Option Nat) × State :=
  if wait then
    have s := (s.sch.poolWait.get [] p).foldl (fun s _ => s.poolGrant p) s
    match s.poolOn p && (s.sch.poolWait.get [] p).isEmpty, s.sch.poolFree.get [] p with
    | true, slot :: rest => (some (false, some slot), (s.setSch { s.sch with poolFree := s.sch.poolFree.set [] p rest }).showPool p)
    | _, _ => (some (true, none), s)
  else match s.takeSlot p with
    | (some a, s) => (some (false, some a), s)
    | (none, s) => (none, s)

/-- One frame of a sample: `k` its kept picture. -/
def formFrame (s : State) (id k : Nat) : State :=
  match s.media.jobs.find? (fun b => b.id == id) with
  | none => s
  | some b =>
    if b.ended.isSome then s
    else
      let x := b.stream
      let st := s.settingsFor x (s.reg (R.ING_STRM_SEQ x)).toNat
      let pool := jd b 4 0 16
      let (ast, aug) := s.augOf b
      if ast ≠ 0 then (s.readFailed ast (uIngest x) (some b.inst) false (jd b 5 0 48)).endJob' id ast
      else
        let pic := recOf b.sample 0
        let declared := pic.bind declaredOf
        let cause :=
          if b.sampleCause ≠ 0 then b.sampleCause
          else if st.isEmpty || decide (le st 112 4 > (s.reg (R.SCH_POOL_SLOT pool)).toNat) || !augOk aug then 0x02
          else if s.overLimit b.sample then 0x56
          else if jobStrict b && (match pic, declared with
            | some r, some d => decide (picSize r ≠ d)
            | _, _ => false) then 0x51
          else 0
        let slotless := jobStrict b && decide (cause ≠ 0)
        let (got, s') := if slotless then (some (false, none), s) else s.slotFor pool (decide (jd b 0 13 1 = 1))
        match got with
        | none => (s'.putJob { b with pos := b.sampleAt }).endJob' id 0x61
        | some (waiting, slot) =>
          let seq := (s'.reg (R.ING_STRM_SEQ x)).toNat
          let no := s'.media.nextId
          have s := s'.assignFrame x (fun f =>
            let f := { f with job := some id, key := b.sampleKey, records := b.sample, keptIdx := k, aug := aug, strict := jobStrict b }
            let f := { f with pool := pool, wait := waiting, waiting := waiting, slot := slot, cause := cause, readyNo := no }
            { f with needPic := decide (cause = 0) && pic.isSome, needAud := decide (cause = 0 ∧ k = 0) && (recOf b.sample 1).isSome })
          have s := s.setMedia { s.media with nextId := s.media.nextId + 1 }
          have s := if waiting then
              (s.setSch { s.sch with poolWait := s.sch.poolWait.set [] pool (s.sch.poolWait.get [] pool ++
                [⟨ingAgent x seq, b.inst, b.gen⟩]) }).showPool pool
            else s
          have s := s.putJob { b with frames := b.frames + 1 }
          if jd b 6 0 32 ≠ 0 ∧ b.frames + 1 ≥ jd b 6 0 32 then
            s.setMedia { s.media with jobs := s.media.jobs.map (fun y => if y.id = id then { y with ended := some 0 } else y) }
          else s

/-- The open sample of a job becomes frames (R360, R364). -/
def closeSample (s : State) (id : Nat) : State :=
  match s.media.jobs.find? (fun b => b.id == id) with
  | none => s
  | some b =>
    if !b.sampleOpen then s
    else
      let st := s.settingsFor b.stream (s.reg (R.ING_STRM_SEQ b.stream)).toNat
      let n := match recOf b.sample 0 with
        | some r => if r.type = 7 ∧ b.sampleCause = 0 then max 1 (keptPictures st r) else 1
        | none => 1
      have s := s.add64 (R.ING_CNT_SAMPLES b.inst) 1
      have s := (List.range n).foldl (fun s k => s.formFrame id k) s
      s.setMedia { s.media with jobs := s.media.jobs.map (fun y => if y.id = id then
        { y with sampleOpen := false, sample := [], sampleCause := 0, sampleKey := 0, sampleName := [], sampleNo := y.sampleNo + 1 } else y) }

/-- The source is at its end: the last sample is formed and the job ends with OK. -/
def endSource (s : State) (id : Nat) : State :=
  have s := s.closeSample id
  match s.media.jobs.find? (fun b => b.id == id) with
  | some b => s.endJob' id (b.ended.getD 0)
  | none => s

/-- One substituted frame for bytes that were lost (R366, R368). -/
def lostFrame (s : State) (id pos : Nat) : State :=
  have s := s.closeSample id
  have s := s.setMedia { s.media with jobs := s.media.jobs.map (fun y => if y.id = id then
    { y with sampleOpen := true, sample := [], sampleKey := 0, sampleAt := pos, sampleCause := 0x57 } else y) }
  s.closeSample id

/-- A record joins the sample at `pos`, after which the parser stands at `next`; a record outside the table or of a kind
already present is bad (R364). `cause` is what already failed. -/
def addRecord (s : State) (id : Nat) (r : IngRecord) (key pos next cause : Nat) (name : List Byte) : State :=
  match s.media.jobs.find? (fun b => b.id == id) with
  | none => s
  | some b =>
    if b.ended.isSome then s.tryEndJob id
    else
      let kind := recKind r.type r.side
      let dup := match kind with
        | some k => b.sample.any (fun q => recKind q.type q.side == some k)
        | none => false
      let cause := if cause ≠ 0 then cause else if kind.isNone || dup then 0x57 else 0
      if jobStrict b ∧ cause = 0x57 then (s.putJob { b with pos := pos }).endJob' id 0x57
      else
        let b := if b.sampleOpen then b else { b with sampleOpen := true, sampleKey := key, sampleAt := pos, sampleName := name }
        let b := { b with sample := if cause = 0 then b.sample ++ [r] else b.sample, pos := next,
                          sampleCause := if b.sampleCause ≠ 0 then b.sampleCause else cause }
        s.putJob b

/-- The bare record of container 0 (R361). -/
def bareRecord (s : State) (b : IngJob) : State :=
  let n := jobLength b
  if n > s.limRecord then
    ((s.putJob { b with pos := n, sampleOpen := true, sampleCause := 0x56 }).endSource b.id)
  else s.parserBytes b 0 n (fun bs s =>
    let r : IngRecord := ⟨jd b 0 24 8, bs, 0, false⟩
    (s.addRecord b.id r 0 0 n 0 []).endSource b.id)

/-! ### Bolt (R363, R366) -/

def boltHeaderOk (h : List Byte) (version : Bool) : Bool :=
  decide (h.length ≥ 32 ∧ le h 0 4 = 0x544C4F42 ∧ le h 28 4 = crc32c (h.take 28)) && (!version || decide (le h 4 1 = 1))

/-- Bytes that a record of `len` payload bytes spans. -/
def boltSpan (len : Nat) : Nat := (36 + len + 7) / 8 * 8

/-- The first accepted candidate at or after `o` in the source (R366). -/
def boltScan (src : List Byte) : Nat → Nat → Option Nat
  | 0, _ => none
  | fuel + 1, o =>
    let h := (src.drop o).take 32
    let next := o + boltSpan (le h 8 6)
    if boltHeaderOk h false && (next == src.length || boltHeaderOk ((src.drop next).take 32) false) then some o
    else boltScan src fuel (o + 1)

/-- A resynchronisation of job `b` at `pos` (R366): `found` gives the accepted candidate in the whole source. -/
def resync (s : State) (b : IngJob) (found : List Byte → Option Nat) : State :=
  let len := jobLength b
  s.parserBytes b 0 len (fun src s =>
    let o := (found src).getD len
    have s := s.closeSample b.id
    have s := (s.add64 (R.ING_RESYNC_BYTES b.inst) (o - b.pos)).inc (R.ING_RESYNC_EVENTS b.inst)
    have s := s.lostFrame b.id b.pos
    have s := s.setMedia { s.media with jobs := s.media.jobs.map (fun y => if y.id = b.id ∧ y.ended = none then { y with pos := o } else y) }
    if (found src).isNone then s.endSource b.id else s.tryEndJob b.id)

/-- A truncated record (R368): strict mode ends the job, substitute mode substitutes one frame and reaches the end. -/
def truncated (s : State) (b : IngJob) : State :=
  if jobStrict b then s.endJob' b.id 0x57
  else
    have s := s.lostFrame b.id b.pos
    have s := s.setMedia { s.media with jobs := s.media.jobs.map (fun y => if y.id = b.id ∧ y.ended = none then { y with pos := jobLength b } else y) }
    s.endSource b.id

/-- The parser takes the next Bolt record of job `b`. -/
def boltNext (s : State) (b : IngJob) : State :=
  let len := jobLength b
  if b.pos ≥ len then s.endSource b.id
  else if b.pos + 32 > len then s.truncated b
  else s.parserBytes b b.pos 32 (fun h s =>
    if !boltHeaderOk h true then
      if jobStrict b then s.endJob' b.id 0x57
      else s.resync b (fun src => boltScan src (len - b.pos) (b.pos + 1))
    else
      let n := le h 8 6
      let key := le h 16 8
      let flags := le h 6 2
      have s := if b.sampleOpen && b.sampleKey != key then s.closeSample b.id else s
      match s.media.jobs.find? (fun y => y.id == b.id) with
      | none => s
      | some b =>
        if b.ended.isSome then s.tryEndJob b.id
        else if b.pos + boltSpan n > len then s.truncated b
        else
          let next := b.pos + boltSpan n
          let reserved := decide (flags ≥ 4 ∨ le h 14 2 ≠ 0)
          let finish := fun (s : State) => if bitOf flags 0 then (s.closeSample b.id).tryEndJob b.id else s
          if n > s.limRecord then
            finish (s.addRecord b.id ⟨le h 5 1, [], le h 24 4, bitOf flags 1⟩ key b.pos next 0x56 [])
          else s.parserBytes b (b.pos + 32) (n + 4) (fun pl s =>
            let good := decide (le pl n 4 = crc32c (pl.take n)) && !reserved
            finish (s.addRecord b.id ⟨le h 5 1, pl.take n, le h 24 4, bitOf flags 1⟩ key b.pos next (if good then 0 else 0x57) [])))

/-! ### ustar (R365) -/

/-- An octal number in a header field. -/
def octal (bs : List Byte) : Nat :=
  bs.foldl (fun n c => if 0x30 ≤ c.toNat ∧ c.toNat ≤ 0x37 then n * 8 + (c.toNat - 0x30) else n) 0

def ustarOk (h : List Byte) : Bool :=
  let sum := ((List.range 512).map (fun k => if 148 ≤ k ∧ k < 156 then 32 else (h.getD k 0).toNat)).sum
  decide (h.length = 512 ∧ (h.drop 257).take 6 = [0x75, 0x73, 0x74, 0x61, 0x72, 0] ∧ octal ((h.drop 148).take 8) = sum)

def zeroBlock (h : List Byte) : Bool := decide (h.length = 512) && h.all (fun b => b == 0)

/-- Bytes up to the first NUL. -/
def cstr (bs : List Byte) : List Byte := bs.takeWhile (fun b => b != 0)

/-- The keywords of a pax header: records "length key=value\n". -/
def paxRecords : Nat → List Byte → List (List Byte × List Byte)
  | 0, _ => []
  | fuel + 1, bs =>
    let digits := bs.takeWhile (fun b => decide (0x30 ≤ b.toNat ∧ b.toNat ≤ 0x39))
    let n := digits.foldl (fun n c => n * 10 + (c.toNat - 0x30)) 0
    if n ≤ digits.length + 1 ∨ n > bs.length then []
    else
      let body := (bs.take (n - 1)).drop (digits.length + 1)
      let key := body.takeWhile (fun b => b != 0x3D)
      (key, body.drop (key.length + 1)) :: paxRecords fuel (bs.drop n)

def asciiBytes (t : String) : List Byte := t.toList.map (fun c => BitVec.ofNat 8 c.toNat)
def decimal (bs : List Byte) : Nat := bs.foldl (fun n c => n * 10 + (c.toNat - 0x30)) 0
def lower (bs : List Byte) : List Byte := bs.map (fun c => if 0x41 ≤ c.toNat ∧ c.toNat ≤ 0x5A then c + 0x20 else c)

/-- The part of a name after its last '/'. -/
def baseName (n : List Byte) : List Byte := (n.reverse.takeWhile (fun c => c != 0x2F)).reverse

/-- A name up to the first '.' after the last '/'. -/
def sampleStem (n : List Byte) : List Byte :=
  let b := baseName n
  n.take (n.length - b.length) ++ b.takeWhile (fun c => c != 0x2E)

/-- Media type by extension; 0xFF is side. -/
def typeOfName (n : List Byte) : Nat :=
  let b := baseName n
  let ext := lower ((b.reverse.takeWhile (fun c => c != 0x2E)).reverse)
  if ext.length = b.length then 0xFF
  else if ext = asciiBytes "jpg" ∨ ext = asciiBytes "jpeg" then 1
  else if ext = asciiBytes "png" then 2
  else if ext = asciiBytes "opus" then 3
  else if ext = asciiBytes "flac" then 4
  else if ext = asciiBytes "wav" then 6
  else if ext = asciiBytes "tok" then 8
  else 0xFF

/-- A block-aligned candidate (R366): magic, checksum, and a member end on a header, a zero block or the end. -/
def ustarScan (src : List Byte) : Nat → Nat → Option Nat
  | 0, _ => none
  | fuel + 1, o =>
    let blk := fun (a : Nat) => (src.drop a).take 512
    let size := octal ((blk o |>.drop 124).take 12)
    let next := o + 512 + (size + 511) / 512 * 512
    if ustarOk (blk o) && (next == src.length || ustarOk (blk next) || zeroBlock (blk next)) then some o
    else ustarScan src fuel (o + 512)

/-- The parser takes the next ustar member of job `b`. -/
def ustarNext (s : State) (b : IngJob) : State :=
  let len := jobLength b
  if b.pos ≥ len then s.endSource b.id
  else if b.pos + 512 > len then s.truncated b
  else s.parserBytes b b.pos 512 (fun h s =>
    if zeroBlock h then
      if b.pos + 1024 > len then (s.putJob { b with pos := len }).endSource b.id
      else s.parserBytes b (b.pos + 512) 512 (fun h2 s =>
        if zeroBlock h2 then (s.putJob { b with pos := b.pos + 1024 }).endSource b.id
        else s.putJob { b with pos := b.pos + 512 })
    else if !ustarOk h then
      if jobStrict b then s.endJob' b.id 0x57
      else s.resync b (fun src => ustarScan src ((len - b.pos) / 512) (b.pos + 512))
    else
      let flag := le h 156 1
      let file := decide (flag = 0x30 ∨ flag = 0)
      let size := match file, b.paxSize with
        | true, some n => n
        | _, _ => octal ((h.drop 124).take 12)
      let next := min len (b.pos + 512 + (size + 511) / 512 * 512)
      if b.pos + 512 + size > len then s.truncated b
      else if flag = 0x78 then
        s.parserBytes b (b.pos + 512) size (fun d s =>
          let rs := paxRecords (size + 1) d
          let find := fun (k : String) => (rs.find? (fun r => r.1 == asciiBytes k)).map Prod.snd
          s.putJob { b with pos := next, paxPath := find "path", paxSize := (find "size").map decimal })
      else if flag = 0x67 then s.putJob { b with pos := next }
      else if !file then s.putJob { b with pos := next, paxPath := none, paxSize := none }
      else
        let pre' := cstr ((h.drop 345).take 155)
        let short := cstr (h.take 100)
        let name := b.paxPath.getD (if pre'.isEmpty then short else pre' ++ [0x2F] ++ short)
        let stem := sampleStem name
        have s := s.putJob { b with paxPath := none, paxSize := none }
        have s := if b.sampleOpen && b.sampleName != stem then s.closeSample b.id else s
        let type := typeOfName name
        let rec' := fun (pl : List Byte) => (⟨type, pl, 0, decide (type = 0xFF)⟩ : IngRecord)
        if size > s.limRecord then s.addRecord b.id (rec' []) 0 b.pos next 0x56 stem
        else s.parserBytes b (b.pos + 512) size (fun pl s => s.addRecord b.id (rec' pl) 0 b.pos next 0 stem))

/-! ### Starting a job -/

/-- The checks of R361 on a job descriptor of instance `i`. -/
def jobCheck (s : State) (i : Nat) (d : BitVec 1024) : Nat :=
  let n := d.toNat
  let w := fun (k lo len : Nat) => bitsOf n (64 * k + lo) len
  let x := w 0 16 5
  let zero := decide (w 0 14 2 = 0 ∧ w 0 21 3 = 0 ∧ w 0 32 32 = 0 ∧ w 2 48 16 = 0 ∧ w 3 12 52 = 0 ∧ w 4 16 48 = 0 ∧
    w 5 48 16 = 0 ∧ w 6 32 32 = 0 ∧ w 7 16 48 = 0 ∧ n / 2 ^ 512 = 0)
  let src := w 1 0 64
  let len := w 2 0 48
  let tier := fun (a : Nat) => match regionOf a with
    | .hbm _ => true | .deep _ => true | .ovc _ => true | _ => false
  let sess := s.sess (w 3 0 12)
  if w 0 0 8 ≠ 0x50 then 0x01
  else if !zero || decide (w 0 8 2 = 3 ∨ w 0 10 2 = 3 ∨ len = 0) then 0x02
  else if decide (w 0 10 2 = 0 ∧ (w 0 24 8 = 0 ∨ w 0 24 8 > 9)) then 0x02
  else if !(s.strmOn x && s.strmOwner x == i && s.strmKind x == 0) then 0x02
  else if decide (w 0 8 2 = 1) && !(tier src && tier (src + len - 1)) then 0x02
  else if decide (w 0 8 2 = 2) && !(sess.created && sess.inst == i) then 0x02
  else if decide (w 4 0 16 ≥ 64) || !s.poolOn (w 4 0 16) ||
    decide (s.fld (R.SCH_POOL_CFG (w 4 0 16)) F.SCH_POOL_CFG_owner ≠ i) then 0x02
  else if s.semForeign (some i) (w 7 0 16) then 0x65
  else 0

/-- A running job's parser begins: a bare record is taken at once; a remote source is asked for. -/
def beginJob (s : State) (b : IngJob) : State :=
  if jd b 0 8 2 = 2 then s.askRemote b
  else if jd b 0 10 2 = 0 then s.bareRecord b
  else s

/-! ### Instance reset (R387) -/

def resetIngest (s : State) (i : Nat) : State :=
  have s := (List.range 32).foldl (fun s x =>
    if s.strmOwner x ≠ i then s
    else
      have s := s.setStrm x IngStream.reset
      have s := s.setFld (R.ING_STRM_CFG x) F.ING_STRM_CFG_enable 0
      have s := s.setReg (R.ING_STRM_SEQ x) 0
      have s := s.setFld (R.ING_STRM_STATUS x) F.ING_STRM_STATUS_generation 0
      have s := s.setFld (R.ING_STRM_STATUS x) F.ING_STRM_STATUS_pending 0
      have s := s.setFld (R.ING_STRM_STATUS x) F.ING_STRM_STATUS_roi_valid 0
      have s := s.setReg (R.ING_STRM_ROI x) 0
      s.unbind (List.range 8) x (decOf x)) s
  have s := s.setMedia { s.media with jobs := s.media.jobs.filter (fun b => b.inst != i), ingCpl := s.media.ingCpl.set 0 i 0 }
  have s := s.setRingFld false i (R.ING_RING_CFG 0) F.ING_RING_CFG_enable 0
  have s := s.setRingFld false i (R.ING_RING_HEAD 0) F.ING_RING_HEAD_head 0
  have s := s.setRingFld false i (R.ING_RING_TAIL 0) F.ING_RING_TAIL_tail 0
  s.showIngest

/-! ### Decoded data into a frame -/

/-- A decoded picture of frame `f`, brought to `declared` where one is given (R368, R369, R371, R382). -/
def applyPicture (s : State) (x : Nat) (f : IngFrame) (d : Decoded) (declared : Option (Nat × Nat)) : State :=
  let fail := fun (s : State) (c : Nat) => s.mapFrame x f.seq (fun f => { f with needPic := false, cause := if f.cause = 0 then c else f.cause })
  match d with
  | .unsupported => fail s 0x59
  | .picture p =>
    if p.w = 0 ∨ p.h = 0 ∨ p.lines = 0 then fail s 0x58
    else if f.strict ∧ (p.lines < p.h ∨ p.surplus ∨ (declared.map (fun z => decide (z ≠ (p.w, p.h)))).getD false) then fail s 0x51
    else
      let (w, h) := declared.getD (p.w, p.h)
      let live := decide (s.strmKind x = 1) && decide (bitOf (le f.settings 16 1) 0)
      let thumb := thumbnail p
      let old := (s.strm x).thumb
      let usable := match old with
        | some o => o.1 == thumb.1 && o.2.1 == thumb.2.1
        | none => false
      let region : Option (Nat × Nat × Nat × Nat) :=
        if !live || !usable then none
        else match regionFrom f.settings p.w p.h thumb (old.getD (0, 0, [])) with
          | some r => some r
          | none => if s.fld (R.ING_STRM_STATUS x) F.ING_STRM_STATUS_roi_valid = 1 then
              let v := (s.reg (R.ING_STRM_ROI x)).toNat
              some (bitsOf v 0 16, bitsOf v 16 16, bitsOf v 32 16, bitsOf v 48 16)
            else none
      have s := if live then s.setStrm x { s.strm x with thumb := some thumb } else s
      have s := match region with
        | some (rx, ry, rw, rh) =>
          (s.setReg (R.ING_STRM_ROI x) (BitVec.ofNat 64 (rx + ry * 2 ^ 16 + rw * 2 ^ 32 + rh * 2 ^ 48))).setFld
            (R.ING_STRM_STATUS x) F.ING_STRM_STATUS_roi_valid 1
        | none => s
      let o := runPicture p f.settings f.aug w h region
      have s := s.slotWrite x f (le f.settings 96 4) (o.codes.flatMap (fun c => bytesOf c (outBytes f.settings)))
      s.mapFrame x f.seq (fun f =>
        let f := { f with needPic := false, hist := o.hist, regionUsed := o.region, picW := w, picH := h }
        { f with trunc := f.trunc || p.surplus || decide (w < p.w ∨ h < p.h),
                 padded := f.padded || decide (p.lines < min p.h h ∨ p.w < w ∨ p.h < h) })
  | _ => fail s 0x58

/-- Decoded sound of frame `f`, brought to `declared` source samples where given (R368, R369, R372, R373). -/
def applySound (s : State) (x : Nat) (f : IngFrame) (d : Decoded) (declared : Option Nat) : State :=
  let fail := fun (s : State) (c : Nat) => s.mapFrame x f.seq (fun f => { f with needAud := false, cause := if f.cause = 0 then c else f.cause })
  match d with
  | .unsupported => fail s 0x59
  | .sound a =>
    let got := (a.samples.headD []).length
    let want := declared.getD a.declared
    if got = 0 then fail s 0x58
    else if f.strict ∧ (got ≠ want ∨ a.surplus) then fail s 0x51
    else
      let a' := { a with samples := a.samples.map (fun l => (l ++ List.replicate (want - l.length) 0).take want) }
      match runSound a' f.settings f.aug with
      | none => fail s 0x59
      | some (o, short) =>
        if f.strict ∧ short then fail s 0x51
        else
          have s := s.slotWrite x f (le f.settings 100 4) (o.codes.flatMap (fun c => bytesOf c (outBytes f.settings)))
          s.mapFrame x f.seq (fun f =>
            let f := { f with needAud := false, levels := o.levels, audN := o.n }
            { f with trunc := f.trunc || a.surplus || decide (want < got) || o.trunc,
                     padded := f.padded || decide (got < want) || o.padded })
  | _ => fail s 0x58

/-- A live frame ends without a slot (R380, R383). -/
def dropLive (s : State) (x seq st : Nat) (incomplete : Bool) : State :=
  match s.frameOf x seq with
  | none => s
  | some f =>
    have s := s.dropSlot x f
    s.mapFrame x seq (fun f => { f with status := st, cause := 0, incomplete := incomplete, needPic := false, needAud := false,
                                        waiting := false, ready := true })

/-- A complete live frame is checked against limits and declared sizes and takes its slot (R367, R381, R383). `size` is a
picture's width and height, or sound's samples with 0. -/
def liveSlot (s : State) (x seq : Nat) (video : Bool) (size : Nat × Nat) : State :=
  match s.frameOf x seq with
  | none => s
  | some f =>
    let passed := if video then decide (size.1 > s.limImage.1 ∨ size.2 > s.limImage.2) else decide (size.1 > s.limAudio * 48000)
    let decl := if video then (le f.settings 56 2, le f.settings 58 2) else (le f.settings 88 4, 0)
    let wrong := decide (decl ≠ (0, 0) ∧ decl ≠ size)
    let cause := if f.settings.isEmpty || decide (le f.settings 112 4 > (s.reg (R.SCH_POOL_SLOT f.pool)).toNat) then 0x02
      else if passed then 0x56 else if f.strict && wrong then 0x51 else 0
    if f.strict ∧ cause ≠ 0 then s.mapFrame x seq (fun f => { f with cause := cause, needPic := false, needAud := false })
    else match s.takeSlot f.pool with
      | (none, s) => (s.inc (R.ING_STRM_NOSLOT x)).dropLive x seq 0x61 false
      | (some a, s) => s.mapFrame x seq (fun f =>
          { f with slot := some a, cause := cause, needPic := f.needPic && cause == 0, needAud := f.needAud && cause == 0 })

end State

/-! ### Commands -/

/-- ING_RING_TAIL (R361): the doorbell of instance `i`'s ingest ring. -/
def execIngRingTail (req : Requester) (i : InstId) (tail : W32) (s : State) : Out :=
  let off := R.ING_RING_TAIL i.val
  if s.reach req off then .next (s.writeMediaTail false i.val (tail.toNat % 4096)) else .next (s.regRefused req off)

/-- INGEST_JOB (R361): the ring's next job descriptor is checked; jobs of one stream run one at a time. -/
def execIngestJob (i : InstId) (s : State) : Out :=
  match s.mediaFetch false i.val 128 with
  | none => .next s
  | some (idx, n, s) =>
    let d := BitVec.ofNat 1024 n
    let st := s.jobCheck i.val d
    if st ≠ 0 then
      .next ((s.mediaCpl false i.val idx st 0).doneSem (bitsOf n 448 16) (.engine 8 4) i.val (s.gen i.val))
    else
      let x := bitsOf n 16 5
      let run := !(s.media.jobs.any (fun b => b.stream == x))
      let b : IngJob :=
        { id := s.media.nextId, inst := i.val, idx := idx, gen := s.gen i.val, desc := d, stream := x, running := run, pos := 0,
          remote := [], asked := 0, sampleOpen := false, sample := [], sampleKey := 0, sampleAt := 0, sampleCause := 0,
          sampleName := [], sampleNo := 0, frames := 0, paxPath := none, paxSize := none, ended := none }
      have s := (s.setMedia { s.media with jobs := s.media.jobs ++ [b], nextId := s.media.nextId + 1 }).showIngest
      .next (if run then s.beginJob b else s)

/-- The parser's next step on stream `x`'s running job, when its container is `want` (or 0, a bare record). -/
def State.parseStep (s : State) (x want : Nat) : State :=
  match s.job? x with
  | none => s
  | some b =>
    if b.ended.isSome then s.tryEndJob b.id
    else if State.jd b 0 10 2 = 0 then s.bareRecord b
    else if State.jd b 0 10 2 ≠ want then s
    else if want = 1 then s.boltNext b
    else s.ustarNext b

/-- BOLT_RECORD (R363): the parser of a stream takes the next record of a Bolt stream, or a bare record whose bytes came
late. -/
def execBoltRecord (x : StrmId) (s : State) : Out := .next (s.parseStep x.val 1)

/-- USTAR_MEMBER (R365): the parser of a stream takes the next member of an archive. -/
def execUstarMember (x : StrmId) (s : State) : Out := .next (s.parseStep x.val 2)

/-- The engine that runs the decode of a frame. -/
def State.engineOf (s : State) (x seq : Nat) : Option Nat :=
  (List.range 8).find? (fun e => match (s.cdc e).running with
    | some (.dec y n) => y.val == x && n == seq
    | _ => false)

/-- An engine's running work is done. -/
def State.engineDone (s : State) (e : Nat) : State := (s.setCdc e { s.cdc e with running := none }).showEng e

/-- A live picture's decode ends (R393, R394). -/
def State.liveDecoded (s : State) (x seq e : Nat) : State :=
  match (s.strm x).units.find? (fun u => u.seq == seq) with
  | none => s.engineDone e
  | some u =>
    let t := s.strm x
    let o := Config.liveVideo (s.fld (R.ING_STRM_CFG x) F.ING_STRM_CFG_codec) t.video u.payloads
    let concealing := if o.randomAccess then false else t.concealing || o.missingRef
    let px := match o.out with
      | .picture p => p.w * p.h
      | _ => 0
    let mps := s.fld (R.CDC_DEC_CFG x) F.CDC_DEC_CFG_live_mps
    have s := s.engineDone e
    have s := s.pixelsDone e x px (some (if mps = 0 ∨ mps > 480 then 480 else mps))
    have s := s.setStrm x { t with video := o.next, concealing := concealing, units := t.units.filter (fun v => v.seq != seq) }
    have s := if concealing && !s.strmStrict x then s.inc (R.CDC_DEC_CONCEALED x) else s
    match s.frameOf x seq with
    | none => s
    | some f =>
      if !f.needPic then s
      else if concealing then s.mapFrame x seq (fun f => { f with needPic := false, cause := if f.cause = 0 then 0x58 else f.cause })
      else
        let d := (le f.settings 56 2, le f.settings 58 2)
        s.applyPicture x f o.out (if d = (0, 0) then none else some d)

/-- The concealed pictures of a video record up to and with picture `k`, since its last random-access point (R394). -/
def concealedAt (l : List VideoOut) (k : Nat) : Bool :=
  (l.take (k + 1)).foldl (fun c o => if o.randomAccess then false else c || o.missingRef) false

/-- DECODE_COMPLETE (R370): the picture (or the sound, with `audio`) of a frame is decoded and pre-processed; video
pictures come from the engine that runs them. -/
def execDecodeComplete (x : StrmId) (seq : Nat) (audio : Bool) (s : State) : Out :=
  let x := x.val
  if !audio && decide (s.strmKind x = 1) then
    match s.engineOf x seq with
    | some e => .next (s.liveDecoded x seq e)
    | none => .next s
  else match s.frameOf x seq with
    | none => .next s
    | some f =>
      if f.waiting || f.slot.isNone then .next s
      else if audio then
        if !f.needAud then .next s
        else if s.strmKind x = 2 then
          let t := s.strm x
          let (nx, d) := Config.liveSound t.sound ((f.records.map (fun r => r.payload)).headD [])
          have s := s.setStrm x { t with sound := nx }
          let ds := le f.settings 88 4
          .next (s.applySound x f d (if ds = 0 then none else some ds))
        else match State.recOf f.records 1 with
          | some r => .next (s.applySound x f (State.decodeAudio r) none)
          | none => .next s
      else if !f.needPic then .next s
      else match State.recOf f.records 0 with
        | none => .next s
        | some r =>
          if r.type ≠ 7 then .next (s.applyPicture x f (Config.decodeFile r.type r.payload) (State.declaredOf r))
          else match s.engineOf x seq with
            | none => .next s
            | some e =>
              let l := Config.videoPictures (r.aux % 4) r.payload
              let step := max 1 (le f.settings 60 1)
              let k := f.keptIdx * step
              let out := (l[k]?.map (fun o => o.out)).getD .error
              let px := match out with
                | .picture p => p.w * p.h
                | _ => 0
              -- pictures decoded for this frame: those after the last kept one
              let first := if f.keptIdx = 0 then 0 else k - step + 1
              let hidden := (List.range (k + 1)).filter (fun j => decide (first ≤ j) && concealedAt l j)
              have s := (s.engineDone e).pixelsDone e x (px * (k + 1 - first)) none
              if concealedAt l k then
                have s := if f.strict then s else s.addSat (R.CDC_DEC_CONCEALED x) hidden.length
                .next (s.mapFrame x seq (fun f => { f with needPic := false, cause := if f.cause = 0 then 0x58 else f.cause }))
              else
                have s := if f.strict then s else s.addSat (R.CDC_DEC_CONCEALED x) hidden.length
                .next (s.applyPicture x f out none)

/-- SAMPLE_RECORD (R383): the oldest frame of the stream, once done, is published. -/
def execSampleRecord (x : StrmId) (s : State) : Out := .next (s.publish x.val)

/-- A write of ING_STRM_SET_TARGET (R376): the block is read and checked and waits for its target. -/
def State.installSettings (s : State) (x target : Nat) : State :=
  let t := s.strm x
  let a := s.fld (R.ING_STRM_SET_ADDR x) F.ING_STRM_SET_ADDR_addr
  let i := s.strmOwner x
  if t.installs.length ≥ 4 then s.setFld (R.ING_STRM_STATUS x) F.ING_STRM_STATUS_set_refused 1
  else
    let st := s.engineRead (.inst i) a 256
    let b := s.bytesAt a 256
    have s := if st = 0x64 then s.firewallDenied (State.uIngest x) (some i) a else s
    let pool := Config.streamPool x % 64
    let fits := decide (s.strmKind x = 0 ∨ le b 112 4 ≤ (s.reg (R.SCH_POOL_SLOT pool)).toNat)
    if st ≠ 0 ∨ a % 256 ≠ 0 ∨ !settingsOk b s.limImage.1 s.limImage.2 ∨ !fits then
      s.setFld (R.ING_STRM_STATUS x) F.ING_STRM_STATUS_set_error 1
    else
      have s := s.setStrm x { t with installs := t.installs ++ [⟨target, b⟩] }
      s.setFld (R.ING_STRM_STATUS x) F.ING_STRM_STATUS_pending (t.installs.length + 1)

/-- SETTINGS_INSTALL (R376). -/
def execSettingsInstall (req : Requester) (x : StrmId) (target : Word) (s : State) : Out :=
  let off := R.ING_STRM_SET_TARGET x.val
  if s.reach req off then .next (s.installSettings x.val target.toNat) else .next (s.regRefused req off)

/-- A write of ING_STRM_CFG (R360, R391): enabling starts the numbering at 0 and, for live video, reserves capacity. -/
def State.writeStrmCfg (s : State) (x v : Nat) : State :=
  let off := R.ING_STRM_CFG x
  let was := s.strmOn x
  let mps := s.fld (R.CDC_DEC_CFG x) F.CDC_DEC_CFG_live_mps
  let mps := if mps = 0 ∨ mps > 480 then 480 else mps
  -- live frames that are not published are dropped with their slots
  have s := if !was || bitOf v 0 || s.strmKind x == 0 then s
    else
      have s := (s.strm x).frames.foldl (fun s f => s.dropSlot x f) s
      s.setStrm x { s.strm x with frames := [], jitter := [], units := [], engine := none }
  have s := s.setReg off (BitVec.ofNat 64 (bitsOf v 1 26 * 2 + (if was then 1 else 0)))
  if bitOf v 0 && !was then
    let t := { s.strm x with frames := [], jitter := [], extSeq := none, latched := none, lastTs := none, thumb := none,
                             concealing := false, engine := none, nextStart := none, video := 0, sound := 0, units := [] }
    have s := (s.setStrm x t).setReg (R.ING_STRM_SEQ x) 0
    if s.strmKind x = 1 then
      let e := s.leastReserved (List.range 8)
      match s.reserve e x mps with
      | none => (s.setFld (R.CDC_DEC_CFG x) F.CDC_DEC_CFG_res_error 1).log 2 0x5A ⟨9, 4, e⟩ (some (s.strmOwner x)) (value := x)
      | some s => ((s.setStrm x { s.strm x with engine := some e }).setFld off F.ING_STRM_CFG_enable 1).showIngest
    else (s.setFld off F.ING_STRM_CFG_enable 1).showIngest
  else if !bitOf v 0 && was then
    ((s.unbind (List.range 8) x (State.decOf x)).setFld off F.ING_STRM_CFG_enable 0).showIngest
  else s

/-- STREAM_ENABLE (R391): a write of ING_STRM_CFG. -/
def execStreamEnable (req : Requester) (x : StrmId) (val : W32) (s : State) : Out :=
  let off := R.ING_STRM_CFG x.val
  if s.reach req off then .next (s.writeStrmCfg x.val val.toNat) else .next (s.regRefused req off)

/-! ### Live packets (R378 to R381) -/

/-- A big-endian number. -/
def beNat (bs : List Byte) : Nat := bs.foldl (fun n b => n * 256 + b.toNat) 0

/-- An RTP packet (RFC 3550): marker, payload type, sequence, timestamp, SSRC and payload. -/
def rtpOf (p : List Byte) : Option (Bool × Nat × Nat × Nat × Nat × List Byte) :=
  let b0 := le p 0 1
  let b1 := le p 1 1
  let h := 12 + 4 * (b0 % 16)
  let ext := if bitOf b0 4 then 4 + 4 * beNat ((p.drop (h + 2)).take 2) else 0
  let pad := if bitOf b0 5 then ((p.getLast?).getD 0).toNat else 0
  if b0 / 64 ≠ 2 ∨ p.length < h + ext + pad then none
  else some (bitOf b1 7, b1 % 128, beNat ((p.drop 2).take 2), beNat ((p.drop 4).take 4), beNat ((p.drop 8).take 4),
    (p.drop (h + ext)).take (p.length - h - ext - pad))

/-- The extension of a 16-bit sequence number nearest to the last one (R380). -/
def extendSeq (last : Option Nat) (q : Nat) : Nat :=
  match last with
  | none => q
  | some l =>
    let base := l / 65536 * 65536 + q
    (if base + 32768 < l then base + 65536 else if base > l + 32768 ∧ base ≥ 65536 then base - 65536 else base) % 2 ^ 32

/-- Timestamp `a` is older than `b`. -/
def tsOlder (a b : Nat) : Bool := decide (0 < (b + 2 ^ 32 - a) % 2 ^ 32 ∧ (b + 2 ^ 32 - a) % 2 ^ 32 < 2 ^ 31)

/-- Jitter entries a payload takes (R385). -/
def jitterUse (t : IngStream) : Nat := ((t.jitter.map (fun p => max 1 (cdiv p.payload.length 256)))).sum

/-- Whether the shared jitter buffer admits `n` entries of stream `x`: 64 stay reserved for each enabled live stream. -/
def State.jitterRoom (s : State) (x n : Nat) : Bool :=
  let others := (List.range 32).filter (fun y => y != x && s.strmOn y && s.strmKind y != 0)
  decide (jitterUse (s.strm x) + n + (others.map (fun y => max 64 (jitterUse (s.strm y)))).sum ≤ 4096)

/-- The current live picture is complete: every packet from its start to the marker is there. Its payloads in order. -/
def liveComplete (t : IngStream) (ts : Nat) : Option (Nat × List (List Byte)) :=
  let ps := t.jitter.filter (fun p => p.ts == ts)
  match ps.find? (fun p => p.marker) with
  | none => none
  | some m =>
    let start := t.nextStart.getD (ps.foldl (fun a p => min a p.seq) m.seq)
    let want := (List.range (m.seq + 1 - start)).map (fun k => start + k)
    let got := want.map (fun q => ps.find? (fun p => p.seq == q))
    if start ≤ m.seq ∧ got.all (fun o => o.isSome) then
      some (m.seq, got.map (fun o => (o.map (fun p => p.payload)).getD []))
    else none

/-- A picture of a live stream whose packets are all there goes to its decoder with a slot of its frame (R378, R380, R393). -/
def State.livePicture (s : State) (x ts no : Nat) : State :=
  let t := s.strm x
  match liveComplete t ts, t.frames.getLast? with
  | some (last, pls), some f =>
    have s := s.setStrm x { t with jitter := t.jitter.filter (fun p => p.ts != ts), nextStart := some (last + 1) }
    if f.ready then s
    else
      let size := Config.liveSize (s.fld (R.ING_STRM_CFG x) F.ING_STRM_CFG_codec) t.video pls
      have s := s.liveSlot x f.seq true size
      let u : LiveUnit := ⟨f.seq, pls, f.deadline.getD 0, no⟩
      s.setStrm x { s.strm x with units := (s.strm x).units ++ [u] }
  | _, _ => s

/-- A packet accepted from a live stream, whose state is `t`: extended, placed in its frame or in a new one (R378, R380). -/
def State.liveAccepted (s : State) (x : Nat) (t : IngStream) (marker : Bool) (q ts : Nat) (pl : List Byte) : State :=
  let video := decide (s.strmKind x = 1)
  let e := extendSeq t.extSeq q
  let t := { t with extSeq := some (match t.extSeq with
    | some l => if (e + 2 ^ 32 - l) % 2 ^ 32 < 2 ^ 31 then e else l
    | none => e) }
  let isNew := !video || decide (t.lastTs ≠ some ts)
  let seq := (s.reg (R.ING_STRM_SEQ x)).toNat
  let budget := clampTo 100 60000 (s.fld (R.ING_STRM_LIVE x) F.ING_STRM_LIVE_budget_us) * 1000
  let no := s.media.nextId
  let dl := s.time + budget
  let strict := s.strmStrict x
  have s := if !isNew then s.setStrm x t
    else
      -- packets of an older timestamp leave the buffer
      let t := { t with nextStart := if t.jitter.isEmpty then t.nextStart else none }
      let t := { t with jitter := t.jitter.filter (fun p => p.ts == ts), lastTs := some ts }
      (s.setStrm x t).assignFrame x (fun f =>
        let f := { f with strict := strict, pool := Config.streamPool x % 64, deadline := some dl, readyNo := no }
        { f with aug := List.replicate 64 0, needPic := video, needAud := !video,
                 records := if video then [] else [⟨3, pl, 0, false⟩] })
  have s := s.setMedia { s.media with nextId := s.media.nextId + 1 }
  if !video then s.liveSlot x seq false (Config.opusSamples pl, 0)
  else
    have s := s.setStrm x { s.strm x with jitter := (s.strm x).jitter ++ [⟨e, ts, marker, pl⟩] }
    s.livePicture x ts no

/-- A packet of a live stream (R378, R380). -/
def State.livePacket (s : State) (x : Nat) (p : List Byte) : State :=
  let foreign := fun (s : State) => s.inc (R.ING_STRM_FOREIGN x)
  match rtpOf p with
  | none => foreign s
  | some (marker, pt, q, ts, ssrc, pl) =>
    let t := s.strm x
    let latch := decide (s.fld (R.ING_STRM_LIVE x) F.ING_STRM_LIVE_ssrc_latch = 1)
    let want := match latch, t.latched with
      | true, some v => v
      | true, none => ssrc
      | false, _ => s.fld (R.ING_STRM_SSRC x) F.ING_STRM_SSRC_ssrc
    if pt ≠ s.fld (R.ING_STRM_CFG x) F.ING_STRM_CFG_pt ∨ ssrc ≠ want then foreign s
    else
      have s := if latch then s.setReg (R.ING_STRM_SSRC x) (BitVec.ofNat 64 ssrc) else s
      let t := { t with latched := if latch then some ssrc else t.latched }
      if (t.lastTs.map (tsOlder ts)).getD false then foreign (s.setStrm x t)
      else s.liveAccepted x t marker q ts pl

/-- RTP_PACKET (R378): the MSG with sub 3 at place `k` of the ingress list; it is acknowledged once its packet sits in the
jitter buffer, or is discarded and counted. A message for no live stream of the session's instance is discarded. -/
def execRtpPacket (k : Nat) (s : State) : Out :=
  .next (s.withMsg k 3
    (fun b => s.jitterRoom (le b 0 1 % 32) (max 1 (cdiv (b.length - 8) 256)))
    (fun j b s =>
      let x := le b 0 1 % 32
      if le b 0 8 ≥ 32 ∨ !s.strmOn x ∨ s.strmKind x = 0 ∨ s.strmOwner x ≠ (s.sess j.val).inst ∨
        s.fld (R.ING_STRM_LIVE x) F.ING_STRM_LIVE_session ≠ j.val then s.inc (R.ING_STRM_FOREIGN x)
      else s.livePacket x (b.drop 8)))

/-- LIVE_LATE (R380, R393): a live frame incomplete or unpublished at its deadline is dropped; a picture whose decode has
not started is skipped unless it is a reference. -/
def execLiveLate (x : StrmId) (seq : Nat) (s : State) : Out :=
  let x := x.val
  match s.frameOf x seq with
  | none => .next s
  | some f =>
    if f.deadline.isNone || (f.ready && f.slot.isNone) then .next s
    else
      let t := s.strm x
      let unit := t.units.find? (fun u => u.seq == seq)
      let missing := f.needPic && unit.isNone && decide (s.strmKind x = 1)
      let running := (s.engineOf x seq).isSome
      let codec := s.fld (R.ING_STRM_CFG x) F.ING_STRM_CFG_codec
      let skip := !running && (match unit with
        | some u => !(Config.liveVideo codec t.video u.payloads).isRef
        | none => false)
      have s := if missing then s.setStrm x { t with jitter := t.jitter.filter (fun p => some p.ts != t.lastTs), nextStart := none }
        else if skip then s.setStrm x { t with units := t.units.filter (fun u => u.seq != seq) } else s
      .next ((s.dropLive x seq 0x54 missing).inc (R.ING_STRM_LIVE_LATE x))

end Sys2Proof.Machine
end

