-- ==== Sys2Proof/Machine/Codec.lean ====
section
/-! DEFINITION. The codec engines and the encode streams (R389 to R402). -/
namespace Sys2Proof.Machine
namespace State

/-! ### Session blocks (R395) -/

def sWidth (b : List Byte) : Nat := le b 4 2
def sHeight (b : List Byte) : Nat := le b 6 2

/-- Bytes of one picture of the reference store (R395). -/
def refPicture (b : List Byte) : Nat :=
  let blocks := cdiv (sWidth b) 64 * cdiv (sHeight b) 64
  blocks * 64 * 64 * 3 / 2 * (if le b 1 1 = 8 then 1 else 2) + 256 * blocks

/-- The checks on a session block of instance `i` (R389, R395). -/
def sessionOk (s : State) (i : Nat) (b : List Byte) : Bool :=
  let hevc := decide (le b 0 1 = 0)
  let w := sWidth b
  let h := sHeight b
  decide (le b 0 1 ≤ 1) && decide (le b 1 1 = 8 ∨ le b 1 1 = 10) && decide (le b 2 1 ≤ (if hevc then 153 else 13)) &&
  decide (le b 3 1 ≤ 2) && decide (64 ≤ w ∧ w ≤ 4096 ∧ 64 ≤ h ∧ h ≤ 2304 ∧ w % 8 = 0 ∧ h % 8 = 0) &&
  decide (le b 8 2 ≠ 0 ∧ le b 10 2 ≠ 0) && decide (le b 12 1 ≤ 2) &&
  (decide (le b 12 1 ≠ 0) || !hevc || decide (le b 13 1 ≤ 51)) &&
  decide (le b 14 1 ≤ (if hevc then 3 else 0)) && decide (le b 15 1 ≤ (if hevc then 16 else 6)) &&
  decide (10 ≤ le b 24 4 ∧ le b 24 4 ≤ 10000) && decide (16 ≤ le b 56 4 ∧ le b 56 4 ≤ 30) &&
  (decide (le b 3 1 ≠ 0) || decide (1 ≤ le b 60 2 ∧ le b 60 2 ≤ 480)) && decide (le b 62 66 = 0) &&
  decide (le b 32 8 % 4096 = 0) && decide ((3 + le b 14 1 + le b 15 1) * refPicture b ≤ le b 40 8) &&
  (match regionOf (le b 32 8), regionOf (le b 32 8 + (le b 40 8 - 1)) with
   | .hbm _, .hbm _ => true
   | _, _ => false) &&
  decide (s.checkRange (.inst i) (le b 32 8) (le b 40 8) = 0 ∧ s.checkRange (.inst i) (le b 48 8) (2 ^ le b 56 4) = 0)

def encOf (t : Nat) : CodecWork → Bool
  | .enc u _ => u.val == t
  | .dec _ _ => false

def encOn (s : State) (t : Nat) : Bool := decide (s.fld (R.CDC_ENC_CFG t) F.CDC_ENC_CFG_enable = 1)
def encOwner (s : State) (t : Nat) : Nat := s.fld (R.CDC_ENC_CFG t) F.CDC_ENC_CFG_owner

/-- The class of an encode stream: 1 live, 2 interactive, 3 batch. -/
def encClass (s : State) (t : Nat) : Nat := min 3 (le (s.encS t).session 3 1 + 1)

/-- What CDC_ENC_STATUS shows of a stream. -/
def showEnc (s : State) (t : Nat) : State :=
  let x := s.encS t
  have s := s.setFld (R.CDC_ENC_STATUS t) F.CDC_ENC_STATUS_lt_held x.lt.length
  s.setFld (R.CDC_ENC_STATUS t) F.CDC_ENC_STATUS_engine (x.engine % 2)

/-- Pictures in progress of each instance's encode ring. -/
def showEncRings (s : State) : State :=
  (List.range 8).foldl (fun s i => s.setFld (R.CDC_RING_STATUS i) F.CDC_RING_STATUS_running
    (min 255 (((List.range 8).map (fun t => ((s.encS t).pics.filter (fun p => p.inst == i)).length)).sum))) s

/-- A stream without a reservation is bound to an engine; a full engine passes one such stream to the other (R390). -/
def bindEnc (s : State) (t e : Nat) : State :=
  let other := if e = 8 then 9 else 8
  let c := s.cdc e
  have s := if c.bound.length < 4 ∨ c.bound.contains t then s
    else match c.bound.find? (fun u => s.encClass u != 1 && c.running.all (fun w => !encOf u w) && c.stopped.all (fun w => !encOf u w)) with
      | none => s
      | some u =>
        have s := s.setCdc e { c with bound := c.bound.filter (fun v => v != u) }
        have s := s.setCdc other { s.cdc other with bound := u :: (s.cdc other).bound }
        ((s.setEncS u { s.encS u with engine := other }).showEnc u).showEng other
  have s := s.setCdc e { s.cdc e with bound := if (s.cdc e).bound.contains t then (s.cdc e).bound else t :: (s.cdc e).bound }
  ((s.setEncS t { s.encS t with engine := e }).showEnc t).showEng e

/-- A write of CDC_ENC_CFG (R395): enabling reads and checks the session block and reserves live capacity. -/
def writeEncCfg (s : State) (t v : Nat) : State :=
  let off := R.CDC_ENC_CFG t
  let was := s.encOn t
  have s := s.setFld off F.CDC_ENC_CFG_owner (bitsOf v 1 3)
  have s := if bitOf v 4 then s.setFld off F.CDC_ENC_CFG_cfg_error 0 else s
  have s := if bitOf v 5 then s.setFld off F.CDC_ENC_CFG_res_error 0 else s
  if bitOf v 0 && !was then
    let i := s.encOwner t
    let a := s.fld (R.CDC_ENC_SESSION t) F.CDC_ENC_SESSION_addr
    let st := s.engineRead (.inst i) a 128
    let b := s.bytesAt a 128
    have s := if st = 0x64 then s.firewallDenied ⟨9, 4, t⟩ (some i) a else s
    if st ≠ 0 ∨ a % 128 ≠ 0 ∨ !s.sessionOk i b then s.setFld off F.CDC_ENC_CFG_cfg_error 1
    else
      let e := s.leastReserved [8, 9]
      let live := decide (le b 3 1 = 0)
      let full := decide (((s.cdc e).bound.filter (fun u => s.encClass u == 1)).length ≥ 4)
      let fresh : EncStream := { EncStream.reset with session := b, pics := (s.encS t).pics, engine := e }
      if live then
        match (if full then none else (s.bindEnc t e).reserve e t (le b 60 2)) with
        | none => (s.setFld off F.CDC_ENC_CFG_res_error 1).log 2 0x5A ⟨9, 4, e⟩ (some i) (value := t)
        | some s => ((s.setEncS t fresh).setFld off F.CDC_ENC_CFG_enable 1).showEnc t
      else
        let e := if (s.cdc 9).bound.length < (s.cdc 8).bound.length then 9 else 8
        (((s.setEncS t { fresh with engine := e }).bindEnc t e).setFld off F.CDC_ENC_CFG_enable 1).showEnc t
  else if !bitOf v 0 && was then (s.unbind [8, 9] t (encOf t)).setFld off F.CDC_ENC_CFG_enable 0
  else s

/-! ### Pictures (R396 to R399) -/

def pd (p : EncPic) (w lo len : Nat) : Nat := bitsOf p.desc.toNat (64 * w + lo) len

/-- A picture leaves its stream with a completion record (R36, R348, R396). -/
def endPic (s : State) (t : Nat) (p : EncPic) (st result : Nat) : State :=
  let x := s.encS t
  have s := s.setEncS t { x with pics := x.pics.filter (fun q => q.id != p.id) }
  have s := [8, 9].foldl (fun s e =>
    let c := s.cdc e
    let keep := fun (o : Option CodecWork) => match o with
      | some (.enc u n) => if u.val = t ∧ n = p.id then none else o
      | _ => o
    (s.setCdc e { c with running := keep c.running, stopped := keep c.stopped }).showEng e) s
  ((s.mediaCpl true p.inst p.idx st result).doneSem (pd p 6 0 16) (.engine 9 4) p.inst p.gen).showEncRings

/-- The checks of R396 on a descriptor of instance `i`. -/
def picCheck (s : State) (i : Nat) (d : BitVec 512) : Nat :=
  let w := fun (k lo len : Nat) => bitsOf d.toNat (64 * k + lo) len
  let t := w 0 8 3
  let zero := decide (w 0 30 34 = 0 ∧ w 1 48 16 = 0 ∧ w 2 48 16 = 0 ∧ w 3 32 32 = 0 ∧ w 6 16 48 = 0 ∧ w 7 0 64 = 0)
  let tier := fun (a : Nat) => match regionOf a with
    | .hbm _ => true | .ovc _ => true | _ => false
  if w 0 0 8 ≠ 0x52 then 0x01
  else if !zero || !(s.encOn t && s.encOwner t == i) then 0x02
  else if decide (w 0 17 1 = 1 ∧ w 0 12 5 ≥ le (s.encS t).session 15 1) then 0x02
  else if !(tier (w 1 0 48) && tier (w 2 0 48)) then 0x02
  else if s.semForeign (some i) (w 6 0 16) then 0x65
  else 0

/-- The input rows of a picture: luma then chroma, as (address, bytes). -/
def inputRows (x : EncStream) (p : EncPic) : List (Nat × Nat) :=
  let row := sWidth x.session * (if le x.session 1 1 = 8 then 1 else 2)
  (List.range (sHeight x.session)).map (fun y => (pd p 1 0 48 + y * pd p 3 0 32, row)) ++
  (List.range (sHeight x.session / 2)).map (fun y => (pd p 2 0 48 + y * pd p 3 0 32, row))

/-- The long-term pictures after drop_lt; what a key picture releases is settled when it is coded. -/
def afterDrop (x : EncStream) (p : EncPic) : List Nat := if pd p 0 23 1 = 1 then x.lt.filter (fun k => k != pd p 0 18 5) else x.lt

/-- Coding of a picture starts on an engine (R396, R398): whether it is a key picture is fixed here. -/
def startPic (s : State) (e t : Nat) (p : EncPic) : State :=
  let x := s.encS t
  if pd p 0 29 1 = 1 ∧ !(afterDrop x p).contains (pd p 0 24 5) then s.endPic t p 0x02 0
  else
    let asked := decide (s.fld (R.CDC_ENC_STATUS t) F.CDC_ENC_STATUS_key_pending = 1)
    let every := le x.session 28 4
    let key := asked || decide (pd p 0 11 1 = 1) || (match x.sinceKey with
      | none => true
      | some n => decide (every ≠ 0 ∧ n ≥ every))
    have s := s.setFld (R.CDC_ENC_STATUS t) F.CDC_ENC_STATUS_key_pending 0
    have s := s.setEncS t { x with pics := x.pics.map (fun q => if q.id = p.id then { q with started := true, key := key } else q) }
    if h : t < 8 then (s.setCdc e { s.cdc e with running := some (.enc ⟨t, h⟩ p.id) }).showEng e else s

/-- A picture of an encode stream is finished (R396, R397, R399): its bitstream goes into the ring, unless it would overrun
unconsumed space. -/
def finishPic (s : State) (e t : Nat) (p : EncPic) : State :=
  let x := s.encS t
  let rows := inputRows x p
  let bad := (rows.map (fun r => s.engineRead (.inst p.inst) r.1 r.2)).find? (fun st => st != 0)
  match bad with
  | some st => (s.readFailed st ⟨9, 4, t⟩ (some p.inst) false (pd p 1 0 48)).endPic t p st 0
  | none =>
    let input := rows.flatMap (fun r => s.bytesAt r.1 r.2)
    let (bits, next) := Config.encode x.session x.coder p.key p.desc input
    let size := 2 ^ le x.session 56 4
    let used := (x.outWrite + size - s.fld (R.CDC_ENC_OUT_READ t) F.CDC_ENC_OUT_READ_offset % size) % size
    if used + bits.length ≥ size then s.endPic t p 0x5B 0
    else
      let base := le x.session 48 8
      let at' := x.outWrite
      let first := bits.take (size - at')
      have s := s.mediaWrite ⟨9, 4, t⟩ p.inst (base + at') first
      have s := s.mediaWrite ⟨9, 4, t⟩ p.inst base (bits.drop (size - at'))
      let kept := if p.key then [] else afterDrop x p
      let mark := pd p 0 12 5
      let lt := if pd p 0 17 1 = 1 then mark :: kept.filter (fun k => k != mark) else kept
      have s := s.setEncS t { x with coder := next, lt := lt, outWrite := (at' + bits.length) % size,
                                     sinceKey := some (if p.key then 1 else x.sinceKey.getD 0 + 1) }
      have s := s.add64 (R.CDC_ENC_PICTURES t) 1
      have s := s.pixelsDone e (32 + t) (sWidth x.session * sHeight x.session)
        (if s.encClass t = 1 then some (le x.session 60 2) else none)
      (s.endPic t p 0 (bits.length % 2 ^ 32 + at' * 2 ^ 32)).showEnc t

/-! ### The choice of work (R392) -/

/-- Work that could run on an engine: its class, deadline, age and stream. -/
structure Ready where
  work : CodecWork
  cls : Nat
  deadline : Nat
  age : Nat
  stream : Nat
  deriving DecidableEq, Repr

/-- The ready pictures of an engine, one of each stream: the oldest, when none of the stream is on an engine. -/
def readyFor (s : State) (e : Nat) : List Ready :=
  if e < 8 then
    (List.range 32).filterMap (fun x =>
      if h : x < 32 then
        let busy := (List.range 8).any (fun k => ((s.cdc k).running.map (decOf x)).getD false || ((s.cdc k).stopped.map (decOf x)).getD false)
        if busy then none
        else if s.strmKind x = 1 then
          if (s.strm x).engine ≠ some e then none
          else (s.strm x).units.head?.map (fun u => ⟨.dec ⟨x, h⟩ u.seq, 1, u.deadline, u.readyNo, x⟩)
        else
          let f := (s.strm x).frames.find? (fun f => f.needPic && !f.waiting && f.slot.isSome &&
            (recOf f.records 0).any (fun r => r.type == 7))
          f.map (fun f => ⟨.dec ⟨x, h⟩ f.seq, s.workClass (.dec ⟨x, h⟩ f.seq), 0, f.readyNo, x⟩)
      else none)
  else
    (List.range 8).filterMap (fun t =>
      if h : t < 8 then
        let busy := [8, 9].any (fun k => ((s.cdc k).running.map (encOf t)).getD false || ((s.cdc k).stopped.map (encOf t)).getD false)
        if busy || !s.encOn t || (s.encClass t == 1 && (s.encS t).engine != e) then none
        else (s.encS t).pics.head?.map (fun p => ⟨.enc ⟨t, h⟩ p.id, s.encClass t, pd p 5 0 64, p.id, t⟩)
      else none)

def pickBy (key : Ready → Nat) (l : List Ready) : Option Ready :=
  l.foldl (fun b r => match b with
    | none => some r
    | some q => if key r < key q then some r else b) none

/-- The next work: a live picture by deadline, the oldest interactive one, a batch stream in rotation. -/
def chooseWork (s : State) (e : Nat) (liveOnly : Bool) : Option Ready :=
  let l := s.readyFor e
  let last := (s.cdc e).lastBatch
  match pickBy (fun r => r.deadline) (l.filter (fun r => r.cls == 1)) with
  | some r => some r
  | none =>
    if liveOnly then none
    else match pickBy (fun r => r.age) (l.filter (fun r => r.cls == 2)) with
      | some r => some r
      | none => pickBy (fun r => (r.stream + 32 - (last + 1) % 32) % 32) (l.filter (fun r => r.cls == 3))

/-- An engine takes up a piece of work; a stream without a reservation moves to it (R390). -/
def takeWork (s : State) (e : Nat) (r : Ready) : State :=
  let last := if r.cls = 3 then r.stream else (s.cdc e).lastBatch
  have s := s.setCdc e { s.cdc e with lastBatch := last }
  match r.work with
  | .dec x n =>
    have s := if r.cls = 1 then s
      else (List.range 8).foldl (fun s k => if k = e then s
        else (s.setCdc k { s.cdc k with bound := (s.cdc k).bound.filter (fun y => y != x.val) }).showEng k) s
    let c := s.cdc e
    (s.setCdc e { c with running := some (.dec x n), bound := if c.bound.contains x.val then c.bound else x.val :: c.bound }).showEng e
  | .enc t n =>
    match (s.encS t.val).pics.find? (fun p => p.id == n) with
    | none => s
    | some p =>
      have s := if r.cls = 1 ∨ (s.encS t.val).engine = e then s
        else
          let o := (s.encS t.val).engine
          ((s.setCdc o { s.cdc o with bound := (s.cdc o).bound.filter (fun y => y != t.val) }).showEng o).bindEnc t.val e
      s.startPic e t.val p

/-! ### Instance reset (R402) -/

def resetCodec (s : State) (i : Nat) : State :=
  have s := (List.range 8).foldl (fun s t =>
    have s := s.setEncS t { s.encS t with pics := (s.encS t).pics.filter (fun p => p.inst != i) }
    if s.encOwner t ≠ i then s
    else
      have s := (s.unbind [8, 9] t (encOf t)).setEncS t EncStream.reset
      have s := s.setFld (R.CDC_ENC_CFG t) F.CDC_ENC_CFG_enable 0
      (s.setFld (R.CDC_ENC_STATUS t) F.CDC_ENC_STATUS_key_pending 0).showEnc t) s
  have s := s.setMedia { s.media with encCpl := s.media.encCpl.set 0 i 0 }
  have s := s.setRingFld true i (R.ING_RING_CFG 0) F.ING_RING_CFG_enable 0
  have s := s.setRingFld true i (R.ING_RING_HEAD 0) F.ING_RING_HEAD_head 0
  (s.setRingFld true i (R.ING_RING_TAIL 0) F.ING_RING_TAIL_tail 0).showEncRings

/-- A write of CDC_ENC_KEY (R398): requests before the next picture's start count once. -/
def requestKey (s : State) (t v : Nat) : State :=
  if v % 2 = 0 ∨ s.fld (R.CDC_ENC_STATUS t) F.CDC_ENC_STATUS_key_pending = 1 then s
  else (s.setFld (R.CDC_ENC_STATUS t) F.CDC_ENC_STATUS_key_pending 1).inc (R.CDC_ENC_KEYS t)

end State

/-! ### Commands -/

/-- CDC_RING_TAIL (R396): the doorbell of instance `i`'s encode ring. -/
def execCdcRingTail (req : Requester) (i : InstId) (tail : W32) (s : State) : Out :=
  let off := R.CDC_RING_TAIL i.val
  if s.reach req off then .next (s.writeMediaTail true i.val (tail.toNat % 4096)) else .next (s.regRefused req off)

/-- PICTURE_DESCRIPTOR (R396): the next descriptor of the encode ring is checked and waits at its stream. -/
def execPictureDescriptor (i : InstId) (s : State) : Out :=
  match s.mediaFetch true i.val 64 with
  | none => .next s
  | some (idx, n, s) =>
    let d := BitVec.ofNat 512 n
    let st := s.picCheck i.val d
    if st ≠ 0 then
      .next ((s.mediaCpl true i.val idx st 0).doneSem (bitsOf n 384 16) (.engine 9 4) i.val (s.gen i.val))
    else
      let t := bitsOf n 8 3
      let p : EncPic := ⟨s.media.nextId, i.val, idx, s.gen i.val, d, false, false⟩
      have s := s.setMedia { s.media with nextId := s.media.nextId + 1 }
      .next ((s.setEncS t { s.encS t with pics := (s.encS t).pics ++ [p] }).showEncRings)

/-- ENCODE_STREAM_ENABLE (R395): a write of CDC_ENC_CFG. -/
def execEncodeStreamEnable (req : Requester) (t : EncId) (val : W32) (s : State) : Out :=
  let off := R.CDC_ENC_CFG t.val
  if s.reach req off then .next (s.writeEncCfg t.val val.toNat) else .next (s.regRefused req off)

/-- KEY_PICTURE_REQUEST (R398): a write of CDC_ENC_KEY. -/
def execKeyPictureRequest (req : Requester) (t : EncId) (val : W32) (s : State) : Out :=
  let off := R.CDC_ENC_KEY t.val
  if s.reach req off then .next (s.requestKey t.val val.toNat) else .next (s.regRefused req off)

/-- PICTURE_BOUNDARY (R392): an engine's running encode picture is finished, then it chooses its next work; stopped work
resumes once no live picture is ready. A decode ends by DECODE_COMPLETE. -/
def execPictureBoundary (e : EngId) (s : State) : Out :=
  let e := e.val
  have s := match (s.cdc e).running with
    | some (.enc t n) => (match (s.encS t.val).pics.find? (fun p => p.id == n) with
      | some p => s.finishPic e t.val p
      | none => s.engineDone e)
    | _ => s
  if (s.cdc e).running.isSome then .next s
  else
    match (s.cdc e).stopped with
    | some w =>
      (match s.chooseWork e true with
       | some r => .next (s.takeWork e r)
       | none => .next ((s.setCdc e { s.cdc e with running := some w, stopped := none }).showEng e))
    | none =>
      match s.chooseWork e false with
      | some r => .next (s.takeWork e r)
      | none => .next s

/-- BLOCK_ROW_PREEMPT (R392): running work of another class stops at its block row when a live picture is ready, which
then starts. -/
def execBlockRowPreempt (e : EngId) (s : State) : Out :=
  let e := e.val
  match (s.cdc e).running, s.chooseWork e true with
  | some w, some r =>
    if s.workClass w = 1 ∨ (s.cdc e).stopped.isSome then .next s
    else .next (((s.setCdc e { s.cdc e with running := none, stopped := some w }).takeWork e r).showEng e)
  | _, _ => .next s

/-- ENCODE_LIVE_LATE (R399): a live picture of stream `t` whose deadline passed before its bitstream was written is not
coded. -/
def execEncodeLiveLate (t : EncId) (pts : Nat) (s : State) : Out :=
  if s.encClass t.val ≠ 1 then .next s
  else match (s.encS t.val).pics.find? (fun p => State.pd p 4 0 64 == pts) with
    | none => .next s
    | some p => .next ((s.endPic t.val p 0x54 0).inc (R.CDC_ENC_LIVE_LATE t.val))

end Sys2Proof.Machine
end

