-- ==== Sys2Proof/Machine/Power.lean ====
section
/-! DEFINITION. Power inputs, the power and thermal controller, die clocks and the loss of reference clocks (R432 to R435). -/
namespace Sys2Proof.Machine
namespace State

def onB (s : State) : Bool := decide (s.fld R.PWR_INPUT_STATUS F.PWR_INPUT_STATUS_on_b = 1)
def tdp (s : State) : Nat := s.fld R.PWR_CAP F.PWR_CAP_tdp_w
def backupCap (s : State) : Nat := s.fld R.PWR_CAP F.PWR_CAP_backup_w

/-- The effective cap: the backup cap while on B (R432). -/
def effCap (s : State) : Nat := if s.onB then s.backupCap else s.tdp

/-- The variant's peak limit and its highest TDP in W (R4). -/
def isAC (s : State) : Bool := decide (s.fld R.GLB_MODULE_ID F.GLB_MODULE_ID_variant = 2)
def peakLimit (s : State) : Nat := if s.isAC then 1000 else 2000
def tdpMax (s : State) : Nat := if s.isAC then 900 else 1800

/-- The TDP and backup cap that a request sets, clamped (R4, R5, R351): a clamp on an AC module is logged. -/
def setCap (s : State) (tdpReq backupReq : Nat) : State :=
  let t := clampTo 700 s.tdpMax tdpReq
  let b := if backupReq = 0 then t * 60 / 100 else min backupReq t
  have s := (s.setFld R.PWR_CAP F.PWR_CAP_tdp_w t).setFld R.PWR_CAP F.PWR_CAP_backup_w b
  if s.isAC && decide (tdpReq > 900) then s.log 2 0x88 uPower (value := tdpReq % 2 ^ 16 + t * 2 ^ 16) else s

/-! ### Die clocks -/

def dieMhz (s : State) (d : Nat) : Nat := s.fld (R.PWR_DIE_STATUS d) F.PWR_DIE_STATUS_mhz

/-- The request as it acts: rounded down to 25 MHz, between 600 and 1,600. -/
def dieReq (s : State) (d : Nat) : Nat :=
  clampTo 600 1600 (s.fld (R.PWR_DIE_REQ d) F.PWR_DIE_REQ_req_mhz / 25 * 25)

/-- GLB_STATUS.throttled and each die's limited bit follow the grants (R434). -/
def showThrottle (s : State) : State :=
  have s := (List.range 4).foldl (fun s d =>
    s.setFld (R.PWR_DIE_STATUS d) F.PWR_DIE_STATUS_limited (if s.dieMhz d < s.dieReq d then 1 else 0)) s
  s.setFld R.GLB_STATUS F.GLB_STATUS_throttled (if (List.range 4).any (fun d => decide (s.dieMhz d < s.dieReq d)) then 1 else 0)

/-- A die's new grant; its voltage comes from the table fused into the part (R435). -/
def setDieMhz (s : State) (d mhz : Nat) : State :=
  have s := s.setFld (R.PWR_DIE_STATUS d) F.PWR_DIE_STATUS_mhz mhz
  s.setFld (R.PWR_DIE_STATUS d) F.PWR_DIE_STATUS_mv (600 + Config.dieMillivolts d mhz % 401)

/-- The neighbour pairs of R435. -/
def dieNeighbours : List (Nat × Nat) := [(0, 1), (2, 3), (0, 2), (1, 3)]

/-- Rule 4 of R435: a die more than 2.5 times as fast as a neighbour is lowered to the highest step within the ratio. The
slower die already runs as fast as its own limits and request allow. -/
def boundRatio (s : State) : State :=
  (List.range 2).foldl (fun s _ => dieNeighbours.foldl (fun s p =>
    let (x, y) := p
    let cap := fun lo => lo * 5 / 2 / 25 * 25
    if s.dieMhz y > 0 ∧ s.dieMhz x > cap (s.dieMhz y) then s.setDieMhz x (cap (s.dieMhz y))
    else if s.dieMhz x > 0 ∧ s.dieMhz y > cap (s.dieMhz x) then s.setDieMhz y (cap (s.dieMhz x))
    else s) s) s

/-- One step down, not below 600 MHz. -/
def lowerDie (s : State) (d : Nat) : State :=
  if s.dieMhz d > 600 then s.setDieMhz d (s.dieMhz d - 25) else s

/-- Dies by their draw in a sample, the largest first; ties to the lower die. -/
def byDraw (draws : List Nat) : List Nat :=
  let ins := fun (d : Nat) (l : List Nat) =>
    let w := draws[d]?.getD 0
    l.takeWhile (fun e => decide (draws[e]?.getD 0 > w)) ++ [d] ++ l.dropWhile (fun e => decide (draws[e]?.getD 0 > w))
  [3, 2, 1, 0].foldl (fun l d => ins d l) []

/-- A cut: every die above 600 MHz one step down, the largest draw first (R433). -/
def cut (s : State) : State :=
  have s := (byDraw s.pwr.lastDraws).foldl (fun s d => s.lowerDie d) s
  ((s.boundRatio.showThrottle).inc R.PWR_THROTTLE_EVENTS).alarmEvent 8

/-- The minimum draw of R432: die clocks stopped, PWR_GOOD low. -/
def minimumDraw (s : State) : State :=
  have s := { s with pwr := { s.pwr with minimum := true, pwrGood := false } }
  (List.range 4).foldl (fun s d => s.setFld (R.PWR_DIE_STATUS d) F.PWR_DIE_STATUS_mhz 0) s

/-- The dies unpowered: clocks, voltages and temperatures read 0 (R431, R434). -/
def diesOff (s : State) : State :=
  (List.range 4).foldl (fun s d => s.setReg (R.PWR_DIE_STATUS d) 0) s

/-- FAILED with a code (R431). -/
def failModule (s : State) (code : Nat) : State :=
  have s := { s with pwr := { s.pwr with pwrGood := false } }
  (s.setModState 0xF).setFld R.PWR_BOOT_STATUS F.PWR_BOOT_STATUS_fail_code code

/-- A FATAL event whose snapshot must precede what the module does next: the writer takes it at once. -/
def fatalNow (s : State) (code : Nat) (u : LogUnit) : State :=
  s.takeEntry { time := s.time, seq := 0, cls := 0, code := code, unitType := u.type, unitDie := u.die, index := u.index,
                inst := none, gen := 0, count := 1, last := 0, flood := false, addr := 0, pc := 0, peer := 0, value := 0 }

/-! ### Inputs -/

/-- Good between 46.0 and 59.5 V; failed below 44.0 or above 60.0 V (R432), in units of 10 mV. -/
def goodCv (cv : Nat) : Bool := decide (4600 ≤ cv ∧ cv ≤ 5950)
def failedCv (cv : Nat) : Bool := decide (cv < 4400 ∨ cv > 6000)

/-- A transfer between the inputs: the status bits, the count and the log (R432). -/
def transfer (s : State) (toB : Bool) : State :=
  let v := if toB then 1 else 0
  have s := s.setFld R.PWR_INPUT_STATUS F.PWR_INPUT_STATUS_on_b v
  have s := s.setFld R.PWR_INPUT_STATUS F.PWR_INPUT_STATUS_timer 0
  have s := s.setFld R.GLB_STATUS F.GLB_STATUS_on_input_b v
  (s.inc R.PWR_TRANSFERS).log (if toB then 2 else 3) 0x89 uPower (value := v)

end State

/-- INPUT_A_FAIL (R432). -/
def execInputAFail (cv : Nat) (s : State) : Out :=
  if State.failedCv cv then
    have s := s.setFld R.PWR_INPUT_V F.PWR_INPUT_V_a_cv cv
    have s := s.setFld R.PWR_INPUT_STATUS F.PWR_INPUT_STATUS_a_good 0
    have s := { s with pwr := { s.pwr with aFailed := true } }
    if s.onB then .next s
    else if s.pwr.bFailed then .next s.minimumDraw
    else .next (s.transfer true)
  else .next s

/-- INPUT_A_GOOD: A in the good band; while on B the stability timer starts or restarts (R432). -/
def execInputAGood (cv : Nat) (s : State) : Out :=
  if State.goodCv cv then
    have s := s.setFld R.PWR_INPUT_V F.PWR_INPUT_V_a_cv cv
    have s := s.setFld R.PWR_INPUT_STATUS F.PWR_INPUT_STATUS_a_good 1
    have s := { s with pwr := { s.pwr with aFailed := false } }
    if s.onB then .next (s.setFld R.PWR_INPUT_STATUS F.PWR_INPUT_STATUS_timer 1) else .next s
  else .next s

/-- INPUT_A_GOOD_BAND_DEPARTURE: A is not good; a running timer starts again from its beginning and cannot end before A is
good (R432). -/
def execInputAGoodBandDeparture (cv : Nat) (s : State) : Out :=
  if State.goodCv cv then .next s
  else .next ((s.setFld R.PWR_INPUT_V F.PWR_INPUT_V_a_cv cv).setFld R.PWR_INPUT_STATUS F.PWR_INPUT_STATUS_a_good 0)

/-- SWITCH_BACK_TIMER: 500 ms of good A end while on B (R432). -/
def execSwitchBackTimer (s : State) : Out :=
  if s.onB && decide (s.fld R.PWR_INPUT_STATUS F.PWR_INPUT_STATUS_timer = 1) &&
      decide (s.fld R.PWR_INPUT_STATUS F.PWR_INPUT_STATUS_a_good = 1) then .next (s.transfer false)
  else .next s

/-- INPUT_B_FAIL (R432). -/
def execInputBFail (cv : Nat) (s : State) : Out :=
  if State.failedCv cv then
    have s := s.setFld R.PWR_INPUT_V F.PWR_INPUT_V_b_cv cv
    have s := s.setFld R.PWR_INPUT_STATUS F.PWR_INPUT_STATUS_b_good 0
    have s := { s with pwr := { s.pwr with bFailed := true } }
    if s.onB then
      if s.pwr.aFailed then .next s.minimumDraw else .next (s.transfer false)
    else .next (s.log 2 0x8A ⟨10, 4, 1⟩ (value := cv))
  else .next s

/-- BOTH_INPUTS_FAIL (R432). -/
def execBothInputsFail (s : State) : Out :=
  have s := s.setFld R.PWR_INPUT_STATUS F.PWR_INPUT_STATUS_a_good 0
  have s := s.setFld R.PWR_INPUT_STATUS F.PWR_INPUT_STATUS_b_good 0
  have s := { s with pwr := { s.pwr with aFailed := true, bFailed := true } }
  .next s.minimumDraw

/-- POWER_SAMPLE: the sample and the 1 s mean are shown; a broken limit cuts the clocks (R433). -/
def execPowerSample (sampleW meanW : Nat) (draws : List Nat) (s : State) : Out :=
  have s := (s.setFld R.PWR_POWER F.PWR_POWER_sample_w sampleW).setFld R.PWR_POWER F.PWR_POWER_mean_w meanW
  let run := if sampleW > s.tdp then s.pwr.peakRun + 1 else 0
  have s := { s with pwr := { s.pwr with lastDraws := draws, peakRun := run } }
  have s := if sampleW > s.peakLimit then s.inc R.PWR_PEAK_EVENTS else s
  if sampleW > s.peakLimit ∨ meanW > s.effCap ∨ (s.onB = true ∧ sampleW > s.backupCap) then .next s.cut
  else .next s

/-- PEAK_RUN_LIMIT: 1,000 samples above the TDP in succession are 10 ms (R433). -/
def execPeakRunLimit (s : State) : Out :=
  if s.pwr.peakRun ≥ 1000 then .next ({ s with pwr := { s.pwr with peakRun := 0 } }).cut else .next s

/-- Whether a die may be raised: below its request, not above its throttle point, and not the hotter of two neighbours more
than 30 °C apart (R434, R435). -/
def State.mayRaise (s : State) (d : Nat) : Bool :=
  let t := fun d => s.fld (R.PWR_DIE_STATUS d) F.PWR_DIE_STATUS_temp_c
  decide (0 < s.dieMhz d) && decide (s.dieMhz d < s.dieReq d) &&
  decide (t d ≤ State.clampTo 70 105 (s.fld R.PWR_THERM_CFG F.PWR_THERM_CFG_throttle_c)) &&
  State.dieNeighbours.all (fun p => !((decide (p.1 = d) && decide (t d > t p.2 + 30)) ||
    (decide (p.2 = d) && decide (t d > t p.1 + 30))))

/-- CLOCK_RAISE: with a margin of 3 % on every limit, each die below its request goes up one step, the smallest draw
first (R433). -/
def execClockRaise (s : State) : Out :=
  let p := s.fld R.PWR_POWER F.PWR_POWER_sample_w
  let m := s.fld R.PWR_POWER F.PWR_POWER_mean_w
  if 100 * p ≤ 97 * s.effCap ∧ 100 * m ≤ 97 * s.effCap then
    have s := (State.byDraw s.pwr.lastDraws).reverse.foldl (fun s d =>
      if s.mayRaise d then (s.setDieMhz d (min (s.dieReq d) (s.dieMhz d + 25))).boundRatio else s) s
    .next s.showThrottle
  else .next s

/-- THERMAL_SAMPLE (R434). -/
def execThermalSample (temps : List Nat) (s : State) : Out :=
  let t := fun d => temps[d]?.getD 0
  have s := (List.range 4).foldl (fun s d => s.setFld (R.PWR_DIE_STATUS d) F.PWR_DIE_STATUS_temp_c (t d)) s
  let shut := State.clampTo 95 120 (s.fld R.PWR_THERM_CFG F.PWR_THERM_CFG_shutdown_c)
  let thr := State.clampTo 70 105 (s.fld R.PWR_THERM_CFG F.PWR_THERM_CFG_throttle_c)
  if (List.range 4).any (fun d => decide (t d > shut)) then
    have s := s.fatalNow 0x87 State.uPower
    have s := { s with pwr := { s.pwr with thermLow := true } }
    .next (s.diesOff.failModule 0x87)
  else
    let hot := fun d => decide (t d > thr) || State.dieNeighbours.any (fun p =>
      (decide (p.1 = d) && decide (t d > t p.2 + 30)) || (decide (p.2 = d) && decide (t d > t p.1 + 30)))
    have s := (List.range 4).foldl (fun s d => if hot d then s.lowerDie d else s) s
    .next s.boundRatio.showThrottle

/-- A new clock request and the grant that follows (R435): a lower request acts at once; a higher one is granted unless
the die is held below its old request. -/
def State.writeDieReq (s : State) (d v : Nat) : State :=
  let free := decide (s.dieMhz d ≥ s.dieReq d)
  have s := s.setFld (R.PWR_DIE_REQ d) F.PWR_DIE_REQ_req_mhz v
  have s := if s.dieMhz d = 0 then s
    else if free || decide (s.dieReq d < s.dieMhz d) then s.setDieMhz d (s.dieReq d)
    else s
  s.boundRatio.showThrottle

/-- DIE_REQUEST (R435). -/
def execDieRequest (req : Requester) (d : DieId) (mhz : Nat) (s : State) : Out :=
  if s.reach req (R.PWR_DIE_REQ d.val) then .next (s.writeDieReq d.val mhz)
  else .next (s.regRefused req (R.PWR_DIE_REQ d.val))

/-- PCIE_REFCLK_LOSS: FATAL, dies stopped, FAILED (R435). -/
def execPcieRefclkLoss (s : State) : Out :=
  .next (((s.fatalNow 0x85 State.uPower).diesOff).failModule 0x85)

end Sys2Proof.Machine
end

