-- ==== Sys2Proof/Machine/Conv.lean ====
section
/-! DEFINITION. Convolutions in the array (R197 to R209) and the window operations (R210 to R214). A window operation runs in
one step. -/
namespace Sys2Proof.Machine
namespace State

/-! ### Convolutions -/

/-- Reserved bits of a convolution descriptor (R208). -/
def convReserved (d : BitVec 1024) : Bool :=
  decide (xw d 0 32 32 ≠ 0 ∨ xw d 5 27 1 ≠ 0 ∨ xw d 5 31 1 ≠ 0 ∨ xw d 5 40 24 ≠ 0 ∨ xw d 6 32 32 ≠ 0 ∨ xw d 10 13 3 ≠ 0 ∨
    xw d 10 19 13 ≠ 0 ∨ xw d 15 16 48 ≠ 0) ||
  [1, 2, 3, 13].any (fun w => decide (xw d w 48 16 ≠ 0)) || [11, 12, 14].any (fun w => decide (xw d w 0 64 ≠ 0))

/-- Strides, dilations and sizes outside their ranges (R200, R208). -/
def windowRanges (v : ConvP) : Bool :=
  let out := fun (lo hi x : Nat) => decide (x < lo ∨ hi < x)
  out 1 16384 v.inW || out 1 16384 v.inH || v.inC == 0 || v.outC == 0 || out 1 8 v.sy || out 1 8 v.sx || out 1 4 v.dy ||
  out 1 4 v.dx || out 1 8 v.iy || out 1 8 v.ix

/-- The input row that a virtual row reads: clamped under replicate padding; none is a zero (R198, R201). -/
def inputRow (v : ConvP) (vy : Int) : Option Nat :=
  if v.replicate then some (min (v.inH - 1) vy.toNat)
  else if 0 ≤ vy ∧ vy < (virtSize v.inH v.iy : Nat) ∧ vy.toNat % v.iy = 0 then some (vy.toNat / v.iy)
  else none

/-- A row that the band needs lies outside the stored rows (R207). -/
def bandBad (v : ConvP) : Bool :=
  decide (v.outH < (v.row0 + v.rows : Nat)) ||
  (List.range v.rows).any (fun j => (List.range v.kh).any (fun u =>
    match inputRow v (((v.row0 + j) * v.sy + u * v.dy : Nat) - (v.pt : Int)) with
    | some r => decide (r < v.inRow0 ∨ v.inRow0 + v.inRows ≤ r)
    | none => false))

/-- The line buffers cannot hold a pass's lines (R204). -/
def linesBad (p : Prod) : Bool :=
  let v := p.conv
  let ch := min v.inC (cdiv 127 (v.kh * v.kw) + 1)
  let lp := cdiv p.passM (max 1 v.outW.toNat) * v.sy + v.dy * (v.kh - 1) + 1
  decide (256 * 1024 * 8 < ch * lp * v.inW * p.fmtA.bits)

/-- Strides that are no multiples of the element size (R209). -/
def stridesBad (p : Prod) : Bool :=
  let v := p.conv
  let off := fun (bits x : Nat) => decide (8 ≤ bits) && decide (x % (bits / 8) ≠ 0)
  let outer := if p.kind = 2 then p.fmtW.bits else p.cBits
  let inner := if p.kind = 2 then p.cBits else p.fmtW.bits
  off p.fmtA.bits v.xRow || off p.fmtA.bits v.xPlane || off outer v.cRow || off outer v.cPlane || off inner p.wS

/-- The checks of a convolution, in order (R200, R209, R414). -/
def convCheck (s : State) (c : Nat) (it : MxItem) : Nat :=
  let p := convProd it.desc
  let v := p.conv
  let inside := (s.cRange p :: s.readRanges p).all (fun r => inPocket c r.1 (r.2 - r.1))
  if convReserved it.desc || windowRanges v || fmtsBad p || p.isMx || decide (v.rows = 0 ∨ v.inRows = 0 ∨ p.passM = 0 ∨
      4096 < p.passM ∨ 5 < p.loA) then 0x02
  else if v.kh = 0 ∨ v.kw = 0 then 0x02
  else if 15 < v.kh ∨ 15 < v.kw then 0x15
  else if v.outH < 1 ∨ v.outW < 1 then 0x14
  else if (v.replicate && decide (1 < v.iy ∨ 1 < v.ix)) || bandBad v || linesBad p || stridesBad p || !inside || s.productBad c p
  then 0x02
  else if s.semForeign (instOf it.owner) p.sem then 0x65
  else 0

/-- A convolution descriptor at the head starts when its mode is the command's. -/
def startConv (s : State) (c : Nat) (mode : Nat) : State :=
  match s.headMx c with
  | none => s
  | some it =>
    if xw it.desc 0 0 8 ≠ 0x24 ∨ xw it.desc 0 8 1 ≠ mode then s
    else
      have s := s.popMx c
      if s.oldMx it then s
      else match s.convCheck c it with
        | 0 => (s.setFld (R.CORE_CWU_STATUS c) F.CORE_CWU_STATUS_busy 1).startJob c it
        | st => s.recordMx c it st

/-- The lines that a pass needs: address and bytes of each input row of each channel that its tile touches (R204). -/
def passLines (p : Prod) (x : Pass) : List (Nat × Nat) :=
  let v := p.conv
  let ow := max 1 v.outW.toNat
  let last := min (128 * x.kT + 127) (p.wk - 1)
  let srcs := x.rows.map Prod.fst
  let pix := if p.kind = 1 then (srcs.headD 0, srcs.getLastD 0) else (128 * x.kT, last)
  let tap := if p.kind = 1 then (128 * x.kT, last) else (srcs.headD 0, srcs.getLastD 0)
  let lo : Int := ((v.row0 + pix.1 / ow) * v.sy : Nat) - (v.pt : Int)
  let n := ((pix.2 / ow - pix.1 / ow) * v.sy + v.dy * (v.kh - 1) + 1)
  let rows := ((List.range n).filterMap (fun (j : Nat) =>
    let vy : Int := lo + (j : Int)
    if 0 ≤ vy ∧ vy < (virtSize v.inH v.iy : Nat) ∧ vy.toNat % v.iy = 0 then some (vy.toNat / v.iy) else none))
  let c0 := tap.1 / (v.kh * v.kw)
  let c1 := tap.2 / (v.kh * v.kw)
  (List.range (c1 + 1 - c0)).flatMap (fun j => rows.map (fun r =>
    (p.a + (c0 + j) * v.xPlane + (r - v.inRow0) * v.xRow, cdiv (v.inW * p.fmtA.bits) 8)))

/-! ### Window operations -/

/-- The fields of a window descriptor (R210); its window and padding as those of a convolution. -/
structure WinD where
  op : Nat
  f : Nat
  countPad : Bool
  relu : Bool
  factor : Nat
  x : Nat
  y : Nat
  win : ConvP
  elements : Nat
  capacity : Nat
  sem : Nat
  deriving DecidableEq, Repr

def winDOf (d : BitVec 1024) : WinD :=
  let w := xw d
  let inH := w 3 16 16
  let v : ConvP :=
    { inW := w 3 0 16, inH := inH, inC := w 3 32 16, outC := w 3 32 16, kh := w 4 0 8, kw := w 4 8 8, sy := w 4 16 4,
      sx := w 4 20 4, dy := w 4 24 3, dx := w 4 28 3, iy := w 4 32 4, ix := w 4 36 4, pt := w 5 0 8, pb := w 5 8 8,
      pl := w 5 16 8, pr := w 5 24 8, replicate := bitOf d.toNat 18, xRow := w 6 0 32, xPlane := w 6 32 32, cRow := w 7 0 32,
      cPlane := w 7 32 32, row0 := 0, rows := inH, inRow0 := 0, inRows := inH }
  { op := w 0 8 4, f := w 0 12 4, countPad := bitOf d.toNat 16, relu := bitOf d.toNat 17, factor := 2 ^ w 0 20 2,
    x := w 1 0 48, y := w 2 0 48, win := v, elements := w 8 0 48, capacity := w 9 0 32, sem := w 15 0 16 }

def winReserved (d : BitVec 1024) : Bool :=
  decide (xw d 0 19 1 ≠ 0 ∨ xw d 0 22 42 ≠ 0 ∨ xw d 1 48 16 ≠ 0 ∨ xw d 2 48 16 ≠ 0 ∨ xw d 4 27 1 ≠ 0 ∨ xw d 4 31 1 ≠ 0 ∨
    xw d 4 40 24 ≠ 0 ∨ xw d 5 32 32 ≠ 0 ∨ xw d 8 48 16 ≠ 0 ∨ xw d 9 32 32 ≠ 0 ∨ xw d 15 16 48 ≠ 0) ||
  [10, 11, 12, 13, 14].any (fun w => decide (xw d w 0 64 ≠ 0))

def WinD.fmt (d : WinD) : Fmt := (Fmt.ofCode d.f).getD .fp32

/-- Output channels, rows and columns of an op. -/
def WinD.outDims (d : WinD) : Nat × Nat × Nat :=
  let v := d.win
  match d.op with
  | 0 | 1 => (v.inC, v.outH.toNat, v.outW.toNat)
  | 2 => (v.inC * d.factor * d.factor, v.inH / d.factor, v.inW / d.factor)
  | _ => (v.inC / (d.factor * d.factor), v.inH * d.factor, v.inW * d.factor)

/-- The ranges of the source and of the destination. -/
def WinD.ranges (d : WinD) : (Nat × Nat) × (Nat × Nat) :=
  let v := d.win
  let b := d.fmt.bits
  let (oc, oh, ow) := d.outDims
  if d.op < 4 then
    ((d.x, (v.inC - 1) * v.xPlane + (v.inH - 1) * v.xRow + cdiv (v.inW * b) 8),
     (d.y, (oc - 1) * v.cPlane + (oh - 1) * v.cRow + cdiv (ow * b) 8))
  else if d.op = 4 then ((d.x, d.elements * (b / 8)), (d.y, d.capacity))
  else ((d.x, d.capacity), (d.y, d.elements * (b / 8)))

/-- The checks of R210: any failure is BAD_FIELD; then R414. -/
def winCheck (s : State) (c : Nat) (it : MxItem) : Nat :=
  let d := winDOf it.desc
  let v := d.win
  let narrow := decide (d.fmt.bits < 8)
  let planar := decide (v.inW = 0 ∨ 16384 < v.inW ∨ v.inH = 0 ∨ 16384 < v.inH ∨ v.inC = 0)
  let pool := windowRanges v || decide (v.iy ≠ 1 ∨ v.ix ≠ 1 ∨ v.kh = 0 ∨ v.kw = 0 ∨ 15 < v.kh ∨ 15 < v.kw) ||
    decide (v.outH < 1 ∨ v.outW < 1)
  let shape := if d.op < 2 then pool
    else if d.op = 2 then planar || d.factor == 1 || decide (v.inH % d.factor ≠ 0 ∨ v.inW % d.factor ≠ 0)
    else if d.op = 3 then planar || d.factor == 1 || decide (v.inC % (d.factor * d.factor) ≠ 0)
    else false
  let (src, dst) := d.ranges
  if winReserved it.desc || decide (5 < d.op) || (Fmt.ofCode d.f).isNone || d.fmt.isMx || (narrow && d.op != 2 && d.op != 3) ||
      shape || !inPocket c src.1 src.2 || !inPocket c dst.1 dst.2 then 0x02
  else if s.semForeign (instOf it.owner) d.sem then 0x65
  else 0

/-- The taps of a pooling window in ascending (u, v): the bit address of an in-image tap, or of its nearest element under
replicate padding; whether it is in the image. -/
def poolTaps (d : WinD) (ch y x : Nat) : List (Option Nat × Bool) :=
  let v := d.win
  (List.range v.kh).flatMap (fun u => (List.range v.kw).map (fun t =>
    let vy : Int := (y * v.sy + u * v.dy : Nat) - (v.pt : Int)
    let vx : Int := (x * v.sx + t * v.dx : Nat) - (v.pl : Int)
    let inside := decide (0 ≤ vy ∧ vy < v.inH ∧ 0 ≤ vx ∧ vx < v.inW)
    let iy := min (v.inH - 1) vy.toNat
    let ix := min (v.inW - 1) vx.toNat
    (if inside || v.replicate then some (8 * (d.x + ch * v.xPlane + iy * v.xRow) + ix * d.fmt.bits) else none, inside)))

/-- One pooled value (R211). -/
def poolValue (s : State) (d : WinD) (taps : List (Option Nat × Bool)) : W32 :=
  let val := fun (o : Option Nat) => match o with
    | some x => d.fmt.value (s.cellAt d.fmt.bits x)
    | none => .zero false
  if d.op = 0 then
    match (taps.filter (fun t => t.2)).map (fun t => val t.1) with
    | [] => 0
    | a :: rest => toFp32 (rest.foldl FVal.max a)
  else
    let n := if d.countPad then d.win.kh * d.win.kw else (taps.filter (fun t => t.2)).length
    if n = 0 then 0
    else fp32Mul (fp32Chain (taps.map (fun t => toFp32 (val t.1)))) (fp32Recip (fp32Nat n))

/-- The source element of an output element of ops 2 and 3 (R212). -/
def regroup (d : WinD) (ch y x : Nat) : Nat :=
  let f := d.factor
  let (c, iy, ix) :=
    if d.op = 2 then (ch / (f * f), f * y + ch / f % f, f * x + ch % f)
    else ((ch * f + y % f) * f + x % f, y / f, x / f)
  8 * (d.x + c * d.win.xPlane + iy * d.win.xRow) + ix * d.fmt.bits

/-- Elements written by plain cells. -/
def putCells (s : State) (w : Nat) (l : List (Nat × Nat)) : State :=
  l.foldl (fun s e =>
    let (a, n) := cellRange w e.1
    let old := s.natAt a n
    s.putNat a n (old - old / 2 ^ (e.1 % 8) % 2 ^ w * 2 ^ (e.1 % 8) + e.2 % 2 ^ w * 2 ^ (e.1 % 8))) s

/-- One output row of ops 0 to 3: status, failing address, the state after it. -/
def windowRow (s : State) (c : Nat) (it : MxItem) (d : WinD) (ch y : Nat) : Nat × Nat × State :=
  let e := mxEng c it
  let b := d.fmt.bits
  let (_, _, ow) := d.outDims
  let dst := fun x => 8 * (d.y + ch * d.win.cPlane + y * d.win.cRow) + x * b
  let reads := if d.op < 2 then (List.range ow).flatMap (fun x => (poolTaps d ch y x).map Prod.fst)
    else (List.range ow).map (fun x => some (regroup d ch y x))
  match s.cellsStatus e b reads, s.writesStatus e b ((List.range ow).map dst) with
  | (0, _), (0, _) =>
    let res := (List.range ow).map (fun x =>
      if d.op < 2 then
        let v := s.poolValue d (poolTaps d ch y x)
        let (bits, ev) := cvtElem d.fmt ⟨false, 1, 0⟩ 0 (ofFp32 v)
        (bits, ev.join { nonfinite := fp32NonFinite v })
      else (s.cellAt b (regroup d ch y x), ({} : FpEv)))
    have s := s.fpEvent c 0 (FpEv.joinAll (res.map Prod.snd))
    (0, 0, (s.putCells b (((List.range ow).map dst).zip (res.map Prod.fst))).add64 (R.CORE_CWU_OUTPUTS c) ow)
  | (0, _), (st, a) => (st, a, s)
  | (st, a), _ => (st, a, s)

/-- Ops 0 to 3, output row by output row. -/
def runPlanar (s : State) (c : Nat) (it : MxItem) (d : WinD) : Nat × Nat × State :=
  let (oc, oh, _) := d.outDims
  (List.range oc).foldl (fun st ch => (List.range oh).foldl (fun (st : Nat × Nat × State) y =>
    if st.1 ≠ 0 then st else st.2.2.windowRow c it d ch y) st) (0, 0, s)

/-- The tokens of a packed stream (R213): the maximal zero run, then the maximal run of other elements, each at most
65,535. -/
def packTokens (isZero : Nat → Bool) (bytes : Nat) : Nat → List Nat → List Byte
  | 0, _ => []
  | _, [] => []
  | fuel + 1, l =>
    let z := (l.takeWhile isZero).take 65535
    let l := l.drop z.length
    let lit := (l.takeWhile (fun v => !isZero v)).take 65535
    bytesOf (z.length + lit.length * 2 ^ 16) 4 ++ lit.flatMap (fun v => bytesOf v bytes) ++
      packTokens isZero bytes fuel (l.drop lit.length)

/-- Pack (R213, R214). -/
def runPack (s : State) (c : Nat) (it : MxItem) (d : WinD) : Nat × Nat × State :=
  let e := mxEng c it
  let n := d.fmt.bits / 8
  match s.engReadSt e d.x (d.elements * n) with
  | 0 =>
    let raw := (List.range d.elements).map (fun k => s.natAt (d.x + k * n) n)
    let els := if d.relu then raw.map (fun v => (cvtElem d.fmt ⟨false, 1, 0⟩ 0 ((d.fmt.value v).max (.zero false))).1) else raw
    let zero := fun v => (d.fmt.value v).isZero
    let body := bytesOf (d.elements + (n.log2) * 2 ^ 48) 8 ++ packTokens zero n (d.elements + 1) els
    let stream := body ++ List.replicate (64 * cdiv body.length 64 - body.length) 0
    let out := stream.take d.capacity
    (match s.engWriteSt e d.y out.length with
     | 0 =>
       have s := (s.putBytes d.y out).setReg (R.CORE_CWU_LAST_BYTES c) (BitVec.ofNat 64 (stream.length % 2 ^ 32))
       have s := s.add64 (R.CORE_CWU_OUTPUTS c) (els.filter (fun v => !zero v)).length
       (if stream.length > d.capacity then 0x1D else 0, 0, s)
     | st => (st, d.y, s))
  | st => (st, d.x, s)

/-- Unpack (R213, R214): from stream offset `pos` with `k` elements written. -/
def unpackFrom (c : Nat) (it : MxItem) (d : WinD) : Nat → State → Nat → Nat → Nat × Nat × State
  | 0, s, _, _ => (0, 0, s)
  | fuel + 1, s, pos, k =>
    let e := mxEng c it
    let n := d.fmt.bits / 8
    if k ≥ d.elements then (0, 0, s)
    else if d.capacity < pos + 4 then (0x1E, 0, s)
    else match s.engReadSt e (d.x + pos) 4 with
      | 0 =>
        let z := s.natAt (d.x + pos) 2
        let l := s.natAt (d.x + pos + 2) 2
        if (z = 0 ∧ l = 0) ∨ d.elements < k + z + l ∨ d.capacity < pos + 4 + l * n then (0x1E, 0, s)
        else match s.engReadSt e (d.x + pos + 4) (l * n), s.engWriteSt e (d.y + k * n) ((z + l) * n) with
          | 0, 0 =>
            let lit := s.bytesAt (d.x + pos + 4) (l * n)
            have s := (s.putBytes (d.y + k * n) (List.replicate (z * n) 0 ++ lit)).add64 (R.CORE_CWU_OUTPUTS c) (z + l)
            unpackFrom c it d fuel s (pos + 4 + l * n) (k + z + l)
          | 0, st => (st, d.y + k * n, s)
          | st, _ => (st, d.x + pos + 4, s)
      | st => (st, d.x + pos, s)

/-- The window descriptor at the head runs when its op is the command's; a reserved op ends by its checks under op 0's. -/
def runWindow (s : State) (c : CoreId) (op : Nat) : State :=
  match s.headMx c.val with
  | none => s
  | some it =>
    let d := winDOf it.desc
    if xw it.desc 0 0 8 ≠ 0x25 ∨ (d.op ≠ op ∧ ¬(op = 0 ∧ 5 < d.op)) then s
    else
      have s := s.popMx c.val
      if s.oldMx it then s
      else match s.winCheck c.val it with
        | 0 =>
          let r := if op < 4 then s.runPlanar c.val it d
            else if op = 4 then s.runPack c.val it d
            else unpackFrom c.val it d (d.elements + 1) s 8 0
          (if r.1 = 0 then r.2.2 else r.2.2.engFail (mxEng c.val it) r.1 r.2.1).recordMx c.val it r.1
        | st => s.recordMx c.val it st

end State

/-! ### Commands -/

/-- CONVOLUTION (R198): opcode 0x24, mode 0. -/
def execConvolution (c : CoreId) (s : State) : Out := .next (s.startConv c.val 0)
/-- WEIGHT_GRADIENT (R206): mode 1. -/
def execWeightGradient (c : CoreId) (s : State) : Out := .next (s.startConv c.val 1)

/-- LINE_FETCH (R204): the lines of the next pass are fetched into the line window that is free; a 1 × 1 filter fetches
none (R203). -/
def execLineFetch (c : CoreId) (s : State) : Out :=
  match (s.arr c.val).job with
  | none => .next s
  | some j =>
    let p := State.prodOfItem j.item
    match j.passes[j.linesTo]? with
    | none => .next s
    | some x =>
      if p.kind = 0 ∨ (p.conv.kh = 1 ∧ p.conv.kw = 1) ∨ j.cur + 1 < j.linesTo ∨ j.abortAt.isSome then .next s
      else
        let ls := State.passLines p x
        match s.rangesStatus (State.mxEng c.val j.item) ls with
        | (0, _) => .next ((s.add64 (R.CORE_CWU_LINE_BYTES c.val) (ls.map Prod.snd).sum).setJob c.val
            { j with linesTo := j.linesTo + 1 })
        | (st, a) => .next (s.failJob c.val j st a)

/-- MAX_POOL (R211): opcode 0x25, op 0. -/
def execMaxPool (c : CoreId) (s : State) : Out := .next (s.runWindow c 0)
/-- AVERAGE_POOL (R211): op 1. -/
def execAveragePool (c : CoreId) (s : State) : Out := .next (s.runWindow c 1)
/-- SPACE_TO_DEPTH (R212): op 2. -/
def execSpaceToDepth (c : CoreId) (s : State) : Out := .next (s.runWindow c 2)
/-- DEPTH_TO_SPACE (R212): op 3. -/
def execDepthToSpace (c : CoreId) (s : State) : Out := .next (s.runWindow c 3)
/-- PACK (R213): op 4. -/
def execPack (c : CoreId) (s : State) : Out := .next (s.runWindow c 4)
/-- UNPACK (R213): op 5. -/
def execUnpack (c : CoreId) (s : State) : Out := .next (s.runWindow c 5)

end Sys2Proof.Machine
end

