-- ==== Sys2Proof/Machine/Seam.lean ====
section
/-! DEFINITION. The Seam engines (R287 to R305): groups, ownership, the stages of a collective, flow control, failures. -/
namespace Sys2Proof.Machine

/-! ### Groups (R289, R290) -/

/-- A group as its record gives it. -/
structure Grp where
  dies : List Nat
  home : Nat
  sizes : Nat × Nat × Nat
  place : Nat × Nat × Nat
  record : List Byte
  deriving DecidableEq, Repr

def recNat (b : List Byte) (lo n : Nat) : Nat := natOfBytes ((b.drop lo).take n)

/-- A record that keeps to the table of R289. -/
def grpOf (b : List Byte) : Option Grp :=
  let f := recNat b
  let ok := decide (0 < f 0 1 ∧ f 0 1 < 16 ∧ f 1 1 < 4) && decide (1 ≤ f 2 1 ∧ f 2 1 ≤ 8 ∧ f 3 1 < f 2 1) &&
    decide (1 ≤ f 4 1 ∧ f 4 1 ≤ 8 ∧ f 5 1 < f 4 1) && decide (1 ≤ f 6 2 ∧ f 6 2 ≤ 128 ∧ f 8 2 < f 6 2) &&
    decide (f 10 54 = 0) && (b.drop 2368).all (fun x => x == 0)
  if ok then some ⟨bitList (f 0 1) 4, f 1 1, (f 2 1, f 4 1, f 6 2), (f 3 1, f 5 1, f 8 2), b⟩ else none

namespace Grp

/-- Stage sizes: 0 die, 1 tray, 2 pod, 3 inter-pod. -/
def size (g : Grp) : Nat → Nat
  | 0 => g.dies.length | 1 => g.sizes.1 | 2 => g.sizes.2.1 | _ => g.sizes.2.2
/-- This module's place in a stage. -/
def own (g : Grp) : Nat → Nat
  | 0 => 0 | 1 => g.place.1 | 2 => g.place.2.1 | _ => g.place.2.2
def modules (g : Grp) : Nat := g.size 1 * g.size 2 * g.size 3
/-- The place of a group rank in a stage. -/
def coord (g : Grp) (r : Nat) : Nat → Nat
  | 0 => 0 | 1 => r % g.size 1 | 2 => r / g.size 1 % g.size 2 | _ => r / (g.size 1 * g.size 2)
/-- r = (q × P + p) × T + t. -/
def rank (g : Grp) : Nat := (g.own 3 * g.size 2 + g.own 2) * g.size 1 + g.own 1
def peers (g : Grp) (st : Nat) : List Nat := (List.range (g.size st)).filter (fun r => r != g.own st)
/-- The session to a stage peer for a die. -/
def sess (g : Grp) (st r d : Nat) : Nat :=
  recNat g.record ((match st with
    | 1 => 64
    | 2 => 192
    | _ => 320) + 16 * r + 4 * d) 4
/-- The column of sessions for data that belongs to no die: the first die of the mask (DESIGN CHOICE, log entry 38). -/
def col (g : Grp) : Nat := (g.dies.head?).getD 0

end Grp

/-! ### Ownership (R294) -/

/-- Split of a block range. -/
def splitRange (x : Nat × Nat) (n r : Nat) : Nat × Nat :=
  (x.1 + r * (x.2 - x.1) / n, x.1 + (r + 1) * (x.2 - x.1) / n)

/-- The block range of die rank `e` after the splits of stages 0 to `lvl` − 1. -/
def ownRange (g : Grp) (bytes e : Nat) : Nat → Nat × Nat
  | 0 => (0, cdiv bytes 256)
  | lvl + 1 => splitRange (ownRange g bytes e lvl) (g.size lvl) (if lvl = 0 then e else g.own lvl)

/-- The bytes of a block range. -/
def byteRange (bytes : Nat) (x : Nat × Nat) : Nat × Nat := (min bytes (256 * x.1), min bytes (256 * x.2))
def rangeLen (bytes : Nat) (x : Nat × Nat) : Nat := (byteRange bytes x).2 - (byteRange bytes x).1

/-- The part of a run of bytes that starts at block `lo` which a block range covers. -/
def sliceOf (bytes lo : Nat) (run : List Byte) (x : Nat × Nat) : List Byte :=
  (run.drop ((byteRange bytes x).1 - min bytes (256 * lo))).take (rangeLen bytes x)

/-! ### The descriptor (R292, R293) -/

namespace SeamDesc
def coll (d : BitVec 1024) : Nat := xw d 0 8 3
def red (d : BitVec 1024) : Nat := xw d 0 11 2
def fmt (d : BitVec 1024) : Nat := xw d 0 16 4
def grad (d : BitVec 1024) : Bool := bitOf d.toNat 20
def group (d : BitVec 1024) : Nat := xw d 0 24 4
def gradSeq (d : BitVec 1024) : Nat := xw d 0 32 8
def src (d : BitVec 1024) (k : Nat) : Nat := xw d (1 + k) 0 48
def dst (d : BitVec 1024) (k : Nat) : Nat := xw d (5 + k) 0 48
def bytes (d : BitVec 1024) : Nat := xw d 9 0 40
def root (d : BitVec 1024) : Nat := xw d 10 0 13
def entries (d : BitVec 1024) : Nat := xw d 10 32 32
def table (d : BitVec 1024) : Nat := xw d 11 0 48
def scratch (d : BitVec 1024) : Nat := xw d 12 0 48
def scratchBytes (d : BitVec 1024) : Nat := xw d 13 0 40
def sem (d : BitVec 1024) : Nat := xw d 15 0 16
def reduces (d : BitVec 1024) : Bool := decide (coll d ≤ 1)

/-- Reserved bits and values that need no group. -/
def bad (d : BitVec 1024) : Bool :=
  decide (xw d 0 13 3 ≠ 0 ∨ xw d 0 21 3 ≠ 0 ∨ xw d 0 28 4 ≠ 0 ∨ xw d 0 40 24 ≠ 0 ∨ xw d 9 40 24 ≠ 0 ∨ xw d 10 13 19 ≠ 0 ∨
    xw d 11 48 16 ≠ 0 ∨ xw d 12 48 16 ≠ 0 ∨ xw d 13 40 24 ≠ 0 ∨ xw d 14 0 64 ≠ 0 ∨ xw d 15 16 48 ≠ 0) ||
  (List.range 8).any (fun k => decide (xw d (1 + k) 48 16 ≠ 0)) ||
  decide (5 < coll d ∨ red d = 3) || (!reduces d && decide (red d ≠ 0 ∨ fmt d ≠ 0)) ||
  (reduces d && (addSize (fmt d)).isNone) ||
  (grad d && (!reduces d || decide (red d ≠ 0 ∨ fmt d = 4 ∨ fmt d = 5))) ||
  (reduces d && decide (bytes d % (addSize (fmt d)).getD 1 ≠ 0)) ||
  (coll d == 5 && decide (entries d = 0 ∨ 65536 < entries d ∨ table d % 16 ≠ 0))
end SeamDesc

/-- An entry of a permute table (R301). -/
structure PermEntry where
  addr : Nat
  peer : Nat
  incoming : Bool
  bytes : Nat
  bad : Bool
  deriving DecidableEq, Repr

def permEntry (n : Nat) : PermEntry :=
  ⟨bitsOf n 0 48, bitsOf n 48 13, bitOf n 61, bitsOf n 64 40, decide (bitsOf n 62 2 ≠ 0 ∨ bitsOf n 104 24 ≠ 0 ∨ bitsOf n 64 40 = 0)⟩

/-- The stages of a collective in order: 0 reduce, 1 gather, 2 forward, 3 finish; with the stage's number (R295). Stages
of size 1 are skipped (R290). -/
def seamStages (g : Grp) (coll : Nat) : List (Nat × Nat) :=
  let all := match coll with
    | 0 => [(0, 0), (0, 1), (0, 2), (0, 3), (1, 3), (1, 2), (1, 1), (3, 0)]
    | 1 => [(0, 0), (0, 1), (0, 2), (0, 3), (3, 0)]
    | 2 => [(1, 3), (1, 2), (1, 1), (3, 0)]
    | _ => [(2, 3), (2, 2), (2, 1), (3, 0)]
  all.filter (fun x => x.2 == 0 || decide (1 < g.size x.2))

/-- Data of a chunk at most: with its header a message is one transaction of 64 KiB (DESIGN CHOICE, log entry 38). -/
def chunkMax : Nat := 65504

/-- Bytes as chunks in ascending offset order (R298). -/
def seamChunks (peer die bytes : Nat) (data : List Byte) : List SeamChunk :=
  (List.range (cdiv data.length chunkMax)).map (fun k => ⟨peer, die, bytes, k * chunkMax, (data.drop (k * chunkMax)).take chunkMax⟩)

/-- Keys of the grant counters. -/
def seamKey (st r d : Nat) : Nat := st * 65536 + r * 4 + d

/-- Combination of two runs of elements (R296): the result, and what it reports. -/
def seamCombine (fmt op : Nat) (a b : List Byte) : List Byte × AddRep :=
  let n := (addSize fmt).getD 1
  let r := ((elemsOf n a).zip (elemsOf n b)).map (fun e => addElem fmt fmt op e.1 e.2)
  (r.flatMap (fun e => bytesOf e.1 n), ⟨r.any (fun e => e.2.1), (r.filter (fun e => e.2.2)).length⟩)

/-- Contributions combined in rank order, from rank 0's (R296). -/
def seamFold (fmt op : Nat) (l : List (List Byte)) : List Byte × AddRep :=
  match l with
  | [] => ([], ⟨false, 0⟩)
  | x :: xs => xs.foldl (fun a y =>
      let (r, p) := seamCombine fmt op a.1 y
      (r, ⟨a.2.nonfinite || p.nonfinite, a.2.wraps + p.wraps⟩)) (x, ⟨false, 0⟩)

/-- The sum of squares of a piece (R299). -/
def seamSquares (fmt : Nat) (b : List Byte) : W32 :=
  let f : Fmt := if fmt = 0 then .fp32 else if fmt = 1 then .fp16 else .bf16
  lambSum ((elemsOf ((addSize fmt).getD 4) b).map (fun x => toFp32 (f.value x)))

/-- The header of a Seam message (R298). -/
def seamHeader (d : BitVec 1024) (inst gen rank die call type st bytes arg : Nat) : List Byte :=
  bytesOf (SeamDesc.group d + inst * 16) 1 ++ bytesOf type 1 ++ bytesOf (st + SeamDesc.coll d * 8) 1 ++
  bytesOf (SeamDesc.red d + SeamDesc.fmt d * 16) 1 ++ bytesOf gen 2 ++ bytesOf (rank % 2 ^ 13 + die * 2 ^ 13) 2 ++
  bytesOf call 8 ++ bytesOf bytes 8 ++ bytesOf arg 8

namespace State

/-! ### Items and groups -/

def seamQ (s : State) (d : Nat) : List SeamItem := s.seam.get [] d
def setSeamQ (s : State) (d : Nat) (q : List SeamItem) : State := ({ s with seam := s.seam.set [] d q }).showSeam d
def seamItem (s : State) (d id : Nat) : Option SeamItem := (s.seamQ d).find? (fun it => it.id == id)
def putSeam (s : State) (d : Nat) (it : SeamItem) : State :=
  s.setSeamQ d ((s.seamQ d).map (fun x => if x.id = it.id then it else x))

def groupOf (s : State) (i g : Nat) : Option Grp :=
  if s.regBit (R.SEAM_GRP_BASE i g) 48 then grpOf (s.seamGroups.get [] (16 * i + g)) else none

def seamInst (it : SeamItem) : Nat := (instOf it.owner).getD 0
def seamDesc (it : SeamItem) : BitVec 1024 := it.desc.getD 0
def seamItemEng (s : State) (d : Nat) (it : SeamItem) : Eng :=
  engOf it.owner ((s.carrier it.origin).bind (fun x => x.snap)) ⟨4, d, d⟩

/-- Grants that a stage peer has given this module's item for a die. -/
def granted (s : State) (it : SeamItem) (st r d : Nat) : Nat :=
  ((s.seamNotes.filter (fun n => n.inst == seamInst it && n.group == SeamDesc.group (seamDesc it) && n.call == it.call &&
    n.abort.isNone && n.stage == st && n.peer == r && n.die == d)).map (fun n => n.count)).sum

/-- A message to a stage peer; false where no transaction entry is free. -/
def sendSeam (s : State) (d : Nat) (g : Grp) (it : SeamItem) (st r die type bytes arg : Nat) (data : List Byte) : Bool × State :=
  let k := g.sess st r die
  let i := seamInst it
  if h : k < 4096 then
    let msg := seamHeader (seamDesc it) i (s.gen i) g.rank die it.call type st bytes arg ++ data
    let inst : Option InstId := it.owner.inst
    let home : DieId := ⟨d % 4, by omega⟩
    match s.startTxn ⟨⟨k, h⟩, if type = 1 then 1 else 0, 7, 1, 0, 0, msg, false, none, home⟩ (.seam home it.id) inst (s.gen i) with
    | some s' => (true, s'.add64 (R.SEAM_ENG_BYTES die) data.length)
    | none => (false, s)
  else (true, s.putSeam d { it with fail := some 0x36 })

/-! ### The end of an item (R303) -/

/-- ABORT goes to every stage peer. -/
def sendAborts (s : State) (d : Nat) (g : Grp) (it : SeamItem) (code : Nat) : State :=
  [1, 2, 3].foldl (fun s st => (g.peers st).foldl (fun s r =>
    (s.sendSeam d g it st r g.col 3 (SeamDesc.bytes (seamDesc it)) code []).2) s) s

/-- A destination range after a failure: its contents are undefined, hence free values. -/
def scramble (s : State) (e : Eng) (a n : Nat) : State :=
  if n = 0 ∨ s.engWriteSt e a n ≠ 0 then s
  else
    let (v, s) := s.fresh
    s.putBytes a (bytesOf v n)

/-- The destination ranges of an item. -/
def seamDsts (s : State) (g : Grp) (it : SeamItem) : List (Nat × Nat) :=
  let d := seamDesc it
  let b := SeamDesc.bytes d
  let named := (List.range 4).filter (fun k => SeamDesc.dst d k != 0)
  match SeamDesc.coll d with
  | 1 => ((List.range g.dies.length).zip g.dies).filterMap (fun e =>
      if SeamDesc.dst d e.2 = 0 then none else some (SeamDesc.dst d e.2, rangeLen b (ownRange g b e.1 4)))
  | 4 => [(SeamDesc.dst d 0, b)]
  | 5 => ((List.range (SeamDesc.entries d)).map (fun k => permEntry (s.natAt (SeamDesc.table d + 16 * k) 16))).filterMap (fun p =>
      if p.incoming then some (p.addr, p.bytes) else none)
  | _ => named.map (fun k => (SeamDesc.dst d k, b))

/-- An item's gradient sums join its instance's vote record in grad_seq order (R299). -/
def addGrad (s : State) (it : SeamItem) : State :=
  let d := seamDesc it
  if !SeamDesc.grad d then s
  else
    let v := s.vote (seamInst it)
    let q := SeamDesc.gradSeq d
    let e := (q, it.normSq, it.localSq)
    let sums := v.gradSums.filter (fun x => decide (x.1 ≤ q)) ++ [e] ++ v.gradSums.filter (fun x => decide (q < x.1))
    s.setVote (seamInst it) { v with gradSums := sums }

/-- An item leaves its engine with a status; the carrying item reports it. -/
def dropSeam (s : State) (d : Nat) (it : SeamItem) (st : Nat) : State :=
  have s := s.setSeamQ d ((s.seamQ d).filter (fun x => x.id != it.id))
  have s := s.setFld (R.SEAM_ENG_STATUS d) F.SEAM_ENG_STATUS_last_status st
  have s := s.add64 (R.SEAM_ENG_ITEMS d) 1
  s.finishItem it.origin st 0 (match it.desc with
    | some x => SeamDesc.sem x
    | none => 0xFFFF) (.engine 4 d) it.owner

/-- A started item ends: a failure is passed to its peers and leaves its destinations undefined once data has moved. -/
def endSeam (s : State) (d : Nat) (g : Grp) (it : SeamItem) (st : Nat) (moved : Bool) : State :=
  have s := if st = 0 then s.addGrad it else s.sendAborts d g it st
  have s := if st ≠ 0 && moved then
      (s.seamDsts g it).foldl (fun s r => s.scramble (s.seamItemEng d it) r.1 r.2) s else s
  let g' := SeamDesc.group (seamDesc it)
  have s := { s with seamNotes := s.seamNotes.filter (fun n =>
    !(n.inst == seamInst it && n.group == g' && n.call == it.call)) }
  s.dropSeam d it st

/-! ### Starting (R288, R291, R293) -/

/-- HBM and Overcast, and for a permute the deep tier; an unmapped address is left to its access. -/
def seamPlace (s : State) (coll a : Nat) : Bool :=
  match s.region a with
  | .hbm _ => true
  | .ovc _ => true
  | .deep _ => coll == 5
  | .none => true
  | _ => false

/-- The scratch area of R297 for a reduction. -/
def seamScratch (g : Grp) : Nat := 65536 * (([0, 1, 2, 3].map g.size).foldl max 1 - 1) * g.dies.length

/-- The permute table. -/
def permTable (s : State) (d : BitVec 1024) : List PermEntry :=
  (List.range (SeamDesc.entries d)).map (fun k => permEntry (s.natAt (SeamDesc.table d + 16 * k) 16))

/-- Outgoing entries that an incoming range overlaps (R302). -/
def overlapped (t : List PermEntry) : List PermEntry :=
  t.filter (fun o => !o.incoming && t.any (fun i => i.incoming && decide (o.addr < i.addr + i.bytes ∧ i.addr < o.addr + o.bytes)))

/-- The checks of R293 that need the group and the machine. -/
def seamCheck (s : State) (e : Eng) (g : Grp) (d : BitVec 1024) : Nat :=
  let b := SeamDesc.bytes d
  let c := SeamDesc.coll d
  let places := match c with
    | 3 => SeamDesc.src d 0 :: (List.range 4).map (SeamDesc.dst d)
    | 4 => [SeamDesc.src d 0, SeamDesc.dst d 0]
    | 5 => []
    | _ => g.dies.map (SeamDesc.src d) ++ (List.range 4).map (SeamDesc.dst d)
  let needed := decide (SeamDesc.scratchBytes d ≠ 0)
  if SeamDesc.bad d || places.any (fun a => a != 0 && !s.seamPlace c a) || (SeamDesc.reduces d && decide (SeamDesc.scratchBytes d < seamScratch g)) ||
      (c == 3 && decide (g.modules ≤ SeamDesc.root d)) || (c == 4 && decide (b % (256 * g.modules) ≠ 0)) ||
      (needed && !(s.seamPlace 0 (SeamDesc.scratch d))) then 0x02
  else if s.semForeign e.inst (SeamDesc.sem d) then 0x65
  else if c = 5 then
    match s.engReadSt e (SeamDesc.table d) (16 * SeamDesc.entries d) with
    | 0 =>
      let t := s.permTable d
      if t.any (fun p => p.bad || decide (g.modules ≤ p.peer) || !s.seamPlace 5 p.addr) ||
          decide (SeamDesc.scratchBytes d < ((overlapped t).map (fun p => p.bytes)).sum) then 0x02 else 0
    | st => st
  else 0

/-- Blocks of an all-to-all or a permute at their source; the first failing read. Overlapped blocks of a permute are copied
to scratch, one after another (R302). -/
def seamInit (s : State) (d : Nat) (g : Grp) (it : SeamItem) : Nat × Nat × State :=
  let x := seamDesc it
  let e := s.seamItemEng d it
  match SeamDesc.coll x with
  | 2 =>
    let parts := ((List.range g.dies.length).zip g.dies).map (fun p =>
      (p.1, SeamDesc.src x p.2, rangeLen (SeamDesc.bytes x) (ownRange g (SeamDesc.bytes x) p.1 4)))
    (match parts.find? (fun p => s.engReadSt e p.2.1 p.2.2 != 0) with
     | some p => (s.engReadSt e p.2.1 p.2.2, p.2.1, s)
     | none => (0, 0, s.putSeam d { it with work := parts.map (fun p => (p.1, s.bytesAt p.2.1 p.2.2)) }))
  | 3 =>
    if SeamDesc.root x ≠ g.rank then (0, 0, s)
    else
      let a := SeamDesc.src x 0
      (match s.engReadSt e a (SeamDesc.bytes x) with
       | 0 => (0, 0, s.putSeam d { it with work := [(0, s.bytesAt a (SeamDesc.bytes x))] })
       | st => (st, a, s))
  | 4 =>
    let a := SeamDesc.src x 0
    let bs := SeamDesc.bytes x / g.modules
    (match s.engReadSt e a (SeamDesc.bytes x) with
     | 0 => (0, 0, s.putSeam d { it with blocks := (List.range g.modules).map (fun j => ⟨g.rank, j, s.bytesAt (a + j * bs) bs⟩) })
     | st => (st, a, s))
  | 5 =>
    let t := s.permTable x
    let outs := t.filter (fun p => !p.incoming)
    (match outs.find? (fun p => s.engReadSt e p.addr p.bytes != 0) with
     | some p => (s.engReadSt e p.addr p.bytes, p.addr, s)
     | none =>
       let copies := (overlapped t).flatMap (fun p => s.bytesAt p.addr p.bytes)
       let blocks : List SeamBlock := outs.map (fun p => ⟨g.rank, p.peer, s.bytesAt p.addr p.bytes⟩)
       (match s.engWriteSt e (SeamDesc.scratch x) copies.length with
        | 0 => (0, 0, (s.putBytes (SeamDesc.scratch x) copies).putSeam d { it with blocks := blocks })
        | st => (st, SeamDesc.scratch x, s)))
  | _ => (0, 0, s)

/-! ### Stages -/

/-- Places from which a stage of this item receives: peer, die, and the bytes expected where they are known. -/
def seamSources (g : Grp) (it : SeamItem) (kind st : Nat) : List (Nat × Nat × Option Nat) :=
  let x := seamDesc it
  let b := SeamDesc.bytes x
  let cols := (List.range g.dies.length).zip g.dies
  if kind = 0 then (g.peers st).flatMap (fun r => cols.map (fun e => (r, e.2, some (rangeLen b (ownRange g b e.1 (st + 1))))))
  else if kind = 1 then (g.peers st).flatMap (fun r => cols.map (fun e =>
    (r, e.2, some (rangeLen b (splitRange (ownRange g b e.1 st) (g.size st) r)))))
  else match SeamDesc.coll x with
    | 3 =>
      let root := SeamDesc.root x
      let part := [1, 2, 3].all (fun j => decide (st ≤ j) || g.own j == g.coord root j)
      if part && g.own st != g.coord root st then [(g.coord root st, g.col, some b)] else []
    | 4 => (g.peers st).map (fun r =>
        (r, g.col, some (b / g.modules * ((List.range g.modules).filter (fun q =>
            [1, 2, 3].all (fun j => decide (st < j) || g.coord q j == (if j = st then r else g.own j)))).length *
          ((List.range g.modules).filter (fun q => [1, 2, 3].all (fun j => decide (j < st) || g.coord q j == g.own j))).length)))
    | _ => (g.peers st).map (fun r => (r, g.col, none))

/-- Pairs of source and destination rank, in order, of the blocks that a peer `r` of a stage sends here (R295). -/
def seamPairs (g : Grp) (st r : Nat) : List (Nat × Nat) :=
  let srcs := (List.range g.modules).filter (fun q =>
    [1, 2, 3].all (fun j => decide (st < j) || g.coord q j == (if j = st then r else g.own j)))
  let dsts := (List.range g.modules).filter (fun q => [1, 2, 3].all (fun j => decide (j < st) || g.coord q j == g.own j))
  srcs.flatMap (fun a => dsts.map (fun b => (a, b)))

/-- The blocks that leave for a peer of a stage, in source and destination order. -/
def seamLeaving (g : Grp) (it : SeamItem) (st r : Nat) : List SeamBlock :=
  let mine := it.blocks.filter (fun k => g.coord k.dst st == r)
  if SeamDesc.coll (seamDesc it) = 5 then mine
  else (List.range g.modules).flatMap (fun a => (List.range g.modules).flatMap (fun b =>
    mine.filter (fun k => k.src == a && k.dst == b)))

/-- The chunks that a stage sends. A permuted block's chunks carry its ranks in front of their data, and an empty chunk
ends the stage's blocks for a peer (DESIGN CHOICE, log entry 38). -/
def seamOut (g : Grp) (it : SeamItem) (kind st : Nat) : List SeamChunk :=
  let x := seamDesc it
  let b := SeamDesc.bytes x
  let cols := (List.range g.dies.length).zip g.dies
  let workOf := fun (e : Nat) => ((it.work.find? (fun w => w.1 == e)).map Prod.snd).getD []
  if kind = 0 then (g.peers st).flatMap (fun r => cols.flatMap (fun e =>
    let range := ownRange g b e.1 st
    seamChunks r e.2 b (sliceOf b range.1 (workOf e.1) (splitRange range (g.size st) r))))
  else if kind = 1 then (g.peers st).flatMap (fun r => cols.flatMap (fun e => seamChunks r e.2 b (workOf e.1)))
  else match SeamDesc.coll x with
    | 3 =>
      let root := SeamDesc.root x
      let part := [1, 2, 3].all (fun j => decide (st ≤ j) || g.own j == g.coord root j)
      if part && g.own st == g.coord root st then (g.peers st).flatMap (fun r => seamChunks r g.col b (workOf 0)) else []
    | 4 => (g.peers st).flatMap (fun r => seamChunks r g.col b ((seamLeaving g it st r).flatMap (fun k => k.data)))
    | _ => (g.peers st).flatMap (fun r =>
        (seamLeaving g it st r).flatMap (fun k => (seamChunks r g.col k.data.length k.data).map (fun c =>
          { c with data := bytesOf k.dst 4 ++ bytesOf k.src 4 ++ c.data })) ++ [⟨r, g.col, 0, 0, []⟩])

def seamGot (it : SeamItem) (r d : Nat) : List SeamChunk := it.inbox.filter (fun c => c.peer == r && c.die == d)

/-- Chunks of a source consumed: in a reduction a chunk waits for those of the lower ranks (R296). -/
def seamConsumed (g : Grp) (it : SeamItem) (kind st r d : Nat) : Nat :=
  if kind = 0 then (((g.peers st).filter (fun q => decide (q ≤ r))).map (fun q => (seamGot it q d).length)).foldl min
    (seamGot it r d).length
  else (seamGot it r d).length

/-- GRANTs: one slot at the start, and one for each chunk consumed (R298). -/
def seamGrant (s : State) (d : Nat) (g : Grp) (it : SeamItem) (kind st : Nat) : State :=
  (seamSources g it kind st).foldl (fun s src =>
    match s.seamItem d it.id with
    | none => s
    | some it =>
      let key := seamKey st src.1 src.2.1
      let want := 1 + seamConsumed g it kind st src.1 src.2.1
      let have' := it.given.get 0 key
      if want ≤ have' then s
      else
        let (ok, t) := s.sendSeam d g it st src.1 src.2.1 2 (SeamDesc.bytes (seamDesc it)) (want - have') []
        match ok, t.seamItem d it.id with
        | true, some it => t.putSeam d { it with given := it.given.set 0 key want }
        | _, _ => t) s

/-- Chunks that the peers' grants allow are sent, in order for each peer. -/
def seamSend (s : State) (d : Nat) (g : Grp) (id st : Nat) : Nat → State
  | 0 => s
  | fuel + 1 =>
    match s.seamItem d id with
    | none => s
    | some it =>
      let ok := fun (c : SeamChunk) => decide (it.used.get 0 (seamKey st c.peer c.die) < s.granted it st c.peer c.die)
      match findPos ok it.out with
      | none => s
      | some k =>
        match it.out[k]? with
        | none => s
        | some c =>
          let (sent, t) := s.sendSeam d g it st c.peer c.die 1 c.bytes c.arg c.data
          if !sent then s
          else match t.seamItem d id with
            | none => t
            | some it =>
              let key := seamKey st c.peer c.die
              seamSend (t.putSeam d { it with out := dropAt it.out k, used := it.used.set 0 key (it.used.get 0 key + 1) }) d g id st fuel

/-- Whether a stage has sent everything and received everything. -/
def seamDone (g : Grp) (it : SeamItem) (kind st : Nat) : Bool :=
  it.out.isEmpty && (seamSources g it kind st).all (fun src => match src.2.2 with
    | some n => decide (((seamGot it src.1 src.2.1).map (fun c => c.data.length)).sum ≥ n)
    | none => (seamGot it src.1 src.2.1).any (fun c => c.bytes == 0))

/-- The blocks that chunks spell: each begins at offset 0 and carries its ranks. -/
def seamBlocks : List SeamChunk → List SeamBlock
  | [] => []
  | c :: rest =>
    let next := seamBlocks rest
    if c.bytes = 0 then next
    else
      let body := c.data.drop 8
      if c.arg = 0 then
        let more := rest.takeWhile (fun k => decide (k.arg ≠ 0))
        ⟨recNat c.data 4 4, recNat c.data 0 4, body ++ more.flatMap (fun k => k.data.drop 8)⟩ :: next
      else next

/-- Bytes cut into pieces of one length. -/
def cutAll (n : Nat) (k : Nat) (b : List Byte) : List (List Byte) := (List.range k).map (fun j => (b.drop (j * n)).take n)

/-- The non-finite and wrapped results of an engine (R66, R252, R296). -/
def seamReport (s : State) (it : SeamItem) (die : Nat) (r : AddRep) : State :=
  let i := seamInst it
  have s := if r.nonfinite then
      have s := s.setRegBit (R.SEAM_ENG_FLAGS die) (8 + i) true
      if it.owner.voteExcl then s else s.setRegBit (R.SEAM_ENG_FLAGS die) i true
    else s
  if r.wraps = 0 then s else s.addSat (R.SEAM_ENG_INT_WRAPS die) r.wraps

/-- The die stage of a reduction: every die's piece from all dies' buffers; the failing read, if any. -/
def seamDieStage (s : State) (d : Nat) (g : Grp) (it : SeamItem) : Nat × Nat × State :=
  let x := seamDesc it
  let b := SeamDesc.bytes x
  let e := s.seamItemEng d it
  match g.dies.find? (fun k => s.engReadSt e (SeamDesc.src x k) b != 0) with
  | some k => (s.engReadSt e (SeamDesc.src x k) b, SeamDesc.src x k, s)
  | none =>
    let pieces := ((List.range g.dies.length).zip g.dies).map (fun p =>
      let r := byteRange b (ownRange g b p.1 1)
      (p.1, p.2, seamFold (SeamDesc.fmt x) (SeamDesc.red x) (g.dies.map (fun k => s.bytesAt (SeamDesc.src x k + r.1) (r.2 - r.1)))))
    have s := pieces.foldl (fun s p => s.seamReport it p.2.1 p.2.2.2) s
    have s := pieces.foldl (fun s p => s.add64 (R.SEAM_ENG_BYTES p.2.1)
      ((g.dies.length - 1) * p.2.2.1.length + (b - p.2.2.1.length))) s
    let lsq := (pieces.map (fun p => seamSquares (SeamDesc.fmt x) p.2.2.1))
    (0, 0, s.putSeam d { it with
      work := pieces.map (fun p => (p.1, p.2.2.1)), localSq := if SeamDesc.grad x then fp32SumFrom lsq else 0 })

/-- A stage closes: the working bytes or blocks after it. -/
def seamClose (s : State) (d : Nat) (g : Grp) (it : SeamItem) (kind st : Nat) : State :=
  let x := seamDesc it
  let b := SeamDesc.bytes x
  let cols := (List.range g.dies.length).zip g.dies
  let workOf := fun (e : Nat) => ((it.work.find? (fun w => w.1 == e)).map Prod.snd).getD []
  let recv := fun (r die : Nat) => (seamGot it r die).flatMap (fun c => c.data)
  let used := (seamSources g it kind st).foldl (fun (t : Tbl Nat) src =>
    let key := seamKey st src.1 src.2.1
    t.set 0 key (t.get 0 key + 1)) it.used
  let it := { it with inbox := [], given := [], used := used, opened := false, stage := it.stage + 1 }
  if kind = 0 then
    let parts := cols.map (fun e =>
      let range := ownRange g b e.1 st
      let own := sliceOf b range.1 (workOf e.1) (splitRange range (g.size st) (g.own st))
      (e.1, e.2, seamFold (SeamDesc.fmt x) (SeamDesc.red x) ((List.range (g.size st)).map (fun r =>
        if r = g.own st then own else recv r e.2))))
    (parts.foldl (fun s p => s.seamReport it p.2.1 p.2.2.2) s).putSeam d { it with work := parts.map (fun p => (p.1, p.2.2.1)) }
  else if kind = 1 then
    s.putSeam d { it with work := cols.map (fun e => (e.1, (List.range (g.size st)).flatMap (fun r =>
      if r = g.own st then workOf e.1 else recv r e.2))) }
  else match SeamDesc.coll x with
    | 3 =>
      let got := (seamSources g it kind st).flatMap (fun src => recv src.1 src.2.1)
      s.putSeam d { it with work := if got.isEmpty then it.work else [(0, got)] }
    | 4 =>
      let stay := it.blocks.filter (fun k => g.coord k.dst st == g.own st)
      let n := b / g.modules
      let came := (g.peers st).flatMap (fun r =>
        let ps := seamPairs g st r
        (ps.zip (cutAll n ps.length (recv r g.col))).map (fun e => (⟨e.1.1, e.1.2, e.2⟩ : SeamBlock)))
      s.putSeam d { it with blocks := stay ++ came }
    | _ =>
      let stay := it.blocks.filter (fun k => g.coord k.dst st == g.own st)
      s.putSeam d { it with blocks := stay ++ (g.peers st).flatMap (fun r => seamBlocks (seamGot it r g.col)) }

/-- Writes in order, until one fails. -/
def seamWrites (s : State) (e : Eng) (l : List (Nat × List Byte)) : Nat × Nat × State :=
  l.foldl (fun (st : Nat × Nat × State) w =>
    if st.1 ≠ 0 then st
    else match st.2.2.engWriteSt e w.1 w.2.length with
      | 0 => (0, 0, st.2.2.putBytes w.1 w.2)
      | c => (c, w.1, st.2.2)) (0, 0, s)

/-- What a permute writes: the k-th block of a sender at its k-th incoming entry; none on a mismatch (R301). -/
def permWrites (t : List PermEntry) (blocks : List SeamBlock) (n : Nat) : Option (List (Nat × List Byte)) :=
  (List.range n).foldl (fun (o : Option (List (Nat × List Byte))) a =>
    let ins := t.filter (fun p => p.incoming && p.peer == a)
    let bs := blocks.filter (fun k => k.src == a)
    match o with
    | none => none
    | some l =>
      if ins.length ≠ bs.length || (ins.zip bs).any (fun e => e.1.bytes != e.2.data.length) then none
      else some (l ++ (ins.zip bs).map (fun e => (e.1.addr, e.2.data)))) (some [])

/-- The outputs of a collective are written (R295). -/
def seamFinish (s : State) (d : Nat) (g : Grp) (it : SeamItem) : Nat × Nat × State :=
  let x := seamDesc it
  let e := s.seamItemEng d it
  let dsts := (List.range 4).filter (fun k => SeamDesc.dst x k != 0)
  match SeamDesc.coll x with
  | 1 => s.seamWrites e (((List.range g.dies.length).zip g.dies).filterMap (fun p =>
      if SeamDesc.dst x p.2 = 0 then none
      else some (SeamDesc.dst x p.2, ((it.work.find? (fun w => w.1 == p.1)).map Prod.snd).getD [])))
  | 4 =>
    let bs := SeamDesc.bytes x / g.modules
    s.seamWrites e (it.blocks.map (fun k => (SeamDesc.dst x 0 + k.src * bs, k.data)))
  | 5 =>
    (match permWrites (s.permTable x) it.blocks g.modules with
     | some l => s.seamWrites e l
     | none => (0x33, 0, s))
  | _ =>
    let whole := it.work.flatMap Prod.snd
    s.seamWrites e (dsts.map (fun k => (SeamDesc.dst x k, whole)))

/-- norm_sq is formed from the final pieces, when the last reduce stage has closed (R299). -/
def seamNorm (g : Grp) (it : SeamItem) : SeamItem :=
  let x := seamDesc it
  let reduced := ((seamStages g (SeamDesc.coll x)).drop it.stage).all (fun p => p.1 != 0)
  if SeamDesc.grad x && reduced && decide (it.normSq = 0) then
    { it with normSq := fp32SumFrom (it.work.map (fun w => seamSquares (SeamDesc.fmt x) w.2)) } else it

/-- An item goes on until it waits for a peer or ends. -/
def seamAdvance (s : State) (d id : Nat) : Nat → State
  | 0 => s
  | fuel + 1 =>
    match s.seamItem d id with
    | none => s
    | some it =>
      let x := seamDesc it
      match s.groupOf (seamInst it) (SeamDesc.group x) with
      | none => s
      | some g =>
        match it.fail with
        | some f => s.endSeam d g it (if f = 0x43 then 0x36 else f) true
        | none =>
          match (seamStages g (SeamDesc.coll x))[it.stage]? with
          | none => s.endSeam d g it 0 true
          | some (kind, st) =>
            if kind = 3 then
              match s.seamFinish d g (seamNorm g it) with
              | (0, _, s) => s.endSeam d g (seamNorm g it) 0 true
              | (c, a, s) => (s.engFail (s.seamItemEng d it) c a).endSeam d g it c true
            else if st = 0 then
              match s.seamDieStage d g it with
              | (0, _, s) =>
                (match s.seamItem d id with
                 | some it => seamAdvance (s.putSeam d { it with stage := it.stage + 1 }) d id fuel
                 | none => s)
              | (c, a, s) => (s.engFail (s.seamItemEng d it) c a).endSeam d g it c true
            else
              let it := seamNorm g it
              have s := s.putSeam d (if it.opened then it else { it with opened := true, out := seamOut g it kind st })
              have s := s.seamGrant d g it kind st
              have s := s.seamSend d g id st (it.out.length + (seamOut g it kind st).length + 1)
              match s.seamItem d id with
              | none => s
              | some it =>
                if it.fail.isNone && !seamDone g it kind st then s
                else if it.fail.isSome then seamAdvance s d id fuel
                else seamAdvance (s.seamClose d g it kind st) d id fuel

def seamRun (s : State) (d id : Nat) : State := s.seamAdvance d id 24

/-- An item starts (R287, R288, R291, R293): the checks before its descriptor is read, the descriptor, its group, its call
number, its first reads. It holds while four items run or its group is busy: false. -/
def seamStart (s : State) (d : Nat) (it : SeamItem) : Bool × State :=
  let e := s.seamItemEng d it
  if !s.holdsDie it.owner d || decide (it.src % 64 ≠ 0) then (true, s.dropSeam d it 0x02)
  else match s.engReadSt e it.src 64 with
    | 0 =>
      if s.natAt it.src 1 ≠ 0x32 then (true, s.dropSeam d it 0x01)
      else if it.src % 128 ≠ 0 then (true, s.dropSeam d it 0x02)
      else (match s.engReadSt e it.src 128 with
        | 0 =>
          let x := BitVec.ofNat 1024 (s.natAt it.src 128)
          let i := seamInst it
          let it := { it with desc := some x }
          (match s.groupOf i (SeamDesc.group x) with
           | none => (true, s.dropSeam d it 0x02)
           | some g =>
             if g.home ≠ d then (true, s.dropSeam d it 0x02)
             else
               let busy := (s.seamQ d).any (fun y => y.started && seamInst y == i && SeamDesc.group (seamDesc y) == SeamDesc.group x)
               if busy || decide (((s.seamQ d).filter (fun y => y.started)).length ≥ 4) then (false, s)
               else
                 let off := R.SEAM_GRP_CALL i (SeamDesc.group x)
                 let it := { it with started := true, call := (s.reg off).toNat }
                 have s := (s.add64 off 1).putSeam d it
                 let note := s.seamNotes.find? (fun n => n.inst == i && n.group == SeamDesc.group x && n.call == it.call && n.abort.isSome)
                 (match s.seamCheck e g x, note with
                  | 0, some n => (true, s.endSeam d g it ((n.abort).getD 0x36) false)
                  | 0, none =>
                    (match s.seamInit d g it with
                     | (0, _, s) => (true, s.seamRun d it.id)
                     | (c, a, s) => (true, (s.engFail e c a).endSeam d g it c false))
                  | c, _ => (true, (s.engFail e c (SeamDesc.table x)).endSeam d g it c false)))
        | st => (true, (s.engFail e st it.src).dropSeam d it st))
    | st => (true, (s.engFail e st it.src).dropSeam d it st)

/-- Waiting items start in queue order. -/
def seamStarts (s : State) (d : Nat) : Nat → State
  | 0 => s
  | fuel + 1 =>
    match (s.seamQ d).find? (fun it => !it.started) with
    | none => s
    | some it =>
      if s.oldOwner it.owner then
        seamStarts ((s.setSeamQ d ((s.seamQ d).filter (fun y => y.id != it.id))).dropDma it.origin.unit it.origin.id) d fuel
      else match s.seamStart d it with
        | (true, s) => seamStarts s d fuel
        | (false, s) => s

/-- The queue of an engine after something happened to it. -/
def seamNext (s : State) (d : Nat) : State := s.seamStarts d 33

/-! ### Messages (R298, R300, R303) -/

/-- A parsed Seam header. -/
structure SeamHead where
  group : Nat
  inst : Nat
  type : Nat
  stage : Nat
  coll : Nat
  red : Nat
  fmt : Nat
  gen : Nat
  rank : Nat
  die : Nat
  call : Nat
  bytes : Nat
  arg : Nat
  deriving DecidableEq, Repr

def seamHead (b : List Byte) : SeamHead :=
  let f := recNat b
  { group := bitsOf (f 0 1) 0 4, inst := bitsOf (f 0 1) 4 3, type := f 1 1, stage := bitsOf (f 2 1) 0 3, coll := bitsOf (f 2 1) 3 3,
    red := bitsOf (f 3 1) 0 2, fmt := bitsOf (f 3 1) 4 4, gen := f 4 2, rank := bitsOf (f 6 2) 0 13, die := bitsOf (f 6 2) 13 2,
    call := f 8 8, bytes := bitsOf (f 16 8) 0 40, arg := f 24 8 }

/-- The running item that a message is for, and its engine. -/
def seamFor (s : State) (h : SeamHead) : Option (Nat × SeamItem) :=
  (List.range 4).findSome? (fun d => ((s.seamQ d).find? (fun it => it.started && seamInst it == h.inst &&
    SeamDesc.group (seamDesc it) == h.group && it.call == h.call)).map (fun it => (d, it)))

/-- A Seam message of a type; one of an older generation is discarded (R305). -/
def withSeam (s : State) (k : Nat) (want : Nat → Bool) (f : SeamHead → List Byte → State → State) : State :=
  s.withMsg k 1 (fun b => want (seamHead b).type) (fun j b s =>
    let h := seamHead b
    if genOlder h.gen (s.sess j.val).peerGen || decide (h.inst ≠ (s.sess j.val).inst) then s else f h (b.drop 32) s)

/-- A chunk against the receiver's item (R300): 0 when it matches, else the code that ends the item. -/
def seamMatch (g : Grp) (it : SeamItem) (h : SeamHead) (kind : Nat) : Nat :=
  let x := seamDesc it
  if SeamDesc.coll x ≠ 5 ∧ h.coll ≠ 5 ∧ h.bytes ≠ SeamDesc.bytes x then 0x33
  else if h.coll ≠ SeamDesc.coll x ∨ h.red ≠ SeamDesc.red x ∨ h.fmt ≠ SeamDesc.fmt x then 0x35
  else if SeamDesc.coll x = 3 && !((seamSources g it kind h.stage).any (fun src => src.1 == g.coord h.rank h.stage)) then 0x35
  else 0

/-- A DATA chunk reaches its item. -/
def seamData (s : State) (h : SeamHead) (data : List Byte) : State :=
  match s.seamFor h with
  | none => s
  | some (d, it) =>
    match s.groupOf h.inst h.group with
    | none => s
    | some g =>
      match (seamStages g (SeamDesc.coll (seamDesc it)))[it.stage]? with
      | none => s
      | some (kind, st) =>
        let code := seamMatch g it h kind
        if code ≠ 0 then ((s.putSeam d { it with fail := some ((it.fail).getD code) }).seamRun d it.id).seamNext d
        else if st ≠ h.stage || !it.opened then s
        else
          have s := s.add64 (R.SEAM_ENG_BYTES h.die) data.length
          let c : SeamChunk := ⟨g.coord h.rank st, h.die, h.bytes, h.arg, data⟩
          ((s.putSeam d { it with inbox := it.inbox ++ [c] }).seamRun d it.id).seamNext d

/-- A note is kept for its call, and the item goes on. -/
def seamNote (s : State) (h : SeamHead) (g : Grp) (abort : Option Nat) : State :=
  let note : SeamNote :=
    ⟨h.inst, h.group, h.call, h.stage, g.coord h.rank h.stage, h.die, if abort.isSome then 0 else h.arg, abort⟩
  have s := { s with seamNotes := s.seamNotes ++ [note] }
  match s.seamFor h with
  | some (d, it) => (s.seamRun d it.id).seamNext d
  | none => s

/-- An ABORT: it ends the item, waits for an item that has not started here, or counts as a later code. -/
def seamAbort (s : State) (h : SeamHead) (g : Grp) : State :=
  match s.seamFor h with
  | some (d, it) =>
    if it.fail.isSome then s.inc (R.SEAM_ENG_ABORTS d)
    else ((s.putSeam d { it with fail := some (h.arg % 256) }).seamRun d it.id).seamNext d
  | none =>
    if h.call < (s.reg (R.SEAM_GRP_CALL h.inst h.group)).toNat then s.inc (R.SEAM_ENG_ABORTS g.home)
    else s.seamNote h g (some (h.arg % 256))

/-- A collective of a kind on an engine: waiting items start, and a running one of that kind goes on. -/
def seamGo (s : State) (d coll : Nat) : State :=
  have s := s.seamNext d
  let run := (s.seamQ d).filter (fun it => it.started && SeamDesc.coll (seamDesc it) == coll)
  (run.foldl (fun s it =>
    if s.oldOwner it.owner then
      (s.setSeamQ d ((s.seamQ d).filter (fun y => y.id != it.id))).dropDma it.origin.unit it.origin.id
    else s.seamRun d it.id) s).seamNext d

/-! ### Groups (R290) -/

/-- A write of SEAM_GRP_BASE: the base only while enable is 0; setting enable loads the record and checks it. -/
def writeGroup (s : State) (i g v : Nat) : State :=
  let off := R.SEAM_GRP_BASE i g
  let on := s.regBit off 48
  have s := if on then s else s.setFld off F.SEAM_GRP_BASE_base (bitsOf v 0 48)
  if !bitOf v 48 then { s.setRegBit off 48 false with seamGroups := s.seamGroups.erase (16 * i + g) }
  else if on then s
  else
    let a := s.fld off F.SEAM_GRP_BASE_base / 4096 * 4096
    let st := s.engineRead (.inst i) a 4096
    let rec' := s.bytesAt a 4096
    if st = 0 && (grpOf rec').isSome then
      have s := { s with seamGroups := s.seamGroups.insert (16 * i + g) rec' }
      (s.setRegBit off 48 true).setRegBit off 49 false
    else (s.readFailed st ⟨4, 0, i⟩ (some i) true a).setRegBit off 49 true

/-- An instance reset takes its Seam items, groups and call numbers (R305); peers hear of it by the transport. -/
def resetSeam (s : State) (i : Nat) : State :=
  have s := (List.range 4).foldl (fun s d => s.setSeamQ d ((s.seamQ d).filter (fun it => !(instOf it.owner == some i)))) s
  have s := (List.range 16).foldl (fun s g =>
    ((s.setRegBit (R.SEAM_GRP_BASE i g) 48 false).setReg (R.SEAM_GRP_CALL i g) 0)) s
  { s with seamGroups := s.seamGroups.filter (fun e => e.1 / 16 != i), seamNotes := s.seamNotes.filter (fun n => n.inst != i) }

end State

/-! ### Commands -/

/-- SEAM_ITEM (R287, R288): a waiting item of a collective joins the die's Seam queue of depth 32 and starts in turn. A
SQUALL_VOTE item is left to its own command. -/
def execSeamItem (d : DieId) (s : State) : Out :=
  if (s.seamQ d.val).length ≥ 32 then .next s
  else match (State.seamUnits d).findSome? (fun u =>
      s.waitingItem [u] 0x4A (fun it => State.seamDie u it == d.val && !s.isVoteItem d.val it)) with
    | none => .next s
    | some (u, x) =>
      let it : SeamItem :=
        { id := x.id, src := dw x.desc 1 0 48, owner := x.owner, origin := ⟨u, x.id⟩, desc := none, call := 0, started := false,
          stage := 0, opened := false, out := [], inbox := [], given := [], used := [], work := [], blocks := [],
          localSq := 0, normSq := 0, fail := none }
      .next (((s.handItem u x).setSeamQ d.val (s.seamQ d.val ++ [it])).seamNext d.val)

/-- ALL_REDUCE (R295, R296). -/
def execAllReduce (d : DieId) (s : State) : Out := .next (s.seamGo d.val 0)
/-- REDUCE_SCATTER (R295, R296). -/
def execReduceScatter (d : DieId) (s : State) : Out := .next (s.seamGo d.val 1)
/-- ALL_GATHER (R295). -/
def execAllGather (d : DieId) (s : State) : Out := .next (s.seamGo d.val 2)
/-- BROADCAST (R295). -/
def execBroadcast (d : DieId) (s : State) : Out := .next (s.seamGo d.val 3)
/-- ALL_TO_ALL (R295). -/
def execAllToAll (d : DieId) (s : State) : Out := .next (s.seamGo d.val 4)
/-- PERMUTE (R301, R302). -/
def execPermute (d : DieId) (s : State) : Out := .next (s.seamGo d.val 5)

/-- DATA (R298, R300); a message of an unknown type is discarded here. -/
def execDataMsg (k : Nat) (s : State) : Out :=
  .next (s.withSeam k (fun t => t == 1 || t == 0 || decide (3 < t)) (fun h b s => if h.type = 1 then s.seamData h b else s))

/-- GRANT (R298): chunk slots at a stage peer, kept for a call that this module has not reached. -/
def execGrantMsg (k : Nat) (s : State) : Out :=
  .next (s.withSeam k (fun t => t == 2) (fun h _ s =>
    match s.groupOf h.inst h.group with
    | some g => s.seamNote h g none
    | none => s))

/-- ABORT (R303). -/
def execAbortMsg (k : Nat) (s : State) : Out :=
  .next (s.withSeam k (fun t => t == 3) (fun h _ s =>
    match s.groupOf h.inst h.group with
    | some g => s.seamAbort h g
    | none => s))

/-- SEAM_PEER_TIMEOUT (R304): the k-th item of an engine waits for a peer; it ends with COLL_PEER_FAIL and the peer is
logged, as WARN (DESIGN CHOICE, log entry 38). -/
def execSeamPeerTimeout (d : DieId) (k : Nat) (s : State) : Out :=
  match (s.seamQ d.val)[k]? with
  | none => .next s
  | some it =>
    match it.started && it.opened, s.groupOf (State.seamInst it) (SeamDesc.group (State.seamDesc it)) with
    | true, some g =>
      (match (seamStages g (SeamDesc.coll (State.seamDesc it)))[it.stage]? with
       | none => .next s
       | some (kind, st) =>
         let silent := (State.seamSources g it kind st).find? (fun src => match src.2.2 with
           | some n => decide (((State.seamGot it src.1 src.2.1).map (fun c => c.data.length)).sum < n)
           | none => !(State.seamGot it src.1 src.2.1).any (fun c => c.bytes == 0))
         let who := match silent, it.out.head? with
           | some src, _ => some (src.1, src.2.1)
           | none, some c => some (c.peer, c.die)
           | none, none => none
         match who with
         | none => .next s
         | some (r, die) =>
           let j := g.sess st r die
           let x := s.sess j
           have s := s.log 2 0x36 ⟨4, d.val, State.seamInst it⟩ (some (State.seamInst it))
             (peer := State.peerField x.peerDevice x.peerPod j)
           .next (((s.putSeam d.val { it with fail := some 0x36 }).seamRun d.val it.id).seamNext d.val))
    | _, _ => .next s

/-- GROUP_ENABLE (R290): a write of SEAM_GRP_BASE. -/
def execGroupEnable (req : Requester) (i : InstId) (g : Fin 16) (val : Word) (s : State) : Out :=
  let off := R.SEAM_GRP_BASE i.val g.val
  if s.reach req off then .next (s.writeGroup i.val g.val val.toNat) else .next (s.regRefused req off)

end Sys2Proof.Machine
end

