-- ==== Sys2Proof/Machine/Queue.lean ====
section
/-! DEFINITION. The command queues of the host (R344 to R349), core work (R409), verification (R178, R179). -/
namespace Sys2Proof.Machine
namespace State

/-! ### Verification (R178, R179) -/

/-- The core whose Pocket a descriptor's operands lie in, else the first core of the instance. -/
def verifyCore (s : State) (i : Nat) (words : List Nat) : Nat :=
  match words.findSome? (fun a => match regionOf a with
    | .pocket c => some c
    | _ => none) with
  | some c => c
  | none => ((List.range 128).find? (fun c => s.ownsCore i c)).getD 0

/-- Ranges that lie within one buffer which allows the access: reads and writes as (address, bytes). -/
def inBuffers (bufs : List Bnd) (reads writes : List (Nat × Nat)) : Bool :=
  reads.all (fun r => decide (r.2 = 0) || snapOk (some bufs) false r.1 r.2) &&
  writes.all (fun r => decide (r.2 = 0) || snapOk (some bufs) true r.1 r.2)

def spanToLen (r : Nat × Nat) : Nat × Nat := (r.1, r.2 - r.1)

/-- The ranges of one product: operands, scales, tables, and C; C is read too when its values are added to. -/
def productInBuffers (s : State) (bufs : List Bnd) (p : Prod) : Bool :=
  let c := spanToLen (s.cRange p)
  inBuffers bufs ((s.readRanges p).map spanToLen ++ s.tableRanges p ++ (if p.acc then [c] else [])) [c]

/-- The pages of a slot's blocks for one layer and head. -/
def slotPages (s : State) (n slot layer head len : Nat) : List (Nat × Nat) :=
  (List.range (s.kvBlocks n len)).filterMap (fun b => (s.kvFrame n slot b).map (fun f => (s.kvPage n f layer head, 65536)))

/-- A matrix-class descriptor: its chapter's checks, and every range within the buffers. -/
def verifyMatrix (s : State) (i : InstId) (bufs : List Bnd) (d : BitVec 1024) : Bool :=
  let c := s.verifyCore i.val ((List.range 15).map (fun k => xw d (k + 1) 0 48))
  let it : MxItem := ⟨d, bufs, ⟨some i, s.gen i.val, false⟩⟩
  match xw d 0 0 8 with
  | 0x20 | 0x21 => decide (s.matrixCheck c it = (0, 0)) && s.productInBuffers bufs (matrixOf d)
  | 0x22 =>
    let p := matrixOf d
    decide (s.matrixCheck c it = (0, 0)) && inBuffers bufs [(p.aux, 32 * p.m)] [] &&
    (List.range p.m).all (fun n => !s.productBad c (s.entryProd p n) && s.productInBuffers bufs (s.entryProd p n))
  | 0x23 =>
    let r := rowDOf d
    let n := fun k => r.kept k
    decide (s.rowCheck c it = 0) &&
    (List.range r.rows).all (fun k => inBuffers bufs (rowReads r k (n k))
      ((if r.op < 3 ∨ r.op = 6 then [(r.y + k * r.yS, r.cols * sfuBytes r.fy)] else []) ++
       (if r.stat ≠ 0 ∧ r.op ≠ 6 then [(r.stat + 8 * k, 8)] else [])))
  | 0x24 => decide (s.convCheck c it = 0) && s.productInBuffers bufs (convProd d)
  | 0x25 => decide (s.winCheck c it = 0) && inBuffers bufs [(winDOf d).ranges.1] [(winDOf d).ranges.2]
  | 0x26 =>
    let a := attnOf d
    let hd := s.kvHd a.space
    decide (s.attnCheck c it = (0, 0)) &&
    inBuffers bufs ((a.list, 32 * a.entries) :: (a.sBase, a.sBytes) :: (if a.rope then [(a.freq, 2 * hd)] else [])) [(a.sBase, a.sBytes)] &&
    (List.range a.entries).all (fun n =>
      let e := s.attnEntry a n
      inBuffers bufs ((e.q, e.rows * hd * fmtBytes (fmtOr a.fq)) :: s.slotPages a.space e.slot a.layer a.head (s.kvLen a.space e.slot))
        [(e.o, e.rows * hd * fmtBytes (fmtOr a.fo))])
  | 0x27 =>
    let sp := xw d 0 36 3
    let len := xw d 4 0 32 * s.kvHd sp * fmtBytes (fmtOr (xw d 0 8 4))
    decide (s.storeCheck c it = 0) &&
    inBuffers bufs [(xw d 1 0 48, len), (xw d 2 0 48, len)]
      (s.slotPages sp (xw d 3 0 16) (xw d 4 32 8) (xw d 4 40 7) (xw d 3 32 32 + xw d 4 0 32))
  | _ => false

/-- A core DMA record: its checks, and its local ranges within the buffers. -/
def verifyDma (s : State) (i : InstId) (bufs : List Bnd) (d : BitVec 512) : Bool :=
  let it : DmaItem :=
    { id := 0, desc := d, snap := some bufs, owner := ⟨some i, s.gen i.val, false⟩, origin := .copyList, stage := 0, waits := 0,
      err := 0, rbuf := [], done := none, result := 0 }
  let p := s.dmaPlan d
  match p.op with
  | 0x40 | 0x41 | 0x42 =>
    let n := if p.sw = 0 ∨ p.op = 0x42 then p.rows else p.cols
    let dst := (List.range n).map (fun r => (p.dst + r * p.ds, p.dstBytes))
    decide (s.dmaCheck it = 0) &&
    inBuffers bufs (if p.srcDev.isSome then [] else (List.range p.rows).map (fun r => (p.src + r * p.ss, p.rb)))
      (if p.dstDev.isSome then [] else dst) &&
    (decide (p.op ≠ 0x42) || p.dstDev.isSome || inBuffers bufs dst [])
  | 0x43 => decide (dw d 0 36 2 < 3) && decide (s.maintCheck (.die 0) it (dw d 0 36 2) = 0)
  | 0x48 =>
    !s.kvBad { desc := d, owner := it.owner, origin := ⟨.die 0, 0⟩ } &&
    inBuffers bufs [(KvCmd.tok d, 4 * KvCmd.count d)] [(KvCmd.res d, 16)]
  | 0x49 =>
    let a := dw d 1 0 48
    let x := BitVec.ofNat 1024 (s.natAt a 128)
    inBuffers bufs [(a, 128)] [] && !updReserved x && (match updPlan x with
      | some q => inBuffers bufs (updReads q) (updWrites q)
      | none => false)
  | 0x4A =>
    let a := dw d 1 0 48
    inBuffers bufs [(a, 128)] [] && !SeamDesc.bad (BitVec.ofNat 1024 (s.natAt a 128))
  | _ => false

/-- The manifest checks: none where it passes, else the index of the first failing entry, buffers before descriptors. -/
def verifyManifest (s : State) (i : InstId) (host : Bool) (a : Nat) : Option Nat :=
  let bytes := fun (o n : Nat) => natOfBytes (if host then s.hostBytes (a + o) n else s.bytesAt (a + o) n)
  let h := bytes 0 16
  let nbuf := bitsOf h 8 8
  let nd := bitsOf h 16 16
  if !host ∧ s.engineRead (.inst i.val) a 16 ≠ 0 then some 0
  else if a % 16 ≠ 0 ∨ bitsOf h 0 8 ≠ 1 ∨ nbuf = 0 ∨ 64 < nbuf ∨ 256 < nd ∨ h / 2 ^ 32 ≠ 0 then some 0
  else if !host ∧ s.engineRead (.inst i.val) a (16 + 16 * nbuf + 8 * nd) ≠ 0 then some 0
  else
    let buf := fun (k : Nat) => bytes (16 + 16 * k) 16
    let base := fun k => bitsOf (buf k) 0 48
    let size := fun k => bitsOf (buf k) 64 64
    let perm := fun k => bitsOf (buf k) 54 2
    let badBuf := fun (k : Nat) => decide (size k = 0 ∨ base k % 2 ^ bitsOf (buf k) 48 6 ≠ 0 ∨ 16 < bitsOf (buf k) 48 6 ∨
        bitsOf (buf k) 56 8 ≠ 0 ∨ base k + size k > 2 ^ 48) || decide (s.checkRange (.inst i.val) (base k) (size k) ≠ 0) ||
      (List.range k).any (fun j => bitOf (perm k) 1 && bitOf (perm j) 1 && overlaps (base k, base k + size k) (base j, base j + size j))
    let bufs : List Bnd := (List.range nbuf).map (fun k =>
      ⟨BitVec.ofNat 48 (base k), BitVec.ofNat 48 (base k + size k), BitVec.ofNat 2 (perm k)⟩)
    let badDesc := fun (k : Nat) =>
      let e := bytes (16 + 16 * nbuf + 8 * k) 8
      if 2 ^ 48 ≤ e ∨ s.engineRead (.inst i.val) e 64 ≠ 0 then true
      else if bitsOf (s.natAt e 1) 0 8 / 16 = 2 then
        decide (s.engineRead (.inst i.val) e 128 ≠ 0) || !s.verifyMatrix i bufs (BitVec.ofNat 1024 (s.natAt e 128))
      else !s.verifyDma i bufs (BitVec.ofNat 512 (s.natAt e 64))
    match (List.range nbuf).find? badBuf with
    | some k => some k
    | none => ((List.range nd).find? badDesc).map (fun k => nbuf + k)

/-! ### Entries (R345 to R347) -/

def qOn (s : State) (q : QRef) : Bool := decide (s.qfld q (R.HST_Q_CFG 0 0) F.HST_Q_CFG_enable = 1)
def qVerify (s : State) (q : QRef) : Bool := decide (s.qfld q (R.HST_Q_CFG 0 0) F.HST_Q_CFG_verify = 1)

/-- Who reads a queue's rings and blocks. -/
def qWho (q : QRef) : Who :=
  match q.page with
  | .inst k => .inst k.val
  | .pf => .pf

/-- A queue is disabled with a code (R345). -/
def disableQueue (s : State) (q : QRef) (code : Nat) : State :=
  (s.setQfld q (R.HST_Q_CFG 0 0) F.HST_Q_CFG_enable 0).setQfld q (R.HST_Q_STATUS 0 0) F.HST_Q_STATUS_error code

/-- A write of a queue's doorbell (R345). -/
def writeQTail (s : State) (q : QRef) (v : Nat) : State :=
  if v ≥ s.queueSize q then s.disableQueue q 0x02 else s.setQfld q (R.HST_Q_TAIL 0 0) F.HST_Q_TAIL_tail v

/-- The head entry of a queue that is not empty: its index and its descriptor. -/
def headEntry (s : State) (q : QRef) : Option (Nat × BitVec 512) :=
  let size := s.queueSize q
  let head := s.qfld q (R.HST_Q_HEAD 0 0) F.HST_Q_HEAD_index % size
  let tail := s.qfld q (R.HST_Q_TAIL 0 0) F.HST_Q_TAIL_tail % size
  if !s.qOn q || head == tail then none
  else
    let hbm := decide (s.qfld q (R.HST_Q_CFG 0 0) F.HST_Q_CFG_in_hbm = 1)
    some (head, BitVec.ofNat 512 (natOfBytes (s.ringBytes hbm (s.qfld q (R.HST_Q_BASE 0 0) F.HST_Q_BASE_addr + 64 * head) 64)))

/-- The instance that a queue's core work and engine records act for (R344, R346). -/
def entryInst (q : QRef) (d : BitVec 512) : InstId :=
  match q.page with
  | .inst k => k
  | .pf => ⟨dw d 0 16 3, by simp [dw, bitsOf]; omega⟩

/-- Reserved fields of an entry (R346): words 3 to 5 belong to core work, the manifest to verify queues. -/
def entryReserved (s : State) (q : QRef) (d : BitVec 512) : Bool :=
  let core := decide (dw d 0 0 8 = 1)
  decide (dw d 0 14 2 ≠ 0 ∨ dw d 0 19 45 ≠ 0 ∨ dw d 7 0 64 ≠ 0) ||
  (!(core && s.qVerify q) && decide (dw d 2 0 64 ≠ 0)) ||
  (!core && decide (dw d 3 0 64 ≠ 0 ∨ dw d 4 0 64 ≠ 0 ∨ dw d 5 0 64 ≠ 0)) ||
  (core && decide (dw d 4 56 8 ≠ 0 ∨ dw d 5 32 32 ≠ 0))

/-- An entry starts: it is a work of its own from here on. -/
def openWork (s : State) (q : QRef) (idx : Nat) (d : BitVec 512) (inst : Option InstId) : Nat × State :=
  let w : Work :=
    { id := s.host.nextWork, q := q, idx := idx, inst := inst.map (fun i => i.val), gen := (inst.map (fun i => s.gen i.val)).getD 0,
      desc := d, kind := dw d 0 0 8, left := 0, placed := false, failCore := none, failed := 0 }
  have s := { s with host := { s.host with works := s.host.works ++ [w], nextWork := s.host.nextWork + 1 } }
  have s := s.setQfld q (R.HST_Q_HEAD 0 0) F.HST_Q_HEAD_index ((idx + 1) % s.queueSize q)
  (w.id, s.showRunning q)

/-- The head entry of a kind, when it may start: a fence waits for every earlier entry of the queue. -/
def startable (s : State) (q : QRef) (want : Nat → Bool) : Option (Nat × BitVec 512) :=
  match s.headEntry q with
  | none => none
  | some (idx, d) =>
    if want (dw d 0 0 8) && !(bitOf d.toNat 11 && s.host.works.any (fun w => decide (w.q = q))) then some (idx, d) else none

/-- Cores of an instance that are not absent or retired (R409). -/
def usableCores (s : State) (i : Nat) : Nat := ((List.range 128).filter (fun c => s.ownsCore i c && !s.absent c)).length

/-- The checks of a program record (R409). -/
def recordBad (r : BitVec 1024) : Bool :=
  decide (256 < xw r 7 0 16 ∨ 256 < xw r 7 16 16 ∨ xw r 7 32 32 ≠ 0 ∨ xw r 0 48 16 ≠ 0 ∨ xw r 6 48 16 ≠ 0 ∨ xw r 8 48 16 ≠ 0) ||
  (List.range 7).any (fun k => decide (xw r (9 + k) 0 64 ≠ 0))

end State

/-- CORE_WORK (R409): the head entry of queue `q` of kind 1 starts: its checks, verification, then it waits for the
dispatcher. An entry of an undefined kind ends here with BAD_OPCODE (R346). -/
def execCoreWork (q : QRef) (s : State) : Out :=
  match s.startable q (fun k => k == 1 || !decide (2 ≤ k ∧ k ≤ 4)) with
  | none => .next s
  | some (idx, d) =>
    if s.dispatchStopped && decide (dw d 0 0 8 = 1) then .next s
    else
      let i := State.entryInst q d
      if dw d 0 0 8 ≠ 1 then
        let (w, s) := s.openWork q idx d none
        .next (s.completeWork w 0x01 0)
      else
        let bad := s.entryReserved q d
        let verify := s.qVerify q
        let (w, s) := s.openWork q idx d (some i)
        if bad then .next (s.completeWork w 0x02 0)
        else
          let fail := if verify then s.verifyManifest i (bitOf d.toNat 13) (dw d 2 0 64) else none
          match fail with
          | some k => .next ((s.log 2 0x13 State.uThimble (some i.val) (value := k)).completeWork w 0x13 k)
          | none =>
            let width := dw d 4 48 8
            let a := dw d 4 0 48
            match s.engineRead (.inst i.val) a 128 with
            | 0 =>
              if width = 0 ∨ 128 < width ∨ s.usableCores i.val < width ∨ State.recordBad (BitVec.ofNat 1024 (s.natAt a 128)) then
                .next (s.completeWork w 0x02 0)
              else .next s
            | st => .next ((s.readFailed st State.uThimble (some i.val) false a).completeWork w st 0)

/-- ENGINE_RECORD (R347): the head entry of kind 2: its record joins the engine queue of its die; a die that failed its test
has none (R458). -/
def execEngineRecord (q : QRef) (s : State) : Out :=
  match s.startable q (fun k => k == 2) with
  | none => .next s
  | some (idx, d) =>
    if s.dispatchStopped then .next s
    else
      let i := State.entryInst q d
      let bad := s.entryReserved q d
      let (w, s) := s.openWork q idx d (some i)
      let host := bitOf d.toNat 12
      let a := dw d 1 0 64
      let bad := bad || bitOf s.msys.noDie (dw d 0 8 2)
      let st := if bad then 0x02 else if host then 0 else s.engineRead (.inst i.val) a 64
      if st ≠ 0 then .next ((if bad then s else s.readFailed st State.uThimble (some i.val) false a).completeWork w st 0)
      else
        let r := BitVec.ofNat 512 (natOfBytes (if host then s.hostBytes a 64 else s.bytesAt a 64))
        let op := dw r 0 0 8
        if !decide ((0x40 ≤ op ∧ op ≤ 0x43) ∨ (0x48 ≤ op ∧ op ≤ 0x4A)) then .next (s.completeWork w 0x01 0)
        else
          let it : DmaItem :=
            { id := w, desc := r, snap := none, owner := ⟨some i, s.gen i.val, false⟩, origin := .host w, stage := 0, waits := 0,
              err := 0, rbuf := [], done := none, result := 0 }
          let u : DmaUnit := .die ⟨dw d 0 8 2, by simp [dw, bitsOf]; omega⟩
          .next (s.setDmaList u (s.dmaList u ++ [it]))

/-- BARRIER (R347): the head entry of kind 4 starts; a started barrier completes once every earlier entry of its queue has
completed. -/
def execBarrier (q : QRef) (s : State) : Out :=
  match (s.host.works.filter (fun w => decide (w.q = q))).head? with
  | some w =>
    if w.kind = 4 then .next (s.completeWork w.id 0 0)
    else match s.startable q (fun k => k == 4) with
      | none => .next s
      | some (idx, d) =>
        let bad := s.entryReserved q d
        let (n, s) := s.openWork q idx d none
        .next (if bad then s.completeWork n 0x02 0 else s)
  | none =>
    match s.startable q (fun k => k == 4) with
    | none => .next s
    | some (idx, d) =>
      let bad := s.entryReserved q d
      let (n, s) := s.openWork q idx d none
      .next (s.completeWork n (if bad then 0x02 else 0) 0)

/-- HST_Q_TAIL (R345): the doorbell of queue `q`. -/
def execHstQTail (req : Requester) (q : QRef) (tail : BitVec 16) (s : State) : Out :=
  let off := queueBase q + 0x14
  if s.reach req off then .next (s.writeQTail q tail.toNat) else .next (s.regRefused req off)

end Sys2Proof.Machine
end

