-- ==== Sys2Proof/Machine/Transport.lean ====
section
/-! DEFINITION. The commands of the fabric ports and the Buinby transport (R308 to R335). -/
namespace Sys2Proof.Machine
namespace State

/-! ### Ports -/

/-- The lanes of a logical port (R308). -/
def lanesOf (s : State) (n : Nat) : List Nat :=
  let sub := n % 4
  match s.fld (R.FAB_PORT_CFG (n / 4)) F.FAB_PORT_CFG_config with
  | 0 => List.range 8
  | 1 => (List.range 4).map (fun j => sub * 2 + j)
  | _ => [sub * 2, sub * 2 + 1]

/-- A logical port comes up or goes down, logged as WARN (R310). -/
def linkChange (s : State) (n : Nat) (up : Bool) : State :=
  have s := (s.lanesOf n).foldl (fun s l => s.setRegBit (R.FAB_PORT_STATUS (n / 4)) l up) (s.setLink n up)
  s.log 2 (if up then 0x47 else 0x46) (uPort n)

/-- The logical ports that exist. -/
def allPorts (s : State) : List Nat := (List.range 96).filter s.lpExists

/-! ### The ingress buffer (R332) -/

/-- Entries of 256 B that a packet takes, and its channel class: requests 0 to 3, responses 4 to 7. -/
def ingressCost (s : State) (n : Nat) (p : Pkt) : Nat := cdiv (s.frameBytes n p.payload.length) 256
def ingressClass (p : Pkt) : Nat := p.vc % 4 + (if p.type = 2 then 4 else 0)

/-- Whether a packet fits its class's share: sixteen entries of its own, the rest shared. -/
def ingressFits (s : State) (n : Nat) (p : Pkt) : Bool :=
  let here := s.ingress.filter (fun r => r.port.val / 4 == n / 4)
  let used := fun c => (here.filter (fun r => ingressClass r.pkt == c)).foldl (fun a r => a + s.ingressCost r.port.val r.pkt) 0
  let passed := fun c => used c + (if c = ingressClass p then s.ingressCost n p else 0) - 16
  decide (((List.range 8).map passed).sum ≤ 2048 - 8 * 16)

/-! ### Receiving (R314, R324, R333) -/

/-- Whether an OPEN is acceptable, or repeats the accepted one (R319, R320). -/
def openOk (x : Session) (p : Pkt) : Bool :=
  let epoch := natOfBytes (p.payload.take 8)
  let t := natOfBytes ((p.payload.drop 24).take 4)
  decide (p.payload.length = 32) && x.responder && decide (t = triple x.peerPod x.peerDevice x.peerIndex) &&
  (match x.lastAccepted with
   | none => true
   | some e => decide (e < epoch) || (decide (e = epoch) && x.state == .opened))

/-- Whether a packet is a stranger for a reason other than its tag (R333). -/
def strange (s : State) (f : Frame) (p : Pkt) : Bool :=
  let x := s.sess p.dstSess
  decide (p.type = 0 ∨ 9 < p.type) || decide (4096 ≤ p.dstSess) || !x.created || x.state == .closed || x.state == .failed ||
  (decide (p.type ≠ 5 ∧ p.type ≠ 6) && (x.state == .listen || x.state == .opening)) ||
  decide (f.srcIp ≠ x.peerIp ∨ f.srcPort ≠ 0xC000 + x.peerIndex) ||
  (p.type == 5 && !((x.state == .listen || x.state == .opened) && openOk x p))

/-- The operations and element codes that a REQ or RESP may carry (R321). -/
def knownOp (p : Pkt) : Bool :=
  if p.type = 2 then decide (p.op = 3)
  else match p.op with
    | 1 | 2 | 4 | 5 | 6 => true
    | 7 => decide (1 ≤ p.sub ∧ p.sub ≤ 4)
    | _ => false

/-- A packet that is no stranger (R324, R326, R332, R333). -/
def acceptPkt (s : State) (n : LPort) (k : SessId) (p : Pkt) (ce : Bool) : State :=
  let x := s.sess k.val
  let seqd := decide (p.type ≤ 2)
  if !s.ingressFits n.val p then s.inc (R.FAB_LP_RX_OVERRUN n.val)
  else if seqd && genOlder p.sgen x.peerGen then s.inc (R.FAB_LP_STALE n.val)
  else
    let x := { x with peerGen := if seqd && genNewer p.sgen x.peerGen then p.sgen else x.peerGen,
                      ceBytes := if ce then x.ceBytes + s.frameBytes n.val p.payload.length else x.ceBytes }
    have s := s.setSess k.val x
    let rx : RxPkt := ⟨n, k, p⟩
    if !seqd then { s with ingress := s.ingress ++ [rx] }
    else if p.seq ≥ x.rxCum + 4096 then s
    else if p.seq < x.rxCum || x.rxSeen.contains p.seq ||
        s.ingress.any (fun r => r.sess == k && r.pkt.type ≤ 2 && r.pkt.seq == p.seq) then
      (s.inc (R.FAB_LP_DUPLICATES n.val)).sendAck k.val
    else if !knownOp p then s.answerRx rx 0x01
    else { s with ingress := s.ingress ++ [rx] }

/-- A Buinby packet on a port: strangers, then its tag, then the transport. -/
def receivePkt (s : State) (f : Frame) (p : Pkt) : State :=
  let n := f.port.val
  have s := s.add64 (R.FAB_LP_RX_BYTES n) (s.frameBytes n p.payload.length)
  have s := if f.ce then s.inc (R.FAB_LP_ECN_CE n) else s
  if s.strange f p then s.stranger n
  else if h : p.dstSess < 4096 then
    let x := s.sess p.dstSess
    if s.tagOf x p x.peerPod x.peerDevice ≠ p.tag then s.inc (R.FAB_LP_AUTH_DROP n)
    else s.acceptPkt f.port ⟨p.dstSess, h⟩ p f.ce
  else s.stranger n

/-- A packet of a type taken from the ingress list. -/
def withRx (s : State) (k : Nat) (want : Pkt → Bool) (f : RxPkt → State → State) : State :=
  match s.takeRx k want with
  | some (rx, s') => f rx s'
  | none => s

/-- A reduction at the memory-side adders (R251, R326). -/
def rxReduce (s : State) (rx : RxPkt) (op : Nat) : State :=
  let p := rx.pkt
  let n := p.payload.length
  let st := match s.reqStatus rx n with
    | 0 => match addSize p.sub with
      | none => 0x02
      | some e => if n % e ≠ 0 ∨ !s.reduceOk p.sub p.addr n then 0x02 else s.readStatus p.addr n
    | e => e
  if st = 0 then ((s.reduceAt p.sub p.sub op p.addr (elemsOf ((addSize p.sub).getD 1) p.payload)).2).answerRx rx 0
  else (s.reqRefused rx st).answerRx rx st

/-- The packets of READ_DATA (R334): offsets within the read, on the request's channel and transaction. -/
def readReply (s : State) (k : Nat) (req : Pkt) (data : List Byte) : State :=
  let x := s.sess k
  let parts := splitPayload (s.maxPayload x.port) (data.length + 1) 0 data
  let n := parts.length
  let pkts : List TxPkt := ((List.range n).zip parts).map (fun e =>
    let pkt : Pkt := { type := 2, vc := req.vc, ord := false, ackReq := decide (e.1 + 1 = n), last := decide (e.1 + 1 = n), attempt := 0,
                       dir := x.responder, dstSess := x.peerIndex, seq := 0, sgen := s.gen x.inst, tgen := x.peerGen, op := 3,
                       sub := 0, addr := e.2.1, txn := req.txn, payload := e.2.2, tag := 0 }
    { pkt := pkt, inst := none, core := none, misses := 0, fast := false })
  s.setSess k { x with queue := x.queue ++ pkts }

/-- What a remote READ of this module returns: 4 or 8 aligned bytes of the register region are register words. -/
def remoteBytes (s : State) (a n : Nat) : List Byte :=
  if inRegs a && (n == 4 || n == 8) && a % n == 0 then
    let off := (a - 0x18000000000) / 8 * 8
    let lo := s.reg off
    if n = 4 then (if a % 8 = 4 then bytesOf (if (s.regs.any (fun e => e.1 == off + 4)) then (s.reg (off + 4)).toNat
                                              else (lo.toNat / 2 ^ 32)) 4
                   else bytesOf lo.toNat 4)
    else bytesOf lo.toNat 8
  else s.bytesAt a n

end State

/-! ### Frames and packets -/

/-- FRAME_RECEIVE (R311, R314, R332, R333). -/
def execFrameReceive (f : Frame) (s : State) : Out :=
  let n := f.port.val
  if !s.lpUp n then .next s
  else
    have s := s.add64 (R.FAB_PORT_FEC_CORR (n / 4)) f.fecCorr
    have s := if f.fecUncorr = 0 then s else (s.add64 (R.FAB_PORT_FEC_UNCORR (n / 4)) f.fecUncorr).alarmEvent 6 f.fecUncorr
    if !f.fcsOk || f.fecUncorr ≠ 0 || !f.sumsOk then .next (s.inc (R.FAB_LP_RX_ERRORS n))
    else if !f.addressed || !f.plain then .next (s.stranger n)
    else match f.body with
      | .buinby p => .next (if f.udpPort = s.fld R.FAB_UDP_PORT F.FAB_UDP_PORT_port then s.receivePkt f p else s.stranger n)
      | .ptp m => .next (if (f.udpPort = 319 ∨ f.udpPort = 320) ∧ m.fromPeer then s else s.stranger n)
      | .other => .next (s.stranger n)

/-- WRITE (R326): the register region is refused with AUTH_FAIL (0x71). -/
def execWriteMsg (k : Nat) (s : State) : Out :=
  .next (s.withRx k (fun p => p.type == 1 && p.op == 1) (fun rx s =>
    let n := rx.pkt.payload.length
    let st := match s.reqStatus rx n with
      | 0x63 => 0x63
      | st => if State.inRegs rx.pkt.addr || State.inRegs (rx.pkt.addr + n - 1) then 0x71 else st
    if st = 0 then (s.putBytes rx.pkt.addr rx.pkt.payload).answerRx rx 0
    else (s.reqRefused rx st).answerRx rx st))

/-- READ (R326, R334): a read of a held parameter window waits (R279). -/
def execReadMsg (k : Nat) (s : State) : Out :=
  let hold := match s.ingress[k]? with
    | some rx => s.windowHeld rx.pkt.addr (natOfBytes rx.pkt.payload)
    | none => false
  if hold then .next s
  else .next (s.withRx k (fun p => p.type == 1 && p.op == 2) (fun rx s =>
    let n := min 65536 (natOfBytes rx.pkt.payload)
    let i := some (s.sess rx.sess.val).inst
    let st := match s.reqStatus rx n with
      | 0 => s.readStatus rx.pkt.addr n
      | e => e
    if st = 0 then (s.readReply rx.sess.val rx.pkt (s.remoteBytes rx.pkt.addr n)).answerRx rx 0
    else ((s.readFailed st ⟨6, rx.port.val / 24, rx.sess.val⟩ i false rx.pkt.addr)).answerRx rx st))

def execAddMsg (k : Nat) (s : State) : Out :=
  .next (s.withRx k (fun p => p.type == 1 && p.op == 4) (fun rx s => s.rxReduce rx 0))
def execMaxMsg (k : Nat) (s : State) : Out :=
  .next (s.withRx k (fun p => p.type == 1 && p.op == 5) (fun rx s => s.rxReduce rx 1))
def execMinMsg (k : Nat) (s : State) : Out :=
  .next (s.withRx k (fun p => p.type == 1 && p.op == 6) (fun rx s => s.rxReduce rx 2))

/-- READ_DATA (R334): the entry is freed when every byte of the read has arrived. -/
def execReadDataMsg (k : Nat) (s : State) : Out :=
  .next (s.withRx k (fun p => p.type == 2 && p.op == 3) (fun rx s =>
    let p := rx.pkt
    let bytes := ((List.range p.payload.length).zip p.payload).map (fun e => (p.addr + e.1, e.2))
    have s := { s with txns := s.txns.map (fun (t : Txn) =>
      if t.num = p.txn ∧ t.sess = rx.sess ∧ t.op = 2 then
        { t with readGot := t.readGot + p.payload.length, readData := t.readData ++ bytes } else t) }
    have s := s.answerRx rx 0
    match s.txns.find? (fun t => t.num == p.txn && t.sess == rx.sess && t.op == 2) with
    | some t => if t.readGot ≥ t.readLen then s.endTxn t.num 0 else s
    | none => s))

/-- The SACK ranges of an ACK payload. -/
def sackOf (payload : List Byte) : List (Nat × Nat) :=
  let b := payload.drop 6
  (List.range ((b.length - 4) / 4)).map (fun j => (natOfBytes ((b.drop (4 * j)).take 2), natOfBytes ((b.drop (4 * j + 2)).take 2)))

/-- ACK (R325, R327). -/
def execAckMsg (k : Nat) (s : State) : Out :=
  .next (s.withRx k (fun p => p.type == 3) (fun rx s =>
    let b := rx.pkt.payload
    s.ackArrived rx.sess.val (natOfBytes (b.take 6)) (sackOf b) (natOfBytes (b.drop (b.length - 4))) 0))

/-- NAK (R323, R326): it acknowledges its packet, with a failing status for the transaction. -/
def execNakMsg (k : Nat) (s : State) : Out :=
  .next (s.withRx k (fun p => p.type == 4) (fun rx s =>
    let v := natOfBytes rx.pkt.payload
    s.ackArrived rx.sess.val 0 [(bitsOf v 0 48, 1)] 0 (bitsOf v 65 8)))

/-- OPEN (R319, R320): a repeat of the accepted epoch draws the same OPEN_ACK; the nonce is Thimble's. -/
def execOpenMsg (k : Nat) (nonce : BitVec 128) (s : State) : Out :=
  .next (s.withRx k (fun p => p.type == 5) (fun rx s =>
    let j := rx.sess.val
    let x := s.sess j
    let epoch := natOfBytes (rx.pkt.payload.take 8)
    if !(x.state == .listen || x.state == .opened) then s
    else if x.lastAccepted = some epoch then (match x.openAck with
      | some p => if x.state == .opened then s.emit j p else s
      | none => s)
    else
      have s := s.endTxnsOf j 0x43 (fun t => t.sent)
      let x := { State.restart (s.sess j) with
        state := .opened, epoch := epoch, lastAccepted := some epoch, ownNonce := nonce, peerGen := rx.pkt.sgen,
        peerNonce := BitVec.ofNat 128 (natOfBytes ((rx.pkt.payload.drop 8).take 16)) }
      let x := { x with key := some (s.sessionKey j x epoch) }
      have s := s.setSess j x
      let p := s.controlPkt j 6 (s.openPayload j x epoch nonce)
      have s := s.setSess j { x with openAck := some p, txCtl := x.txCtl + 1 }
      s.emit j p))

/-- OPEN_ACK (R319). -/
def execOpenAckMsg (k : Nat) (s : State) : Out :=
  .next (s.withRx k (fun p => p.type == 6) (fun rx s =>
    let j := rx.sess.val
    let x := s.sess j
    if x.state = .opening ∧ natOfBytes (rx.pkt.payload.take 8) = x.epoch ∧ !x.waitsEpoch then
      let x := { State.restart x with
        state := .opened, peerGen := rx.pkt.sgen,
        peerNonce := BitVec.ofNat 128 (natOfBytes ((rx.pkt.payload.drop 8).take 16)) }
      s.setSess j { x with key := some (s.sessionKey j x x.epoch) }
    else s))

/-- CLOSE (R319). -/
def execCloseMsg (k : Nat) (s : State) : Out :=
  .next (s.withRx k (fun p => p.type == 7) (fun rx s => s.closeSession rx.sess.val))

/-- GEN_NOTICE (R335): the peer's new generation; outstanding transactions end with INSTANCE_RESET (0x63). -/
def execGenNoticeMsg (k : Nat) (s : State) : Out :=
  .next (s.withRx k (fun p => p.type == 8) (fun rx s =>
    let j := rx.sess.val
    have s := s.setSess j { s.sess j with peerGen := natOfBytes (rx.pkt.payload.take 2) }
    (s.endTxnsOf j 0x63 (fun t => t.sent)).sendAck j))

/-- PROBE (R325). -/
def execProbeMsg (k : Nat) (s : State) : Out :=
  .next (s.withRx k (fun p => p.type == 9) (fun rx s => s.sendAck rx.sess.val))

/-! ### Requesters and the sender's side -/

/-- TRANSACTION (R334): without a free entry the requester holds. -/
def execTransaction (t : TxnReq) (s : State) : Out :=
  let i := (s.sess t.sess.val).inst
  let inst : Option InstId := if h : i < 8 then some ⟨i, h⟩ else none
  let user : TxnUser := match t.core with
    | some c => .core c
    | none => .plain
  match s.startTxn t user inst (s.gen i) with
  | some s' => .next s'
  | none => .next s

/-- The next channel-0 packet of a port: control packets, then queued packets, sessions in turn (R330, R331). -/
def State.channel0 (s : State) (n : Nat) : Option (Nat × Option TxPkt) :=
  let ready := s.sessions.filterMap (fun e =>
    let x := e.2
    if !x.created || x.port ≠ n then none
    else if !x.control.isEmpty && x.state == .opened then some (e.1, (none : Option TxPkt))
    else if x.state == .opened && decide (x.unacked.length < 4096) && decide (x.txSeq < 2 ^ 47) then
      (x.queue.find? (fun q => q.pkt.vc == 0)).map (fun q => (e.1, some q))
    else none)
  let last := s.fab.rotor.get 0 (0x4000 + n)
  match ready.find? (fun e => decide (last < e.1)) with
  | some e => some e
  | none => ready.head?

/-- An initiator whose numbering reaches 2^47 re-opens (R319). -/
def State.reopenFull (s : State) (k : Nat) : State :=
  let x := s.sess k
  if x.state = .opened ∧ x.txSeq ≥ 2 ^ 47 ∧ !x.responder then
    have s := (s.fresh).2
    s.sendOpen k (BitVec.ofNat 128 (Config.freeValue (s.free - 1)))
  else s

/-- PACKET_SCHEDULE (R331): channel 0 first, then channels 1 to 3 by deficit round robin. -/
def execPacketSchedule (n : LPort) (s : State) : Out :=
  if !s.lpUp n.val then .next s
  else match s.channel0 n.val with
    | some (k, q) =>
      have s := { s with fab := { s.fab with rotor := s.fab.rotor.set 0 (0x4000 + n.val) k } }
      (match q, (s.sess k).control with
       | some q, _ => .next ((s.sendQueued k q).reopenFull k)
       | none, p :: rest => .next ((s.setSess k { s.sess k with control := rest }).emit k p)
       | none, [] => .next s)
    | none =>
      let weight := fun vc => max 1 (s.fld (R.FAB_LP_CFG n.val) (match vc with
        | 1 => F.FAB_LP_CFG_w1
        | 2 => F.FAB_LP_CFG_w2
        | _ => F.FAB_LP_CFG_w3))
      let cand := fun vc => s.channelNext n.val vc
      let cs := [1, 2, 3].map (fun vc => (⟨0x20000 + n.val * 4 + vc, 256 * weight vc,
        (cand vc).map (fun e => s.frameBytes n.val e.2.1.pkt.payload.length)⟩ : State.DrrClass))
      match State.drr cs 400 (s.fab.rotor.get 0 (0x2000 + n.val)) s.fab.deficit with
      | none => .next s
      | some (j, r, d) =>
        match cand (j + 1) with
        | none => .next s
        | some (k, q, r2, d2) =>
          let i := (s.sess k).inst
          let own := fun (key : Nat) => decide (0x10000 + (n.val * 4 + (j + 1)) * 8 ≤ key ∧ key < 0x10000 + (n.val * 4 + (j + 1)) * 8 + 8)
          let deficit := (d2.filter (fun e => own e.1)).foldl (fun (t : Tbl Nat) e => t.set 0 e.1 e.2) (d.filter (fun e => !own e.1))
          let rotor := ((s.fab.rotor.set 0 (0x2000 + n.val) r).set 0 (0x8000 + n.val * 4 + (j + 1)) r2).set 0
            (0x10000 + (n.val * 4 + (j + 1)) * 8 + i) k
          have s := { s with fab := { s.fab with rotor := rotor, deficit := deficit } }
          .next ((s.sendQueued k q).reopenFull k)

/-- The retry limit (R327): 0 acts as 1. -/
def State.retryLimit (s : State) : Nat := max 1 (s.fld R.FAB_ACK_CFG F.FAB_ACK_CFG_retry_limit)

/-- ACK_DEADLINE (R327): a miss counts, doubles the packet's next deadline and sends it again; retry_limit misses in a
row, or 8,191 attempts, fail the session. An unacknowledged GEN_NOTICE is repeated (R335). -/
def execAckDeadline (k : SessId) (seq : Nat) (s : State) : Out :=
  let x := s.sess k.val
  match x.unacked.find? (fun q => q.pkt.seq == seq) with
  | none => .next (if x.notice && x.state == .opened then s.queueControl k.val 8 (bytesOf (s.gen x.inst) 2) else s)
  | some q =>
    if x.state ≠ .opened then .next s
    else
      let x := { x with deadlines := min 0xFFFFFFFF (x.deadlines + 1), missRun := x.missRun + 1, periodMiss := true }
      have s := ((s.setSess k.val x).inc (R.FAB_LP_ACK_DEADLINE x.port)).alarmEvent 7
      .next (if x.missRun ≥ s.retryLimit || decide (q.pkt.attempt ≥ 8191) then s.failSession k.val 1 else s.retransmit k.val seq true)

/-- ACK_DELAY (R325). -/
def execAckDelay (k : SessId) (s : State) : Out :=
  .next (if (s.sess k.val).unackedRx > 0 then s.sendAck k.val else s)

/-- OPEN_REPEAT (R319). -/
def execOpenRepeat (k : SessId) (s : State) : Out :=
  let x := s.sess k.val
  match x.openAck with
  | some p => .next (if x.state = .opening ∧ !x.waitsEpoch then s.emit k.val p else s)
  | none => .next s

/-- OPENING_TIMEOUT (R319). -/
def execOpeningTimeout (k : SessId) (s : State) : Out :=
  .next (if (s.sess k.val).state = .opening then s.failSession k.val 0 else s)

/-- FAILED_REOPEN (R319): the initiator sends OPEN with a new epoch, the responder listens. -/
def execFailedReopen (k : SessId) (nonce : BitVec 128) (s : State) : Out :=
  let x := s.sess k.val
  if x.state ≠ .failed then .next s
  else if x.responder then .next (s.setSess k.val { x with state := .listen })
  else .next (s.sendOpen k.val nonce)

/-- A session's rate after a period (R329), in units of line rate / 4,096, rounded down. -/
def nextRate (x : Session) (aiDiv : Nat) : Nat :=
  let r :=
    if x.periodCe > 0 then
      let acked := max x.periodAcked x.periodCe
      x.rate * (2 * acked - x.periodCe) / (2 * acked)
    else if x.periodMiss then x.rate * 7 / 8
    else if x.doubling then x.rate * 2
    else x.rate + 4096 / max 1 aiDiv
  max 4 (min 4096 r)

/-- RATE_PERIOD (R329). -/
def execRatePeriod (k : SessId) (s : State) : Out :=
  let x := s.sess k.val
  if x.state ≠ .opened then .next s
  else .next (s.setSess k.val { x with
    rate := nextRate x (s.fld R.FAB_RC_CFG F.FAB_RC_CFG_ai_div), doubling := x.doubling && x.periodCe == 0 && !x.periodMiss,
    periodAcked := 0, periodCe := 0, periodMiss := false })

/-- SESSION_IDLE (R329): a cold restart of the rate. -/
def execSessionIdle (k : SessId) (s : State) : Out :=
  let x := s.sess k.val
  .next (if x.state = .opened then s.setSess k.val { x with rate := 512, doubling := true } else s)

/-- EPOCH_COUNTER_WRITE (R320): the stored counter covers the next block; OPENs that waited are sent. -/
def execEpochCounterWrite (key : Fin 16) (s : State) : Out :=
  match s.fab.epochWrites.find? (fun e => e.1 == key.val) with
  | none => .next s
  | some e =>
    have s := { s with
      fab := { s.fab with epochWrites := s.fab.epochWrites.filter (fun y => y.1 != key.val) },
      host := { s.host with flash := { s.host.flash with epochs := s.host.flash.epochs.set 0 key.val e.2 } } }
    let waiting := s.sessions.filter (fun y => y.2.waitsEpoch && y.2.state == .opening && y.2.keyId == key.val)
    .next (waiting.foldl (fun s y => s.sendOpen y.1 y.2.ownNonce) s)

/-! ### Ports -/

/-- PORT_DOWN (R310). -/
def execPortDown (n : LPort) (s : State) : Out :=
  .next (if s.lpUp n.val then s.linkChange n.val false else s)

/-- PORT_RETRAIN (R310): each down port is retrained; those of `up` come up. A failed die's ports stay down (R458). -/
def execPortRetrain (up : BitVec 96) (s : State) : Out :=
  .next (s.allPorts.foldl (fun s n =>
    if !s.lpUp n && up.getLsbD n && !bitOf s.msys.noDie (n / 24) then s.linkChange n true else s) s)

/-- FAB_REFCLK_LOSS (R435): every port goes down. -/
def execFabRefclkLoss (s : State) : Out :=
  .next (s.allPorts.foldl (fun s n => if s.lpUp n then s.linkChange n false else s) s)

/-- GRATUITOUS_ARP (R315): one announcement per logical port that is up. -/
def execGratuitousArp (s : State) : Out :=
  .next { s with fab := { s.fab with announced := s.fab.announced + (s.allPorts.filter s.lpUp).length } }

/-! ### Pod time (R316, R317) -/

/-- The Sync and Delay_Req interval in ns. -/
def State.syncNs (s : State) : Nat := 1000000000 / 2 ^ clampTo 3 7 (s.fld R.FAB_PTP_CFG F.FAB_PTP_CFG_log_sync)

/-- PTP_MESSAGE (R316, R317): the first message of the timing peer sets pod time in one step, closing the alarm windows
(R450); later ones slew it forward by at most 200 ppm of an interval. Where the clock is ahead it only runs slower, which
no step shows. -/
def execPtpMessage (port : LPort) (m : PtpMsg) (s : State) : Out :=
  if !m.fromPeer then .next (s.stranger port.val)
  else if s.fld R.FAB_PTP_CFG F.FAB_PTP_CFG_grandmaster = 1 ∨ port.val ≠ s.fld R.FAB_PTP_CFG F.FAB_PTP_CFG_timing_port then .next s
  else
    have s := s.setReg R.FAB_PTP_OFFSET (BitVec.ofInt 64 m.offset)
    if !s.fab.everLocked then
      have s := (List.range 16).foldl (fun s n => s.closeAlarm n) s
      have s := { s with fab := { s.fab with everLocked := true, ptpLocked := true, ptpOffset := m.offset } }
      have s := s.setReg R.POD_TIME (BitVec.ofNat 64 m.masterTime)
      .next ((s.setFld R.FAB_PTP_STATUS F.FAB_PTP_STATUS_state 2).setFld R.FAB_PTP_STATUS F.FAB_PTP_STATUS_time_valid 1)
    else
      have s := if m.offset.natAbs > 10000 then
          s.log 2 0x48 ⟨6, port.val / 24, port.val⟩ (value := (BitVec.ofInt 64 m.offset).toNat) else s
      have s := { s with fab := { s.fab with ptpOffset := m.offset } }
      .next (if m.offset < 0 then s.add64 R.POD_TIME (min m.offset.natAbs (s.syncNs / 5000)) else s)

/-- PTP_SYNC_INTERVAL (R316): Sync as a master, Delay_Req on the timing port. -/
def execPtpSyncInterval (s : State) : Out :=
  .next { s with fab := { s.fab with ptpSent := s.fab.ptpSent + 1 } }

end Sys2Proof.Machine
end

