-- ==== Sys2Proof/Machine/RegBus.lean ====
section
/-! DEFINITION. Register accesses (R9, R28 to R31, R343) and the host's accesses through its BARs (R26, R341, R342). -/
namespace Sys2Proof.Machine

/-- What a written field holds afterwards (R9). -/
def fieldWrite (locked : Bool) (old v : Nat) (f : FieldRow) : Nat :=
  let o := bitsOf old f.lo f.len
  let n := bitsOf v f.lo f.len
  match f.access with
  | .rw => n
  | .ro => o
  | .wo => 0
  | .w1c => o - (o &&& n)
  | .rwl => if locked then o else n

/-- A register's value after a write of `v`: every field by its access code; reserved fields are zero (R9, R10). -/
def rowWrite (locked : Bool) (old v : Nat) (fs : List FieldRow) : Nat :=
  fs.foldl (fun a f => a + fieldWrite locked old v f * 2 ^ f.lo) 0

namespace State

/-! ### Core control (R151, R155) -/

/-- What a core waits for outside itself leaves its queues: acquires, counter waits (DESIGN CHOICE: the manual does not
say what becomes of the waits of a sequencer that stops). -/
def dropCoreWaits (s : State) (c : Nat) : State :=
  let mine := fun (a : Agent) => match a with
    | .core k => k.val == c
    | _ => false
  let bob := fun (o : BobOp) => match o with
    | .wait k _ _ => k.val != c
    | .add _ _ _ _ => true
  { s with sch := { s.sch with
      semIn := (s.sch.semIn.map (fun e => (e.1, e.2.filter (fun o => !(o.acquire && mine o.who))))).filter (fun e => !e.2.isEmpty),
      semWait := (s.sch.semWait.map (fun e => (e.1, e.2.filter (fun o => !mine o.who)))).filter (fun e => !e.2.isEmpty),
      bobIn := (s.sch.bobIn.map (fun e => (e.1, e.2.filter bob))).filter (fun e => !e.2.isEmpty),
      bobWait := (s.sch.bobWait.map (fun e => (e.1, e.2.filter bob))).filter (fun e => !e.2.isEmpty) } }

/-- The sequencer stops at the next bundle boundary: the work item is to end with ABORTED once its queues drain. -/
def stopCore (s : State) (c : Nat) : State :=
  let k := s.core c
  if k.ending.isSome || !(k.runq.any (fun p => p.phase == .running)) then s
  else (s.dropCoreWaits c).setCore c { k with ending := some 0x06, bundle := [], fetchMiss := none, semSent := none, semGrant := none,
                                              bobSent := none, bobGrant := none, rcvWait := none, rcvExpired := false, fence := none }

def invalidateIcache (s : State) (c : Nat) : State := s.setCore c { s.core c with icache := [] }

/-- A write of CORE_SEQ_CTRL. -/
def writeSeqCtrl (s : State) (c v : Nat) : State :=
  have s := if bitOf v 1 then s.invalidateIcache c else s
  if bitOf v 0 then s.stopCore c else s

/-! ### One register -/

/-- The per-core block of an absent core reads as zero and ignores writes (R29). -/
def inAbsentCore (s : State) (off : Nat) : Bool :=
  decide (0x2000000 ≤ off ∧ off < 0x2800000) && s.absent ((off - 0x2000000) / 0x10000)

/-- The registers of a logical port that its port's configuration does not use read as zero (R15); writes of them are ignored,
as those of an absent core's block are (DEDUCED). -/
def inUnusedPort (s : State) (off : Nat) : Bool :=
  (decide (0xE02000 ≤ off ∧ off < 0xE03800) && !s.lpExists ((off - 0xE02000) / 0x40)) ||
  (decide (0xE05000 ≤ off ∧ off < 0xE05300) && !s.lpExists ((off - 0xE05000) / 8))

def inAbsentUnit (s : State) (off : Nat) : Bool := s.inAbsentCore off || s.inUnusedPort off

/-- The session that FAB_SESS_INDEX names, and its state, rate and counts. -/
def sessShown (s : State) : Nat := s.fld R.FAB_SESS_INDEX F.FAB_SESS_INDEX_index

def sessStatusWord (s : State) : Nat :=
  let x := s.sess s.sessShown
  let st := match x.state with
    | .closed => 0 | .listen => 1 | .opening => 2 | .opened => 3 | .failed => 4
  st + x.port % 2 ^ 7 * 2 ^ 3 + x.inst % 8 * 2 ^ 10 + min 8191 x.unacked.length * 2 ^ 16

/-- A read of the register whose first byte is at `off`, with its side effect. -/
def readReg (s : State) (req : Requester) (off : Nat) : Word × State :=
  match rowAt off with
  | none => (0, s)
  | some r =>
    if s.inAbsentUnit off then (0, s)
    else match r.name, dimsIdx r.dims (off - r.off) with
      | "THM_EVENT", _ => s.popEvent
      | "POD_STEP", _ => (s.podStep req, s)
      | "SCH_POOL_TAKE", [p] =>
        let (o, s) := s.takeSlot p
        (BitVec.ofNat 64 (takeWord o), s)
      | "FAB_SESS_STATUS", _ => (BitVec.ofNat 64 s.sessStatusWord, s)
      | "FAB_SESS_RATE", _ => (BitVec.ofNat 64 (s.sess s.sessShown).rate, s)
      | "FAB_SESS_TX_PKTS", _ => (BitVec.ofNat 64 (s.sess s.sessShown).txPkts, s)
      | "FAB_SESS_RETX", _ => (BitVec.ofNat 64 (s.sess s.sessShown).retx, s)
      | "FAB_SESS_ACK_DEADLINE", _ => (BitVec.ofNat 64 (s.sess s.sessShown).deadlines, s)
      | _, _ => (s.reg off, s)

/-- A write by access codes alone. -/
def writeGeneric (s : State) (r : RegRow) (off v : Nat) : State :=
  s.setReg off (BitVec.ofNat 64 (rowWrite (s.fld R.GLB_STATUS F.GLB_STATUS_cfg_locked = 1) (s.reg off).toNat v r.fields))

/-- A write that stands only while bit 0 of a configuration register is 0. -/
def writeUnlessOn (s : State) (r : RegRow) (cfg off v : Nat) : State :=
  if s.regBit cfg 0 then s else s.writeGeneric r off v

/-- A write of a register of power and reset. -/
def writePwrReg (s : State) (r : RegRow) (off v : Nat) : State :=
  match r.name, dimsIdx r.dims (off - r.off) with
  | "PWR_DIE_REQ", [d] => s.writeDieReq d (v % 2 ^ 12)
  | "PWR_RESET", _ => s
  | _, _ => s.writeGeneric r off v

/-- A write of a register of the host block. -/
def writeHstReg (s : State) (r : RegRow) (off v : Nat) : State :=
  match r.name, dimsIdx r.dims (off - r.off) with
  | "HST_POD_SNAP", _ => if bitOf v 0 then s.podSnap else s
  | "HST_PQ_TAIL", [q] => if h : q < 64 then s.writeQTail ⟨.pf, ⟨q, h⟩⟩ (v % 2 ^ 16) else s
  | "HST_Q_TAIL", [k, q] => if h : k < 8 ∧ q < 64 then s.writeQTail ⟨.inst ⟨k, h.1⟩, ⟨q, h.2⟩⟩ (v % 2 ^ 16) else s
  | "HST_PQ_BASE", _ => s.writeUnlessOn r (off + 0x10) off v
  | "HST_PQ_CPL_BASE", _ => s.writeUnlessOn r (off + 8) off v
  | "HST_Q_BASE", _ => s.writeUnlessOn r (off + 0x10) off v
  | "HST_Q_CPL_BASE", _ => s.writeUnlessOn r (off + 8) off v
  | _, _ => s.writeGeneric r off v

/-- A write of a register of the scheduler. -/
def writeSchReg (s : State) (req : Requester) (r : RegRow) (off v : Nat) : State :=
  match r.name, dimsIdx r.dims (off - r.off) with
  | "SCH_SEM", [n] => s.writeSem n (v % 2 ^ 16)
  | "SCH_BOB_VALUE", [n] => s.writeBob n (v % 2 ^ 32)
  | "SCH_BOB_LIMIT", [n] => (s.writeGeneric r off v).showBob n
  | "SCH_BOB_STATUS", [n] => (s.writeGeneric r off v).showBob n
  | "SCH_POOL_CFG", [p] => s.writePoolCfg p v
  | "SCH_POOL_BASE", [p] => if s.poolOn p then s else s.writeGeneric r off v
  | "SCH_POOL_SLOT", [p] => if s.poolOn p then s else s.writeGeneric r off v
  | "SCH_POOL_RETURN", [p] => s.returnSlot p (v % 2 ^ 48) (reqAgent req) (s.reqInstOf req)
  | _, _ => s.writeGeneric r off v

/-- A write of a register of the KV spaces. -/
def writeKvReg (s : State) (r : RegRow) (off v : Nat) : State :=
  match r.name, dimsIdx r.dims (off - r.off) with
  | "KV_SPACE_CFG", [n] => s.writeKvCfg n v
  | "KV_SPACE_OWNER", [n] => s.writeUnlessOn r (R.KV_SPACE_CFG n) off v
  | "KV_SPACE_LIMITS", [n] => s.writeUnlessOn r (R.KV_SPACE_CFG n) off v
  | "KV_POOL_FRAMES", [n] => s.writeUnlessOn r (R.KV_SPACE_CFG n) off v
  | "KV_L1_BASE", [n] => s.writeUnlessOn r (R.KV_SPACE_CFG n) off v
  | "KV_L2_BASE", [n] => s.writeUnlessOn r (R.KV_SPACE_CFG n) off v
  | "KV_POOL_BASE", [n] => s.writeUnlessOn r (R.KV_SPACE_CFG n) off v
  | "KV_TREE_BASE", [n] => s.writeUnlessOn r (R.KV_SPACE_CFG n) off v
  | "KV_TOKEN_BASE", [n] => s.writeUnlessOn r (R.KV_SPACE_CFG n) off v
  | _, _ => s.writeGeneric r off v

/-- A write of a register of the Seam engines, the vote and the fabric. -/
def writeLinkReg (s : State) (r : RegRow) (off v : Nat) : State :=
  match r.name, dimsIdx r.dims (off - r.off) with
  | "SEAM_GRP_BASE", [i, g] => s.writeGroup i g v
  | "SEAM_GRP_CALL", [i, g] => if s.regBit (R.SEAM_GRP_BASE i g) 48 then s else s.writeGeneric r off v
  | "SEAM_VOTE_CFG", [i] => (s.writeGeneric r off v).showVote i
  | "FAB_SESS_TX_PKTS", _ => s.setSess s.sessShown { s.sess s.sessShown with txPkts := v }
  | "FAB_SESS_RETX", _ => s.setSess s.sessShown { s.sess s.sessShown with retx := v % 2 ^ 32 }
  | "FAB_SESS_ACK_DEADLINE", _ => s.setSess s.sessShown { s.sess s.sessShown with deadlines := v % 2 ^ 32 }
  | _, _ => s.writeGeneric r off v

/-- A write of a register of ingest and the codecs. -/
def writeMediaReg (s : State) (r : RegRow) (off v : Nat) : State :=
  match r.name, dimsIdx r.dims (off - r.off) with
  | "ING_RING_TAIL", [i] => s.writeMediaTail false i (v % 4096)
  | "ING_RING_BASE", [i] => s.writeUnlessOn r (R.ING_RING_CFG i) off v
  | "ING_RING_CPL_BASE", [i] => s.writeUnlessOn r (R.ING_RING_CFG i) off v
  | "ING_STRM_CFG", [x] => s.writeStrmCfg x v
  | "ING_STRM_SET_TARGET", [x] => s.installSettings x v
  | "CDC_RING_TAIL", [i] => s.writeMediaTail true i (v % 4096)
  | "CDC_RING_BASE", [i] => s.writeUnlessOn r (R.CDC_RING_CFG i) off v
  | "CDC_RING_CPL_BASE", [i] => s.writeUnlessOn r (R.CDC_RING_CFG i) off v
  | "CDC_ENC_CFG", [t] => s.writeEncCfg t v
  | "CDC_ENC_SESSION", [t] => s.writeUnlessOn r (R.CDC_ENC_CFG t) off v
  | "CDC_ENC_KEY", [t] => s.requestKey t v
  | _, _ => s.writeGeneric r off v

/-- A write of the whole register whose first byte is at `off`: the commands' registers act, the others follow their access
codes. PWR_RESET and RAS_MAINT act by REG_WRITE alone (R343). -/
def writeReg (s : State) (req : Requester) (off v : Nat) : State :=
  match rowAt off with
  | none => s
  | some r =>
    if s.inAbsentUnit off then s
    else if off < 0x200000 then s.writeGeneric r off v
    else if off < 0x400000 then s.writePwrReg r off v
    else if off < 0x600000 then s.writeHstReg r off v
    else if off < 0x800000 then s.writeSchReg req r off v
    else if off < 0xA00000 then s.writeGeneric r off v
    else if off < 0xC00000 then s.writeKvReg r off v
    else if off < 0x1000000 then s.writeLinkReg r off v
    else if off < 0x1400000 then s.writeMediaReg r off v
    else if off = R.RAS_MAINT then s
    else if 0x2000000 ≤ off ∧ r.off = R.CORE_SEQ_CTRL 0 then s.writeSeqCtrl ((off - 0x2000000) / 0x10000) v
    else s.writeGeneric r off v

/-! ### Accesses of 4 and 8 bytes (R30, R31) -/

/-- Whether a 64-bit register begins at an offset. -/
def wide (off : Nat) : Bool :=
  match rowAt off with
  | some r => decide (r.bytes = 8)
  | none => false

/-- The register that an access at `off` belongs to. -/
def baseOff (off : Nat) : Nat := if off % 8 = 4 && wide (off - 4) then off - 4 else off

/-- The log window stands outside the register table (R448). -/
def inLogWindow (off : Nat) : Bool := decide (0x1410000 ≤ off ∧ off < 0x1420000)

/-- A 4-byte read: of a low word, which captures the high word for the requester; of a high word, captured or live; of a
32-bit register. -/
def read4 (s : State) (req : Requester) (off : Nat) : Nat × State :=
  if inLogWindow off then (natOfBytes ((List.range 4).map (fun j => s.logWindowByte (off - 0x1410000 + j))), s)
  else if wide off then
    let (w, s) := s.readReg req off
    let rest := s.captured.filter (fun h => !(h.req == req && h.off == off))
    (w.toNat % 2 ^ 32, { s with captured := ⟨req, off, BitVec.ofNat 32 (w.toNat / 2 ^ 32)⟩ :: rest })
  else if off % 8 = 4 && wide (off - 4) then
    match s.captured.find? (fun h => h.req == req && h.off == off - 4) with
    | some h => (h.val.toNat, { s with captured := s.captured.filter (fun h => !(h.req == req && h.off == off - 4)) })
    | none => ((s.readReg req (off - 4)).1.toNat / 2 ^ 32, s)
  else
    let (w, s) := s.readReg req off
    (w.toNat % 2 ^ 32, s)

/-- A register read of `size` bytes at `off`: other sizes and alignments read as all ones (R30). -/
def busRead (s : State) (req : Requester) (off size : Nat) : Nat × State :=
  if !(decide (size = 4 ∨ size = 8) && decide (off % size = 0)) then (2 ^ (8 * size) - 1, s)
  else if !s.reach req (baseOff off) then (2 ^ (8 * size) - 1, s.regRefused req off)
  else if size = 4 then s.read4 req off
  else if wide off then
    let (w, s) := s.readReg req off
    (w.toNat, s)
  else
    let (lo, s) := s.read4 req off
    let (hi, s) := s.read4 req (off + 4)
    (lo + hi * 2 ^ 32, s)

/-- A 4-byte write of a low word is held back; of a high word, it acts with the held low word, or with the register's
low word where none is held (R31; DESIGN CHOICE for a write-only register, whose low word is then 0). -/
def write4 (s : State) (req : Requester) (off v : Nat) : State :=
  if wide off then
    let rest := s.heldLow.filter (fun h => !(h.req == req && h.off == off))
    { s with heldLow := ⟨req, off, BitVec.ofNat 32 v⟩ :: rest }
  else if off % 8 = 4 && wide (off - 4) then
    let lo := match s.heldLow.find? (fun h => h.req == req && h.off == off - 4) with
      | some h => h.val.toNat
      | none => (s.reg (off - 4)).toNat % 2 ^ 32
    have s := { s with heldLow := s.heldLow.filter (fun h => !(h.req == req && h.off == off - 4)) }
    s.writeReg req (off - 4) (lo + v % 2 ^ 32 * 2 ^ 32)
  else s.writeReg req off (v % 2 ^ 32)

/-- A register write of `size` bytes at `off`; a host's direct write of a critical register has no effect (R343). -/
def busWrite (s : State) (req : Requester) (off size v : Nat) : State :=
  if !(decide (size = 4 ∨ size = 8) && decide (off % size = 0)) then s
  else if !s.reach req (baseOff off) then s.regRefused req off
  else if decide (req = .pf) && (critical (baseOff off) || (decide (size = 8) && critical (baseOff (off + 4)))) then
    s.directCritical off
  else if size = 4 then s.write4 req off v
  else if wide off then s.writeReg req off (v % 2 ^ 64)
  else (s.write4 req off (v % 2 ^ 32)).write4 req (off + 4) (v / 2 ^ 32)

/-! ### The host's BARs -/

def fnWho : Fn → Who
  | .pf => .pf
  | .vf k => .inst k.val

def fnUnit : Fn → LogUnit
  | .pf => ⟨0, 4, 0⟩
  | .vf k => ⟨0, 4, k.val + 1⟩

def fnInst : Fn → Option Nat
  | .pf => none
  | .vf k => some k.val

/-- A host access to an unmapped address or one that the firewall refuses: logged as WARN (R26, R408). -/
def hostDenied (s : State) (f : Fn) (st a : Nat) : State :=
  if st = 0x64 then s.firewallDenied (fnUnit f) (fnInst f) a
  else s.log 2 0x03 (fnUnit f) (fnInst f) (addr := a)

def hostAnswer (s : State) (f : Fn) (data : List Byte) (poisoned : Bool) : State :=
  { s with host := { s.host with reply := some ⟨fnReq f, data, poisoned⟩ } }

/-- Where a BAR2 offset points: Overcast, the Pocket slots, or nothing. -/
def bar2 (off : Nat) : Option Nat :=
  if off < 0x180000000 then some (0x10000000000 + off)
  else if 0x200000000 ≤ off ∧ off < 0x300000000 then some (0x11000000000 + (off - 0x200000000))
  else none

/-- Where a BAR4 offset points: the device of the function's window and the address there. -/
def bar4 (s : State) (f : Fn) (off : Nat) : Nat × Nat :=
  let w := match f with
    | .pf => R.HST_BAR4_WINDOW
    | .vf k => R.HST_VF_BAR4_WINDOW k.val
  let fi := match f with
    | .pf => 0
    | .vf k => k.val + 1
  let size := 2 ^ clampTo 34 40 (Config.bar4Log2 fi)
  (s.fld w F.HST_BAR4_WINDOW_device,
   if off < size then s.fld w F.HST_BAR4_WINDOW_base / size * size + off else 2 ^ 48)

/-- HBM and the deep tier, which is what BAR4 shows. -/
def bar4Ok (a n : Nat) : Bool := decide (a + n ≤ 0x6000000000 ∨ 0x8000000000 ≤ a ∧ a + n ≤ 0x10000000000)

/-- A host read of module memory: unmapped or refused reads all ones; poisoned data carries the EP bit (R256, R341, R439). -/
def hostRead (s : State) (f : Fn) (a n : Nat) : State :=
  match s.checkRange (fnWho f) a n with
  | 0 =>
    if s.windowHeld a n then { s with host := { s.host with reply := none } }
    else
      let st := s.readStatus a n
      (s.readFailed st (fnUnit f) (fnInst f) false a).hostAnswer f (s.bytesAt a n) (decide (st ≠ 0))
  | st => (s.hostDenied f st a).hostAnswer f (List.replicate n 0xFF) false

/-- A host write of module memory. -/
def hostWrite (s : State) (f : Fn) (a : Nat) (data : List Byte) : State :=
  match s.checkRange (fnWho f) a data.length with
  | 0 => s.putBytes a data
  | st => s.hostDenied f st a

/-- A host access to another member through BAR4 (R342): the transaction, or none where it has no session. -/
def remoteBar (s : State) (f : Fn) (dev a n : Nat) (data : Option (List Byte)) : State :=
  let sess := match f with
    | .pf => s.mgmtSession dev
    | .vf k => s.route k.val dev 2
  let fail := fun (st : Nat) =>
    have s := s.remoteError f st a { Session.reset with peerPod := s.podNumber, peerDevice := dev } 0
    if data.isNone then s.hostAnswer f (List.replicate n 0xFF) false else s
  match sess with
  | none => fail 0x44
  | some k =>
    let req : TxnReq := ⟨k, 2, if data.isNone then 2 else 1, 0, a, n, data.getD [], false, none, 0⟩
    let inst : Option InstId := match f with
      | .pf => none
      | .vf i => some i
    let s0 := if data.isNone then { s with host := { s.host with reply := none } } else s
    (s0.startTxn req (if data.isNone then .barRead f else .barWrite f) inst
      ((fnInst f).map s.gen |>.getD 0)).getD s

end State

/-! ### Commands -/

/-- REGISTER_WRITE (R9, R30): `size` bytes at an offset of the register region. -/
def execRegisterWrite (req : Requester) (off size val : Nat) (s : State) : Out := .next (s.busWrite req off size val)

/-- SPLIT_LOW_WORD_READ (R31): a 4-byte read at the first byte of a 64-bit register. -/
def execSplitLowWordRead (req : Requester) (off : Nat) (s : State) : Out :=
  let (v, s) := s.busRead req off 4
  .next { s with host := { s.host with reply := some ⟨req, bytesOf v 4, false⟩ } }

/-- SPLIT_LOW_WORD_WRITE (R31): a 4-byte write at the first byte of a 64-bit register. -/
def execSplitLowWordWrite (req : Requester) (off : Nat) (val : W32) (s : State) : Out :=
  .next (s.busWrite req off 4 val.toNat)

/-- SPLIT_HIGH_WORD_WRITE (R31): a 4-byte write of the high word of the 64-bit register at `off`. -/
def execSplitHighWordWrite (req : Requester) (off : Nat) (val : W32) (s : State) : Out :=
  .next (s.busWrite req (off + 4) 4 val.toNat)

/-- HOST_BAR_READ (R26, R341, R342). -/
def execHostBarRead (f : Fn) (bar off len : Nat) (s : State) : Out :=
  if bar = 0 then
    match f with
    | .pf =>
      if off ≥ 0x10000000 then .next ((s.hostDenied f 0x03 (0x18000000000 + off)).hostAnswer f (List.replicate len 0xFF) false)
      else
        let (v, s) := s.busRead .pf off len
        .next (s.hostAnswer f (bytesOf v len) false)
    | .vf k =>
      if off ≥ 0x1000 then .next ((s.hostDenied f 0x03 (0x18000000000 + off)).hostAnswer f (List.replicate len 0xFF) false)
      else
        let (v, s) := s.busRead (.vf k) (0x410000 + k.val * 0x1000 + off) len
        .next (s.hostAnswer f (bytesOf v len) false)
  else if bar = 2 then
    match State.bar2 off, State.bar2 (off + len - 1) with
    | some a, some b =>
      if b = a + len - 1 then .next (s.hostRead f a len)
      else .next ((s.hostDenied f 0x03 a).hostAnswer f (List.replicate len 0xFF) false)
    | _, _ => .next ((s.hostDenied f 0x03 off).hostAnswer f (List.replicate len 0xFF) false)
  else if bar = 4 then
    let (dev, a) := s.bar4 f off
    if !State.bar4Ok a len then .next ((s.hostDenied f 0x03 a).hostAnswer f (List.replicate len 0xFF) false)
    else if dev = s.podDevice then .next (s.hostRead f a len)
    else .next (s.remoteBar f dev a len none)
  else .next ((s.hostDenied f 0x03 off).hostAnswer f (List.replicate len 0xFF) false)

/-- HOST_BAR_WRITE (R26, R341 to R343). -/
def execHostBarWrite (f : Fn) (bar off : Nat) (data : Bytes) (s : State) : Out :=
  let len := data.length
  if bar = 0 then
    match f with
    | .pf =>
      if off ≥ 0x10000000 then .next (s.hostDenied f 0x03 (0x18000000000 + off))
      else .next (s.busWrite .pf off len (natOfBytes data))
    | .vf k =>
      if off ≥ 0x1000 then .next (s.hostDenied f 0x03 (0x18000000000 + off))
      else .next (s.busWrite (.vf k) (0x410000 + k.val * 0x1000 + off) len (natOfBytes data))
  else if bar = 2 then
    match State.bar2 off, State.bar2 (off + len - 1) with
    | some a, some b => if b = a + len - 1 then .next (s.hostWrite f a data) else .next (s.hostDenied f 0x03 a)
    | _, _ => .next (s.hostDenied f 0x03 off)
  else if bar = 4 then
    let (dev, a) := s.bar4 f off
    if !State.bar4Ok a len then .next (s.hostDenied f 0x03 a)
    else if dev = s.podDevice then .next (s.hostWrite f a data)
    else .next (s.remoteBar f dev a len (some data))
  else .next (s.hostDenied f 0x03 off)

/-- CORE_SEQ_STOP (R151): a write of stop in CORE_SEQ_CTRL. -/
def execCoreSeqStop (req : Requester) (c : CoreId) (s : State) : Out :=
  .next (if s.reach req (R.CORE_SEQ_CTRL c.val) then s.writeReg req (R.CORE_SEQ_CTRL c.val) 1
    else s.regRefused req (R.CORE_SEQ_CTRL c.val))

/-- CORE_SEQ_ICINV (R155): a write of icinv in CORE_SEQ_CTRL. -/
def execCoreSeqIcinv (req : Requester) (c : CoreId) (s : State) : Out :=
  .next (if s.reach req (R.CORE_SEQ_CTRL c.val) then s.writeReg req (R.CORE_SEQ_CTRL c.val) 2
    else s.regRefused req (R.CORE_SEQ_CTRL c.val))

end Sys2Proof.Machine
end

