-- ==== Sys2Proof/Machine/Bundle.lean ====
section
/-! DEFINITION. The wide bundle (R126 to R156): each slot command is judged as it is presented, and with the bundle's last
slot the bundle holds, faults or issues. -/
namespace Sys2Proof.Machine

/-! ### Slot words (R126 to R128) -/

/-- The opcodes that a slot's tables define. -/
def slotDefined (slot op : Nat) : Bool :=
  match slot with
  | 0 => decide (1 ≤ op ∧ op ≤ 4 ∨ op = 8 ∨ 0x10 ≤ op ∧ op ≤ 0x1A ∨ 0x20 ≤ op ∧ op ≤ 0x2A ∨ op = 0x30)
  | 1 => decide (1 ≤ op ∧ op ≤ 3 ∨ 8 ≤ op ∧ op ≤ 0x11)
  | 2 => decide (1 ≤ op ∧ op ≤ 3 ∨ 8 ≤ op ∧ op ≤ 0x11)
  | 3 => decide (1 ≤ op ∧ op ≤ 0x4F)
  | 4 => decide (1 ≤ op ∧ op ≤ 4)
  | 5 => decide (op = 1)
  | 6 => decide (0x10 ≤ op ∧ op ≤ 0x13 ∨ 0x18 ≤ op ∧ op ≤ 0x1A ∨ op = 0x20 ∨ op = 0x21 ∨ op = 0x28 ∨ op = 0x29)
  | _ => decide (1 ≤ op ∧ op ≤ 3 ∨ op = 8 ∨ op = 9 ∨ op = 0x10 ∨ op = 0x11 ∨ op = 0x18 ∨ op = 0x19 ∨ op = 0x20 ∨ op = 0x21)

def slotOp (w : SlotWord) : Nat := w.opcode.toNat

/-- An all-zero slot word, the no-op. -/
def slotNop (w : SlotWord) : Bool := decide (w = ⟨0, 0, false, 0, 0, 0, 0, 0⟩)

/-- The immediate as an address offset or a branch offset: 30-bit two's complement. -/
def slotImm (w : SlotWord) : Int := w.imm.toInt

/-- An operand field under R128: unused and zero, or a register number within its file. -/
inductive Field where
  | unused | file (n : Nat)
  deriving DecidableEq, Repr

def Field.ok (f : Field) (v : Nat) : Bool :=
  match f with
  | .unused => v == 0
  | .file n => decide (v < n)

/-- The fields of a slot word follow their opcode's table: d, x, y, whether bnd is used, and the largest immediate; none
where every immediate is admitted. -/
def fieldsOk (w : SlotWord) (d x y : Field) (bnd : Bool) (immMax : Option Nat) : Bool :=
  d.ok w.d.val && x.ok w.x.val && y.ok w.y.val && (bnd || w.bnd.val == 0) &&
  (match immMax with
   | some m => decide (w.imm.toNat ≤ m)
   | none => true)

/-- The numbers of registers in the files of R129. -/
abbrev fS : Field := .file 64
abbrev fA : Field := .file 32
abbrev fB : Field := .file 16
abbrev fV : Field := .file 32
abbrev fP : Field := .file 8

/-- What is judged of a slot word before its bundle issues: whether it follows R128, the registers it writes and reads,
whether a fence holds it back, and what it does when its sources are ready. -/
structure Judge where
  legal : Bool
  writes : List RegRef
  reads : List RegRef
  ordered : Bool
  out : PlanOut
  deriving DecidableEq, Repr

namespace State

/-! ### The core that issues -/

/-- The copy that runs on a core. -/
def runningCopy (s : State) (c : Nat) : Option Copy := (s.core c).runq.find? (fun p => decide (p.phase = .running))

/-- The sequencer presents bundles: a copy runs and its work item is not ending. -/
def issuing (s : State) (c : Nat) : Bool := (s.runningCopy c).isSome && (s.core c).ending.isNone

/-- Under whom a core's accesses and items run (R257, R407). -/
def issueOwner (s : State) (c : Nat) : Owner :=
  match s.runningCopy c with
  | some p => { p.owner with voteExcl := s.voteExcl c }
  | none => ⟨none, 0, s.voteExcl c⟩

def pcOf (s : State) (c : Nat) : Addr := BitVec.ofNat 48 (s.fld (R.CORE_SEQ_PC c) F.CORE_SEQ_PC_pc)

/-- A register whose pending write an instruction would have to wait for (R131). -/
def pending? (k : Core) (r : RegRef) : Bool := k.pend.any (fun p => p.live && decide (p.dest = r))

/-- An address register plus an offset, modulo 2^48 (R127). -/
def effAddr (k : Core) (w : SlotWord) : Nat := (k.areg w.x.val + BitVec.ofInt 48 (slotImm w)).toNat

/-! ### Memory accesses of slots (R140, R141, R144) -/

/-- The first fault that an access of `n` bytes at each of `segs` meets: alignment, the named bounds pair, mapping and the
firewall, and, for a read, what the data is. -/
def accessFault (s : State) (c : Nat) (bnd : Nat) (write : Bool) (align n : Nat) (segs : List Nat) : Option (Nat × Nat) :=
  let b := (s.core c).breg bnd
  let inB := fun a => bitOf b.perm.toNat (if write then 1 else 0) && decide (b.base.toNat ≤ a ∧ a + n ≤ b.limit.toNat)
  let who := whoOf (s.issueOwner c)
  match segs.find? (fun a => decide (a % align ≠ 0)) with
  | some a => some (0x1A, a)
  | none => match segs.find? (fun a => !inB a) with
    | some a => some (0x11, a)
    | none => segs.findSome? (fun a =>
        let st := if write then s.checkRange who a n else s.engineRead who a n
        if st = 0 then none else some (st, a))

/-- The plan of a memory access that has effect `e` when nothing faults. -/
def accessPlan (s : State) (c : Nat) (w : SlotWord) (write : Bool) (align n : Nat) (segs : List Nat) (e : Eff) : PlanOut :=
  match s.accessFault c w.bnd.val write align n segs with
  | some (st, a) => .fault st write w.bnd.val a
  | none => .ok [e]

/-- The sixteen segments of VLD.S and VST.S. -/
def segments (k : Core) (w : SlotWord) : List Nat :=
  (List.range 16).map (fun j => (effAddr k w + j * (k.sreg w.y.val).toNat) % 2 ^ 48)

/-! ### Effects of an issuing bundle -/

/-- A later write supersedes those pending to the same register (R131). -/
def supersede (k : Core) (r : RegRef) : Core :=
  { k with pend := k.pend.map (fun p => if p.dest = r then { p with live := false } else p) }

def putS (s : State) (c i : Nat) (v : BitVec 64) : State := s.setCore c ((supersede (s.core c) (.s i)).setS i v)
def putA (s : State) (c i : Nat) (v : Addr) : State := s.setCore c ((s.core c).setA i v)
def putB (s : State) (c i : Nat) (v : Bnd) : State := s.setCore c ((s.core c).setB i v)
def putV (s : State) (c i : Nat) (v : BitVec 8192) : State := s.setCore c ((supersede (s.core c) (.v i)).setV i v)
def putP (s : State) (c i : Nat) (v : Bool) : State := s.setCore c ((s.core c).setP i v)

/-- Loaded data as a scalar register holds it; the extension of a short load is not given. -/
def extended (n v : Nat) : BitVec 64 :=
  if n < 8 ∧ Config.signedLoad n then BitVec.ofInt 64 (signedOf (8 * n) v) else BitVec.ofNat 64 v

/-- Loaded data lands in its register. -/
def putLoaded (s : State) (c : Nat) (d : RegRef) (n v : Nat) : State :=
  match d with
  | .s i => s.putS c i (extended n v)
  | .v i => s.putV c i (BitVec.ofNat 8192 v)
  | _ => s

/-- Memory whose data a core waits for: all but its own Pocket and the registers (R132). -/
def isFar (s : State) (c : Nat) (a : Nat) : Bool :=
  match s.region a with
  | .pocket k => decide (k ≠ c)
  | .regs _ => false
  | _ => true

/-- A load: registers are read through the bus, the core's own Pocket at once, other memory by MEMORY_RESPONSE with the
data as it stands now. -/
def effLoad (s : State) (c : CoreId) (pc : Addr) (slot bnd : Nat) (d : RegRef) (segs : List Nat) (n : Nat) : State :=
  let a := segs.headD 0
  if inRegs a && segs.length == 1 && decide (n ≤ 8) then
    let (v, s) := s.busRead (.core c) (a - 0x18000000000) n
    s.putLoaded c.val d n v
  else
    let data := segs.flatMap (fun x => s.bytesAt x n)
    if segs.any (s.isFar c.val) then
      if d = .s 0 then s
      else
        let k := supersede (s.core c.val) d
        s.setCore c.val { k with pend := k.pend ++ [⟨d, .load segs n data false, pc, slot, bnd, true⟩] }
    else s.putLoaded c.val d n (natOfBytes data)

/-- A store of `n` bytes to each segment, the first from the low bytes. -/
def effStore (s : State) (c : CoreId) (segs : List Nat) (n v : Nat) : State :=
  let a := segs.headD 0
  if inRegs a && segs.length == 1 && decide (n ≤ 8) then s.busWrite (.core c) (a - 0x18000000000) n v
  else ((List.range segs.length).zip segs).foldl (fun s e => s.putNat e.2 n (v / 256 ^ (e.1 * n))) s

/-- FENCE.POD probes each session that holds unacknowledged packets of the core (R326). -/
def probeSessions (s : State) (c : CoreId) : State :=
  (s.sessions.filter (fun e => e.2.unacked.any (fun q => q.core == some c))).foldl (fun s e => s.queueControl e.1 9 []) s

/-- The instance for which a core's semaphore and counter operations run. -/
def issueInst (s : State) (c : Nat) : Nat := ((instOf (s.issueOwner c)).getD 0)

def sendSem (s : State) (c : CoreId) (n : Nat) (acquire : Bool) : State :=
  let op : SemOp := ⟨acquire, .core c, s.issueInst c.val, (s.issueOwner c.val).gen⟩
  s.setSch { s.sch with semIn := s.sch.semIn.set [] n (s.sch.semIn.get [] n ++ [op]) }

def sendBob (s : State) (n : Nat) (op : BobOp) : State :=
  s.setSch { s.sch with bobIn := s.sch.bobIn.set [] n (s.sch.bobIn.get [] n ++ [op]) }

/-- One effect, at bundle address `pc` in slot `slot`, with the bounds pairs that stood before the bundle (R133, R143). -/
def applyEff (s : State) (c : CoreId) (pc : Addr) (slot : Nat) (snap : List Bnd) (e : Eff) : State :=
  let k := s.core c.val
  match e with
  | .wS i v => s.putS c.val i v
  | .wA i v => s.putA c.val i v
  | .wB i v => s.putB c.val i v
  | .wV i v => s.putV c.val i v
  | .wP i v => s.putP c.val i v
  | .load d segs n bnd => s.effLoad c pc slot bnd d segs n
  | .store segs n v => s.effStore c segs n v
  | .mxIssue a => s.setCore c.val { k with mxq := k.mxq ++ [⟨BitVec.ofNat 1024 (s.natAt a 128), snap, s.issueOwner c.val⟩] }
  | .mxCollect d => (s.setCore c.val { k with mxStatus := 0 }).putS c.val d (BitVec.ofNat 64 k.mxStatus)
  | .mxAbort => s.abortAll c.val
  | .dmaIssue a =>
    let d := BitVec.ofNat 512 (s.natAt a 64)
    let it : DmaItem :=
      { id := s.host.nextWork, desc := d, snap := some snap, owner := s.issueOwner c.val, origin := .tag (dw d 0 8 3),
        stage := 0, waits := 0, err := 0, rbuf := [], done := none, result := 0 }
    have s := { s with host := { s.host with nextWork := s.host.nextWork + 1 } }
    s.setDmaList (.core c) (s.dmaList (.core c) ++ [it])
  | .dmaCollect d tag =>
    (s.setCore c.val { k with tagStatus := k.tagStatus.set 0 tag 0 }).putS c.val d (BitVec.ofNat 64 (k.tagStatus.get 0 tag))
  | .send target port msg =>
    let t := s.core target
    s.setCore target { t with ports := t.ports.set [] port (t.ports.get [] port ++ [msg]) }
  | .receive d port =>
    (match k.ports.get [] port with
     | [] => s
     | m :: rest =>
       (s.setCore c.val { k with ports := k.ports.set [] port rest, rcvWait := none, rcvExpired := false }).putV c.val d
         (BitVec.ofNat 8192 ((k.vreg d).toNat / 2 ^ 512 * 2 ^ 512 + m.toNat)))
  | .fence sc =>
    have s := s.setCore c.val { k with fence := some sc }
    if sc = .pod then s.probeSessions c else s
  | .semAcquire n => (s.setCore c.val { k with semSent := some n }).sendSem c n true
  | .semTaken d =>
    (s.setCore c.val { k with semSent := none, semGrant := none }).putS c.val d (BitVec.ofNat 64 (k.semGrant.getD 0))
  | .semRelease n => s.sendSem c n false
  | .bobAdd d n addend =>
    let id := s.host.nextWork
    have s := { s with host := { s.host with nextWork := s.host.nextWork + 1 } }
    let k := supersede k (.s d)
    have s := s.setCore c.val (if d = 0 then k else { k with pend := k.pend ++ [⟨.s d, .bob id, pc, slot, 0, true⟩] })
    s.sendBob n (.add c id d addend)
  | .bobWait n v => (s.setCore c.val { k with bobSent := some n }).sendBob n (.wait c v pc)
  | .bobTaken d =>
    (s.setCore c.val { k with bobSent := none, bobGrant := none }).putS c.val d (BitVec.ofNat 64 (k.bobGrant.getD 0))
  | .rcvWait port => s.setCore c.val { k with rcvWait := some port }
  | .icinv => s.invalidateIcache c.val
  | .halt code => s.setCore c.val { k with ending := some code }
  | .branch _ _ => s
  | .openLoop lc count len =>
    let k := k.setLc lc count
    s.setCore c.val (if count = 0 then k
      else { k with loops := ⟨lc, pc + 64, pc + BitVec.ofNat 48 (64 * len)⟩ :: k.loops })
  | .fp unit ev => s.fpEvent c.val unit ev

/-! ### Sequencing (R135 to R138) -/

/-- After its end bundle, the innermost open loop that ends there counts down and repeats, or closes and the next enclosing
one that ends there is tested: where the body starts again, the loops left, the core. -/
def loopEnd (pc : Addr) : List OpenLoop → Core → Option Addr × List OpenLoop × Core
  | [], k => (none, [], k)
  | l :: rest, k =>
    if l.last ≠ pc then
      let (t, rest', k) := loopEnd pc rest k
      (t, l :: rest', k)
    else
      let n := k.lcreg l.lc - 1
      let k := k.setLc l.lc n
      if n ≠ 0 then (some l.body, l :: rest, k) else loopEnd pc rest k

/-- The next bundle, and the loops that stay open. -/
def advance (s : State) (c : Nat) (pc : Addr) (effs : List Eff) : State :=
  let k := s.core c
  let taken := effs.findSome? (fun e => match e with
    | .branch t close => some (t, close)
    | _ => none)
  let (next, k) := match taken with
    | some (t, close) =>
      (t, if close then { k with loops := k.loops.filter (fun l => decide (l.body.toNat ≤ t.toNat ∧ t.toNat ≤ l.last.toNat)) }
          else k)
    | none =>
      let (t, loops, k) := loopEnd pc k.loops k
      (t.getD (pc + 64), { k with loops := loops })
  have s := s.setCore c k
  have s := s.setFld (R.CORE_SEQ_STATUS c) F.CORE_SEQ_STATUS_loop_depth k.loops.length
  s.setReg (R.CORE_SEQ_PC c) (BitVec.ofNat 64 next.toNat)

/-! ### Holds, faults, issue (R131, R142, R154, R155) -/

/-- The bundle is held for a cycle. -/
def holdBundle (s : State) (c : CoreId) (pc : Addr) (slot cause : Nat) (effs : List Eff) : State :=
  have s := (s.setFld (R.CORE_SEQ_STATUS c.val) F.CORE_SEQ_STATUS_state 2).setFld (R.CORE_SEQ_STATUS c.val)
    F.CORE_SEQ_STATUS_hold_cause cause
  have s := s.add64 (R.CORE_SEQ_STALLS c.val) 1
  effs.foldl (fun s e => s.applyEff c pc slot [] e) s

/-- A precise fault: it is recorded, and the work item is to end with its code once the queues drain (R142). -/
def faultBundle (s : State) (c : CoreId) (pc : Addr) (slot code : Nat) (write : Bool) (bnd addr : Nat) : State :=
  let o := s.issueOwner c.val
  have s := s.readFailed code (uCore c.val) (instOf o) o.voteExcl addr
  let v := code % 2 ^ 8 + slot % 8 * 2 ^ 8 + (if write then 2 ^ 11 else 0) + bnd % 16 * 2 ^ 12
  have s := s.setReg (R.CORE_SEQ_FAULT c.val) (BitVec.ofNat 64 v)
  have s := s.setReg (R.CORE_SEQ_FAULT_PC c.val) (BitVec.ofNat 64 pc.toNat)
  have s := s.setReg (R.CORE_SEQ_FAULT_ADDR c.val) (BitVec.ofNat 64 (addr % 2 ^ 54))
  have s := (s.setFld (R.CORE_SEQ_STATUS c.val) F.CORE_SEQ_STATUS_state 3).setFld (R.CORE_SEQ_STATUS c.val)
    F.CORE_SEQ_STATUS_hold_cause 0
  s.setCore c.val { s.core c.val with ending := some code, rcvWait := none, rcvExpired := false, fetchMiss := none }

/-- The first and the last byte of an instruction region (R154). -/
def inRegion (s : State) (c : Nat) (a n : Nat) : Bool :=
  (List.range 4).any (fun j =>
    let r := R.CORE_SEQ_IREG c j
    let base := s.fld r F.CORE_SEQ_IREG_base / 4096 * 4096
    let size := s.fld r F.CORE_SEQ_IREG_size * 4096
    decide (base ≤ a ∧ a + n ≤ base + size))

/-- The fetch of the bundle at `pc`: a fault code, a miss of its line (none on a hit). -/
def fetchOf (s : State) (c : Nat) (pc : Addr) : Nat × Option Nat :=
  let line := pc.toNat / 256
  if !s.inRegion c pc.toNat 64 then (0x19, none)
  else if (s.core c).icache.contains line then (0, none)
  else (s.engineRead (whoOf (s.issueOwner c)) pc.toNat 64, some line)

/-- A line's first miss is counted; the bundle waits for its line. -/
def fetchHold (s : State) (c : CoreId) (pc : Addr) (line : Nat) : State :=
  let k := s.core c.val
  have s := if k.fetchMiss = some line then s
    else (s.setCore c.val { k with fetchMiss := some line }).inc (R.CORE_SEQ_ICACHE_MISSES c.val)
  s.holdBundle c pc 0 6 []

/-- The lowest slot that writes a register which another slot writes too (R133). -/
def doubleWriter (ps : List SlotPlan) : Option Nat :=
  (ps.find? (fun p => ps.any (fun q => q.slot != p.slot && q.writes.any (fun r => p.writes.contains r)))).map (fun p => p.slot)

/-- The lowest slot that makes the bundle illegal. -/
def illegalSlot (ps : List SlotPlan) : Option Nat :=
  let word := (ps.find? (fun p => match p.out with
    | .fault 0x18 _ _ _ => true
    | _ => false)).map (fun p => p.slot)
  match word, doubleWriter ps with
  | some a, some b => some (min a b)
  | some a, none => some a
  | none, b => b

/-- The first slot that holds, with the cause and its effects; `asks` picks holds that send a request and wait for it. -/
def holdOf (ps : List SlotPlan) (asks : Bool) : Option (Nat × Nat × List Eff) :=
  ps.findSome? (fun p => match p.out with
    | .hold cause effs => if effs.isEmpty = asks then none else some (p.slot, cause, effs)
    | _ => none)

def faultOf (ps : List SlotPlan) : Option (Nat × Nat × Bool × Nat × Nat) :=
  ps.findSome? (fun p => match p.out with
    | .fault code write bnd a => some (p.slot, code, write, bnd, a)
    | _ => none)

/-- The bundle issues: its effects in ascending slot order, then the next bundle's address. -/
def issueBundle (s : State) (c : CoreId) (pc : Addr) (ps : List SlotPlan) : State :=
  let snap := (s.core c.val).snapshot
  let effs := ps.flatMap (fun p => match p.out with
    | .ok es => es.map (fun e => (p.slot, e))
    | _ => [])
  have s := (s.setFld (R.CORE_SEQ_STATUS c.val) F.CORE_SEQ_STATUS_state 1).setFld (R.CORE_SEQ_STATUS c.val)
    F.CORE_SEQ_STATUS_hold_cause 0
  have s := s.add64 (R.CORE_SEQ_BUNDLES c.val) 1
  have s := effs.foldl (fun s e => s.applyEff c pc e.1 snap e.2) s
  s.advance c.val pc (effs.map Prod.snd)

/-- The bundle has all its slots: fetch, legality, holds, faults, requests that hold, issue. -/
def finishBundle (s : State) (c : CoreId) (plans : List SlotPlan) : State :=
  let pc := s.pcOf c.val
  let ps := (List.range 8).filterMap (fun k => plans.find? (fun p => p.slot == k))
  match s.fetchOf c.val pc with
  | (0, some line) => s.fetchHold c pc line
  | (0, none) =>
    (match illegalSlot ps with
     | some slot => s.faultBundle c pc slot 0x18 false 0 0
     | none =>
       match holdOf ps false with
       | some (slot, cause, _) => s.holdBundle c pc slot cause []
       | none =>
         if (s.core c.val).fence.isSome && ps.any (fun p => p.mem) then s.holdBundle c pc 0 7 []
         else match faultOf ps with
           | some (slot, code, write, bnd, a) => s.faultBundle c pc slot code write bnd a
           | none =>
             match holdOf ps true with
             | some (slot, cause, effs) => s.holdBundle c pc slot cause effs
             | none => s.issueBundle c pc ps)
  | (st, _) => s.faultBundle c pc 0 st false 0 pc.toNat

/-- A slot's predicate admits it (R127, R134). -/
def guarded (k : Core) (w : SlotWord) : Bool := k.preg w.pred.val != w.pneg

/-- The plan of a slot word under its judgement. -/
def planOf (k : Core) (slot : Nat) (w : SlotWord) (j : Judge) : SlotPlan :=
  if slotNop w then ⟨slot, [], false, .skip⟩
  else if !slotDefined slot (slotOp w) || !j.legal then ⟨slot, [], false, .fault 0x18 false 0 0⟩
  else
    let writes := j.writes.filter (fun r => decide (r ≠ RegRef.s 0 ∧ r ≠ RegRef.p 0))
    if !guarded k w then ⟨slot, writes, false, .skip⟩
    else if j.reads.any (pending? k) then ⟨slot, writes, false, .hold 1 []⟩
    else ⟨slot, writes, j.ordered, j.out⟩

/-- A slot is presented: `mine` says which slots and opcodes are the row's. A word that another row owns, a slot presented
twice, or a core that issues nothing leaves the state. -/
def presentSlot (s : State) (i : SlotCmd) (mine : Nat → Nat → Bool) (judge : Core → SlotWord → Judge) : State :=
  let c := i.core
  let k := s.core c.val
  let slot := i.slot.val
  let owns := mine slot (slotOp i.word) || !slotDefined slot (slotOp i.word)
  if !s.issuing c.val || !owns || k.bundle.any (fun p => p.slot == slot) then s
  else
    let bundle := k.bundle ++ [planOf k slot i.word (judge k i.word)]
    if i.last then (s.setCore c.val { k with bundle := [] }).finishBundle c bundle
    else s.setCore c.val { k with bundle := bundle }

end State

/-! ### Slot 0: scalar and control -/

/-- The opcodes of a row in one slot. -/
def opIs (slot op : Nat) (k o : Nat) : Bool := k == slot && o == op

/-- The opcodes that a scalar operation can have: MUL is 0x12; the manual gives no other. -/
def scalarOps (op : ScalarOp) (k o : Nat) : Bool :=
  k == 0 && decide (0x10 ≤ o) && slotDefined 0 o &&
  (match op with
   | .mul => decide (o = 0x12 ∨ 0x20 ≤ o ∧ o ≤ 0x2A)
   | .add => decide (o ≠ 0x12 ∧ o ≠ 0x30)
   | .xor => decide (o ≠ 0x12 ∧ o ≠ 0x30)
   | .other => decide (o ≠ 0x12))

/-- The second operand of a scalar operation: a register, or the immediate from opcode 0x20 on. -/
def scalarY (k : Core) (w : SlotWord) : BitVec 64 :=
  if (slotOp w) < 0x20 then k.sreg w.y.val
  else if Config.immSigned (slotOp w) then BitVec.ofInt 64 (slotImm w) else BitVec.ofNat 64 w.imm.toNat

/-- Scalar arithmetic, modulo 2^64. -/
def scalarJudge (op : ScalarOp) (k : Core) (w : SlotWord) : Judge :=
  let x := k.sreg w.x.val
  let y := scalarY k w
  let v := match op with
    | .add => x + y
    | .xor => x ^^^ y
    | .mul => x * y
    | .other => Config.scalarOther (slotOp w) x (k.sreg w.y.val) w.imm
  let legal := match op with
    | .other => fieldsOk w fS fS fS false none
    | _ => if (slotOp w) < 0x20 then fieldsOk w fS fS fS false (some 0) else fieldsOk w fS fS .unused false none
  ⟨legal, [.s w.d.val], [.s w.x.val, .s w.y.val], false, .ok [.wS w.d.val v]⟩

/-- SCALAR_ARITHMETIC (R132). -/
def execScalarArithmetic (op : ScalarOp) (i : SlotCmd) (s : State) : Out := .next (s.presentSlot i (scalarOps op) (scalarJudge op))

/-- The target of a relative branch: the offset counts bundles from the branch bundle (R135). -/
def branchTarget (s : State) (c : Nat) (w : SlotWord) : Addr := s.pcOf c + BitVec.ofInt 48 (64 * (slotImm w))

/-- BR (R135, R138). -/
def execBr (i : SlotCmd) (s : State) : Out :=
  .next (s.presentSlot i (opIs 0 1) (fun _ w =>
    ⟨fieldsOk w .unused .unused .unused false none, [], [], false, .ok [.branch (branchTarget s i.core.val w) true]⟩))

/-- BRR (R138): the target's address is in a scalar register; its low six bits are ignored. -/
def execBrr (i : SlotCmd) (s : State) : Out :=
  .next (s.presentSlot i (opIs 0 2) (fun k w =>
    ⟨fieldsOk w .unused fS .unused false (some 0), [], [.s w.x.val], false,
     .ok [.branch (BitVec.ofNat 48 ((k.sreg w.x.val).toNat / 64 * 64)) true]⟩))

/-- CALL (R129, R135, R138): the return address is that of the next bundle. -/
def execCall (i : SlotCmd) (s : State) : Out :=
  .next (s.presentSlot i (opIs 0 3) (fun _ w =>
    ⟨fieldsOk w .unused .unused .unused false none, [.s 63], [], false,
     .ok [.wS 63 (BitVec.ofNat 64 (s.pcOf i.core.val + 64).toNat), .branch (branchTarget s i.core.val w) false]⟩))

/-- RET (R129, R135, R138): to the address in s63. -/
def execRet (i : SlotCmd) (s : State) : Out :=
  .next (s.presentSlot i (opIs 0 4) (fun k w =>
    ⟨fieldsOk w .unused .unused .unused false (some 0), [], [.s 63], false,
     .ok [.branch (BitVec.ofNat 48 ((k.sreg 63).toNat / 64 * 64)) false]⟩))

/-- LOOP (R136, R137): a zero count skips the body. -/
def loopJudge (pc : Addr) (k : Core) (w : SlotWord) : Judge :=
  let len := w.imm.toNat
  let last := pc.toNat + 64 * len
  let count : W32 := (k.sreg w.x.val).truncate 32
  let legal := fieldsOk w (.file 4) fS .unused false (some 4096) && decide (1 ≤ len) &&
    k.loops.all (fun l => decide (l.lc ≠ w.d.val ∧ last ≤ l.last.toNat))
  let skip := if count = 0 then [Eff.branch (pc + BitVec.ofNat 48 (64 * (len + 1))) false] else []
  ⟨legal, [.lc w.d.val], [.s w.x.val], false, .ok (Eff.openLoop w.d.val count len :: skip)⟩

def execLoop (i : SlotCmd) (s : State) : Out := .next (s.presentSlot i (opIs 0 8) (loopJudge (s.pcOf i.core.val)))

/-! ### Slots 1 and 2: addresses and scalar memory -/

def isAddrSlot (k : Nat) : Bool := k == 1 || k == 2

def addrOps (op : AddrOp) (k o : Nat) : Bool :=
  isAddrSlot k && (match op with
    | .amov => o == 3
    | .toScalar => o == 0x11
    | .other => o == 1 || o == 2)

/-- Address arithmetic and moves. -/
def addrJudge (op : AddrOp) (k : Core) (w : SlotWord) : Judge :=
  match op with
  | .amov => ⟨fieldsOk w fA fA .unused false (some 0), [.a w.d.val], [], false, .ok [.wA w.d.val (k.areg w.x.val)]⟩
  | .toScalar =>
    ⟨fieldsOk w fS fA .unused false (some 0), [.s w.d.val], [], false, .ok [.wS w.d.val ((k.areg w.x.val).zeroExtend 64)]⟩
  | .other =>
    ⟨fieldsOk w fA fA fS false none, [.a w.d.val], [.s w.y.val], false,
     .ok [.wA w.d.val (Config.addressOther (slotOp w) (k.areg w.x.val) (k.areg w.y.val) (k.sreg w.y.val) w.imm)]⟩

/-- ADDRESS_ARITHMETIC (R129, R132). -/
def execAddressArithmetic (op : AddrOp) (i : SlotCmd) (s : State) : Out := .next (s.presentSlot i (addrOps op) (addrJudge op))

/-- BSET (R129): base and limit are the low 48 bits of two scalars. -/
def execBset (i : SlotCmd) (s : State) : Out :=
  .next (s.presentSlot i (fun k o => isAddrSlot k && o == 0x10) (fun k w =>
    ⟨fieldsOk w fB fS fS false (some 3), [.b w.d.val], [.s w.x.val, .s w.y.val], false,
     .ok [.wB w.d.val ⟨(k.sreg w.x.val).truncate 48, (k.sreg w.y.val).truncate 48, w.imm.truncate 2⟩]⟩))

/-- SCALAR_LOAD (R140, R141): 1, 2, 4 or 8 bytes. -/
def execScalarLoad (i : SlotCmd) (s : State) : Out :=
  .next (s.presentSlot i (fun k o => isAddrSlot k && decide (8 ≤ o ∧ o ≤ 0xB)) (fun k w =>
    let n := 2 ^ ((slotOp w) % 4)
    let a := State.effAddr k w
    ⟨fieldsOk w fS fA .unused true none, [.s w.d.val], [], true,
     s.accessPlan i.core.val w false n n [a] (.load (.s w.d.val) [a] n w.bnd.val)⟩))

/-- SCALAR_STORE (R140, R141): the low bytes of a scalar. -/
def execScalarStore (i : SlotCmd) (s : State) : Out :=
  .next (s.presentSlot i (fun k o => isAddrSlot k && decide (0xC ≤ o ∧ o ≤ 0xF)) (fun k w =>
    let n := 2 ^ ((slotOp w) % 4)
    let a := State.effAddr k w
    ⟨fieldsOk w .unused fA fS true none, [], [.s w.y.val], true,
     s.accessPlan i.core.val w true n n [a] (.store [a] n (bitsOf (k.sreg w.y.val).toNat 0 (8 * n)))⟩))

/-- MEMORY_RESPONSE (R132, R237, R255): the data of the k-th pending load lands, or the load's failure faults with
LOWER_TIER_FAIL (0x24). -/
def execMemoryResponse (c : CoreId) (n : Nat) (s : State) : Out :=
  let k := s.core c.val
  match k.pend[n]? with
  | some ⟨d, .load segs len data failed, pc, slot, bnd, live⟩ =>
    have s := s.setCore c.val { k with pend := removeAt k.pend n }
    if failed then
      .next (if s.issuing c.val then s.faultBundle c pc slot 0x24 false bnd (segs.headD 0) else s)
    else .next (if live then s.putLoaded c.val d len (natOfBytes data) else s)
  | _ => .next s

/-! ### Slot 3: the vector unit -/

/-- Elements of `w` bits of a vector register, and the register that they fill from bit 0. -/
def elemsV (w : Nat) (v : BitVec 8192) : List Nat := (List.range (8192 / w)).map (fun j => bitsOf v.toNat (w * j) w)
def packV (w : Nat) (l : List Nat) : BitVec 8192 := BitVec.ofNat 8192 (l.reverse.foldl (fun a x => a * 2 ^ w + x % 2 ^ w) 0)

/-- The exact value of a lane operation (R51, R52): z is the old destination, the addend of a fused multiply-add. -/
def laneValue (op : VecOp) (x y z : FVal) : FVal :=
  match op with
  | .add => x.add y
  | .sub => x.add y.negate
  | .mul => x.mul y
  | .fma => (x.mul y).add z
  | .max => x.max y
  | _ => x.min y

/-- A floating-point lane: rounded once, and whether it is not finite. -/
def laneFloat (e : FloatEnc) (op : VecOp) (x y z : Nat) : Nat × Bool :=
  let r := toEnc e (laneValue op (e.decode x) (e.decode y) (e.decode z))
  (r, !(e.decode r).isFinite)

/-- An INT32 lane; outside the range the result is not given. -/
def laneInt (op : VecOp) (x y z : Nat) : Nat × Bool :=
  let a := signedOf 32 x
  let b := signedOf 32 y
  let v := match op with
    | .add => a + b
    | .sub => a - b
    | .mul => a * b
    | .fma => a * b + signedOf 32 z
    | .max => max a b
    | _ => min a b
  if (satInt32 v).2 then ((Config.int32Overflow op (BitVec.ofNat 32 x) (BitVec.ofNat 32 y) (BitVec.ofNat 32 z)).toNat, false)
  else (twosOf 32 v, false)

/-- A lane operation over whole registers. -/
def vectorOp (op : VecOp) (fmt : LaneFmt) (x y z : BitVec 8192) : BitVec 8192 × Bool :=
  let run := fun (w : Nat) (f : Nat → Nat → Nat → Nat × Bool) =>
    let r := ((elemsV w x).zip ((elemsV w y).zip (elemsV w z))).map (fun e => f e.1 e.2.1 e.2.2)
    (packV w (r.map Prod.fst), r.any Prod.snd)
  match fmt with
  | .fp32 => run 32 (laneFloat encFp32 op)
  | .fp16 => run 16 (laneFloat encFp16 op)
  | .bf16 => run 16 (laneFloat encBf16 op)
  | .int32 => run 32 (laneInt op)

/-- Vector arithmetic: v d from v x, v y and, for a fused multiply-add, v d itself. -/
def vectorJudge (op : VecOp) (fmt : LaneFmt) (k : Core) (w : SlotWord) : Judge :=
  let x := k.vreg w.x.val
  let y := k.vreg w.y.val
  let z := k.vreg w.d.val
  let named := match op with
    | .compare => false
    | .other => false
    | _ => true
  let (v, nf) := if named then vectorOp op fmt x y z else Config.vectorOther (slotOp w) fmt x y z w.imm
  let ev : FpEv := { nonfinite := nf }
  ⟨fieldsOk w fV fV fV false (if named then some 0 else none), [.v w.d.val], [.v w.x.val, .v w.y.val, .v w.d.val], false,
   .ok [.wV w.d.val v, .fp 1 ev]⟩

/-- VECTOR_ARITHMETIC (R47, R51, R52, R66, R132). -/
def execVectorArithmetic (op : VecOp) (fmt : LaneFmt) (i : SlotCmd) (s : State) : Out :=
  .next (s.presentSlot i (fun k o => k == 3 && decide (1 ≤ o ∧ o ≤ 0x4F ∧ o ≠ 0x40)) (vectorJudge op fmt))

/-- Elements under their block scales. -/
def scaledElems (f : Fmt) (scales l : List Nat) : List FVal :=
  if f.isMx then ((List.range l.length).zip l).map (fun e => mxValue f (scales.getD (e.1 / 32) 0x7F) e.2)
  else l.map f.value

/-- A list in groups of `n`. -/
def groupsOf (n : Nat) (l : List FVal) : List (List FVal) :=
  (List.range (cdiv l.length n)).map (fun j => (l.drop (n * j)).take n)

/-- A conversion of whole registers (R53 to R61): as many elements as the wider format fits, packed from bit 0; `rnd` gives
an element's random value. -/
def vectorCvt (src dst : Fmt) (c : Cvt) (rnd : Nat → Nat) (x old : BitVec 8192) : BitVec 8192 × FpEv :=
  let n := 8192 / max src.bits dst.bits
  let vals := scaledElems src (Config.vectorScales x) ((elemsV src.bits x).take n)
  let (out, scales, ev) :=
    if dst.isMx then
      let bs := (groupsOf 32 vals).map (cvtBlock dst c)
      (bs.flatMap (fun b => b.2.1), bs.map (fun b => b.1), FpEv.joinAll (bs.map (fun b => b.2.2)))
    else
      let rs := ((List.range n).zip vals).map (fun e => cvtElem dst c (rnd e.1) e.2)
      (rs.map Prod.fst, [], FpEv.joinAll (rs.map Prod.snd))
  let used := n * dst.bits
  let low := (packV dst.bits out).toNat % 2 ^ used
  (BitVec.ofNat 8192 (low + (Config.vectorRest used old scales).toNat / 2 ^ used * 2 ^ used), ev)

/-- VCVT's word: the conversion byte, the source and the destination format. -/
def vcvtJudge (rnd : Cvt → Fmt → Nat → Nat) (k : Core) (w : SlotWord) : Judge :=
  let m := w.imm.toNat
  let fields := fieldsOk w fV fV .unused false (some 0xFFFF)
  match Fmt.ofCode (bitsOf m 8 4), Fmt.ofCode (bitsOf m 12 4) with
  | some src, some dst =>
    (match Cvt.check (m % 256) dst with
     | some c =>
       let (v, ev) := vectorCvt src dst c (rnd c dst) (k.vreg w.x.val) (k.vreg w.d.val)
       ⟨fields, [.v w.d.val], [.v w.x.val, .v w.d.val], false, .ok [.wV w.d.val v, .fp 1 ev]⟩
     | none => ⟨false, [], [], false, .skip⟩)
  | _, _ => ⟨false, [], [], false, .skip⟩

/-- VCVT (R53, R54, R58, R60 to R62): the byte address from which a register's elements count is a free value. -/
def execVcvt (i : SlotCmd) (s : State) : Out :=
  let c := i.core.val
  let (f, s) := s.fresh
  let rnd := fun (cv : Cvt) (dst : Fmt) (j : Nat) =>
    if cv.sr then randomOf (s.reg (R.CORE_RNG_SEED c)).toNat (s.reg (R.CORE_RNG_STEP c)).toNat cv.stream (dst.bits / 8)
      (f % 2 ^ 48 + j * (dst.bits / 8)) else 0
  .next (s.presentSlot i (opIs 3 0x40) (vcvtJudge rnd))

/-! ### Slot 4: the matrix queue (R145, R146) -/

/-- Descriptors queued and active. -/
def mxCount (k : Core) : Nat := k.mxq.length + (if k.arr.job.isSome || k.arr.attn.isSome then 1 else 0)

/-- MX_ISSUE: the descriptor is read and copied as the bundle issues. -/
def execMxIssue (i : SlotCmd) (s : State) : Out :=
  .next (s.presentSlot i (opIs 4 1) (fun k w =>
    let a := State.effAddr k w
    ⟨fieldsOk w .unused fA .unused true none, [], [], true,
     if k.mxq.length ≥ 4 then .hold 2 [] else s.accessPlan i.core.val w false 128 128 [a] (.mxIssue a)⟩))

/-- MX_WAIT. -/
def execMxWait (i : SlotCmd) (s : State) : Out :=
  .next (s.presentSlot i (opIs 4 2) (fun k w =>
    ⟨fieldsOk w fS .unused .unused false (some 4), [.s w.d.val], [], false,
     if w.imm.toNat < mxCount k then .hold 5 [] else .ok [.mxCollect w.d.val]⟩))

/-- MX_POLL: bits [2:0] the count, bits [15:8] the recorded status. -/
def execMxPoll (i : SlotCmd) (s : State) : Out :=
  .next (s.presentSlot i (opIs 4 3) (fun k w =>
    ⟨fieldsOk w fS .unused .unused false (some 0), [.s w.d.val], [], false,
     .ok [.wS w.d.val (BitVec.ofNat 64 (mxCount k % 8 + k.mxStatus % 256 * 256))]⟩))

/-- MX_ABORT. -/
def execMxAbort (i : SlotCmd) (s : State) : Out :=
  .next (s.presentSlot i (opIs 4 4) (fun _ w => ⟨fieldsOk w .unused .unused .unused false (some 0), [], [], false, .ok [.mxAbort]⟩))

/-! ### Slot 5: special functions (R185, R186) -/

/-- The results of a function over the elements that the two formats select, and what they report. -/
def sfnVector (legacy : Bool) (f : SfnFunc) (src dst : Fmt) (half : Nat) (x y old : BitVec 8192) : BitVec 8192 × FpEv :=
  let part := fun (v : BitVec 8192) =>
    let l := elemsV src.bits v
    if src.bits < dst.bits then (l.drop (256 * half)).take 256 else l
  let rs := ((part x).zip (part y)).map (fun e =>
    let r := sfnApply legacy f (widen src e.1) (widen src e.2)
    let (b, ev) := cvtElem dst ⟨false, 0, 0⟩ 0 (ofFp32 r)
    (b, ev.join { nonfinite := fp32NonFinite r }))
  let ev := FpEv.joinAll (rs.map Prod.snd)
  let out := rs.map Prod.fst
  if dst.bits < src.bits then
    let keep := elemsV 16 old
    (packV 16 (if half = 0 then out ++ keep.drop 256 else keep.take 256 ++ out), ev)
  else (packV dst.bits out, ev)

/-- SFN's word. -/
def sfnJudge (legacy : Nat → Bool) (k : Core) (w : SlotWord) : Judge :=
  let m := w.imm.toNat
  let src := sfuFmt (bitsOf m 8 4)
  let dst := sfuFmt (bitsOf m 12 4)
  let half := bitsOf m 16 1
  match SfnFunc.ofCode (bitsOf m 0 8) with
  | none => ⟨false, [], [], false, .skip⟩
  | some f =>
    let legal := fieldsOk w fV fV (if f.binary then fV else .unused) false (some (2 ^ 19 - 1)) &&
      decide (bitsOf m 8 4 < 3 ∧ bitsOf m 12 4 < 3 ∧ bitsOf m 17 2 ≠ 3) && !(half == 1 && src.bits == dst.bits)
    let (v, ev) := sfnVector (legacy (bitsOf m 17 2)) f src dst half (k.vreg w.x.val) (k.vreg w.y.val) (k.vreg w.d.val)
    let reads := [.v w.x.val] ++ (if f.binary then [.v w.y.val] else []) ++ (if dst.bits < src.bits then [.v w.d.val] else [])
    ⟨legal, [.v w.d.val], reads, false, .ok [.wV w.d.val v, .fp 2 ev]⟩

/-- SFN (R183 to R187). -/
def execSfn (i : SlotCmd) (s : State) : Out := .next (s.presentSlot i (opIs 5 1) (sfnJudge (s.legacyOf i.core.val)))

/-! ### Slot 6: moves, vector memory, core DMA, messages (R147, R148) -/

/-- VLD. -/
def execVld (i : SlotCmd) (s : State) : Out :=
  .next (s.presentSlot i (opIs 6 0x10) (fun k w =>
    let a := State.effAddr k w
    ⟨fieldsOk w fV fA .unused true none, [.v w.d.val], [], true,
     s.accessPlan i.core.val w false 64 1024 [a] (.load (.v w.d.val) [a] 1024 w.bnd.val)⟩))

/-- VST. -/
def execVst (i : SlotCmd) (s : State) : Out :=
  .next (s.presentSlot i (opIs 6 0x11) (fun k w =>
    let a := State.effAddr k w
    ⟨fieldsOk w .unused fA fV true none, [], [.v w.y.val], true,
     s.accessPlan i.core.val w true 64 1024 [a] (.store [a] 1024 (k.vreg w.y.val).toNat)⟩))

/-- VLD_S. -/
def execVldS (i : SlotCmd) (s : State) : Out :=
  .next (s.presentSlot i (opIs 6 0x12) (fun k w =>
    let l := State.segments k w
    ⟨fieldsOk w fV fA fS true none, [.v w.d.val], [.s w.y.val], true,
     s.accessPlan i.core.val w false 64 64 l (.load (.v w.d.val) l 64 w.bnd.val)⟩))

/-- VST_S: d names the source. -/
def execVstS (i : SlotCmd) (s : State) : Out :=
  .next (s.presentSlot i (opIs 6 0x13) (fun k w =>
    let l := State.segments k w
    ⟨fieldsOk w fV fA fS true none, [], [.v w.d.val, .s w.y.val], true,
     s.accessPlan i.core.val w true 64 64 l (.store l 64 (k.vreg w.d.val).toNat)⟩))

/-- MOV_SV. -/
def execMovSv (i : SlotCmd) (s : State) : Out :=
  .next (s.presentSlot i (opIs 6 0x18) (fun k w =>
    ⟨fieldsOk w fV fS .unused false (some 0), [.v w.d.val], [.s w.x.val], false,
     .ok [.wV w.d.val (packV 32 (List.replicate 256 ((k.sreg w.x.val).toNat % 2 ^ 32)))]⟩))

/-- MOV_VS. -/
def execMovVs (i : SlotCmd) (s : State) : Out :=
  .next (s.presentSlot i (opIs 6 0x19) (fun k w =>
    ⟨fieldsOk w fS fV .unused false (some 255), [.s w.d.val], [.v w.x.val], false,
     .ok [.wS w.d.val (BitVec.ofNat 64 (bitsOf (k.vreg w.x.val).toNat (32 * w.imm.toNat) 32))]⟩))

/-- MOV_V. -/
def execMovV (i : SlotCmd) (s : State) : Out :=
  .next (s.presentSlot i (opIs 6 0x1A) (fun k w =>
    ⟨fieldsOk w fV fV .unused false (some 0), [.v w.d.val], [.v w.x.val], false, .ok [.wV w.d.val (k.vreg w.x.val)]⟩))

/-- DMA_Q (R147, R152, R153): sixteen items queue behind the four active. -/
def execDmaQ (i : SlotCmd) (s : State) : Out :=
  .next (s.presentSlot i (opIs 6 0x20) (fun k w =>
    let a := State.effAddr k w
    ⟨fieldsOk w .unused fA .unused true none, [], [], true,
     if (k.dmaq.filter DmaItem.live).length ≥ 20 then .hold 2 []
     else s.accessPlan i.core.val w false 64 64 [a] (.dmaIssue a)⟩))

/-- DMA_WAIT. -/
def execDmaWait (i : SlotCmd) (s : State) : Out :=
  .next (s.presentSlot i (opIs 6 0x21) (fun k w =>
    let t := (k.sreg w.x.val).toNat % 8
    ⟨fieldsOk w fS fS .unused false (some 0), [.s w.d.val], [.s w.x.val], false,
     if k.dmaq.any (fun it => decide (it.origin = .tag t)) then .hold 5 [] else .ok [.dmaCollect w.d.val t]⟩))

/-- SND (R148): an absent core or one of another instance faults with SPOOL_TARGET (0x1B). -/
def execSnd (i : SlotCmd) (s : State) : Out :=
  .next (s.presentSlot i (opIs 6 0x28) (fun k w =>
    let y := (k.sreg w.y.val).toNat
    let t := bitsOf y 0 7
    let p := bitsOf y 8 3
    let foreign := s.absent t || (match State.instOf (s.issueOwner i.core.val) with
      | some n => !s.ownsCore n t
      | none => true)
    ⟨fieldsOk w .unused fV fS false (some 0), [], [.v w.x.val, .s w.y.val], true,
     if foreign then .fault 0x1B false 0 0
     else if ((s.core t).ports.get [] p).length ≥ 8 then .hold 2 []
     else .ok [.send t p (BitVec.ofNat 512 (k.vreg w.x.val).toNat)]⟩))

/-- RCV (R147, R150): an empty port holds under the watchdog, whose expiry faults with TIMEOUT (0x05). -/
def execRcv (i : SlotCmd) (s : State) : Out :=
  .next (s.presentSlot i (opIs 6 0x29) (fun k w =>
    let p := w.imm.toNat
    ⟨fieldsOk w fV .unused .unused false (some 7), [.v w.d.val], [.v w.d.val], false,
     if !(k.ports.get [] p).isEmpty then .ok [.receive w.d.val p]
     else if k.rcvExpired then .fault 0x05 false 0 0
     else .hold 2 [.rcvWait p]⟩))

/-! ### Slot 7: fences, semaphores, counters, predicates, the end (R149 to R151) -/

def fenceJudge (sc : FenceScope) (_ : Core) (w : SlotWord) : Judge :=
  ⟨fieldsOk w .unused .unused .unused false (some 0), [], [], true, .ok [.fence sc]⟩

/-- FENCE_CORE (R34): bundles that access memory, synchronise or invalidate hold until FENCE_COMPLETE. -/
def execFenceCore (i : SlotCmd) (s : State) : Out := .next (s.presentSlot i (opIs 7 1) (fenceJudge .core))

/-- FENCE_DEVICE (R34). -/
def execFenceDevice (i : SlotCmd) (s : State) : Out := .next (s.presentSlot i (opIs 7 2) (fenceJudge .device))

/-- FENCE_POD (R34, R326). -/
def execFencePod (i : SlotCmd) (s : State) : Out := .next (s.presentSlot i (opIs 7 3) (fenceJudge .pod))

/-- Accesses of a core that are not yet visible on its module: its array, its DMA, its loads. -/
def State.coreQuiet (s : State) (c : Nat) : Bool :=
  s.drained c && (s.core c).pend.all (fun p => match p.kind with
    | .load .. => false
    | .bob _ => true)

/-- Remote writes of a core that the transport has not acknowledged (R34). -/
def State.remoteQuiet (s : State) (c : CoreId) : Bool :=
  s.sessions.all (fun e => !(e.2.unacked.any (fun q => q.core == some c)) && !(e.2.queue.any (fun q => q.core == some c)))

/-- FENCE_COMPLETE (R34). -/
def execFenceComplete (c : CoreId) (s : State) : Out :=
  let k := s.core c.val
  match k.fence with
  | none => .next s
  | some sc =>
    if s.coreQuiet c.val && (decide (sc ≠ .pod) || s.remoteQuiet c) then .next (s.setCore c.val { k with fence := none })
    else .next s

/-- SEM_ACQ (R35, R149, R414): the acquire is sent and the bundle holds until it is granted, abandoned or timed out. -/
def execSemAcq (i : SlotCmd) (s : State) : Out :=
  .next (s.presentSlot i (opIs 7 8) (fun k w =>
    let n := w.imm.toNat
    ⟨fieldsOk w fS .unused .unused false (some 4095), [.s w.d.val], [], true,
     if s.semForeign (State.instOf (s.issueOwner i.core.val)) n then .fault 0x65 false 0 0
     else if k.semGrant.isSome then .ok [.semTaken w.d.val]
     else .hold 3 (if k.semSent.isNone then [.semAcquire n] else [])⟩))

/-- SEM_REL (R35, R149): the bundle holds until every earlier access of the core is visible module-wide. -/
def execSemRel (i : SlotCmd) (s : State) : Out :=
  .next (s.presentSlot i (opIs 7 9) (fun _ w =>
    let n := w.imm.toNat
    ⟨fieldsOk w .unused .unused .unused false (some 4095), [], [], true,
     if s.semForeign (State.instOf (s.issueOwner i.core.val)) n then .fault 0x65 false 0 0
     else if !s.coreQuiet i.core.val then .hold 7 []
     else .ok [.semRelease n]⟩))

/-- A counter outside the instance's range (R169). -/
def State.bobForeign (s : State) (c n : Nat) : Bool :=
  match State.instOf (s.issueOwner c) with
  | some i => !s.ownsBob i n
  | none => true

/-- BOB_FADD (R132, R149, R170). -/
def execBobFadd (i : SlotCmd) (s : State) : Out :=
  .next (s.presentSlot i (opIs 7 0x10) (fun k w =>
    let n := w.imm.toNat
    ⟨fieldsOk w fS fS .unused false (some 1023), [.s w.d.val], [.s w.x.val], true,
     if s.bobForeign i.core.val n then .fault 0x1C false 0 0
     else .ok [.bobAdd w.d.val n ((k.sreg w.x.val).truncate 32)]⟩))

/-- BOB_WAIT (R149, R150). -/
def execBobWait (i : SlotCmd) (s : State) : Out :=
  .next (s.presentSlot i (opIs 7 0x11) (fun k w =>
    let n := w.imm.toNat
    ⟨fieldsOk w fS fS .unused false (some 1023), [.s w.d.val], [.s w.x.val], true,
     if s.bobForeign i.core.val n then .fault 0x1C false 0 0
     else if k.bobGrant.isSome then .ok [.bobTaken w.d.val]
     else .hold 4 (if k.bobSent.isNone then [.bobWait n (k.sreg w.x.val).toNat] else [])⟩))

/-- The six conditions of PCMP. -/
def pcmpHolds (cond : Nat) (x y : BitVec 64) : Bool :=
  match cond with
  | 0 => x == y
  | 1 => x != y
  | 2 => x.ult y
  | 3 => y.ule x
  | 4 => x.slt y
  | _ => y.sle x

/-- PCMP (R149). -/
def execPcmp (i : SlotCmd) (s : State) : Out :=
  .next (s.presentSlot i (opIs 7 0x18) (fun k w =>
    ⟨fieldsOk w fP fS fS false (some 5), [.p w.d.val], [.s w.x.val, .s w.y.val], false,
     .ok [.wP w.d.val (pcmpHolds w.imm.toNat (k.sreg w.x.val) (k.sreg w.y.val))]⟩))

/-- The four operations of PLOG. -/
def plogOf (op : Nat) (x y : Bool) : Bool :=
  match op with
  | 0 => x && y
  | 1 => x || y
  | 2 => x != y
  | _ => x && !y

/-- PLOG (R149). -/
def execPlog (i : SlotCmd) (s : State) : Out :=
  .next (s.presentSlot i (opIs 7 0x19) (fun k w =>
    ⟨fieldsOk w fP fP fP false (some 3), [.p w.d.val], [], false,
     .ok [.wP w.d.val (plogOf w.imm.toNat (k.preg w.x.val) (k.preg w.y.val))]⟩))

/-- ICINV (R155). -/
def execIcinv (i : SlotCmd) (s : State) : Out :=
  .next (s.presentSlot i (opIs 7 0x20) (fun _ w => ⟨fieldsOk w .unused .unused .unused false (some 0), [], [], true, .ok [.icinv]⟩))

/-- The status of a work item at HALT: the matrix unit's record, then those of tags 0 to 7, then its own (R151). -/
def haltStatus (k : Core) (own : Nat) : Nat :=
  ((k.mxStatus :: (List.range 8).map (fun t => k.tagStatus.get 0 t)).find? (fun x => decide (x ≠ 0))).getD own

/-- HALT (R151): it holds until both queues have drained. -/
def execHalt (i : SlotCmd) (s : State) : Out :=
  .next (s.presentSlot i (opIs 7 0x21) (fun k w =>
    ⟨fieldsOk w .unused fS .unused false (some 0), [], [.s w.x.val], false,
     if !s.drained i.core.val then .hold 5 [] else .ok [.halt (haltStatus k ((k.sreg w.x.val).toNat % 256))]⟩))

/-! ### Instruction cache (R155, R438) -/

/-- A line enters its set of four; which line leaves a full set is a free value. -/
def State.fillLine (s : State) (c : Nat) (line : Nat) : State :=
  let l := (s.core c).icache
  if l.contains line then s
  else
    let set := l.filter (fun x => x % 64 == line % 64)
    if set.length < 4 then s.setCore c { s.core c with icache := l ++ [line] }
    else
      let (f, s) := s.fresh
      let out := set.getD (f % set.length) 0
      s.setCore c { s.core c with icache := l.filter (fun x => x != out) ++ [line] }

/-- ICACHE_MISS_FILL (R155, R438): the line and the next two enter the cache; after a parity error the line is fetched
again, and counted. -/
def execIcacheMissFill (c : CoreId) (parityError : Bool) (s : State) : Out :=
  match (s.core c.val).fetchMiss with
  | none => .next s
  | some line =>
    if parityError then .next (s.inc (R.CORE_SEQ_ICACHE_MISSES c.val))
    else
      let next := [line + 2, line + 1].filter (fun l => s.inRegion c.val (256 * l) 256)
      have s := (next ++ [line]).foldl (fun s l => s.fillLine c.val l) s
      .next (s.setCore c.val { s.core c.val with fetchMiss := none })

end Sys2Proof.Machine
end

