-- ==== Sys2Proof/Machine/Resets.lean ====
section
/-! DEFINITION. Resets of a part of the module: an instance (R413, with R69, R99, R156, R172, R196, R216, R234, R260, R286,
R305, R335, R349, R387, R402, R416), the PCIe endpoint and a virtual function (R340). -/
namespace Sys2Proof.Machine

/-- Every list of a table of lists without the elements that fail a test. -/
def keepIn {α : Type} (t : Tbl (List α)) (p : α → Bool) : Tbl (List α) :=
  (t.map (fun e => (e.1, e.2.filter p))).filter (fun e => !e.2.isEmpty)

namespace State

/-- A core of a reset instance stops: queues, array, sequencer, staging and number state go; counters and the suspect mark
stay; the residency key of a core that ran a copy is lost (DEDUCED from R412). -/
def resetCore (s : State) (c : Nat) : State :=
  let busy := (s.core c).runq.any (fun p => p.phase != .waiting)
  have s := s.dropCoreWaits c
  let bob := fun (o : BobOp) => match o with
    | .wait k _ _ => k.val != c
    | .add k _ _ _ => k.val != c
  have s := { s with sch := { s.sch with bobIn := keepIn s.sch.bobIn bob } }
  have s := s.setCore c Core.reset
  have s := [R.CORE_SEQ_STATUS c, R.CORE_SEQ_FAULT c, R.CORE_SEQ_FAULT_PC c, R.CORE_SEQ_FAULT_ADDR c, R.CORE_SEQ_IREG c 0,
    R.CORE_SEQ_IREG c 1, R.CORE_SEQ_IREG c 2, R.CORE_SEQ_IREG c 3, R.CORE_FP_FLAGS c, R.CORE_FP_CTRL c, R.CORE_RNG_SEED c,
    R.CORE_RNG_STEP c, R.CORE_SAT_COUNT c, R.CORE_ARR_CTRL c, R.CORE_STG_REGION c, R.CORE_SFU_CTRL c, R.CORE_SFU_STATUS c,
    R.CORE_CWU_STATUS c, R.CORE_DMA_STATUS c].foldl (fun s r => s.setReg r (regReset r)) s
  let suspect := s.fld (R.CORE_ARR_STATUS c) F.CORE_ARR_STATUS_suspect
  have s := (s.setReg (R.CORE_ARR_STATUS c) 0).setFld (R.CORE_ARR_STATUS c) F.CORE_ARR_STATUS_suspect suspect
  have s := if busy then s.setFld (R.SCH_CORE c) F.SCH_CORE_aff_key 0 else s
  s.showCore c

/-- The instance's command queues are disabled and empty; unfinished entries go without completion; entries of PF queues
that act for it end with INSTANCE_RESET (0x63) (R349). -/
def resetQueues (s : State) (i : Nat) : State :=
  have s := (List.range 64).foldl (fun s q =>
    have s := s.setRegBit (R.HST_Q_CFG i q) 0 false
    (s.setReg (R.HST_Q_HEAD i q) 0).setReg (R.HST_Q_TAIL i q) 0) s
  let mine := s.host.works.filter (fun w => decide (w.inst = some i) || (match w.q.page with
    | .inst k => k.val == i
    | .pf => false))
  mine.foldl (fun s w => match w.q.page with
    | .inst _ => s.dropWork w.id
    | .pf => s.completeWork w.id 0x63 0) s

/-- The instance's semaphores (R416): those held by the old generation rise by 1 and become abandoned; its old waiters
leave. -/
def resetSems (s : State) (i : Nat) : State :=
  have s := { s with sch := { s.sch with
    semIn := keepIn s.sch.semIn (fun o => o.inst != i),
    semWait := keepIn s.sch.semWait (fun o => o.inst != i) } }
  let b := 64 * s.fld (R.SCH_INST_RANGES i) F.SCH_INST_RANGES_sem_base
  (List.range (64 * s.fld (R.SCH_INST_RANGES i) F.SCH_INST_RANGES_sem_count)).foldl (fun s j =>
    let off := R.SCH_SEM (b + j)
    have s := s.showSem (b + j)
    if s.fld off F.SCH_SEM_owned = 1 ∧ s.fld off F.SCH_SEM_owner_inst = i ∧ s.fld off F.SCH_SEM_owner_gen ≠ s.gen i then
      have s := s.setFld off F.SCH_SEM_value (min 0xFFFF (s.semVal (b + j) + 1))
      ((s.setFld off F.SCH_SEM_owned 0).setFld off F.SCH_SEM_abandoned 1).semServeAll (b + j)
    else s) s

/-- The instance's Bobbin counters: value 0, limit 0xFFFF_FFFF, nothing waiting; late_draws stay (R172). -/
def resetBobs (s : State) (i : Nat) : State :=
  let b := 16 * s.fld (R.SCH_INST_RANGES i) F.SCH_INST_RANGES_bob_base
  (List.range (16 * s.fld (R.SCH_INST_RANGES i) F.SCH_INST_RANGES_bob_count)).foldl (fun s j =>
    let n := b + j
    have s := (s.setReg (R.SCH_BOB_VALUE n) 0).setReg (R.SCH_BOB_LIMIT n) (regReset (R.SCH_BOB_LIMIT n))
    have s := { s with sch := { s.sch with bobIn := s.sch.bobIn.set [] n [], bobWait := s.sch.bobWait.set [] n [],
                                           bobAdder := s.sch.bobAdder.set none n none } }
    s.showBob n) s

/-- The instance's pools: every slot is free and nothing waits. -/
def resetPools (s : State) (i : Nat) : State :=
  ((List.range 64).filter (fun p => decide (s.fld (R.SCH_POOL_CFG p) F.SCH_POOL_CFG_owner = i))).foldl (fun s p =>
    have s := { s with sch := { s.sch with poolWait := s.sch.poolWait.set [] p [] } }
    if s.poolOn p then s.poolFill p else s.showPool p) s

/-- Memory (R260, R286): requests and update items of the old generation are discarded; the instance's vote terms clear. -/
def resetMem (s : State) (i : Nat) : State :=
  let other := fun (r : MemReq) => decide (r.inst.map (fun k => k.val) ≠ some i)
  let keep := fun (o : Owner) => decide (instOf o ≠ some i)
  let m := s.msys
  let m := { m with waiting := m.waiting.filter other, deep := m.deep.filter (fun d => other d.req) }
  let m := { m with misses := m.misses.map (fun (x : Miss) => Miss.mk x.line x.fill (x.reqs.filter other)) }
  have s := { s with msys := { m with hostDma := keepIn m.hostDma (fun it => keep it.owner) } }
  have s := { s with upd := keepIn s.upd (fun it => keep it.owner) }
  have s := s.setRegBit R.MEM_LTF_STEP i false
  (List.range 4).foldl (fun s d => (((s.setRegBit (R.MEM_UPD_FLAGS d) i false).setRegBit (R.MEM_UPD_FLAGS d) (8 + i) false).showUpd d)) s

/-- The transport (R335): the instance's packets, transactions and routes go; GEN_NOTICE on each of its sessions. A host read or
write of the function that is outstanding ends with INSTANCE_RESET (R342). -/
def resetTransport (s : State) (i : Nat) : State :=
  let mine := fun (t : Txn) => decide (t.inst.map (fun k => k.val) = some i)
  let gone := s.txns.filter mine
  have s := { s with txns := s.txns.filter (fun t => !mine t) }
  have s := gone.foldl (fun s t => match t.user with
    | .barRead _ => s.userDone t 0x63
    | .barWrite _ => s.userDone t 0x63
    | _ => s) s
  have s := (List.range 4).foldl (fun s d => s.showTxns d) s
  have s := (List.range 64).foldl (fun s d => s.setReg (R.FAB_ROUTE i d) 0) s
  (s.sessions.filter (fun e => e.2.created && e.2.inst == i)).foldl (fun s e =>
    let own := fun (q : TxPkt) => decide (q.inst.map (fun k => k.val) ≠ some i)
    let x := s.sess e.1
    have s := s.setSess e.1 { x with queue := x.queue.filter own, unacked := x.unacked.filter own }
    if x.state = .opened then
      (s.setSess e.1 { s.sess e.1 with notice := true }).queueControl e.1 8 (bytesOf (s.gen i) 2)
    else s) s

/-- INSTANCE_RESET's steps 1 to 5 (R413): the next generation, then every unit drops what carries an older one. -/
def resetInstance (s : State) (i : Nat) : State :=
  let cores := (List.range 128).filter (fun c => s.ownsCore i c)
  have s := s.setFld (R.SCH_INST_STATE i) F.SCH_INST_STATE_generation ((s.gen i + 1) % 2 ^ 16)
  have s := s.setFld (R.SCH_INST_STATE i) F.SCH_INST_STATE_resetting 1
  have s := s.resetQueues i
  have s := cores.foldl (fun s c => s.resetCore c) s
  have s := (s.resetIngest i).resetCodec i
  have s := ((s.resetMem i).resetSeam i).resetVote i
  have s := (s.resetKv i).resetTransport i
  ((s.resetSems i).resetBobs i).resetPools i

/-- A reset is over: every unit has reported (R413 step 6). -/
def resetOver (s : State) (i : Nat) : State := s.setFld (R.SCH_INST_STATE i) F.SCH_INST_STATE_resetting 0

/-! ### PCIe (R340) -/

/-- The registers of the host block that a PCIe reset returns to their reset values: windows, counts, snapshots and
queues; the boot nonces and the pod view are Thimble's and stay. -/
def hostBlockRegs : List Nat :=
  [R.HST_LINK_STATUS, R.HST_BAR4_WINDOW, R.HST_AUTH_FAILS, R.HST_REPLAYS, R.HST_DIRECT_CRIT, R.HST_REMOTE_ERRORS,
   R.HST_TUNNEL_TIMEOUT, R.HST_SNAP_STEP, R.HST_SNAP_TIME, R.HST_SNAP_MEMBERS, R.HST_SNAP_HELD, R.HST_SNAP_FENCED,
   R.HST_SNAP_STATE] ++ (List.range 8).map R.HST_VF_BAR4_WINDOW

/-- BAR4 windows name the module itself after a reset of the host block. -/
def ownWindows (s : State) : State :=
  have s := s.setFld R.HST_BAR4_WINDOW F.HST_BAR4_WINDOW_device s.podDevice
  (List.range 8).foldl (fun s k => s.setFld (R.HST_VF_BAR4_WINDOW k) F.HST_VF_BAR4_WINDOW_device s.podDevice) s

def inQueueRegs (off : Nat) : Bool := decide (0x408000 ≤ off ∧ off < 0x409000 ∨ 0x410000 ≤ off ∧ off < 0x418000)

/-- The PCIe endpoint and the host-block registers reset; the module works on, and entries lose their completions. -/
def resetPcie (s : State) : State :=
  have s := hostBlockRegs.foldl (fun s r => s.setReg r (regReset r)) s
  have s := { s with regs := s.regs.filter (fun e => !inQueueRegs e.1), captured := [], heldLow := [],
                     host := { s.host with works := [], reply := none } }
  have s := s.ownWindows
  if s.isGate && decide (4 ≤ s.modState ∧ s.modState ≤ 7) then
    s.setReg R.HST_LINK_STATUS (BitVec.ofNat 64 (setBit (Config.linkStatus % 2 ^ 8) 8))
  else s

/-- A function-level reset of the VF of instance `k`: its queues are disabled and stop fetching; the PF driver hears. -/
def flrVf (s : State) (k : Nat) : State :=
  ((List.range 64).foldl (fun s q => s.setRegBit (R.HST_Q_CFG k q) 0 false) s).addEvent 1 (k + 1) 0

end State

/-! ### Commands -/

/-- PCIE_RESET (R340). -/
def execPcieReset (s : State) : Out := .next s.resetPcie

/-- FUNCTION_LEVEL_RESET (R340). -/
def execFunctionLevelReset (k : InstId) (s : State) : Out := .next (s.flrVf k.val)

end Sys2Proof.Machine
end

