-- ==== Sys2Proof/Machine/Part.lean ====
section
/-! DEFINITION. Partitions: the body of R405, its checks and its application (R404 to R406), and the change of the cache
granules' modes and owners (R239, R246). -/
namespace Sys2Proof.Machine

/-- Bytes of a body as a little-endian number; bytes beyond its end are zero. -/
def fieldAt (b : List Byte) (at' n : Nat) : Nat := natOfBytes ((b.drop at').take n)

/-- The 64-byte entry of instance `i` (R405). -/
def partEntry (b : List Byte) (i : Nat) : List Byte :=
  let e := (b.drop (16 + 64 * i)).take 64
  e ++ List.replicate (64 - e.length) 0

def cacheMask (b : List Byte) : Nat := fieldAt b 0 12

/-- The fields of an entry. -/
structure PartFields where
  enable : Bool
  cores : Nat
  stackMask : Nat
  scratch : Nat
  quotas : List Nat
  deepBase : Nat
  deepSize : Nat
  bobBase : Nat
  bobCount : Nat
  semBase : Nat
  semCount : Nat
  weights : List Nat
  deriving DecidableEq, Repr

def partFields (b : List Byte) (i : Nat) : PartFields :=
  let e := partEntry b i
  let f := fieldAt e
  { enable := bitOf (f 0 1) 0, cores := f 2 2, stackMask := f 4 1, scratch := f 8 12,
    quotas := [f 20 2, f 22 2, f 24 2, f 26 2], deepBase := f 28 2, deepSize := f 30 2, bobBase := f 32 1, bobCount := f 33 1,
    semBase := f 34 1, semCount := f 35 1, weights := [f 36 1, f 37 1, f 38 1] }

/-- Reserved bytes and bits of a body are zero. -/
def partReservedOk (b : List Byte) : Bool :=
  decide (b.length = 528 ∧ fieldAt b 12 4 = 0) &&
  (List.range 8).all (fun i =>
    let e := partEntry b i
    decide (fieldAt e 0 1 < 2 ∧ fieldAt e 1 1 = 0 ∧ fieldAt e 5 3 = 0 ∧ fieldAt e 39 25 = 0))

/-- Two ranges of units meet. -/
def rangesMeet (a n c m : Nat) : Bool := decide (n ≠ 0 ∧ m ≠ 0 ∧ a < c + m ∧ c < a + n)

/-- The rules of R404 and R406 hold; no enabled entry names a stack, core group or granule in the given masks, which left-out
parts have taken away (R431, R458). -/
def partOk (noCores noStacks noGranules : Nat) (b : List Byte) : Bool :=
  let es := (List.range 8).map (partFields b)
  let on := (List.range 8).filter (fun i => (partFields b i).enable)
  let pairs := on.flatMap (fun i => (on.filter (fun j => i < j)).map (fun j => (partFields b i, partFields b j)))
  !bitOf (cacheMask b) 23 && es.all (fun e => !bitOf e.scratch 23 && decide (e.scratch &&& cacheMask b = 0)) &&
  on.all (fun i =>
    let e := partFields b i
    decide (e.cores ≠ 0 ∧ e.deepBase + e.deepSize ≤ 512 ∧ e.bobBase + e.bobCount ≤ 64 ∧ e.semBase + e.semCount ≤ 64 ∧
      e.cores &&& noCores = 0 ∧ e.stackMask &&& noStacks = 0 ∧ e.scratch &&& noGranules = 0) &&
    e.weights.all (fun w => w != 0)) &&
  pairs.all (fun p =>
    decide (p.1.cores &&& p.2.cores = 0 ∧ p.1.stackMask &&& p.2.stackMask = 0 ∧ p.1.scratch &&& p.2.scratch = 0) &&
    !rangesMeet p.1.deepBase p.1.deepSize p.2.deepBase p.2.deepSize &&
    !rangesMeet p.1.bobBase p.1.bobCount p.2.bobBase p.2.bobCount &&
    !rangesMeet p.1.semBase p.1.semCount p.2.semBase p.2.semCount)

/-- Instances whose entries differ, disabled ones on both sides apart (R406 step 1). -/
def partChanged (old new : List Byte) : List Nat :=
  (List.range 8).filter (fun i => ((partFields old i).enable || (partFields new i).enable) && partEntry old i != partEntry new i)

/-- Mode, owner and assignment that a body gives module granule `k` (R239): cache; a scratchpad of an enabled instance; or a
scratchpad without owner. The firmware granule stays as it is. -/
def partGranule (b : List Byte) (k : Nat) : Nat :=
  if k = 23 then 0
  else if bitOf (cacheMask b) k then 1 + 2 ^ 4
  else match (List.range 8).find? (fun i => (partFields b i).enable && bitOf (partFields b i).scratch k) with
    | some i => i * 2 + 2 ^ 4
    | none => 0

namespace State

/-- The `w` bits of each failed die, of a mask with `w` bits a die. -/
def deadMask (s : State) (w : Nat) : Nat :=
  ((List.range 4).map (fun d => if bitOf s.msys.noDie d then (2 ^ w - 1) * 2 ^ (w * d) else 0)).sum

/-- A body is accepted on this module. -/
def partAccepted (s : State) (b : List Byte) : Bool :=
  partOk (s.deadMask 4) (s.msys.noStack ||| s.deadMask 2) (s.deadMask 24) b

/-- An entry names a core group, stack or granule that is left out (R431, R458). -/
def entryDead (s : State) (e : PartFields) : Bool :=
  decide (e.cores &&& s.deadMask 4 ≠ 0 ∨ e.stackMask &&& (s.msys.noStack ||| s.deadMask 2) ≠ 0 ∨ e.scratch &&& s.deadMask 24 ≠ 0)

/-- A body without the entries that name what is left out: those instances stay disabled. -/
def partWithout (s : State) (b : List Byte) : List Byte :=
  b.take 16 ++ (List.range 8).flatMap (fun i => if s.entryDead (partFields b i) then List.replicate 64 0 else partEntry b i)

def granuleNow (s : State) (k : Nat) : Nat := (s.reg (R.MEM_OVC_GRANULE k)).toNat % 32

/-- The granules that a body changes. -/
def granulesChanged (s : State) (b : List Byte) : List Nat :=
  (List.range 96).filter (fun k => k != 23 && s.granuleNow k != partGranule b k)

/-- The change begins (R246 step 1): the affected quadrants stop allocating, their granules show what becomes of them. -/
def startRemap (s : State) (b : List Byte) : State :=
  let ch := s.granulesChanged b
  let count := fun (q : Nat) (f : Nat → Nat) => ((List.range 24).filter (fun g => bitOf (f (24 * q + g)) 0)).length
  let zero := ch.filter (fun k => !bitOf (partGranule b k) 0)
  let quads := (List.range 4).filter (fun q => decide (count q s.granuleNow ≠ count q (partGranule b)))
  have s := { s with msys := { s.msys with remap := some ⟨b, zero, quads⟩ } }
  have s := ((List.range 4).filter (fun q => ch.any (fun k => k / 24 == q))).foldl (fun s q =>
    s.setFld (R.MEM_OVC_STATUS q) F.MEM_OVC_STATUS_remap_busy 1) s
  ch.foldl (fun s k => s.setFld (R.MEM_OVC_GRANULE k) F.MEM_OVC_GRANULE_state
    (if bitOf (s.granuleNow k) 0 then 2 else if zero.contains k then 1 else 0)) s

/-- A quadrant's whole cache is flushed and invalidated (R246 step 2); a poisoned line's data is lost. -/
def flushQuad (s : State) (q : Nat) : State :=
  have s := (s.msys.victims.get [] q).foldl (fun s v => s.endVictim q v) s
  ((s.msys.lines.filter (fun e => quadOf e.1 == q)).map Prod.fst).foldl (fun s l => (s.cleanLine l).dropLine l) s

/-- A granule's scratchpad bytes become zero (R246 step 3). -/
def zeroGranule (s : State) (k : Nat) : State :=
  let lo := 0x10000000000 + k * 0x4000000
  { s with mem := s.mem.filter (fun e => !(decide (lo ≤ e.1 ∧ e.1 < lo + 0x4000000))),
           msys := { s.msys with poison := s.msys.poison.filter (fun w => !(decide (lo ≤ 8 * w ∧ 8 * w < lo + 0x4000000))) } }

/-- The new modes and owners take effect (R246 step 4). -/
def setGranules (s : State) (b : List Byte) : State :=
  have s := ((List.range 96).filter (fun k => k != 23)).foldl (fun s k =>
    s.setReg (R.MEM_OVC_GRANULE k) (BitVec.ofNat 64 (partGranule b k))) s
  (List.range 4).foldl (fun s q =>
    have s := s.setFld (R.MEM_OVC_STATUS q) F.MEM_OVC_STATUS_remap_busy 0
    s.setFld (R.MEM_OVC_STATUS q) F.MEM_OVC_STATUS_cache_granules (s.cacheGranules q).length) s

/-- SCH_CORE names the instance that owns the core's group, or shows that the group is not assigned. -/
def showOwner (s : State) (c : Nat) : State :=
  let o := s.instOfCore c
  (s.setFld (R.SCH_CORE c) F.SCH_CORE_instance (o.getD 0)).setFld (R.SCH_CORE c) F.SCH_CORE_assigned (if o.isSome then 1 else 0)

/-- The assignment of a body takes effect (R406 step 3). -/
def assign (s : State) (b : List Byte) : State :=
  have s := (List.range 8).foldl (fun s i =>
    let e := partFields b i
    have s := s.setFld (R.SCH_INST_STATE i) F.SCH_INST_STATE_enable (if e.enable then 1 else 0)
    have s := s.setReg (R.SCH_INST_CORES i) (BitVec.ofNat 64 e.cores)
    have s := s.setReg (R.SCH_INST_MEM i) (BitVec.ofNat 64 (e.stackMask + e.deepBase % 2 ^ 9 * 2 ^ 8 + e.deepSize % 2 ^ 10 * 2 ^ 17))
    have s := s.setReg (R.SCH_INST_RANGES i) (BitVec.ofNat 64
      (e.bobBase % 2 ^ 6 + e.bobCount % 2 ^ 7 * 2 ^ 6 + e.semBase % 2 ^ 6 * 2 ^ 13 + e.semCount % 2 ^ 7 * 2 ^ 19))
    have s := s.setReg (R.SCH_INST_WEIGHTS i) (BitVec.ofNat 64 (natOfBytes (e.weights.map (fun w => BitVec.ofNat 8 w))))
    (List.range 4).foldl (fun s q => s.setReg (R.MEM_OVC_QUOTA q i) (BitVec.ofNat 64 ((e.quotas[q]?).getD 0))) s) s
  have s := (List.range 128).foldl (fun s c => s.showOwner c) s
  { s with msys := { s.msys with partition := b } }

/-- The image's partition after training: its entries that name a stack or die left out are refused (R431, R458; DEDUCED:
the image is applied before training tells what is left out). -/
def refuseEntries (s : State) : State :=
  if (List.range 8).any (fun i => (partFields s.msys.partition i).enable && s.entryDead (partFields s.msys.partition i)) then
    (s.setGranules (s.partWithout s.msys.partition)).assign (s.partWithout s.msys.partition)
  else s

/-- A partition change's first part (R406 step 1, R246 step 1): changed instances are reset, those that become disabled lose
their sessions, and the granules begin to change. -/
def startPartition (s : State) (b : List Byte) : State :=
  have s := (partChanged s.msys.partition b).foldl (fun s i =>
    have s := s.resetInstance i
    if (partFields b i).enable then s
    else ((s.sessions.filter (fun e => e.2.created && !e.2.mgmt && e.2.inst == i)).map Prod.fst).foldl (fun s k => s.closeSession k) s) s
  s.startRemap b

/-- The rest of the change (R246 steps 2 to 4, R406 step 3). -/
def finishPartition (s : State) (r : Remap) : State :=
  have s := r.quads.foldl (fun s q => s.flushQuad q) s
  have s := r.zero.foldl (fun s k => s.zeroGranule k) s
  let changed := partChanged s.msys.partition r.body
  have s := { (s.setGranules r.body).assign r.body with
    msys := { ((s.setGranules r.body).assign r.body).msys with remap := none } }
  changed.foldl (fun s i => s.resetOver i) s

end State
end Sys2Proof.Machine
end

