-- ==== Sys2Proof/Machine/Startup.lean ====
section
/-! DEFINITION. Power-on, module reset and cold boot (R14, R424 to R431, R436, R458). -/
namespace Sys2Proof.Machine
namespace State

/-! ### Resets of the whole module (R436) -/

/-- Registers that a module reset keeps: the part's own identity, the always-on domain (inputs, management bus), the boot
cause, the transfer count and the number of snapshots in flash. -/
def keptRegs (off : Nat) : Bool :=
  off == R.GLB_MODULE_ID || off == R.PWR_BOOT_CAUSE || off == R.PWR_TRANSFERS || off == R.PWR_INPUT_STATUS || off == R.PWR_INPUT_V ||
  off == R.RAS_SNAP_COUNT || off == R.RAS_SMB_CFG || off == R.RAS_SMB_ARB_LOST || off == R.RAS_SMB_DROPS ||
  decide (0x100014 ≤ off ∧ off < 0x102000)

/-- A module reset: everything but the always-on domain and flash; boot goes on from step 2 with its cause (R436). HBM and
the deep tier keep their bytes until something writes them (DESIGN CHOICE: the manual clears Pocket and Overcast only). -/
def moduleReset (s : State) (cause : Nat) : State :=
  let onB := s.fld R.GLB_STATUS F.GLB_STATUS_on_input_b
  let r := State.reset
  let ras := { r.ras with snaps := s.ras.snaps, eid := s.ras.eid, smbLosses := s.ras.smbLosses, smbHeld := s.ras.smbHeld,
                          smbReply := s.ras.smbReply, tap := s.ras.tap }
  let pwr := { r.pwr with aFailed := s.pwr.aFailed, bFailed := s.pwr.bFailed, powered := s.pwr.powered, resetHigh := s.pwr.resetHigh }
  let host := { r.host with flash := s.host.flash }
  let mem := s.mem.filter (fun e => decide (e.1 < 0x10000000000))
  have s := { r with regs := s.regs.filter (fun e => keptRegs e.1), mem := mem, hostMem := s.hostMem, host := host, pwr := pwr,
                     ras := ras, free := s.free, pending := s.pending }
  have s := s.setReg R.PWR_BOOT_CAUSE (BitVec.ofNat 64 cause)
  have s := s.setFld R.GLB_STATUS F.GLB_STATUS_on_input_b onB
  s.setFld R.PWR_BOOT_STATUS F.PWR_BOOT_STATUS_step 2

/-- Power-on: everything but flash is at its reset value; the part's identity registers are fixed (R6, R358, R436). -/
def powerOn (s : State) (fresh : Option PartInfo) : State :=
  let part := fun (off : Nat) => off == R.GLB_MODULE_ID || decide (0x100014 ≤ off ∧ off < 0x102000)
  let base := { State.reset with hostMem := s.hostMem, free := s.free, pending := s.pending }
  match fresh with
  | none =>
    let ras := { base.ras with snaps := s.ras.snaps }
    let regs := s.regs.filter (fun e => part e.1 || e.1 == R.RAS_SNAP_COUNT)
    { base with regs := regs, ras := ras, host := { base.host with flash := s.host.flash } }
  | some p =>
    let flash : Flash := ⟨p.imageA, p.imageB, p.svnFloor, p.commandKeys, p.fabricKeys, p.epochs⟩
    have s := { base with host := { base.host with flash := flash } }
    have s := s.setReg R.GLB_MODULE_ID (BitVec.ofNat 64 ((if p.variantAC then 2 else 1) + 0x80 * 2 ^ 8 + p.stepping % 2 ^ 8 * 2 ^ 16))
    have s := (List.range 16).foldl (fun s j => s.setReg (R.THM_DEVKEY j) (BitVec.ofNat 64 (fieldAt p.devKey (8 * j) 8))) s
    have s := (List.range 512).foldl (fun s j => s.setReg (R.THM_CERT j) (BitVec.ofNat 64 (fieldAt p.cert (8 * j) 8))) s
    s.setReg R.THM_CERT_LEN (BitVec.ofNat 64 (min 4096 p.cert.length))

/-! ### Boot steps -/

def bootStep (s : State) : Nat := s.fld R.PWR_BOOT_STATUS F.PWR_BOOT_STATUS_step

/-- The module moves to a boot step and its module state. -/
def enterStep (s : State) (step st : Nat) : State :=
  (s.setFld R.PWR_BOOT_STATUS F.PWR_BOOT_STATUS_step step).setModState st

/-- Both inputs measured (R430 step 1, R432): the good bits, and B drawn from when only B is good. -/
def measureInputs (s : State) (a b : Nat) : State :=
  have s := s.setReg R.PWR_INPUT_V (BitVec.ofNat 64 (a % 2 ^ 16 + b % 2 ^ 16 * 2 ^ 16))
  have s := s.setFld R.PWR_INPUT_STATUS F.PWR_INPUT_STATUS_a_good (if goodCv a then 1 else 0)
  have s := s.setFld R.PWR_INPUT_STATUS F.PWR_INPUT_STATUS_b_good (if goodCv b then 1 else 0)
  let onB := if !goodCv a && goodCv b then 1 else 0
  have s := s.setFld R.PWR_INPUT_STATUS F.PWR_INPUT_STATUS_on_b onB
  have s := s.setFld R.GLB_STATUS F.GLB_STATUS_on_input_b onB
  { s with pwr := { s.pwr with aFailed := failedCv a, bFailed := failedCv b } }

/-- An image copy as PWR_IMAGE shows it; whether it passes R426. -/
def imageOk (s : State) (i : Option Image) : Bool :=
  match i with
  | some x => x.valid && decide (s.host.flash.svnFloor ≤ x.svn)
  | none => false

def showImage (s : State) (off : Nat) (i : Option Image) (running : Bool) : State :=
  match i with
  | some x => s.setReg off (BitVec.ofNat 64 (x.sequence % 2 ^ 32 + x.svn % 2 ^ 16 * 2 ^ 32 +
      (if s.imageOk i then 2 ^ 48 else 0) + (if running then 2 ^ 49 else 0)))
  | none => s.setReg off 0

/-- The image that boot runs: the valid one with the higher sequence, A when they are equal (R428): true for B. -/
def chooseImage (s : State) : Option (Bool × Image) :=
  let f := s.host.flash
  match f.imageA, f.imageB, s.imageOk f.imageA, s.imageOk f.imageB with
  | some a, some b, true, true => if a.sequence < b.sequence then some (true, b) else some (false, a)
  | some a, _, true, _ => some (false, a)
  | _, some b, _, true => some (true, b)
  | _, _, _, _ => none

/-- A register value that the image sets: the register's own fields. -/
def imageReg (s : State) (off v : Nat) : State :=
  match rowAt off with
  | some r => s.setReg off (BitVec.ofNat 64 (r.fields.foldl (fun a f => a + bitsOf v f.lo f.len * 2 ^ f.lo) 0))
  | none => s

/-- Step 3's end (R320, R426 to R428): the running image, the raised svn floor, the patch, epochs from the next block. -/
def loadImage (s : State) (b : Bool) (x : Image) : State :=
  have s := (s.showImage R.PWR_IMAGE_A s.host.flash.imageA (!b)).showImage R.PWR_IMAGE_B s.host.flash.imageB b
  have s := s.setFld R.GLB_STATUS F.GLB_STATUS_image_b (if b then 1 else 0)
  have s := s.setFld R.PWR_BOOT_STATUS F.PWR_BOOT_STATUS_image_b (if b then 1 else 0)
  have s := s.setFld R.THM_STATUS F.THM_STATUS_fw_ready 1
  have s := match x.records.patch with
    | some v => (s.setFld R.THM_STATUS F.THM_STATUS_patch_loaded 1).setFld R.THM_STATUS F.THM_STATUS_patch_version v
    | none => s
  let f := s.host.flash
  let next := (List.range 16).map (fun k => (k, f.epochs.get 0 k))
  let stored : Tbl Nat := next.map (fun e => (e.1, e.2 + 2 ^ 16))
  let flash := { f with svnFloor := max f.svnFloor x.svn, epochs := stored }
  have s := { s with fab := { s.fab with epochNext := next }, host := { s.host with flash := flash } }
  { s with host := { s.host with image := some x.records, provKey := x.records.provisioningKey } }

/-- Step 4's end (R427, R429): the image applied, Pocket and Overcast zero, the configuration locked. -/
def applyImage (s : State) (r : ImageRecords) : State :=
  have s := { s with mem := s.mem.filter (fun e => decide (e.1 < 0x10000000000)), msys := { s.msys with poison := [] } }
  have s := s.setReg R.GLB_POD_ID (BitVec.ofNat 64 (r.podDevice % 64 + (if r.gate then 64 else 0) + r.podNumber % 128 * 2 ^ 8))
  have s := (List.range 8).foldl (fun s i => s.setFld (R.SEAM_VOTE_TREE i) F.SEAM_VOTE_TREE_job_id r.jobId) s
  have s := s.setCap r.tdpW r.backupW
  have s := s.setReg R.PWR_THERM_CFG (BitVec.ofNat 64 (r.throttleC % 2 ^ 8 + r.shutdownC % 2 ^ 8 * 2 ^ 8))
  have s := (r.ports.filter (fun e => decide (0xE00000 ≤ e.1 ∧ e.1 < 0x1000000))).foldl (fun s e => s.imageReg e.1 e.2) s
  have s := (s.imageReg R.FAB_PTP_CFG r.ptpCfg).imageReg R.FAB_UDP_PORT r.udpPort
  have s := { s with fab := { s.fab with lps := r.lps } }
  have s := (s.setGranules r.partition).assign r.partition
  have s := ((r.vote.getD []).filter (fun e => decide (0xC08000 ≤ e.1 ∧ e.1 < 0xC08800))).foldl (fun s e => s.imageReg e.1 e.2) s
  have s := { s with host := { s.host with members := r.members, gateDevice := r.gateDevice,
                                           joinLimit := clampTo 5 120 r.joinTimeoutS, jobId := r.jobId } }
  s.ownWindows.setFld R.GLB_STATUS F.GLB_STATUS_cfg_locked 1

/-- The dies powered at the clocks that the image asks for (R430 step 4, R435). -/
def powerDies (s : State) (r : ImageRecords) (mv temps : List Nat) : State :=
  have s := (List.range 4).foldl (fun s d =>
    have s := s.setReg (R.PWR_DIE_REQ d) (BitVec.ofNat 64 (((r.clocks.getD [])[d]?).getD 1400 % 2 ^ 12))
    have s := s.setDieMhz d (s.dieReq d)
    have s := match mv[d]? with
      | some v => s.setFld (R.PWR_DIE_STATUS d) F.PWR_DIE_STATUS_mv (clampTo 600 1000 v)
      | none => s
    s.setFld (R.PWR_DIE_STATUS d) F.PWR_DIE_STATUS_temp_c ((temps[d]?).getD 0)) s
  s.boundRatio.showThrottle

/-- Steps 1 to 4 (R430). -/
def bootSteps (s : State) (b : BootIn) : State :=
  have s := s.measureInputs b.aCv b.bCv
  have s := { s with pwr := { s.pwr with resetHigh := b.resetHigh } }
  if !b.resetHigh || (!goodCv b.aCv && !goodCv b.bCv) then s.enterStep 1 0
  else
    have s := s.enterStep 2 0
    if !b.refOk then s.failModule 0x85
    else
      have s := s.setReg R.HST_BOOT_NONCE_LO (BitVec.ofNat 64 b.nonce.toNat)
      have s := s.setReg R.HST_BOOT_NONCE_HI (BitVec.ofNat 64 (b.nonce.toNat / 2 ^ 64))
      have s := s.enterStep 3 0
      match s.chooseImage with
      | none => s.failModule 0x83
      | some (c, x) =>
        have s := (s.loadImage c x).enterStep 4 0
        if !b.railOk then s.failModule 0x86
        else (((s.powerDies x.records b.mv b.tempC).applyImage x.records).enterStep 5 1)

/-! ### Step 5 (R14, R247, R254, R431, R458) -/

/-- The two physical cores of a die that are left out: failing ones from the lowest, then the highest working ones. -/
def excludedCores (failed : List Nat) : List Nat :=
  let bad := (List.range 34).filter (fun c => failed.contains c)
  let good := (List.range 34).reverse.filter (fun c => !failed.contains c)
  (bad ++ good).take 2

/-- The logical cores of a die that are mapped to failing physical cores. -/
def absentLogical (failed : List Nat) : List Nat :=
  let ex := excludedCores failed
  let phys := (List.range 34).filter (fun c => !ex.contains c)
  (List.range 32).filter (fun k => failed.contains ((phys[k]?).getD 99))

def trainCores (s : State) (t : TrainIn) : State :=
  (List.range 4).foldl (fun s d =>
    let failed := (t.failedCores[d]?).getD []
    let ex := excludedCores failed
    let dead := bitOf t.failedDies d
    have s := s.setReg (R.GLB_SPARE_MAP d) (BitVec.ofNat 64 (ex.foldl min 63 + ex.foldl max 0 * 2 ^ 8))
    let mask := if dead then 2 ^ 32 - 1 else ((absentLogical failed).map (fun k => 2 ^ k)).sum
    s.setReg (R.GLB_CORE_ABSENT d) (BitVec.ofNat 64 mask)) s

/-- A die that fails its test: logged, its parts unmapped, its clock the lowest (R458). -/
def leaveOutDie (s : State) (d : Nat) : State :=
  have s := s.setDieMhz d 600
  { s with msys := { s.msys with noDie := setBit s.msys.noDie d,
                                 noStack := setBit (setBit s.msys.noStack (2 * d)) (2 * d + 1) } }.log 1 0x29 ⟨0, 4, d⟩ (value := d)

def leaveOutStack (s : State) (n : Nat) : State :=
  { s with msys := { s.msys with noStack := setBit s.msys.noStack n } }.log 1 0x28 (uStack n) (value := 0)

def leaveOutPackage (s : State) (p : Nat) : State :=
  { s with msys := { s.msys with noPackage := setBit s.msys.noPackage p } }.log 1 0x28 (uPackage p) (value := 1)

/-- What training and testing found. -/
def train (s : State) (t : TrainIn) : State :=
  have s := (List.range 8).foldl (fun s n => match (t.stackRates[n]?).getD none with
    | some r => s.setReg (R.MEM_HBM_STATUS n) (BitVec.ofNat 64 (1 + r % 4 * 2 + ((t.stackSpares[n]?).getD 0) % 2 ^ 8 * 2 ^ 3))
    | none => s.leaveOutStack n) s
  have s := (List.range 8).foldl (fun s p =>
    if bitOf t.packagesOk p then s.setFld (R.MEM_DT_STATUS p) F.MEM_DT_STATUS_trained 1 else s.leaveOutPackage p) s
  have s := s.trainCores t
  have s := ((List.range 4).filter (fun d => bitOf t.failedDies d)).foldl (fun s d => s.leaveOutDie d) s
  have s := s.refuseEntries
  have s := s.setFld R.GLB_STATUS F.GLB_STATUS_die_ok (15 - t.failedDies % 16)
  have s := s.setFld R.GLB_STATUS F.GLB_STATUS_active_cores ((List.range 128).filter (fun c => !s.absent c)).length
  s.enterStep 6 2

/-! ### Steps 6 to 8 -/

/-- The body of SESSION_CREATE and of a control-tree session (R318), as the model lays it out (DESIGN CHOICE): index 0–1,
instance 2, port 3, role 4, peer pod 5, peer device 6, key 7, peer index 8–9, deadline 10–11, channels 12, peer IP 16–31,
next hop 32–37; the other bytes of 64 are zero. -/
def sessionOf (b : List Byte) (old : Session) : Session :=
  let f := fieldAt b
  { Session.reset with
    created := true, inst := f 2 1 % 8, port := f 3 1 % 128, responder := bitOf (f 4 1) 0, peerPod := f 5 1 % 128,
    peerDevice := f 6 1 % 64, peerIndex := f 8 2 % 4096, peerIp := f 16 16, nextHop := f 32 6, keyId := f 7 1 % 16,
    deadlineNs := f 10 2 % 2 ^ 14, vcMask := f 12 1 % 16, lastAccepted := old.lastAccepted }

/-- A session is created: an initiator sends OPEN, a responder listens (R319). -/
def createSession (s : State) (k : Nat) (b : List Byte) (mgmt : Bool) (nonce : BitVec 128) : State :=
  let x := { sessionOf b (s.sess k) with mgmt := mgmt }
  if x.responder then s.setSess k { x with state := .listen, ownNonce := nonce }
  else (s.setSess k x).sendOpen k nonce

/-- Step 6's end: the trained ports are up, the others down; step 7 opens the control tree (R318, R430). -/
def linkTrain (s : State) (up : BitVec 96) : State :=
  have s := s.allPorts.foldl (fun s n =>
    if up.getLsbD n && !bitOf s.msys.noDie (n / 24) then
      (s.lanesOf n).foldl (fun s l => s.setRegBit (R.FAB_PORT_STATUS (n / 4)) l true) (s.setLink n true)
    else s.log 2 0x46 (uPort n)) s
  have s := if s.fld R.FAB_PTP_STATUS F.FAB_PTP_STATUS_state = 0 then s.setFld R.FAB_PTP_STATUS F.FAB_PTP_STATUS_state 1 else s
  have s := s.enterStep 7 3
  have s := if s.isGate then s.setMember s.podDevice true else s
  match s.host.image with
  | none => s
  | some r => r.sessions.foldl (fun s b =>
      let (n, s) := s.fresh
      s.createSession (fieldAt b 0 2 % 4096) b true (BitVec.ofNat 128 n)) s

def memberNonce (s : State) (dev : Nat) (nonce : BitVec 128) : State :=
  (s.setReg (R.HST_MEMBER_NONCE_LO dev) (BitVec.ofNat 64 nonce.toNat)).setReg (R.HST_MEMBER_NONCE_HI dev)
    (BitVec.ofNat 64 (nonce.toNat / 2 ^ 64))

/-- A member reports its nonce to the gate (R353, R430). -/
def joinMember (s : State) (dev : Nat) (nonce : BitVec 128) : State :=
  if s.isGate then (s.memberNonce dev nonce).setMember dev true else s

/-- Step 7 ends: the gate's pod state is ready, or degraded while a listed member is missing. -/
def endJoin (s : State) : State :=
  have s := { s with host := { s.host with joined := true } }
  if s.isGate then (s.setFld R.HST_POD_STATE F.HST_POD_STATE_state 1).showPod else s

end State

/-! ### Commands -/

/-- POWER_ON (R436): both inputs rise from absent; a fresh part brings its identity and flash. -/
def execPowerOn (aCv bCv : Nat) (fresh : Option PartInfo) (s : State) : Out := .next ((s.powerOn fresh).measureInputs aCv bCv)

/-- MOD_RESET_N (R436): 25 consecutive low samples start a module reset, which waits in step 1 for the pin. -/
def execModResetN (lowSamples : Nat) (s : State) : Out :=
  if lowSamples < 25 then .next s
  else .next { s.moduleReset 1 with pwr := { (s.moduleReset 1).pwr with resetHigh := false } }

/-- BOOT (R430): steps 1 to 4. -/
def execBoot (b : BootIn) (s : State) : Out :=
  if s.modState ≠ 0 ∨ s.bootStep > 2 then .next s else .next (s.bootSteps b)

/-- MEM_TRAIN (R430): step 5. -/
def execMemTrain (t : TrainIn) (s : State) : Out := if s.modState ≠ 1 then .next s else .next (s.train t)

/-- LINK_TRAIN (R430): step 6. -/
def execLinkTrain (up : BitVec 96) (s : State) : Out := if s.modState ≠ 2 then .next s else .next (s.linkTrain up)

/-- POD_JOIN (R430): step 7 ends once pod time is locked and, on the gate, every listed member has joined. -/
def execPodJoin (joined : List (Fin 64 × BitVec 128)) (timeLocked : Bool) (s : State) : Out :=
  if s.modState ≠ 3 then .next s
  else
    have s := joined.foldl (fun s m => s.joinMember m.1.val m.2) s
    have s := if timeLocked && !s.fab.everLocked then
        { s with fab := { s.fab with everLocked := true, ptpLocked := true } }.setFld R.FAB_PTP_STATUS F.FAB_PTP_STATUS_time_valid 1
      else s
    let all := s.host.members &&& (s.reg R.HST_POD_MEMBERS).toNat = s.host.members
    .next (if s.fab.everLocked && (!s.isGate || all) then s.endJoin else s)

/-- READY (R430): step 8; PWR_GOOD is asserted and the gate's PCIe link enabled. -/
def execReady (s : State) : Out :=
  if s.modState ≠ 3 ∨ !s.host.joined then .next s
  else
    let (ms, s) := s.fresh
    have s := { s with pwr := { s.pwr with pwrGood := true } }
    have s := s.setReg R.PWR_BOOT_ELAPSED (BitVec.ofNat 64 (ms % 2 ^ 32))
    have s := s.enterStep 8 4
    .next (if s.isGate then s.setReg R.HST_LINK_STATUS (BitVec.ofNat 64 (setBit (Config.linkStatus % 2 ^ 8) 8)) else s)

/-- BOOT_STEP_TIMEOUT (R430): steps 2 to 4 fail the module; steps 5 and 6 leave out what has not finished. -/
def execBootStepTimeout (st : BootStep) (s : State) : Out :=
  match st with
  | .s1 => .next s
  | .s2 => .next (if s.modState = 0 then (s.enterStep 2 0).failModule 0x85 else s)
  | .s3 => .next (if s.modState = 0 then (s.enterStep 3 0).failModule 0x83 else s)
  | .s4 => .next (if s.modState = 0 then (s.enterStep 4 0).failModule 0x86 else s)
  | .s5 => .next (if s.modState = 1 then s.train ⟨List.replicate 8 none, [], 0, [], 0⟩ else s)
  | .s6 => .next (if s.modState = 2 then s.linkTrain 0 else s)

/-- MEMBER_JOIN (R430): a member that joins later. -/
def execMemberJoin (dev : Fin 64) (nonce : BitVec 128) (s : State) : Out :=
  .next (if 3 ≤ s.modState ∧ s.modState ≠ 0xF then s.joinMember dev.val nonce else s)

/-- POD_JOIN_TIMEOUT (R429, R430): the pod is degraded and the module continues. -/
def execPodJoinTimeout (s : State) : Out :=
  if s.modState ≠ 3 ∨ s.host.joined then .next s
  else
    have s := { s with host := { s.host with joined := true } }
    .next (s.setFld R.HST_POD_STATE F.HST_POD_STATE_state 3)

/-- PARTITION_CHANGE_COMPLETE (R246, R406): the flush and the zeroing are over. -/
def State.partitionDone (s : State) : State :=
  match s.msys.remap with
  | some r => s.finishPartition r
  | none => s

end Sys2Proof.Machine
end

