-- ==== Sys2Proof/Machine/Commands.lean ====
section
/-! DEFINITION. Thimble's commands: the block and its checks (R350 to R353), tunnels (R354, R355), and what each command
does (R258, R282, R318, R351, R356, R406, R413, R428, R436, R442, R456). -/
namespace Sys2Proof.Machine

/-- What the environment brings to a command: how an HBM repair ends, the nonce of a new session. -/
structure CmdEnv where
  repair : RepairOutcome
  nonce : BitVec 128
  deriving DecidableEq, Repr

/-- The opcodes of R351. -/
def cmdOpcodes : List Nat :=
  [0x0101, 0x0102, 0x0201, 0x0202, 0x0203, 0x0204, 0x0205, 0x0301, 0x0401, 0x0402, 0x0501, 0x0502, 0x0601, 0x0701, 0x0702,
   0x0703, 0x0801]

/-- Body lengths that an opcode takes. The manual gives those of PARTITION, POWER_CAP and LOG_SEAL; the others are the
model's layouts (DESIGN CHOICE). -/
def bodyLenOk (op n : Nat) : Bool :=
  match op with
  | 0x0101 => n == 528
  | 0x0102 => n == 0
  | 0x0201 => n == 256
  | 0x0202 => n == 48 || n == 32
  | 0x0203 => n == 8
  | 0x0204 => n == 16
  | 0x0205 => n == 16
  | 0x0301 => n == 4
  | 0x0401 => n == 16
  | 0x0402 => n == 16
  | 0x0501 => n == 64
  | 0x0502 => n == 8
  | 0x0601 => n == 48
  | 0x0701 => n == 8
  | 0x0702 => n == 8
  | 0x0703 => n == 8
  | 0x0801 => n == 16
  | _ => true

/-- Reserved fields of the bodies are zero. -/
def bodyOk (op : Nat) (b : List Byte) : Bool :=
  let f := fieldAt b
  match op with
  | 0x0101 => partReservedOk b
  | 0x0201 => decide (f 152 1 < 4 ∧ f 153 7 = 0)
  | 0x0202 => decide (f 0 1 < 3 ∧ f 2 6 = 0 ∧ f 1 1 < (if f 0 1 = 0 then 4 else if f 0 1 = 1 then 16 else 8) ∧
      b.length = (if f 0 1 = 2 then 32 else 48))
  | 0x0203 => decide (f 0 1 < 3 ∧ f 2 6 = 0 ∧ f 1 1 < (if f 0 1 = 0 then 4 else if f 0 1 = 1 then 16 else 8))
  | 0x0205 => decide (f 0 8 < 2 ^ 48 ∧ f 12 4 = 0)
  | 0x0401 => decide (f 0 8 < 2 ^ 48 ∧ f 8 8 ≤ 0x40000)
  | 0x0402 => decide (f 0 8 < 2 ^ 48 ∧ f 8 8 < 2)
  | 0x0501 => decide (f 0 2 < 4096 ∧ f 2 1 < 8 ∧ f 3 1 < 96 ∧ f 4 1 < 2 ∧ f 5 1 < 128 ∧ f 6 1 < 64 ∧ f 7 1 < 16 ∧
      f 8 2 < 4096 ∧ f 10 2 < 2 ^ 14 ∧ f 12 1 < 16 ∧ f 13 3 = 0 ∧ f 38 26 = 0)
  | 0x0502 => decide (f 0 8 < 4096)
  | 0x0601 => decide (f 44 4 = 0)
  | 0x0701 => decide (f 0 1 < 9 ∧ f 1 1 < 64 ∧ f 4 4 = 0)
  | 0x0703 => decide (f 0 1 < 16 ∧ f 1 1 = 0 ∧ f 4 4 = 0)
  | 0x0801 => decide (f 0 8 < 2 ^ 48)
  | _ => true

/-- A block parsed (R350), and whether its header and body are well formed (R352 step 1). -/
def parseBlock (b : List Byte) : CmdBlock × Bool :=
  let f := fieldAt b
  let len := f 16 2 % 4096
  let c : CmdBlock :=
    { opcode := f 0 2, device := f 2 1 % 64, pod := f 3 1 % 128, keyId := f 4 1 % 16, inst := f 5 1 % 8, sender := f 6 2,
      counter := f 8 8, body := (b.drop 32).take len, raw := b.take (32 + len),
      tag := BitVec.ofNat 64 (fieldAt b (32 + len) 8) }
  (c, decide (f 2 1 < 64 ∧ f 3 1 < 128 ∧ f 4 1 < 16 ∧ f 5 1 < 8 ∧ 1 ≤ c.counter ∧ f 16 4 ≤ 4056 ∧ f 20 12 = 0) &&
    bodyLenOk c.opcode len && bodyOk c.opcode c.body)

/-- Opcodes that need no command key when the receiving module is their target (R351). -/
def openRead (op : Nat) : Bool := decide (op = 0x0702 ∨ op = 0x0703)

/-- Critical commands (R351): a read is one only on its way to another module; KEY_PROVISION is signed instead. -/
def cmdCritical (op : Nat) (remote : Bool) : Bool := (!openRead op || remote) && decide (op ≠ 0x0201)

/-- "PHM-CMD", the label of R353. -/
def cmdLabel : List Byte := [0x50, 0x48, 0x4D, 0x2D, 0x43, 0x4D, 0x44]

namespace State

/-! ### Keys and tags (R352, R353, R356) -/

def bootNonce (s : State) : List Byte := bytesOf (s.reg R.HST_BOOT_NONCE_LO).toNat 8 ++ bytesOf (s.reg R.HST_BOOT_NONCE_HI).toNat 8

def cmdKey (s : State) (k : Nat) : Option (BitVec 256) := (s.host.flash.cmdKeys.find? (fun e => e.1 == k)).map Prod.snd

/-- The tag that a block must carry under a command key. -/
def cmdTag (s : State) (key : BitVec 256) (c : CmdBlock) : BitVec 64 :=
  let work := Config.kdf key cmdLabel (s.bootNonce ++ bytesOf s.podNumber 1 ++ bytesOf s.podDevice 1)
  Config.gmac work (BitVec.ofNat 96 (c.sender + c.device * 2 ^ 16 + c.pod * 2 ^ 24 + c.counter * 2 ^ 32)) c.raw

/-- The 97 bytes of the device public key (R358). -/
def devKeyBytes (s : State) : List Byte := ((List.range 16).flatMap (fun j => bytesOf (s.reg (R.THM_DEVKEY j)).toNat 8)).take 97

/-- The key that a KEY_PROVISION brings, when every check of R356 passes. -/
def provisioned (s : State) (c : CmdBlock) : Option (BitVec 256) :=
  let slot := fieldAt c.body 152 1
  if !Config.provisionOk s.host.provKey (c.raw.take (32 + 160)) ((c.body.drop 160).take 96) then none
  else if c.body.take 16 ≠ s.bootNonce then none
  else if (s.cmdKey slot).isSome then none
  else Config.provisionUnwrap s.devKeyBytes ((c.body.drop 16).take 96) ((c.body.drop 112).take 40)

def lastCounter (s : State) (key sender : Nat) : Option Nat :=
  (s.host.counters.find? (fun e => e.1 == key && e.2.1 == sender)).map (fun e => e.2.2)

def recordCounter (s : State) (c : CmdBlock) : State :=
  let rest := s.host.counters.filter (fun e => !(e.1 == c.keyId && e.2.1 == c.sender))
  { s with host := { s.host with counters := rest ++ [(c.keyId, c.sender, c.counter)] } }

/-- The tag does not verify under the block's command key. -/
def tagWrong (s : State) (c : CmdBlock) : Bool :=
  match s.cmdKey c.keyId with
  | some k => s.cmdTag k c != c.tag
  | none => true

/-- The first failing check of R352, or 0. -/
def cmdCheck (s : State) (c : CmdBlock) (wellFormed vf tunnelled : Bool) : Nat :=
  let needsKey := decide (c.opcode ≠ 0x0201) && (!openRead c.opcode || tunnelled)
  if !wellFormed then 0x02
  else if !cmdOpcodes.contains c.opcode then 0x01
  else if vf && cmdCritical c.opcode tunnelled then 0x73
  else if c.keyId = 15 ∧ needsKey then 0x71
  else if c.keyId ≠ 15 ∧ c.opcode = 0x0201 then 0x71
  else if c.keyId ≠ 15 ∧ (s.cmdKey c.keyId).isNone then 0x71
  else if c.opcode = 0x0201 ∧ (s.provisioned c).isNone then 0x71
  else if c.keyId ≠ 15 ∧ s.tagWrong c then 0x71
  else match s.lastCounter c.keyId c.sender with
    | some n => if c.counter ≤ n then 0x72 else 0
    | none => if s.host.counters.length ≥ 256 then 0x73 else 0

/-- A refused command: counted and logged (R352). -/
def cmdRefused (s : State) (st : Nat) : State :=
  have s := if st = 0x71 then s.inc R.HST_AUTH_FAILS else if st = 0x72 then s.inc R.HST_REPLAYS else s
  s.log 2 st uThimble

/-! ### Tunnels (R354, R355) -/

/-- A message of the tunnel (DESIGN CHOICE: its layout): kind, the gate's number of the command, and the block, or status
and result. -/
def tunnelRequest (id : Nat) (block : List Byte) : List Byte := bytesOf 1 1 ++ bytesOf id 8 ++ block
def tunnelAnswer (id st res : Nat) : List Byte := bytesOf 2 1 ++ bytesOf id 8 ++ bytesOf st 1 ++ bytesOf res 8

/-- A MSG with sub 4 on channel 0 with ord set; none where the table of transactions is full. -/
def sendTunnel (s : State) (k : SessId) (msg : List Byte) (user : TxnUser) : Option State :=
  s.startTxn ⟨k, 0, 7, 4, 0, 0, msg, true, none, 0⟩ user none 0

/-- A command ends with its status and result. -/
def cmdDone (s : State) (via : CmdVia) (st res : Nat) : State :=
  match via with
  | .queue _ w => s.completeWork w st res
  | .tunnel k id => (s.sendTunnel k (tunnelAnswer id st res) .plain).getD s
  | .boot => s

/-! ### What the commands do -/

def withThm (s : State) (t : Option ThmRun) : State := { s with host := { s.host with thm := t } }

/-- PARTITION (R406). -/
def cmdPartition (s : State) (via : CmdVia) (c : CmdBlock) : State :=
  if !s.partAccepted c.body then s.cmdDone via 0x02 0
  else (s.startPartition c.body).withThm (some ⟨via, .partition c.body⟩)

/-- INSTANCE_RESET (R413). -/
def cmdInstanceReset (s : State) (via : CmdVia) (c : CmdBlock) : State :=
  (s.resetInstance c.inst).withThm (some ⟨via, .reset c.inst⟩)

def setFlash (s : State) (f : Flash) : State := { s with host := { s.host with flash := f } }

/-- KEY_PROVISION (R356): its checks have passed. -/
def cmdKeyProvision (s : State) (via : CmdVia) (c : CmdBlock) : State :=
  match s.provisioned c with
  | some k => (s.setFlash { s.host.flash with cmdKeys := s.host.flash.cmdKeys ++ [(fieldAt c.body 152 1, k)] }).cmdDone via 0 0
  | none => s.cmdDone via 0x71 0

/-- KEY_WRITE (R356): the class, the slot and the key wrapped under the command key of the block. -/
def cmdKeyWrite (s : State) (via : CmdVia) (c : CmdBlock) : State :=
  let cls := fieldAt c.body 0 1
  let slot := fieldAt c.body 1 1
  let f := s.host.flash
  if cls = 0 ∧ slot = c.keyId then s.cmdDone via 0x02 0
  else match (s.cmdKey c.keyId).bind (fun k => Config.keyUnwrap k (c.body.drop 8)) with
    | none => s.cmdDone via 0x71 0
    | some k =>
      if cls = 0 then (s.setFlash { f with cmdKeys := f.cmdKeys.filter (fun e => e.1 != slot) ++ [(slot, k)] }).cmdDone via 0 0
      else if cls = 1 then (s.setFlash { f with fabKeys := f.fabKeys.filter (fun e => e.1 != slot) ++ [(slot, k)] }).cmdDone via 0 0
      else { s with host := { s.host with kvKeys := s.host.kvKeys.insert slot (k.setWidth 128) } }.cmdDone via 0 0

/-- KEY_RETIRE (R356). -/
def cmdKeyRetire (s : State) (via : CmdVia) (c : CmdBlock) : State :=
  let cls := fieldAt c.body 0 1
  let slot := fieldAt c.body 1 1
  let f := s.host.flash
  if cls = 0 then
    let left := f.cmdKeys.filter (fun e => e.1 != slot)
    if left.isEmpty && !f.cmdKeys.isEmpty then s.cmdDone via 0x73 0
    else (s.setFlash { f with cmdKeys := left }).cmdDone via 0 0
  else if cls = 1 then (s.setFlash { f with fabKeys := f.fabKeys.filter (fun e => e.1 != slot) }).cmdDone via 0 0
  else { s with host := { s.host with kvKeys := s.host.kvKeys.erase slot } }.cmdDone via 0 0

/-- What still runs when MAINTENANCE waits: copies and engine items (R442). -/
def workRuns (s : State) : Bool :=
  s.cores.any (fun e => e.2.runq.any (fun p => p.phase != .waiting) || !e.2.dmaq.isEmpty || !e.2.mxq.isEmpty || e.2.arr.job.isSome) ||
  s.msys.hostDma.any (fun e => !e.2.isEmpty) || s.upd.any (fun e => !e.2.isEmpty) || s.seam.any (fun e => !e.2.isEmpty) ||
  s.kv.any (fun e => !e.2.queue.isEmpty || e.2.closing.isSome)

/-- The module is in MAINTENANCE (R442 step 4). -/
def enterMaint (s : State) (via : CmdVia) : State :=
  ((s.setModState 7).setFld R.RAS_MAINT F.RAS_MAINT_enter 1).withThm none |>.cmdDone via 0 0

/-- Writing 1 to enter in RAS_MAINT (R442): dispatch stops, and the command waits for the work to end. -/
def cmdMaintEnter (s : State) (via : CmdVia) : State :=
  if s.modState = 7 then s.cmdDone via 0 0 else s.withThm (some ⟨via, .maintEnter⟩)

/-- Writing 0 to enter: back to READY, or to what the votes hold. -/
def cmdMaintExit (s : State) (via : CmdVia) : State :=
  have s := s.setFld R.RAS_MAINT F.RAS_MAINT_enter 0
  (if s.modState = 7 then (s.setModState 4).showVote 0 else s).cmdDone via 0 0

/-- REG_WRITE (R351): a write of the register at an offset; PWR_RESET and RAS_MAINT act by it alone. -/
def cmdRegWrite (s : State) (via : CmdVia) (c : CmdBlock) : State :=
  let off := fieldAt c.body 0 8
  let v := fieldAt c.body 8 8
  if off = R.PWR_RESET ∧ bitOf v 0 then (s.cmdDone via 0 0).moduleReset 2
  else if off = R.RAS_MAINT then (if bitOf v 0 then s.cmdMaintEnter via else s.cmdMaintExit via)
  else (s.writeReg .thimble off v).cmdDone via 0 0

/-- REG_READ (R351): the register at an offset as the result; the log window by eight bytes. -/
def cmdRegRead (s : State) (via : CmdVia) (c : CmdBlock) : State :=
  let off := fieldAt c.body 0 8
  if inLogWindow off && decide (off % 8 = 0) then
    s.cmdDone via 0 (natOfBytes ((List.range 8).map (fun j => s.logWindowByte (off - 0x1410000 + j))))
  else
    let (w, s) := s.readReg .thimble off
    s.cmdDone via 0 w.toNat

/-- CMD_STATUS (R351, R355). -/
def cmdCmdStatus (s : State) (via : CmdVia) (c : CmdBlock) : State :=
  s.cmdDone via 0 ((s.lastCounter (fieldAt c.body 0 1) (fieldAt c.body 2 2)).getD 0)

/-- An image's header (R425) over its records. -/
def parseImage (b : List Byte) : Option Image :=
  let f := fieldAt b
  if f 0 4 = 0x494D4850 ∧ f 4 2 = 1 ∧ f 6 2 = 0 ∧ f 8 4 = b.length ∧ b.length ≤ 0x1800000 ∧ 64 ≤ b.length ∧ f 12 4 = 0 ∧
      f 32 32 = 0 then
    (Config.imageRecords b).map (fun r => ⟨f 16 8, f 24 4, true, r⟩)
  else none

/-- Whether a range lies in HBM that belongs to an instance or to no enabled one. -/
def hbmOf (s : State) (inst a n : Nat) : Bool :=
  decide (a + n ≤ 0x6000000000) && (s.probePoints a n).all (fun x => match s.region x with
    | .hbm k => match s.instOfStack k with
      | some i => decide (i = inst)
      | none => true
    | _ => false)

/-- IMAGE_WRITE (R428): checked, then programmed into the copy that does not run. -/
def cmdImageWrite (s : State) (via : CmdVia) (c : CmdBlock) : State :=
  let src := fieldAt c.body 0 8
  let n := fieldAt c.body 8 4
  let runB := decide (s.fld R.GLB_STATUS F.GLB_STATUS_image_b = 1)
  let f := s.host.flash
  let running := ((if runB then f.imageB else f.imageA).map (fun i => i.sequence)).getD 0
  if n = 0 ∨ !s.hbmOf c.inst src n then s.cmdDone via 0x02 0
  else match parseImage (s.bytesAt src n) with
    | none => s.cmdDone via 0x81 0
    | some i =>
      if i.svn < f.svnFloor ∨ i.sequence ≤ running then s.cmdDone via 0x81 0
      else if s.host.programming.isSome then s.cmdDone via 0x84 0
      else
        have s := s.setFlash (if runB then { f with imageA := none } else { f with imageB := none })
        have s := { s with host := { s.host with programming := some (i, !runB) } }
        have s := s.setReg (if runB then R.PWR_IMAGE_A else R.PWR_IMAGE_B) (BitVec.ofNat 64 (2 ^ 50))
        s.cmdDone via 0 0

/-- POWER_CAP (R4, R5, R351): the applied values are the result. -/
def cmdPowerCap (s : State) (via : CmdVia) (c : CmdBlock) : State :=
  have s := s.setCap (fieldAt c.body 0 2) (fieldAt c.body 2 2)
  s.cmdDone via 0 (s.tdp + s.backupCap * 2 ^ 16)

/-- FIRMWARE_PATCH (R351, R427). -/
def cmdFirmwarePatch (s : State) (via : CmdVia) (c : CmdBlock) : State :=
  let src := fieldAt c.body 0 8
  let n := fieldAt c.body 8 8
  match s.engineRead .thimble src n with
  | 0 =>
    have s := s.setFld R.THM_STATUS F.THM_STATUS_patch_version (Config.patchVersion (s.bytesAt src n))
    (s.setFld R.THM_STATUS F.THM_STATUS_patch_loaded 1).cmdDone via 0 0
  | st => (s.readFailed st uThimble none true src).cmdDone via st 0

/-- HBM_REPAIR (R258). -/
def cmdHbmRepair (s : State) (via : CmdVia) (c : CmdBlock) (out : RepairOutcome) : State :=
  let a := fieldAt c.body 0 8
  let hard := fieldAt c.body 8 8
  if s.modState ≠ 7 then s.cmdDone via 0x26 0
  else match s.region a with
    | .hbm n =>
      let row := Config.hbmRow a
      have s := row.foldl (fun s l => (s.cleanLine l).dropLine l) s
      (match out with
       | .noSpare => s.cmdDone via 0x25 0
       | .mismatch => s.cmdDone via 0x27 0
       | .repaired =>
         have s := { s with mem := s.mem.filter (fun e => !row.contains (e.1 / 256)) }
         have s := s.setFld (R.MEM_HBM_STATUS n) F.MEM_HBM_STATUS_repairs (s.fld (R.MEM_HBM_STATUS n) F.MEM_HBM_STATUS_repairs + 1)
         have s := if hard = 1 then s.setFld (R.MEM_HBM_STATUS n) F.MEM_HBM_STATUS_spares_left
             (s.fld (R.MEM_HBM_STATUS n) F.MEM_HBM_STATUS_spares_left - 1) else s
         (s.log 3 0x2A (uStack n) (addr := a) (value := hard)).cmdDone via 0 0)
    | _ => s.cmdDone via 0x02 0

/-- SESSION_CREATE (R318, R319). -/
def cmdSessionCreate (s : State) (via : CmdVia) (c : CmdBlock) (nonce : BitVec 128) : State :=
  let k := fieldAt c.body 0 2
  if (s.sess k).created then s.cmdDone via 0x45 0 else (s.createSession k c.body false nonce).cmdDone via 0 0

/-- SESSION_CLOSE (R319). -/
def cmdSessionClose (s : State) (via : CmdVia) (c : CmdBlock) : State := (s.closeSession (fieldAt c.body 0 8)).cmdDone via 0 0

/-- RESUME (R282): the new masks and tree registers, the next step, and the hold ends. -/
def cmdResume (s : State) (via : CmdVia) (c : CmdBlock) : State :=
  let f := fieldAt c.body
  let i := c.inst
  have s := (s.setReg (R.SEAM_VOTE_MEMBERS i) (BitVec.ofNat 64 (f 8 8))).setReg (R.SEAM_VOTE_PODS_LO i) (BitVec.ofNat 64 (f 16 8))
  have s := (s.setReg (R.SEAM_VOTE_PODS_HI i) (BitVec.ofNat 64 (f 24 8))).setReg (R.SEAM_VOTE_CHILDREN i) (BitVec.ofNat 64 (f 32 8))
  have s := s.imageReg (R.SEAM_VOTE_TREE i) (f 40 4)
  (s.resumeVote i (f 0 8)).cmdDone via 0 0

/-- DOORBELL (R351, R354): a new tail for a queue of this module. -/
def cmdDoorbell (s : State) (via : CmdVia) (c : CmdBlock) : State :=
  let page := fieldAt c.body 0 1
  let q : Fin 64 := ⟨fieldAt c.body 1 1 % 64, by omega⟩
  let tail := fieldAt c.body 2 2
  let ref : QRef := ⟨if h : page < 8 then .inst ⟨page, h⟩ else .pf, q⟩
  (s.writeQTail ref tail).cmdDone via 0 0

/-- The sealed record of R456: header, shares in seq order, snapshots, signature. The manual lists the header's parts
without their places (DESIGN CHOICE: in that order). -/
def sealBody (s : State) (len : Nat) : List Byte :=
  let head := bytesOf 0x534D4850 4 ++ bytesOf 1 1 ++ bytesOf (Config.sha384 s.devKeyBytes).toNat 48 ++ s.bootNonce ++
    bytesOf s.time 8 ++ bytesOf (s.reg R.GLB_MODULE_ID).toNat 4 ++ bytesOf len 8 ++
    bytesOf (s.reg (R.RAS_LOG_DROPS 2)).toNat 4 ++ bytesOf (s.reg (R.RAS_LOG_DROPS 3)).toNat 4 ++
    bytesOf (s.reg (R.RAS_LOG_DROPS 4)).toNat 4 ++ bytesOf (s.reg R.RAS_SNAP_COUNT).toNat 4
  let ring := (List.range 5).flatMap (fun k => (s.ringEntries k).flatMap LogEntry.bytes)
  let snap := fun (x : Snapshot) =>
    let h := x.header.flatMap (fun v => bytesOf v 8)
    h ++ List.replicate (4096 - h.length) 0 ++ x.entries.flatMap LogEntry.bytes
  head ++ List.replicate (128 - head.length) 0 ++ ring ++ s.ras.snaps.flatMap (fun e => snap e.2)

/-- LOG_SEAL (R456). -/
def cmdLogSeal (s : State) (via : CmdVia) (c : CmdBlock) : State :=
  let dst := fieldAt c.body 0 8
  let cap := fieldAt c.body 8 8
  let len := (s.sealBody 0).length + 96
  if cap < len then s.cmdDone via 0x95 0
  else match s.checkRange .thimble dst len with
    | 0 =>
      if 0x6000000000 < dst + len then s.cmdDone via 0x02 0
      else
        let body := s.sealBody len
        (s.putBytes dst (body ++ bytesOf (Config.sign (Config.sha384 body)).toNat 96)).cmdDone via 0 len
    | st => s.cmdDone via st 0

/-- The command's effect: every check of R352 has passed. -/
def cmdExecute (s : State) (via : CmdVia) (c : CmdBlock) (env : CmdEnv) : State :=
  match c.opcode with
  | 0x0101 => s.cmdPartition via c
  | 0x0102 => s.cmdInstanceReset via c
  | 0x0201 => s.cmdKeyProvision via c
  | 0x0202 => s.cmdKeyWrite via c
  | 0x0203 => s.cmdKeyRetire via c
  | 0x0204 => s.cmdRegWrite via c
  | 0x0205 => s.cmdImageWrite via c
  | 0x0301 => s.cmdPowerCap via c
  | 0x0401 => s.cmdFirmwarePatch via c
  | 0x0402 => s.cmdHbmRepair via c env.repair
  | 0x0501 => s.cmdSessionCreate via c env.nonce
  | 0x0502 => s.cmdSessionClose via c
  | 0x0601 => s.cmdResume via c
  | 0x0701 => s.cmdDoorbell via c
  | 0x0702 => s.cmdRegRead via c
  | 0x0703 => s.cmdCmdStatus via c
  | 0x0801 => s.cmdLogSeal via c
  | _ => s.cmdDone via 0x01 0

/-- R352: checked, its counter recorded, executed. -/
def cmdReceive (s : State) (via : CmdVia) (c : CmdBlock) (wellFormed vf tunnelled : Bool) (env : CmdEnv) : State :=
  match s.cmdCheck c wellFormed vf tunnelled with
  | 0 => (s.recordCounter c).cmdExecute via c env
  | st => (s.cmdRefused st).cmdDone via st 0

/-! ### Commands from queues -/

/-- The block of a command entry: unreadable, its status; else parsed. -/
def cmdBlockOf (s : State) (q : QRef) (d : BitVec 512) : Nat × CmdBlock × Bool :=
  let a := dw d 1 0 64
  let host := bitOf d.toNat 12
  let none' : CmdBlock × Bool := parseBlock []
  let read := fun (n : Nat) => if host then s.hostBytes a n else s.bytesAt a n
  let chk := fun (n : Nat) => if host then 0 else s.engineRead (qWho q) a n
  if chk 40 ≠ 0 then (chk 40, none')
  else
    let len := fieldAt (read 20) 16 2 % 4096
    if chk (40 + len) ≠ 0 then (chk (40 + len), none') else (0, parseBlock (read (40 + len)))

/-- BAR4 writes of the physical function to a device that are not acknowledged yet (R354). -/
def barWritesOut (s : State) (dev : Nat) : Bool :=
  s.txns.any (fun t => t.user == .barWrite .pf && (s.sess t.sess.val).peerDevice == dev)

/-- The gate forwards a command to another member (R354, R355). -/
def cmdForward (s : State) (w : Nat) (q : QRef) (c : CmdBlock) (block : List Byte) : State :=
  let vf := match q.page with
    | .inst _ => true
    | .pf => false
  if vf && cmdCritical c.opcode true then (s.cmdRefused 0x73).completeWork w 0x73 0
  else if !s.regBit R.HST_POD_MEMBERS c.device then s.completeWork w 0x74 0
  else match s.mgmtSession c.device with
    | none => s.completeWork w 0x74 0
    | some k =>
      let t : Tunnel := ⟨w, q, w, c.device⟩
      match { s with host := { s.host with tunnels := s.host.tunnels ++ [t] } }.sendTunnel k (tunnelRequest w block) (.tunnel w) with
      | some s' => s'
      | none => s.completeWork w 0x05 0

/-- The command entry at the head of a queue starts, when its block is one that `want` takes; Thimble executes one command
at a time (R350). -/
def cmdRow (s : State) (q : QRef) (want : CmdBlock → Bool) (env : CmdEnv) : State :=
  match s.startable q (fun k => k == 3) with
  | none => s
  | some (idx, d) =>
    let (st, c, ok) := s.cmdBlockOf q d
    let remote := st = 0 && c.device != s.podDevice
    if !want c then s
    else if !remote && s.host.thm.isSome then s
    else if remote && decide (c.opcode = 0x0701) && s.barWritesOut c.device then s
    else
      let bad := s.entryReserved q d
      let vf := match q.page with
        | .inst _ => true
        | .pf => false
      let (w, s) := s.openWork q idx d none
      if bad then s.completeWork w 0x02 0
      else if st ≠ 0 then (s.readFailed st uThimble none true (dw d 1 0 48)).completeWork w st 0
      else if remote then s.cmdForward w q c (c.raw ++ bytesOf c.tag.toNat 8)
      else s.cmdReceive (.queue q w) c ok vf false env

def isOp (op : Nat) (c : CmdBlock) : Bool := c.opcode == op

/-- A REG_WRITE of a register with a given bit 0. -/
def isRegWrite (off : Nat) (bit : Bool) (c : CmdBlock) : Bool :=
  c.opcode == 0x0204 && fieldAt c.body 0 8 == off && bitOf (fieldAt c.body 8 8) 0 == bit

def env0 : CmdEnv := ⟨.repaired, 0⟩

/-- The message at the `k`-th received packet is a tunnel message of a kind. -/
def tunnelKind (kind : Nat) (b : List Byte) : Bool := fieldAt b 0 1 == kind

/-- A tunnelled command reaches its target (R354). -/
def tunnelled (s : State) (j : SessId) (b : List Byte) : State :=
  let (c, ok) := parseBlock (b.drop 9)
  let (n, s) := s.fresh
  let (m, s) := s.fresh
  let out := if n % 3 = 0 then RepairOutcome.repaired else if n % 3 = 1 then .noSpare else .mismatch
  s.cmdReceive (.tunnel j (fieldAt b 1 8)) c ok false true ⟨out, BitVec.ofNat 128 m⟩

/-- The target's answer becomes the completion of the gate's entry (R354). -/
def tunnelAnswered (s : State) (b : List Byte) : State :=
  match s.host.tunnels.find? (fun t => t.id == fieldAt b 1 8) with
  | none => s
  | some t =>
    have s := { s with host := { s.host with tunnels := s.host.tunnels.filter (fun x => x.id != t.id) } }
    s.completeWork t.work (fieldAt b 9 1) (fieldAt b 10 8)

end State

/-! ### Commands -/

/-- PARTITION (0x0101). -/
def execPartition (q : QRef) (s : State) : Out := .next (s.cmdRow q (State.isOp 0x0101) State.env0)
/-- INSTANCE_RESET (0x0102). -/
def execInstanceReset (q : QRef) (s : State) : Out := .next (s.cmdRow q (State.isOp 0x0102) State.env0)
/-- KEY_PROVISION (0x0201). -/
def execKeyProvision (q : QRef) (s : State) : Out := .next (s.cmdRow q (State.isOp 0x0201) State.env0)
/-- KEY_WRITE (0x0202). -/
def execKeyWrite (q : QRef) (s : State) : Out := .next (s.cmdRow q (State.isOp 0x0202) State.env0)
/-- KEY_RETIRE (0x0203). -/
def execKeyRetire (q : QRef) (s : State) : Out := .next (s.cmdRow q (State.isOp 0x0203) State.env0)
/-- REG_WRITE (0x0204), but for the writes that have commands of their own. -/
def execRegWrite (q : QRef) (s : State) : Out :=
  .next (s.cmdRow q (fun c => State.isOp 0x0204 c && !State.isRegWrite R.PWR_RESET true c && !State.isRegWrite R.RAS_MAINT true c &&
    !State.isRegWrite R.RAS_MAINT false c) State.env0)
/-- IMAGE_WRITE (0x0205). -/
def execImageWrite (q : QRef) (s : State) : Out := .next (s.cmdRow q (State.isOp 0x0205) State.env0)
/-- POWER_CAP (0x0301). -/
def execPowerCap (q : QRef) (s : State) : Out := .next (s.cmdRow q (State.isOp 0x0301) State.env0)
/-- FIRMWARE_PATCH (0x0401). -/
def execFirmwarePatch (q : QRef) (s : State) : Out := .next (s.cmdRow q (State.isOp 0x0401) State.env0)
/-- HBM_REPAIR (0x0402). -/
def execHbmRepair (q : QRef) (out : RepairOutcome) (s : State) : Out := .next (s.cmdRow q (State.isOp 0x0402) ⟨out, 0⟩)
/-- SESSION_CREATE (0x0501). -/
def execSessionCreate (q : QRef) (nonce : BitVec 128) (s : State) : Out :=
  .next (s.cmdRow q (State.isOp 0x0501) ⟨.repaired, nonce⟩)
/-- SESSION_CLOSE (0x0502). -/
def execSessionClose (q : QRef) (s : State) : Out := .next (s.cmdRow q (State.isOp 0x0502) State.env0)
/-- RESUME (0x0601). -/
def execResume (q : QRef) (s : State) : Out := .next (s.cmdRow q (State.isOp 0x0601) State.env0)
/-- DOORBELL (0x0701). -/
def execDoorbell (q : QRef) (s : State) : Out := .next (s.cmdRow q (State.isOp 0x0701) State.env0)
/-- REG_READ (0x0702); an undefined opcode and an unreadable block end here too. -/
def execRegRead (q : QRef) (s : State) : Out :=
  .next (s.cmdRow q (fun c => State.isOp 0x0702 c || !cmdOpcodes.contains c.opcode) State.env0)
/-- CMD_STATUS (0x0703). -/
def execCmdStatus (q : QRef) (s : State) : Out := .next (s.cmdRow q (State.isOp 0x0703) State.env0)
/-- LOG_SEAL (0x0801). -/
def execLogSeal (q : QRef) (s : State) : Out := .next (s.cmdRow q (State.isOp 0x0801) State.env0)
/-- MODULE_RESET (R436): a REG_WRITE of 1 to PWR_RESET.reset. -/
def execModuleReset (q : QRef) (s : State) : Out := .next (s.cmdRow q (State.isRegWrite R.PWR_RESET true) State.env0)
/-- MAINTENANCE_ENTER (R442): a REG_WRITE of 1 to RAS_MAINT.enter. -/
def execMaintenanceEnter (q : QRef) (s : State) : Out := .next (s.cmdRow q (State.isRegWrite R.RAS_MAINT true) State.env0)
/-- MAINTENANCE_EXIT (R442): a REG_WRITE of 0 to RAS_MAINT.enter. -/
def execMaintenanceExit (q : QRef) (s : State) : Out := .next (s.cmdRow q (State.isRegWrite R.RAS_MAINT false) State.env0)

/-- MAINTENANCE_DRAIN (R442): the work has ended, or 100 ms have passed. -/
def execMaintenanceDrain (expired : Bool) (s : State) : Out :=
  match s.host.thm with
  | some ⟨via, .maintEnter⟩ =>
    if !s.workRuns then .next (s.enterMaint via)
    else if expired then .next ((s.withThm none).cmdDone via 0x93 0)
    else .next s
  | _ => .next s

/-- INSTANCE_RESET_COMPLETE (R413 step 6). -/
def execInstanceResetComplete (i : InstId) (s : State) : Out :=
  match s.host.thm with
  | some ⟨via, .reset j⟩ => if j = i.val then .next (((s.withThm none).resetOver j).cmdDone via 0 0) else .next s
  | _ => .next s

/-- PARTITION_CHANGE_COMPLETE (R246, R406): the flush and the zeroing are over; the new partition is in force. -/
def execPartitionChangeComplete (s : State) : Out :=
  match s.host.thm with
  | some ⟨via, .partition _⟩ => .next ((s.partitionDone.withThm none).cmdDone via 0 0)
  | _ => .next s

/-- IMAGE_PROGRAM_COMPLETE (R428): the copy is verified, or invalid with IMAGE_FLASH_FAIL (0x82); a snapshot in progress has
the flash first. -/
def execImageProgramComplete (verified : Bool) (s : State) : Out :=
  match s.host.programming with
  | none => .next s
  | some (i, b) =>
    if s.ras.snapRunning.isSome then .next s
    else
      have s := { s with host := { s.host with programming := none } }
      let off := if b then R.PWR_IMAGE_B else R.PWR_IMAGE_A
      if verified then
        let f := s.host.flash
        have s := s.setFlash (if b then { f with imageB := some i } else { f with imageA := some i })
        have s := s.showImage off (some i) false
        .next (s.setFld off F.PWR_IMAGE_A_progress 100)
      else .next ((s.setReg off 0).log 1 0x82 State.uThimble)

/-- TUNNELLED_COMMAND (R354): the command of a received message. -/
def execTunnelledCommand (k : Nat) (s : State) : Out :=
  if s.host.thm.isSome then .next s
  else .next (s.withMsg k 4 (State.tunnelKind 1) (fun j b s => s.tunnelled j b))

/-- TUNNELLED_COMMAND_ANSWER (R354). -/
def execTunnelledCommandAnswer (k : Nat) (s : State) : Out :=
  .next (s.withMsg k 4 (State.tunnelKind 2) (fun _ b s => s.tunnelAnswered b))

/-- TUNNEL_TIMEOUT (R355): the k-th unanswered command. -/
def execTunnelTimeout (k : Nat) (s : State) : Out :=
  match s.host.tunnels[k]? with
  | none => .next s
  | some t =>
    have s := { s with host := { s.host with tunnels := s.host.tunnels.filter (fun x => x.id != t.id) } }
    .next (s.completeWork t.work 0x05 0)

end Sys2Proof.Machine
end

