-- ==== Sys2Proof/Machine/Dispatch.lean ====
section
/-! DEFINITION. The dispatch: one arm per command, each one direct call of its meaning. -/
namespace Sys2Proof.Machine

/-- The effect of a command on everything but the queue. -/
def exec (i : Instr) (s : State) : Host.Outcome State Fault Refusal :=
  match i with
  | .registerWrite req off size val => Sys2Proof.Machine.execRegisterWrite req off size val s
  | .splitLowWordRead req off => Sys2Proof.Machine.execSplitLowWordRead req off s
  | .splitLowWordWrite req off val => Sys2Proof.Machine.execSplitLowWordWrite req off val s
  | .splitHighWordWrite req off val => Sys2Proof.Machine.execSplitHighWordWrite req off val s
  | .hostBarRead f bar off len => Sys2Proof.Machine.execHostBarRead f bar off len s
  | .hostBarWrite f bar off data => Sys2Proof.Machine.execHostBarWrite f bar off data s
  | .scalarArithmetic op y => Sys2Proof.Machine.execScalarArithmetic op y s
  | .br y => Sys2Proof.Machine.execBr y s
  | .brr y => Sys2Proof.Machine.execBrr y s
  | .call y => Sys2Proof.Machine.execCall y s
  | .ret y => Sys2Proof.Machine.execRet y s
  | .loop y => Sys2Proof.Machine.execLoop y s
  | .addressArithmetic op y => Sys2Proof.Machine.execAddressArithmetic op y s
  | .bset y => Sys2Proof.Machine.execBset y s
  | .scalarLoad y => Sys2Proof.Machine.execScalarLoad y s
  | .scalarStore y => Sys2Proof.Machine.execScalarStore y s
  | .memoryResponse c k => Sys2Proof.Machine.execMemoryResponse c k s
  | .vectorArithmetic op fmt y => Sys2Proof.Machine.execVectorArithmetic op fmt y s
  | .vcvt y => Sys2Proof.Machine.execVcvt y s
  | .mxIssue y => Sys2Proof.Machine.execMxIssue y s
  | .mxWait y => Sys2Proof.Machine.execMxWait y s
  | .mxPoll y => Sys2Proof.Machine.execMxPoll y s
  | .mxAbort y => Sys2Proof.Machine.execMxAbort y s
  | .vld y => Sys2Proof.Machine.execVld y s
  | .vst y => Sys2Proof.Machine.execVst y s
  | .vldS y => Sys2Proof.Machine.execVldS y s
  | .vstS y => Sys2Proof.Machine.execVstS y s
  | .movSv y => Sys2Proof.Machine.execMovSv y s
  | .movVs y => Sys2Proof.Machine.execMovVs y s
  | .movV y => Sys2Proof.Machine.execMovV y s
  | .dmaQ y => Sys2Proof.Machine.execDmaQ y s
  | .dmaWait y => Sys2Proof.Machine.execDmaWait y s
  | .snd y => Sys2Proof.Machine.execSnd y s
  | .rcv y => Sys2Proof.Machine.execRcv y s
  | .fenceCore y => Sys2Proof.Machine.execFenceCore y s
  | .fenceDevice y => Sys2Proof.Machine.execFenceDevice y s
  | .fencePod y => Sys2Proof.Machine.execFencePod y s
  | .fenceComplete c => Sys2Proof.Machine.execFenceComplete c s
  | .semAcq y => Sys2Proof.Machine.execSemAcq y s
  | .semRel y => Sys2Proof.Machine.execSemRel y s
  | .bobFadd y => Sys2Proof.Machine.execBobFadd y s
  | .bobWait y => Sys2Proof.Machine.execBobWait y s
  | .pcmp y => Sys2Proof.Machine.execPcmp y s
  | .plog y => Sys2Proof.Machine.execPlog y s
  | .icinv y => Sys2Proof.Machine.execIcinv y s
  | .halt y => Sys2Proof.Machine.execHalt y s
  | .sfn y => Sys2Proof.Machine.execSfn y s
  | .icacheMissFill c parityError => Sys2Proof.Machine.execIcacheMissFill c parityError s
  | .coreSeqStop req c => Sys2Proof.Machine.execCoreSeqStop req c s
  | .coreSeqIcinv req c => Sys2Proof.Machine.execCoreSeqIcinv req c s
  | .matrixProduct c => Sys2Proof.Machine.execMatrixProduct c s
  | .dispatchedMatrixProduct c => Sys2Proof.Machine.execDispatchedMatrixProduct c s
  | .pointerListProduct c => Sys2Proof.Machine.execPointerListProduct c s
  | .weightTileLoad c => Sys2Proof.Machine.execWeightTileLoad c s
  | .passEntry c => Sys2Proof.Machine.execPassEntry c s
  | .rowDrain c upsets => Sys2Proof.Machine.execRowDrain c upsets s
  | .selvageRetry c => Sys2Proof.Machine.execSelvageRetry c s
  | .stagingFetch c => Sys2Proof.Machine.execStagingFetch c s
  | .stagingWriteback c => Sys2Proof.Machine.execStagingWriteback c s
  | .bobbinCounterOp n k => Sys2Proof.Machine.execBobbinCounterOp n k s
  | .bobbinValueWrite req n v => Sys2Proof.Machine.execBobbinValueWrite req n v s
  | .softMaximum c => Sys2Proof.Machine.execSoftMaximum c s
  | .layernorm c => Sys2Proof.Machine.execLayernorm c s
  | .rmsnorm c => Sys2Proof.Machine.execRmsnorm c s
  | .softMaximumStatistics c => Sys2Proof.Machine.execSoftMaximumStatistics c s
  | .layernormStatistics c => Sys2Proof.Machine.execLayernormStatistics c s
  | .rmsnormStatistics c => Sys2Proof.Machine.execRmsnormStatistics c s
  | .gatedActivation c => Sys2Proof.Machine.execGatedActivation c s
  | .convolution c => Sys2Proof.Machine.execConvolution c s
  | .weightGradient c => Sys2Proof.Machine.execWeightGradient c s
  | .lineFetch c => Sys2Proof.Machine.execLineFetch c s
  | .maxPool c => Sys2Proof.Machine.execMaxPool c s
  | .averagePool c => Sys2Proof.Machine.execAveragePool c s
  | .spaceToDepth c => Sys2Proof.Machine.execSpaceToDepth c s
  | .depthToSpace c => Sys2Proof.Machine.execDepthToSpace c s
  | .pack c => Sys2Proof.Machine.execPack c s
  | .unpack c => Sys2Proof.Machine.execUnpack c s
  | .attention c => Sys2Proof.Machine.execAttention c s
  | .kvStore c => Sys2Proof.Machine.execKvStore c s
  | .kvTranslation d space slot block => Sys2Proof.Machine.execKvTranslation d space slot block s
  | .kvOpen space => Sys2Proof.Machine.execKvOpen space s
  | .kvAppend space => Sys2Proof.Machine.execKvAppend space s
  | .kvFork space => Sys2Proof.Machine.execKvFork space s
  | .kvPublish space => Sys2Proof.Machine.execKvPublish space s
  | .kvClose space => Sys2Proof.Machine.execKvClose space s
  | .kvCloseRelease space slot => Sys2Proof.Machine.execKvCloseRelease space slot s
  | .kvSpaceEnable req space val => Sys2Proof.Machine.execKvSpaceEnable req space val s
  | .kvSpaceDisable req space val => Sys2Proof.Machine.execKvSpaceDisable req space val s
  | .overcastAccess r => Sys2Proof.Machine.execOvercastAccess r s
  | .cacheMissFill line out => Sys2Proof.Machine.execCacheMissFill line out s
  | .victimWriteback q line good => Sys2Proof.Machine.execVictimWriteback q line good s
  | .lateAccessTimeout a => Sys2Proof.Machine.execLateAccessTimeout a s
  | .lateDataDiscard a => Sys2Proof.Machine.execLateDataDiscard a s
  | .deepTierAccess k out => Sys2Proof.Machine.execDeepTierAccess k out s
  | .copy u k => Sys2Proof.Machine.execCopy u k s
  | .copyWithConversion u k => Sys2Proof.Machine.execCopyWithConversion u k s
  | .memorySideReduction u k => Sys2Proof.Machine.execMemorySideReduction u k s
  | .flush u k => Sys2Proof.Machine.execFlush u k s
  | .invalidate u k => Sys2Proof.Machine.execInvalidate u k s
  | .flushAndInvalidate u k => Sys2Proof.Machine.execFlushAndInvalidate u k s
  | .dmaItemCompletion u k => Sys2Proof.Machine.execDmaItemCompletion u k s
  | .hbmRepair q out => Sys2Proof.Machine.execHbmRepair q out s
  | .updateItem d => Sys2Proof.Machine.execUpdateItem d s
  | .updateApplyComplete d => Sys2Proof.Machine.execUpdateApplyComplete d s
  | .squallVote d => Sys2Proof.Machine.execSquallVote d s
  | .voteFormation y => Sys2Proof.Machine.execVoteFormation y s
  | .voteMsg m => Sys2Proof.Machine.execVoteMsg m s
  | .podVoteMsg m => Sys2Proof.Machine.execPodVoteMsg m s
  | .decisionMsg m => Sys2Proof.Machine.execDecisionMsg m s
  | .queryMsg m => Sys2Proof.Machine.execQueryMsg m s
  | .appliedMsg m => Sys2Proof.Machine.execAppliedMsg m s
  | .stepDoneMsg m => Sys2Proof.Machine.execStepDoneMsg m s
  | .fenceMsg m => Sys2Proof.Machine.execFenceMsg m s
  | .trayTimerExpiry y step => Sys2Proof.Machine.execTrayTimerExpiry y step s
  | .podDeadlineExpiry y step => Sys2Proof.Machine.execPodDeadlineExpiry y step s
  | .jobDeadlineExpiry y step => Sys2Proof.Machine.execJobDeadlineExpiry y step s
  | .queryInterval y => Sys2Proof.Machine.execQueryInterval y s
  | .decisionWait y => Sys2Proof.Machine.execDecisionWait y s
  | .applyLate y step => Sys2Proof.Machine.execApplyLate y step s
  | .resume q => Sys2Proof.Machine.execResume q s
  | .seamItem d => Sys2Proof.Machine.execSeamItem d s
  | .allReduce d => Sys2Proof.Machine.execAllReduce d s
  | .reduceScatter d => Sys2Proof.Machine.execReduceScatter d s
  | .allGather d => Sys2Proof.Machine.execAllGather d s
  | .broadcast d => Sys2Proof.Machine.execBroadcast d s
  | .allToAll d => Sys2Proof.Machine.execAllToAll d s
  | .permute d => Sys2Proof.Machine.execPermute d s
  | .dataMsg k => Sys2Proof.Machine.execDataMsg k s
  | .grantMsg k => Sys2Proof.Machine.execGrantMsg k s
  | .abortMsg k => Sys2Proof.Machine.execAbortMsg k s
  | .seamPeerTimeout d k => Sys2Proof.Machine.execSeamPeerTimeout d k s
  | .groupEnable req y g val => Sys2Proof.Machine.execGroupEnable req y g val s
  | .frameReceive f => Sys2Proof.Machine.execFrameReceive f s
  | .writeMsg k => Sys2Proof.Machine.execWriteMsg k s
  | .readMsg k => Sys2Proof.Machine.execReadMsg k s
  | .addMsg k => Sys2Proof.Machine.execAddMsg k s
  | .maxMsg k => Sys2Proof.Machine.execMaxMsg k s
  | .minMsg k => Sys2Proof.Machine.execMinMsg k s
  | .readDataMsg k => Sys2Proof.Machine.execReadDataMsg k s
  | .ackMsg k => Sys2Proof.Machine.execAckMsg k s
  | .nakMsg k => Sys2Proof.Machine.execNakMsg k s
  | .openMsg k nonce => Sys2Proof.Machine.execOpenMsg k nonce s
  | .openAckMsg k => Sys2Proof.Machine.execOpenAckMsg k s
  | .closeMsg k => Sys2Proof.Machine.execCloseMsg k s
  | .genNoticeMsg k => Sys2Proof.Machine.execGenNoticeMsg k s
  | .probeMsg k => Sys2Proof.Machine.execProbeMsg k s
  | .tunnelledCommand k => Sys2Proof.Machine.execTunnelledCommand k s
  | .transaction t => Sys2Proof.Machine.execTransaction t s
  | .packetSchedule n => Sys2Proof.Machine.execPacketSchedule n s
  | .ackDeadline x seq => Sys2Proof.Machine.execAckDeadline x seq s
  | .ackDelay x => Sys2Proof.Machine.execAckDelay x s
  | .openRepeat x => Sys2Proof.Machine.execOpenRepeat x s
  | .openingTimeout x => Sys2Proof.Machine.execOpeningTimeout x s
  | .failedReopen x nonce => Sys2Proof.Machine.execFailedReopen x nonce s
  | .ratePeriod x => Sys2Proof.Machine.execRatePeriod x s
  | .sessionIdle x => Sys2Proof.Machine.execSessionIdle x s
  | .epochCounterWrite key => Sys2Proof.Machine.execEpochCounterWrite key s
  | .sessionCreate q nonce => Sys2Proof.Machine.execSessionCreate q nonce s
  | .sessionClose q => Sys2Proof.Machine.execSessionClose q s
  | .portDown n => Sys2Proof.Machine.execPortDown n s
  | .portRetrain up => Sys2Proof.Machine.execPortRetrain up s
  | .gratuitousArp => Sys2Proof.Machine.execGratuitousArp s
  | .ptpMessage port m => Sys2Proof.Machine.execPtpMessage port m s
  | .ptpSyncInterval => Sys2Proof.Machine.execPtpSyncInterval s
  | .pcieReset => Sys2Proof.Machine.execPcieReset s
  | .functionLevelReset k => Sys2Proof.Machine.execFunctionLevelReset k s
  | .hstQTail req q tail => Sys2Proof.Machine.execHstQTail req q tail s
  | .coreWork q => Sys2Proof.Machine.execCoreWork q s
  | .engineRecord q => Sys2Proof.Machine.execEngineRecord q s
  | .barrier q => Sys2Proof.Machine.execBarrier q s
  | .partition q => Sys2Proof.Machine.execPartition q s
  | .instanceReset q => Sys2Proof.Machine.execInstanceReset q s
  | .instanceResetComplete y => Sys2Proof.Machine.execInstanceResetComplete y s
  | .keyProvision q => Sys2Proof.Machine.execKeyProvision q s
  | .keyWrite q => Sys2Proof.Machine.execKeyWrite q s
  | .keyRetire q => Sys2Proof.Machine.execKeyRetire q s
  | .regWrite q => Sys2Proof.Machine.execRegWrite q s
  | .regRead q => Sys2Proof.Machine.execRegRead q s
  | .cmdStatus q => Sys2Proof.Machine.execCmdStatus q s
  | .imageWrite q => Sys2Proof.Machine.execImageWrite q s
  | .imageProgramComplete verified => Sys2Proof.Machine.execImageProgramComplete verified s
  | .firmwarePatch q => Sys2Proof.Machine.execFirmwarePatch q s
  | .doorbell q => Sys2Proof.Machine.execDoorbell q s
  | .tunnelTimeout k => Sys2Proof.Machine.execTunnelTimeout k s
  | .logSeal q => Sys2Proof.Machine.execLogSeal q s
  | .powerCap q => Sys2Proof.Machine.execPowerCap q s
  | .hstPodSnap req => Sys2Proof.Machine.execHstPodSnap req s
  | .thmEvent req => Sys2Proof.Machine.execThmEvent req s
  | .moduleReset q => Sys2Proof.Machine.execModuleReset q s
  | .maintenanceEnter q => Sys2Proof.Machine.execMaintenanceEnter q s
  | .maintenanceDrain expired => Sys2Proof.Machine.execMaintenanceDrain expired s
  | .maintenanceExit q => Sys2Proof.Machine.execMaintenanceExit q s
  | .ingRingTail req y tail => Sys2Proof.Machine.execIngRingTail req y tail s
  | .ingestJob y => Sys2Proof.Machine.execIngestJob y s
  | .boltRecord x => Sys2Proof.Machine.execBoltRecord x s
  | .ustarMember x => Sys2Proof.Machine.execUstarMember x s
  | .decodeComplete x seq audio => Sys2Proof.Machine.execDecodeComplete x seq audio s
  | .sampleRecord x => Sys2Proof.Machine.execSampleRecord x s
  | .settingsInstall req x target => Sys2Proof.Machine.execSettingsInstall req x target s
  | .streamEnable req x val => Sys2Proof.Machine.execStreamEnable req x val s
  | .rtpPacket k => Sys2Proof.Machine.execRtpPacket k s
  | .liveLate x seq => Sys2Proof.Machine.execLiveLate x seq s
  | .slotGrant p => Sys2Proof.Machine.execSlotGrant p s
  | .cdcRingTail req y tail => Sys2Proof.Machine.execCdcRingTail req y tail s
  | .pictureDescriptor y => Sys2Proof.Machine.execPictureDescriptor y s
  | .encodeStreamEnable req t val => Sys2Proof.Machine.execEncodeStreamEnable req t val s
  | .keyPictureRequest req t val => Sys2Proof.Machine.execKeyPictureRequest req t val s
  | .pictureBoundary e => Sys2Proof.Machine.execPictureBoundary e s
  | .blockRowPreempt e => Sys2Proof.Machine.execBlockRowPreempt e s
  | .encodeLiveLate t pts => Sys2Proof.Machine.execEncodeLiveLate t pts s
  | .dispatch y => Sys2Proof.Machine.execDispatch y s
  | .copyRestore c => Sys2Proof.Machine.execCopyRestore c s
  | .programStart c => Sys2Proof.Machine.execProgramStart c s
  | .copySave c => Sys2Proof.Machine.execCopySave c s
  | .copyEnd c => Sys2Proof.Machine.execCopyEnd c s
  | .semaphoreOperation n k => Sys2Proof.Machine.execSemaphoreOperation n k s
  | .semaphoreWrite req n v => Sys2Proof.Machine.execSemaphoreWrite req n v s
  | .poolTake req p => Sys2Proof.Machine.execPoolTake req p s
  | .poolReturn req p slot => Sys2Proof.Machine.execPoolReturn req p slot s
  | .watchdogExpiry w => Sys2Proof.Machine.execWatchdogExpiry w s
  | .powerOn aCv bCv fresh => Sys2Proof.Machine.execPowerOn aCv bCv fresh s
  | .modResetN lowSamples => Sys2Proof.Machine.execModResetN lowSamples s
  | .boot b => Sys2Proof.Machine.execBoot b s
  | .memTrain t => Sys2Proof.Machine.execMemTrain t s
  | .linkTrain up => Sys2Proof.Machine.execLinkTrain up s
  | .podJoin joined timeLocked => Sys2Proof.Machine.execPodJoin joined timeLocked s
  | .ready => Sys2Proof.Machine.execReady s
  | .bootStepTimeout st => Sys2Proof.Machine.execBootStepTimeout st s
  | .memberJoin dev nonce => Sys2Proof.Machine.execMemberJoin dev nonce s
  | .podJoinTimeout => Sys2Proof.Machine.execPodJoinTimeout s
  | .inputAFail cv => Sys2Proof.Machine.execInputAFail cv s
  | .inputAGood cv => Sys2Proof.Machine.execInputAGood cv s
  | .switchBackTimer => Sys2Proof.Machine.execSwitchBackTimer s
  | .inputBFail cv => Sys2Proof.Machine.execInputBFail cv s
  | .bothInputsFail => Sys2Proof.Machine.execBothInputsFail s
  | .powerSample sampleW meanW draws => Sys2Proof.Machine.execPowerSample sampleW meanW draws s
  | .peakRunLimit => Sys2Proof.Machine.execPeakRunLimit s
  | .clockRaise => Sys2Proof.Machine.execClockRaise s
  | .thermalSample temps => Sys2Proof.Machine.execThermalSample temps s
  | .dieRequest req d mhz => Sys2Proof.Machine.execDieRequest req d mhz s
  | .pcieRefclkLoss => Sys2Proof.Machine.execPcieRefclkLoss s
  | .fabRefclkLoss => Sys2Proof.Machine.execFabRefclkLoss s
  | .patrolScrub addr f => Sys2Proof.Machine.execPatrolScrub addr f s
  | .contrailEntry => Sys2Proof.Machine.execContrailEntry s
  | .snapshotComplete => Sys2Proof.Machine.execSnapshotComplete s
  | .coalesceWindowClose k => Sys2Proof.Machine.execCoalesceWindowClose k s
  | .floodEnd cls => Sys2Proof.Machine.execFloodEnd cls s
  | .alarmWindowClose n => Sys2Proof.Machine.execAlarmWindowClose n s
  | .smbusTransaction addr pecGood data => Sys2Proof.Machine.execSmbusTransaction addr pecGood data s
  | .smbusArp addr => Sys2Proof.Machine.execSmbusArp addr s
  | .mctpTransmit lost addressed => Sys2Proof.Machine.execMctpTransmit lost addressed s
  | .setEndpointId eid => Sys2Proof.Machine.execSetEndpointId eid s
  | .getEndpointId => Sys2Proof.Machine.execGetEndpointId s
  | .getMctpVersionSupport => Sys2Proof.Machine.execGetMctpVersionSupport s
  | .getMessageTypeSupport => Sys2Proof.Machine.execGetMessageTypeSupport s
  | .pldmRequest sensor => Sys2Proof.Machine.execPldmRequest sensor s
  | .bypass => Sys2Proof.Machine.execBypass s
  | .idcode => Sys2Proof.Machine.execIdcode s
  | .samplePreload => Sys2Proof.Machine.execSamplePreload s
  | .extest => Sys2Proof.Machine.execExtest s
  | .clamp => Sys2Proof.Machine.execClamp s
  | .highz => Sys2Proof.Machine.execHighz s
  | .testModeEntry path => Sys2Proof.Machine.execTestModeEntry path s
  | .partitionChangeComplete => Sys2Proof.Machine.execPartitionChangeComplete s
  | .tunnelledCommandAnswer k => Sys2Proof.Machine.execTunnelledCommandAnswer k s
  | .smbusTimeout => Sys2Proof.Machine.execSmbusTimeout s
  | .inputAGoodBandDeparture cv => Sys2Proof.Machine.execInputAGoodBandDeparture cv s

end Sys2Proof.Machine
end

