-- ==== Sys2Proof/Machine/Step.lean ====
section
/-! DEFINITION. One step: the command at the front of the queue takes effect; an empty queue lets a nanosecond of pod
time pass. -/
namespace Sys2Proof.Machine

/-- A step on an empty queue: the block idles and pod time moves on by 1 ns (DESIGN CHOICE, log entry 5). -/
def State.idle (s : State) : State := s.add64 R.POD_TIME 1

/-- One step of the block. -/
def step (s : State) : Host.Outcome State Fault Refusal :=
  match s.pending with
  | [] => .next s.idle
  | c :: rest => exec c { s with pending := rest }

/-- The command that a word spells, put at the front of the queue; no word spells one. -/
def State.withFetchWord (s : State) (nbits w : Nat) : State :=
  match decodeTableWord nbits w with
  | some c => { s with pending := c :: s.pending }
  | none => s

end Sys2Proof.Machine
end

