-- ==== Sys2Proof/WellFormed.lean ====
section
/-! DEFINITION. The checks of a command's operands beyond their types: a slot command stands in its row's slot (R126), a
register access lies in the register region (R25, R28), a host access names a BAR (R341), a write carries as many bytes as
it says. -/
namespace Sys2Proof

/-- A slot command stands in a slot of its row (R126). -/
def slotIn (l : List Nat) (i : SlotCmd) : Bool := l.contains i.slot.val

/-- An offset of the 256 MiB register region (R25). -/
def regOffOk (off : Nat) : Bool := decide (off < 0x10000000)

/-- A register write of `size` bytes carries a value of that size. -/
def sizedOk (off size val : Nat) : Bool := regOffOk off && decide (1 ≤ size ∧ size ≤ 64 ∧ val < 2 ^ (8 * size))

/-- A function has BARs 0, 2 and 4 (R341), and an access moves at least one byte. -/
def barOk (bar len : Nat) : Bool := decide ((bar = 0 ∨ bar = 2 ∨ bar = 4) ∧ 1 ≤ len)

/-- The data of a write request is as long as the request says. -/
def requestOk (r : MemReq) : Bool :=
  match r.wdata with
  | some bs => decide (bs.length = r.len)
  | none => decide (1 ≤ r.len)

/-- A transaction's operation is one of the requests that packets carry (R321). -/
def txnOk (t : TxnReq) : Bool := [1, 2, 4, 5, 6, 7].contains t.op

/-- At most one upset per column. -/
def upsetsOk (l : List (Fin 128 × W32)) : Bool := decide ((l.map Prod.fst).Nodup)

/-- A command is well formed. -/
def wellFormed : Instr → Bool
  | .registerWrite _ off size val => sizedOk off size val
  | .splitLowWordRead _ off => regOffOk off
  | .splitLowWordWrite _ off _ => regOffOk off
  | .splitHighWordWrite _ off _ => regOffOk off
  | .hostBarRead _ bar _ len => barOk bar len
  | .hostBarWrite _ bar _ data => barOk bar data.length
  | .scalarArithmetic _ i => slotIn [0] i
  | .br i => slotIn [0] i
  | .brr i => slotIn [0] i
  | .call i => slotIn [0] i
  | .ret i => slotIn [0] i
  | .loop i => slotIn [0] i
  | .addressArithmetic _ i => slotIn [1, 2] i
  | .bset i => slotIn [1, 2] i
  | .scalarLoad i => slotIn [1, 2] i
  | .scalarStore i => slotIn [1, 2] i
  | .memoryResponse _ _ => true
  | .vectorArithmetic _ _ i => slotIn [3] i
  | .vcvt i => slotIn [3] i
  | .mxIssue i => slotIn [4] i
  | .mxWait i => slotIn [4] i
  | .mxPoll i => slotIn [4] i
  | .mxAbort i => slotIn [4] i
  | .vld i => slotIn [6] i
  | .vst i => slotIn [6] i
  | .vldS i => slotIn [6] i
  | .vstS i => slotIn [6] i
  | .movSv i => slotIn [6] i
  | .movVs i => slotIn [6] i
  | .movV i => slotIn [6] i
  | .dmaQ i => slotIn [6] i
  | .dmaWait i => slotIn [6] i
  | .snd i => slotIn [6] i
  | .rcv i => slotIn [6] i
  | .fenceCore i => slotIn [7] i
  | .fenceDevice i => slotIn [7] i
  | .fencePod i => slotIn [7] i
  | .fenceComplete _ => true
  | .semAcq i => slotIn [7] i
  | .semRel i => slotIn [7] i
  | .bobFadd i => slotIn [7] i
  | .bobWait i => slotIn [7] i
  | .pcmp i => slotIn [7] i
  | .plog i => slotIn [7] i
  | .icinv i => slotIn [7] i
  | .halt i => slotIn [7] i
  | .sfn i => slotIn [5] i
  | .icacheMissFill _ _ => true
  | .coreSeqStop _ _ => true
  | .coreSeqIcinv _ _ => true
  | .matrixProduct _ => true
  | .dispatchedMatrixProduct _ => true
  | .pointerListProduct _ => true
  | .weightTileLoad _ => true
  | .passEntry _ => true
  | .rowDrain _ ups => upsetsOk ups
  | .selvageRetry _ => true
  | .stagingFetch _ => true
  | .stagingWriteback _ => true
  | .bobbinCounterOp _ _ => true
  | .bobbinValueWrite _ _ _ => true
  | .softMaximum _ => true
  | .layernorm _ => true
  | .rmsnorm _ => true
  | .softMaximumStatistics _ => true
  | .layernormStatistics _ => true
  | .rmsnormStatistics _ => true
  | .gatedActivation _ => true
  | .convolution _ => true
  | .weightGradient _ => true
  | .lineFetch _ => true
  | .maxPool _ => true
  | .averagePool _ => true
  | .spaceToDepth _ => true
  | .depthToSpace _ => true
  | .pack _ => true
  | .unpack _ => true
  | .attention _ => true
  | .kvStore _ => true
  | .kvTranslation _ _ _ _ => true
  | .kvOpen _ => true
  | .kvAppend _ => true
  | .kvFork _ => true
  | .kvPublish _ => true
  | .kvClose _ => true
  | .kvCloseRelease _ _ => true
  | .kvSpaceEnable _ _ _ => true
  | .kvSpaceDisable _ _ _ => true
  | .overcastAccess r => requestOk r
  | .cacheMissFill _ _ => true
  | .victimWriteback _ _ _ => true
  | .lateAccessTimeout _ => true
  | .lateDataDiscard _ => true
  | .deepTierAccess _ _ => true
  | .copy _ _ => true
  | .copyWithConversion _ _ => true
  | .memorySideReduction _ _ => true
  | .flush _ _ => true
  | .invalidate _ _ => true
  | .flushAndInvalidate _ _ => true
  | .dmaItemCompletion _ _ => true
  | .hbmRepair _ _ => true
  | .updateItem _ => true
  | .updateApplyComplete _ => true
  | .squallVote _ => true
  | .voteFormation _ => true
  | .voteMsg _ => true
  | .podVoteMsg _ => true
  | .decisionMsg _ => true
  | .queryMsg _ => true
  | .appliedMsg _ => true
  | .stepDoneMsg _ => true
  | .fenceMsg _ => true
  | .trayTimerExpiry _ _ => true
  | .podDeadlineExpiry _ _ => true
  | .jobDeadlineExpiry _ _ => true
  | .queryInterval _ => true
  | .decisionWait _ => true
  | .applyLate _ _ => true
  | .resume _ => true
  | .seamItem _ => true
  | .allReduce _ => true
  | .reduceScatter _ => true
  | .allGather _ => true
  | .broadcast _ => true
  | .allToAll _ => true
  | .permute _ => true
  | .dataMsg _ => true
  | .grantMsg _ => true
  | .abortMsg _ => true
  | .seamPeerTimeout _ _ => true
  | .groupEnable _ _ _ _ => true
  | .frameReceive f => decide (f.udpPort < 2 ^ 16)
  | .writeMsg _ => true
  | .readMsg _ => true
  | .addMsg _ => true
  | .maxMsg _ => true
  | .minMsg _ => true
  | .readDataMsg _ => true
  | .ackMsg _ => true
  | .nakMsg _ => true
  | .openMsg _ _ => true
  | .openAckMsg _ => true
  | .closeMsg _ => true
  | .genNoticeMsg _ => true
  | .probeMsg _ => true
  | .tunnelledCommand _ => true
  | .transaction t => txnOk t
  | .packetSchedule _ => true
  | .ackDeadline _ _ => true
  | .ackDelay _ => true
  | .openRepeat _ => true
  | .openingTimeout _ => true
  | .failedReopen _ _ => true
  | .ratePeriod _ => true
  | .sessionIdle _ => true
  | .epochCounterWrite _ => true
  | .sessionCreate _ _ => true
  | .sessionClose _ => true
  | .portDown _ => true
  | .portRetrain _ => true
  | .gratuitousArp => true
  | .ptpMessage _ _ => true
  | .ptpSyncInterval => true
  | .pcieReset => true
  | .functionLevelReset _ => true
  | .hstQTail _ _ _ => true
  | .coreWork _ => true
  | .engineRecord _ => true
  | .barrier _ => true
  | .partition _ => true
  | .instanceReset _ => true
  | .instanceResetComplete _ => true
  | .keyProvision _ => true
  | .keyWrite _ => true
  | .keyRetire _ => true
  | .regWrite _ => true
  | .regRead _ => true
  | .cmdStatus _ => true
  | .imageWrite _ => true
  | .imageProgramComplete _ => true
  | .firmwarePatch _ => true
  | .doorbell _ => true
  | .tunnelTimeout _ => true
  | .logSeal _ => true
  | .powerCap _ => true
  | .hstPodSnap _ => true
  | .thmEvent _ => true
  | .moduleReset _ => true
  | .maintenanceEnter _ => true
  | .maintenanceDrain _ => true
  | .maintenanceExit _ => true
  | .ingRingTail _ _ _ => true
  | .ingestJob _ => true
  | .boltRecord _ => true
  | .ustarMember _ => true
  | .decodeComplete _ _ _ => true
  | .sampleRecord _ => true
  | .settingsInstall _ _ _ => true
  | .streamEnable _ _ _ => true
  | .rtpPacket _ => true
  | .liveLate _ _ => true
  | .slotGrant _ => true
  | .cdcRingTail _ _ _ => true
  | .pictureDescriptor _ => true
  | .encodeStreamEnable _ _ _ => true
  | .keyPictureRequest _ _ _ => true
  | .pictureBoundary _ => true
  | .blockRowPreempt _ => true
  | .encodeLiveLate _ _ => true
  | .dispatch _ => true
  | .copyRestore _ => true
  | .programStart _ => true
  | .copySave _ => true
  | .copyEnd _ => true
  | .semaphoreOperation _ _ => true
  | .semaphoreWrite _ _ _ => true
  | .poolTake _ _ => true
  | .poolReturn _ _ _ => true
  | .watchdogExpiry _ => true
  | .powerOn _ _ _ => true
  | .modResetN _ => true
  | .boot _ => true
  | .memTrain _ => true
  | .linkTrain _ => true
  | .podJoin _ _ => true
  | .ready => true
  | .bootStepTimeout _ => true
  | .memberJoin _ _ => true
  | .podJoinTimeout => true
  | .inputAFail _ => true
  | .inputAGood _ => true
  | .switchBackTimer => true
  | .inputBFail _ => true
  | .bothInputsFail => true
  | .powerSample _ _ _ => true
  | .peakRunLimit => true
  | .clockRaise => true
  | .thermalSample _ => true
  | .dieRequest _ _ _ => true
  | .pcieRefclkLoss => true
  | .fabRefclkLoss => true
  | .patrolScrub _ _ => true
  | .contrailEntry => true
  | .snapshotComplete => true
  | .coalesceWindowClose _ => true
  | .floodEnd _ => true
  | .alarmWindowClose _ => true
  | .smbusTransaction _ _ _ => true
  | .smbusArp _ => true
  | .mctpTransmit _ _ => true
  | .setEndpointId _ => true
  | .getEndpointId => true
  | .getMctpVersionSupport => true
  | .getMessageTypeSupport => true
  | .pldmRequest _ => true
  | .bypass => true
  | .idcode => true
  | .samplePreload => true
  | .extest => true
  | .clamp => true
  | .highz => true
  | .testModeEntry _ => true
  | .partitionChangeComplete => true
  | .tunnelledCommandAnswer _ => true
  | .smbusTimeout => true
  | .inputAGoodBandDeparture _ => true

end Sys2Proof
end

