-- ==== Sys2Proof/Safety.lean ====
section
/-! DEFINITION. What counts as a safe run: memories in their canonical form, steps that answer a next state. -/
namespace Sys2Proof

/-- The canonical form of a byte memory: addresses strictly rising, no byte listed that equals what an unlisted address
reads as. -/
def Memory.wf (m : List Host.Cell) : Bool := Tbl.wf (fun _ => 0) m

namespace Machine

/-- Module memory and host memory are in canonical form. -/
def State.memoryOk (s : State) : Prop := Memory.wf s.mem = true ∧ Memory.wf s.hostMem = true

/-- What a step may touch: `Keeps w s t` says that going from `s` to `t` leaves every part of the state whose bit of `w` is
0 as it was, never touches the queue of waiting commands, and keeps the memories in canonical form. -/
structure Keeps (w : Nat) (s t : State) : Prop where
  regs : w.testBit 0 = false → t.regs = s.regs
  captured : w.testBit 1 = false → t.captured = s.captured
  heldLow : w.testBit 2 = false → t.heldLow = s.heldLow
  mem : w.testBit 3 = false → t.mem = s.mem
  hostMem : w.testBit 4 = false → t.hostMem = s.hostMem
  cores : w.testBit 5 = false → t.cores = s.cores
  sch : w.testBit 6 = false → t.sch = s.sch
  msys : w.testBit 7 = false → t.msys = s.msys
  kv : w.testBit 8 = false → t.kv = s.kv
  lab : w.testBit 9 = false → t.lab = s.lab
  upd : w.testBit 10 = false → t.upd = s.upd
  votes : w.testBit 11 = false → t.votes = s.votes
  localMsgs : w.testBit 12 = false → t.localMsgs = s.localMsgs
  seam : w.testBit 13 = false → t.seam = s.seam
  seamNotes : w.testBit 14 = false → t.seamNotes = s.seamNotes
  seamGroups : w.testBit 15 = false → t.seamGroups = s.seamGroups
  sessions : w.testBit 16 = false → t.sessions = s.sessions
  txns : w.testBit 17 = false → t.txns = s.txns
  ingress : w.testBit 18 = false → t.ingress = s.ingress
  fab : w.testBit 19 = false → t.fab = s.fab
  media : w.testBit 20 = false → t.media = s.media
  host : w.testBit 21 = false → t.host = s.host
  pwr : w.testBit 22 = false → t.pwr = s.pwr
  ras : w.testBit 23 = false → t.ras = s.ras
  free : w.testBit 24 = false → t.free = s.free
  pending : t.pending = s.pending
  memory : s.memoryOk → t.memoryOk

/-- The answer is a next state, and it satisfies `P`. -/
def Answers (o : Out) (P : State → Prop) : Prop := ∃ t, o = .next t ∧ P t

/-- The state after `n` steps; none where a step stops. -/
def State.after (s : State) : Nat → Option State
  | 0 => some s
  | n + 1 => match step s with
    | .next t => t.after n
    | _ => none

/-- The parts of the state, in the order of the bits of `Keeps`. -/
inductive Part where
  | regs | captured | heldLow | mem | hostMem | cores | sch | msys | kv | lab | upd | votes | localMsgs | seam | seamNotes
  | seamGroups | sessions | txns | ingress | fab | media | host | pwr | ras | free
  deriving DecidableEq, Repr

/-- The mask of the parts that may change. -/
def only (l : List Part) : Nat := l.foldl (fun m p => m ||| 2 ^ p.ctorIdx) 0

/-- Every part of the state. -/
def everyPart : List Part :=
  [.regs, .captured, .heldLow, .mem, .hostMem, .cores, .sch, .msys, .kv, .lab, .upd, .votes, .localMsgs, .seam, .seamNotes,
   .seamGroups, .sessions, .txns, .ingress, .fab, .media, .host, .pwr, .ras, .free]

/-- The parts of the state that a command may change; every command leaves the others as they were. -/
def touches : Instr → List Part
  | .registerWrite .. | .splitLowWordWrite .. | .splitHighWordWrite .. =>
    [.regs, .heldLow, .mem, .cores, .sch, .msys, .kv, .lab, .seamGroups, .sessions, .media, .ras]
  | .splitLowWordRead .. =>
    [.regs, .captured, .sch, .media, .host, .ras]
  | .hostBarRead .. =>
    everyPart.filter (fun p => !(List.contains [.heldLow, .kv, .lab, .upd, .votes, .localMsgs, .seamNotes, .seamGroups, .ingress, .pwr, .free] p))
  | .hostBarWrite .. =>
    everyPart.filter (fun p => !(List.contains [.captured, .upd, .votes, .localMsgs, .seamNotes, .ingress, .pwr, .free] p))
  | .scalarArithmetic .. | .br .. | .brr .. | .call .. | .ret .. | .loop .. | .addressArithmetic .. | .bset ..
  | .scalarLoad .. | .scalarStore .. | .vectorArithmetic .. | .vcvt .. | .mxIssue .. | .mxWait .. | .mxPoll ..
  | .mxAbort .. | .vld .. | .vst .. | .vldS .. | .vstS .. | .movSv .. | .movVs .. | .movV .. | .dmaQ .. | .dmaWait ..
  | .snd .. | .rcv .. | .fenceCore .. | .fenceDevice .. | .fencePod .. | .semAcq .. | .semRel .. | .bobFadd ..
  | .bobWait .. | .pcmp .. | .plog .. | .icinv .. | .halt .. | .sfn .. =>
    everyPart.filter (fun p => !(List.contains [.hostMem, .upd, .votes, .localMsgs, .seam, .seamNotes, .txns, .ingress, .fab, .pwr] p))
  | .memoryResponse .. | .weightTileLoad .. =>
    [.regs, .cores, .ras]
  | .fenceComplete .. =>
    [.cores]
  | .icacheMissFill .. =>
    [.regs, .cores, .free]
  | .coreSeqStop .. | .coreSeqIcinv .. =>
    [.regs, .mem, .cores, .sch, .msys, .kv, .lab, .seamGroups, .sessions, .media, .ras]
  | .matrixProduct .. | .dispatchedMatrixProduct .. | .pointerListProduct .. | .rowDrain .. | .selvageRetry ..
  | .stagingFetch .. | .stagingWriteback .. | .softMaximum .. | .layernorm .. | .rmsnorm .. | .softMaximumStatistics ..
  | .layernormStatistics .. | .rmsnormStatistics .. | .gatedActivation .. | .convolution .. | .weightGradient ..
  | .lineFetch .. | .maxPool .. | .averagePool .. | .spaceToDepth .. | .depthToSpace .. | .pack .. | .unpack .. =>
    [.regs, .mem, .cores, .sch, .msys, .ras]
  | .passEntry .. =>
    [.regs, .mem, .cores, .sch, .msys]
  | .bobbinCounterOp .. =>
    [.regs, .cores, .sch]
  | .bobbinValueWrite .. | .semaphoreOperation .. | .semaphoreWrite .. =>
    [.regs, .cores, .sch, .ras]
  | .attention .. | .kvClose .. | .kvCloseRelease .. =>
    [.regs, .mem, .cores, .sch, .msys, .kv, .lab, .ras]
  | .kvStore .. =>
    [.regs, .mem, .cores, .sch, .msys, .lab, .ras]
  | .kvTranslation .. =>
    [.regs, .lab]
  | .kvOpen .. | .kvAppend .. =>
    [.regs, .mem, .cores, .sch, .msys, .kv, .lab, .ras, .free]
  | .kvFork .. | .kvPublish .. =>
    [.regs, .mem, .cores, .sch, .msys, .kv, .ras]
  | .kvSpaceEnable .. | .kvSpaceDisable .. =>
    [.regs, .mem, .msys, .kv, .lab, .ras]
  | .overcastAccess .. | .cacheMissFill .. | .victimWriteback .. | .lateAccessTimeout .. | .deepTierAccess .. =>
    [.regs, .mem, .cores, .msys, .host, .ras]
  | .lateDataDiscard .. =>
    [.regs, .msys]
  | .copy .. | .copyWithConversion .. | .memorySideReduction .. =>
    everyPart.filter (fun p => !(List.contains [.captured, .heldLow, .sch, .kv, .lab, .upd, .votes, .localMsgs, .seamNotes, .seamGroups, .ingress, .pwr] p))
  | .flush .. | .invalidate .. | .flushAndInvalidate .. =>
    [.regs, .mem, .cores, .msys, .ras]
  | .dmaItemCompletion .. =>
    [.regs, .mem, .hostMem, .cores, .sch, .msys, .host]
  | .hbmRepair .. | .resume .. | .sessionCreate .. | .sessionClose .. | .partition .. | .instanceReset ..
  | .keyProvision .. | .keyWrite .. | .keyRetire .. | .regWrite .. | .regRead .. | .cmdStatus .. | .imageWrite ..
  | .firmwarePatch .. | .doorbell .. | .logSeal .. | .powerCap .. | .moduleReset .. | .maintenanceEnter ..
  | .maintenanceExit .. =>
    everyPart.filter (fun p => !(List.contains [.free] p))
  | .updateItem .. | .updateApplyComplete .. | .voteFormation .. | .podDeadlineExpiry .. | .jobDeadlineExpiry ..
  | .applyLate .. =>
    everyPart.filter (fun p => !(List.contains [.captured, .heldLow, .kv, .lab, .seamNotes, .seamGroups, .ingress, .pwr, .free] p))
  | .squallVote .. =>
    [.regs, .cores, .sch, .msys, .votes]
  | .voteMsg .. | .podVoteMsg .. | .decisionMsg .. | .appliedMsg .. | .fenceMsg .. =>
    everyPart.filter (fun p => !(List.contains [.captured, .heldLow, .kv, .lab, .seamNotes, .seamGroups, .pwr, .free] p))
  | .queryMsg .. | .stepDoneMsg .. =>
    everyPart.filter (fun p => !(List.contains [.captured, .heldLow, .sch, .kv, .lab, .upd, .seamNotes, .seamGroups, .pwr, .free] p))
  | .trayTimerExpiry .. =>
    everyPart.filter (fun p => !(List.contains [.captured, .heldLow, .sch, .kv, .lab, .upd, .seamNotes, .seamGroups, .ingress, .pwr, .free] p))
  | .queryInterval .. =>
    everyPart.filter (fun p => !(List.contains [.captured, .heldLow, .sch, .kv, .lab, .upd, .votes, .seamNotes, .seamGroups, .ingress, .pwr, .free] p))
  | .decisionWait .. =>
    [.regs, .votes, .ras]
  | .seamItem .. | .allReduce .. | .reduceScatter .. | .allGather .. | .broadcast .. | .allToAll .. | .permute ..
  | .seamPeerTimeout .. =>
    everyPart.filter (fun p => !(List.contains [.captured, .heldLow, .kv, .lab, .upd, .localMsgs, .seamGroups, .ingress, .pwr] p))
  | .dataMsg .. | .grantMsg .. | .abortMsg .. =>
    everyPart.filter (fun p => !(List.contains [.captured, .heldLow, .kv, .lab, .upd, .localMsgs, .seamGroups, .pwr] p))
  | .groupEnable .. =>
    [.regs, .seamGroups, .ras]
  | .frameReceive .. | .readMsg .. =>
    [.regs, .sessions, .ingress, .ras]
  | .writeMsg .. | .addMsg .. | .maxMsg .. | .minMsg .. =>
    [.regs, .mem, .msys, .sessions, .ingress, .ras]
  | .readDataMsg .. | .closeMsg .. | .genNoticeMsg .. =>
    [.regs, .mem, .hostMem, .cores, .msys, .seam, .sessions, .txns, .ingress, .media, .host, .ras]
  | .ackMsg .. | .nakMsg .. | .openMsg .. =>
    everyPart.filter (fun p => !(List.contains [.captured, .heldLow, .sch, .kv, .lab, .upd, .votes, .localMsgs, .seamNotes, .seamGroups, .pwr, .free] p))
  | .openAckMsg .. | .probeMsg .. =>
    [.sessions, .ingress]
  | .tunnelledCommand .. =>
    everyPart
  | .transaction .. | .ackDeadline .. | .instanceResetComplete .. | .maintenanceDrain .. | .partitionChangeComplete .. =>
    [.regs, .mem, .hostMem, .cores, .msys, .seam, .sessions, .txns, .fab, .media, .host, .ras]
  | .packetSchedule .. =>
    [.regs, .sessions, .txns, .fab, .free]
  | .ackDelay .. | .ratePeriod .. | .sessionIdle .. =>
    [.sessions]
  | .openRepeat .. =>
    [.regs, .fab]
  | .openingTimeout .. =>
    [.regs, .mem, .hostMem, .cores, .msys, .seam, .sessions, .txns, .media, .host, .ras]
  | .failedReopen .. =>
    [.regs, .sessions, .fab]
  | .epochCounterWrite .. =>
    [.regs, .sessions, .fab, .host]
  | .portDown .. | .portRetrain .. | .hstQTail .. | .hstPodSnap .. | .ingRingTail .. | .cdcRingTail ..
  | .keyPictureRequest .. | .switchBackTimer .. | .dieRequest .. | .fabRefclkLoss .. | .contrailEntry ..
  | .snapshotComplete .. | .coalesceWindowClose .. | .floodEnd .. | .smbusTransaction .. | .mctpTransmit ..
  | .testModeEntry .. =>
    [.regs, .ras]
  | .gratuitousArp .. | .ptpSyncInterval .. =>
    [.fab]
  | .ptpMessage .. =>
    [.regs, .fab, .host, .ras]
  | .pcieReset .. =>
    [.regs, .captured, .heldLow, .host]
  | .functionLevelReset .. | .memberJoin .. | .podJoinTimeout .. =>
    [.regs, .host]
  | .coreWork .. =>
    [.regs, .mem, .hostMem, .msys, .host, .ras]
  | .engineRecord .. | .copyEnd .. =>
    [.regs, .mem, .hostMem, .cores, .msys, .host, .ras]
  | .barrier .. | .tunnelTimeout .. =>
    [.regs, .mem, .hostMem, .msys, .host]
  | .imageProgramComplete .. | .thmEvent .. | .alarmWindowClose .. =>
    [.regs, .host, .ras]
  | .ingestJob .. | .boltRecord .. | .ustarMember .. =>
    everyPart.filter (fun p => !(List.contains [.captured, .heldLow, .kv, .lab, .upd, .votes, .localMsgs, .seamNotes, .seamGroups, .ingress, .pwr, .free] p))
  | .decodeComplete .. =>
    [.regs, .mem, .msys, .media, .ras]
  | .sampleRecord .. =>
    [.regs, .mem, .hostMem, .cores, .sch, .msys, .media, .host, .ras]
  | .settingsInstall .. | .encodeStreamEnable .. =>
    [.regs, .media, .ras]
  | .streamEnable .. | .liveLate .. =>
    [.regs, .sch, .media, .ras]
  | .rtpPacket .. =>
    [.regs, .sch, .sessions, .ingress, .media, .ras]
  | .slotGrant .. =>
    [.regs, .sch, .media]
  | .pictureDescriptor .. | .blockRowPreempt .. | .encodeLiveLate .. =>
    [.regs, .mem, .hostMem, .sch, .msys, .media, .host]
  | .pictureBoundary .. =>
    [.regs, .mem, .hostMem, .sch, .msys, .media, .host, .ras]
  | .dispatch .. =>
    [.regs, .cores, .sch, .host]
  | .copyRestore .. | .copySave .. =>
    [.regs, .cores, .msys, .host, .ras]
  | .programStart .. =>
    [.regs, .cores]
  | .poolTake .. =>
    [.regs, .sch, .media, .host, .ras]
  | .poolReturn .. =>
    [.regs, .sch, .ras]
  | .watchdogExpiry .. =>
    [.regs, .cores, .sch, .media, .ras]
  | .powerOn .. | .modResetN .. =>
    everyPart.filter (fun p => !(List.contains [.hostMem, .free] p))
  | .boot .. =>
    [.regs, .mem, .msys, .fab, .host, .pwr, .ras]
  | .memTrain .. | .patrolScrub .. =>
    [.regs, .msys, .ras]
  | .linkTrain .. =>
    [.regs, .sessions, .fab, .host, .ras, .free]
  | .podJoin .. =>
    [.regs, .fab, .host]
  | .ready .. =>
    [.regs, .pwr, .free]
  | .bootStepTimeout .. =>
    [.regs, .msys, .sessions, .fab, .host, .pwr, .ras, .free]
  | .inputAFail .. | .inputBFail .. | .powerSample .. | .peakRunLimit .. | .thermalSample .. | .pcieRefclkLoss .. =>
    [.regs, .pwr, .ras]
  | .inputAGood .. | .bothInputsFail .. =>
    [.regs, .pwr]
  | .clockRaise .. | .smbusArp .. | .inputAGoodBandDeparture .. =>
    [.regs]
  | .setEndpointId .. | .getEndpointId .. | .getMctpVersionSupport .. | .getMessageTypeSupport .. | .pldmRequest ..
  | .bypass .. | .idcode .. | .extest .. | .clamp .. | .highz .. | .smbusTimeout .. =>
    [.ras]
  | .samplePreload .. =>
    [.ras, .free]
  | .tunnelledCommandAnswer .. =>
    [.regs, .mem, .hostMem, .msys, .sessions, .ingress, .host]

/-- Every register but those listed reads as before. -/
def SameRegs (l : List Nat) (s t : State) : Prop := ∀ r, r ∉ l → t.reg r = s.reg r

/-- Module memory and host memory read as before, byte by byte. -/
def SameBytes (s t : State) : Prop := (∀ a, t.byteAt a = s.byteAt a) ∧ ∀ a, Tbl.get t.hostMem 0 a = Tbl.get s.hostMem 0 a

/-- Core `i.core` is at a bundle whose line is in its instruction cache, nothing of the core is pending and no fence holds;
the bundle's only slot is presented, of the given number and opcode (R126, R131, R155). -/
abbrev State.Presents (s : State) (i : SlotCmd) (slot op : Nat) : Prop :=
  s.issuing i.core.val = true ∧ (s.core i.core.val).bundle = [] ∧ s.fetchOf i.core.val (s.pcOf i.core.val) = (0, none) ∧
  (s.core i.core.val).pend = [] ∧ (s.core i.core.val).fence = none ∧ i.last = true ∧ i.slot.val = slot ∧ i.word.opcode.toNat = op

/-- The bundle of core `c` issued: its registers and queues are then those of `k`, no other core changes, and `next` is the
address of the bundle that follows (R131, R135). -/
def State.Issued (s t : State) (c : CoreId) (k : Core) (next : Addr) : Prop :=
  t.core c.val = k ∧ (∀ e : Nat, e ≠ c.val → t.core e = s.core e) ∧ t.reg (R.CORE_SEQ_PC c.val) = BitVec.ofNat 64 next.toNat ∧
  t.reg (R.CORE_SEQ_BUNDLES c.val) = s.reg (R.CORE_SEQ_BUNDLES c.val) + 1 ∧
  t.fld (R.CORE_SEQ_STATUS c.val) F.CORE_SEQ_STATUS_state = 1 ∧ t.fld (R.CORE_SEQ_STATUS c.val) F.CORE_SEQ_STATUS_hold_cause = 0 ∧
  t.fld (R.CORE_SEQ_STATUS c.val) F.CORE_SEQ_STATUS_loop_depth = k.loops.length % 8 ∧
  t.fld (R.CORE_SEQ_STATUS c.val) F.CORE_SEQ_STATUS_last_status = s.fld (R.CORE_SEQ_STATUS c.val) F.CORE_SEQ_STATUS_last_status

/-- The registers that the issue of a bundle of core `c` writes. -/
def seqRegs (c : CoreId) : List Nat := [R.CORE_SEQ_STATUS c.val, R.CORE_SEQ_PC c.val, R.CORE_SEQ_BUNDLES c.val]

/-- The bundle of core `c` issued, and neither another register nor a byte of memory changed. -/
def State.IssuedOnly (s t : State) (c : CoreId) (k : Core) (next : Addr) : Prop :=
  s.Issued t c k next ∧ SameRegs (seqRegs c) s t ∧ SameBytes s t

/-- The bundle of core `c` is held for the given cause: the stall is counted and the bundle's address stands (R131). -/
def State.Held (s t : State) (c : CoreId) (cause : Nat) : Prop :=
  t.fld (R.CORE_SEQ_STATUS c.val) F.CORE_SEQ_STATUS_state = 2 ∧ t.fld (R.CORE_SEQ_STATUS c.val) F.CORE_SEQ_STATUS_hold_cause = cause ∧
  t.reg (R.CORE_SEQ_STALLS c.val) = s.reg (R.CORE_SEQ_STALLS c.val) + 1 ∧
  SameRegs [R.CORE_SEQ_STATUS c.val, R.CORE_SEQ_STALLS c.val] s t ∧ SameBytes s t

/-- The bundle of core `c` faulted: nothing of it took effect, and its code, slot, address and bounds register are recorded
(R142). -/
def State.Faulted (s t : State) (c : CoreId) (code slot : Nat) (write : Bool) (bnd addr : Nat) : Prop :=
  t.core c.val = { s.core c.val with ending := some code, rcvWait := none, rcvExpired := false, fetchMiss := none } ∧
  (∀ e : Nat, e ≠ c.val → t.core e = s.core e) ∧
  t.fld (R.CORE_SEQ_FAULT c.val) F.CORE_SEQ_FAULT_code = code ∧ t.fld (R.CORE_SEQ_FAULT c.val) F.CORE_SEQ_FAULT_slot = slot ∧
  t.fld (R.CORE_SEQ_FAULT c.val) F.CORE_SEQ_FAULT_write = (if write then 1 else 0) ∧
  t.fld (R.CORE_SEQ_FAULT c.val) F.CORE_SEQ_FAULT_bnd = bnd ∧
  t.reg (R.CORE_SEQ_FAULT_PC c.val) = BitVec.ofNat 64 (s.pcOf c.val).toNat ∧
  t.reg (R.CORE_SEQ_FAULT_ADDR c.val) = BitVec.ofNat 64 addr ∧ t.fld (R.CORE_SEQ_STATUS c.val) F.CORE_SEQ_STATUS_state = 3 ∧
  SameRegs [R.CORE_SEQ_FAULT c.val, R.CORE_SEQ_FAULT_PC c.val, R.CORE_SEQ_FAULT_ADDR c.val, R.CORE_SEQ_STATUS c.val] s t ∧
  SameBytes s t

/-- A completion record in the host's memory at the tail of the companion ring of queue `q`: entry, status and result; the
tail is past it (R348). -/
def State.Records (s t : State) (q : QRef) (idx st res : Nat) : Prop :=
  natOfBytes (t.hostBytes (s.qfld q (R.HST_Q_CPL_BASE 0 0) F.HST_Q_CPL_BASE_addr +
    16 * s.qfld q (R.HST_Q_CPL_TAIL 0 0) F.HST_Q_CPL_TAIL_index) 16) = idx % 2 ^ 16 + st * 2 ^ 16 + res * 2 ^ 64 ∧
  t.qfld q (R.HST_Q_CPL_TAIL 0 0) F.HST_Q_CPL_TAIL_index =
    (s.qfld q (R.HST_Q_CPL_TAIL 0 0) F.HST_Q_CPL_TAIL_index + 1) % s.queueSize q

/-- The entry at the head of queue `q` started and completed: its record is written, and nothing is left running. -/
def State.Done (s t : State) (q : QRef) (idx st res : Nat) : Prop :=
  s.Records t q idx st res ∧ t.host.works = [] ∧ t.qfld q (R.HST_Q_HEAD 0 0) F.HST_Q_HEAD_index = (idx + 1) % s.queueSize q

/-- The entry at the head of queue `q`, whose rings lie in host memory, is of a kind and may start; no entry is running. -/
abbrev State.AtHead (s : State) (q : QRef) (kind idx : Nat) (d : BitVec 512) : Prop :=
  s.headEntry q = some (idx, d) ∧ dw d 0 0 8 = kind ∧ s.host.works = [] ∧
  s.qfld q (R.HST_Q_CFG 0 0) F.HST_Q_CFG_in_hbm = 0

/-- The entry at the head of the PF queue `q` is a command of opcode `op` for this module with a well-formed block `c`, and
Thimble executes none (R350, R352 step 1). -/
abbrev State.Orders (s : State) (q : QRef) (idx : Nat) (d : BitVec 512) (c : CmdBlock) (op : Nat) : Prop :=
  s.AtHead q 3 idx d ∧ q.page = .pf ∧ s.cmdBlockOf q d = (0, c, true) ∧ c.opcode = op ∧ c.device = s.podDevice ∧
  s.host.thm = none ∧ s.entryReserved q d = false

/-- The block's counter is above the last accepted one, or its sender is new and the table has room (R352 step 5). -/
abbrev State.Fresh (s : State) (c : CmdBlock) : Prop :=
  (∀ n, s.lastCounter c.keyId c.sender = some n → n < c.counter) ∧
  (s.lastCounter c.keyId c.sender = none → s.host.counters.length < 256)

/-- The module holds the command key that the block names (R352 step 3). -/
abbrev State.Keyed (s : State) (c : CmdBlock) : Prop := c.keyId ≠ 15 ∧ (s.cmdKey c.keyId).isSome = true

/-- The command executed and completed (R352 step 6). -/
def State.Obeyed (s t : State) (q : QRef) (idx : Nat) (c : CmdBlock) (st res : Nat) : Prop :=
  s.Done t q idx st res ∧ (c.keyId, c.sender, c.counter) ∈ t.host.counters

/-- The command was refused for its key, tag or signature: counted, and no counter is consumed (R352). -/
def State.Unauthentic (s t : State) (q : QRef) (idx : Nat) : Prop :=
  s.Done t q idx 0x71 0 ∧ (t.reg R.HST_AUTH_FAILS).toNat = min 0xFFFFFFFF ((s.reg R.HST_AUTH_FAILS).toNat + 1) ∧
  t.host.counters = s.host.counters ∧ t.host.flash = s.host.flash

end Machine
end Sys2Proof
end

