-- ==== Sys2Proof/Certificates/Slice0/Obligations.lean ====
section
/-! DEFINITION. The statements for the provers. Premises on addresses keep a claim about stored bytes out of the register
region (R25); Answers o P says that the outcome o is a next state for which P holds. -/

open Sys2Proof
open Sys2Proof.Machine
set_option linter.unusedVariables false

/-- A step runs the command at the front of the queue on the state with the queue's rest. With no command waiting,
pod time moves on by one and nothing else changes (the model's own choice, log entry 5). -/
def Obligations.StepRunsCommand : Prop :=
  (∀ (s : State) (c : Instr) (rest : List Instr), s.pending = c :: rest → step s = exec c { s with pending := rest }) ∧
  (∀ s : State, s.pending = [] → Answers (step s) (fun t => t.reg R.POD_TIME = s.reg R.POD_TIME + 1 ∧ SameRegs [R.POD_TIME] s t ∧
    Keeps (only [.regs]) s t))

/-- After reset every field of every register of the table has its reset value, both memories are in canonical form
and list nothing, and no command waits. -/
def Obligations.ResetState : Prop :=
  (∀ (off : Nat) (r : RegRow) (f : FieldRow), rowAt off = some r → f ∈ r.fields → off ≠ R.MEM_OVC_GRANULE 23 →
    bitsOf (State.reset.reg off).toNat f.lo f.len = f.reset) ∧
  (∀ i : InstId, State.reset.fld (R.ING_RING_CFG i.val) F.ING_RING_CFG_size_log2 = 4 ∧ State.reset.fld (R.CDC_RING_CFG i.val) F.CDC_RING_CFG_size_log2 = 4) ∧
  (∀ x : StrmId, State.reset.fld (R.CDC_DEC_CFG x.val) F.CDC_DEC_CFG_class = 2 ∧ State.reset.fld (R.CDC_DEC_CFG x.val) F.CDC_DEC_CFG_live_mps = 480 ∧
    State.reset.fld (R.ING_STRM_LIVE x.val) F.ING_STRM_LIVE_budget_us = 50000) ∧
  State.reset.memoryOk ∧ State.reset.mem = [] ∧ State.reset.hostMem = [] ∧ State.reset.pending = []

/-- Every command answers a next state in every state: no step faults or refuses. -/
def Obligations.CommandsComplete : Prop :=
  ∀ (c : Instr) (s : State), ∃ t, exec c s = .next t

/-- What each command leaves alone: every part of the state that it does not touch, the queue, and the canonical form
of the memories. -/
def Obligations.CommandFrames : Prop :=
  ∀ (c : Instr) (s t : State), exec c s = .next t → Keeps (only (touches c)) s t

/-- From every state with its memories in canonical form, any number of steps answer next states, keep that form, and
take the waiting commands in order, one a step. -/
def Obligations.StepsTakeCommandsInOrder : Prop :=
  ∀ (n : Nat) (s : State), s.memoryOk → ∃ t, s.after n = some t ∧ t.memoryOk ∧ t.pending = s.pending.drop n

/-- An invariant that every step keeps: addresses of both memories rise strictly and no listed byte equals what an
unlisted one reads as. -/
def Obligations.MemoryInvariant : Prop :=
  ∀ s t : State, s.memoryOk → step s = .next t → t.memoryOk

/-- Every code of every floating-point encoding is the nearest code of its own value (R41, R57): no bit is lost
between the two. -/
def Obligations.NumberCodes : Prop :=
  (∀ (f : Fmt) (e : FloatEnc) (b : Nat) (neg : Bool) (m : Nat) (x : Int), f.enc = some e → b < 2 ^ f.bits → e.decode b = .fin neg m x →
    e.signBit neg + e.magCode .rne m x = b) ∧
  (∀ w : W32, ofFp32 w ≠ .nan → toFp32 (ofFp32 w) = w) ∧ (∀ w : W32, ofFp32 w = .nan → toFp32 (ofFp32 w) = 0x7FC00000) ∧
  (∀ (f : Fmt) (b : Nat), f.enc = none → b < 2 ^ f.bits → twosOf f.bits (signedOf f.bits b) = b)

/-- A register that a requester's path does not reach (R341, R407, R408): nothing but the refusal's count and log
entry changes, whatever command accesses it. A virtual function reaches its queue page alone. -/
def Obligations.RegisterRefusals : Prop :=
  ∀ (s : State) (req : Requester),
  let No := fun (c : Instr) (off : Nat) => s.reach req off = false → exec c s = .next (s.regRefused req off)
  (∀ off size v, (size = 4 ∨ size = 8) → off % size = 0 → s.reach req (State.baseOff off) = false →
    exec (.registerWrite req off size v) s = .next (s.regRefused req off) ∧ s.busRead req off size = (2 ^ (8 * size) - 1, s.regRefused req off)) ∧
  (∀ (i : InstId) (v : W32), No (.ingRingTail req i v) (R.ING_RING_TAIL i.val) ∧ No (.cdcRingTail req i v) (R.CDC_RING_TAIL i.val) ∧
    No (.kvSpaceEnable req i v) (R.KV_SPACE_CFG i.val) ∧ No (.kvSpaceDisable req i v) (R.KV_SPACE_CFG i.val)) ∧
  (∀ (x : StrmId) (v : W32) (w : Word), No (.settingsInstall req x w) (R.ING_STRM_SET_TARGET x.val) ∧ No (.streamEnable req x v) (R.ING_STRM_CFG x.val)) ∧
  (∀ (x : EncId) (v : W32), No (.encodeStreamEnable req x v) (R.CDC_ENC_CFG x.val) ∧ No (.keyPictureRequest req x v) (R.CDC_ENC_KEY x.val)) ∧
  (∀ (c : CoreId), No (.coreSeqStop req c) (R.CORE_SEQ_CTRL c.val) ∧ No (.coreSeqIcinv req c) (R.CORE_SEQ_CTRL c.val)) ∧
  (∀ (n : SemId) (v : BitVec 16), No (.semaphoreWrite req n v) (R.SCH_SEM n.val)) ∧
  (∀ (n : BobId) (v : W32), No (.bobbinValueWrite req n v) (R.SCH_BOB_VALUE n.val)) ∧
  (∀ (p : PoolId) (a : Addr), No (.poolReturn req p a) (R.SCH_POOL_RETURN p.val)) ∧
  (∀ (i : InstId) (g : Fin 16) (v : Word), No (.groupEnable req i g v) (R.SEAM_GRP_BASE i.val g.val)) ∧
  (∀ (d : DieId) (mhz : Nat), No (.dieRequest req d mhz) (R.PWR_DIE_REQ d.val)) ∧
  No (.hstPodSnap req) R.HST_POD_SNAP ∧
  (∀ off, let t := s.regRefused req off
    SameBytes s t ∧ Keeps (only [.regs, .ras]) s t ∧ SameRegs [R.SCH_FIREWALL_DENIED, R.RAS_STATUS, R.RAS_LOG_DROPS 2] s t ∧
    ((∃ k, req = .vf k) ∨ (∃ c, req = .core c) →
      (t.reg R.SCH_FIREWALL_DENIED).toNat = min 0xFFFFFFFF ((s.reg R.SCH_FIREWALL_DENIED).toNat + 1))) ∧
  (∀ k off, req = .vf k → (s.reach req off = true ↔ 0x410000 + k.val * 0x1000 ≤ off ∧ off < 0x411000 + k.val * 0x1000))

/-- The six input events take the effect that the table of R432 gives them, each under the conditions under which it
has one; nothing but registers, the log and the record of the inputs changes. -/
def Obligations.PowerInputs : Prop :=
  ∀ (s : State) (cv : Nat),
  (cv < 4400 ∨ 6000 < cv → s.onB = false → s.pwr.bFailed = false → Answers (exec (.inputAFail cv) s) (fun t =>
    t.fld R.PWR_INPUT_V F.PWR_INPUT_V_a_cv = cv % 2 ^ 16 ∧ t.fld R.PWR_INPUT_STATUS F.PWR_INPUT_STATUS_a_good = 0 ∧
    t.fld R.PWR_INPUT_STATUS F.PWR_INPUT_STATUS_on_b = 1 ∧ t.fld R.GLB_STATUS F.GLB_STATUS_on_input_b = 1 ∧
    (t.reg R.PWR_TRANSFERS).toNat = min 0xFFFFFFFF ((s.reg R.PWR_TRANSFERS).toNat + 1) ∧ t.pwr.aFailed = true ∧
    t.effCap = s.backupCap ∧ SameRegs [R.PWR_INPUT_V, R.PWR_INPUT_STATUS, R.GLB_STATUS, R.PWR_TRANSFERS, R.RAS_STATUS,
      R.RAS_LOG_DROPS 2] s t)) ∧
  (4600 ≤ cv ∧ cv ≤ 5950 → s.onB = true → Answers (exec (.inputAGood cv) s) (fun t =>
    t.fld R.PWR_INPUT_V F.PWR_INPUT_V_a_cv = cv % 2 ^ 16 ∧ t.fld R.PWR_INPUT_STATUS F.PWR_INPUT_STATUS_a_good = 1 ∧
    t.fld R.PWR_INPUT_STATUS F.PWR_INPUT_STATUS_timer = 1 ∧ t.onB = true ∧ t.pwr.aFailed = false ∧
    SameRegs [R.PWR_INPUT_V, R.PWR_INPUT_STATUS] s t)) ∧
  (cv < 4600 ∨ 5950 < cv → Answers (exec (.inputAGoodBandDeparture cv) s) (fun t =>
    t.fld R.PWR_INPUT_V F.PWR_INPUT_V_a_cv = cv % 2 ^ 16 ∧ t.fld R.PWR_INPUT_STATUS F.PWR_INPUT_STATUS_a_good = 0 ∧
    t.onB = s.onB ∧ SameRegs [R.PWR_INPUT_V, R.PWR_INPUT_STATUS] s t)) ∧
  (s.onB = true → s.fld R.PWR_INPUT_STATUS F.PWR_INPUT_STATUS_timer = 1 →
    s.fld R.PWR_INPUT_STATUS F.PWR_INPUT_STATUS_a_good = 1 → Answers (exec .switchBackTimer s) (fun t =>
    t.onB = false ∧ t.fld R.PWR_INPUT_STATUS F.PWR_INPUT_STATUS_timer = 0 ∧
    t.fld R.GLB_STATUS F.GLB_STATUS_on_input_b = 0 ∧
    (t.reg R.PWR_TRANSFERS).toNat = min 0xFFFFFFFF ((s.reg R.PWR_TRANSFERS).toNat + 1) ∧ t.effCap = s.tdp ∧
    SameRegs [R.PWR_INPUT_STATUS, R.GLB_STATUS, R.PWR_TRANSFERS, R.RAS_STATUS, R.RAS_LOG_DROPS 3] s t)) ∧
  (cv < 4400 ∨ 6000 < cv → s.onB = true → s.pwr.aFailed = false → Answers (exec (.inputBFail cv) s) (fun t =>
    t.fld R.PWR_INPUT_V F.PWR_INPUT_V_b_cv = cv % 2 ^ 16 ∧ t.fld R.PWR_INPUT_STATUS F.PWR_INPUT_STATUS_b_good = 0 ∧
    t.onB = false ∧ t.fld R.PWR_INPUT_STATUS F.PWR_INPUT_STATUS_timer = 0 ∧ t.pwr.bFailed = true ∧
    (t.reg R.PWR_TRANSFERS).toNat = min 0xFFFFFFFF ((s.reg R.PWR_TRANSFERS).toNat + 1) ∧
    SameRegs [R.PWR_INPUT_V, R.PWR_INPUT_STATUS, R.GLB_STATUS, R.PWR_TRANSFERS, R.RAS_STATUS, R.RAS_LOG_DROPS 3] s t)) ∧
  Answers (exec .bothInputsFail s) (fun t =>
    t.pwr.minimum = true ∧ t.pwr.pwrGood = false ∧ t.pwr.aFailed = true ∧ t.pwr.bFailed = true ∧
    (∀ d, d < 4 → t.dieMhz d = 0) ∧ t.fld R.PWR_INPUT_STATUS F.PWR_INPUT_STATUS_a_good = 0 ∧
    t.fld R.PWR_INPUT_STATUS F.PWR_INPUT_STATUS_b_good = 0 ∧ t.onB = s.onB ∧
    SameRegs [R.PWR_INPUT_STATUS, R.PWR_DIE_STATUS 0, R.PWR_DIE_STATUS 1, R.PWR_DIE_STATUS 2, R.PWR_DIE_STATUS 3] s t)

/-- What the power and thermal controller does with a sample, a limit or a request (R433, R434, R435): the values it
shows, the events it counts, and, after each, the bit that says whether a die runs below its request. -/
def Obligations.PowerController : Prop :=
  ∀ (s : State) (sampleW meanW : Nat) (draws temps : List Nat) (req : Requester) (d : DieId) (mhz : Nat),
  (sampleW ≤ s.peakLimit → meanW ≤ s.effCap → (s.onB = true → sampleW ≤ s.backupCap) →
    Answers (exec (.powerSample sampleW meanW draws) s) (fun t =>
      t.fld R.PWR_POWER F.PWR_POWER_sample_w = sampleW % 2 ^ 16 ∧ t.fld R.PWR_POWER F.PWR_POWER_mean_w = meanW % 2 ^ 16 ∧
      t.pwr.peakRun = (if sampleW > s.tdp then s.pwr.peakRun + 1 else 0) ∧ t.pwr.lastDraws = draws ∧
      SameRegs [R.PWR_POWER] s t)) ∧
  (s.peakLimit < sampleW → Answers (exec (.powerSample sampleW meanW draws) s) (fun t =>
      t.fld R.PWR_POWER F.PWR_POWER_sample_w = sampleW % 2 ^ 16 ∧
      (t.reg R.PWR_PEAK_EVENTS).toNat = min 0xFFFFFFFF ((s.reg R.PWR_PEAK_EVENTS).toNat + 1) ∧
      (t.reg R.PWR_THROTTLE_EVENTS).toNat = min 0xFFFFFFFF ((s.reg R.PWR_THROTTLE_EVENTS).toNat + 1) ∧
      (∀ e, e < 4 → t.dieMhz e ≤ s.dieMhz e))) ∧
  (1000 ≤ s.pwr.peakRun → Answers (exec .peakRunLimit s) (fun t => t.pwr.peakRun = 0 ∧
      (t.reg R.PWR_THROTTLE_EVENTS).toNat = min 0xFFFFFFFF ((s.reg R.PWR_THROTTLE_EVENTS).toNat + 1) ∧
      (∀ e, e < 4 → t.dieMhz e ≤ s.dieMhz e))) ∧
  ((∀ e, e < 4 → s.dieMhz e = mhz ∧ s.mayRaise e = true ∧ mhz + 25 ≤ s.dieReq e) → 600 ≤ mhz →
    100 * s.fld R.PWR_POWER F.PWR_POWER_sample_w ≤ 97 * s.effCap →
    100 * s.fld R.PWR_POWER F.PWR_POWER_mean_w ≤ 97 * s.effCap →
    Answers (exec .clockRaise s) (fun t => ∀ e, e < 4 → t.dieMhz e = mhz + 25)) ∧
  ((∃ e, e < 4 ∧ State.clampTo 95 120 (s.fld R.PWR_THERM_CFG F.PWR_THERM_CFG_shutdown_c) < (temps[e]?).getD 0) →
    Answers (exec (.thermalSample temps) s) (fun t => t.modState = 0xF ∧
      t.fld R.PWR_BOOT_STATUS F.PWR_BOOT_STATUS_fail_code = 0x87 ∧ t.pwr.thermLow = true ∧ t.pwr.pwrGood = false ∧
      ∀ e, e < 4 → t.dieMhz e = 0)) ∧
  (s.reach req (R.PWR_DIE_REQ d.val) = true → Answers (exec (.dieRequest req d mhz) s) (fun t =>
      t.fld (R.PWR_DIE_REQ d.val) F.PWR_DIE_REQ_req_mhz = mhz % 2 ^ 12 ∧ t.dieMhz d.val ≤ t.dieReq d.val ∧
      t.fld R.GLB_STATUS F.GLB_STATUS_throttled =
        (if (List.range 4).any (fun e => decide (t.dieMhz e < t.dieReq e)) then 1 else 0))) ∧
  Answers (exec .pcieRefclkLoss s) (fun t => t.modState = 0xF ∧
      t.fld R.PWR_BOOT_STATUS F.PWR_BOOT_STATUS_fail_code = 0x85 ∧ t.pwr.pwrGood = false ∧
      ∀ e, e < 4 → t.dieMhz e = 0)

/-- What a power-on and a module reset leave (R436): flash stays, everything else goes; a module reset keeps the
always-on domain's counts and shows its cause. The steps of a cold boot in their order (R430): each runs in the
module state before it and leads to the next one. A boot step that exceeds its limit (R430): steps 2 to 4 fail the
module with their code; steps 5 and 6 go on without what has not finished. A member that joins later enters the
gate's mask with its nonce. -/
def Obligations.ResetsAndBoot : Prop :=
  (∀ (s : State) (a b n : Nat),
  Answers (exec (.powerOn a b none) s) (fun t =>
    t.cores = [] ∧ t.mem = [] ∧ t.sessions = [] ∧ t.host.flash = s.host.flash ∧ t.ras.snaps = s.ras.snaps ∧
    t.fld R.PWR_INPUT_V F.PWR_INPUT_V_a_cv = a % 2 ^ 16 ∧ t.fld R.PWR_INPUT_V F.PWR_INPUT_V_b_cv = b % 2 ^ 16 ∧
    t.fld R.PWR_INPUT_STATUS F.PWR_INPUT_STATUS_a_good = (if 4600 ≤ a ∧ a ≤ 5950 then 1 else 0) ∧
    t.fld R.PWR_INPUT_STATUS F.PWR_INPUT_STATUS_b_good = (if 4600 ≤ b ∧ b ≤ 5950 then 1 else 0)) ∧
  (25 ≤ n → Answers (exec (.modResetN n) s) (fun t =>
    t.cores = [] ∧ t.sessions = [] ∧ t.host.flash = s.host.flash ∧ t.ras.snaps = s.ras.snaps ∧
    (∀ x, 0x10000000000 ≤ x → Tbl.get t.mem 0 x = 0) ∧ t.fld R.PWR_BOOT_CAUSE F.PWR_BOOT_CAUSE_cause = 1 ∧ t.bootStep = 2 ∧
    t.reg R.PWR_TRANSFERS = s.reg R.PWR_TRANSFERS ∧ t.reg R.RAS_SNAP_COUNT = s.reg R.RAS_SNAP_COUNT ∧
    t.reg R.POD_TIME = regReset R.POD_TIME)) ∧
  (n < 25 → exec (.modResetN n) s = .next s)) ∧
  (∀ (s : State) (b : BootIn) (tr : TrainIn) (up : BitVec 96) (c : Bool) (x : Image),
  (s.modState = 0 → s.bootStep ≤ 2 → b.resetHigh = true → (State.goodCv b.aCv || State.goodCv b.bCv) = true →
    b.refOk = true → b.railOk = true → s.chooseImage = some (c, x) → Answers (exec (.boot b) s) (fun t =>
      t.modState = 1 ∧ t.bootStep = 5 ∧ t.fld R.GLB_STATUS F.GLB_STATUS_cfg_locked = 1)) ∧
  (s.modState = 0 → s.bootStep ≤ 2 → b.resetHigh = true → (State.goodCv b.aCv || State.goodCv b.bCv) = true →
    b.refOk = true → s.chooseImage = none → Answers (exec (.boot b) s) (fun t =>
      t.modState = 0xF ∧ t.fld R.PWR_BOOT_STATUS F.PWR_BOOT_STATUS_fail_code = 0x83 ∧ t.pwr.pwrGood = false)) ∧
  (s.modState = 1 → Answers (exec (.memTrain tr) s) (fun t => t.modState = 2 ∧ t.bootStep = 6 ∧
      t.fld R.GLB_STATUS F.GLB_STATUS_die_ok = 15 - tr.failedDies % 16 ∧
      t.fld R.GLB_STATUS F.GLB_STATUS_active_cores = ((List.range 128).filter (fun k => !t.absent k)).length)) ∧
  (s.modState = 2 → s.host.image = none → Answers (exec (.linkTrain up) s) (fun t => t.modState = 3 ∧ t.bootStep = 7)) ∧
  (s.modState = 3 → s.isGate = false → Answers (exec (.podJoin [] true) s) (fun t =>
      t.host.joined = true ∧ t.fab.everLocked = true ∧ t.modState = 3)) ∧
  (s.modState = 3 → s.host.joined = true → Answers (exec .ready s) (fun t =>
      t.modState = 4 ∧ t.bootStep = 8 ∧ t.pwr.pwrGood = true)) ∧
  (s.modState = 3 → s.host.joined = false → Answers (exec .podJoinTimeout s) (fun t =>
      t.host.joined = true ∧ t.fld R.HST_POD_STATE F.HST_POD_STATE_state = 3 ∧ SameRegs [R.HST_POD_STATE] s t))) ∧
  (∀ (s : State) (st : BootStep) (dev : Fin 64) (nonce : BitVec 128),
  (s.modState = 0 → st = .s2 ∨ st = .s3 ∨ st = .s4 → Answers (exec (.bootStepTimeout st) s) (fun t =>
    t.modState = 0xF ∧ t.bootStep = st.ctorIdx + 1 ∧ t.pwr.pwrGood = false ∧
    t.fld R.PWR_BOOT_STATUS F.PWR_BOOT_STATUS_fail_code =
      (match st with | .s2 => 0x85 | .s3 => 0x83 | _ => 0x86))) ∧
  (s.modState = 1 → Answers (exec (.bootStepTimeout .s5) s) (fun t => t.modState = 2 ∧ t.bootStep = 6)) ∧
  (s.modState = 2 → s.host.image = none → Answers (exec (.bootStepTimeout .s6) s) (fun t => t.modState = 3 ∧ t.bootStep = 7)) ∧
  (3 ≤ s.modState → s.modState ≠ 0xF → s.isGate = true → Answers (exec (.memberJoin dev nonce) s) (fun t =>
    t.reg (R.HST_MEMBER_NONCE_LO dev.val) = nonce.setWidth 64 ∧ t.reg (R.HST_MEMBER_NONCE_HI dev.val) = nonce.extractLsb' 64 64 ∧
    t.regBit R.HST_POD_MEMBERS dev.val = true)))

/-- The management bus (R451, R452): a transaction to the module's address with a good PEC is held for its answer,
one with a bad PEC only counts; a lost arbitration counts, and the sixteenth in a row discards the packet. The MCTP
and PLDM requests of R453 and what the module answers. The bytes of the answers around the values are those of the
family's standards, which the model presumes (log entry 20). -/
def Obligations.ManagementBus : Prop :=
  (∀ (s : State) (addr : Nat) (good ad : Bool) (data : Bytes),
  (addr = s.fld R.RAS_SMB_CFG F.RAS_SMB_CFG_addr → Answers (exec (.smbusTransaction addr true data) s) (fun t =>
    t.ras.smbHeld = some data ∧ t.regs = s.regs)) ∧
  (addr = s.fld R.RAS_SMB_CFG F.RAS_SMB_CFG_addr → Answers (exec (.smbusTransaction addr false data) s) (fun t =>
    t.ras = s.ras ∧ (t.reg R.RAS_SMB_DROPS).toNat = min 0xFFFFFFFF ((s.reg R.RAS_SMB_DROPS).toNat + 1) ∧
    SameRegs [R.RAS_SMB_DROPS] s t)) ∧
  (addr ≠ s.fld R.RAS_SMB_CFG F.RAS_SMB_CFG_addr → exec (.smbusTransaction addr good data) s = .next s) ∧
  Answers (exec (.smbusArp addr) s) (fun t => t.fld R.RAS_SMB_CFG F.RAS_SMB_CFG_addr = addr % 2 ^ 7 ∧
    t.fld R.RAS_SMB_CFG F.RAS_SMB_CFG_arp_assigned = 1 ∧ SameRegs [R.RAS_SMB_CFG] s t) ∧
  Answers (exec .smbusTimeout s) (fun t => t.ras.smbHeld = none ∧ t.regs = s.regs) ∧
  Answers (exec (.mctpTransmit false ad) s) (fun t => t.ras.smbLosses = 0 ∧ t.ras.pldmEvents = s.ras.pldmEvents.drop 1 ∧
    t.regs = s.regs) ∧
  (s.ras.smbLosses < 15 → Answers (exec (.mctpTransmit true ad) s) (fun t => t.ras.smbLosses = s.ras.smbLosses + 1 ∧
    (t.reg R.RAS_SMB_ARB_LOST).toNat = min 0xFFFFFFFF ((s.reg R.RAS_SMB_ARB_LOST).toNat + 1) ∧
    t.ras.pldmEvents = s.ras.pldmEvents ∧ SameRegs [R.RAS_SMB_ARB_LOST] s t)) ∧
  (15 ≤ s.ras.smbLosses → Answers (exec (.mctpTransmit true ad) s) (fun t => t.ras.smbLosses = 0 ∧
    (t.reg R.RAS_SMB_ARB_LOST).toNat = min 0xFFFFFFFF ((s.reg R.RAS_SMB_ARB_LOST).toNat + 1) ∧
    (t.reg R.RAS_SMB_DROPS).toNat = min 0xFFFFFFFF ((s.reg R.RAS_SMB_DROPS).toNat + 1)))) ∧
  (∀ (s : State) (eid k : Nat),
  (0 < eid → eid < 255 → Answers (exec (.setEndpointId eid) s) (fun t => t.ras.eid = eid ∧
    Answers (exec .getEndpointId t) (fun u => u.ras.smbReply = [0, BitVec.ofNat 8 eid, 0, 0] ∧ u.ras.eid = eid))) ∧
  Answers (exec .getEndpointId s) (fun t => t.ras.smbReply[1]? = some (BitVec.ofNat 8 s.ras.eid) ∧ t.regs = s.regs) ∧
  Answers (exec .getMctpVersionSupport s) (fun t => t.ras.smbReply = 0 :: Config.mctpVersions ∧ t.ras.smbHeld = none) ∧
  Answers (exec .getMessageTypeSupport s) (fun t => t.ras.smbReply = [0, 2, 0, 1] ∧ t.ras.smbHeld = none) ∧
  (k < 4 → Answers (exec (.pldmRequest k) s) (fun t =>
    t.ras.smbReply = 0 :: bytesOf (s.fld (R.PWR_DIE_STATUS k) F.PWR_DIE_STATUS_temp_c) 2)) ∧
  Answers (exec (.pldmRequest 6) s) (fun t => t.ras.smbReply = 0 :: bytesOf (s.fld R.PWR_POWER F.PWR_POWER_sample_w) 2))

/-- The TAP's instructions (R454): EXTEST, CLAMP and HIGHZ act only while MOD_RESET_N is low and as BYPASS otherwise.
-/
def Obligations.TapInstructions : Prop :=
  ∀ s : State,
  Answers (exec .bypass s) (fun t => t.ras.tap = 0 ∧ t.regs = s.regs) ∧
  Answers (exec .idcode s) (fun t => t.ras.tap = 1 ∧
    bitsOf t.ras.tapOut 28 4 = s.fld R.GLB_MODULE_ID F.GLB_MODULE_ID_stepping % 16 ∧ bitsOf t.ras.tapOut 12 16 = 0x0128 ∧
    bitsOf t.ras.tapOut 1 11 = Config.jedecCode % 2 ^ 11) ∧
  Answers (exec .samplePreload s) (fun t => t.ras.tap = 2 ∧ t.regs = s.regs) ∧
  (s.pwr.resetHigh = false → Answers (exec .extest s) (fun t => t.ras.tap = 3) ∧
    Answers (exec .clamp s) (fun t => t.ras.tap = 4) ∧ Answers (exec .highz s) (fun t => t.ras.tap = 5)) ∧
  (s.pwr.resetHigh = true → exec .extest s = exec .bypass s ∧ exec .clamp s = exec .bypass s ∧
    exec .highz s = exec .bypass s)

/-- An attempt to enter a factory test mode (R455) is refused by every path, counted and logged, and does nothing
else. -/
def Obligations.TestModesLocked : Prop :=
  ∀ (s : State) (p : TestPath), Answers (exec (.testModeEntry p) s) (fun t =>
    (t.reg R.RAS_TEST_REFUSED).toNat = min 0xFFFFFFFF ((s.reg R.RAS_TEST_REFUSED).toNat + 1) ∧
    SameRegs [R.RAS_TEST_REFUSED, R.RAS_STATUS, R.RAS_LOG_DROPS 2] s t ∧ Keeps (only [.regs, .ras]) s t ∧
    (∀ k, s.shareFor 2 = some k → t.ras.intake.map (fun e => (e.entry.cls, e.entry.code)) =
      s.ras.intake.map (fun e => (e.entry.cls, e.entry.code)) ++ [(2, 0x94)]) ∧
    (match p with
      | .privateTap _ => t.ras.tap = 0
      | _ => t.ras.testReply = 0x94 ∧ t.ras.tap = s.ras.tap))

/-- The patrol scrubber (R440) corrects and counts a single-bit error and poisons the word of a double-bit error, in
Pocket and Overcast while it is enabled. -/
def Obligations.Scrubber : Prop :=
  ∀ (s : State) (a : Nat) (f : ScrubFinding),
  s.fld R.RAS_SCRUB_CFG F.RAS_SCRUB_CFG_enable = 1 →
  (∃ k, s.region a = .ovc k ∨ s.region a = .pocket k) →
  exec (.patrolScrub a .clean) s = .next s ∧
  Answers (exec (.patrolScrub a .single) s) (fun t =>
    (t.reg (R.RAS_SRAM_CE (State.sramDie a))).toNat = min 0xFFFFFFFF ((s.reg (R.RAS_SRAM_CE (State.sramDie a))).toNat + 1) ∧
    SameRegs [R.RAS_SRAM_CE (State.sramDie a)] s t ∧ t.mem = s.mem ∧ t.msys = s.msys) ∧
  Answers (exec (.patrolScrub a .double) s) (fun t =>
    (t.reg (R.RAS_SRAM_UE (State.sramDie a))).toNat = min 0xFFFFFFFF ((s.reg (R.RAS_SRAM_UE (State.sramDie a))).toNat + 1) ∧
    a / 8 ∈ t.msys.poison ∧ (∀ w, w ∈ t.msys.poison ↔ w ∈ s.msys.poison ∨ w = a / 8) ∧ t.mem = s.mem)

/-- The log writer takes an entry off the intake (R445, R446): FATAL and ERROR go to their ring at once under the
next sequence number; the others open; an entry that an open one takes only adds to its count. What ends in the log
(R446, R447, R449): a coalescing window, a flood, a snapshot. An alarm's window closes (R450): its count is stored,
and a count above the threshold raises the alarm and the PF's vector 0. -/
def Obligations.ContrailLog : Prop :=
  (∀ (s : State) (k : Nat) (e : LogEntry) (o : OpenEntry),
  s.ras.intake = [⟨k, e⟩] → e.cls ≤ 4 →
  (s.ras.opened.length < 1024 → (∀ x ∈ s.ras.opened, x.takes e = false) → 2 ≤ e.cls →
    Answers (exec .contrailEntry s) (fun t => t.ras.intake = [] ∧ t.ras.opened = s.ras.opened ++ [⟨e, none⟩] ∧
      t.ras.rings = s.ras.rings ∧ t.regs = s.regs)) ∧
  (s.ras.opened.length < 1024 → (∀ x ∈ s.ras.opened, x.takes e = false) → e.cls ≤ 1 →
    Answers (exec .contrailEntry s) (fun t => t.ras.intake = [] ∧ t.ras.nextSeq = s.ras.nextSeq + 1 ∧
      t.ras.rings.get LogEntry.blank (e.cls * 2 ^ 17 + s.fld (R.RAS_LOG_HEAD e.cls) F.RAS_LOG_HEAD_index) =
        { e with seq := s.ras.nextSeq } ∧
      t.fld (R.RAS_LOG_HEAD e.cls) F.RAS_LOG_HEAD_index =
        (s.fld (R.RAS_LOG_HEAD e.cls) F.RAS_LOG_HEAD_index + 1) % ringSize e.cls)) ∧
  (s.ras.opened = [o] → o.takes e = true → Answers (exec .contrailEntry s) (fun t => t.ras.intake = [] ∧
      t.ras.opened = [{ o with entry := { o.entry with count := o.entry.count + 1, last := e.time - o.entry.time } }] ∧
      (t.reg R.RAS_LOG_COALESCED).toNat = min 0xFFFFFFFF ((s.reg R.RAS_LOG_COALESCED).toNat + 1) ∧
      SameRegs [R.RAS_LOG_COALESCED] s t))) ∧
  (∀ (s : State) (k : Nat) (o : OpenEntry) (c : Fin 5) (x : Snapshot),
  (s.ras.opened[k]? = some o → o.entry.time + 1000000 ≤ s.time → o.slot = none →
    Answers (exec (.coalesceWindowClose k) s) (fun t =>
      t.ras.opened = s.ras.opened.take k ++ s.ras.opened.drop (k + 1) ∧ t.ras.nextSeq = s.ras.nextSeq + 1 ∧
      t.ras.rings.get LogEntry.blank (o.entry.cls * 2 ^ 17 + s.fld (R.RAS_LOG_HEAD o.entry.cls) F.RAS_LOG_HEAD_index) =
        { o.entry with seq := s.ras.nextSeq })) ∧
  (s.ras.opened[k]? = some o → s.time < o.entry.time + 1000000 → exec (.coalesceWindowClose k) s = .next s) ∧
  ((s.ras.floods.get Flood.none c.val).active = true → s.ras.intake = [] → Answers (exec (.floodEnd c) s) (fun t =>
      (t.ras.floods.get Flood.none c.val).active = false ∧ t.regBit R.RAS_STATUS c.val = false ∧
      t.ras.nextSeq = s.ras.nextSeq + (s.ras.floods.get Flood.none c.val).first.length +
        (s.ras.floods.get Flood.none c.val).tail.length ∧
      t.ras.intake.map (fun i => (i.entry.cls, i.entry.code, i.entry.value)) =
        [(2, 0x96, (s.ras.floods.get Flood.none c.val).lost)])) ∧
  (s.ras.snapRunning = some x → s.ras.snapWaiting = 0 → Answers (exec .snapshotComplete s) (fun t =>
      t.ras.snapRunning = none ∧ t.regBit R.RAS_STATUS 5 = false ∧
      (s.fld R.RAS_SNAP_COUNT F.RAS_SNAP_COUNT_next_slot, x) ∈ t.ras.snaps ∧
      t.fld R.RAS_SNAP_COUNT F.RAS_SNAP_COUNT_next_slot = (s.fld R.RAS_SNAP_COUNT F.RAS_SNAP_COUNT_next_slot + 1) % 16 ∧
      t.fld R.RAS_SNAP_COUNT F.RAS_SNAP_COUNT_count = (s.fld R.RAS_SNAP_COUNT F.RAS_SNAP_COUNT_count + 1) % 2 ^ 16 ∧
      SameRegs [R.RAS_SNAP_COUNT, R.RAS_STATUS] s t))) ∧
  (∀ (s : State) (n : Fin 16),
  s.fld (R.RAS_ALARM_CFG n.val) F.RAS_ALARM_CFG_enable = 1 → s.fld (R.RAS_ALARM_CFG n.val) F.RAS_ALARM_CFG_source ≤ 9 →
  Answers (exec (.alarmWindowClose n) s) (fun t =>
    t.fld (R.RAS_ALARM_COUNT n.val) F.RAS_ALARM_COUNT_count = min (s.ras.alarmNow.get 0 n.val) 0xFFFFFFFF ∧
    (if s.fld (R.RAS_ALARM_THRESH n.val) F.RAS_ALARM_THRESH_threshold < min (s.ras.alarmNow.get 0 n.val) 0xFFFFFFFF then
      t.regBit R.RAS_ALARM_STATUS n.val = true ∧ t.host.irqs = (0, 0) :: s.host.irqs ∧
        t.ras.pldmEvents = s.ras.pldmEvents ++ [n.val]
    else t.reg R.RAS_ALARM_STATUS = s.reg R.RAS_ALARM_STATUS ∧ t.host = s.host ∧ t.ras.pldmEvents = s.ras.pldmEvents)))

/-- A write of snap latches every register of the pod view at once, and nothing else changes (R357); a requester
whose path does not reach the register latches nothing. -/
def Obligations.PodSnapshot : Prop :=
  ∀ (s : State) (req : Requester),
  (s.reach req R.HST_POD_SNAP = true → Answers (exec (.hstPodSnap req) s) (fun t =>
    t.reg R.HST_SNAP_STEP = s.podStep .pf ∧ t.reg R.HST_SNAP_TIME = s.reg R.POD_TIME ∧
    t.reg R.HST_SNAP_MEMBERS = s.reg R.HST_POD_MEMBERS ∧ t.reg R.HST_SNAP_HELD = s.reg R.HST_POD_HELD ∧
    t.reg R.HST_SNAP_FENCED = s.reg R.HST_POD_FENCED ∧ t.reg R.HST_SNAP_STATE = s.reg R.HST_POD_STATE ∧
    SameRegs [R.HST_SNAP_STEP, R.HST_SNAP_TIME, R.HST_SNAP_MEMBERS, R.HST_SNAP_HELD, R.HST_SNAP_FENCED, R.HST_SNAP_STATE] s t ∧
    Keeps (only [.regs]) s t)) ∧
  (s.reach req R.HST_POD_SNAP = false → Answers (exec (.hstPodSnap req) s) (fun t =>
    t.reg R.HST_SNAP_STEP = s.reg R.HST_SNAP_STEP ∧ t.reg R.HST_SNAP_TIME = s.reg R.HST_SNAP_TIME ∧
    t.reg R.HST_SNAP_STATE = s.reg R.HST_SNAP_STATE))

/-- A read of THM_EVENT answers the oldest entry and removes it, or 0 when there is none (R358). A reset of the PCIe
endpoint reaches the host block's registers and queues only (R340); a function-level reset disables the function's
queues and tells the PF. -/
def Obligations.MailboxAndPcieResets : Prop :=
  (∀ (s : State) (req : Requester) (w : Word) (l : List Word),
  s.reach req R.THM_EVENT = true →
  (s.host.events = w :: l → Answers (exec (.thmEvent req) s) (fun t =>
    t.host = { s.host with events := l, reply := some ⟨req, bytesOf w.toNat 8, false⟩ } ∧
    t.fld R.THM_STATUS F.THM_STATUS_event_pending = (if l = [] then 0 else 1) ∧ SameRegs [R.THM_STATUS] s t)) ∧
  (s.host.events = [] → Answers (exec (.thmEvent req) s) (fun t =>
    t.host = { s.host with reply := some ⟨req, List.replicate 8 0, false⟩ } ∧ t.regs = s.regs))) ∧
  (∀ (s : State) (k : InstId),
  Answers (exec .pcieReset s) (fun t =>
    t.host = { s.host with works := [], reply := none } ∧ Keeps (only [.regs, .captured, .heldLow, .host]) s t ∧
    (∀ r, r < 0x400000 ∨ 0x500000 ≤ r → t.reg r = s.reg r) ∧
    (∀ r, State.inQueueRegs r = true → t.reg r = regReset r) ∧
    t.reg R.HST_AUTH_FAILS = regReset R.HST_AUTH_FAILS ∧ t.reg R.HST_BOOT_NONCE_LO = s.reg R.HST_BOOT_NONCE_LO) ∧
  Answers (exec (.functionLevelReset k) s) (fun t =>
    (∀ q, q < 64 → t.regBit (R.HST_Q_CFG k.val q) 0 = false) ∧ Keeps (only [.regs, .host]) s t ∧
    (s.host.events.length < 64 → t.host.events.length = s.host.events.length + 1 ∧
      t.fld R.THM_STATUS F.THM_STATUS_event_pending = 1 ∧ t.host.irqs = (0, 1) :: s.host.irqs) ∧
    (64 ≤ s.host.events.length → t.host = s.host ∧
      (t.reg R.THM_EVENT_LOST).toNat = min 0xFFFFFFFF ((s.reg R.THM_EVENT_LOST).toNat + 1))))

/-- A register access that is not naturally aligned, or not 4 or 8 bytes wide, has no effect and reads as all ones
(R30). -/
def Obligations.UnalignedAccess : Prop :=
  ∀ (s : State) (req : Requester) (off size val : Nat), ¬((size = 4 ∨ size = 8) ∧ off % size = 0) →
    exec (.registerWrite req off size val) s = .next s ∧ s.busRead req off size = (2 ^ (8 * size) - 1, s) ∧
    (off < 0x10000000 → Answers (exec (.hostBarRead .pf 0 off size) s) (fun t =>
      t.host.reply = some ⟨.pf, List.replicate size 0xFF, false⟩ ∧ t.regs = s.regs))

/-- The fields of a written register by their access codes (R9), for the 32-bit registers of the memory and
reliability blocks: a read-write field takes the written value, a read-only field stays, a written 1 clears a bit of
a W1C field, a field under the configuration lock takes the value while the lock is not set. No other register
changes. The two halves of a 64-bit register (R31), for the registers of the memory block: a read of the low word
captures the high word for that requester alone; a written low word is held back, and the write of the high word
makes both take effect, as one write of 8 bytes would. A host's read and write of Overcast or Pocket through BAR2
(R341): the bytes at the address, or no effect and all ones where the address is unmapped or the firewall refuses
(R26, R408). -/
def Obligations.RegisterAndBarAccess : Prop :=
  (∀ (s : State) (req : Requester) (off v : Nat) (r : RegRow) (f : FieldRow),
  (0x800000 ≤ off ∧ off < 0xA00000 ∨ 0x1400000 ≤ off ∧ off < 0x1500000 ∧ off ≠ R.RAS_MAINT) → off % 4 = 0 →
  rowAt off = some r → r.bytes = 4 → State.baseOff off = off → f ∈ r.fields → s.reach req off = true →
  Answers (exec (.registerWrite req off 4 v) s) (fun t =>
    bitsOf (t.reg off).toNat f.lo f.len =
      (match f.access with
        | .rw => bitsOf v f.lo f.len
        | .ro => bitsOf (s.reg off).toNat f.lo f.len
        | .wo => 0
        | .w1c => bitsOf (s.reg off).toNat f.lo f.len - (bitsOf (s.reg off).toNat f.lo f.len &&& bitsOf v f.lo f.len)
        | .rwl => if s.fld R.GLB_STATUS F.GLB_STATUS_cfg_locked = 1 then bitsOf (s.reg off).toNat f.lo f.len
            else bitsOf v f.lo f.len) ∧
    SameRegs [off] s t ∧ Keeps (only [.regs]) s t)) ∧
  (∀ (s : State) (req : Requester) (off : Nat) (lo hi : W32),
  0x800000 ≤ off → off < 0xA00000 → off % 8 = 0 → State.wide off = true → s.reach req off = true →
  Answers (exec (.splitLowWordRead req off) s) (fun t =>
    t.host.reply = some ⟨req, bytesOf (s.reg off).toNat 4, false⟩ ∧ t.regs = s.regs ∧
    (∀ h ∈ t.captured, h ∈ s.captured ∨ h = ⟨req, off, (s.reg off).extractLsb' 32 32⟩) ∧
    (⟨req, off, (s.reg off).extractLsb' 32 32⟩ : HalfWord) ∈ t.captured) ∧
  Answers (exec (.splitLowWordWrite req off lo) s) (fun t =>
    t.regs = s.regs ∧ t.heldLow.find? (fun h => h.req == req && h.off == off) = some ⟨req, off, lo⟩ ∧
    Answers (exec (.splitHighWordWrite req off hi) t) (fun u =>
      u.heldLow.find? (fun h => h.req == req && h.off == off) = none ∧
      ∃ v, exec (.registerWrite req off 8 (lo.toNat + hi.toNat * 2 ^ 32)) s = .next v ∧ u.regs = v.regs))) ∧
  (∀ (s : State) (f : Fn) (off a n : Nat) (data : Bytes),
  State.bar2 off = some a →
  (0 < n → State.bar2 (off + n - 1) = some (a + n - 1) → s.checkRange (State.fnWho f) a n = 0 →
    s.windowHeld a n = false → s.readStatus a n = 0 → Answers (exec (.hostBarRead f 2 off n) s) (fun t =>
      t.host.reply = some ⟨State.fnReq f, s.bytesAt a n, false⟩ ∧ t.regs = s.regs ∧ SameBytes s t)) ∧
  (0 < n → State.bar2 (off + n - 1) = some (a + n - 1) → s.checkRange (State.fnWho f) a n ≠ 0 →
    Answers (exec (.hostBarRead f 2 off n) s) (fun t =>
      t.host.reply = some ⟨State.fnReq f, List.replicate n 0xFF, false⟩ ∧ SameBytes s t)) ∧
  (data ≠ [] → State.bar2 (off + data.length - 1) = some (a + data.length - 1) →
    s.checkRange (State.fnWho f) a data.length = 0 → Answers (exec (.hostBarWrite f 2 off data) s) (fun t =>
      t.bytesAt a data.length = data ∧ (∀ x, x < a ∨ a + data.length ≤ x → t.byteAt x = s.byteAt x))) ∧
  (data ≠ [] → State.bar2 (off + data.length - 1) = some (a + data.length - 1) →
    s.checkRange (State.fnWho f) a data.length ≠ 0 → Answers (exec (.hostBarWrite f 2 off data) s) (fun t => SameBytes s t)))

/-- A core's sequencer under its control register (R151, R155): stop ends the running program with ABORTED at the
next bundle boundary, icinv empties the instruction cache; no other core changes. The dispatcher places all copies of
an entry at once, on distinct free cores of its instance, and the rotation moves past the entry's queue (R410). The
steps of a copy in their order (R411, R412): restore, or skip on a match of the residency key; start, with the
register files cleared and set; save; end, with the residency key. -/
def Obligations.CoreWork : Prop :=
  (∀ (s : State) (req : Requester) (c : CoreId),
  s.reach req (R.CORE_SEQ_CTRL c.val) = true → s.absent c.val = false →
  (((s.core c.val).runq.any (fun p => p.phase == .running)) = true → (s.core c.val).ending = none →
    Answers (exec (.coreSeqStop req c) s) (fun t => (t.core c.val).ending = some 0x06 ∧ (t.core c.val).bundle = [] ∧
      (t.core c.val).runq = (s.core c.val).runq ∧ (∀ d, d ≠ c.val → t.core d = s.core d) ∧ t.regs = s.regs)) ∧
  Answers (exec (.coreSeqIcinv req c) s) (fun t => (t.core c.val).icache = [] ∧
    t.core c.val = { s.core c.val with icache := [] } ∧ (∀ d, d ≠ c.val → t.core d = s.core d) ∧ t.regs = s.regs)) ∧
  (∀ (s : State) (i : InstId) (w : Work),
  s.dispatchStopped = false → s.instOn i.val = true →
  s.nextEntry i (State.queueOf i (s.sch.rotation.get 0 i.val)) = some w →
  0 < dw w.desc 4 48 8 → dw w.desc 4 48 8 ≤ (s.freeCores i.val).length →
  Answers (exec (.dispatch i) s) (fun t =>
    t.sch.rotation.get 0 i.val = (s.sch.rotation.get 0 i.val + 1) % 128 ∧
    (∀ x ∈ t.host.works, x.id = w.id → x.placed = true ∧ x.left = dw w.desc 4 48 8) ∧
    ∃ l : List Nat, l.Nodup ∧ l.length = dw w.desc 4 48 8 ∧
      (∀ c ∈ l, c ∈ s.freeCores i.val ∧ (t.core c).runq.length = (s.core c).runq.length + 1) ∧
      ∀ c, c ∉ l → t.core c = s.core c)) ∧
  (∀ (s : State) (c : CoreId) (p : Copy) (rest : List Copy) (code : Nat),
  (s.core c.val).runq = p :: rest →
  (p.phase = .waiting → p.affKey ≠ 0 → s.affKeyOf c.val = p.affKey → Answers (exec (.copyRestore c) s) (fun t =>
    (t.core c.val).runq = { p with phase := .ready, skipped := true } :: rest)) ∧
  (p.phase = .waiting → p.affKey = 0 → xw p.prog 7 0 16 = 0 → Answers (exec (.copyRestore c) s) (fun t =>
    (t.core c.val).runq = { p with phase := .restoring 0, status := 0 } :: rest)) ∧
  ((∃ k, p.phase = .restoring k) → s.listBusy c.val = false → p.status = 0 → Answers (exec (.copyRestore c) s) (fun t =>
    (t.core c.val).runq = { p with phase := .ready } :: rest)) ∧
  (p.phase = .ready → Answers (exec (.programStart c) s) (fun t =>
    (t.core c.val).runq = { p with phase := .running } :: rest ∧ (t.core c.val).sreg 1 = p.arg ∧
    (∀ k, k ≠ 1 → (t.core c.val).sreg k = 0) ∧ (t.core c.val).areg 0 = p.argBlock ∧ (∀ k, (t.core c.val).vreg k = 0) ∧
    (t.core c.val).icache = [] ∧ (t.reg (R.CORE_SEQ_PC c.val)).toNat = xw p.prog 0 0 48 ∧
    t.fld (R.CORE_SEQ_STATUS c.val) F.CORE_SEQ_STATUS_state = 1)) ∧
  (p.phase = .running → (s.core c.val).ending = some code → s.drained c.val = true → code < 256 → xw p.prog 7 16 16 = 0 →
    Answers (exec (.copySave c) s) (fun t =>
      (t.core c.val).runq = { p with phase := .saving 0, status := code } :: rest ∧ (t.core c.val).ending = none ∧
      t.fld (R.CORE_SEQ_STATUS c.val) F.CORE_SEQ_STATUS_last_status = code)) ∧
  (p.phase = .finished → s.suspect c.val = false → p.affKey < 2 ^ 32 → Answers (exec (.copyEnd c) s) (fun t =>
    (t.core c.val).runq = rest ∧ t.affKeyOf c.val = (if p.status = 0 then p.affKey else 0) ∧
    ∀ w, s.workOf p.work = some w → w.left ≤ 1 → t.workOf p.work = none)))

/-- What an operation does at its semaphore (R415): an acquire is granted while the value is not 0 and nothing waits,
else it waits; a release raises the value or serves the head waiter; an operation of an older generation is
discarded. A host's write of a semaphore and of a counter (R171, R415): the value, and what waited for it goes on. -/
def Obligations.Semaphores : Prop :=
  (∀ (s : State) (n : SemId) (c : CoreId) (op : SemOp) (w : SemWaiter),
  s.sch.semIn.get [] n.val = [op] → op.who = .core c →
  (genOlder op.gen (s.gen op.inst) = true → Answers (exec (.semaphoreOperation n 0) s) (fun t =>
    t.sch.semIn.get [] n.val = [] ∧ t.regs = s.regs ∧ t.cores = s.cores ∧ t.sch.semWait = s.sch.semWait)) ∧
  (genOlder op.gen (s.gen op.inst) = false → op.acquire = true → s.sch.semWait.get [] n.val = [] → s.semVal n.val ≠ 0 →
    Answers (exec (.semaphoreOperation n 0) s) (fun t => t.semVal n.val = s.semVal n.val - 1 ∧
      t.fld (R.SCH_SEM n.val) F.SCH_SEM_owned = 1 ∧ t.fld (R.SCH_SEM n.val) F.SCH_SEM_owner_core = c.val ∧
      t.fld (R.SCH_SEM n.val) F.SCH_SEM_abandoned = 0 ∧
      (t.core c.val).semGrant = some (if s.fld (R.SCH_SEM n.val) F.SCH_SEM_abandoned = 1 then 0x62 else 0))) ∧
  (genOlder op.gen (s.gen op.inst) = false → op.acquire = true → s.semVal n.val = 0 →
    Answers (exec (.semaphoreOperation n 0) s) (fun t => t.semVal n.val = 0 ∧ t.cores = s.cores ∧
      (t.sch.semWait.get [] n.val).map (fun x => x.who) = (s.sch.semWait.get [] n.val).map (fun x => x.who) ++ [.core c])) ∧
  (genOlder op.gen (s.gen op.inst) = false → op.acquire = false → s.sch.semWait.get [] n.val = [] → s.semVal n.val < 0xFFFF →
    Answers (exec (.semaphoreOperation n 0) s) (fun t => t.semVal n.val = s.semVal n.val + 1 ∧
      t.fld (R.SCH_SEM n.val) F.SCH_SEM_owned = 0 ∧ t.cores = s.cores)) ∧
  (genOlder op.gen (s.gen op.inst) = false → op.acquire = false → s.sch.semWait.get [] n.val = [w] → w.who = .core c →
    s.semVal n.val = 0 → Answers (exec (.semaphoreOperation n 0) s) (fun t => t.semVal n.val = 0 ∧
      t.fld (R.SCH_SEM n.val) F.SCH_SEM_owned = 1 ∧ t.sch.semWait.get [] n.val = [] ∧ (t.core c.val).semGrant.isSome = true))) ∧
  (∀ (s : State) (req : Requester) (n : SemId) (b : BobId) (v : BitVec 16) (x : W32) (c : CoreId) (y : Nat) (pc : Addr),
  (s.reach req (R.SCH_SEM n.val) = true → s.sch.semWait.get [] n.val = [] → Answers (exec (.semaphoreWrite req n v) s) (fun t =>
    t.semVal n.val = v.toNat ∧ t.cores = s.cores ∧ SameRegs [R.SCH_SEM n.val] s t)) ∧
  (s.reach req (R.SCH_BOB_VALUE b.val) = true → s.sch.bobWait.get [] b.val = [.wait c y pc] →
    Answers (exec (.bobbinValueWrite req b x) s) (fun t => t.bobVal b.val = x.toNat ∧
      t.fld (R.SCH_BOB_STATUS b.val) F.SCH_BOB_STATUS_exhausted = (if s.bobLimit b.val ≤ x.toNat then 1 else 0) ∧
      (t.core c.val).bobGrant = (if y ≤ x.toNat then some 0 else (s.core c.val).bobGrant) ∧
      SameRegs [R.SCH_BOB_VALUE b.val, R.SCH_BOB_STATUS b.val] s t)))

/-- A fetch-and-add on a Bobbin counter (R170): the counter saturates at its limit and at 0 and never moves once it
has reached the limit; a draw beyond the limit counts. A wait goes on at once when the counter has reached its value.
Buffer pools (R418, R419): a take answers the oldest free slot or POOL_EMPTY, a return puts a slot of the pool at the
end of its free list and anything else only counts, and a freed slot goes to the head of the wait queue. -/
def Obligations.CountersAndPools : Prop :=
  (∀ (s : State) (n : BobId) (c : CoreId) (id d v : Nat) (a : W32) (pc : Addr),
  (s.sch.bobIn.get [] n.val = [.add c id d a] → s.sch.bobWait.get [] n.val = [] → Answers (exec (.bobbinCounterOp n 0) s) (fun t =>
    (t.bobVal n.val : Int) = (if 0 ≤ a.toInt then
        (if s.bobLimit n.val ≤ s.bobVal n.val then (s.bobVal n.val : Int) else min (s.bobVal n.val + a.toInt) (s.bobLimit n.val))
      else max (s.bobVal n.val + a.toInt) 0) ∧
    t.fld (R.SCH_BOB_STATUS n.val) F.SCH_BOB_STATUS_late_draws =
      (if s.bobLimit n.val ≤ s.bobVal n.val ∧ 0 ≤ a.toInt then min 0xFFFF (s.fld (R.SCH_BOB_STATUS n.val) F.SCH_BOB_STATUS_late_draws + 1)
        else s.fld (R.SCH_BOB_STATUS n.val) F.SCH_BOB_STATUS_late_draws) ∧
    (∀ p, (s.core c.val).pend = [p] → p.kind = .bob id → p.live = true →
      (t.core c.val).pend = [] ∧ (d ≠ 0 → (t.core c.val).sreg d = BitVec.ofNat 64 (s.bobVal n.val))))) ∧
  (s.sch.bobIn.get [] n.val = [.wait c v pc] → Answers (exec (.bobbinCounterOp n 0) s) (fun t =>
    (if v ≤ s.bobVal n.val then (t.core c.val).bobGrant = some 0
      else t.sch.bobWait.get [] n.val = s.sch.bobWait.get [] n.val ++ [.wait c v pc] ∧ t.cores = s.cores) ∧ t.regs = s.regs))) ∧
  (∀ (s : State) (req : Requester) (p : PoolId) (slot : Nat) (a : Addr) (l : List Nat) (w : PoolWaiter) (ws : List PoolWaiter),
  (s.reach req (R.SCH_POOL_TAKE p.val) = true → s.poolOn p.val = true → s.sch.poolWait.get [] p.val = [] →
    s.sch.poolFree.get [] p.val = slot :: l → Answers (exec (.poolTake req p) s) (fun t =>
      t.host.reply = some ⟨req, bytesOf (slot % 2 ^ 48) 8, false⟩ ∧ t.sch.poolFree.get [] p.val = l)) ∧
  (s.reach req (R.SCH_POOL_TAKE p.val) = true → s.sch.poolWait.get [] p.val = [] → s.sch.poolFree.get [] p.val = [] →
    Answers (exec (.poolTake req p) s) (fun t => t.host.reply = some ⟨req, bytesOf (0x61 * 2 ^ 56) 8, false⟩ ∧ t.sch = s.sch ∧
      (t.reg (R.SCH_POOL_EMPTY_COUNT p.val)).toNat = min 0xFFFFFFFF ((s.reg (R.SCH_POOL_EMPTY_COUNT p.val)).toNat + 1))) ∧
  (s.reach req (R.SCH_POOL_RETURN p.val) = true → s.poolOn p.val = true → a.toNat ∈ s.poolSlots p.val →
    a.toNat ∉ s.sch.poolFree.get [] p.val → Answers (exec (.poolReturn req p a) s) (fun t =>
      t.sch.poolFree.get [] p.val = s.sch.poolFree.get [] p.val ++ [a.toNat])) ∧
  (s.reach req (R.SCH_POOL_RETURN p.val) = true → a.toNat ∉ s.poolSlots p.val → Answers (exec (.poolReturn req p a) s) (fun t =>
      t.sch = s.sch ∧
      (t.reg (R.SCH_POOL_BAD_RETURNS p.val)).toNat = min 0xFFFFFFFF ((s.reg (R.SCH_POOL_BAD_RETURNS p.val)).toNat + 1))) ∧
  (s.sch.poolWait.get [] p.val = w :: ws → s.sch.poolFree.get [] p.val = slot :: l → Answers (exec (.slotGrant p) s) (fun t =>
      t.sch.poolWait.get [] p.val = ws ∧ t.sch.poolFree.get [] p.val = l)))

/-- A watchdog ends a wait with TIMEOUT (R417): the waiter leaves its queue, the timeout counts, and the core goes on
with status 0x05. -/
def Obligations.Watchdogs : Prop :=
  ∀ (s : State) (n : SemId) (b : BobId) (p : PoolId) (c : CoreId) (k : Nat) (x : SemWaiter) (v : Nat) (pc : Addr) (y : PoolWaiter),
  ((s.sch.semWait.get [] n.val)[k]? = some x → x.who = .core c → Answers (exec (.watchdogExpiry (.sem n k)) s) (fun t =>
    (t.core c.val).semGrant = some 0x05 ∧ t.sch.semWait.get [] n.val = (s.sch.semWait.get [] n.val).eraseIdx k ∧
    (t.reg R.SCH_TIMEOUTS).toNat = min 0xFFFFFFFF ((s.reg R.SCH_TIMEOUTS).toNat + 1))) ∧
  ((s.sch.bobWait.get [] b.val)[k]? = some (.wait c v pc) → Answers (exec (.watchdogExpiry (.bob b k)) s) (fun t =>
    (t.core c.val).bobGrant = some 0x05 ∧ t.sch.bobWait.get [] b.val = (s.sch.bobWait.get [] b.val).eraseIdx k ∧
    (t.reg R.SCH_TIMEOUTS).toNat = min 0xFFFFFFFF ((s.reg R.SCH_TIMEOUTS).toNat + 1))) ∧
  ((s.core c.val).rcvWait.isSome = true → (s.core c.val).rcvExpired = false → Answers (exec (.watchdogExpiry (.rcv c)) s) (fun t =>
    (t.core c.val).rcvExpired = true ∧
    (t.reg R.SCH_TIMEOUTS).toNat = min 0xFFFFFFFF ((s.reg R.SCH_TIMEOUTS).toNat + 1))) ∧
  ((s.sch.poolWait.get [] p.val)[k]? = some y → Answers (exec (.watchdogExpiry (.pool p k)) s) (fun t =>
    t.sch.poolWait.get [] p.val = (s.sch.poolWait.get [] p.val).eraseIdx k ∧
    (t.reg R.SCH_TIMEOUTS).toNat = min 0xFFFFFFFF ((s.reg R.SCH_TIMEOUTS).toNat + 1)))

/-- A product descriptor at the head of an idle array's queue leaves it. One that passes its checks becomes active
(R146); one that does not ends with its status before any pass runs and stores nothing (R97); an undefined opcode is
BAD_OPCODE. A convolution or a weight gradient leaves the queue: its checks end it in their order before any pass
runs (R200, R209), or its passes become active; the lines of the next pass are fetched one pass ahead (R204). -/
def Obligations.ProductAndConvolutionStart : Prop :=
  (∀ (s : State) (c : CoreId) (it : MxItem) (st a : Nat),
  s.headMx c.val = some it → s.oldMx it = false →
  (∀ i : Instr, (i = .matrixProduct c ∧ xw it.desc 0 0 8 = 0x20 ∨ i = .dispatchedMatrixProduct c ∧ xw it.desc 0 0 8 = 0x21 ∨
      i = .pointerListProduct c ∧ xw it.desc 0 0 8 = 0x22) →
    (s.matrixCheck c.val it = (st, a) → st ≠ 0 → Answers (exec i s) (fun t =>
      (t.core c.val).mxq = (s.core c.val).mxq.drop 1 ∧ (t.arr c.val).job = none ∧ t.mem = s.mem ∧ t.msys = s.msys ∧
      (t.core c.val).mxStatus = (if (s.core c.val).mxStatus = 0 then st else (s.core c.val).mxStatus))) ∧
    (s.matrixCheck c.val it = (0, a) → (State.prodOfItem it).bob = 0xFFFF → (State.prodOfItem it).pleat ≠ 2 →
      (State.prodOfItem it).bmask = false → s.rowsIn (s.unitProd it 0) (s.unitProd it 0).whole ≠ [] →
      ((State.prodOfItem it).op = 0x22 → s.productBad c.val (s.unitProd it 0) = false ∧
        ∀ k, k < 4 → s.natAt ((State.prodOfItem it).aux + 8 * k) 8 < (if k = 3 then 2 ^ 32 else 2 ^ 48)) →
      Answers (exec i s) (fun t => (t.core c.val).mxq = (s.core c.val).mxq.drop 1 ∧
        t.fld (R.CORE_ARR_STATUS c.val) F.CORE_ARR_STATUS_busy = 1 ∧ t.mem = s.mem ∧
        ∃ j, (t.arr c.val).job = some j ∧ j.item = it ∧ j.unit = 0 ∧ j.cur = 0 ∧ j.entered = false ∧ j.passes ≠ []))) ∧
  (xw it.desc 0 0 8 < 0x20 ∨ 0x27 < xw it.desc 0 0 8 → Answers (exec (.matrixProduct c) s) (fun t =>
    (t.core c.val).mxq = (s.core c.val).mxq.drop 1 ∧ (t.arr c.val).job = none ∧
    (t.core c.val).mxStatus = (if (s.core c.val).mxStatus = 0 then 0x01 else (s.core c.val).mxStatus) ∧ t.mem = s.mem ∧
    t.regs = s.regs))) ∧
  (∀ (s : State) (c : CoreId) (it : MxItem) (i : Instr) (j : ArrJob) (x : Pass) (a : Nat),
  (s.headMx c.val = some it → s.oldMx it = false → xw it.desc 0 0 8 = 0x24 →
    i = (if xw it.desc 0 8 1 = 0 then .convolution c else .weightGradient c) →
    (s.convCheck c.val it ≠ 0 → Answers (exec i s) (fun t => (t.core c.val).mxq = (s.core c.val).mxq.drop 1 ∧
      (t.arr c.val).job = none ∧ t.mem = s.mem ∧ t.regs = s.regs ∧
      (t.core c.val).mxStatus = (if (s.core c.val).mxStatus = 0 then s.convCheck c.val it else (s.core c.val).mxStatus))) ∧
    (s.convCheck c.val it = 0 → Answers (exec i s) (fun t => (t.core c.val).mxq = (s.core c.val).mxq.drop 1 ∧
      t.fld (R.CORE_CWU_STATUS c.val) F.CORE_CWU_STATUS_busy = 1 ∧ t.fld (R.CORE_ARR_STATUS c.val) F.CORE_ARR_STATUS_busy = 1 ∧
      t.mem = s.mem ∧ ∃ k, (t.arr c.val).job = some k ∧ k.item = it ∧ k.cur = 0 ∧ k.entered = false ∧ k.linesTo = 0 ∧ k.passes ≠ []))) ∧
  ((s.arr c.val).job = some j → j.passes[j.linesTo]? = some x → (State.prodOfItem j.item).kind ≠ 0 → j.linesTo ≤ j.cur + 1 →
    ¬((State.prodOfItem j.item).conv.kh = 1 ∧ (State.prodOfItem j.item).conv.kw = 1) → j.abortAt = none →
    s.rangesStatus (State.mxEng c.val j.item) (State.passLines (State.prodOfItem j.item) x) = (0, a) →
    Answers (exec (.lineFetch c) s) (fun t => (t.arr c.val).job = some { j with linesTo := j.linesTo + 1 } ∧
      (t.reg (R.CORE_CWU_LINE_BYTES c.val)).toNat = ((s.reg (R.CORE_CWU_LINE_BYTES c.val)).toNat +
        ((State.passLines (State.prodOfItem j.item) x).map Prod.snd).sum) % 2 ^ 64 ∧
      SameRegs [R.CORE_CWU_LINE_BYTES c.val] s t ∧ t.mem = s.mem)))

/-- The next pass's tile is loaded into the bank that is not in use, and its first row enters with that bank (R79,
R97): a tile that breaks the scale or the pleat rule ends the item with the status its load met (R77, R103). The
staging engine fills the buffers of the next Pocket tile, and writes a finished C tile back to its home, every byte
of it and no other (R164, R165). -/
def Obligations.TilesAndStaging : Prop :=
  (∀ (s : State) (c : CoreId) (j : ArrJob) (x : Pass) (b : TileBank),
  (s.arr c.val).job = some j → j.passes[j.cur]? = some x → s.operandsReady c.val j x = true → j.entered = false →
  (State.holds (s.arr c.val).bank0 x = false → State.holds (s.arr c.val).bank1 x = false →
    Answers (exec (.weightTileLoad c) s) (fun t =>
      State.holds (State.bank (t.arr c.val) ((s.arr c.val).useBank + 1)) x = true ∧
      State.bank (t.arr c.val) (s.arr c.val).useBank = State.bank (s.arr c.val) (s.arr c.val).useBank ∧
      (t.arr c.val).job = some j ∧ t.mem = s.mem)) ∧
  (State.bank (s.arr c.val) (s.arr c.val).useBank = some b → b.tid = x.tid → b.bad = 0 →
    Answers (exec (.passEntry c) s) (fun t =>
      (t.arr c.val).job = some { j with entered := true } ∧
      t.fld (R.CORE_ARR_STATUS c.val) F.CORE_ARR_STATUS_active_bank = (s.arr c.val).useBank % 2 ∧
      t.fld (R.CORE_ARR_STATUS c.val) F.CORE_ARR_STATUS_dir = (s.unitProd j.item j.unit).dir ∧ t.mem = s.mem)) ∧
  (State.bank (s.arr c.val) (s.arr c.val).useBank = some b → b.tid = x.tid → b.bad ≠ 0 →
    Answers (exec (.passEntry c) s) (fun t => (t.arr c.val).job = none ∧
      (t.core c.val).mxStatus = (if (s.core c.val).mxStatus = 0 then b.bad else (s.core c.val).mxStatus)))) ∧
  (∀ (s : State) (c : CoreId) (j : ArrJob) (x : Pass) (b : Box) (k : Nat) (cells : List Host.Cell),
  (s.arr c.val).job = some j → j.passes[j.cur]? = some x → (s.unitProd j.item j.unit).bob = 0xFFFF →
  ((s.jobBoxes j)[j.stagedTo]? = some b → j.stagedTo ≤ x.ptile + 1 → j.abortAt = none →
    (∃ op, op < 3 ∧ State.isStaged c.val (s.unitProd j.item j.unit) op = true) →
    (∀ r ∈ s.sliceRanges (s.unitProd j.item j.unit) b 0 ++ s.sliceRanges (s.unitProd j.item j.unit) b 1 ++
        s.partialRanges (s.unitProd j.item j.unit) b, s.engReadSt (State.mxEng c.val j.item) r.1 r.2 = 0) →
    Answers (exec (.stagingFetch c) s) (fun t => ∃ j', (t.arr c.val).job = some j' ∧ j'.stagedTo = j.stagedTo + 1 ∧
      j'.passes = j.passes ∧ j'.cur = j.cur ∧ t.mem = s.mem ∧ SameRegs [R.CORE_STG_BYTES c.val] s t)) ∧
  (j.cBufs = [(k, cells)] → k < x.ptile → (∀ e ∈ cells, s.engWriteSt (State.mxEng c.val j.item) e.1 1 = 0 ∧ e.1 < 0x11100000000) →
    (cells.map Prod.fst).Nodup →
    Answers (exec (.stagingWriteback c) s) (fun t => (t.arr c.val).job = some { j with cBufs := [] } ∧
      (∀ e ∈ cells, t.byteAt e.1 = e.2) ∧ (∀ y, y ∉ cells.map Prod.fst → t.byteAt y = s.byteAt y))))

/-- A row at the drain: one that the Selvage finds wrong is not written and is marked, and the pass is retried (R90,
R91); a row of zeros that the feeder skips counts as not compared (R89); a row of an integer product that compares
equal is written with its exact sums (R85, R88). -/
def Obligations.RowAndRetry : Prop :=
  ∀ (s : State) (c : CoreId) (u : List (Fin 128 × W32)) (j : ArrJob) (x : Pass) (b : TileBank) (src dst a : Nat)
    (bits sc : List Nat),
  (s.arr c.val).job = some j → j.passes[j.cur]? = some x → State.bank (s.arr c.val) (s.arr c.val).useBank = some b →
  j.entered = true → j.attempt = 0 → j.abortAt = none →
  (j.row < State.rowLimit j x → x.rows[j.row]? = some (src, dst) →
    s.rowInput c.val j (s.unitProd j.item j.unit) x src = ((0, a), bits, sc) →
    (State.zeroRow (s.unitProd j.item j.unit) b bits sc = true → x.start < 2 → x.stop = 0 → j.row + 1 < State.rowLimit j x →
      Answers (exec (.rowDrain c u) s) (fun t => (t.arr c.val).job = some { j with row := j.row + 1 } ∧ t.mem = s.mem ∧
        (t.reg (R.CORE_SLV_SKIPPED c.val)).toNat = min 0xFFFFFFFF ((s.reg (R.CORE_SLV_SKIPPED c.val)).toNat + 1) ∧
        t.reg (R.CORE_SLV_MISMATCHES c.val) = s.reg (R.CORE_SLV_MISMATCHES c.val))) ∧
    (State.zeroRow (s.unitProd j.item j.unit) b bits sc = false → (s.unitProd j.item j.unit).isInt = true → u = [] →
      (s.unitProd j.item j.unit).kind = 0 → (s.unitProd j.item j.unit).fc = 0 → (s.unitProd j.item j.unit).acc = false →
      State.isStaged c.val (s.unitProd j.item j.unit) 2 = false → x.start = 1 → x.stop = 2 → j.row + 1 < State.rowLimit j x →
      int32Chain (rowResults (s.unitProd j.item j.unit) (bits.map (s.unitProd j.item j.unit).fmtA.value) sc b) =
        (checksums (s.unitProd j.item j.unit) ((bits.zip (spread sc)).map (fun e =>
          elemVal (s.unitProd j.item j.unit).fmtA e.2 e.1)) b).1 →
      (∀ q ∈ State.cCells (s.unitProd j.item j.unit) x.c dst x.oT, q / 8 + 4 ≤ 0x11100000000 ∧
        s.engWriteSt (State.mxEng c.val j.item) (q / 8) 4 = 0) →
      Answers (exec (.rowDrain c u) s) (fun t => (t.arr c.val).job = some { j with row := j.row + 1 } ∧
        (∀ e ∈ (State.cCells (s.unitProd j.item j.unit) x.c dst x.oT).zip
          (rowResults (s.unitProd j.item j.unit) (bits.map (s.unitProd j.item j.unit).fmtA.value) sc b),
          t.natAt (e.1 / 8) 4 = e.2.toNat) ∧
        (∀ y, (∀ q ∈ State.cCells (s.unitProd j.item j.unit) x.c dst x.oT, y < q / 8 ∨ q / 8 + 4 ≤ y) →
          t.byteAt y = s.byteAt y))) ∧
    (State.zeroRow (s.unitProd j.item j.unit) b bits sc = false → (s.unitProd j.item j.unit).isInt = true →
      int32Chain (((List.range 128).zip (rowResults (s.unitProd j.item j.unit)
          (bits.map (s.unitProd j.item j.unit).fmtA.value) sc b)).map (fun e =>
        u.foldl (fun v w => if w.1.val = e.1 then v ^^^ w.2 else v) e.2)) ≠
        (checksums (s.unitProd j.item j.unit) ((bits.zip (spread sc)).map (fun e =>
          elemVal (s.unitProd j.item j.unit).fmtA e.2 e.1)) b).1 →
      Answers (exec (.rowDrain c u) s) (fun t => t.mem = s.mem ∧
        (∃ j', (t.arr c.val).job = some j' ∧ j'.mismatched = j.mismatched ++ [j.row] ∧ j'.row = j.row + 1 ∧ j'.cur = j.cur) ∧
        (t.reg (R.CORE_SLV_MISMATCHES c.val)).toNat = min 0xFFFFFFFF ((s.reg (R.CORE_SLV_MISMATCHES c.val)).toNat + 1) ∧
        t.fld (R.CORE_ARR_STATUS c.val) F.CORE_ARR_STATUS_selvage_any = 1 ∧
        t.fld (R.CORE_ARR_STATUS c.val) F.CORE_ARR_STATUS_suspect = s.fld (R.CORE_ARR_STATUS c.val) F.CORE_ARR_STATUS_suspect ∧
        t.fld (R.CORE_SLV_LAST c.val) F.CORE_SLV_LAST_row = j.row % 4096))) ∧
  (State.rowLimit j x ≤ j.row → j.mismatched ≠ [] →
    (s.loadTile c.val j.item (s.unitProd j.item j.unit) x).1.bad = 0 → Answers (exec (.selvageRetry c) s) (fun t =>
      (t.arr c.val).job = some { j with attempt := 1, row := 0 } ∧ (t.arr c.val).useBank = ((s.arr c.val).useBank + 1) % 2 ∧
      t.fld (R.CORE_ARR_STATUS c.val) F.CORE_ARR_STATUS_retry_active = 1 ∧ t.mem = s.mem))

/-- A row operation whose descriptor breaks a rule ends with its status before reading a row (R189); the soft
maximum, LayerNorm, RMSNorm, their statistics and the gate (ops 0 to 6) write every element of the row and its
statistics record as R191 and R192 order them, convert to the output format, count the row and touch no other byte.
-/
def Obligations.RowOperations : Prop :=
  ∀ (s : State) (c : CoreId) (it : MxItem) (i : Instr) (a : Nat),
  s.headMx c.val = some it → s.oldMx it = false → xw it.desc 0 0 8 = 0x23 →
  (i, (rowDOf it.desc).op) ∈ [(Instr.softMaximum c, 0), (.layernorm c, 1), (.rmsnorm c, 2), (.softMaximumStatistics c, 3),
    (.layernormStatistics c, 4), (.rmsnormStatistics c, 5), (.gatedActivation c, 6)] →
  (s.rowCheck c.val it ≠ 0 → Answers (exec i s) (fun t => (t.core c.val).mxq = (s.core c.val).mxq.drop 1 ∧ t.mem = s.mem ∧
    (t.core c.val).mxStatus = (if (s.core c.val).mxStatus = 0 then s.rowCheck c.val it else (s.core c.val).mxStatus) ∧
    t.regs = s.regs)) ∧
  (let d := rowDOf it.desc
   let yb := sfuBytes d.fy
   let cv := (Cvt.check d.cvt (sfuFmt d.fy)).getD ⟨false, 0, 0⟩
   let o := rowOp d false (s.rowVals d.fx d.x d.cols)
     (if d.op = 6 then s.rowVals d.fg d.g d.cols
       else if (d.op = 1 ∨ d.op = 2) ∧ d.g ≠ 0 then s.rowVals d.fg d.g d.cols else List.replicate d.cols fp32One)
     (if d.op = 1 ∧ d.b ≠ 0 then s.rowVals d.fg d.b d.cols else List.replicate d.cols 0)
   s.rowCheck c.val it = 0 → d.rows = 1 → d.mask = 0 → d.rng = 0 → s.legacyOf c.val d.mode = false →
   s.rangesStatus (State.mxEng c.val it) (State.rowReads d 0 d.cols) = (0, a) →
   s.engWriteSt (State.mxEng c.val it) d.y (d.cols * yb) = 0 → (d.stat ≠ 0 → s.engWriteSt (State.mxEng c.val it) d.stat 8 = 0) →
   Answers (exec i s) (fun t => (t.core c.val).mxq = (s.core c.val).mxq.drop 1 ∧
     (t.core c.val).mxStatus = (s.core c.val).mxStatus ∧
     t.reg (R.CORE_SFU_ROWS c.val) = s.reg (R.CORE_SFU_ROWS c.val) + 1 ∧
     (d.stat ≠ 0 → d.op ≠ 6 → t.natAt d.stat 4 = o.stats.1.toNat ∧ t.natAt (d.stat + 4) 4 = o.stats.2.toNat) ∧
     (d.op < 3 ∨ d.op = 6 → ∀ k, k < d.cols → t.natAt (d.y + k * yb) yb =
       (cvtElem (sfuFmt d.fy) cv (randomOf (s.reg (R.CORE_RNG_SEED c.val)).toNat (s.reg (R.CORE_RNG_STEP c.val)).toNat cv.stream yb
         (d.y + k * yb)) (ofFp32 ((o.vals[k]?).getD 0))).1 % 2 ^ (8 * yb)) ∧
     (∀ y, (y < d.y ∨ d.y + d.cols * yb ≤ y) → (y < d.stat ∨ d.stat + 8 ≤ y) → t.byteAt y = s.byteAt y)))

/-- Pooling and regrouping (R211, R212): every output element is the pooled value, converted, or the bits of its
source element; source and destination do not overlap. A descriptor that breaks a rule writes nothing (R210). Spill
packing (R213, R214): pack writes the count word, the tokens and zeros up to a multiple of 64 bytes, and says how
many bytes; a stream beyond the capacity ends with RLE_OVERFLOW. Unpack writes a token's zeros and its literals. -/
def Obligations.PlanarAndSpill : Prop :=
  (∀ (s : State) (c : CoreId) (it : MxItem) (i : Instr),
  s.headMx c.val = some it → s.oldMx it = false → xw it.desc 0 0 8 = 0x25 →
  (i, (State.winDOf it.desc).op) ∈ [(Instr.maxPool c, 0), (.averagePool c, 1), (.spaceToDepth c, 2), (.depthToSpace c, 3)] →
  let d := State.winDOf it.desc
  let e := State.mxEng c.val it
  let dst := fun (ch y x : Nat) => 8 * (d.y + ch * d.win.cPlane + y * d.win.cRow) + x * d.fmt.bits
  (s.winCheck c.val it ≠ 0 → Answers (exec i s) (fun t => (t.core c.val).mxq = (s.core c.val).mxq.drop 1 ∧ t.mem = s.mem ∧
    (t.core c.val).mxStatus = (if (s.core c.val).mxStatus = 0 then s.winCheck c.val it else (s.core c.val).mxStatus))) ∧
  (s.winCheck c.val it = 0 →
    (∀ a n, d.ranges.1.1 ≤ a → a + n ≤ d.ranges.1.1 + d.ranges.1.2 → s.engReadSt e a n = 0) →
    (∀ a n, d.ranges.2.1 ≤ a → a + n ≤ d.ranges.2.1 + d.ranges.2.2 → s.engWriteSt e a n = 0) →
    (d.ranges.1.1 + d.ranges.1.2 ≤ d.ranges.2.1 ∨ d.ranges.2.1 + d.ranges.2.2 ≤ d.ranges.1.1) →
    (∀ ch y x ch' y' x', ch < d.outDims.1 → y < d.outDims.2.1 → x < d.outDims.2.2 → ch' < d.outDims.1 → y' < d.outDims.2.1 →
      x' < d.outDims.2.2 → (ch, y, x) ≠ (ch', y', x') →
      dst ch y x + d.fmt.bits ≤ dst ch' y' x' ∨ dst ch' y' x' + d.fmt.bits ≤ dst ch y x) →
    Answers (exec i s) (fun t => (t.core c.val).mxq = (s.core c.val).mxq.drop 1 ∧
      (t.core c.val).mxStatus = (s.core c.val).mxStatus ∧
      (∀ ch y x, ch < d.outDims.1 → y < d.outDims.2.1 → x < d.outDims.2.2 → t.cellAt d.fmt.bits (dst ch y x) =
        (if d.op < 2 then (cvtElem d.fmt ⟨false, 1, 0⟩ 0 (ofFp32 (s.poolValue d (State.poolTaps d ch y x)))).1 % 2 ^ d.fmt.bits
          else s.cellAt d.fmt.bits (State.regroup d ch y x))) ∧
      (∀ y, y < d.ranges.2.1 ∨ d.ranges.2.1 + d.ranges.2.2 ≤ y → t.byteAt y = s.byteAt y) ∧
      (t.reg (R.CORE_CWU_OUTPUTS c.val)).toNat =
        ((s.reg (R.CORE_CWU_OUTPUTS c.val)).toNat + d.outDims.1 * (d.outDims.2.1 * d.outDims.2.2)) % 2 ^ 64))) ∧
  (∀ (s : State) (c : CoreId) (it : MxItem) (z l : Nat),
  s.headMx c.val = some it → s.oldMx it = false → xw it.desc 0 0 8 = 0x25 → s.winCheck c.val it = 0 → (s.core c.val).mxStatus = 0 →
  let d := State.winDOf it.desc
  let e := State.mxEng c.val it
  let n := d.fmt.bits / 8
  let raw := (List.range d.elements).map (fun k => s.natAt (d.x + k * n) n)
  let body := bytesOf (d.elements + n.log2 * 2 ^ 48) 8 ++
    State.packTokens (fun v => (d.fmt.value v).isZero) n (d.elements + 1) raw
  (d.op = 4 → d.relu = false → s.engReadSt e d.x (d.elements * n) = 0 → s.engWriteSt e d.y (64 * cdiv body.length 64) = 0 →
    64 * cdiv body.length 64 ≤ d.capacity → Answers (exec (.pack c) s) (fun t => (t.core c.val).mxStatus = 0 ∧
      t.bytesAt d.y (64 * cdiv body.length 64) = body ++ List.replicate (64 * cdiv body.length 64 - body.length) 0 ∧
      (t.reg (R.CORE_CWU_LAST_BYTES c.val)).toNat = 64 * cdiv body.length 64)) ∧
  (d.op = 4 → d.relu = false → s.engReadSt e d.x (d.elements * n) = 0 → d.capacity < 64 * cdiv body.length 64 →
    s.engWriteSt e d.y d.capacity = 0 → Answers (exec (.pack c) s) (fun t => (t.core c.val).mxStatus = 0x1D ∧
      t.bytesAt d.y d.capacity = (body ++ List.replicate (64 * cdiv body.length 64 - body.length) 0).take d.capacity ∧
      (∀ y, y < d.y ∨ d.y + d.capacity ≤ y → t.byteAt y = s.byteAt y))) ∧
  (d.op = 5 → s.natAt (d.x + 8) 2 = z → s.natAt (d.x + 10) 2 = l → 0 < z + l → d.elements = z + l → 12 + l * n ≤ d.capacity →
    s.engReadSt e (d.x + 8) 4 = 0 → s.engReadSt e (d.x + 12) (l * n) = 0 → s.engWriteSt e d.y ((z + l) * n) = 0 →
    Answers (exec (.unpack c) s) (fun t => (t.core c.val).mxStatus = 0 ∧
      t.bytesAt d.y ((z + l) * n) = List.replicate (z * n) 0 ++ s.bytesAt (d.x + 12) (l * n) ∧
      (∀ y, y < d.y ∨ d.y + (z + l) * n ≤ y → t.byteAt y = s.byteAt y))) ∧
  (d.op = 5 → s.natAt (d.x + 8) 4 = 0 → 0 < d.elements → s.engReadSt e (d.x + 8) 4 = 0 →
    Answers (exec (.unpack c) s) (fun t => (t.core c.val).mxStatus = 0x1E ∧ t.mem = s.mem ∧ t.regs = s.regs)))

/-- Enabling a KV space succeeds only under the conditions of R220, leaves every frame free, every slot closed and
every counter 0, and otherwise sets cfg_error; clearing enable takes effect only while no sequence is open. A
translation counts as a hit or as a miss, and a miss fills the look-aside buffer (R231); a CLOSE that waited goes on
when its slot has no pin left (R229). -/
def Obligations.KvSpacesAndWalkers : Prop :=
  (∀ (s : State) (req : Requester) (n : InstId) (v : W32),
  s.reach req (R.KV_SPACE_CFG n.val) = true →
  let w := s.setReg (R.KV_SPACE_CFG n.val) (BitVec.ofNat 64 (bitsOf (setBit v.toNat 0) 1 8 * 2 + bitsOf (setBit v.toNat 0) 16 15 * 2 ^ 16 +
    s.fld (R.KV_SPACE_CFG n.val) F.KV_SPACE_CFG_cfg_error * 2 ^ 31))
  (s.kvOn n.val = false → w.kvCanEnable n.val = true → Answers (exec (.kvSpaceEnable req n v) s) (fun t =>
    t.kvOn n.val = true ∧ t.fld (R.KV_SPACE_CFG n.val) F.KV_SPACE_CFG_cfg_error = 0 ∧
    t.kvFreeCount n.val = s.kvFrames n.val ∧ t.kvEvictable n.val = 0 ∧ t.kvReserved n.val = 0 ∧
    t.fld (R.KV_OPEN_SEQS n.val) F.KV_OPEN_SEQS_count = 0 ∧ (t.kvSpace n.val).tree = [] ∧
    (∀ r ∈ [R.KV_FULL_COUNT n.val, R.KV_PREFIX_HITS n.val, R.KV_EVICTIONS n.val, R.KV_COW_COPIES n.val, R.KV_HASH_MISMATCH n.val],
      t.reg r = 0) ∧
    (∀ slot, slot < t.kvSlots n.val → t.kvOpenSlot n.val slot = false))) ∧
  (s.kvOn n.val = false → w.kvCanEnable n.val = false → Answers (exec (.kvSpaceEnable req n v) s) (fun t =>
    t.kvOn n.val = false ∧ t.fld (R.KV_SPACE_CFG n.val) F.KV_SPACE_CFG_cfg_error = 1 ∧ t.kv = s.kv ∧ t.mem = s.mem ∧
    SameRegs [R.KV_SPACE_CFG n.val] s t)) ∧
  (s.kvOn n.val = true → exec (.kvSpaceEnable req n v) s = .next s) ∧
  (s.kvOn n.val = true → s.fld (R.KV_OPEN_SEQS n.val) F.KV_OPEN_SEQS_count = 0 → Answers (exec (.kvSpaceDisable req n v) s) (fun t =>
    t.kvOn n.val = false ∧ SameRegs [R.KV_SPACE_CFG n.val] s t ∧ t.kv = s.kv)) ∧
  (s.kvOn n.val = true → s.fld (R.KV_OPEN_SEQS n.val) F.KV_OPEN_SEQS_count ≠ 0 → Answers (exec (.kvSpaceDisable req n v) s) (fun t =>
    t.kvOn n.val = true ∧ t.kv = s.kv ∧ t.mem = s.mem))) ∧
  (∀ (s : State) (die : DieId) (n : InstId) (slot b : Nat) (e : LabEntry) (it : KvItem),
  (bitOf s.msys.noDie die.val = false → (s.labOf die.val).find? (s.labHit n.val slot b) = some e →
    Answers (exec (.kvTranslation die n.val slot b) s) (fun t => (t.reg (R.KV_WLK_HITS die.val)) = s.reg (R.KV_WLK_HITS die.val) + 1 ∧
      SameRegs [R.KV_WLK_HITS die.val] s t ∧ t.mem = s.mem ∧ ∀ d, d ≠ die.val → t.labOf d = s.labOf d)) ∧
  (bitOf s.msys.noDie die.val = false → (s.labOf die.val).find? (s.labHit n.val slot b) = none → ∀ f, s.kvLookup n.val slot b = some f →
    s.kvLookup n.val slot (b + 1) = none → Answers (exec (.kvTranslation die n.val slot b) s) (fun t =>
      (t.reg (R.KV_WLK_MISSES die.val)) = s.reg (R.KV_WLK_MISSES die.val) + 1 ∧
      (t.labOf die.val).getLast? = some ⟨n.val, slot, b, f, s.kvOwner n.val, s.gen (s.kvOwner n.val)⟩ ∧ t.mem = s.mem)) ∧
  (bitOf s.msys.noDie die.val = false → (s.labOf die.val).find? (s.labHit n.val slot b) = none → s.kvLookup n.val slot b = none →
    Answers (exec (.kvTranslation die n.val slot b) s) (fun t =>
      (t.reg (R.KV_WLK_MISSES die.val)) = s.reg (R.KV_WLK_MISSES die.val) + 1 ∧ t.lab = s.lab ∧ SameRegs [R.KV_WLK_MISSES die.val] s t)) ∧
  ((s.kvSpace n.val).closing = some (slot, it) → (s.kvSpace n.val).pins.get 0 slot = 0 → s.oldOwner it.owner = false →
    State.KvCmd.space it.desc = n.val → 0 < s.fld (R.KV_OPEN_SEQS n.val) F.KV_OPEN_SEQS_count →
    Answers (exec (.kvCloseRelease n slot) s) (fun t => (t.kvSpace n.val).closing = none ∧
      t.fld (R.KV_OPEN_SEQS n.val) F.KV_OPEN_SEQS_count = s.fld (R.KV_OPEN_SEQS n.val) F.KV_OPEN_SEQS_count - 1)) ∧
  ((s.kvSpace n.val).closing = some (slot, it) → (s.kvSpace n.val).pins.get 0 slot ≠ 0 → exec (.kvCloseRelease n slot) s = .next s))

/-- The commands of a space run in the order of its queue (R222): OPEN reserves and references, or fails its
admission test with KV_FULL and changes nothing else; APPEND lengthens the slot or ends with KV_LIMIT; FORK and CLOSE
count sequences; a CLOSE of a pinned slot waits (R229); PUBLISH inserts a full block; a slot in the wrong state is
KV_SEQ. -/
def Obligations.KvCommands : Prop :=
  ∀ (s : State) (n : InstId) (it : KvItem) (rest : List KvItem) (f : Nat),
  s.kvDeliver n.val 64 = s → (s.kvSpace n.val).closing = none → (s.kvSpace n.val).queue = it :: rest →
  s.oldOwner it.owner = false → s.kvBad it = false → s.semForeign (State.instOf it.owner) (State.KvCmd.sem it.desc) = false →
  s.engWriteSt (s.kvEng it) (State.KvCmd.res it.desc) 16 = 0 → State.KvCmd.res it.desc + 16 ≤ 0x18000000000 →
  State.KvCmd.space it.desc = n.val →
  let d := it.desc
  let slot := State.KvCmd.slot d
  let need := cdiv (State.KvCmd.maxTokens d) (s.kvT n.val)
  let reports := fun (t : State) (st : Nat) => t.natAt (State.KvCmd.res d) 8 = st ∧ (t.kvSpace n.val).queue = rest
  let same := fun (t : State) => t.kvReserved n.val = s.kvReserved n.val ∧ (t.kvSpace n.val).refs = (s.kvSpace n.val).refs ∧
    (t.kvSpace n.val).tree = (s.kvSpace n.val).tree ∧ (t.kvSpace n.val).free = (s.kvSpace n.val).free ∧
    t.fld (R.KV_OPEN_SEQS n.val) F.KV_OPEN_SEQS_count = s.fld (R.KV_OPEN_SEQS n.val) F.KV_OPEN_SEQS_count
  let still := fun (t : State) => same t ∧ ∀ y, y < State.KvCmd.res d ∨ State.KvCmd.res d + 16 ≤ y → t.byteAt y = s.byteAt y
  (State.KvCmd.op d = 0 → s.kvOpenSlot n.val slot = true → Answers (exec (.kvOpen n) s) (fun t => reports t 0x22 ∧ still t)) ∧
  (State.KvCmd.op d = 1 → s.kvOpenSlot n.val slot = false → Answers (exec (.kvAppend n) s) (fun t => reports t 0x22 ∧ still t)) ∧
  (State.KvCmd.op d = 2 → s.kvOpenSlot n.val slot = true → Answers (exec (.kvFork n) s) (fun t => reports t 0x22 ∧ still t)) ∧
  (State.KvCmd.op d = 3 → s.kvOpenSlot n.val slot = false → Answers (exec (.kvPublish n) s) (fun t => reports t 0x22 ∧ still t)) ∧
  (State.KvCmd.op d = 4 → s.kvOpenSlot n.val slot = false → Answers (exec (.kvClose n) s) (fun t => reports t 0x22 ∧ still t)) ∧
  (State.KvCmd.op d = 0 → s.kvOpenSlot n.val slot = false → s.engReadSt (s.kvEng it) (State.KvCmd.tok d) (4 * State.KvCmd.count d) = 0 →
    (s.kvSpace n.val).tree = [] →
    ((s.kvSpace n.val).free.length < s.kvReserved n.val + need → Answers (exec (.kvOpen n) s) (fun t => reports t 0x21 ∧ still t ∧
      (t.reg (R.KV_FULL_COUNT n.val)).toNat = min 0xFFFFFFFF ((s.reg (R.KV_FULL_COUNT n.val)).toNat + 1))) ∧
    (s.kvReserved n.val = 0 → need = 1 → (s.kvSpace n.val).free = [f] →
      Answers (exec (.kvOpen n) s) (fun t => reports t 0 ∧ (t.kvSpace n.val).free = [] ∧ (t.kvSpace n.val).refs.get 0 f = 1 ∧
        t.kvReserved n.val = 0 ∧
        t.fld (R.KV_OPEN_SEQS n.val) F.KV_OPEN_SEQS_count = (s.fld (R.KV_OPEN_SEQS n.val) F.KV_OPEN_SEQS_count + 1) % 2 ^ 17))) ∧
  (State.KvCmd.op d = 1 → s.kvOpenSlot n.val slot = true →
    (s.kvSpace n.val).maxTokens.get 0 slot < s.kvLen n.val slot + State.KvCmd.count d →
    Answers (exec (.kvAppend n) s) (fun t => reports t 0x23 ∧ still t)) ∧
  (State.KvCmd.op d = 1 → s.kvOpenSlot n.val slot = true →
    s.kvLen n.val slot + State.KvCmd.count d ≤ (s.kvSpace n.val).maxTokens.get 0 slot →
    s.kvLen n.val slot + State.KvCmd.count d ≤ s.kvMaxBlocks n.val * s.kvT n.val →
    s.engReadSt (s.kvEng it) (State.KvCmd.tok d) (4 * State.KvCmd.count d) = 0 →
    cdiv (s.kvLen n.val slot + State.KvCmd.count d) (s.kvT n.val) = cdiv (s.kvLen n.val slot) (s.kvT n.val) →
    (∀ g, s.kvFrame n.val slot (s.kvLen n.val slot / s.kvT n.val) = some g → (s.kvSpace n.val).refs.get 0 g ≤ 1) →
    Answers (exec (.kvAppend n) s) (fun t => reports t 0 ∧ t.kvReserved n.val = s.kvReserved n.val ∧
      (t.kvSpace n.val).refs = (s.kvSpace n.val).refs)) ∧
  (State.KvCmd.op d = 2 → s.kvOpenSlot n.val (State.KvCmd.parent d) = true → s.kvOpenSlot n.val slot = false →
    s.kvReserved n.val + (need - s.kvLen n.val (State.KvCmd.parent d) / s.kvT n.val) ≤ (s.kvSpace n.val).free.length →
    (s.kvSpace n.val).free.length < 2 ^ 24 → Answers (exec (.kvFork n) s) (fun t => reports t 0 ∧
      t.kvReserved n.val = s.kvReserved n.val + (need - s.kvLen n.val (State.KvCmd.parent d) / s.kvT n.val) ∧
      t.fld (R.KV_OPEN_SEQS n.val) F.KV_OPEN_SEQS_count = (s.fld (R.KV_OPEN_SEQS n.val) F.KV_OPEN_SEQS_count + 1) % 2 ^ 17)) ∧
  (State.KvCmd.op d = 3 → s.kvOpenSlot n.val slot = true → min (State.KvCmd.count d) (s.kvLen n.val slot) / s.kvT n.val = 1 →
    s.kvFrame n.val slot 0 = some f → (s.kvSpace n.val).tree = [] → Answers (exec (.kvPublish n) s) (fun t => reports t 0 ∧
      (∀ y, y < State.KvCmd.res d ∨ State.KvCmd.res d + 16 ≤ y → t.byteAt y = s.byteAt y) ∧
      (t.kvSpace n.val).tree = [⟨blockHash (s.kvKey n.val) 0 (s.frameTokens n.val f), f, none⟩])) ∧
  (State.KvCmd.op d = 4 → s.kvOpenSlot n.val slot = true → (s.kvSpace n.val).pins.get 0 slot = 0 →
    0 < s.fld (R.KV_OPEN_SEQS n.val) F.KV_OPEN_SEQS_count → Answers (exec (.kvClose n) s) (fun t => reports t 0 ∧
      t.fld (R.KV_OPEN_SEQS n.val) F.KV_OPEN_SEQS_count = s.fld (R.KV_OPEN_SEQS n.val) F.KV_OPEN_SEQS_count - 1)) ∧
  (State.KvCmd.op d = 4 → s.kvOpenSlot n.val slot = true → (s.kvSpace n.val).pins.get 0 slot ≠ 0 → Answers (exec (.kvClose n) s) (fun t =>
      (t.kvSpace n.val).closing = some (slot, it) ∧ (t.kvSpace n.val).queue = rest ∧ t.mem = s.mem ∧ t.hostMem = s.hostMem))

/-- An attention descriptor that breaks a rule ends before any pass; else its first entry takes the slot's length and
pins the slot, a closed slot is KV_SEQ, and the last entry drops its pin when it has run and ends the descriptor with
its status (R228, R229). The KV store (R230): a descriptor that breaks a rule writes nothing; one row's K and V are
converted under cvt into the slot's pages. -/
def Obligations.AttentionAndKvStore : Prop :=
  (∀ (s : State) (c : CoreId) (it : MxItem) (j : AttnJob) (st a slot len : Nat),
  let d := attnOf it.desc
  let e := s.attnEntry d 0
  (s.headMx c.val = some it → s.oldMx it = false → xw it.desc 0 0 8 = 0x26 →
    (s.attnCheck c.val it = (st, a) → st ≠ 0 → Answers (exec (.attention c) s) (fun t =>
      (t.core c.val).mxq = (s.core c.val).mxq.drop 1 ∧ (t.arr c.val).attn = none ∧ t.mem = s.mem ∧ t.kv = s.kv ∧
      (t.core c.val).mxStatus = (if (s.core c.val).mxStatus = 0 then st else (s.core c.val).mxStatus))) ∧
    (s.attnCheck c.val it = (0, a) → d.bob = 0xFFFF → s.kvOpenSlot d.space e.slot = true → e.slot < s.kvSlots d.space →
      Answers (exec (.attention c) s) (fun t => (t.core c.val).mxq = (s.core c.val).mxq.drop 1 ∧
        (t.arr c.val).attn = some ⟨it, 0, some (e.slot, s.kvLen d.space e.slot)⟩ ∧
        (t.kvSpace d.space).pins.get 0 e.slot = (s.kvSpace d.space).pins.get 0 e.slot + 1 ∧
        t.fld (R.CORE_ARR_STATUS c.val) F.CORE_ARR_STATUS_busy = 1 ∧ t.mem = s.mem)) ∧
    (s.attnCheck c.val it = (0, a) → d.bob = 0xFFFF → s.kvOpenSlot d.space e.slot = false → Answers (exec (.attention c) s) (fun t =>
      (t.arr c.val).attn = none ∧ t.kv = s.kv ∧ t.mem = s.mem ∧
      (t.core c.val).mxStatus = (if (s.core c.val).mxStatus = 0 then 0x22 else (s.core c.val).mxStatus)))) ∧
  ((s.arr c.val).attn = some j → j.item = it → j.pinned = some (slot, len) → s.oldMx it = false → d.bob = 0xFFFF →
    d.entries ≤ j.entry + 1 →
    let r := s.runEntry c.val it d (s.attnEntry d j.entry) len
    Answers (exec (.attention c) s) (fun t => (t.arr c.val).attn = none ∧ t.mem = r.2.2.mem ∧
      (t.kvSpace d.space).pins.get 0 slot = (r.2.2.kvSpace d.space).pins.get 0 slot - 1 ∧
      t.fld (R.CORE_ARR_STATUS c.val) F.CORE_ARR_STATUS_busy = 0 ∧
      (t.core c.val).mxStatus = (if (r.2.2.core c.val).mxStatus = 0 then r.1 else (r.2.2.core c.val).mxStatus)))) ∧
  (∀ (s : State) (c : CoreId) (it : MxItem) (a b : Nat),
  s.headMx c.val = some it → s.oldMx it = false → xw it.desc 0 0 8 = 0x27 →
  let d := it.desc
  let sp := xw d 0 36 3
  let f := fmtOr (xw d 0 8 4)
  let hd := s.kvHd sp
  let k := s.kvRowAt sp (xw d 4 32 8) (xw d 4 40 7) (xw d 3 0 16) 0 (xw d 3 32 32)
  let v := s.kvRowAt sp (xw d 4 32 8) (xw d 4 40 7) (xw d 3 0 16) 1 (xw d 3 32 32)
  let row := fun (src : Nat) => (unpackBits f.bits hd (s.bytesAt src (hd * fmtBytes f))).flatMap (fun x =>
    bytesOf (cvtElem (s.kvFmt sp) ⟨false, 0, 0⟩ 0 (f.value x)).1 (fmtBytes (s.kvFmt sp)))
  (s.storeCheck c.val it ≠ 0 → Answers (exec (.kvStore c) s) (fun t => t.mem = s.mem ∧ t.regs = s.regs ∧
    (t.core c.val).mxq = (s.core c.val).mxq.drop 1 ∧
    (t.core c.val).mxStatus = (if (s.core c.val).mxStatus = 0 then s.storeCheck c.val it else (s.core c.val).mxStatus))) ∧
  (s.storeCheck c.val it = 0 → xw d 4 0 32 = 1 → xw d 0 24 8 = 0 → bitOf d.toNat 34 = false →
    s.rangesStatus (State.mxEng c.val it) [(xw d 1 0 48, hd * fmtBytes f)] = (0, a) →
    s.rangesStatus (State.mxEng c.val it) [(xw d 2 0 48, hd * fmtBytes f)] = (0, b) →
    s.engWriteSt (State.mxEng c.val it) k (s.kvRow sp) = 0 → s.engWriteSt (State.mxEng c.val it) v (s.kvRow sp) = 0 →
    v + s.kvRow sp ≤ 0x11000000000 → Answers (exec (.kvStore c) s) (fun t => (t.core c.val).mxStatus = (s.core c.val).mxStatus ∧
      t.bytesAt k (s.kvRow sp) = row (xw d 1 0 48) ∧ t.bytesAt v (s.kvRow sp) = row (xw d 2 0 48) ∧
      (∀ y, (y < k ∨ k + s.kvRow sp ≤ y) → (y < v ∨ v + s.kvRow sp ≤ y) → t.byteAt y = s.byteAt y))))

/-- A request at its home (R240 to R243, R254, R407): a hit is served and counted; a miss is counted and sent to the
stack; an uncached one is sent without a count; the deep tier's goes to its controller; a scratchpad write is done; a
refused one has no effect but its count. Cache maintenance (R245, R256): a flush writes a dirty line back and leaves
it clean, an invalidate discards it unwritten, both together write it back and discard it. -/
def Obligations.HomeAccess : Prop :=
  (∀ (s : State) (r : MemReq) (u : Nat) (bs : List Byte),
  s.stale (State.reqInst r) r.gen = false → r.src = .agent u →
  let who : State.Who := match r.inst with | some i => .inst i.val | none => .pf
  let l := r.addr / 256
  let q := State.quadOf l
  (r.wdata = none → 0 < r.len → s.checkRange who r.addr r.len = 0 → r.addr % 256 + r.len ≤ 256 → r.addr < 0x6000000000 →
    (s.uncached l = false → (s.findLine l).isSome = true → s.readStatus r.addr r.len = 0 →
      Answers (exec (.overcastAccess r) s) (fun t => t.msys.reply = some ⟨.agent u, 0, s.bytesAt r.addr r.len⟩ ∧
        t.reg (R.MEM_OVC_HITS q) = s.reg (R.MEM_OVC_HITS q) + 1 ∧ SameRegs [R.MEM_OVC_HITS q] s t ∧ SameBytes s t)) ∧
    (s.uncached l = false → s.findLine l = none → (s.msys.victims.get [] q).find? (fun v => v.line == l) = none →
      s.msys.misses.any (fun m => m.fill && m.line == l) = false → Answers (exec (.overcastAccess r) s) (fun t =>
        t.msys.misses = s.msys.misses ++ [⟨l, true, [r]⟩] ∧ t.reg (R.MEM_OVC_MISSES q) = s.reg (R.MEM_OVC_MISSES q) + 1 ∧
        SameRegs [R.MEM_OVC_MISSES q] s t ∧ SameBytes s t)) ∧
    (s.uncached l = true → Answers (exec (.overcastAccess r) s) (fun t =>
        t.msys.misses = s.msys.misses ++ [⟨l, false, [r]⟩] ∧ t.regs = s.regs ∧ SameBytes s t))) ∧
  (r.wdata = none → 0 < r.len → s.checkRange who r.addr r.len = 0 → (∃ p, s.region r.addr = .deep p) →
    Answers (exec (.overcastAccess r) s) (fun t => t.msys.deep = s.msys.deep ++ [⟨s.msys.nextDeep, r⟩] ∧ t.regs = s.regs ∧ SameBytes s t)) ∧
  (r.wdata = some bs → bs ≠ [] → s.checkRange who r.addr bs.length = 0 → (∃ k, s.region r.addr = .ovc k ∨ s.region r.addr = .pocket k) →
    r.addr + bs.length ≤ 0x18000000000 → Answers (exec (.overcastAccess r) s) (fun t => t.bytesAt r.addr bs.length = bs ∧
      (∀ y, y < r.addr ∨ r.addr + bs.length ≤ y → t.byteAt y = s.byteAt y) ∧ t.msys.reply = some ⟨.agent u, 0, []⟩)) ∧
  (r.wdata = some bs → bs ≠ [] → s.checkRange who r.addr bs.length = 0x64 → Answers (exec (.overcastAccess r) s) (fun t =>
      SameBytes s t ∧ t.msys.reply = some ⟨.agent u, 0x64, []⟩ ∧
      (t.reg R.SCH_FIREWALL_DENIED).toNat = min 0xFFFFFFFF ((s.reg R.SCH_FIREWALL_DENIED).toNat + 1)))) ∧
  (∀ (s : State) (u : DmaUnit) (k l : Nat) (it : DmaItem) (v : Line) (i : Instr),
  s.activeItem u k = some it → it.opcode = 0x43 → s.oldOwner it.owner = false →
  (i, dw it.desc 0 36 2) ∈ [(Instr.flush u k, 0), (.invalidate u k, 1), (.flushAndInvalidate u k, 2)] →
  s.maintCheck u it (dw it.desc 0 36 2) = 0 → s.findLine l = some v → s.maintLines it l v.inst = true →
  Answers (exec i s) (fun t =>
    (v.poisoned = false → dw it.desc 0 36 2 = 0 → t.findLine l = some { v with dirty := false }) ∧
    (dw it.desc 0 36 2 ≠ 0 → t.findLine l = none) ∧
    (v.poisoned = false → v.dirty = true → dw it.desc 0 36 2 ≠ 1 →
      ∀ j, j < 256 → Tbl.get t.mem 0 (256 * l + j) = v.data.extractLsb' (8 * j) 8) ∧
    (dw it.desc 0 36 2 = 1 → t.mem = s.mem) ∧
    ((t.dmaList u)[k]?).map DmaItem.done = some (some (if dw it.desc 0 36 2 ≠ 1 ∧
      s.msys.lines.any (fun e => s.maintLines it e.1 e.2.inst && e.2.poisoned) = true then 0x24 else 0))))

/-- What a lower tier answers (R241, R243, R255 to R257): a fill installs the stack's data clean; a failed or late
access ends its request with LOWER_TIER_FAIL, counts, marks the instance's vote term unless its core is out of the
vote, and stores nothing; a written-back victim is in its stack, and after a third failure it is back in the cache,
dirty and poisoned. -/
def Obligations.LowerTiers : Prop :=
  ∀ (s : State) (l : Nat) (m : Miss) (r : MemReq) (q : DieId) (v : Victim) (u : Nat) (a : LowerRef) (k : Nat) (bs : List Byte) (i : InstId),
  (s.msys.misses = [m] → m.line = l → m.reqs = [r] → 256 * l < 0x6000000000 →
    (m.fill = true → s.msys.lines = [] → s.msys.victims = [] → r.wdata = none → Answers (exec (.cacheMissFill l .good) s) (fun t =>
      t.msys.misses = [] ∧ (∃ w, t.findLine l = some w ∧ w.data = s.backing l ∧ w.dirty = false ∧ w.poisoned = false) ∧
      ∀ y, t.byteAt y = s.byteAt y)) ∧
    (r.inst = some i → r.voteExcl = false → Answers (exec (.cacheMissFill l .uncorrectable) s) (fun t => t.msys.misses = [] ∧
      (t.reg (R.MEM_HBM_UE (State.stackOf l))).toNat = min 0xFFFFFFFF ((s.reg (R.MEM_HBM_UE (State.stackOf l))).toNat + 1) ∧
      (t.reg R.MEM_LTF_COUNT).toNat = min 0xFFFFFFFF ((s.reg R.MEM_LTF_COUNT).toNat + 1) ∧
      t.regBit R.MEM_LTF_STEP i.val = true ∧ SameBytes s t ∧ t.msys.lines = s.msys.lines)) ∧
    (Answers (exec (.lateAccessTimeout (.miss l)) s) (fun t => t.msys.misses = [] ∧ t.msys.late = s.msys.late ++ [.miss l] ∧
      (t.reg (R.MEM_HBM_LATE (State.stackOf l))).toNat = min 0xFFFFFFFF ((s.reg (R.MEM_HBM_LATE (State.stackOf l))).toNat + 1) ∧
      (t.reg R.MEM_LTF_COUNT).toNat = min 0xFFFFFFFF ((s.reg R.MEM_LTF_COUNT).toNat + 1) ∧
      (r.voteExcl = true → t.reg R.MEM_LTF_STEP = s.reg R.MEM_LTF_STEP) ∧ SameBytes s t))) ∧
  (s.msys.late = [a] → Answers (exec (.lateDataDiscard a) s) (fun t => t.msys.late = [] ∧
    (t.reg R.MEM_LATE_DISCARDS).toNat = min 0xFFFFFFFF ((s.reg R.MEM_LATE_DISCARDS).toNat + 1) ∧
    SameRegs [R.MEM_LATE_DISCARDS] s t ∧ SameBytes s t)) ∧
  (s.msys.deep = [⟨k, r⟩] → r.src = .agent u →
    (r.wdata = some bs → r.addr + bs.length ≤ 0x10000000000 → Answers (exec (.deepTierAccess k .good) s) (fun t => t.msys.deep = [] ∧
      t.bytesAt r.addr bs.length = bs ∧ (∀ y, y < r.addr ∨ r.addr + bs.length ≤ y → t.byteAt y = s.byteAt y))) ∧
    (0x8000000000 ≤ r.addr → r.addr < 0x10000000000 → Answers (exec (.deepTierAccess k .uncorrectable) s) (fun t => t.msys.deep = [] ∧
      (t.reg (R.MEM_DT_UE (State.deepPkg r.addr))).toNat = min 0xFFFFFFFF ((s.reg (R.MEM_DT_UE (State.deepPkg r.addr))).toNat + 1) ∧
      t.fld (R.MEM_DT_ERR_ADDR (State.deepPkg r.addr)) F.MEM_DT_ERR_ADDR_ue = 1 ∧ SameBytes s t))) ∧
  (s.msys.victims.get [] q.val = [v] → v.line = l → s.msys.waiting = [] →
    (Answers (exec (.victimWriteback q l true) s) (fun t => t.msys.victims.get [] q.val = [] ∧
      t.reg (R.MEM_OVC_WRITEBACKS q.val) = s.reg (R.MEM_OVC_WRITEBACKS q.val) + 1 ∧
      (∀ j, j < 256 → Tbl.get t.mem 0 (256 * l + j) = v.home.data.extractLsb' (8 * j) 8) ∧
      (∀ y, y < 256 * l ∨ 256 * l + 256 ≤ y → Tbl.get t.mem 0 y = Tbl.get s.mem 0 y))) ∧
    (v.fails < 2 → Answers (exec (.victimWriteback q l false) s) (fun t =>
      t.msys.victims.get [] q.val = [{ v with fails := v.fails + 1 }] ∧ t.mem = s.mem)) ∧
    (2 ≤ v.fails → Answers (exec (.victimWriteback q l false) s) (fun t => t.msys.victims.get [] q.val = [] ∧ t.mem = s.mem ∧
      ∃ w, t.findLine l = some w ∧ w.data = v.home.data ∧ w.dirty = v.home.dirty ∧ w.poisoned = true)))

/-- A transfer acts on the one row it moves (R153, R250 to R252): a copy stores its bytes, a conversion the converted
ones, a reduction the combined element, and no other byte changes; a descriptor that breaks a rule moves nothing. An
item's completion (R151, R153): it leaves its queue once no earlier item of its tag is left, and the tag keeps the
first status other than OK; an undefined opcode is BAD_OPCODE. -/
def Obligations.Transfers : Prop :=
  (∀ (s : State) (c : CoreId) (k : Nat) (it : DmaItem) (i : Instr),
  s.activeItem (.core c) k = some it → it.stage = 0 → s.oldOwner it.owner = false →
  (i, it.opcode) ∈ [(Instr.copy (.core c) k, 0x40), (.copyWithConversion (.core c) k, 0x41), (.memorySideReduction (.core c) k, 0x42)] →
  let p := s.dmaPlan it.desc
  let e := State.dmaEng (.core c) it
  let row := (State.cvtRow p (s.reg (R.CORE_RNG_SEED c.val)).toNat (s.reg (R.CORE_RNG_STEP c.val)).toNat 0 (s.bytesAt p.src p.rb)).1
  (s.dmaCheck it ≠ 0 → Answers (exec i s) (fun t => t.mem = s.mem ∧ t.msys = s.msys ∧
    ((t.dmaList (.core c))[k]?).map DmaItem.done = some (some (s.dmaCheck it)))) ∧
  (s.dmaCheck it = 0 → p.srcDev = none → p.dstDev = none → p.sw = 0 → p.rows = 1 → s.engReadSt e p.src p.rb = 0 →
    p.dst + 8 * p.rb ≤ 0x18000000000 →
    (it.opcode = 0x40 → s.engWriteSt e p.dst p.rb = 0 → Answers (exec i s) (fun t => t.bytesAt p.dst p.rb = s.bytesAt p.src p.rb ∧
      (∀ y, y < p.dst ∨ p.dst + p.rb ≤ y → t.byteAt y = s.byteAt y) ∧ ((t.dmaList (.core c))[k]?).map DmaItem.done = some (some 0))) ∧
    (it.opcode = 0x41 → row.length ≤ 8 * p.rb → s.engWriteSt e p.dst row.length = 0 → Answers (exec i s) (fun t =>
      t.bytesAt p.dst row.length = row ∧ (∀ y, y < p.dst ∨ p.dst + row.length ≤ y → t.byteAt y = s.byteAt y) ∧
      ((t.dmaList (.core c))[k]?).map DmaItem.done = some (some 0))) ∧
    (it.opcode = 0x42 → p.fd = 4 → p.red = 0 → p.rb = 4 → s.engWriteSt e p.dst 4 = 0 → s.readStatus p.dst 4 = 0 →
      Answers (exec i s) (fun t => t.natAt p.dst 4 = (s.natAt p.dst 4 + s.natAt p.src 4) % 2 ^ 32 ∧
        (∀ y, y < p.dst ∨ p.dst + 4 ≤ y → t.byteAt y = s.byteAt y) ∧ ((t.dmaList (.core c))[k]?).map DmaItem.done = some (some 0))))) ∧
  (∀ (s : State) (c : CoreId) (k tag st : Nat) (it : DmaItem),
  (s.dmaList (.core c))[k]? = some it → it.origin = .tag tag →
  ((s.dmaList (.core c)).take k).any (fun x => x.tag == it.tag && x.origin == it.origin) = false →
  (it.done = some st ∧ ((0x40 ≤ it.opcode ∧ it.opcode ≤ 0x43) ∨ (0x48 ≤ it.opcode ∧ it.opcode ≤ 0x4A)) ∨
    st = 0x01 ∧ it.done = none ∧ s.activeItem (.core c) k = some it ∧ it.stage = 0 ∧ it.opcode < 0x40) →
  Answers (exec (.dmaItemCompletion (.core c) k) s) (fun t =>
    t.dmaList (.core c) = (s.dmaList (.core c)).filter (fun x => x.id != it.id) ∧
    (t.core c.val).tagStatus.get 0 tag =
      (if st ≠ 0 ∧ (s.core c.val).tagStatus.get 0 tag = 0 then st else (s.core c.val).tagStatus.get 0 tag) ∧
    t.fld (R.CORE_DMA_STATUS c.val) F.CORE_DMA_STATUS_last_status = st % 256 ∧
    t.reg (R.CORE_DMA_ITEMS c.val) = s.reg (R.CORE_DMA_ITEMS c.val) + 1 ∧
    SameRegs [R.CORE_DMA_STATUS c.val, R.CORE_DMA_ITEMS c.val] s t ∧ t.mem = s.mem))

/-- A slot that only writes a register of its core (R129, R132, R145, R149): the register takes the value of the
sources as they stood before the bundle, the next bundle follows, and nothing else changes. Which opcodes add and
exclusive-or, how an immediate extends, and what the unnamed opcodes compute are open: the row names the operation
(log entries 23 and 24). -/
def Obligations.RegisterSlots : Prop :=
  ∀ (s : State) (i : SlotCmd),
  let c := i.core
  let k := s.core c.val
  let w := i.word
  let d := w.d.val
  let x := k.sreg w.x.val
  let y := k.sreg w.y.val
  let Does := fun (e : Instr) (k' : Core) => Answers (exec e s) (fun t => s.IssuedOnly t c k' (s.pcOf c.val + 64))
  k.loops = [] → State.guarded k w = true →
  (s.Presents i 0 0x12 → fieldsOk w fS fS fS false (some 0) = true → Does (.scalarArithmetic .mul i) (k.setS d (x * y))) ∧
  (∀ op, s.Presents i 0 op → 0x10 ≤ op → op ≤ 0x1A → op ≠ 0x12 → fieldsOk w fS fS fS false (some 0) = true →
    Does (.scalarArithmetic .add i) (k.setS d (x + y)) ∧ Does (.scalarArithmetic .xor i) (k.setS d (x ^^^ y))) ∧
  (∀ op, s.Presents i 0 op → 0x20 ≤ op → op ≤ 0x2A → fieldsOk w fS fS .unused false none = true →
    ∃ m : BitVec 64, (m = BitVec.ofInt 64 w.imm.toInt ∨ m = BitVec.ofNat 64 w.imm.toNat) ∧
      Does (.scalarArithmetic .add i) (k.setS d (x + m)) ∧ Does (.scalarArithmetic .xor i) (k.setS d (x ^^^ m)) ∧
      Does (.scalarArithmetic .mul i) (k.setS d (x * m))) ∧
  (∀ op, s.Presents i 0 op → (0x10 ≤ op ∧ op ≤ 0x1A ∧ op ≠ 0x12 ∨ 0x20 ≤ op ∧ op ≤ 0x2A ∨ op = 0x30) →
    w.bnd.val = 0 → ∃ v, Does (.scalarArithmetic .other i) (k.setS d v)) ∧
  (∀ n, (n = 1 ∨ n = 2) →
    (s.Presents i n 0x03 → fieldsOk w fA fA .unused false (some 0) = true →
      Does (.addressArithmetic .amov i) (k.setA d (k.areg w.x.val))) ∧
    (s.Presents i n 0x11 → fieldsOk w fS fA .unused false (some 0) = true →
      Does (.addressArithmetic .toScalar i) (k.setS d ((k.areg w.x.val).zeroExtend 64))) ∧
    (∀ op, s.Presents i n op → (op = 1 ∨ op = 2) → fieldsOk w fA fA fS false none = true →
      ∃ v, Does (.addressArithmetic .other i) (k.setA d v)) ∧
    (s.Presents i n 0x10 → fieldsOk w fB fS fS false (some 3) = true →
      Does (.bset i) (k.setB d ⟨x.truncate 48, y.truncate 48, w.imm.truncate 2⟩))) ∧
  (s.Presents i 6 0x18 → fieldsOk w fV fS .unused false (some 0) = true → ∃ v : BitVec 8192,
    (∀ l, l < 256 → bitsOf v.toNat (32 * l) 32 = x.toNat % 2 ^ 32) ∧ Does (.movSv i) (k.setV d v)) ∧
  (s.Presents i 6 0x19 → fieldsOk w fS fV .unused false (some 255) = true →
    Does (.movVs i) (k.setS d (BitVec.ofNat 64 (bitsOf (k.vreg w.x.val).toNat (32 * w.imm.toNat) 32)))) ∧
  (s.Presents i 6 0x1A → fieldsOk w fV fV .unused false (some 0) = true → Does (.movV i) (k.setV d (k.vreg w.x.val))) ∧
  (s.Presents i 7 0x18 → fieldsOk w fP fS fS false (some 5) = true → ∃ b : Bool, Does (.pcmp i) (k.setP d b) ∧
    (w.imm.toNat = 0 → (b = true ↔ x = y)) ∧ (w.imm.toNat = 1 → (b = true ↔ x ≠ y)) ∧
    (w.imm.toNat = 2 → (b = true ↔ x.toNat < y.toNat)) ∧ (w.imm.toNat = 3 → (b = true ↔ y.toNat ≤ x.toNat)) ∧
    (w.imm.toNat = 4 → (b = true ↔ x.toInt < y.toInt)) ∧ (w.imm.toNat = 5 → (b = true ↔ y.toInt ≤ x.toInt))) ∧
  (s.Presents i 7 0x19 → fieldsOk w fP fP fP false (some 3) = true → ∃ b : Bool, Does (.plog i) (k.setP d b) ∧
    (w.imm.toNat = 0 → b = (k.preg w.x.val && k.preg w.y.val)) ∧ (w.imm.toNat = 1 → b = (k.preg w.x.val || k.preg w.y.val)) ∧
    (w.imm.toNat = 2 → b = (k.preg w.x.val != k.preg w.y.val)) ∧ (w.imm.toNat = 3 → b = (k.preg w.x.val && !k.preg w.y.val)))

/-- Branches, calls and loops (R135 to R138): where the next bundle stands, which loops stay open, and how an end
bundle counts its loop down. -/
def Obligations.Sequencing : Prop :=
  ∀ (s : State) (i : SlotCmd),
  let c := i.core
  let k := s.core c.val
  let w := i.word
  let pc := s.pcOf c.val
  let there := pc + BitVec.ofInt 48 (64 * w.imm.toInt)
  let inside := fun (a : Addr) (l : OpenLoop) => decide (l.body.toNat ≤ a.toNat ∧ a.toNat ≤ l.last.toNat)
  let Goes := fun (e : Instr) (k' : Core) (next : Addr) => Answers (exec e s) (fun t => s.IssuedOnly t c k' next)
  State.guarded k w = true →
  (s.Presents i 0 1 → fieldsOk w .unused .unused .unused false none = true →
    Goes (.br i) { k with loops := k.loops.filter (inside there) } there) ∧
  (∀ dest : Addr, s.Presents i 0 2 → fieldsOk w .unused fS .unused false (some 0) = true → dest.toNat % 64 = 0 →
    k.sreg w.x.val = dest.zeroExtend 64 → Goes (.brr i) { k with loops := k.loops.filter (inside dest) } dest) ∧
  (s.Presents i 0 3 → fieldsOk w .unused .unused .unused false none = true →
    Goes (.call i) (k.setS 63 ((pc + 64).zeroExtend 64)) there) ∧
  (∀ dest : Addr, s.Presents i 0 4 → fieldsOk w .unused .unused .unused false (some 0) = true → dest.toNat % 64 = 0 →
    k.sreg 63 = dest.zeroExtend 64 → Goes (.ret i) k dest) ∧
  (s.Presents i 0 8 → fieldsOk w (.file 4) fS .unused false (some 4096) = true → 1 ≤ w.imm.toNat →
    (∀ l ∈ k.loops, l.lc ≠ w.d.val ∧ pc.toNat + 64 * w.imm.toNat ≤ l.last.toNat) →
    let n : W32 := (k.sreg w.x.val).truncate 32
    (n ≠ 0 → Goes (.loop i) { k.setLc w.d.val n with
      loops := ⟨w.d.val, pc + 64, pc + BitVec.ofNat 48 (64 * w.imm.toNat)⟩ :: k.loops } (pc + 64)) ∧
    (n = 0 → Goes (.loop i) (k.setLc w.d.val 0) (pc + BitVec.ofNat 48 (64 * (w.imm.toNat + 1))))) ∧
  (s.Presents i 0 8 → fieldsOk w (.file 4) fS .unused false (some 4096) = true →
    (∃ l ∈ k.loops, l.lc = w.d.val ∨ l.last.toNat < pc.toNat + 64 * w.imm.toNat) →
    Answers (exec (.loop i) s) (fun t => s.Faulted t c 0x18 0 false 0 0)) ∧
  (∀ l m : OpenLoop, s.Presents i 6 0x1A → fieldsOk w fV fV .unused false (some 0) = true →
    let k' := k.setV w.d.val (k.vreg w.x.val)
    l.lc ≠ m.lc → l.last = pc → m.last = pc → k.loops = [l, m] →
    (k.lcreg l.lc ≠ 1 → Goes (.movV i) (k'.setLc l.lc (k.lcreg l.lc - 1)) l.body) ∧
    (k.lcreg l.lc = 1 → k.lcreg m.lc ≠ 1 →
      Goes (.movV i) { (k'.setLc l.lc 0).setLc m.lc (k.lcreg m.lc - 1) with loops := [m] } m.body) ∧
    (k.lcreg l.lc = 1 → k.lcreg m.lc = 1 → Goes (.movV i) { (k'.setLc l.lc 0).setLc m.lc 0 with loops := [] } (pc + 64)))

/-- Scalar and vector accesses of slots 1, 2 and 6 (R140, R147, R237): what a load from the core's own Pocket writes,
what a store writes, and how data from another tier lands. The extension of a short load is open (log entry 25). -/
def Obligations.MemorySlots : Prop :=
  ∀ (s : State) (i : SlotCmd),
  let c := i.core
  let k := s.core c.val
  let w := i.word
  let d := w.d.val
  let b := k.breg w.bnd.val
  let who := State.whoOf (s.issueOwner c.val)
  let a := State.effAddr k w
  let may := fun (bit n : Nat) (segs : List Nat) => bitOf b.perm.toNat bit = true ∧
    ∀ z ∈ segs, b.base.toNat ≤ z ∧ z + n ≤ b.limit.toNat ∧ s.checkRange who z n = 0 ∧ (bit = 0 → s.readStatus z n = 0)
  let own := fun (segs : List Nat) => ∀ z ∈ segs, s.region z = .pocket c.val
  let next := s.pcOf c.val + 64
  let Stores := fun (e : Instr) (segs : List Nat) (n v : Nat) => Answers (exec e s) (fun t => s.Issued t c k next ∧
    (∀ z ∈ segs, z < 0x18000000000) ∧
    (segs.Pairwise (fun p q => p + n ≤ q ∨ q + n ≤ p) → ∀ j z, segs[j]? = some z →
      t.natAt z n = v / 256 ^ (j * n) % 256 ^ n) ∧
    ∀ y, (∀ z ∈ segs, y < z ∨ z + n ≤ y) → t.byteAt y = s.byteAt y)
  k.loops = [] → State.guarded k w = true →
  (∀ n e, (n = 1 ∨ n = 2) → s.Presents i n (8 + e) → e < 4 → fieldsOk w fS fA .unused true none = true → a % 2 ^ e = 0 →
    may 0 (2 ^ e) [a] →
    (own [a] → Answers (exec (.scalarLoad i) s) (fun t => ∃ v : BitVec 64, v.toNat % 256 ^ 2 ^ e = s.natAt a (2 ^ e) ∧
      s.IssuedOnly t c (k.setS d v) next)) ∧
    (d ≠ 0 → (∃ q, s.region a = .ovc q ∨ s.region a = .hbm q) → Answers (exec (.scalarLoad i) s) (fun t => s.IssuedOnly t c
      { k with pend := [⟨.s d, .load [a] (2 ^ e) (s.bytesAt a (2 ^ e)) false, s.pcOf c.val, n, w.bnd.val, true⟩] } next))) ∧
  (∀ n e, (n = 1 ∨ n = 2) → s.Presents i n (0xC + e) → e < 4 → fieldsOk w .unused fA fS true none = true → a % 2 ^ e = 0 →
    may 1 (2 ^ e) [a] → own [a] → Stores (.scalarStore i) [a] (2 ^ e) (k.sreg w.y.val).toNat) ∧
  (s.Presents i 6 0x10 → fieldsOk w fV fA .unused true none = true → a % 64 = 0 → may 0 1024 [a] → own [a] →
    Answers (exec (.vld i) s) (fun t => s.IssuedOnly t c (k.setV d (BitVec.ofNat 8192 (s.natAt a 1024))) next)) ∧
  (s.Presents i 6 0x11 → fieldsOk w .unused fA fV true none = true → a % 64 = 0 → may 1 1024 [a] → own [a] →
    Stores (.vst i) [a] 1024 (k.vreg w.y.val).toNat) ∧
  (let segs := State.segments k w
   fieldsOk w fV fA fS true none = true → (∀ z ∈ segs, z % 64 = 0) → own segs →
    (s.Presents i 6 0x12 → may 0 64 segs → Answers (exec (.vldS i) s) (fun t => ∃ v : BitVec 8192,
      (∀ j z, segs[j]? = some z → bitsOf v.toNat (512 * j) 512 = s.natAt z 64) ∧ s.IssuedOnly t c (k.setV d v) next)) ∧
    (s.Presents i 6 0x13 → may 1 64 segs → Stores (.vstS i) segs 64 (k.vreg d).toNat)) ∧
  (∀ (segs : List Nat) (n : Nat) (data : List Byte) (pc : Addr) (sl bn : Nat),
    (k.pend = [⟨.v d, .load segs n data false, pc, sl, bn, true⟩] → Answers (exec (.memoryResponse c 0) s) (fun t =>
      t.core c.val = { k with pend := [] }.setV d (BitVec.ofNat 8192 (natOfBytes data)) ∧ t.regs = s.regs ∧ SameBytes s t)) ∧
    (k.pend = [⟨.s d, .load segs 8 data false, pc, sl, bn, true⟩] → Answers (exec (.memoryResponse c 0) s) (fun t =>
      t.core c.val = { k with pend := [] }.setS d (BitVec.ofNat 64 (natOfBytes data)) ∧ t.regs = s.regs ∧ SameBytes s t)) ∧
    (k.pend = [⟨.v d, .load segs n data true, pc, sl, bn, true⟩] → s.issuing c.val = true →
      Answers (exec (.memoryResponse c 0) s) (fun t => (t.core c.val).ending = some 0x24 ∧
        t.fld (R.CORE_SEQ_FAULT c.val) F.CORE_SEQ_FAULT_code = 0x24 ∧ (t.core c.val).v = k.v ∧ SameBytes s t)))

/-- A misaligned access faults with ALIGN_FAULT before its bounds are looked at, and the fault names the bounds pair
(R141): scalar accesses to their size, vector accesses and segments to 64 bytes. -/
def Obligations.AlignmentFaults : Prop :=
  ∀ (s : State) (i : SlotCmd),
  let c := i.core
  let k := s.core c.val
  let w := i.word
  let a := State.effAddr k w
  let Faults := fun (e : Instr) (slot : Nat) (write : Bool) (z : Nat) =>
    Answers (exec e s) (fun t => s.Faulted t c 0x1A slot write w.bnd.val z)
  State.guarded k w = true →
  (∀ n e, (n = 1 ∨ n = 2) → e < 4 → a % 2 ^ e ≠ 0 →
    (s.Presents i n (8 + e) → fieldsOk w fS fA .unused true none = true → Faults (.scalarLoad i) n false a) ∧
    (s.Presents i n (0xC + e) → fieldsOk w .unused fA fS true none = true → Faults (.scalarStore i) n true a)) ∧
  (a % 64 ≠ 0 →
    (s.Presents i 6 0x10 → fieldsOk w fV fA .unused true none = true → Faults (.vld i) 6 false a) ∧
    (s.Presents i 6 0x11 → fieldsOk w .unused fA fV true none = true → Faults (.vst i) 6 true a)) ∧
  (∀ z, (State.segments k w).find? (fun q => decide (q % 64 ≠ 0)) = some z → fieldsOk w fV fA fS true none = true →
    (s.Presents i 6 0x12 → Faults (.vldS i) 6 false z) ∧ (s.Presents i 6 0x13 → Faults (.vstS i) 6 true z))

/-- Which accesses and slot words fault, and that a false predicate never does (R128, R134, R140, R148, R169, R414):
the fault is precise (R142). -/
def Obligations.SlotFaults : Prop :=
  ∀ (s : State) (i : SlotCmd),
  let c := i.core
  let k := s.core c.val
  let w := i.word
  let a := State.effAddr k w
  let b := k.breg w.bnd.val
  let me := State.instOf (s.issueOwner c.val)
  let Skips := fun (e : Instr) => Answers (exec e s) (fun t => s.IssuedOnly t c k (s.pcOf c.val + 64))
  (∀ slot op, s.Presents i slot op → slotDefined slot op = false → w ≠ ⟨0, 0, false, 0, 0, 0, 0, 0⟩ → ∀ e : Instr,
    (e = .movV i ∨ e = .scalarLoad i ∨ e = .halt i ∨ e = .sfn i ∨ e = .mxPoll i ∨ e = .br i) →
    Answers (exec e s) (fun t => s.Faulted t c 0x18 slot false 0 0)) ∧
  (s.Presents i 7 0x18 → 5 < w.imm.toNat → Answers (exec (.pcmp i) s) (fun t => s.Faulted t c 0x18 7 false 0 0)) ∧
  (s.Presents i 7 0x19 → 3 < w.imm.toNat → Answers (exec (.plog i) s) (fun t => s.Faulted t c 0x18 7 false 0 0)) ∧
  (s.Presents i 4 2 → 4 < w.imm.toNat → Answers (exec (.mxWait i) s) (fun t => s.Faulted t c 0x18 4 false 0 0)) ∧
  (s.Presents i 7 8 → 4095 < w.imm.toNat → Answers (exec (.semAcq i) s) (fun t => s.Faulted t c 0x18 7 false 0 0)) ∧
  (State.guarded k w = true →
    (s.Presents i 6 0x10 → fieldsOk w fV fA .unused true none = true → a % 64 = 0 →
      (bitOf b.perm.toNat 0 = false ∨ a < b.base.toNat ∨ b.limit.toNat < a + 1024) →
      Answers (exec (.vld i) s) (fun t => s.Faulted t c 0x11 6 false w.bnd.val a)) ∧
    (s.Presents i 6 0x11 → fieldsOk w .unused fA fV true none = true → a % 64 = 0 →
      (bitOf b.perm.toNat 1 = false ∨ a < b.base.toNat ∨ b.limit.toNat < a + 1024) →
      Answers (exec (.vst i) s) (fun t => s.Faulted t c 0x11 6 true w.bnd.val a)) ∧
    (s.Presents i 6 0x28 → fieldsOk w .unused fV fS false (some 0) = true →
      let t := bitsOf (k.sreg w.y.val).toNat 0 7
      (s.absent t = true ∨ me = none ∨ ∃ n, me = some n ∧ s.ownsCore n t = false) →
      Answers (exec (.snd i) s) (fun t => s.Faulted t c 0x1B 6 false 0 0)) ∧
    (∀ n, me = some n → s.ownsBob n w.imm.toNat = false → fieldsOk w fS fS .unused false (some 1023) = true →
      (s.Presents i 7 0x10 → Answers (exec (.bobFadd i) s) (fun t => s.Faulted t c 0x1C 7 false 0 0)) ∧
      (s.Presents i 7 0x11 → Answers (exec (.bobWait i) s) (fun t => s.Faulted t c 0x1C 7 false 0 0))) ∧
    (s.Presents i 7 8 → fieldsOk w fS .unused .unused false (some 4095) = true → s.semForeign me w.imm.toNat = true →
      Answers (exec (.semAcq i) s) (fun t => s.Faulted t c 0x65 7 false 0 0)) ∧
    (s.Presents i 6 0x29 → fieldsOk w fV .unused .unused false (some 7) = true → k.ports.get [] w.imm.toNat = [] →
      k.rcvExpired = true → Answers (exec (.rcv i) s) (fun t => s.Faulted t c 0x05 6 false 0 0))) ∧
  (State.guarded k w = false → k.loops = [] →
    (s.Presents i 6 0x10 → fieldsOk w fV fA .unused true none = true → Skips (.vld i)) ∧
    (s.Presents i 6 0x28 → fieldsOk w .unused fV fS false (some 0) = true → Skips (.snd i)) ∧
    (s.Presents i 6 0x29 → fieldsOk w fV .unused .unused false (some 7) = true → Skips (.rcv i)) ∧
    (s.Presents i 7 8 → fieldsOk w fS .unused .unused false (some 4095) = true → Skips (.semAcq i)) ∧
    (s.Presents i 0 1 → fieldsOk w .unused .unused .unused false none = true → Skips (.br i)) ∧
    (s.Presents i 7 0x21 → fieldsOk w .unused fS .unused false (some 0) = true → Skips (.halt i)))

/-- The vector and special-function slots (R47, R51 to R61, R183 to R187): the destination takes the unit's result,
and a result that is not finite raises the core's flag (R66). What the unnamed opcodes compute is open (log entry
24). -/
def Obligations.VectorSlots : Prop :=
  ∀ (s : State) (i : SlotCmd),
  let c := i.core
  let k := s.core c.val
  let w := i.word
  let d := w.d.val
  let m := w.imm.toNat
  let flags := [R.CORE_FP_FLAGS c.val, R.CORE_SAT_COUNT c.val]
  let Writes := fun (e : Instr) (v : BitVec 8192) (bad : Bool) => Answers (exec e s) (fun t =>
    s.Issued t c (k.setV d v) (s.pcOf c.val + 64) ∧ SameRegs (flags ++ seqRegs c) s t ∧ SameBytes s t ∧
    (bad = true → t.fld (R.CORE_FP_FLAGS c.val) F.CORE_FP_FLAGS_nonfinite_any = 1))
  k.loops = [] → State.guarded k w = true →
  (∀ op fmt o, s.Presents i 3 o → 1 ≤ o → o ≤ 0x4F → o ≠ 0x40 →
    (op ≠ .compare → op ≠ .other → fieldsOk w fV fV fV false (some 0) = true →
      let r := vectorOp op fmt (k.vreg w.x.val) (k.vreg w.y.val) (k.vreg d)
      Writes (.vectorArithmetic op fmt i) r.1 r.2) ∧
    ((op = .compare ∨ op = .other) → fieldsOk w fV fV fV false none = true →
      ∃ v bad, Writes (.vectorArithmetic op fmt i) v bad)) ∧
  (∀ src dst cv, s.Presents i 3 0x40 → fieldsOk w fV fV .unused false (some 0xFFFF) = true →
    Fmt.ofCode (bitsOf m 8 4) = some src → Fmt.ofCode (bitsOf m 12 4) = some dst → Cvt.check (m % 256) dst = some cv →
    (cv.sr = false → let r := vectorCvt src dst cv (fun _ => 0) (k.vreg w.x.val) (k.vreg d)
      Writes (.vcvt i) r.1 r.2.nonfinite) ∧
    (cv.sr = true → ∃ rnd, let r := vectorCvt src dst cv rnd (k.vreg w.x.val) (k.vreg d)
      Writes (.vcvt i) r.1 r.2.nonfinite)) ∧
  (∀ f, s.Presents i 5 1 → SfnFunc.ofCode (bitsOf m 0 8) = some f → bitsOf m 8 4 < 3 → bitsOf m 12 4 < 3 → bitsOf m 17 2 ≠ 3 →
    fieldsOk w fV fV (if f.binary then fV else .unused) false (some (2 ^ 19 - 1)) = true →
    (bitsOf m 16 1 = 1 → (sfuFmt (bitsOf m 8 4)).bits ≠ (sfuFmt (bitsOf m 12 4)).bits) →
    let r := sfnVector (s.legacyOf c.val (bitsOf m 17 2)) f (sfuFmt (bitsOf m 8 4)) (sfuFmt (bitsOf m 12 4)) (bitsOf m 16 1)
      (k.vreg w.x.val) (k.vreg w.y.val) (k.vreg d)
    Writes (.sfn i) r.1 r.2.nonfinite)

/-- The matrix, DMA, message and synchronisation slots (R34, R35, R145 to R153, R155): what they queue, collect, send
and wait for, and what holds their bundle. -/
def Obligations.QueueSlots : Prop :=
  ∀ (s : State) (i : SlotCmd),
  let c := i.core
  let k := s.core c.val
  let w := i.word
  let d := w.d.val
  let n := w.imm.toNat
  let a := State.effAddr k w
  let me := State.instOf (s.issueOwner c.val)
  let next := s.pcOf c.val + 64
  let Does := fun (e : Instr) (k' : Core) => Answers (exec e s) (fun t => s.IssuedOnly t c k' next)
  let Holds := fun (e : Instr) (cause : Nat) => Answers (exec e s) (fun t => s.Held t c cause ∧ t.core c.val = k)
  k.loops = [] → State.guarded k w = true →
  (s.Presents i 4 1 → fieldsOk w .unused fA .unused true none = true →
    (k.mxq.length < 4 → s.accessFault c.val w.bnd.val false 128 128 [a] = none → Does (.mxIssue i)
      { k with mxq := k.mxq ++ [⟨BitVec.ofNat 1024 (s.natAt a 128), k.snapshot, s.issueOwner c.val⟩] }) ∧
    (4 ≤ k.mxq.length → Holds (.mxIssue i) 2)) ∧
  (k.arr.job = none → k.arr.attn = none →
    (s.Presents i 4 2 → fieldsOk w fS .unused .unused false (some 4) = true →
      (k.mxq.length ≤ n → Does (.mxWait i) ({ k with mxStatus := 0 }.setS d (BitVec.ofNat 64 k.mxStatus))) ∧
      (n < k.mxq.length → Holds (.mxWait i) 5)) ∧
    (s.Presents i 4 3 → fieldsOk w fS .unused .unused false (some 0) = true → k.mxq.length ≤ 4 → k.mxStatus < 256 →
      Does (.mxPoll i) (k.setS d (BitVec.ofNat 64 (k.mxq.length + 256 * k.mxStatus)))) ∧
    (∀ it, s.Presents i 4 4 → fieldsOk w .unused .unused .unused false (some 0) = true → k.mxq = [it] → it.owner.inst = none →
      Does (.mxAbort i) { k with mxq := [], mxStatus := if k.mxStatus = 0 then 0x06 else k.mxStatus })) ∧
  (s.Presents i 6 0x20 → fieldsOk w .unused fA .unused true none = true →
    ((k.dmaq.filter DmaItem.live).length < 20 → s.accessFault c.val w.bnd.val false 64 64 [a] = none →
      ∃ it : DmaItem, it.desc = BitVec.ofNat 512 (s.natAt a 64) ∧ it.snap = some k.snapshot ∧ it.owner = s.issueOwner c.val ∧
        it.origin = .tag (dw it.desc 0 8 3) ∧ it.done = none ∧ Answers (exec (.dmaQ i) s) (fun t =>
          s.Issued t c { k with dmaq := k.dmaq ++ [it] } next ∧ SameRegs (R.CORE_DMA_STATUS c.val :: seqRegs c) s t ∧
          SameBytes s t)) ∧
    (20 ≤ (k.dmaq.filter DmaItem.live).length → Holds (.dmaQ i) 2)) ∧
  (s.Presents i 6 0x21 → fieldsOk w fS fS .unused false (some 0) = true →
    let tag := (k.sreg w.x.val).toNat % 8
    ((∀ it ∈ k.dmaq, it.origin ≠ .tag tag) → Does (.dmaWait i)
      ({ k with tagStatus := k.tagStatus.set 0 tag 0 }.setS d (BitVec.ofNat 64 (k.tagStatus.get 0 tag)))) ∧
    ((∃ it ∈ k.dmaq, it.origin = .tag tag) → Holds (.dmaWait i) 5)) ∧
  (∀ g, s.Presents i 6 0x28 → fieldsOk w .unused fV fS false (some 0) = true →
    let e := bitsOf (k.sreg w.y.val).toNat 0 7
    let p := bitsOf (k.sreg w.y.val).toNat 8 3
    s.absent e = false → me = some g → s.ownsCore g e = true →
    (((s.core e).ports.get [] p).length < 8 → Answers (exec (.snd i) s) (fun t =>
      (t.core e).ports.get [] p = (s.core e).ports.get [] p ++ [BitVec.ofNat 512 (k.vreg w.x.val).toNat] ∧
      (∀ q, q ≠ p → (t.core e).ports.get [] q = (s.core e).ports.get [] q) ∧ (∀ j, j ≠ e → t.core j = s.core j) ∧
      t.reg (R.CORE_SEQ_PC c.val) = BitVec.ofNat 64 next.toNat ∧ SameRegs (seqRegs c) s t ∧ SameBytes s t)) ∧
    (8 ≤ ((s.core e).ports.get [] p).length → Holds (.snd i) 2)) ∧
  (∀ msg rest, s.Presents i 6 0x29 → fieldsOk w fV .unused .unused false (some 7) = true →
    (k.ports.get [] n = msg :: rest → ∃ v : BitVec 8192, bitsOf v.toNat 0 512 = msg.toNat ∧
      bitsOf v.toNat 512 7680 = bitsOf (k.vreg d).toNat 512 7680 ∧
      Does (.rcv i) ({ k with ports := k.ports.set [] n rest, rcvWait := none, rcvExpired := false }.setV d v)) ∧
    (k.ports.get [] n = [] → k.rcvExpired = false → Answers (exec (.rcv i) s) (fun t => s.Held t c 2 ∧
      t.core c.val = { k with rcvWait := some n }))) ∧
  (fieldsOk w .unused .unused .unused false (some 0) = true →
    (s.Presents i 7 1 → Does (.fenceCore i) { k with fence := some .core }) ∧
    (s.Presents i 7 2 → Does (.fenceDevice i) { k with fence := some .device }) ∧
    (s.Presents i 7 3 → s.sessions = [] → Does (.fencePod i) { k with fence := some .pod }) ∧
    (s.Presents i 7 0x20 → Does (.icinv i) { k with icache := [] })) ∧
  (∀ sc, k.fence = some sc → s.coreQuiet c.val = true → (sc = .pod → s.remoteQuiet c = true) →
    Answers (exec (.fenceComplete c) s) (fun t => t.core c.val = { k with fence := none } ∧ t.regs = s.regs ∧ SameBytes s t)) ∧
  (s.Presents i 7 8 → fieldsOk w fS .unused .unused false (some 4095) = true → s.semForeign me n = false →
    (∀ g, k.semGrant = some g → Does (.semAcq i) ({ k with semSent := none, semGrant := none }.setS d (BitVec.ofNat 64 g))) ∧
    (k.semGrant = none → k.semSent = none → Answers (exec (.semAcq i) s) (fun t => s.Held t c 3 ∧
      t.core c.val = { k with semSent := some n } ∧ ∃ op : SemOp, op.acquire = true ∧ op.who = .core c ∧
      t.sch.semIn.get [] n = s.sch.semIn.get [] n ++ [op]))) ∧
  (s.Presents i 7 9 → fieldsOk w .unused .unused .unused false (some 4095) = true → s.semForeign me n = false →
    (s.coreQuiet c.val = true → Answers (exec (.semRel i) s) (fun t => s.IssuedOnly t c k next ∧ ∃ op : SemOp,
      op.acquire = false ∧ op.who = .core c ∧ t.sch.semIn.get [] n = s.sch.semIn.get [] n ++ [op])) ∧
    (s.coreQuiet c.val = false → Holds (.semRel i) 7)) ∧
  (∀ g, me = some g → s.ownsBob g n = true → fieldsOk w fS fS .unused false (some 1023) = true →
    (s.Presents i 7 0x10 → d ≠ 0 → ∃ id, Answers (exec (.bobFadd i) s) (fun t =>
      s.IssuedOnly t c { k with pend := [⟨.s d, .bob id, s.pcOf c.val, 7, 0, true⟩] } next ∧
      t.sch.bobIn.get [] n = s.sch.bobIn.get [] n ++ [.add c id d ((k.sreg w.x.val).truncate 32)])) ∧
    (s.Presents i 7 0x11 → (∀ v, k.bobGrant = some v →
      Does (.bobWait i) ({ k with bobSent := none, bobGrant := none }.setS d (BitVec.ofNat 64 v))) ∧
      (k.bobGrant = none → k.bobSent = none → Answers (exec (.bobWait i) s) (fun t => s.Held t c 4 ∧
        t.core c.val = { k with bobSent := some n } ∧
        t.sch.bobIn.get [] n = s.sch.bobIn.get [] n ++ [.wait c (k.sreg w.x.val).toNat (s.pcOf c.val)])))) ∧
  (s.Presents i 7 0x21 → fieldsOk w .unused fS .unused false (some 0) = true →
    (s.drained c.val = true → Does (.halt i) { k with ending := some (haltStatus k ((k.sreg w.x.val).toNat % 256)) }) ∧
    (s.drained c.val = false → Holds (.halt i) 5)) ∧
  (∀ line, k.fetchMiss = some line →
    (k.icache = [] → Answers (exec (.icacheMissFill c false) s) (fun t => line ∈ (t.core c.val).icache ∧
      (t.core c.val).fetchMiss = none ∧ t.regs = s.regs ∧ SameBytes s t)) ∧
    Answers (exec (.icacheMissFill c true) s) (fun t => t.core c.val = k ∧
      (t.reg (R.CORE_SEQ_ICACHE_MISSES c.val)).toNat = min 0xFFFFFFFF ((s.reg (R.CORE_SEQ_ICACHE_MISSES c.val)).toNat + 1) ∧
      SameRegs [R.CORE_SEQ_ICACHE_MISSES c.val] s t))

/-- The command queues (R345 to R347, R409, R410): the doorbell, the start of core work and of engine records,
barriers. -/
def Obligations.HostQueues : Prop :=
  ∀ (s : State) (q : QRef) (idx : Nat) (d : BitVec 512) (req : Requester) (tail : BitVec 16),
  (s.reach req (queueBase q + 0x14) = true →
    (tail.toNat < s.queueSize q → Answers (exec (.hstQTail req q tail) s) (fun t =>
      t.qfld q (R.HST_Q_TAIL 0 0) F.HST_Q_TAIL_tail = tail.toNat ∧ SameRegs [queueBase q + 0x14] s t ∧ SameBytes s t)) ∧
    (s.queueSize q ≤ tail.toNat → Answers (exec (.hstQTail req q tail) s) (fun t =>
      t.qfld q (R.HST_Q_CFG 0 0) F.HST_Q_CFG_enable = 0 ∧ t.qfld q (R.HST_Q_STATUS 0 0) F.HST_Q_STATUS_error = 0x02 ∧
      SameRegs [queueBase q + 0x10, queueBase q + 0x1C] s t ∧ SameBytes s t))) ∧
  (let i := State.entryInst q d
   let a := dw d 4 0 48
   s.AtHead q 1 idx d → s.dispatchStopped = false → s.entryReserved q d = false → s.qVerify q = false →
   s.engineRead (.inst i.val) a 128 = 0 →
   (1 ≤ dw d 4 48 8 → dw d 4 48 8 ≤ 128 → dw d 4 48 8 ≤ s.usableCores i.val →
      State.recordBad (BitVec.ofNat 1024 (s.natAt a 128)) = false → Answers (exec (.coreWork q) s) (fun t =>
      t.qfld q (R.HST_Q_HEAD 0 0) F.HST_Q_HEAD_index = (idx + 1) % s.queueSize q ∧
      t.host.works.map (fun w => (w.q, w.idx, w.inst, w.desc, w.placed)) = [(q, idx, some i.val, d, false)] ∧ SameBytes s t)) ∧
   (s.usableCores i.val < dw d 4 48 8 → Answers (exec (.coreWork q) s) (fun t => s.Done t q idx 0x02 0))) ∧
  (∀ k, s.AtHead q k idx d → (k = 0 ∨ 4 < k) → Answers (exec (.coreWork q) s) (fun t => s.Done t q idx 0x01 0)) ∧
  (s.AtHead q 2 idx d → s.dispatchStopped = false → s.entryReserved q d = false → bitOf s.msys.noDie (dw d 0 8 2) = false →
    bitOf d.toNat 12 = true →
    let r := BitVec.ofNat 512 (natOfBytes (s.hostBytes (dw d 1 0 64) 64))
    ((0x40 ≤ dw r 0 0 8 ∧ dw r 0 0 8 ≤ 0x43 ∨ 0x48 ≤ dw r 0 0 8 ∧ dw r 0 0 8 ≤ 0x4A) →
      Answers (exec (.engineRecord q) s) (fun t => ∃ u : DieId, ∃ it : DmaItem, u.val = dw d 0 8 2 ∧ it.desc = r ∧
        it.owner.inst = some (State.entryInst q d) ∧ it.snap = none ∧ t.dmaList (.die u) = s.dmaList (.die u) ++ [it] ∧
        t.host.works.map (fun w => w.id) = [it.id] ∧ SameBytes s t)) ∧
    ((dw r 0 0 8 < 0x40 ∨ 0x43 < dw r 0 0 8 ∧ dw r 0 0 8 < 0x48 ∨ 0x4A < dw r 0 0 8) →
      Answers (exec (.engineRecord q) s) (fun t => s.Done t q idx 0x01 0))) ∧
  (s.AtHead q 4 idx d → s.entryReserved q d = false → Answers (exec (.barrier q) s) (fun t => s.Done t q idx 0 0)) ∧
  (∀ w : Work, s.host.works = [w] → w.q = q → w.kind = 4 → s.qfld q (R.HST_Q_CFG 0 0) F.HST_Q_CFG_in_hbm = 0 →
    Answers (exec (.barrier q) s) (fun t => s.Records t q w.idx 0 0 ∧ t.host.works = [])) ∧
  (∀ w : Work, s.host.works = [w] → w.q = q → w.kind ≠ 4 → s.headEntry q = some (idx, d) → dw d 0 0 8 = 4 →
    bitOf d.toNat 11 = false → s.entryReserved q d = false →
    Answers (exec (.barrier q) s) (fun t => ∃ x : Work, x.q = q ∧ x.kind = 4 ∧ x.idx = idx ∧ t.host.works = [w, x]))

/-- How the receiving Thimble treats a command entry (R351 to R353, R355): what it refuses, and what passes. -/
def Obligations.CommandChecks : Prop :=
  ∀ (s : State) (q : QRef) (idx : Nat) (d : BitVec 512) (c : CmdBlock),
  (s.AtHead q 3 idx d → s.cmdBlockOf q d = (0, c, false) → c.opcode = 0x0301 → c.device = s.podDevice → s.host.thm = none →
    s.entryReserved q d = false → Answers (exec (.powerCap q) s) (fun t => s.Done t q idx 0x02 0 ∧
      t.host.counters = s.host.counters ∧ t.tdp = s.tdp)) ∧
  (s.AtHead q 3 idx d → s.cmdBlockOf q d = (0, c, true) → c.opcode ∉ cmdOpcodes → c.device = s.podDevice → s.host.thm = none →
    s.entryReserved q d = false → Answers (exec (.regRead q) s) (fun t => s.Done t q idx 0x01 0 ∧
      t.host.counters = s.host.counters)) ∧
  (∀ k, s.AtHead q 3 idx d → q.page = .inst k → s.cmdBlockOf q d = (0, c, true) → c.opcode = 0x0301 → c.device = s.podDevice →
    s.host.thm = none → s.entryReserved q d = false → Answers (exec (.powerCap q) s) (fun t => s.Done t q idx 0x73 0 ∧
      t.host.counters = s.host.counters ∧ t.tdp = s.tdp)) ∧
  (s.Orders q idx d c 0x0301 → (c.keyId = 15 ∨ s.cmdKey c.keyId = none) → Answers (exec (.powerCap q) s) (fun t =>
    s.Unauthentic t q idx ∧ t.tdp = s.tdp)) ∧
  (∀ n, s.Orders q idx d c 0x0301 → s.Keyed c → s.lastCounter c.keyId c.sender = some n → c.counter ≤ n →
    Answers (exec (.powerCap q) s) (fun t => t.tdp = s.tdp ∧ if s.tagWrong c then s.Unauthentic t q idx
      else s.Done t q idx 0x72 0 ∧ (t.reg R.HST_REPLAYS).toNat = min 0xFFFFFFFF ((s.reg R.HST_REPLAYS).toNat + 1))) ∧
  (s.Orders q idx d c 0x0301 → s.Keyed c → s.lastCounter c.keyId c.sender = none → 256 ≤ s.host.counters.length →
    Answers (exec (.powerCap q) s) (fun t => t.tdp = s.tdp ∧ if s.tagWrong c then s.Unauthentic t q idx
      else s.Done t q idx 0x73 0)) ∧
  (s.AtHead q 3 idx d → q.page = .pf → s.cmdBlockOf q d = (0, c, true) → c.opcode = 0x0301 → c.device ≠ s.podDevice →
    s.regBit R.HST_POD_MEMBERS c.device = false → s.entryReserved q d = false → Answers (exec (.powerCap q) s) (fun t =>
      s.Done t q idx 0x74 0 ∧ t.tdp = s.tdp))

/-- Commands that complete at once (R4, R258, R282, R318, R351, R356, R428, R456): their effect when their tag
verifies; with a wrong tag AUTH_FAIL and no effect. The bodies of most commands are laid out by the model (log entry
47). -/
def Obligations.ImmediateCommands : Prop :=
  ∀ (s : State) (q : QRef) (idx : Nat) (d : BitVec 512) (c : CmdBlock),
  let f := fieldAt c.body
  let Takes := fun (e : Instr) (P : State → Prop) => Answers (exec e s) (fun t =>
    if s.tagWrong c then s.Unauthentic t q idx else P t)
  (s.Orders q idx d c 0x0201 → c.keyId = 15 → s.Fresh c → Answers (exec (.keyProvision q) s) (fun t =>
    match s.provisioned c with
    | none => s.Unauthentic t q idx
    | some k => s.Obeyed t q idx c 0 0 ∧ t.host.flash.cmdKeys = s.host.flash.cmdKeys ++ [(f 152 1, k)])) ∧
  (s.Orders q idx d c 0x0702 → c.keyId = 15 → s.Fresh c → f 0 8 = R.HST_BOOT_NONCE_LO →
    Answers (exec (.regRead q) s) (fun t => s.Obeyed t q idx c 0 (s.reg R.HST_BOOT_NONCE_LO).toNat)) ∧
  (s.Orders q idx d c 0x0703 → c.keyId = 15 → s.Fresh c → (f 0 1, f 2 2) ≠ (15, c.sender) →
    (s.lastCounter (f 0 1) (f 2 2)).getD 0 < 2 ^ 64 →
    Answers (exec (.cmdStatus q) s) (fun t => s.Obeyed t q idx c 0 ((s.lastCounter (f 0 1) (f 2 2)).getD 0))) ∧
  (s.Keyed c → s.Fresh c →
    (s.Orders q idx d c 0x0301 → Takes (.powerCap q) (fun t =>
      let w := max 700 (min s.tdpMax (f 0 2))
      let b := if f 2 2 = 0 then w * 60 / 100 else min (f 2 2) w
      s.Obeyed t q idx c 0 (w + b * 2 ^ 16) ∧ t.tdp = w ∧ t.backupCap = b)) ∧
    (s.Orders q idx d c 0x0202 → f 0 1 = 0 → Takes (.keyWrite q) (fun t =>
      if f 1 1 = c.keyId then s.Obeyed t q idx c 0x02 0 ∧ t.host.flash = s.host.flash
      else match (s.cmdKey c.keyId).bind (fun k => Config.keyUnwrap k (c.body.drop 8)) with
        | none => s.Obeyed t q idx c 0x71 0 ∧ t.host.flash = s.host.flash
        | some k => s.Obeyed t q idx c 0 0 ∧ t.cmdKey (f 1 1) = some k ∧ ∀ j, j ≠ f 1 1 → t.cmdKey j = s.cmdKey j)) ∧
    (s.Orders q idx d c 0x0203 → f 0 1 = 0 → Takes (.keyRetire q) (fun t =>
      ((∃ j, j ≠ f 1 1 ∧ (s.cmdKey j).isSome = true) → s.Obeyed t q idx c 0 0 ∧ t.cmdKey (f 1 1) = none ∧
        ∀ j, j ≠ f 1 1 → t.cmdKey j = s.cmdKey j) ∧
      ((∀ j, j ≠ f 1 1 → s.cmdKey j = none) → s.Obeyed t q idx c 0x73 0 ∧ t.host.flash = s.host.flash))) ∧
    (s.Orders q idx d c 0x0204 → f 0 8 = R.HST_TUNNEL_TIMEOUT → Takes (.regWrite q) (fun t => s.Obeyed t q idx c 0 0 ∧
      t.fld R.HST_TUNNEL_TIMEOUT F.HST_TUNNEL_TIMEOUT_ms = f 8 8 % 2 ^ 16)) ∧
    (s.Orders q idx d c 0x0205 → 0 < f 8 4 → s.hbmOf c.inst (f 0 8) (f 8 4) = true → s.host.programming = none →
      let b := decide (s.fld R.GLB_STATUS F.GLB_STATUS_image_b = 1)
      let running := ((if b then s.host.flash.imageB else s.host.flash.imageA).map (fun i => i.sequence)).getD 0
      Takes (.imageWrite q) (fun t => match State.parseImage (s.bytesAt (f 0 8) (f 8 4)) with
        | none => s.Obeyed t q idx c 0x81 0 ∧ t.host.programming = none
        | some i => if s.host.flash.svnFloor ≤ i.svn ∧ running < i.sequence
          then s.Obeyed t q idx c 0 0 ∧ t.host.programming = some (i, !b)
          else s.Obeyed t q idx c 0x81 0 ∧ t.host.programming = none)) ∧
    (s.Orders q idx d c 0x0401 → s.engineRead .thimble (f 0 8) (f 8 8) = 0 → Takes (.firmwarePatch q) (fun t =>
      s.Obeyed t q idx c 0 0 ∧ t.fld R.THM_STATUS F.THM_STATUS_patch_loaded = 1)) ∧
    (∀ out, s.Orders q idx d c 0x0402 →
      (s.modState ≠ 7 → Takes (.hbmRepair q out) (fun t => s.Obeyed t q idx c 0x26 0)) ∧
      (∀ n, s.modState = 7 → s.msys.lines = [] → s.region (f 0 8) = .hbm n → Takes (.hbmRepair q out) (fun t =>
        let r := s.fld (R.MEM_HBM_STATUS n) F.MEM_HBM_STATUS_repairs
        (out = .noSpare → s.Obeyed t q idx c 0x25 0) ∧ (out = .mismatch → s.Obeyed t q idx c 0x27 0) ∧
        (out = .repaired → s.Obeyed t q idx c 0 0 ∧
          t.fld (R.MEM_HBM_STATUS n) F.MEM_HBM_STATUS_repairs = (r + 1) % 2 ^ F.MEM_HBM_STATUS_repairs.len)))) ∧
    (∀ nonce, s.Orders q idx d c 0x0501 → Takes (.sessionCreate q nonce) (fun t =>
      if (s.sess (f 0 2)).created then s.Obeyed t q idx c 0x45 0 ∧ t.sessions = s.sessions
      else s.Obeyed t q idx c 0 0 ∧ (t.sess (f 0 2)).created = true ∧ (t.sess (f 0 2)).inst = f 2 1 ∧
        (t.sess (f 0 2)).ownNonce = nonce)) ∧
    (s.Orders q idx d c 0x0502 → s.txns = [] → Takes (.sessionClose q) (fun t => s.Obeyed t q idx c 0 0 ∧
      (t.sess (f 0 8)).created = false)) ∧
    (s.Orders q idx d c 0x0601 → Takes (.resume q) (fun t => s.Obeyed t q idx c 0 0 ∧
      (t.reg (R.SEAM_VOTE_MEMBERS c.inst)).toNat = f 8 8 ∧ (t.reg (R.SEAM_VOTE_CHILDREN c.inst)).toNat = f 32 8 ∧
      (t.vote c.inst).next = some (f 0 8) ∧ (t.vote c.inst).held = false)) ∧
    (s.Orders q idx d c 0x0701 → f 0 1 = 8 → Takes (.doorbell q) (fun t => s.Obeyed t q idx c 0 0 ∧
      ∀ p : QRef, p.page = .pf → p.q.val = f 1 1 → f 2 2 < s.queueSize p →
        t.qfld p (R.HST_Q_TAIL 0 0) F.HST_Q_TAIL_tail = f 2 2)) ∧
    (s.Orders q idx d c 0x0801 → let len := (s.sealBody 0).length + 96
      (f 8 8 < len → Takes (.logSeal q) (fun t => s.Obeyed t q idx c 0x95 0)) ∧
      (len ≤ f 8 8 → s.checkRange .thimble (f 0 8) len = 0 → f 0 8 + len ≤ 0x6000000000 → len < 2 ^ 64 →
        s.msys.lines = [] → s.msys.victims = [] →
        Takes (.logSeal q) (fun t => s.Obeyed t q idx c 0 len ∧ t.natAt (f 0 8) 4 = 0x534D4850))) ∧
    (s.Orders q idx d c 0x0204 → f 0 8 = R.PWR_RESET → bitOf (f 8 8) 0 = true → Answers (exec (.moduleReset q) s) (fun t =>
      if s.tagWrong c then s.Unauthentic t q idx else t.reg R.PWR_BOOT_CAUSE = 2 ∧
        t.fld R.PWR_BOOT_STATUS F.PWR_BOOT_STATUS_step = 2 ∧ t.host.works = [] ∧ t.cores = [])))

/-- Commands that Thimble carries on with (R246, R354, R355, R406, R413, R428, R442): how they begin and how they
end. -/
def Obligations.LongCommands : Prop :=
  ∀ (s : State) (q : QRef) (idx : Nat) (d : BitVec 512) (c : CmdBlock) (w : Work),
  let f := fieldAt c.body
  let Takes := fun (e : Instr) (P : State → Prop) => Answers (exec e s) (fun t =>
    if s.tagWrong c then s.Unauthentic t q idx else P t)
  let Runs := fun (cmd : LongCmd) (t : State) => t.host.thm = some ⟨.queue q s.host.nextWork, cmd⟩ ∧
    t.host.works.map (fun w => (w.id, w.q, w.idx)) = [(s.host.nextWork, q, idx)]
  let Waits := fun (cmd : LongCmd) => s.host.thm = some ⟨.queue q w.id, cmd⟩ ∧ s.host.works = [w] ∧ w.q = q ∧
    s.qfld q (R.HST_Q_CFG 0 0) F.HST_Q_CFG_in_hbm = 0
  let Ends := fun (t : State) (st : Nat) => s.Records t q w.idx st 0 ∧ t.host.works = [] ∧ t.host.thm = none
  (s.Keyed c → s.Fresh c →
    (s.Orders q idx d c 0x0102 → s.txns = [] → Takes (.instanceReset q) (fun t => Runs (.reset c.inst) t ∧
      t.gen c.inst = (s.gen c.inst + 1) % 2 ^ 16 ∧ t.fld (R.SCH_INST_STATE c.inst) F.SCH_INST_STATE_resetting = 1)) ∧
    (s.Orders q idx d c 0x0101 → s.partAccepted c.body = true → s.txns = [] → Takes (.partition q) (fun t => Runs (.partition c.body) t ∧
      t.msys.remap.map (fun r => r.body) = some c.body)) ∧
    (s.Orders q idx d c 0x0101 → s.partAccepted c.body = false → Takes (.partition q) (fun t => s.Obeyed t q idx c 0x02 0 ∧
      t.msys.partition = s.msys.partition)) ∧
    (s.Orders q idx d c 0x0204 → f 0 8 = R.RAS_MAINT →
      (bitOf (f 8 8) 0 = true → s.modState ≠ 7 → Takes (.maintenanceEnter q) (fun t => Runs .maintEnter t ∧ t.modState = s.modState)) ∧
      (bitOf (f 8 8) 0 = true → s.modState = 7 → Takes (.maintenanceEnter q) (fun t => s.Obeyed t q idx c 0 0)) ∧
      (bitOf (f 8 8) 0 = false → Takes (.maintenanceExit q) (fun t => s.Obeyed t q idx c 0 0 ∧
        t.fld R.RAS_MAINT F.RAS_MAINT_enter = 0 ∧ t.modState ≠ 7)))) ∧
  (Waits .maintEnter → ∀ expired,
    (s.workRuns = false → Answers (exec (.maintenanceDrain expired) s) (fun t => Ends t 0 ∧ t.modState = 7 ∧
      t.fld R.RAS_MAINT F.RAS_MAINT_enter = 1)) ∧
    (s.workRuns = true → expired = true → Answers (exec (.maintenanceDrain expired) s) (fun t => Ends t 0x93 ∧
      t.modState = s.modState))) ∧
  (∀ i : InstId, Waits (.reset i.val) → Answers (exec (.instanceResetComplete i) s) (fun t => Ends t 0 ∧
    t.fld (R.SCH_INST_STATE i.val) F.SCH_INST_STATE_resetting = 0)) ∧
  (∀ r : Remap, Waits (.partition r.body) → s.msys.remap = some r → Answers (exec .partitionChangeComplete s) (fun t =>
    Ends t 0 ∧ t.msys.remap = none)) ∧
  (∀ i b, s.host.programming = some (i, b) → s.ras.snapRunning = none →
    let off := if b then R.PWR_IMAGE_B else R.PWR_IMAGE_A
    Answers (exec (.imageProgramComplete true) s) (fun t => t.host.programming = none ∧
      (if b then t.host.flash.imageB else t.host.flash.imageA) = some i ∧ t.fld off F.PWR_IMAGE_A_progress = 100) ∧
    Answers (exec (.imageProgramComplete false) s) (fun t => t.host.programming = none ∧ t.host.flash = s.host.flash ∧ t.reg off = 0)) ∧
  (∀ k j b parts x, s.msgAt k 4 = some (j, b, parts) → fieldAt b 0 1 = 1 → s.host.thm = none →
    parseBlock (b.drop 9) = (x, true) → x.opcode = 0x0301 → s.Keyed x → s.Fresh x →
    (∀ r ∈ parts, genOlder r.pkt.tgen (s.gen (s.sess j.val).inst) = false) →
    Answers (exec (.tunnelledCommand k) s) (fun t => if s.tagWrong x then t.tdp = s.tdp ∧ t.host.counters = s.host.counters
      else t.tdp = max 700 (min s.tdpMax (fieldAt x.body 0 2)) ∧ (x.keyId, x.sender, x.counter) ∈ t.host.counters)) ∧
  (∀ u : Tunnel, s.host.tunnels = [u] → s.host.works = [w] → u.work = w.id → w.q = q →
    s.qfld q (R.HST_Q_CFG 0 0) F.HST_Q_CFG_in_hbm = 0 →
    Answers (exec (.tunnelTimeout 0) s) (fun t => s.Records t q w.idx 0x05 0 ∧ t.host.works = [] ∧ t.host.tunnels = []) ∧
    ∀ k j b parts, s.msgAt k 4 = some (j, b, parts) → fieldAt b 0 1 = 2 → fieldAt b 1 8 = u.id →
      (∀ r ∈ parts, genOlder r.pkt.tgen (s.gen (s.sess j.val).inst) = false) →
      Answers (exec (.tunnelledCommandAnswer k) s) (fun t => s.Records t q w.idx (fieldAt b 9 1) (fieldAt b 10 8) ∧
        t.host.works = [] ∧ t.host.tunnels = []))

/-- An update item on its engine (R262, R263, R265): what ends it before it applies, what its step's decision does to
it, and the new values that the apply stores. -/
def Obligations.UpdateItems : Prop :=
  ∀ (s : State) (d : DieId) (c : CoreId) (i : InstId) (x : DmaItem) (it : UpdItem) (p : UpdPlan),
  (s.updQ d.val = [] → s.waitingItem (State.dieUnits d) 0x49 (fun _ => true) = some (.core c, x) → x.owner.inst = some i →
    s.oldOwner x.owner = false →
    let src := dw x.desc 1 0 48
    let desc := BitVec.ofNat 1024 (s.natAt src 128)
    let Ends := fun (st : Nat) => Answers (exec (.updateItem d) s) (fun t => t.updQ d.val = [] ∧
      t.fld (R.MEM_UPD_STATUS d.val) F.MEM_UPD_STATUS_last_status = st ∧ SameBytes s t ∧
      ((t.dmaList (.core c)).find? (fun y => y.id == x.id)).map DmaItem.done = some (some st))
    let Goes := fun (n : Option W32) => Answers (exec (.updateItem d) s) (fun t => SameBytes s t ∧
      (t.updQ d.val).map (fun y => (y.desc, y.applying)) = [(some desc, n)] ∧
      t.fld (R.MEM_UPD_STATUS d.val) F.MEM_UPD_STATUS_waiting = (if n.isNone then 1 else 0) ∧
      t.fld (R.MEM_UPD_STATUS d.val) F.MEM_UPD_STATUS_queued = 1 ∧
      t.fld (R.MEM_UPD_STATUS d.val) F.MEM_UPD_STATUS_instance = i.val)
    (src % 128 ≠ 0 → Ends 0x02) ∧
    (src % 128 = 0 → s.engReadSt (State.engOf x.owner x.snap ⟨5, d.val, d.val⟩) src 128 = 0 →
      (xw desc 0 0 8 ≠ 0x30 → Ends 0x01) ∧
      (xw desc 0 0 8 = 0x30 → updPlan desc = none → Ends 0x02) ∧
      (xw desc 0 0 8 = 0x30 → updPlan desc ≠ none → s.semForeign (some i.val) (updSem desc) = false →
        (s.voteOn i.val = false → Goes (some 0)) ∧
        (s.voteOn i.val = true →
          (∀ e, s.decisionOf i.val (updStep desc) = some e → e.commit = true → Goes (some e.n2)) ∧
          (∀ e, s.decisionOf i.val (updStep desc) = some e → e.commit = false → Ends 0x31) ∧
          (∀ l, s.decisionOf i.val (updStep desc) = none → s.lastDecided i.val = some l → updStep desc ≤ l → Ends 0x02) ∧
          (s.decisionOf i.val (updStep desc) = none → s.lastDecided i.val = none → (s.vote i.val).held = true → Ends 0x34) ∧
          (s.decisionOf i.val (updStep desc) = none → s.lastDecided i.val = none → (s.vote i.val).held = false → Goes none))))) ∧
  (∀ desc n2 r, s.updQ d.val = [it] → it.applying = some n2 → it.desc = some desc → updPlan desc = some p →
    s.oldOwner it.owner = false → it.owner.inst = some i → s.updCheck (s.updEng d.val it) p = (0, r) →
    (∀ o ∈ State.updWrites p, o.1 + o.2 ≤ 0x18000000000) →
    (State.updWrites p).Pairwise (fun a b => a.1 + a.2 ≤ b.1 ∨ b.1 + b.2 ≤ a.1) →
    let (wb, mb, vb, nf) := s.updCompute p n2
    Answers (exec (.updateApplyComplete d) s) (fun t => t.updQ d.val = [] ∧
      t.fld (R.MEM_UPD_STATUS d.val) F.MEM_UPD_STATUS_last_status = 0 ∧
      t.reg (R.MEM_UPD_ELEMENTS d.val) = s.reg (R.MEM_UPD_ELEMENTS d.val) + BitVec.ofNat 64 p.count ∧
      t.bytesAt p.w (State.updLen p p.fw) = packBits p.fw.bits wb ∧ t.bytesAt p.m (State.updLen p p.fm) = packBits p.fm.bits mb ∧
      (p.hasV = true → t.bytesAt p.v (State.updLen p p.fm) = packBits p.fm.bits vb) ∧
      (∀ a, (∀ o ∈ State.updWrites p, a < o.1 ∨ o.1 + o.2 ≤ a) → t.byteAt a = s.byteAt a) ∧
      (nf = true → t.regBit (R.MEM_UPD_FLAGS d.val) i.val = true ∧ t.regBit (R.MEM_UPD_FLAGS d.val) (8 + i.val) = true) ∧
      (nf = false → t.reg (R.MEM_UPD_FLAGS d.val) = s.reg (R.MEM_UPD_FLAGS d.val)) ∧
      ∀ w g m, p.count = 1 → s.updRead p.w p.fw 1 = [w] → s.updRead p.g p.fg 1 = [g] → s.updRead p.m p.fm 1 = [m] →
        let h := p.hyper n2
        let gh := fp32Mul (fp32Mul g p.gscale) h.clip
        let q := fp32Fma p.wd w gh
        let mean := fp32Fma p.b1 m (fp32Mul (fp32Sub fp32One p.b1) gh)
        let stored := fun (v : W32) => packBits p.fw.bits (updStore p p.fw p.cw 0 p.w [v]).1
        (p.opt = 0 → t.bytesAt p.w (State.updLen p p.fw) = stored (fp32Fma (fp32Neg p.lr) (fp32Fma p.b1 m q) w)) ∧
        (p.opt = 1 → t.bytesAt p.w (State.updLen p p.fw) =
          stored (fp32Fma (fp32Neg p.lr) (fp32Fma p.b1 (fp32Fma p.b1 m q) q) w)) ∧
        (∀ v, (p.opt = 2 ∨ p.opt = 3) → s.updRead p.v p.fm 1 = [v] →
          let gm := if p.opt = 2 then q else gh
          let m' := fp32Fma p.b1 m (fp32Mul (fp32Sub fp32One p.b1) gm)
          let v' := fp32Fma p.b2 v (fp32Mul (fp32Sub fp32One p.b2) (fp32Mul gm gm))
          let ratio := fp32Div (fp32Mul m' h.k1) (fp32Add (fp32Sqrt (fp32Mul v' h.k2)) p.eps)
          t.bytesAt p.w (State.updLen p p.fw) =
            stored (fp32Fma (fp32Neg p.lr) (if p.opt = 2 then ratio else fp32Fma p.wd w ratio) w)) ∧
        (p.opt = 4 → t.bytesAt p.w (State.updLen p p.fw) =
          stored (fp32Fma (fp32Neg p.lr) (fp32Fma p.wd w (fp32Sign mean)) w))))

/-- A vote from its item to its tray head (R267, R268, R272, R275): the item waits for its collectives; formation
reads and clears the instance's flags; a tray head gathers records and sends them once; a module without the decision
asks for it. -/
def Obligations.VoteItems : Prop :=
  ∀ (s : State) (d : DieId) (c : CoreId) (i : InstId) (x : DmaItem) (it : VoteItem) (o : OpenStep) (r : VoteRec) (k : Nat)
    (f : Nat) (b : List Byte),
  let v := s.vote i.val
  let off := R.SEAM_VOTE_STATUS i.val
  ((State.seamUnits d).findSome? (fun u => s.waitingItem [u] 0x4A (fun it => State.seamDie u it == d.val && s.isVoteItem d.val it)) =
      some (.core c, x) → x.owner.inst = some i →
    let w := fun k => s.natAt (dw x.desc 1 0 48 + 8 * k) 8
    let clean := w 0 / 256 = 0 ∧ w 2 / 2 ^ 32 = 0 ∧ w 3 / 2 ^ 16 = 0 ∧ w 4 = 0 ∧ w 5 = 0 ∧ w 6 = 0 ∧ w 7 = 0
    let Ends := fun (st : Nat) => Answers (exec (.squallVote d) s) (fun t => (t.vote i.val).items = v.items ∧ SameBytes s t ∧
      t.fld (R.SEAM_ENG_STATUS d.val) F.SEAM_ENG_STATUS_last_status = st ∧
      ((t.dmaList (.core c)).find? (fun y => y.id == x.id)).map DmaItem.done = some (some st))
    (¬ clean → Ends 0x02) ∧
    (clean → s.semForeign (some i.val) (w 3 % 2 ^ 16) = false →
      (s.voteOn i.val = false → Ends 0) ∧
      (s.voteOn i.val = true → v.held = true → Ends 0x34) ∧
      (s.voteOn i.val = true → v.held = false → Answers (exec (.squallVote d) s) (fun t => SameBytes s t ∧
        (t.vote i.val).items = v.items ++ [⟨w 1, w 2 % 2 ^ 32, w 3 % 2 ^ 16, x.owner, ⟨.core c, x.id⟩, d, false, s.seamIds i.val⟩])))) ∧
  (s.modState ≠ 7 → v.items = [it] → it.voted = false →
    ((∃ n ∈ it.waitsFor, n ∈ s.seamIds i.val) → exec (.voteFormation i) s = .next s) ∧
    ((∀ n ∈ it.waitsFor, n ∉ s.seamIds i.val) → v.history = [] → v.opened = [] → v.held = false → v.fenced = false →
      s.isPodLeader i.val = false → s.isJobLeader i.val = false → s.isTrayHead i.val = true → s.childrenOf i.val ≠ [] →
      let core := fun (p : Nat → Nat) => (List.range 128).any (fun c => s.ownsCore i.val c && decide (p c = 1))
      let eng := (List.range 4).any (fun d => s.regBit (R.SEAM_ENG_FLAGS d) i.val || s.regBit (R.MEM_UPD_FLAGS d) i.val)
      let causes := (if core (fun c => s.fld (R.CORE_FP_FLAGS c) F.CORE_FP_FLAGS_nonfinite_step) || eng then 1 else 0) +
        (if core (fun c => s.fld (R.CORE_ARR_STATUS c) F.CORE_ARR_STATUS_selvage_step) then 2 else 0) +
        (if s.regBit R.MEM_LTF_STEP i.val then 4 else 0) + (if v.resetCause then 16 else 0)
      Answers (exec (.voteFormation i) s) (fun t => (t.vote i.val).items = [{ it with voted := true }] ∧ t.fld off F.SEAM_VOTE_STATUS_state = 1 ∧
        (t.openOf i.val it.step).map (fun o => (o.tray, o.traySent)) = some ([⟨s.podDevice, decide (causes = 0), causes,
          fp32SumFrom (v.gradSums.map (fun e => e.2.1)), fp32SumFrom (v.gradSums.map (fun e => e.2.2))⟩], false) ∧
        (∀ c : CoreId, s.ownsCore i.val c.val = true → t.fld (R.CORE_FP_FLAGS c.val) F.CORE_FP_FLAGS_nonfinite_step = 0 ∧
          t.fld (R.CORE_ARR_STATUS c.val) F.CORE_ARR_STATUS_selvage_step = 0) ∧
        (∀ d : DieId, t.regBit (R.SEAM_ENG_FLAGS d.val) i.val = false ∧ t.regBit (R.MEM_UPD_FLAGS d.val) i.val = false) ∧
        t.regBit R.MEM_LTF_STEP i.val = false ∧ (t.vote i.val).gradSums = []))) ∧
  (s.isPodLeader i.val = false → s.isTrayHead i.val = true → v.opened = [o] → o.traySent = false →
    (s.parentOf i.val = s.podDevice → Answers (exec (.trayTimerExpiry i o.step) s) (fun t =>
      let recs := o.tray ++ ((s.childrenOf i.val).filter (fun e => !o.tray.any (fun r => r.device == e))).map absentRec
      (t.vote i.val).opened = [{ o with traySent := true }] ∧
      t.localMsgs = s.localMsgs ++ [(i.val, 0, s.squallMsg i.val 1 o.step s.podDevice s.podNumber recs.length 0
        (recs.flatMap State.voteRecBytes))])) ∧
    (s.localMsgs[k]? = some (i.val, f, b) → (smsgOf b).type = 1 → (smsgOf b).step = o.step → (smsgOf b).votes = [r] →
      ((∃ y ∈ o.tray, y.device = r.device) → Answers (exec (.voteMsg (.loopback k)) s) (fun t =>
        (t.vote i.val).opened = [o] ∧
        (t.reg (R.SEAM_DROPPED_RECORDS i.val)).toNat = min 0xFFFFFFFF ((s.reg (R.SEAM_DROPPED_RECORDS i.val)).toNat + 1))) ∧
      ((∀ y ∈ o.tray, y.device ≠ r.device) → s.decisionOf i.val o.step = none → (∃ e ∈ s.childrenOf i.val, e ≠ r.device ∧ ∀ y ∈ o.tray, y.device ≠ e) →
        Answers (exec (.voteMsg (.loopback k)) s) (fun t => (t.vote i.val).opened = [{ o with tray := o.tray ++ [r] }] ∧
          t.regs = s.regs)))) ∧
  (s.holdingItem i.val = some it →
    (s.isJobLeader i.val = false → Answers (exec (.queryInterval i) s) (fun t => t.fld off F.SEAM_VOTE_STATUS_holding = 1 ∧
      (t.reg (R.SEAM_QUERIES i.val)).toNat = min 0xFFFFFFFF ((s.reg (R.SEAM_QUERIES i.val)).toNat + 1) ∧ t.votes = s.votes)) ∧
    (s.fld off F.SEAM_VOTE_STATUS_holding = 0 ∨ v.logged = true → exec (.decisionWait i) s = .next s) ∧
    (s.fld off F.SEAM_VOTE_STATUS_holding = 1 → v.logged = false → s.ras.intake = [] →
      Answers (exec (.decisionWait i) s) (fun t => (t.vote i.val).logged = true ∧
        t.ras.intake.map (fun e => (e.entry.cls, e.entry.code, e.entry.value)) = [(1, 0x32, it.step)])))

/-- The decision (R272 to R275, R281, R284): a pod leader's vote of its members' records in device order, the job
leader's COMMIT or SKIP, the counts of consecutive skips and the fence at the third, and what every module keeps of
it. -/
def Obligations.VoteDecisions : Prop :=
  ∀ (s : State) (i : InstId) (o : OpenStep) (k f : Nat) (b : List Byte),
  let v := s.vote i.val
  let x := smsgOf b
  let Recorded := fun (t : State) (e : Decided) => t.decisionOf i.val e.step = some e ∧
    t.reg (R.SEAM_STEP_DECIDED i.val) = BitVec.ofNat 64 e.step ∧
    t.reg (R.SEAM_COMMITS i.val) = s.reg (R.SEAM_COMMITS i.val) + (if e.commit then 1 else 0) ∧
    t.reg (R.SEAM_SKIPS i.val) = s.reg (R.SEAM_SKIPS i.val) + (if e.commit then 0 else 1) ∧
    t.fld (R.SEAM_VOTE_STATUS i.val) F.SEAM_VOTE_STATUS_last_commit = (if e.commit then 1 else 0) ∧
    t.fld (R.SEAM_VOTE_STATUS i.val) F.SEAM_VOTE_STATUS_last_causes = e.causes % 256 ∧
    (fp32NonFinite e.n2 = false → fp32NonFinite e.l = false →
      t.reg (R.SEAM_GNS_SUMS i.val) = BitVec.ofNat 64 (e.l.toNat + e.n2.toNat * 2 ^ 32) ∧
      t.reg (R.SEAM_GNS_STEP i.val) = BitVec.ofNat 64 e.step)
  let Open := fun (step : Nat) => v.opened = [o] ∧ o.step = step ∧ step < 2 ^ 64 - 1 ∧ s.decisionOf i.val step = none ∧
    (∀ l, s.lastDecided i.val = some l → l < step) ∧ (∀ n, v.next = some n → n ≤ step) ∧ v.held = false
  let Decides := fun (e : Instr) (members : List VoteRec) => Answers (exec e s) (fun t =>
    let mem := s.membersOf i.val
    let found := fun d => members.find? (fun r => r.device == d)
    let present := mem.filterMap (fun d => (found d).filter (fun r => !r.absent))
    let all := mem.all (fun d => present.any (fun r => r.device == d && r.commit))
    let n2 := fp32SumFrom (present.map (fun r => r.normSq))
    let commit := all && s.normOk i.val n2
    let gone := fun d => ((found d).map VoteRec.absent).getD true
    let count := fun d => if commit = false ∧ (gone d = true ∨ ∃ r, found d = some r ∧ countedCauses r.causes = true)
      then v.skipCounts.get 0 (s.podNumber * 64 + d) + 1 else 0
    (∃ causes, Recorded t ⟨o.step, commit, causes, n2, fp32SumFrom (present.map (fun r => r.localSq)), 0⟩ ∧
      (bitOf causes 5 = true ↔ (∃ d ∈ mem, ∃ r, found d = some r ∧ bitOf r.causes 5 = true) ∨ all = true ∧ commit = false) ∧
      ((∃ d ∈ mem, count d = 3) → bitOf causes 6 = true)) ∧
    (∀ d ∈ mem, (t.vote i.val).skipCounts.get 0 (s.podNumber * 64 + d) = count d) ∧
    (commit = false → ∀ d ∈ mem, t.regBit (R.SEAM_LAST_CAUSES i.val) d =
      (gone d || ((found d).map (fun r => moduleCauses r.causes)).getD false)) ∧
    ((t.vote i.val).held = true ↔ ∃ d ∈ mem, count d = 3))
  (s.isPodLeader i.val = true → s.isJobLeader i.val = true → s.onePod i.val = true → Open o.step → o.podFormed = false →
    Decides (.podDeadlineExpiry i o.step) o.members ∧
    (∀ r, s.localMsgs[k]? = some (i.val, f, b) → x.type = 1 → x.step = o.step → x.votes = [r] →
      (∀ y ∈ o.members, y.device ≠ r.device) →
      (∀ d ∈ s.membersOf i.val, (o.members ++ [r]).any (fun y => y.device == d && !y.absent) = true) →
      Decides (.voteMsg (.loopback k)) (o.members ++ [r]))) ∧
  (s.isPodLeader i.val = true → Open o.step → s.localMsgs[k]? = some (i.val, f, b) → x.type = 1 → x.votes.length = 1 →
    (x.step < o.step → Answers (exec (.voteMsg (.loopback k)) s) (fun t => t.votes = s.votes ∧
      (t.reg (R.SEAM_LATE_VOTES i.val)).toNat = min 0xFFFFFFFF ((s.reg (R.SEAM_LATE_VOTES i.val)).toNat + 1) ∧
      SameRegs [R.SEAM_LATE_VOTES i.val] s t)) ∧
    (o.step + 1 < x.step → s.decisionOf i.val x.step = none → Answers (exec (.voteMsg (.loopback k)) s) (fun t => t.votes = s.votes ∧
      (t.reg (R.SEAM_DROPPED_RECORDS i.val)).toNat = min 0xFFFFFFFF ((s.reg (R.SEAM_DROPPED_RECORDS i.val)).toNat + 1) ∧
      SameRegs [R.SEAM_DROPPED_RECORDS i.val] s t))) ∧
  (s.isPodLeader i.val = false → s.isJobLeader i.val = true → s.onePod i.val = false → Open o.step →
    ((∃ p ∈ s.podsOf i.val, ∀ y ∈ o.pods, y.pod ≠ p) → Answers (exec (.jobDeadlineExpiry i o.step) s) (fun t =>
      ∃ e, Recorded t e ∧ e.step = o.step ∧ e.commit = false ∧ bitOf e.causes 3 = true)) ∧
    (∀ r, s.localMsgs[k]? = some (i.val, f, b) → x.type = 2 → x.step = o.step → x.pods = [r] → (∀ y ∈ o.pods, y.pod ≠ r.pod) →
      ((∃ p ∈ s.podsOf i.val, ∀ y ∈ o.pods ++ [r], y.pod ≠ p) → Answers (exec (.podVoteMsg (.loopback k)) s) (fun t =>
        (t.vote i.val).opened = [{ o with pods := o.pods ++ [r] }])) ∧
      ((∀ p ∈ s.podsOf i.val, ∃ y ∈ o.pods ++ [r], y.pod = p) →
        let recs := (s.podsOf i.val).filterMap (fun p => (o.pods ++ [r]).find? (fun y => y.pod == p))
        let n2 := fp32SumFrom (recs.map (fun y => y.normSq))
        Answers (exec (.podVoteMsg (.loopback k)) s) (fun t => ∃ e, Recorded t e ∧ e.step = o.step ∧ e.n2 = n2 ∧
          e.l = fp32SumFrom (recs.map (fun y => y.localSq)) ∧ e.commit = (recs.all (fun y => y.commit) && s.normOk i.val n2))))) ∧
  (s.localMsgs[k]? = some (i.val, f, b) → x.type = 3 → s.isJobLeader i.val = false →
    ((s.decisionOf i.val x.step).isSome = true → exec (.decisionMsg (.loopback k)) s = .next { s with localMsgs := dropAt s.localMsgs k }) ∧
    (∀ it : VoteItem, s.decisionOf i.val x.step = none → (∀ l, s.lastDecided i.val = some l → l < x.step) → x.step < 2 ^ 64 - 1 → v.opened = [] →
      v.items = [it] → it.voted = true → it.step = x.step → Answers (exec (.decisionMsg (.loopback k)) s) (fun t =>
        Recorded t ⟨x.step, bitOf x.body 0, bitsOf x.body 8 8, BitVec.ofNat 32 (bitsOf x.body 32 32), (State.voteRecOf x.recs).localSq, 0⟩ ∧
        (t.vote i.val).items = [] ∧ t.fld (R.SEAM_VOTE_STATUS i.val) F.SEAM_VOTE_STATUS_holding = 0))) ∧
  (s.localMsgs[k]? = some (i.val, f, b) → x.type = 4 →
    (∀ e, s.decisionOf i.val x.step = some e → x.pod = s.podNumber → x.dev = s.podDevice →
      Answers (exec (.queryMsg (.loopback k)) s) (fun t => t.votes = s.votes ∧ t.regs = s.regs ∧
        t.localMsgs = dropAt s.localMsgs k ++ [(i.val, 0, s.decisionMsg i.val e)])) ∧
    (s.decisionOf i.val x.step = none → s.isJobLeader i.val = true →
      exec (.queryMsg (.loopback k)) s = .next { s with localMsgs := dropAt s.localMsgs k }) ∧
    (s.decisionOf i.val x.step = none → s.isJobLeader i.val = false → Answers (exec (.queryMsg (.loopback k)) s) (fun t =>
      (x.step, x.pod * 64 + x.dev) ∈ (t.vote i.val).queried)))

/-- After the decision (R276, R277, R281 to R283): STEP_DONE once every member has applied, HELD and the fence where
one failed or is late. -/
def Obligations.AfterDecision : Prop :=
  ∀ (s : State) (i : InstId) (k f step : Nat) (b : List Byte),
  let v := s.vote i.val
  let x := smsgOf b
  let key := x.pod * 64 + x.dev
  let Holds := fun (t : State) (pod dev : Nat) => (t.vote i.val).held = true ∧ (t.vote i.val).items = [] ∧
    (t.vote i.val).fenced = (v.fenced || (decide (pod = s.podNumber) && decide (dev = s.podDevice))) ∧
    t.fld (R.SEAM_VOTE_STATUS i.val) F.SEAM_VOTE_STATUS_state = (if (t.vote i.val).fenced then 5 else 4) ∧
    t.reg (R.SEAM_STEP_COMMITTED i.val) = s.reg (R.SEAM_STEP_COMMITTED i.val)
  (s.localMsgs[k]? = some (i.val, f, b) → x.type = 5 → s.isJobLeader i.val = true → v.applyTimer = [x.step] → x.step < 2 ^ 64 →
    (bitOf x.body 0 = true → Answers (exec (.appliedMsg (.loopback k)) s) (fun t => Holds t x.pod x.dev ∧
      t.fld (R.SEAM_VOTE_STATUS i.val) F.SEAM_VOTE_STATUS_fenced_device = x.dev)) ∧
    (bitOf x.body 0 = false → (x.step, key) ∉ v.applied → (∀ m ∈ s.jobMembers i.val, m = key ∨ (x.step, m) ∈ v.applied) →
      Answers (exec (.appliedMsg (.loopback k)) s) (fun t => t.reg (R.SEAM_STEP_COMMITTED i.val) = BitVec.ofNat 64 x.step ∧
        (t.vote i.val).applyTimer = [] ∧ (t.vote i.val).held = v.held)) ∧
    (bitOf x.body 0 = false → (x.step, key) ∉ v.applied → (∃ m ∈ s.jobMembers i.val, m ≠ key ∧ (x.step, m) ∉ v.applied) →
      Answers (exec (.appliedMsg (.loopback k)) s) (fun t => t.regs = s.regs ∧ (t.vote i.val).applied = v.applied ++ [(x.step, key)]))) ∧
  (s.localMsgs[k]? = some (i.val, f, b) → s.isJobLeader i.val = false →
    (x.type = 6 → Answers (exec (.stepDoneMsg (.loopback k)) s) (fun t =>
      t.reg (R.SEAM_STEP_COMMITTED i.val) = BitVec.ofNat 64 x.step ∧ (∀ a ∈ (t.vote i.val).applies, a.step ≠ x.step))) ∧
    (x.type = 7 → Answers (exec (.fenceMsg (.loopback k)) s) (fun t =>
      Holds t (State.podRecOf x.recs).pod (((bitList (State.podRecOf x.recs).causeDevices 64).head?).getD 0)))) ∧
  (step ∈ v.applyTimer → s.isJobLeader i.val = true → ∀ m, m / 64 < 128 →
    (s.jobMembers i.val).filter (fun n => !v.applied.contains (step, n)) = [m] →
    Answers (exec (.applyLate i step) s) (fun t => Holds t (m / 64) (m % 64) ∧
      t.fld (R.SEAM_VOTE_STATUS i.val) F.SEAM_VOTE_STATUS_fenced_device = m % 64))

/-- A Seam item on its engine (R287, R288, R290, R291, R293): what ends it before any byte moves, and what each
collective leaves where a group is one module: every destination holds the dies' data, combined in die order. -/
def Obligations.SeamItems : Prop :=
  ∀ (s : State) (d : DieId) (i : InstId) (it : SeamItem) (g : Grp) (cmd : Instr),
  let e := s.seamItemEng d.val it
  let x := BitVec.ofNat 1024 (s.natAt it.src 128)
  let b := SeamDesc.bytes x
  let dsts := (List.range 4).filter (fun k => SeamDesc.dst x k != 0)
  let off := R.SEAM_GRP_CALL i.val (SeamDesc.group x)
  let Ends := fun (st calls : Nat) (P : State → Prop) => Answers (exec cmd s) (fun t => t.seamQ d.val = [] ∧
    t.fld (R.SEAM_ENG_STATUS d.val) F.SEAM_ENG_STATUS_last_status = st ∧
    t.reg (R.SEAM_ENG_ITEMS d.val) = s.reg (R.SEAM_ENG_ITEMS d.val) + 1 ∧ t.reg off = s.reg off + BitVec.ofNat 64 calls ∧
    ((s.dmaList it.origin.unit).any (fun y => y.id == it.origin.id) = true →
      ((t.dmaList it.origin.unit).find? (fun y => y.id == it.origin.id)).map DmaItem.done = some (some st)) ∧ P t)
  let Leaves := fun (k : Nat) (bs : List Byte) (t : State) => t.bytesAt (SeamDesc.dst x k) bs.length = bs
  let Frame := fun (len : Nat → Nat) (t : State) => ∀ a, (∀ k ∈ dsts, a < SeamDesc.dst x k ∨ SeamDesc.dst x k + len k ≤ a) → t.byteAt a = s.byteAt a
  let Fits := fun (len : Nat → Nat) => (∀ k ∈ dsts, SeamDesc.dst x k + len k ≤ 0x18000000000 ∧ s.engWriteSt e (SeamDesc.dst x k) (len k) = 0) ∧
    dsts.Pairwise (fun j k => SeamDesc.dst x j + len j ≤ SeamDesc.dst x k ∨ SeamDesc.dst x k + len k ≤ SeamDesc.dst x j)
  s.seamQ d.val = [it] → it.started = false → it.stage = 0 → it.fail = none → it.work = [] → it.blocks = [] → it.normSq = 0 →
  it.owner.inst = some i → s.oldOwner it.owner = false →
  (cmd, SeamDesc.coll x) ∈ [(Instr.allReduce d, 0), (.reduceScatter d, 1), (.allGather d, 2), (.broadcast d, 3), (.allToAll d, 4), (.permute d, 5)] →
  ((s.holdsDie it.owner d.val = false ∨ it.src % 64 ≠ 0) → Ends 0x02 0 (SameBytes s)) ∧
  (s.holdsDie it.owner d.val = true → it.src % 64 = 0 → s.engReadSt e it.src 64 = 0 → s.natAt it.src 1 ≠ 0x32 → Ends 0x01 0 (SameBytes s)) ∧
  (s.holdsDie it.owner d.val = true → it.src % 128 = 0 → s.engReadSt e it.src 64 = 0 → s.engReadSt e it.src 128 = 0 → s.natAt it.src 1 = 0x32 →
    (s.groupOf i.val (SeamDesc.group x) = none → Ends 0x02 0 (SameBytes s)) ∧
    (s.groupOf i.val (SeamDesc.group x) = some g → g.home ≠ d.val → Ends 0x02 0 (SameBytes s)) ∧
    (s.groupOf i.val (SeamDesc.group x) = some g → g.home = d.val → s.txns = [] → s.seamNotes = [] → SeamDesc.bad x = true →
      Ends 0x02 1 (SameBytes s)) ∧
    (s.groupOf i.val (SeamDesc.group x) = some g → g.home = d.val → g.sizes = (1, 1, 1) → s.seamNotes = [] → s.seamCheck e g x = 0 →
      let piece := fun k => byteRange b (ownRange g b k 1)
      let len := fun k => (piece (g.dies.idxOf k)).2 - (piece (g.dies.idxOf k)).1
      let sum := (seamFold (SeamDesc.fmt x) (SeamDesc.red x) (g.dies.map (fun k => s.bytesAt (SeamDesc.src x k) b))).1
      (SeamDesc.coll x ≤ 1 → (∀ k ∈ g.dies, s.engReadSt e (SeamDesc.src x k) b = 0) →
        (SeamDesc.coll x = 0 → Fits (fun _ => b) → Ends 0 1 (fun t => (∀ k ∈ dsts, Leaves k sum t) ∧ Frame (fun _ => b) t)) ∧
        (SeamDesc.coll x = 1 → (∀ k ∈ dsts, k ∈ g.dies) → Fits len → Ends 0 1 (fun t => Frame len t ∧ ∀ k ∈ dsts,
          Leaves k ((sum.drop (piece (g.dies.idxOf k)).1).take (len k)) t))) ∧
      (SeamDesc.coll x = 2 → (∀ k ∈ g.dies, s.engReadSt e (SeamDesc.src x k) (len k) = 0) → Fits (fun _ => b) →
        Ends 0 1 (fun t => Frame (fun _ => b) t ∧ ∀ k ∈ dsts,
          Leaves k (g.dies.flatMap (fun j => s.bytesAt (SeamDesc.src x j) (len j))) t)) ∧
      (SeamDesc.coll x = 3 → s.engReadSt e (SeamDesc.src x 0) b = 0 → Fits (fun _ => b) →
        Ends 0 1 (fun t => Frame (fun _ => b) t ∧ ∀ k ∈ dsts, Leaves k (s.bytesAt (SeamDesc.src x 0) b) t)) ∧
      (SeamDesc.coll x = 4 → s.engReadSt e (SeamDesc.src x 0) b = 0 → dsts = [0] → Fits (fun _ => b) →
        Ends 0 1 (fun t => Frame (fun _ => b) t ∧ Leaves 0 (s.bytesAt (SeamDesc.src x 0) b) t)) ∧
      (∀ o n : PermEntry, SeamDesc.coll x = 5 → s.permTable x = [o, n] → o.incoming = false → n.incoming = true →
        s.engReadSt e o.addr o.bytes = 0 → s.engWriteSt e n.addr n.bytes = 0 → n.addr + n.bytes ≤ 0x18000000000 →
        (n.bytes ≠ o.bytes → State.overlapped [o, n] = [] → s.engWriteSt e (SeamDesc.scratch x) 0 = 0 →
          Answers (exec cmd s) (fun t => t.seamQ d.val = [] ∧ t.fld (R.SEAM_ENG_STATUS d.val) F.SEAM_ENG_STATUS_last_status = 0x33)) ∧
        (n.bytes = o.bytes → (let room := ((State.overlapped [o, n]).map (fun p => p.bytes)).sum
          s.engWriteSt e (SeamDesc.scratch x) room = 0 ∧ SeamDesc.scratch x + room ≤ 0x18000000000) →
          Ends 0 1 (fun t => t.bytesAt n.addr n.bytes = s.bytesAt o.addr o.bytes)))))

/-- Seam messages and groups (R287, R290, R296, R298, R300, R303 to R305): an item joins its queue; a peer's chunk is
combined in rank order; a mismatch, an ABORT or a silent peer ends the item; a GRANT is kept; a group is enabled only
by a record that keeps to its table. -/
def Obligations.SeamMessages : Prop :=
  ∀ (s : State) (d : DieId) (it : SeamItem) (g : Grp) (k kind st : Nat) (b : List Byte) (j : SessId) (parts : List RxPkt),
  let x := State.seamDesc it
  let i := State.seamInst it
  let h := State.seamHead b
  let off := R.SEAM_GRP_BASE
  let Comes := fun (type : Nat) => s.msgAt k 1 = some (j, b, parts) ∧ h.type = type ∧ (s.sess j.val).inst = h.inst ∧
    genOlder h.gen (s.sess j.val).peerGen = false ∧ ∀ r ∈ parts, genOlder r.pkt.tgen (s.gen h.inst) = false
  let Runs := s.seam = [(d.val, [it])] ∧ it.started = true ∧ it.fail = none ∧ i = h.inst ∧ SeamDesc.group x = h.group ∧ it.call = h.call ∧
    s.groupOf h.inst h.group = some g ∧ (seamStages g (SeamDesc.coll x))[it.stage]? = some (kind, st) ∧ s.txns = []
  let Ends := fun (code : Nat) (t : State) => t.seamQ d.val = [] ∧ t.fld (R.SEAM_ENG_STATUS d.val) F.SEAM_ENG_STATUS_last_status = code ∧
    t.reg (R.SEAM_ENG_ITEMS d.val) = s.reg (R.SEAM_ENG_ITEMS d.val) + 1
  (∀ c y, s.oldOwner y.owner = false → (State.seamUnits d).findSome? (fun u =>
      s.waitingItem [u] 0x4A (fun it => State.seamDie u it == d.val && !s.isVoteItem d.val it)) = some (.core c, y) →
    let src := dw y.desc 1 0 48
    let e := State.engOf y.owner y.snap ⟨4, d.val, d.val⟩
    (s.seamQ d.val = [] → (s.holdsDie y.owner d.val = false ∨ src % 64 ≠ 0) → Answers (exec (.seamItem d) s) (fun t =>
      t.seamQ d.val = [] ∧ SameBytes s t ∧ t.reg (R.SEAM_ENG_ITEMS d.val) = s.reg (R.SEAM_ENG_ITEMS d.val) + 1 ∧
      ((t.dmaList (.core c)).find? (fun z => z.id == y.id)).map DmaItem.done = some (some 0x02))) ∧
    (s.seamQ d.val = [it] → it.started = true → y.owner.inst = it.owner.inst → s.holdsDie y.owner d.val = true → src % 128 = 0 →
      s.engReadSt e src 64 = 0 → s.engReadSt e src 128 = 0 → s.natAt src 1 = 0x32 →
      SeamDesc.group (BitVec.ofNat 1024 (s.natAt src 128)) = SeamDesc.group x → s.groupOf i (SeamDesc.group x) = some g → g.home = d.val →
      Answers (exec (.seamItem d) s) (fun t => (t.seamQ d.val).map (fun z => (z.id, z.src, z.started)) = [(it.id, it.src, true), (y.id, src, false)] ∧
        t.fld (R.SEAM_ENG_STATUS d.val) F.SEAM_ENG_STATUS_active = 1 ∧ SameBytes s t))) ∧
  (Comes 1 → Runs →
    (SeamDesc.coll x ≠ 5 → h.coll ≠ 5 → h.bytes ≠ SeamDesc.bytes x → Answers (exec (.dataMsg k) s) (Ends 0x33)) ∧
    (SeamDesc.coll x ≠ 5 → h.coll ≠ 5 → h.bytes = SeamDesc.bytes x → (h.coll ≠ SeamDesc.coll x ∨ h.red ≠ SeamDesc.red x ∨ h.fmt ≠ SeamDesc.fmt x) →
      Answers (exec (.dataMsg k) s) (Ends 0x35)) ∧
    (∀ die w r0, kind = 0 → st = 1 → h.stage = 1 → h.die = die → SeamDesc.coll x = 1 → h.coll = 1 → h.bytes = SeamDesc.bytes x → h.red = SeamDesc.red x →
      h.fmt = SeamDesc.fmt x → g.dies = [die] → g.sizes = (2, 1, 1) → g.coord h.rank 1 = r0 → r0 < 2 → r0 ≠ g.own 1 → SeamDesc.grad x = false →
      it.stage = 1 → it.opened = true → it.out = [] → it.inbox = [] → it.work = [(0, w)] → it.given.get 0 (seamKey 1 r0 die) = 1 →
      g.sess 1 r0 die < 4096 → (s.sess (g.sess 1 r0 die)).created = true → (s.sess (g.sess 1 r0 die)).state = .opened →
      let len := rangeLen (SeamDesc.bytes x) (ownRange g (SeamDesc.bytes x) 0 2)
      let mine := sliceOf (SeamDesc.bytes x) 0 w (ownRange g (SeamDesc.bytes x) 0 2)
      let a := SeamDesc.dst x die
      (b.drop 32).length = len → mine.length = len → len % (addSize (SeamDesc.fmt x)).getD 1 = 0 → a ≠ 0 → a + len ≤ 0x18000000000 →
      s.engWriteSt (s.seamItemEng d.val it) a len = 0 → Answers (exec (.dataMsg k) s) (fun t => Ends 0 t ∧
        t.bytesAt a len = (seamCombine (SeamDesc.fmt x) (SeamDesc.red x) (if r0 = 0 then b.drop 32 else mine) (if r0 = 0 then mine else b.drop 32)).1 ∧
        (∀ y, y < a ∨ a + len ≤ y → t.byteAt y = s.byteAt y)))) ∧
  (Comes 2 → s.groupOf h.inst h.group = some g → s.seam = [] → Answers (exec (.grantMsg k) s) (fun t =>
    t.seamNotes = s.seamNotes ++ [⟨h.inst, h.group, h.call, h.stage, g.coord h.rank h.stage, h.die, h.arg, none⟩] ∧ SameBytes s t)) ∧
  (Comes 3 →
    (Runs → h.arg % 256 ≠ 0x43 → Answers (exec (.abortMsg k) s) (Ends (h.arg % 256))) ∧
    (s.groupOf h.inst h.group = some g → s.seam = [] →
      (h.call < (s.reg (R.SEAM_GRP_CALL h.inst h.group)).toNat → Answers (exec (.abortMsg k) s) (fun t => t.seamNotes = s.seamNotes ∧
        (t.reg (R.SEAM_ENG_ABORTS g.home)).toNat = min 0xFFFFFFFF ((s.reg (R.SEAM_ENG_ABORTS g.home)).toNat + 1))) ∧
      ((s.reg (R.SEAM_GRP_CALL h.inst h.group)).toNat ≤ h.call → Answers (exec (.abortMsg k) s) (fun t =>
        t.seamNotes.map (fun n => (n.call, n.abort)) = s.seamNotes.map (fun n => (n.call, n.abort)) ++ [(h.call, some (h.arg % 256))])))) ∧
  (∀ r die n, s.seam = [(d.val, [it])] → it.started = true → it.opened = true → s.groupOf i (SeamDesc.group x) = some g →
    (seamStages g (SeamDesc.coll x))[it.stage]? = some (kind, st) → s.txns = [] → (r, die, some n) ∈ State.seamSources g it kind st →
    ((State.seamGot it r die).map (fun c => c.data.length)).sum < n → Answers (exec (.seamPeerTimeout d 0) s) (Ends 0x36)) ∧
  (∀ (req : Requester) (y : InstId) (n : Fin 16) (v : Word), s.reach req (off y.val n.val) = true → s.regBit (off y.val n.val) 48 = false →
    let a := bitsOf v.toNat 12 36 * 4096
    (bitOf v.toNat 48 = false → Answers (exec (.groupEnable req y n v) s) (fun t => t.regBit (off y.val n.val) 48 = false ∧
      t.fld (off y.val n.val) F.SEAM_GRP_BASE_base = bitsOf v.toNat 0 48 ∧ SameRegs [off y.val n.val] s t)) ∧
    (bitOf v.toNat 48 = true → s.engineRead (.inst y.val) a 4096 = 0 →
      (∀ r, grpOf (s.bytesAt a 4096) = some r → Answers (exec (.groupEnable req y n v) s) (fun t => t.groupOf y.val n.val = some r ∧
        t.regBit (off y.val n.val) 49 = false ∧ SameRegs [off y.val n.val] s t)) ∧
      (grpOf (s.bytesAt a 4096) = none → Answers (exec (.groupEnable req y n v) s) (fun t => t.groupOf y.val n.val = none ∧
        t.regBit (off y.val n.val) 48 = false ∧ t.regBit (off y.val n.val) 49 = true))))

/-- What a received frame becomes (R311, R314, R324, R326, R333): an error, a stranger, a packet with a wrong tag, a
duplicate, or a packet that waits for its effect. Nothing but the counters changes for the first three. -/
def Obligations.FrameReceive : Prop :=
  ∀ (s : State) (f : Frame) (p : Pkt) (k : SessId),
  let n := f.port.val
  let x := s.sess p.dstSess
  let Counts := fun (r : Nat) (l : List Nat) => Answers (exec (.frameReceive f) s) (fun t =>
    (t.reg r).toNat = min 0xFFFFFFFF ((s.reg r).toNat + 1) ∧ SameRegs (r :: l) s t ∧ t.sessions = s.sessions ∧ t.ingress = s.ingress ∧
    t.fab = s.fab ∧ SameBytes s t)
  let seen := [R.FAB_PORT_FEC_CORR (n / 4), R.FAB_LP_RX_BYTES n, R.FAB_LP_ECN_CE n]
  let Strange := Answers (exec (.frameReceive f) s) (fun t => t.reg (R.FAB_LP_STRANGER_DROP n) = s.reg (R.FAB_LP_STRANGER_DROP n) + 1 ∧
    SameRegs (R.FAB_LP_STRANGER_DROP n :: seen) s t ∧ t.sessions = s.sessions ∧ t.ingress = s.ingress ∧ t.fab = s.fab ∧ SameBytes s t)
  (s.lpUp n = false → exec (.frameReceive f) s = .next s) ∧
  (s.lpUp n = true → f.fecUncorr = 0 →
    ((f.fcsOk = false ∨ f.sumsOk = false) → Counts (R.FAB_LP_RX_ERRORS n) seen) ∧
    (f.fcsOk = true → f.sumsOk = true →
      ((f.addressed = false ∨ f.plain = false ∨ f.body = .other) → Strange) ∧
      (f.addressed = true → f.plain = true → f.body = .buinby p →
        (f.udpPort ≠ s.fld R.FAB_UDP_PORT F.FAB_UDP_PORT_port → Strange) ∧
        (f.udpPort = s.fld R.FAB_UDP_PORT F.FAB_UDP_PORT_port →
          ((p.type = 0 ∨ 9 < p.type ∨ 4096 ≤ p.dstSess ∨ x.created = false ∨ x.state = .closed ∨ x.state = .failed ∨ f.srcIp ≠ x.peerIp ∨
            f.srcPort ≠ 0xC000 + x.peerIndex ∨ p.type ≠ 5 ∧ p.type ≠ 6 ∧ (x.state = .listen ∨ x.state = .opening)) → Strange) ∧
          (p.dstSess = k.val → x.created = true → x.state = .opened → f.srcIp = x.peerIp → f.srcPort = 0xC000 + x.peerIndex →
            (p.type = 1 ∨ p.type = 2) →
            (s.tagOf x p x.peerPod x.peerDevice ≠ p.tag → Counts (R.FAB_LP_AUTH_DROP n) seen) ∧
            (s.tagOf x p x.peerPod x.peerDevice = p.tag → s.ingressFits n p = true →
              (genOlder p.sgen x.peerGen = true → Counts (R.FAB_LP_STALE n) seen) ∧
              (genOlder p.sgen x.peerGen = false → f.ce = false →
                (x.rxCum + 4096 ≤ p.seq → Answers (exec (.frameReceive f) s) (fun t => t.ingress = s.ingress ∧
                  (t.sess k.val).control = x.control ∧ t.fab = s.fab)) ∧
                (p.seq < x.rxCum → Answers (exec (.frameReceive f) s) (fun t => t.ingress = s.ingress ∧
                  (t.reg (R.FAB_LP_DUPLICATES n)).toNat = min 0xFFFFFFFF ((s.reg (R.FAB_LP_DUPLICATES n)).toNat + 1) ∧
                  (t.sess k.val).control.map (fun y => (y.type, y.payload)) =
                    x.control.map (fun y => (y.type, y.payload)) ++ [(3, State.ackPayload x)])) ∧
                (x.rxCum ≤ p.seq → p.seq < x.rxCum + 4096 → p.seq ∉ x.rxSeen → s.ingress = [] →
                  (p.type = 1 → p.op ∈ [1, 2, 4, 5, 6] → Answers (exec (.frameReceive f) s) (fun t => t.ingress = [⟨f.port, k, p⟩] ∧
                    (t.sess k.val).rxCum = x.rxCum ∧ SameBytes s t)) ∧
                  (p.type = 1 → p.op = 7 → 4 < p.sub → Answers (exec (.frameReceive f) s) (fun t => t.ingress = [] ∧
                    ∃ y ∈ (t.sess k.val).control, y.type = 4 ∧ y.payload = State.nakPayload p.seq p.txn 0x01))))))))))

/-- The effect of a request and of its answer (R326, R328, R334, R335): the bytes written, the sums, the data sent
back; a NAK with the failing status where the request is refused; the transaction that the data completes. -/
def Obligations.RemoteRequests : Prop :=
  ∀ (s : State) (k : Nat) (rx : RxPkt) (cmd : Instr),
  let p := rx.pkt
  let j := rx.sess.val
  let x := s.sess j
  let n := p.payload.length
  let Naks := fun (st : Nat) => Answers (exec cmd s) (fun t => SameBytes s t ∧ (t.sess j).rxCum = x.rxCum + 1 ∧
    ∃ y ∈ (t.sess j).control, y.type = 4 ∧ y.payload = State.nakPayload p.seq p.txn st)
  (s.ingress = [rx] → p.ord = true → p.seq ≠ x.rxCum → p.type = 1 → p.op = 1 → exec (.writeMsg 0) s = .next s) ∧
  (s.ingress = [rx] → k = 0 → p.seq = x.rxCum → x.rxSeen = [] → p.type = 1 → (cmd, p.op) ∈ [(Instr.writeMsg k, 1), (.readMsg k, 2), (.addMsg k, 4), (.maxMsg k, 5), (.minMsg k, 6)] →
    (p.op ≠ 2 ∨ s.windowHeld p.addr (natOfBytes p.payload) = false) →
    (genOlder p.tgen (s.gen x.inst) = true → Naks 0x63) ∧
    (genOlder p.tgen (s.gen x.inst) = false →
      (p.op = 1 → 0 < n → (State.inRegs p.addr = true ∨ State.inRegs (p.addr + n - 1) = true) → Naks 0x71) ∧
      (p.op ≠ 2 → s.checkRange (.inst x.inst) p.addr n = 0x03 → State.inRegs p.addr = false → State.inRegs (p.addr + n - 1) = false → Naks 0x03) ∧
      (p.op = 1 → s.checkRange (.inst x.inst) p.addr n = 0 → p.addr + n ≤ 0x18000000000 → Answers (exec cmd s) (fun t =>
        t.bytesAt p.addr n = p.payload ∧ (∀ a, a < p.addr ∨ p.addr + n ≤ a → t.byteAt a = s.byteAt a) ∧ t.ingress = [] ∧
        (t.sess j).rxCum = x.rxCum + 1)) ∧
      (p.op = 2 → let len := min 65536 (natOfBytes p.payload)
        s.checkRange (.inst x.inst) p.addr len = 0 → s.readStatus p.addr len = 0 → p.addr + len ≤ 0x18000000000 → len ≤ s.maxPayload x.port →
        Answers (exec cmd s) (fun t => SameBytes s t ∧ t.ingress = [] ∧ ∃ q, (t.sess j).queue = x.queue ++ [q] ∧ q.pkt.type = 2 ∧ q.pkt.op = 3 ∧
          q.pkt.txn = p.txn ∧ q.pkt.vc = p.vc ∧ q.pkt.addr = 0 ∧ q.pkt.last = true ∧ q.pkt.payload = s.bytesAt p.addr len)) ∧
      (4 ≤ p.op → ∀ e, addSize p.sub = some e → n = e → s.reduceOk p.sub p.addr n = true → s.checkRange (.inst x.inst) p.addr n = 0 →
        s.readStatus p.addr n = 0 → Answers (exec cmd s) (fun t => t.ingress = [] ∧
          t.natAt p.addr n = (addElem p.sub p.sub (p.op - 4) (s.natAt p.addr n) (natOfBytes p.payload)).1 ∧
          (p.op = 4 → p.sub = 4 → t.natAt p.addr n = (s.natAt p.addr n + natOfBytes p.payload) % 2 ^ 32) ∧
          (∀ a, a < p.addr ∨ p.addr + n ≤ a → t.byteAt a = s.byteAt a))))) ∧
  (∀ y : Txn, s.ingress = [rx] → k = 0 → p.seq = x.rxCum → x.rxSeen = [] → p.type = 2 → p.op = 3 → s.txns = [y] → y.num = p.txn → y.sess = rx.sess → y.op = 2 →
    (y.readGot + n < y.readLen → Answers (exec (.readDataMsg k) s) (fun t => SameBytes s t ∧
      t.txns.map (fun z => (z.num, z.readGot)) = [(y.num, y.readGot + n)] ∧ (t.sess j).rxCum = x.rxCum + 1)) ∧
    (y.readLen ≤ y.readGot + n → Answers (exec (.readDataMsg k) s) (fun t => SameBytes s t ∧ t.txns = [] ∧
      t.fld (R.FAB_TXN_INUSE y.die.val) F.FAB_TXN_INUSE_in_use = 0)))

/-- The life of a session and its acknowledgements (R319, R320, R325, R327, R335). -/
def Obligations.Sessions : Prop :=
  ∀ (s : State) (rx : RxPkt) (k : SessId) (nonce : BitVec 128) (y : Txn) (q : TxPkt) (seq : Nat),
  let x := s.sess k.val
  let p := rx.pkt
  let epoch := natOfBytes (p.payload.take 8)
  let On := fun (e : Instr) (P : State → Session → Prop) => Answers (exec e s) (fun t => P t (t.sess k.val) ∧
    (∀ j : SessId, j ≠ k → t.sess j.val = s.sess j.val) ∧ SameBytes s t)
  let Sends := fun (t : State) (type : Nat) => ∃ n z, t.fab.wire = (n, z) :: s.fab.wire ∧ n.val = x.port ∧ z.type = type ∧ z.dstSess = x.peerIndex
  let Acks := fun (z : Session) => ∃ a, z.control = x.control ++ [a] ∧ a.type = 3 ∧ a.payload = State.ackPayload x ∧ z.unackedRx = 0
  s.txns = [] → x.port < 96 →
  (s.ingress = [rx] → rx.sess = k →
    (p.type = 5 → (x.state = .listen ∨ x.state = .opened) →
      (x.lastAccepted ≠ some epoch → On (.openMsg 0 nonce) (fun t z => z.state = .opened ∧ z.epoch = epoch ∧ z.lastAccepted = some epoch ∧
        z.key = some (t.sessionKey k.val z epoch) ∧ z.ownNonce = nonce ∧ z.peerNonce.toNat = natOfBytes ((p.payload.drop 8).take 16) ∧
        z.txSeq = 0 ∧ z.rxCum = 0 ∧ z.rxSeen = [] ∧ z.unacked = [] ∧ z.rate = 512 ∧ Sends t 6)) ∧
      (∀ a, x.state = .opened → x.lastAccepted = some epoch → x.openAck = some a → On (.openMsg 0 nonce) (fun t z => z = x ∧
        ∃ n w, t.fab.wire = (n, w) :: s.fab.wire ∧ { w with tag := a.tag } = a))) ∧
    (p.type = 6 →
      (x.state = .opening → epoch = x.epoch → x.waitsEpoch = false → On (.openAckMsg 0) (fun t z => z.state = .opened ∧
        z.key = some (t.sessionKey k.val z x.epoch) ∧ z.txSeq = 0 ∧ z.queue.map (fun e => e.pkt.txn) = (x.unacked ++ x.queue).map (fun e => e.pkt.txn))) ∧
      (x.state ≠ .opening ∨ epoch ≠ x.epoch → On (.openAckMsg 0) (fun _ z => z = x))) ∧
    (p.type = 7 → On (.closeMsg 0) (fun _ z => z.created = false ∧ z.state = .closed ∧ z.lastAccepted = x.lastAccepted)) ∧
    (p.type = 8 → On (.genNoticeMsg 0) (fun _ z => z.peerGen = natOfBytes (p.payload.take 2) ∧ ∃ a, z.control = x.control ++ [a] ∧ a.type = 3)) ∧
    (p.type = 9 → On (.probeMsg 0) (fun _ z => Acks z)) ∧
    (p.type = 3 → x.unacked = [q] → p.payload = bytesOf (q.pkt.seq + 1) 6 ++ bytesOf 0 4 → q.pkt.seq + 1 < 2 ^ 48 → On (.ackMsg 0) (fun _ z =>
      z.unacked = [] ∧ z.missRun = 0 ∧ z.periodAcked = x.periodAcked + s.frameBytes x.port q.pkt.payload.length)) ∧
    (p.type = 4 → x.unacked = [q] → p.payload = State.nakPayload q.pkt.seq q.pkt.txn 0x64 → q.pkt.seq < 2 ^ 48 →
      On (.nakMsg 0) (fun _ z => z.unacked = []))) ∧
  (On (.ackDelay k) (fun _ z => (0 < x.unackedRx → Acks z) ∧ (x.unackedRx = 0 → z = x))) ∧
  (x.state = .opened → x.unacked = [q] → q.pkt.seq = seq →
    (x.missRun + 1 < s.retryLimit → q.pkt.attempt < 8191 → On (.ackDeadline k seq) (fun t z => z.deadlines = min 0xFFFFFFFF (x.deadlines + 1) ∧
      z.retx = min 0xFFFFFFFF (x.retx + 1) ∧ z.missRun = x.missRun + 1 ∧ z.unacked.map (fun e => (e.pkt.seq, e.pkt.attempt, e.misses)) =
        [(seq, q.pkt.attempt + 1, q.misses + 1)] ∧
      (t.reg (R.FAB_LP_ACK_DEADLINE x.port)).toNat = min 0xFFFFFFFF ((s.reg (R.FAB_LP_ACK_DEADLINE x.port)).toNat + 1))) ∧
    (s.retryLimit ≤ x.missRun + 1 → On (.ackDeadline k seq) (fun _ z => z.state = .failed ∧ z.unacked = [] ∧ z.queue = []))) ∧
  (∀ a, x.openAck = some a → x.state = .opening → x.waitsEpoch = false → On (.openRepeat k) (fun t z => z = x ∧
    ∃ n w, t.fab.wire = (n, w) :: s.fab.wire ∧ { w with tag := a.tag } = a)) ∧
  (x.state = .opening → On (.openingTimeout k) (fun _ z => z.state = .failed ∧ z.queue = [])) ∧
  (x.state = .failed →
    (x.responder = true → On (.failedReopen k nonce) (fun _ z => z = { x with state := .listen })) ∧
    (x.responder = false → s.fab.epochNext.get 0 x.keyId + 1 < s.host.flash.epochs.get 0 x.keyId → On (.failedReopen k nonce) (fun t z =>
      z.state = .opening ∧ z.ownNonce = nonce ∧ z.epoch = s.fab.epochNext.get 0 x.keyId ∧
      t.fab.epochNext.get 0 x.keyId = s.fab.epochNext.get 0 x.keyId + 1 ∧ Sends t 5)) ∧
    (x.responder = false → s.host.flash.epochs.get 0 x.keyId ≤ s.fab.epochNext.get 0 x.keyId + 1 → s.fab.epochWrites = [] →
      On (.failedReopen k nonce) (fun t z => z.state = .opening ∧ z.waitsEpoch = true ∧ t.fab.wire = s.fab.wire ∧
        t.fab.epochWrites = [(x.keyId, s.host.flash.epochs.get 0 x.keyId + 2 ^ 16)]))) ∧
  (∀ key : Fin 16, s.fab.epochWrites = [(key.val, y.num)] → (∀ e ∈ s.sessions, e.2.waitsEpoch = false) →
    Answers (exec (.epochCounterWrite key) s) (fun t => t.host.flash.epochs.get 0 key.val = y.num ∧ t.fab.epochWrites = [] ∧ t.sessions = s.sessions)) ∧
  (x.state = .opened →
    On (.sessionIdle k) (fun _ z => z.rate = 512 ∧ z.doubling = true) ∧
    (let grown := if x.doubling then x.rate * 2 else x.rate + 4096 / max 1 (s.fld R.FAB_RC_CFG F.FAB_RC_CFG_ai_div)
     let acked := max x.periodAcked x.periodCe
     On (.ratePeriod k) (fun _ z => z.periodAcked = 0 ∧ z.periodCe = 0 ∧ z.periodMiss = false ∧ 4 ≤ z.rate ∧ z.rate ≤ 4096 ∧
      (x.periodCe = 0 → x.periodMiss = false → z.rate = max 4 (min 4096 grown) ∧ z.doubling = x.doubling) ∧
      (x.periodCe = 0 → x.periodMiss = true → z.rate = max 4 (min 4096 (x.rate * 7 / 8)) ∧ z.doubling = false) ∧
      (0 < x.periodCe → z.rate = max 4 (min 4096 (x.rate * (2 * acked - x.periodCe) / (2 * acked))) ∧ z.doubling = false))))

/-- A requester's transaction, the packet that a port sends next, the ports and pod time (R310, R315 to R317, R319,
R331, R334, R435). -/
def Obligations.PortsAndTime : Prop :=
  ∀ (s : State) (r : TxnReq) (n : LPort) (m : PtpMsg) (up : BitVec 96) (q : TxPkt) (a : Pkt),
  let k := r.sess.val
  let x := s.sess k
  (((s.txns.filter (fun y => y.die == r.die)).length = 32768) → exec (.transaction r) s = .next s) ∧
  (s.txns = [] →
    (x.created = true → x.state = .opened ∨ x.state = .listen ∨ x.state = .opening → r.op ≠ 2 → r.data.length ≤ s.maxPayload x.port →
      Answers (exec (.transaction r) s) (fun t => (t.sess k).queue.map (fun e => (e.pkt.op, e.pkt.addr, e.pkt.payload, e.pkt.last)) =
        x.queue.map (fun e => (e.pkt.op, e.pkt.addr, e.pkt.payload, e.pkt.last)) ++ [(r.op, r.addr, r.data, true)] ∧
        t.txns.map (fun y => (y.sess, y.op, y.packets)) = [(r.sess, r.op, 1)] ∧
        t.fld (R.FAB_TXN_INUSE r.die.val) F.FAB_TXN_INUSE_in_use = 1)) ∧
    ((x.created = false ∨ x.state = .closed ∨ x.state = .failed) → Answers (exec (.transaction r) s) (fun t => t.txns = [] ∧
      t.sessions = s.sessions))) ∧
  (s.lpUp n.val = false → exec (.packetSchedule n) s = .next s) ∧
  (s.lpUp n.val = true → s.sessions = [(k, x)] → x.created = true → x.state = .opened → x.port = n.val →
    (∀ rest, x.control = a :: rest → Answers (exec (.packetSchedule n) s) (fun t => (t.sess k).control = rest ∧ (t.sess k).queue = x.queue ∧
      ∃ w, t.fab.wire = (n, w) :: s.fab.wire ∧ { w with tag := a.tag } = a)) ∧
    (∀ rest, x.control = [] → x.queue = q :: rest → q.pkt.vc = 0 → x.unacked = [] → x.txSeq < 2 ^ 47 - 1 → Answers (exec (.packetSchedule n) s) (fun t =>
      (t.sess k).queue = rest ∧ (t.sess k).txSeq = x.txSeq + 1 ∧ (t.sess k).unacked.map (fun e => (e.pkt.seq, e.pkt.payload)) = [(x.txSeq, q.pkt.payload)] ∧
      ∃ w, t.fab.wire = (n, w) :: s.fab.wire ∧ w.seq = x.txSeq ∧ w.payload = q.pkt.payload)) ∧
    (x.control = [] → x.queue = [] → exec (.packetSchedule n) s = .next s)) ∧
  (s.lpUp n.val = true → Answers (exec (.portDown n) s) (fun t => t.lpUp n.val = false ∧
    (∀ j : LPort, j.val / 4 ≠ n.val / 4 → t.lpUp j.val = s.lpUp j.val))) ∧
  (Answers (exec (.portRetrain up) s) (fun t => ∀ j : LPort, t.lpUp j.val =
    (s.lpUp j.val || s.lpExists j.val && up.getLsbD j.val && !bitOf s.msys.noDie (j.val / 24)))) ∧
  (Answers (exec .fabRefclkLoss s) (fun t => ∀ j : LPort, t.lpUp j.val = false)) ∧
  (exec .gratuitousArp s = .next { s with fab := { s.fab with
    announced := s.fab.announced + ((List.range 96).filter (fun j => s.lpExists j && s.lpUp j)).length } }) ∧
  (exec .ptpSyncInterval s = .next { s with fab := { s.fab with ptpSent := s.fab.ptpSent + 1 } }) ∧
  (m.fromPeer = false → Answers (exec (.ptpMessage n m) s) (fun t =>
    t.reg (R.FAB_LP_STRANGER_DROP n.val) = s.reg (R.FAB_LP_STRANGER_DROP n.val) + 1 ∧ SameRegs [R.FAB_LP_STRANGER_DROP n.val] s t)) ∧
  (m.fromPeer = true → s.fld R.FAB_PTP_CFG F.FAB_PTP_CFG_grandmaster = 0 → n.val = s.fld R.FAB_PTP_CFG F.FAB_PTP_CFG_timing_port →
    (s.fab.everLocked = false → Answers (exec (.ptpMessage n m) s) (fun t => t.reg R.POD_TIME = BitVec.ofNat 64 m.masterTime ∧
      t.reg R.FAB_PTP_OFFSET = BitVec.ofInt 64 m.offset ∧ t.fld R.FAB_PTP_STATUS F.FAB_PTP_STATUS_state = 2 ∧
      t.fld R.FAB_PTP_STATUS F.FAB_PTP_STATUS_time_valid = 1 ∧ t.fab.everLocked = true)) ∧
    (s.fab.everLocked = true → Answers (exec (.ptpMessage n m) s) (fun t => t.reg R.FAB_PTP_OFFSET = BitVec.ofInt 64 m.offset ∧
      (0 ≤ m.offset → t.reg R.POD_TIME = s.reg R.POD_TIME) ∧
      ∃ d, t.reg R.POD_TIME = s.reg R.POD_TIME + BitVec.ofNat 64 d ∧ d ≤ m.offset.natAbs ∧ 5000 * d ≤ s.syncNs)))

/-- The ingest ring and its jobs (R361, R345, R348): the doorbell, the descriptor's checks with their completion
record, and a job that is accepted: it runs at once unless its stream already has one. Streams (R360, R376, R391): an
install is refused while four wait, is discarded where the block fails, and else waits for its target; enabling
starts the numbering at 0, live video only within its engine's 480 Mpixel/s; disabling takes the stream off the
engines. -/
def Obligations.IngestRingsAndStreams : Prop :=
  (∀ (s : State) (req : Requester) (i : InstId) (v : W32) (d : BitVec 1024),
  let tail := v.toNat % 4096
  let size := s.ringEntriesOf false i.val
  let head := s.fld (R.ING_RING_HEAD i.val) F.ING_RING_HEAD_head % size
  let n := s.media.ingCpl.get 0 i.val % size
  let w := fun (k lo len : Nat) => bitsOf d.toNat (64 * k + lo) len
  let st := s.jobCheck i.val d
  (s.reach req (R.ING_RING_TAIL i.val) = false → exec (.ingRingTail req i v) s = .next (s.regRefused req (R.ING_RING_TAIL i.val))) ∧
  (s.reach req (R.ING_RING_TAIL i.val) = true →
    (tail < size → Answers (exec (.ingRingTail req i v) s) (fun t => t.fld (R.ING_RING_TAIL i.val) F.ING_RING_TAIL_tail = tail ∧
      SameRegs [R.ING_RING_TAIL i.val] s t ∧ SameBytes s t)) ∧
    (size ≤ tail → Answers (exec (.ingRingTail req i v) s) (fun t => t.fld (R.ING_RING_CFG i.val) F.ING_RING_CFG_enable = 0 ∧
      t.fld (R.ING_RING_STATUS i.val) F.ING_RING_STATUS_error = 0x02 ∧ SameRegs [R.ING_RING_CFG i.val, R.ING_RING_STATUS i.val] s t ∧
      SameBytes s t))) ∧
  ((s.fld (R.ING_RING_CFG i.val) F.ING_RING_CFG_enable = 0 ∨ head = s.fld (R.ING_RING_TAIL i.val) F.ING_RING_TAIL_tail % size ∨
    s.dispatchStopped = true) → exec (.ingestJob i) s = .next s) ∧
  (s.fld (R.ING_RING_CFG i.val) F.ING_RING_CFG_enable = 1 → head ≠ s.fld (R.ING_RING_TAIL i.val) F.ING_RING_TAIL_tail % size →
    s.dispatchStopped = false → s.fld (R.ING_RING_CFG i.val) F.ING_RING_CFG_in_hbm = 0 →
    natOfBytes (s.hostBytes (s.fld (R.ING_RING_BASE i.val) F.ING_RING_BASE_addr + 128 * head) 128) = d.toNat →
    (w 0 0 8 ≠ 0x50 → st = 0x01) ∧
    (w 0 0 8 = 0x50 → (w 0 8 2 = 3 ∨ w 0 10 2 = 3 ∨ w 2 0 48 = 0 ∨ w 0 21 3 ≠ 0 ∨ w 3 12 52 ≠ 0 ∨ s.strmOn (w 0 16 5) = false ∨
      s.strmOwner (w 0 16 5) ≠ i.val ∨ s.strmKind (w 0 16 5) ≠ 0 ∨ 64 ≤ w 4 0 16) → st = 0x02) ∧
    (st ≠ 0 → Answers (exec (.ingestJob i) s) (fun t => t.fld (R.ING_RING_HEAD i.val) F.ING_RING_HEAD_head = (head + 1) % size ∧
      natOfBytes (t.hostBytes (s.fld (R.ING_RING_CPL_BASE i.val) F.ING_RING_CPL_BASE_addr + 16 * n) 16) = head + st * 2 ^ 16 ∧
      t.media = { s.media with ingCpl := s.media.ingCpl.set 0 i.val ((n + 1) % size) } ∧
      t.host.irqs = (0, s.fld (R.ING_RING_CFG i.val) F.ING_RING_CFG_vector) :: s.host.irqs ∧
      SameRegs [R.ING_RING_HEAD i.val] s t ∧ ∀ a, t.byteAt a = s.byteAt a)) ∧
    (st = 0 → w 0 8 2 ≠ 2 → w 0 10 2 ≠ 0 → Answers (exec (.ingestJob i) s) (fun t => SameBytes s t ∧
      t.fld (R.ING_RING_HEAD i.val) F.ING_RING_HEAD_head = (head + 1) % size ∧
      ∃ b, t.media.jobs = s.media.jobs ++ [b] ∧ b.inst = i.val ∧ b.idx = head ∧ b.gen = s.gen i.val ∧ b.desc = d ∧ b.stream = w 0 16 5 ∧
        b.pos = 0 ∧ b.sampleOpen = false ∧ b.frames = 0 ∧ (b.running = true ↔ ∀ y ∈ s.media.jobs, y.stream ≠ w 0 16 5))))) ∧
  (∀ (s : State) (req : Requester) (x : StrmId) (target : Word) (v : W32),
  let q := s.strm x.val
  let a := s.fld (R.ING_STRM_SET_ADDR x.val) F.ING_STRM_SET_ADDR_addr
  let off := R.ING_STRM_STATUS x.val
  let cfg := R.ING_STRM_CFG x.val
  let kept := bitsOf v.toNat 1 26 * 2
  let kind := bitsOf v.toNat 1 2
  let e := s.leastReserved (List.range 8)
  let r := s.fld (R.CDC_DEC_CFG x.val) F.CDC_DEC_CFG_live_mps
  let mps := if r = 0 ∨ r > 480 then 480 else r
  let fresh := { q with frames := [], jitter := [], extSeq := none, latched := none, lastTs := none, thumb := none, concealing := false, engine := none, nextStart := none, video := 0, sound := 0, units := [] }
  let Others := fun (t : State) => ∀ y : StrmId, y ≠ x → t.strm y.val = s.strm y.val
  (s.reach req (R.ING_STRM_SET_TARGET x.val) = true →
    let Installs := fun (P : State → Prop) => Answers (exec (.settingsInstall req x target) s) (fun t => P t ∧ SameRegs [off] s t ∧ Others t ∧ SameBytes s t)
    (4 ≤ q.installs.length → Installs (fun t => t.fld off F.ING_STRM_STATUS_set_refused = 1 ∧ t.strm x.val = q)) ∧
    (q.installs.length < 4 → s.engineRead (.inst (s.strmOwner x.val)) a 256 = 0 →
      ((a % 256 ≠ 0 ∨ settingsOk (s.bytesAt a 256) s.limImage.1 s.limImage.2 = false) → Installs (fun t =>
        t.fld off F.ING_STRM_STATUS_set_error = 1 ∧ t.strm x.val = q)) ∧
      (a % 256 = 0 → settingsOk (s.bytesAt a 256) s.limImage.1 s.limImage.2 = true → s.strmKind x.val = 0 → Installs (fun t =>
        t.fld off F.ING_STRM_STATUS_pending = q.installs.length + 1 ∧
        t.strm x.val = { q with installs := q.installs ++ [⟨target.toNat, s.bytesAt a 256⟩] })))) ∧
  (s.reach req cfg = true →
    (s.strmOn x.val = false → bitOf v.toNat 0 = true → kind ≠ 1 → Answers (exec (.streamEnable req x v) s) (fun t =>
      (t.reg cfg).toNat = kept + 1 ∧ t.reg (R.ING_STRM_SEQ x.val) = 0 ∧ t.strm x.val = fresh ∧ Others t ∧ SameBytes s t)) ∧
    (s.strmOn x.val = false → bitOf v.toNat 0 = true → kind = 1 → e < 8 ∧ (∀ k : Fin 8, s.reservedOn e ≤ s.reservedOn k.val) ∧
      (480 < s.reservedOn e + mps → Answers (exec (.streamEnable req x v) s) (fun t => (t.reg cfg).toNat = kept ∧
        t.fld (R.CDC_DEC_CFG x.val) F.CDC_DEC_CFG_res_error = 1 ∧ ∀ k : Fin 8, t.reservedOn k.val = s.reservedOn k.val)) ∧
      (s.reservedOn e + mps ≤ 480 → Answers (exec (.streamEnable req x v) s) (fun t => (t.reg cfg).toNat = kept + 1 ∧
        t.strm x.val = { fresh with engine := some e } ∧ t.reg (R.ING_STRM_SEQ x.val) = 0 ∧ t.reservedOn e = s.reservedOn e + mps ∧
        t.fld (R.CDC_ENG_LIVE_RES e) F.CDC_ENG_LIVE_RES_mps = s.reservedOn e + mps ∧
        ∀ k : Fin 8, k.val ≠ e → t.reservedOn k.val = s.reservedOn k.val))) ∧
    (s.strmOn x.val = true → bitOf v.toNat 0 = true → Answers (exec (.streamEnable req x v) s) (fun t => (t.reg cfg).toNat = kept + 1 ∧
      t.media = s.media ∧ SameRegs [cfg] s t)) ∧
    (s.strmOn x.val = true → bitOf v.toNat 0 = false → Answers (exec (.streamEnable req x v) s) (fun t => (t.reg cfg).toNat = kept ∧
      (s.strmKind x.val ≠ 0 → (t.strm x.val).frames = []) ∧ (s.strmKind x.val = 0 → (t.strm x.val).frames = q.frames) ∧
      ∀ k : Fin 8, ∀ y ∈ t.media.reserved.get [] k.val, y.1 ≠ x.val))))

/-- The parser of a job whose source is in host memory (R361, R363 to R366, R368): a good record joins its sample, a
bad one ends a strict job, and the end of the source or of the archive ends the job with OK; the scan takes the first
accepted place. -/
def Obligations.IngestParser : Prop :=
  ∀ (s : State) (x : StrmId) (b : IngJob) (r : IngRecord),
  let at' := fun (o n : Nat) => s.hostBytes (State.jd b 1 0 64 + o) n
  let len := State.jobLength b
  let strict := State.jobStrict b
  let h := at' b.pos 32
  let u := at' b.pos 512
  let n := le h 8 6
  let i := b.inst
  let size := s.ringEntriesOf false i
  let k := s.media.ingCpl.get 0 i % size
  let record := s.fld (R.ING_RING_CPL_BASE i) F.ING_RING_CPL_BASE_addr + 16 * k
  let Ends := fun (cmd : Instr) (st pos : Nat) => Answers (exec cmd s) (fun t => t.media.jobs = [] ∧
    natOfBytes (t.hostBytes record 16) = b.idx % 2 ^ 16 + st * 2 ^ 16 + (pos % 2 ^ 48 + min b.frames 0xFFFF * 2 ^ 48) * 2 ^ 64 ∧
    (∀ y : StrmId, t.strm y.val = s.strm y.val) ∧ ∀ a, t.byteAt a = s.byteAt a)
  let Now := fun (cmd : Instr) (b' : IngJob) => exec cmd s = .next { s with media := { s.media with jobs := [b'] } }
  (∀ src fuel o p, State.boltScan src fuel o = some p → o ≤ p ∧ p < o + fuel ∧
    State.boltHeaderOk ((src.drop p).take 32) false = true ∧
    (let next := p + State.boltSpan (le ((src.drop p).take 32) 8 6)
     next = src.length ∨ State.boltHeaderOk ((src.drop next).take 32) false = true) ∧
    ∀ q, o ≤ q → q < p → State.boltScan (src.drop q) 1 0 = none) ∧
  (∀ src fuel o p, State.ustarScan src fuel o = some p → o ≤ p ∧ (p - o) % 512 = 0 ∧ State.ustarOk ((src.drop p).take 512) = true ∧
    ∀ q, o ≤ q → q < p → (q - o) % 512 = 0 → State.ustarScan (src.drop q) 1 0 = none) ∧
  ((∀ y ∈ s.media.jobs, y.running = true → y.stream ≠ x.val) → exec (.boltRecord x) s = .next s ∧ exec (.ustarMember x) s = .next s) ∧
  (s.media.jobs = [b] → b.running = true → b.stream = x.val → b.ended = none → i < 8 → State.jd b 0 8 2 = 0 →
    (s.strm x.val).frames = [] → s.fld (R.ING_RING_CFG i) F.ING_RING_CFG_in_hbm = 0 →
    (State.jd b 0 10 2 = 1 →
      exec (.ustarMember x) s = .next s ∧
      (b.sampleOpen = false → len ≤ b.pos → Ends (.boltRecord x) 0 b.pos) ∧
      (strict = true → b.pos < len → len < b.pos + 32 → Ends (.boltRecord x) 0x57 b.pos) ∧
      (strict = true → b.pos + 32 ≤ len → State.boltHeaderOk h true = false → Ends (.boltRecord x) 0x57 b.pos) ∧
      (b.pos + 32 ≤ len → State.boltHeaderOk h true = true → (b.sampleOpen = true → b.sampleKey = le h 16 8) → bitOf (le h 6 2) 0 = false →
        n ≤ s.limRecord → b.pos + State.boltSpan n ≤ len →
        let payload := at' (b.pos + 32) n
        let next := b.pos + State.boltSpan n
        let first := if b.sampleOpen then b else { b with sampleOpen := true, sampleKey := le h 16 8, sampleAt := b.pos, sampleName := [] }
        (le (at' (b.pos + 32 + n) 4) 0 4 = crc32c payload → le h 6 2 < 4 → le h 14 2 = 0 →
          r = ⟨le h 5 1, payload, le h 24 4, bitOf (le h 6 2) 1⟩ →
          ((∃ c, State.recKind r.type r.side = some c ∧ (first.sample.all (fun y => State.recKind y.type y.side != some c)) = true) →
            Now (.boltRecord x) { first with sample := first.sample ++ [r], pos := next }) ∧
          ((State.recKind r.type r.side = none ∨ ∃ y ∈ first.sample, State.recKind y.type y.side = State.recKind r.type r.side) → strict = true →
            Ends (.boltRecord x) 0x57 b.pos)) ∧
        (le (at' (b.pos + 32 + n) 4) 0 4 ≠ crc32c payload →
          (strict = true → Ends (.boltRecord x) 0x57 b.pos) ∧
          (strict = false → Now (.boltRecord x) { first with pos := next, sampleCause := if b.sampleCause = 0 then 0x57 else b.sampleCause })))) ∧
    (State.jd b 0 10 2 = 2 →
      exec (.boltRecord x) s = .next s ∧
      (b.sampleOpen = false → len ≤ b.pos → Ends (.ustarMember x) 0 b.pos) ∧
      (strict = true → b.pos < len → len < b.pos + 512 → Ends (.ustarMember x) 0x57 b.pos) ∧
      (b.sampleOpen = false → b.pos + 1024 ≤ len → State.zeroBlock u = true → State.zeroBlock (at' (b.pos + 512) 512) = true →
        Ends (.ustarMember x) 0 (b.pos + 1024)) ∧
      (b.pos + 512 ≤ len → State.zeroBlock u = false →
        (strict = true → State.ustarOk u = false → Ends (.ustarMember x) 0x57 b.pos) ∧
        (State.ustarOk u = true →
          let size := State.octal ((u.drop 124).take 12)
          let next := min len (b.pos + 512 + (size + 511) / 512 * 512)
          b.pos + 512 + size ≤ len → b.paxSize = none →
          (le u 156 1 = 0x67 → Now (.ustarMember x) { b with pos := next }) ∧
          (le u 156 1 ∉ [0x30, 0, 0x67, 0x78] → Now (.ustarMember x) { b with pos := next, paxPath := none }) ∧
          ((le u 156 1 = 0x30 ∨ le u 156 1 = 0) → le u 345 1 = 0 → b.paxPath = none → size ≤ s.limRecord → b.sampleOpen = false → b.sample = [] →
            let name := State.cstr (u.take 100)
            let type := State.typeOfName name
            let m : IngRecord := ⟨type, at' (b.pos + 512) size, 0, decide (type = 0xFF)⟩
            Now (.ustarMember x) { b with sampleOpen := true, sampleKey := 0, sampleAt := b.pos, sampleName := State.sampleStem name, sample := [m], pos := next })))))

/-- A frame's decode and its publication (R368, R369, R371, R372, R377, R383): the output goes to its area of the
slot and nowhere else, a failure gives its cause, and the oldest done frame is published with its record and its
statistics entry. Live streams (R378, R380, R383): a packet of no live stream, or with a foreign type or source, is
counted; a frame takes its number with its first packet; a packet without room waits; a late frame is dropped and its
slot returned. -/
def Obligations.IngestFramesAndLive : Prop :=
  (∀ (s : State) (x : StrmId) (seq a : Nat) (f : IngFrame) (r : IngRecord) (rest : List IngFrame),
  let q := s.strm x.val
  let i := s.strmOwner x.val
  let Frames := fun (l : List IngFrame) (t : State) => (t.strm x.val).frames = l
  let Fills := fun (cmd : Instr) (off : Nat) (codes : List Nat) (g : IngFrame) =>
    let bytes := codes.flatMap (fun c => bytesOf c (outBytes f.settings))
    off + bytes.length ≤ le f.settings 112 4 → a + off + bytes.length ≤ 0x18000000000 → s.checkRange (.inst i) (a + off) bytes.length = 0 →
    Answers (exec cmd s) (fun t => Frames (g :: rest) t ∧ t.bytesAt (a + off) bytes.length = bytes ∧
      ∀ y, y < a + off ∨ a + off + bytes.length ≤ y → t.byteAt y = s.byteAt y)
  (s.frameOf x.val seq = none → s.strmKind x.val ≠ 1 → ∀ c, exec (.decodeComplete x seq c) s = .next s) ∧
  (q.frames = [] → exec (.sampleRecord x) s = .next s) ∧
  (q.frames = f :: rest → (∀ y ∈ rest, y.seq ≠ f.seq) → f.seq = seq →
    ((f.waiting = true ∨ f.slot = none) → s.strmKind x.val ≠ 1 → ∀ c, exec (.decodeComplete x seq c) s = .next s) ∧
    (s.strmKind x.val = 0 → f.waiting = false → f.slot = some a →
      (f.needPic = true → State.recOf f.records 0 = some r → r.type ≠ 7 →
        let d := Config.decodeFile r.type r.payload
        let Fails := fun (c : Nat) => Answers (exec (.decodeComplete x seq false) s) (fun t => SameBytes s t ∧
          Frames ({ f with needPic := false, cause := if f.cause = 0 then c else f.cause } :: rest) t)
        (d = .unsupported → Fails 0x59) ∧ (d = .error → Fails 0x58) ∧
        (∀ p, d = .picture p →
          ((p.w = 0 ∨ p.h = 0 ∨ p.lines = 0) → Fails 0x58) ∧
          (0 < p.w → 0 < p.h → 0 < p.lines →
            (f.strict = true → (p.lines < p.h ∨ p.surplus = true) → Fails 0x51) ∧
            (State.declaredOf r = none → p.h ≤ p.lines → p.surplus = false →
              let o := runPicture p f.settings f.aug p.w p.h none
              Fills (.decodeComplete x seq false) (le f.settings 96 4) o.codes
                { f with needPic := false, hist := o.hist, regionUsed := o.region, picW := p.w, picH := p.h }) ∧
            (State.declaredOf r = none → p.lines < p.h → p.surplus = false → f.strict = false →
              let o := runPicture p f.settings f.aug p.w p.h none
              Fills (.decodeComplete x seq false) (le f.settings 96 4) o.codes
                { f with needPic := false, hist := o.hist, regionUsed := o.region, picW := p.w, picH := p.h, padded := true })))) ∧
      (f.needAud = true → State.recOf f.records 1 = some r →
        let d := State.decodeAudio r
        let Fails := fun (c : Nat) => Answers (exec (.decodeComplete x seq true) s) (fun t => SameBytes s t ∧
          Frames ({ f with needAud := false, cause := if f.cause = 0 then c else f.cause } :: rest) t)
        (d = .unsupported → Fails 0x59) ∧ (d = .error → Fails 0x58) ∧
        (∀ v, d = .sound v → let n := (v.samples.headD []).length
          (n = 0 → Fails 0x58) ∧
          (0 < n → f.strict = true → (n ≠ v.declared ∨ v.surplus = true) → Fails 0x51) ∧
          (0 < n → n = v.declared → v.surplus = false → (∀ l ∈ v.samples, l.length = n) →
            (runSound v f.settings f.aug = none → Fails 0x59) ∧
            (∀ o, runSound v f.settings f.aug = some (o, true) → f.strict = true → Fails 0x51) ∧
            (∀ o, runSound v f.settings f.aug = some (o, false) → Fills (.decodeComplete x seq true) (le f.settings 100 4) o.codes
              { f with needAud := false, levels := o.levels, audN := o.n, trunc := f.trunc || o.trunc, padded := f.padded || o.padded }))))) ∧
    (f.ready = false → (f.waiting = true ∨ f.needPic = true ∨ f.needAud = true) → exec (.sampleRecord x) s = .next s) ∧
    (f.job = none → s.fld (R.ING_STRM_CFG x.val) F.ING_STRM_CFG_bobbin_en = 0 →
      let sl := fun (b size : Nat) => s.fld b F.ING_STRM_REC_BASE_base + seq % 2 ^ max 4 (s.fld b F.ING_STRM_REC_BASE_entries_log2) * size
      let at' := sl (R.ING_STRM_REC_BASE x.val) 64
      let stat := sl (R.ING_STRM_STAT_BASE x.val) 2048
      at' + 64 ≤ 0x18000000000 → stat + 2048 ≤ 0x18000000000 → s.checkRange (.inst i) at' 64 = 0 → s.checkRange (.inst i) stat 2048 = 0 →
      let Publishes := fun (st cause : Nat) (tr pa : Bool) (P : State → Prop) => Answers (exec (.sampleRecord x) s) (fun t =>
        let b := t.bytesAt at' 64
        Frames rest t ∧ le b 0 1 = st % 256 ∧ bitsOf (le b 1 1) 0 5 = (if tr then 1 else 0) + (if pa then 2 else 0) + (if cause ≠ 0 then 4 else 0) +
          (if f.incomplete then 8 else 0) + (if f.regionUsed then 16 else 0) ∧
        le b 2 1 = cause % 256 ∧ le b 4 2 = f.gen % 2 ^ 16 ∧ le b 8 8 = seq % 2 ^ 64 ∧ le b 16 8 = f.key % 2 ^ 64 ∧
        le b 24 8 = f.slot.getD 0 % 2 ^ 48 ∧ le b 32 2 = f.picW % 2 ^ 16 ∧ le b 34 2 = f.picH % 2 ^ 16 ∧ le b 36 4 = f.audN % 2 ^ 32 ∧
        (at' + 64 ≤ stat ∨ stat + 2048 ≤ at' → le (t.bytesAt stat 2048) 0 8 = seq % 2 ^ 64 ∧ le (t.bytesAt stat 2048) 8 2 = f.gen % 2 ^ 16) ∧
        (∀ y, y < at' ∨ at' + 64 ≤ y → y < stat ∨ stat + 2048 ≤ y → t.byteAt y = s.byteAt y) ∧ P t)
      (f.ready = true → Publishes f.status f.cause f.trunc f.padded (fun t => t.reg (R.ING_STRM_SEQ x.val) = s.reg (R.ING_STRM_SEQ x.val))) ∧
      (f.ready = false → f.waiting = false → f.needPic = false → f.needAud = false → f.slot = none →
        (f.cause ≠ 0 → Publishes f.cause 0 f.trunc f.padded (fun t =>
          (t.reg (R.ING_CNT_REJECT i)).toNat = min 0xFFFFFFFF ((s.reg (R.ING_CNT_REJECT i)).toNat + 1)))) ∧
      (f.ready = false → f.waiting = false → f.needPic = false → f.needAud = false → f.cause = 0 → State.recOf f.records 2 = none →
        Publishes (if f.padded then 0x53 else if f.trunc then 0x52 else 0) 0 f.trunc f.padded (fun t =>
          (f.padded = true → (t.reg (R.ING_CNT_PADDED i)).toNat = min 0xFFFFFFFF ((s.reg (R.ING_CNT_PADDED i)).toNat + 1)) ∧
          (f.trunc = true → (t.reg (R.ING_CNT_TRUNC i)).toNat = min 0xFFFFFFFF ((s.reg (R.ING_CNT_TRUNC i)).toNat + 1))))))) ∧
  (∀ (s : State) (k seq : Nat) (x : StrmId) (j : SessId) (b pl : List Byte) (parts : List RxPkt) (f : IngFrame) (marker : Bool) (pt n ts ssrc : Nat),
  let q := s.strm x.val
  let no := s.reg (R.ING_STRM_SEQ x.val)
  let on := s.strmOn x.val = true ∧ s.strmOwner x.val = (s.sess j.val).inst ∧ s.fld (R.ING_STRM_LIVE x.val) F.ING_STRM_LIVE_session = j.val
  let Foreign := Answers (exec (.rtpPacket k) s) (fun t => t.strm x.val = q ∧ t.reg (R.ING_STRM_SEQ x.val) = no ∧
    (t.reg (R.ING_STRM_FOREIGN x.val)).toNat = min 0xFFFFFFFF ((s.reg (R.ING_STRM_FOREIGN x.val)).toNat + 1))
  let Assigns := fun (P : IngStream → State → Prop) => Answers (exec (.rtpPacket k) s) (fun t =>
    (t.strm x.val).frames.map (fun y => y.seq) = q.frames.map (fun y => y.seq) ++ [no.toNat] ∧ t.reg (R.ING_STRM_SEQ x.val) = no + 1 ∧
    t.reg (R.ING_STRM_FRAMES x.val) = s.reg (R.ING_STRM_FRAMES x.val) + 1 ∧ (t.strm x.val).lastTs = some ts ∧
    (t.strm x.val).extSeq = some (extendSeq q.extSeq n) ∧ P (t.strm x.val) t)
  (s.msgAt k 3 = none → exec (.rtpPacket k) s = .next s) ∧
  (s.msgAt k 3 = some (j, b, parts) → le b 0 1 % 32 = x.val →
    (s.jitterRoom x.val (max 1 (cdiv (b.length - 8) 256)) = false → exec (.rtpPacket k) s = .next s) ∧
    (s.jitterRoom x.val (max 1 (cdiv (b.length - 8) 256)) = true → (∀ y ∈ parts, genOlder y.pkt.tgen (s.gen (s.sess j.val).inst) = false) →
      ((¬ on ∨ s.strmKind x.val = 0) → Foreign) ∧
      (rtpOf (b.drop 8) = none → Foreign) ∧
      (on → s.strmKind x.val ≠ 0 → le b 0 8 < 32 → s.fld (R.ING_STRM_LIVE x.val) F.ING_STRM_LIVE_ssrc_latch = 0 →
        rtpOf (b.drop 8) = some (marker, pt, n, ts, ssrc, pl) →
        ((pt ≠ s.fld (R.ING_STRM_CFG x.val) F.ING_STRM_CFG_pt ∨ ssrc ≠ s.fld (R.ING_STRM_SSRC x.val) F.ING_STRM_SSRC_ssrc) → Foreign) ∧
        (pt = s.fld (R.ING_STRM_CFG x.val) F.ING_STRM_CFG_pt → ssrc = s.fld (R.ING_STRM_SSRC x.val) F.ING_STRM_SSRC_ssrc →
          q.latched = none →
          (∀ l, q.lastTs = some l → tsOlder ts l = true → Foreign) ∧
          (∀ l, q.lastTs = some l → l ≠ ts → tsOlder ts l = false → q.extSeq = none ∨ q.extSeq = some 0 ∧ n < 2 ^ 15 → q.jitter = [] →
            (s.strmKind x.val ≠ 1 → Assigns (fun y _ => y.jitter = [])) ∧
            (s.strmKind x.val = 1 → marker = false → Assigns (fun y _ => y.jitter = [⟨extendSeq q.extSeq n, ts, false, pl⟩] ∧
              y.units = q.units ∧ (y.frames.getLast?).map (fun g => (g.deadline, g.needPic, g.slot)) = some (some ((s.reg R.POD_TIME).toNat +
                State.clampTo 100 60000 (s.fld (R.ING_STRM_LIVE x.val) F.ING_STRM_LIVE_budget_us) * 1000), true, none)))) ∧
          (s.strmKind x.val = 1 → q.lastTs = some ts → q.extSeq = some 0 → n < 2 ^ 15 → marker = false →
            (q.jitter.all (fun p => p.ts != ts || !p.marker)) = true →
            Answers (exec (.rtpPacket k) s) (fun t => t.strm x.val = { q with jitter := q.jitter ++ [⟨n, ts, false, pl⟩], extSeq := some n } ∧
              t.reg (R.ING_STRM_SEQ x.val) = no)))))) ∧
  (s.frameOf x.val seq = none → exec (.liveLate x seq) s = .next s) ∧
  (q.frames = [f] → f.seq = seq →
    (f.deadline = none → exec (.liveLate x seq) s = .next s) ∧
    (f.ready = true → f.slot = none → exec (.liveLate x seq) s = .next s) ∧
    (f.deadline ≠ none → (f.ready = false ∨ f.slot ≠ none) → s.strmKind x.val ≠ 1 ∨ q.units = [] → Answers (exec (.liveLate x seq) s) (fun t =>
      (let g := { f with slot := none, status := 0x54, cause := 0, incomplete := f.needPic && decide (s.strmKind x.val = 1) && q.units.isEmpty }
       (t.strm x.val).frames = [{ g with needPic := false, needAud := false, waiting := false, ready := true }]) ∧
      (t.reg (R.ING_STRM_LIVE_LATE x.val)).toNat = min 0xFFFFFFFF ((s.reg (R.ING_STRM_LIVE_LATE x.val)).toNat + 1) ∧
      (∀ a, f.slot = some a → s.poolOn f.pool = true → a ∈ s.poolSlots f.pool → a ∉ s.sch.poolFree.get [] f.pool →
        t.sch.poolFree.get [] f.pool = s.sch.poolFree.get [] f.pool ++ [a])))))

/-- The encode ring and its streams (R395, R396, R398, R399): the doorbell, a descriptor's checks and its completion,
enabling with the session block's checks and the live reservation, key requests, and a live picture past its
deadline. The work of a codec engine (R390 to R392, R396 to R399): a live picture goes first, by deadline, then
interactive work, then batch work; an engine without work that is ready does nothing; a running picture of another
class stops when a live one is ready; a finished picture's bitstream is in its ring, or its completion tells why not;
a descriptor that names no held picture is ended. -/
def Obligations.EncodeAndEngines : Prop :=
  (∀ (s : State) (req : Requester) (i : InstId) (x : EncId) (v : W32) (d : BitVec 512) (p : EncPic) (pts : Nat),
  let tail := v.toNat % 4096
  let size := s.ringEntriesOf true i.val
  let head := s.fld (R.CDC_RING_HEAD i.val) F.ING_RING_HEAD_head % size
  let n := s.media.encCpl.get 0 i.val % size
  let w := fun (k lo len : Nat) => bitsOf d.toNat (64 * k + lo) len
  let st := s.picCheck i.val d
  let q := s.encS x.val
  let cfg := R.CDC_ENC_CFG x.val
  let own := bitsOf v.toNat 1 3
  let a := s.fld (R.CDC_ENC_SESSION x.val) F.CDC_ENC_SESSION_addr
  let b := s.bytesAt a 128
  let e := s.leastReserved [8, 9]
  let Record := fun (t : State) (j idx code res : Nat) => natOfBytes (t.hostBytes (s.fld (R.CDC_RING_CPL_BASE j) F.ING_RING_CPL_BASE_addr +
    16 * (s.media.encCpl.get 0 j % s.ringEntriesOf true j)) 16) = idx % 2 ^ 16 + code * 2 ^ 16 + res * 2 ^ 64
  (s.reach req (R.CDC_RING_TAIL i.val) = true →
    (tail < size → Answers (exec (.cdcRingTail req i v) s) (fun t => t.fld (R.CDC_RING_TAIL i.val) F.ING_RING_TAIL_tail = tail ∧
      SameRegs [R.CDC_RING_TAIL i.val] s t ∧ SameBytes s t)) ∧
    (size ≤ tail → Answers (exec (.cdcRingTail req i v) s) (fun t => t.fld (R.CDC_RING_CFG i.val) F.ING_RING_CFG_enable = 0 ∧
      t.fld (R.CDC_RING_STATUS i.val) F.ING_RING_STATUS_error = 0x02 ∧ SameRegs [R.CDC_RING_CFG i.val, R.CDC_RING_STATUS i.val] s t ∧
      SameBytes s t))) ∧
  ((s.fld (R.CDC_RING_CFG i.val) F.ING_RING_CFG_enable = 0 ∨ head = s.fld (R.CDC_RING_TAIL i.val) F.ING_RING_TAIL_tail % size ∨
    s.dispatchStopped = true) → exec (.pictureDescriptor i) s = .next s) ∧
  (s.fld (R.CDC_RING_CFG i.val) F.ING_RING_CFG_enable = 1 → head ≠ s.fld (R.CDC_RING_TAIL i.val) F.ING_RING_TAIL_tail % size →
    s.dispatchStopped = false → s.fld (R.CDC_RING_CFG i.val) F.ING_RING_CFG_in_hbm = 0 →
    natOfBytes (s.hostBytes (s.fld (R.CDC_RING_BASE i.val) F.ING_RING_BASE_addr + 64 * head) 64) = d.toNat →
    (w 0 0 8 ≠ 0x52 → st = 0x01) ∧
    (w 0 0 8 = 0x52 → (w 0 30 34 ≠ 0 ∨ w 7 0 64 ≠ 0 ∨ s.encOn (w 0 8 3) = false ∨ s.encOwner (w 0 8 3) ≠ i.val ∨
      w 0 17 1 = 1 ∧ le (s.encS (w 0 8 3)).session 15 1 ≤ w 0 12 5) → st = 0x02) ∧
    (st ≠ 0 → Answers (exec (.pictureDescriptor i) s) (fun t => t.fld (R.CDC_RING_HEAD i.val) F.ING_RING_HEAD_head = (head + 1) % size ∧
      Record t i.val head st 0 ∧ t.media = { s.media with encCpl := s.media.encCpl.set 0 i.val ((n + 1) % size) } ∧
      t.host.irqs = (0, s.fld (R.CDC_RING_CFG i.val) F.ING_RING_CFG_vector) :: s.host.irqs ∧
      SameRegs [R.CDC_RING_HEAD i.val] s t ∧ ∀ y, t.byteAt y = s.byteAt y)) ∧
    (st = 0 → w 0 8 3 = x.val → Answers (exec (.pictureDescriptor i) s) (fun t => SameBytes s t ∧
      t.fld (R.CDC_RING_HEAD i.val) F.ING_RING_HEAD_head = (head + 1) % size ∧
      ∃ y, t.encS x.val = { q with pics := q.pics ++ [y] } ∧ y.inst = i.val ∧ y.idx = head ∧ y.gen = s.gen i.val ∧ y.desc = d ∧ y.started = false))) ∧
  (s.reach req cfg = true →
    (s.encOn x.val = false → bitOf v.toNat 0 = true → s.engineRead (.inst own) a 128 = 0 →
      ((a % 128 ≠ 0 ∨ s.sessionOk own b = false) → Answers (exec (.encodeStreamEnable req x v) s) (fun t => t.encOn x.val = false ∧
        t.fld cfg F.CDC_ENC_CFG_cfg_error = 1 ∧ t.media = s.media ∧ SameRegs [cfg] s t)) ∧
      (a % 128 = 0 → s.sessionOk own b = true → le b 3 1 = 0 → 480 < s.reservedOn e + le b 60 2 → Answers (exec (.encodeStreamEnable req x v) s) (fun t =>
        t.encOn x.val = false ∧ t.fld cfg F.CDC_ENC_CFG_res_error = 1 ∧ t.reservedOn 8 = s.reservedOn 8 ∧ t.reservedOn 9 = s.reservedOn 9)) ∧
      (a % 128 = 0 → s.sessionOk own b = true → le b 3 1 = 0 → s.reservedOn e + le b 60 2 ≤ 480 → (s.cdc e).bound = [] →
        (e = 8 ∨ e = 9) ∧ s.reservedOn e ≤ s.reservedOn 8 ∧ s.reservedOn e ≤ s.reservedOn 9 ∧
        Answers (exec (.encodeStreamEnable req x v) s) (fun t => t.encOn x.val = true ∧ t.encOwner x.val = own ∧
          t.encS x.val = { EncStream.reset with session := b, pics := q.pics, engine := e } ∧ t.reservedOn e = s.reservedOn e + le b 60 2)) ∧
      (a % 128 = 0 → s.sessionOk own b = true → le b 3 1 ≠ 0 → s.reservedOn e + le b 60 2 ≤ 480 → (s.cdc 8).bound = [] → (s.cdc 9).bound = [] →
        Answers (exec (.encodeStreamEnable req x v) s) (fun t => t.encOn x.val = true ∧ (t.encS x.val).session = b ∧ (t.encS x.val).lt = [] ∧
          t.reservedOn 8 = s.reservedOn 8 ∧ t.reservedOn 9 = s.reservedOn 9))) ∧
    (s.encOn x.val = true → bitOf v.toNat 0 = false → Answers (exec (.encodeStreamEnable req x v) s) (fun t => t.encOn x.val = false ∧
      ∀ k ∈ [8, 9], ∀ y ∈ t.media.reserved.get [] k, y.1 ≠ x.val))) ∧
  (s.reach req (R.CDC_ENC_KEY x.val) = true →
    ((v.toNat % 2 = 0 ∨ s.fld (R.CDC_ENC_STATUS x.val) F.CDC_ENC_STATUS_key_pending = 1) → exec (.keyPictureRequest req x v) s = .next s) ∧
    (v.toNat % 2 = 1 → s.fld (R.CDC_ENC_STATUS x.val) F.CDC_ENC_STATUS_key_pending = 0 → Answers (exec (.keyPictureRequest req x v) s) (fun t =>
      t.fld (R.CDC_ENC_STATUS x.val) F.CDC_ENC_STATUS_key_pending = 1 ∧
      (t.reg (R.CDC_ENC_KEYS x.val)).toNat = min 0xFFFFFFFF ((s.reg (R.CDC_ENC_KEYS x.val)).toNat + 1) ∧
      SameRegs [R.CDC_ENC_STATUS x.val, R.CDC_ENC_KEYS x.val] s t ∧ SameBytes s t))) ∧
  ((s.encClass x.val ≠ 1 ∨ q.pics = []) → exec (.encodeLiveLate x pts) s = .next s) ∧
  (s.encClass x.val = 1 → q.pics = [p] → State.pd p 4 0 64 = pts → p.inst < 8 → s.fld (R.CDC_RING_CFG p.inst) F.ING_RING_CFG_in_hbm = 0 →
    Answers (exec (.encodeLiveLate x pts) s) (fun t => t.encS x.val = { q with pics := [] } ∧ Record t p.inst p.idx 0x54 0 ∧
      (t.reg (R.CDC_ENC_LIVE_LATE x.val)).toNat = min 0xFFFFFFFF ((s.reg (R.CDC_ENC_LIVE_LATE x.val)).toNat + 1) ∧
      ∀ y, t.byteAt y = s.byteAt y))) ∧
  (∀ (s : State) (e : EngId) (x : EncId) (p : EncPic) (r : State.Ready) (w : CodecWork) (seq : Nat) (y : StrmId),
  let l := s.readyFor e.val
  let c := s.cdc e.val
  let q := s.encS x.val
  let rows := State.inputRows q p
  let size := 2 ^ le q.session 56 4
  let (bits, next) := Config.encode q.session q.coder p.key p.desc (rows.flatMap (fun z => s.bytesAt z.1 z.2))
  let used := (q.outWrite + size - s.fld (R.CDC_ENC_OUT_READ x.val) F.CDC_ENC_OUT_READ_offset % size) % size
  let base := le q.session 48 8
  let Record := fun (t : State) (code res : Nat) => natOfBytes (t.hostBytes (s.fld (R.CDC_RING_CPL_BASE p.inst) F.ING_RING_CPL_BASE_addr +
    16 * (s.media.encCpl.get 0 p.inst % s.ringEntriesOf true p.inst)) 16) = p.idx % 2 ^ 16 + code * 2 ^ 16 + res * 2 ^ 64
  let alone := (∀ z : EncId, z ≠ x → (s.encS z.val).pics = []) ∧ q.pics = [p] ∧ c.running = some (.enc x p.id) ∧ c.stopped = none ∧
    p.inst < 8 ∧ s.fld (R.CDC_RING_CFG p.inst) F.ING_RING_CFG_in_hbm = 0 ∧ 8 ≤ e.val
  (∀ live, s.chooseWork e.val live = some r → r ∈ l ∧ (live = true → r.cls = 1) ∧
    ((∃ z ∈ l, z.cls = 1) → r.cls = 1 ∧ ∀ z ∈ l, z.cls = 1 → r.deadline ≤ z.deadline) ∧
    ((∀ z ∈ l, z.cls ≠ 1) → (∃ z ∈ l, z.cls = 2) → r.cls = 2 ∧ ∀ z ∈ l, z.cls = 2 → r.age ≤ z.age)) ∧
  (c.running = none → c.stopped = none → l = [] → exec (.pictureBoundary e) s = .next s) ∧
  (c.running = none → c.stopped = some w → s.chooseWork e.val true = none → Answers (exec (.pictureBoundary e) s) (fun t =>
    (t.cdc e.val).running = some w ∧ (t.cdc e.val).stopped = none ∧ t.fld (R.CDC_ENG_STATUS e.val) F.CDC_ENG_STATUS_suspended = 0 ∧ SameBytes s t)) ∧
  (c.running = none → c.stopped = none → s.chooseWork e.val false = some r → r.work = .dec y seq → Answers (exec (.pictureBoundary e) s) (fun t =>
    (t.cdc e.val).running = some (.dec y seq) ∧ y.val ∈ (t.cdc e.val).bound ∧
    (r.cls ≠ 1 → ∀ k : Fin 8, k.val ≠ e.val → y.val ∉ (t.cdc k.val).bound) ∧ SameBytes s t)) ∧
  (c.running = none → c.stopped = none → s.chooseWork e.val false = some r → r.work = .enc x p.id → q.pics = [p] → r.cls = 1 →
    (State.pd p 0 29 1 = 1 → State.pd p 0 24 5 ∉ q.lt → p.inst < 8 → s.fld (R.CDC_RING_CFG p.inst) F.ING_RING_CFG_in_hbm = 0 →
      Answers (exec (.pictureBoundary e) s) (fun t => (t.encS x.val).pics = [] ∧ Record t 0x02 0 ∧ (t.cdc e.val).running = none)) ∧
    (State.pd p 0 29 1 = 0 → Answers (exec (.pictureBoundary e) s) (fun t => (t.cdc e.val).running = some (.enc x p.id) ∧
      t.fld (R.CDC_ENC_STATUS x.val) F.CDC_ENC_STATUS_key_pending = 0 ∧ SameBytes s t ∧
      ∃ key, (t.encS x.val).pics = [{ p with started := true, key := key }] ∧
        (key = true ↔ s.fld (R.CDC_ENC_STATUS x.val) F.CDC_ENC_STATUS_key_pending = 1 ∨ State.pd p 0 11 1 = 1 ∨ q.sinceKey = none ∨
          ∃ n, q.sinceKey = some n ∧ le q.session 28 4 ≠ 0 ∧ le q.session 28 4 ≤ n)))) ∧
  (alone → (∀ z ∈ rows, s.engineRead (.inst p.inst) z.1 z.2 = 0) →
    (size ≤ used + bits.length → Answers (exec (.pictureBoundary e) s) (fun t => t.encS x.val = { q with pics := [] } ∧ Record t 0x5B 0 ∧
      (t.cdc e.val).running = none ∧ t.reg (R.CDC_ENC_PICTURES x.val) = s.reg (R.CDC_ENC_PICTURES x.val) ∧ ∀ a, t.byteAt a = s.byteAt a)) ∧
    (used + bits.length < size → q.outWrite + bits.length ≤ size → 0 < bits.length → base + size ≤ 0x18000000000 →
      s.checkRange (.inst p.inst) (base + q.outWrite) bits.length = 0 → bits.length < 2 ^ 32 → q.outWrite < 2 ^ 32 →
      Answers (exec (.pictureBoundary e) s) (fun t => t.bytesAt (base + q.outWrite) bits.length = bits ∧
        (∀ a, a < base + q.outWrite ∨ base + q.outWrite + bits.length ≤ a → t.byteAt a = s.byteAt a) ∧ (t.cdc e.val).running = none ∧
        Record t 0 (bits.length + q.outWrite * 2 ^ 32) ∧ t.reg (R.CDC_ENC_PICTURES x.val) = s.reg (R.CDC_ENC_PICTURES x.val) + 1 ∧
        (t.encS x.val).coder = next ∧ (t.encS x.val).pics = [] ∧ (t.encS x.val).outWrite = (q.outWrite + bits.length) % size ∧
        (p.key = true → State.pd p 0 17 1 = 0 → (t.encS x.val).lt = [] ∧ (t.encS x.val).sinceKey = some 1) ∧
        (p.key = false → State.pd p 0 17 1 = 1 → ∀ k, k ∈ (t.encS x.val).lt ↔ k = State.pd p 0 12 5 ∨ k ∈ State.afterDrop q p)))) ∧
  (c.running = none → exec (.blockRowPreempt e) s = .next s) ∧
  (c.running = some w → (s.workClass w = 1 ∨ c.stopped ≠ none ∨ s.chooseWork e.val true = none) → exec (.blockRowPreempt e) s = .next s) ∧
  (c.running = some w → s.workClass w ≠ 1 → c.stopped = none → s.chooseWork e.val true = some r → r.work = .dec y seq →
    Answers (exec (.blockRowPreempt e) s) (fun t => (t.cdc e.val).stopped = some w ∧ (t.cdc e.val).running = some (.dec y seq) ∧
      t.fld (R.CDC_ENG_STATUS e.val) F.CDC_ENG_STATUS_suspended = 1 ∧ t.fld (R.CDC_ENG_STATUS e.val) F.CDC_ENG_STATUS_class = s.workClass r.work ∧
      SameBytes s t)))
end

