-- ==== Sys2Proof/Laws/Fields.lean ====
section
/-! SUPPORT. Register fields: reading a field after writing it, or another. -/
namespace Sys2Proof

/-- A word with a field replaced, in three pieces. -/
theorem Fld.split_set (n lo len v : Nat) :
    n - n / 2 ^ lo % 2 ^ len * 2 ^ lo + v * 2 ^ lo = (n / 2 ^ lo / 2 ^ len * 2 ^ len + v) * 2 ^ lo + n % 2 ^ lo := by
  have h1 : n = n / 2 ^ lo * 2 ^ lo + n % 2 ^ lo := (Nat.div_add_mod' n (2 ^ lo)).symm
  have h2 : n / 2 ^ lo = n / 2 ^ lo / 2 ^ len * 2 ^ len + n / 2 ^ lo % 2 ^ len :=
    (Nat.div_add_mod' (n / 2 ^ lo) (2 ^ len)).symm
  generalize hq : n / 2 ^ lo = q at h1 h2
  generalize hr : n % 2 ^ lo = r at h1
  generalize hh : q / 2 ^ len = hi at h2
  generalize hm : q % 2 ^ len = mid at h2
  subst h1
  rw [h2, Nat.add_mul, Nat.add_mul]
  generalize hi * 2 ^ len * 2 ^ lo = a
  generalize mid * 2 ^ lo = b
  generalize v * 2 ^ lo = c
  omega

theorem Fld.set_toNat (f : Fld) (w : Word) (v : Nat) (h : f.lo + f.len ≤ 64) :
    (f.set w v).toNat = (w.toNat / 2 ^ f.lo / 2 ^ f.len * 2 ^ f.len + v % 2 ^ f.len) * 2 ^ f.lo + w.toNat % 2 ^ f.lo := by
  unfold Fld.set Fld.get
  rw [Fld.split_set, BitVec.toNat_ofNat]
  apply Nat.mod_eq_of_lt
  have hw := w.isLt
  have hv : v % 2 ^ f.len < 2 ^ f.len := Nat.mod_lt _ (Nat.two_pow_pos _)
  have hr : w.toNat % 2 ^ f.lo < 2 ^ f.lo := Nat.mod_lt _ (Nat.two_pow_pos _)
  have e : 64 = f.lo + f.len + (64 - f.lo - f.len) := by omega
  have hq : w.toNat / 2 ^ f.lo / 2 ^ f.len < 2 ^ (64 - f.lo - f.len) := by
    rw [Nat.div_div_eq_div_mul, ← Nat.pow_add]
    apply Nat.div_lt_of_lt_mul
    rw [← Nat.pow_add, ← e]
    exact hw
  generalize w.toNat / 2 ^ f.lo / 2 ^ f.len = q at *
  generalize v % 2 ^ f.len = m at *
  generalize w.toNat % 2 ^ f.lo = r at *
  have h1 : q * 2 ^ f.len + m < 2 ^ (64 - f.lo - f.len) * 2 ^ f.len := by
    calc q * 2 ^ f.len + m < q * 2 ^ f.len + 2 ^ f.len := by omega
      _ = (q + 1) * 2 ^ f.len := by rw [Nat.add_mul, Nat.one_mul]
      _ ≤ _ := Nat.mul_le_mul_right _ hq
  calc (q * 2 ^ f.len + m) * 2 ^ f.lo + r < (q * 2 ^ f.len + m) * 2 ^ f.lo + 2 ^ f.lo := by omega
    _ = (q * 2 ^ f.len + m + 1) * 2 ^ f.lo := by rw [Nat.add_mul _ 1, Nat.one_mul]
    _ ≤ 2 ^ (64 - f.lo - f.len) * 2 ^ f.len * 2 ^ f.lo := Nat.mul_le_mul_right _ h1
    _ = 2 ^ 64 := by rw [← Nat.pow_add, ← Nat.pow_add]; congr 1; omega

/-- The field that was written reads the written value, cut to its width. -/
theorem Fld.get_set (f : Fld) (w : Word) (v : Nat) (h : f.lo + f.len ≤ 64) : f.get (f.set w v) = v % 2 ^ f.len := by
  rw [Fld.get, Fld.set_toNat f w v h]
  have hr : w.toNat % 2 ^ f.lo < 2 ^ f.lo := Nat.mod_lt _ (Nat.two_pow_pos _)
  rw [Nat.mul_comm _ (2 ^ f.lo), Nat.mul_add_div (Nat.two_pow_pos _), Nat.div_eq_of_lt hr, Nat.add_zero,
    Nat.mul_comm, Nat.mul_add_mod, Nat.mod_mod]

/-- A field that lies apart from the written one reads as before. -/
theorem Fld.get_set_apart (f g : Fld) (w : Word) (v : Nat) (h : f.lo + f.len ≤ 64)
    (d : f.lo + f.len ≤ g.lo ∨ g.lo + g.len ≤ f.lo) : g.get (f.set w v) = g.get w := by
  rw [Fld.get, Fld.get, Fld.set_toNat f w v h]
  have hr : w.toNat % 2 ^ f.lo < 2 ^ f.lo := Nat.mod_lt _ (Nat.two_pow_pos _)
  rcases d with d | d
  · obtain ⟨k, hk⟩ := Nat.exists_eq_add_of_le d
    have key : ∀ m r : Nat, m < 2 ^ f.len → r < 2 ^ f.lo →
        ((w.toNat / 2 ^ f.lo / 2 ^ f.len * 2 ^ f.len + m) * 2 ^ f.lo + r) / 2 ^ g.lo = w.toNat / 2 ^ g.lo := by
      intro m r hm hr
      rw [hk, Nat.pow_add, Nat.pow_add, ← Nat.div_div_eq_div_mul, ← Nat.div_div_eq_div_mul,
        Nat.mul_comm _ (2 ^ f.lo), Nat.mul_add_div (Nat.two_pow_pos _), Nat.div_eq_of_lt hr, Nat.add_zero,
        Nat.mul_comm _ (2 ^ f.len), Nat.mul_add_div (Nat.two_pow_pos _), Nat.div_eq_of_lt hm, Nat.add_zero,
        ← Nat.div_div_eq_div_mul, ← Nat.div_div_eq_div_mul]
    rw [key _ _ (Nat.mod_lt _ (Nat.two_pow_pos _)) hr]
  · obtain ⟨k, hk⟩ := Nat.exists_eq_add_of_le d
    generalize w.toNat / 2 ^ f.lo / 2 ^ f.len * 2 ^ f.len + v % 2 ^ f.len = q
    have e : ∀ x : Nat, x / 2 ^ g.lo % 2 ^ g.len = x % 2 ^ f.lo / 2 ^ g.lo % 2 ^ g.len := by
      intro x
      rw [hk, Nat.pow_add, Nat.pow_add, Nat.mul_assoc, Nat.mod_mul_right_div_self, Nat.mod_mul_right_mod]
    rw [e (q * 2 ^ f.lo + w.toNat % 2 ^ f.lo), e w.toNat, Nat.mul_comm, Nat.mul_add_mod, Nat.mod_mod]

end Sys2Proof
end

