-- ==== Sys2Proof/Laws/Keeps.lean ====
section
/-! SUPPORT. How passages between states compose: what a chain of operations touches is what its parts touch. -/
namespace Sys2Proof.Machine

theorem Keeps.refl {w : Nat} (s : State) : Keeps w s s := ⟨fun _ => rfl, fun _ => rfl, fun _ => rfl, fun _ => rfl, fun _ => rfl, fun _ => rfl, fun _ => rfl, fun _ => rfl, fun _ => rfl, fun _ => rfl, fun _ => rfl, fun _ => rfl, fun _ => rfl, fun _ => rfl, fun _ => rfl, fun _ => rfl, fun _ => rfl, fun _ => rfl, fun _ => rfl, fun _ => rfl, fun _ => rfl, fun _ => rfl, fun _ => rfl, fun _ => rfl, fun _ => rfl, rfl, id⟩
/-- Two passages one after the other. -/
theorem Keeps.trans {w : Nat} {s t u : State} (h : Keeps w s t) (k : Keeps w t u) : Keeps w s u :=
  ⟨fun x => (k.regs x).trans (h.regs x),
    fun x => (k.captured x).trans (h.captured x),
    fun x => (k.heldLow x).trans (h.heldLow x),
    fun x => (k.mem x).trans (h.mem x),
    fun x => (k.hostMem x).trans (h.hostMem x),
    fun x => (k.cores x).trans (h.cores x),
    fun x => (k.sch x).trans (h.sch x),
    fun x => (k.msys x).trans (h.msys x),
    fun x => (k.kv x).trans (h.kv x),
    fun x => (k.lab x).trans (h.lab x),
    fun x => (k.upd x).trans (h.upd x),
    fun x => (k.votes x).trans (h.votes x),
    fun x => (k.localMsgs x).trans (h.localMsgs x),
    fun x => (k.seam x).trans (h.seam x),
    fun x => (k.seamNotes x).trans (h.seamNotes x),
    fun x => (k.seamGroups x).trans (h.seamGroups x),
    fun x => (k.sessions x).trans (h.sessions x),
    fun x => (k.txns x).trans (h.txns x),
    fun x => (k.ingress x).trans (h.ingress x),
    fun x => (k.fab x).trans (h.fab x),
    fun x => (k.media x).trans (h.media x),
    fun x => (k.host x).trans (h.host x),
    fun x => (k.pwr x).trans (h.pwr x),
    fun x => (k.ras x).trans (h.ras x),
    fun x => (k.free x).trans (h.free x),
    k.pending.trans h.pending, fun x => k.memory (h.memory x)⟩
theorem mask_bit {a b i : Nat} (h : a &&& b = a) (hb : b.testBit i = false) : a.testBit i = false := by
  rw [← h, Nat.testBit_and, hb, Bool.and_false]
/-- A passage that touches less. -/
theorem Keeps.weaken {a b : Nat} {s t : State} (h : Keeps a s t) (m : a &&& b = a) : Keeps b s t :=
  ⟨fun x => h.regs (mask_bit m x),
    fun x => h.captured (mask_bit m x),
    fun x => h.heldLow (mask_bit m x),
    fun x => h.mem (mask_bit m x),
    fun x => h.hostMem (mask_bit m x),
    fun x => h.cores (mask_bit m x),
    fun x => h.sch (mask_bit m x),
    fun x => h.msys (mask_bit m x),
    fun x => h.kv (mask_bit m x),
    fun x => h.lab (mask_bit m x),
    fun x => h.upd (mask_bit m x),
    fun x => h.votes (mask_bit m x),
    fun x => h.localMsgs (mask_bit m x),
    fun x => h.seam (mask_bit m x),
    fun x => h.seamNotes (mask_bit m x),
    fun x => h.seamGroups (mask_bit m x),
    fun x => h.sessions (mask_bit m x),
    fun x => h.txns (mask_bit m x),
    fun x => h.ingress (mask_bit m x),
    fun x => h.fab (mask_bit m x),
    fun x => h.media (mask_bit m x),
    fun x => h.host (mask_bit m x),
    fun x => h.pwr (mask_bit m x),
    fun x => h.ras (mask_bit m x),
    fun x => h.free (mask_bit m x),
    h.pending, h.memory⟩
theorem Keeps.step {a b : Nat} {s t u : State} (k : Keeps a t u) (m : a &&& b = a) (h : Keeps b s t) : Keeps b s u :=
  h.trans (k.weaken m)
theorem Keeps.set_regs {w : Nat} {s t : State} {v} (hw : w.testBit 0 = true) (h : Keeps w s t) :
    Keeps w s { t with regs := v } :=
  ⟨(fun x => (Bool.noConfusion (hw.symm.trans x))), h.captured, h.heldLow, h.mem, h.hostMem, h.cores, h.sch, h.msys, h.kv, h.lab, h.upd, h.votes, h.localMsgs, h.seam, h.seamNotes, h.seamGroups, h.sessions, h.txns, h.ingress, h.fab, h.media, h.host, h.pwr, h.ras, h.free, h.pending, h.memory⟩
theorem Keeps.set_captured {w : Nat} {s t : State} {v} (hw : w.testBit 1 = true) (h : Keeps w s t) :
    Keeps w s { t with captured := v } :=
  ⟨h.regs, (fun x => (Bool.noConfusion (hw.symm.trans x))), h.heldLow, h.mem, h.hostMem, h.cores, h.sch, h.msys, h.kv, h.lab, h.upd, h.votes, h.localMsgs, h.seam, h.seamNotes, h.seamGroups, h.sessions, h.txns, h.ingress, h.fab, h.media, h.host, h.pwr, h.ras, h.free, h.pending, h.memory⟩
theorem Keeps.set_heldLow {w : Nat} {s t : State} {v} (hw : w.testBit 2 = true) (h : Keeps w s t) :
    Keeps w s { t with heldLow := v } :=
  ⟨h.regs, h.captured, (fun x => (Bool.noConfusion (hw.symm.trans x))), h.mem, h.hostMem, h.cores, h.sch, h.msys, h.kv, h.lab, h.upd, h.votes, h.localMsgs, h.seam, h.seamNotes, h.seamGroups, h.sessions, h.txns, h.ingress, h.fab, h.media, h.host, h.pwr, h.ras, h.free, h.pending, h.memory⟩
theorem Keeps.set_mem {w : Nat} {s t : State} {v} (hw : w.testBit 3 = true) (hm : Memory.wf t.mem = true → Memory.wf v = true) (h : Keeps w s t) :
    Keeps w s { t with mem := v } :=
  ⟨h.regs, h.captured, h.heldLow, (fun x => (Bool.noConfusion (hw.symm.trans x))), h.hostMem, h.cores, h.sch, h.msys, h.kv, h.lab, h.upd, h.votes, h.localMsgs, h.seam, h.seamNotes, h.seamGroups, h.sessions, h.txns, h.ingress, h.fab, h.media, h.host, h.pwr, h.ras, h.free, h.pending, fun x => ⟨hm (h.memory x).1, (h.memory x).2⟩⟩
theorem Keeps.set_hostMem {w : Nat} {s t : State} {v} (hw : w.testBit 4 = true) (hm : Memory.wf t.hostMem = true → Memory.wf v = true) (h : Keeps w s t) :
    Keeps w s { t with hostMem := v } :=
  ⟨h.regs, h.captured, h.heldLow, h.mem, (fun x => (Bool.noConfusion (hw.symm.trans x))), h.cores, h.sch, h.msys, h.kv, h.lab, h.upd, h.votes, h.localMsgs, h.seam, h.seamNotes, h.seamGroups, h.sessions, h.txns, h.ingress, h.fab, h.media, h.host, h.pwr, h.ras, h.free, h.pending, fun x => ⟨(h.memory x).1, hm (h.memory x).2⟩⟩
theorem Keeps.set_cores {w : Nat} {s t : State} {v} (hw : w.testBit 5 = true) (h : Keeps w s t) :
    Keeps w s { t with cores := v } :=
  ⟨h.regs, h.captured, h.heldLow, h.mem, h.hostMem, (fun x => (Bool.noConfusion (hw.symm.trans x))), h.sch, h.msys, h.kv, h.lab, h.upd, h.votes, h.localMsgs, h.seam, h.seamNotes, h.seamGroups, h.sessions, h.txns, h.ingress, h.fab, h.media, h.host, h.pwr, h.ras, h.free, h.pending, h.memory⟩
theorem Keeps.set_sch {w : Nat} {s t : State} {v} (hw : w.testBit 6 = true) (h : Keeps w s t) :
    Keeps w s { t with sch := v } :=
  ⟨h.regs, h.captured, h.heldLow, h.mem, h.hostMem, h.cores, (fun x => (Bool.noConfusion (hw.symm.trans x))), h.msys, h.kv, h.lab, h.upd, h.votes, h.localMsgs, h.seam, h.seamNotes, h.seamGroups, h.sessions, h.txns, h.ingress, h.fab, h.media, h.host, h.pwr, h.ras, h.free, h.pending, h.memory⟩
theorem Keeps.set_msys {w : Nat} {s t : State} {v} (hw : w.testBit 7 = true) (h : Keeps w s t) :
    Keeps w s { t with msys := v } :=
  ⟨h.regs, h.captured, h.heldLow, h.mem, h.hostMem, h.cores, h.sch, (fun x => (Bool.noConfusion (hw.symm.trans x))), h.kv, h.lab, h.upd, h.votes, h.localMsgs, h.seam, h.seamNotes, h.seamGroups, h.sessions, h.txns, h.ingress, h.fab, h.media, h.host, h.pwr, h.ras, h.free, h.pending, h.memory⟩
theorem Keeps.set_kv {w : Nat} {s t : State} {v} (hw : w.testBit 8 = true) (h : Keeps w s t) :
    Keeps w s { t with kv := v } :=
  ⟨h.regs, h.captured, h.heldLow, h.mem, h.hostMem, h.cores, h.sch, h.msys, (fun x => (Bool.noConfusion (hw.symm.trans x))), h.lab, h.upd, h.votes, h.localMsgs, h.seam, h.seamNotes, h.seamGroups, h.sessions, h.txns, h.ingress, h.fab, h.media, h.host, h.pwr, h.ras, h.free, h.pending, h.memory⟩
theorem Keeps.set_lab {w : Nat} {s t : State} {v} (hw : w.testBit 9 = true) (h : Keeps w s t) :
    Keeps w s { t with lab := v } :=
  ⟨h.regs, h.captured, h.heldLow, h.mem, h.hostMem, h.cores, h.sch, h.msys, h.kv, (fun x => (Bool.noConfusion (hw.symm.trans x))), h.upd, h.votes, h.localMsgs, h.seam, h.seamNotes, h.seamGroups, h.sessions, h.txns, h.ingress, h.fab, h.media, h.host, h.pwr, h.ras, h.free, h.pending, h.memory⟩
theorem Keeps.set_upd {w : Nat} {s t : State} {v} (hw : w.testBit 10 = true) (h : Keeps w s t) :
    Keeps w s { t with upd := v } :=
  ⟨h.regs, h.captured, h.heldLow, h.mem, h.hostMem, h.cores, h.sch, h.msys, h.kv, h.lab, (fun x => (Bool.noConfusion (hw.symm.trans x))), h.votes, h.localMsgs, h.seam, h.seamNotes, h.seamGroups, h.sessions, h.txns, h.ingress, h.fab, h.media, h.host, h.pwr, h.ras, h.free, h.pending, h.memory⟩
theorem Keeps.set_votes {w : Nat} {s t : State} {v} (hw : w.testBit 11 = true) (h : Keeps w s t) :
    Keeps w s { t with votes := v } :=
  ⟨h.regs, h.captured, h.heldLow, h.mem, h.hostMem, h.cores, h.sch, h.msys, h.kv, h.lab, h.upd, (fun x => (Bool.noConfusion (hw.symm.trans x))), h.localMsgs, h.seam, h.seamNotes, h.seamGroups, h.sessions, h.txns, h.ingress, h.fab, h.media, h.host, h.pwr, h.ras, h.free, h.pending, h.memory⟩
theorem Keeps.set_localMsgs {w : Nat} {s t : State} {v} (hw : w.testBit 12 = true) (h : Keeps w s t) :
    Keeps w s { t with localMsgs := v } :=
  ⟨h.regs, h.captured, h.heldLow, h.mem, h.hostMem, h.cores, h.sch, h.msys, h.kv, h.lab, h.upd, h.votes, (fun x => (Bool.noConfusion (hw.symm.trans x))), h.seam, h.seamNotes, h.seamGroups, h.sessions, h.txns, h.ingress, h.fab, h.media, h.host, h.pwr, h.ras, h.free, h.pending, h.memory⟩
theorem Keeps.set_seam {w : Nat} {s t : State} {v} (hw : w.testBit 13 = true) (h : Keeps w s t) :
    Keeps w s { t with seam := v } :=
  ⟨h.regs, h.captured, h.heldLow, h.mem, h.hostMem, h.cores, h.sch, h.msys, h.kv, h.lab, h.upd, h.votes, h.localMsgs, (fun x => (Bool.noConfusion (hw.symm.trans x))), h.seamNotes, h.seamGroups, h.sessions, h.txns, h.ingress, h.fab, h.media, h.host, h.pwr, h.ras, h.free, h.pending, h.memory⟩
theorem Keeps.set_seamNotes {w : Nat} {s t : State} {v} (hw : w.testBit 14 = true) (h : Keeps w s t) :
    Keeps w s { t with seamNotes := v } :=
  ⟨h.regs, h.captured, h.heldLow, h.mem, h.hostMem, h.cores, h.sch, h.msys, h.kv, h.lab, h.upd, h.votes, h.localMsgs, h.seam, (fun x => (Bool.noConfusion (hw.symm.trans x))), h.seamGroups, h.sessions, h.txns, h.ingress, h.fab, h.media, h.host, h.pwr, h.ras, h.free, h.pending, h.memory⟩
theorem Keeps.set_seamGroups {w : Nat} {s t : State} {v} (hw : w.testBit 15 = true) (h : Keeps w s t) :
    Keeps w s { t with seamGroups := v } :=
  ⟨h.regs, h.captured, h.heldLow, h.mem, h.hostMem, h.cores, h.sch, h.msys, h.kv, h.lab, h.upd, h.votes, h.localMsgs, h.seam, h.seamNotes, (fun x => (Bool.noConfusion (hw.symm.trans x))), h.sessions, h.txns, h.ingress, h.fab, h.media, h.host, h.pwr, h.ras, h.free, h.pending, h.memory⟩
theorem Keeps.set_sessions {w : Nat} {s t : State} {v} (hw : w.testBit 16 = true) (h : Keeps w s t) :
    Keeps w s { t with sessions := v } :=
  ⟨h.regs, h.captured, h.heldLow, h.mem, h.hostMem, h.cores, h.sch, h.msys, h.kv, h.lab, h.upd, h.votes, h.localMsgs, h.seam, h.seamNotes, h.seamGroups, (fun x => (Bool.noConfusion (hw.symm.trans x))), h.txns, h.ingress, h.fab, h.media, h.host, h.pwr, h.ras, h.free, h.pending, h.memory⟩
theorem Keeps.set_txns {w : Nat} {s t : State} {v} (hw : w.testBit 17 = true) (h : Keeps w s t) :
    Keeps w s { t with txns := v } :=
  ⟨h.regs, h.captured, h.heldLow, h.mem, h.hostMem, h.cores, h.sch, h.msys, h.kv, h.lab, h.upd, h.votes, h.localMsgs, h.seam, h.seamNotes, h.seamGroups, h.sessions, (fun x => (Bool.noConfusion (hw.symm.trans x))), h.ingress, h.fab, h.media, h.host, h.pwr, h.ras, h.free, h.pending, h.memory⟩
theorem Keeps.set_ingress {w : Nat} {s t : State} {v} (hw : w.testBit 18 = true) (h : Keeps w s t) :
    Keeps w s { t with ingress := v } :=
  ⟨h.regs, h.captured, h.heldLow, h.mem, h.hostMem, h.cores, h.sch, h.msys, h.kv, h.lab, h.upd, h.votes, h.localMsgs, h.seam, h.seamNotes, h.seamGroups, h.sessions, h.txns, (fun x => (Bool.noConfusion (hw.symm.trans x))), h.fab, h.media, h.host, h.pwr, h.ras, h.free, h.pending, h.memory⟩
theorem Keeps.set_fab {w : Nat} {s t : State} {v} (hw : w.testBit 19 = true) (h : Keeps w s t) :
    Keeps w s { t with fab := v } :=
  ⟨h.regs, h.captured, h.heldLow, h.mem, h.hostMem, h.cores, h.sch, h.msys, h.kv, h.lab, h.upd, h.votes, h.localMsgs, h.seam, h.seamNotes, h.seamGroups, h.sessions, h.txns, h.ingress, (fun x => (Bool.noConfusion (hw.symm.trans x))), h.media, h.host, h.pwr, h.ras, h.free, h.pending, h.memory⟩
theorem Keeps.set_media {w : Nat} {s t : State} {v} (hw : w.testBit 20 = true) (h : Keeps w s t) :
    Keeps w s { t with media := v } :=
  ⟨h.regs, h.captured, h.heldLow, h.mem, h.hostMem, h.cores, h.sch, h.msys, h.kv, h.lab, h.upd, h.votes, h.localMsgs, h.seam, h.seamNotes, h.seamGroups, h.sessions, h.txns, h.ingress, h.fab, (fun x => (Bool.noConfusion (hw.symm.trans x))), h.host, h.pwr, h.ras, h.free, h.pending, h.memory⟩
theorem Keeps.set_host {w : Nat} {s t : State} {v} (hw : w.testBit 21 = true) (h : Keeps w s t) :
    Keeps w s { t with host := v } :=
  ⟨h.regs, h.captured, h.heldLow, h.mem, h.hostMem, h.cores, h.sch, h.msys, h.kv, h.lab, h.upd, h.votes, h.localMsgs, h.seam, h.seamNotes, h.seamGroups, h.sessions, h.txns, h.ingress, h.fab, h.media, (fun x => (Bool.noConfusion (hw.symm.trans x))), h.pwr, h.ras, h.free, h.pending, h.memory⟩
theorem Keeps.set_pwr {w : Nat} {s t : State} {v} (hw : w.testBit 22 = true) (h : Keeps w s t) :
    Keeps w s { t with pwr := v } :=
  ⟨h.regs, h.captured, h.heldLow, h.mem, h.hostMem, h.cores, h.sch, h.msys, h.kv, h.lab, h.upd, h.votes, h.localMsgs, h.seam, h.seamNotes, h.seamGroups, h.sessions, h.txns, h.ingress, h.fab, h.media, h.host, (fun x => (Bool.noConfusion (hw.symm.trans x))), h.ras, h.free, h.pending, h.memory⟩
theorem Keeps.set_ras {w : Nat} {s t : State} {v} (hw : w.testBit 23 = true) (h : Keeps w s t) :
    Keeps w s { t with ras := v } :=
  ⟨h.regs, h.captured, h.heldLow, h.mem, h.hostMem, h.cores, h.sch, h.msys, h.kv, h.lab, h.upd, h.votes, h.localMsgs, h.seam, h.seamNotes, h.seamGroups, h.sessions, h.txns, h.ingress, h.fab, h.media, h.host, h.pwr, (fun x => (Bool.noConfusion (hw.symm.trans x))), h.free, h.pending, h.memory⟩
theorem Keeps.set_free {w : Nat} {s t : State} {v} (hw : w.testBit 24 = true) (h : Keeps w s t) :
    Keeps w s { t with free := v } :=
  ⟨h.regs, h.captured, h.heldLow, h.mem, h.hostMem, h.cores, h.sch, h.msys, h.kv, h.lab, h.upd, h.votes, h.localMsgs, h.seam, h.seamNotes, h.seamGroups, h.sessions, h.txns, h.ingress, h.fab, h.media, h.host, h.pwr, h.ras, (fun x => (Bool.noConfusion (hw.symm.trans x))), h.pending, h.memory⟩

/-- An optional result touches no more than `w` when there is one. -/
structure KeepsOpt {α : Type} (w : Nat) (s : State) (π : α → State) (o : Option α) : Prop where
  out : ∀ a, o = some a → Keeps w s (π a)

/-- An answer touches no more than `w` when it is a next state. -/
structure KeepsOut (w : Nat) (s : State) (o : Out) : Prop where
  out : ∀ t, o = .next t → Keeps w s t

theorem KeepsOut.next {w : Nat} {s t : State} (h : Keeps w s t) : KeepsOut w s (.next t) := ⟨fun _ e => by
  cases e; exact h⟩

theorem KeepsOut.step {a b : Nat} {s t : State} {o : Out} (k : KeepsOut a t o) (m : a &&& b = a) (h : Keeps b s t) :
    KeepsOut b s o := ⟨fun _ e => h.trans ((k.out _ e).weaken m)⟩

theorem KeepsOpt.some {α : Type} {w : Nat} {s : State} {π : α → State} {a : α} (h : Keeps w s (π a)) :
    KeepsOpt w s π (some a) := ⟨fun _ e => by cases e; exact h⟩

theorem KeepsOpt.none {α : Type} {w : Nat} {s : State} {π : α → State} : KeepsOpt w s π none := ⟨fun _ e => by cases e⟩

theorem KeepsOpt.step {α : Type} {a b : Nat} {s t : State} {π : α → State} {o : Option α} (k : KeepsOpt a t π o)
    (m : a &&& b = a) (h : Keeps b s t) : KeepsOpt b s π o := ⟨fun _ e => h.trans ((k.out _ e).weaken m)⟩

theorem KeepsOpt.eq {α : Type} {w : Nat} {s : State} {π : α → State} {o : Option α} {x : α} (e : o = .some x)
    (h : KeepsOpt w s π o) : Keeps w s (π x) := h.out _ e

theorem KeepsOpt.getD {w : Nat} {s d : State} {o : Option State} (h : KeepsOpt w s (fun z : State => z) o) (hd : Keeps w s d) :
    Keeps w s (o.getD d) := by
  cases o with
  | none => exact hd
  | some x => exact h.out x rfl

theorem Keeps.ite {w : Nat} {s a b : State} {c : Prop} [Decidable c] (ha : Keeps w s a) (hb : Keeps w s b) :
    Keeps w s (if c then a else b) := by split <;> assumption

theorem Keeps.foldl {w : Nat} {s : State} {β γ : Type} (π : β → State) {f : β → γ → β} {l : List γ} {b : β}
    (hb : Keeps w s (π b)) (hf : ∀ x a, Keeps w s (π x) → Keeps w s (π (f x a))) : Keeps w s (π (l.foldl f b)) := by
  induction l generalizing b with
  | nil => exact hb
  | cons a l ih => exact ih (hf _ _ hb)

theorem Keeps.fold {w : Nat} {s : State} {γ : Type} {f : State → γ → State} {l : List γ} {b : State}
    (hb : Keeps w s b) (hf : ∀ x a, Keeps w s x → Keeps w s (f x a)) : Keeps w s (l.foldl f b) :=
  Keeps.foldl (fun z => z) hb hf

theorem KeepsOpt.foldl {w : Nat} {s : State} {γ : Type} {f : Option State → γ → Option State} {l : List γ} {b : Option State}
    (hb : KeepsOpt w s (fun z : State => z) b) (hf : ∀ x a, KeepsOpt w s (fun z : State => z) x → KeepsOpt w s (fun z : State => z) (f x a)) :
    KeepsOpt w s (fun z : State => z) (l.foldl f b) := by
  induction l generalizing b with
  | nil => exact hb
  | cons a l ih => exact ih (hf _ _ hb)

theorem Keeps.fst_eq {w : Nat} {s a : State} {α : Type} {b : α} {p : State × α} (e : p = (a, b)) (h : Keeps w s p.1) :
    Keeps w s a := by subst e; exact h

theorem Keeps.snd_eq {w : Nat} {s b : State} {α : Type} {a : α} {p : α × State} (e : p = (a, b)) (h : Keeps w s p.2) :
    Keeps w s b := by subst e; exact h

theorem Keeps.trd_eq {w : Nat} {s c : State} {α β : Type} {a : α} {b : β} {p : α × β × State} (e : p = (a, b, c))
    (h : Keeps w s p.2.2) : Keeps w s c := by subst e; exact h

theorem Keeps.fth_eq {w : Nat} {s d : State} {α β γ : Type} {a : α} {b : β} {c : γ} {p : α × β × γ × State}
    (e : p = (a, b, c, d)) (h : Keeps w s p.2.2.2) : Keeps w s d := by subst e; exact h

/-- Several parts change at once. -/
theorem Keeps.many {w : Nat} {s t u : State} (h : Keeps w s t)
    (h0 : w.testBit 0 = true ∨ u.regs = t.regs)
    (h1 : w.testBit 1 = true ∨ u.captured = t.captured)
    (h2 : w.testBit 2 = true ∨ u.heldLow = t.heldLow)
    (h3 : w.testBit 3 = true ∨ u.mem = t.mem)
    (h4 : w.testBit 4 = true ∨ u.hostMem = t.hostMem)
    (h5 : w.testBit 5 = true ∨ u.cores = t.cores)
    (h6 : w.testBit 6 = true ∨ u.sch = t.sch)
    (h7 : w.testBit 7 = true ∨ u.msys = t.msys)
    (h8 : w.testBit 8 = true ∨ u.kv = t.kv)
    (h9 : w.testBit 9 = true ∨ u.lab = t.lab)
    (h10 : w.testBit 10 = true ∨ u.upd = t.upd)
    (h11 : w.testBit 11 = true ∨ u.votes = t.votes)
    (h12 : w.testBit 12 = true ∨ u.localMsgs = t.localMsgs)
    (h13 : w.testBit 13 = true ∨ u.seam = t.seam)
    (h14 : w.testBit 14 = true ∨ u.seamNotes = t.seamNotes)
    (h15 : w.testBit 15 = true ∨ u.seamGroups = t.seamGroups)
    (h16 : w.testBit 16 = true ∨ u.sessions = t.sessions)
    (h17 : w.testBit 17 = true ∨ u.txns = t.txns)
    (h18 : w.testBit 18 = true ∨ u.ingress = t.ingress)
    (h19 : w.testBit 19 = true ∨ u.fab = t.fab)
    (h20 : w.testBit 20 = true ∨ u.media = t.media)
    (h21 : w.testBit 21 = true ∨ u.host = t.host)
    (h22 : w.testBit 22 = true ∨ u.pwr = t.pwr)
    (h23 : w.testBit 23 = true ∨ u.ras = t.ras)
    (h24 : w.testBit 24 = true ∨ u.free = t.free)
    (hp : u.pending = t.pending) (hm : Memory.wf t.mem = true → Memory.wf u.mem = true)
    (hn : Memory.wf t.hostMem = true → Memory.wf u.hostMem = true) : Keeps w s u :=
  ⟨fun x => (h0.resolve_left (fun y => Bool.noConfusion (x.symm.trans y))).trans (h.regs x),
    fun x => (h1.resolve_left (fun y => Bool.noConfusion (x.symm.trans y))).trans (h.captured x),
    fun x => (h2.resolve_left (fun y => Bool.noConfusion (x.symm.trans y))).trans (h.heldLow x),
    fun x => (h3.resolve_left (fun y => Bool.noConfusion (x.symm.trans y))).trans (h.mem x),
    fun x => (h4.resolve_left (fun y => Bool.noConfusion (x.symm.trans y))).trans (h.hostMem x),
    fun x => (h5.resolve_left (fun y => Bool.noConfusion (x.symm.trans y))).trans (h.cores x),
    fun x => (h6.resolve_left (fun y => Bool.noConfusion (x.symm.trans y))).trans (h.sch x),
    fun x => (h7.resolve_left (fun y => Bool.noConfusion (x.symm.trans y))).trans (h.msys x),
    fun x => (h8.resolve_left (fun y => Bool.noConfusion (x.symm.trans y))).trans (h.kv x),
    fun x => (h9.resolve_left (fun y => Bool.noConfusion (x.symm.trans y))).trans (h.lab x),
    fun x => (h10.resolve_left (fun y => Bool.noConfusion (x.symm.trans y))).trans (h.upd x),
    fun x => (h11.resolve_left (fun y => Bool.noConfusion (x.symm.trans y))).trans (h.votes x),
    fun x => (h12.resolve_left (fun y => Bool.noConfusion (x.symm.trans y))).trans (h.localMsgs x),
    fun x => (h13.resolve_left (fun y => Bool.noConfusion (x.symm.trans y))).trans (h.seam x),
    fun x => (h14.resolve_left (fun y => Bool.noConfusion (x.symm.trans y))).trans (h.seamNotes x),
    fun x => (h15.resolve_left (fun y => Bool.noConfusion (x.symm.trans y))).trans (h.seamGroups x),
    fun x => (h16.resolve_left (fun y => Bool.noConfusion (x.symm.trans y))).trans (h.sessions x),
    fun x => (h17.resolve_left (fun y => Bool.noConfusion (x.symm.trans y))).trans (h.txns x),
    fun x => (h18.resolve_left (fun y => Bool.noConfusion (x.symm.trans y))).trans (h.ingress x),
    fun x => (h19.resolve_left (fun y => Bool.noConfusion (x.symm.trans y))).trans (h.fab x),
    fun x => (h20.resolve_left (fun y => Bool.noConfusion (x.symm.trans y))).trans (h.media x),
    fun x => (h21.resolve_left (fun y => Bool.noConfusion (x.symm.trans y))).trans (h.host x),
    fun x => (h22.resolve_left (fun y => Bool.noConfusion (x.symm.trans y))).trans (h.pwr x),
    fun x => (h23.resolve_left (fun y => Bool.noConfusion (x.symm.trans y))).trans (h.ras x),
    fun x => (h24.resolve_left (fun y => Bool.noConfusion (x.symm.trans y))).trans (h.free x),
    hp.trans h.pending, fun x => ⟨hm (h.memory x).1, hn (h.memory x).2⟩⟩

theorem KeepsOpt.map {α β : Type} {w : Nat} {s : State} {π : β → State} {g : α → β} {o : Option α}
    (h : KeepsOpt w s (fun a => π (g a)) o) : KeepsOpt w s π (o.map g) := by
  cases o with
  | none => exact KeepsOpt.none
  | some a => exact KeepsOpt.some (h.out a rfl)

theorem KeepsOpt.findSome {α β : Type} {w : Nat} {s : State} {π : β → State} {f : α → Option β} {l : List α}
    (h : ∀ a, KeepsOpt w s π (f a)) : KeepsOpt w s π (l.findSome? f) := by
  induction l with
  | nil => exact KeepsOpt.none
  | cons a l ih =>
    rw [List.findSome?_cons]
    split
    · rename_i b e
      exact KeepsOpt.some ((h a).out b e)
    · exact ih

end Sys2Proof.Machine
end

