-- ==== Sys2Proof/Laws/Tbl.lean ====
section
/-! SUPPORT. Sparse tables: reading after writing, and what keeps their canonical form. -/
namespace Sys2Proof
namespace Tbl

theorem get_insert {α : Type} (t : Tbl α) (d : α) (k j : Nat) (v : α) :
    (t.insert k v).get d j = if j = k then v else t.get d j := by
  induction t with
  | nil => simp only [Tbl.insert, Tbl.get, eq_comm]
  | cons e t ih =>
    obtain ⟨k', v'⟩ := e
    simp only [Tbl.insert]
    split
    · rename_i h
      subst h
      simp only [Tbl.get, eq_comm]
      split <;> simp_all
    · split
      · simp only [Tbl.get, eq_comm]
      · simp only [Tbl.get, ih]
        split <;> split <;> simp_all

theorem get_erase {α : Type} (t : Tbl α) (d : α) (k j : Nat) :
    (t.erase k).get d j = if j = k then d else t.get d j := by
  induction t with
  | nil => simp [Tbl.erase, Tbl.get]
  | cons e t ih =>
    obtain ⟨k', v'⟩ := e
    simp only [Tbl.erase, List.filter_cons] at ih ⊢
    by_cases h : k' = k
    · subst h
      simp only [ne_eq, not_true_eq_false, decide_false, Bool.false_eq_true, if_false, ih, Tbl.get]
      split
      · rfl
      · rw [if_neg (fun e => ‹¬j = k'› e.symm)]
    · simp only [ne_eq, h, not_false_eq_true, decide_true, if_true, Tbl.get, ih]
      split
      · rename_i e
        subst e
        rw [if_neg h]
      · rfl

/-- Reading after a write: the written key has the value, every other key what it had. -/
@[simp] theorem get_set {α : Type} [DecidableEq α] (t : Tbl α) (d : α) (k j : Nat) (v : α) :
    (t.set d k v).get d j = if j = k then v else t.get d j := by
  unfold Tbl.set
  split
  · rename_i h
    subst h
    exact get_erase t v k j
  · exact get_insert t d k j v

theorem get_set_same {α : Type} [DecidableEq α] (t : Tbl α) (d : α) (k : Nat) (v : α) : (t.set d k v).get d k = v := by
  simp

/-- The default with which another key is written is of no account. -/
theorem get_set_ne {α : Type} [DecidableEq α] (t : Tbl α) (d d' : α) (k j : Nat) (v : α) (h : j ≠ k) :
    (t.set d' k v).get d j = t.get d j := by
  unfold Tbl.set
  split
  · rw [get_erase, if_neg h]
  · rw [get_insert, if_neg h]

/-- The canonical form, said of all pairs at once. -/
theorem wf_iff {α : Type} [DecidableEq α] (d : Nat → α) (t : Tbl α) :
    Tbl.wf d t = true ↔ t.Pairwise (fun a b => a.1 < b.1) ∧ ∀ e ∈ t, e.2 ≠ d e.1 := by
  induction t with
  | nil => simp [Tbl.wf]
  | cons e t ih =>
    obtain ⟨k, v⟩ := e
    cases t with
    | nil => simp [Tbl.wf]
    | cons f t =>
      obtain ⟨k', v'⟩ := f
      simp only [Tbl.wf, Bool.and_eq_true, decide_eq_true_eq, ih]
      constructor
      · rintro ⟨⟨hlt, hne⟩, hp, ha⟩
        refine ⟨List.pairwise_cons.2 ⟨?_, hp⟩, ?_⟩
        · intro a h
          rcases List.mem_cons.1 h with rfl | h
          · exact hlt
          · exact Nat.lt_trans hlt ((List.pairwise_cons.1 hp).1 a h)
        · intro a h
          rcases List.mem_cons.1 h with rfl | h
          · exact hne
          · exact ha a h
      · rintro ⟨hp, ha⟩
        have hp' := List.pairwise_cons.1 hp
        exact ⟨⟨hp'.1 _ (List.mem_cons_self ..), ha _ (List.mem_cons_self ..)⟩, hp'.2,
          fun a h => ha a (List.mem_cons_of_mem _ h)⟩

theorem wf_filter {α : Type} [DecidableEq α] (d : Nat → α) (t : Tbl α) (p : Nat × α → Bool) (h : Tbl.wf d t = true) :
    Tbl.wf d (t.filter p) = true := by
  rw [wf_iff] at h ⊢
  exact ⟨h.1.filter p, fun e he => h.2 e ((List.mem_filter.1 he).1)⟩

theorem mem_insert {α : Type} (t : Tbl α) (k : Nat) (v : α) (e : Nat × α) (h : e ∈ t.insert k v) :
    e = (k, v) ∨ e ∈ t := by
  induction t with
  | nil =>
    simp only [Tbl.insert, List.mem_cons, List.not_mem_nil, or_false] at h
    exact .inl h
  | cons f t ih =>
    simp only [Tbl.insert] at h
    split at h
    · rcases List.mem_cons.1 h with h | h
      · exact .inl h
      · exact .inr (List.mem_cons_of_mem _ h)
    · split at h
      · rcases List.mem_cons.1 h with h | h
        · exact .inl h
        · exact .inr h
      · rcases List.mem_cons.1 h with h | h
        · exact .inr (h ▸ List.mem_cons_self ..)
        · rcases ih h with h | h
          · exact .inl h
          · exact .inr (List.mem_cons_of_mem _ h)

theorem pairwise_insert {α : Type} (t : Tbl α) (k : Nat) (v : α) (h : t.Pairwise (fun a b => a.1 < b.1)) :
    (t.insert k v).Pairwise (fun a b => a.1 < b.1) := by
  induction t with
  | nil => simp [Tbl.insert]
  | cons f t ih =>
    have hp := List.pairwise_cons.1 h
    simp only [Tbl.insert]
    split
    · rename_i e
      exact List.pairwise_cons.2 ⟨fun a ha => by simpa [← e] using hp.1 a ha, hp.2⟩
    · split
      · rename_i hlt
        refine List.pairwise_cons.2 ⟨fun a ha => ?_, h⟩
        rcases List.mem_cons.1 ha with rfl | ha
        · exact hlt
        · exact Nat.lt_trans hlt (hp.1 a ha)
      · rename_i hne hlt
        refine List.pairwise_cons.2 ⟨fun a ha => ?_, ih hp.2⟩
        rcases mem_insert _ _ _ _ ha with rfl | ha
        · exact Nat.lt_of_le_of_ne (Nat.le_of_not_lt hlt) hne
        · exact hp.1 a ha

/-- A write keeps the canonical form. -/
theorem wf_set {α : Type} [DecidableEq α] (f : Nat → α) (t : Tbl α) (d : α) (k : Nat) (v : α) (hd : d = f k)
    (h : Tbl.wf f t = true) : Tbl.wf f (t.set d k v) = true := by
  unfold Tbl.set
  split
  · exact wf_filter f t _ h
  · rename_i hv
    rw [wf_iff] at h ⊢
    refine ⟨pairwise_insert t k v h.1, fun e he => ?_⟩
    rcases mem_insert t k v e he with rfl | he
    · exact hd ▸ hv
    · exact h.2 e he

/-- So does writing a string of values at rising keys. -/
theorem wf_fold {α : Type} [DecidableEq α] (d : α) (vs : List α) (q : Tbl α × Nat) (h : Tbl.wf (fun _ => d) q.1 = true) :
    Tbl.wf (fun _ => d) (vs.foldl (fun (st : Tbl α × Nat) b => (Tbl.set st.1 d st.2 b, st.2 + 1)) q).1 = true := by
  induction vs generalizing q with
  | nil => exact h
  | cons v vs ih => exact ih _ (wf_set _ _ _ _ _ rfl h)

/-- So does writing listed pairs at an offset. -/
theorem wf_line {α : Type} [DecidableEq α] (d : α) (k : Nat) (vs : List (Nat × α)) {t : Tbl α}
    (h : Tbl.wf (fun _ => d) t = true) :
    Tbl.wf (fun _ => d) (vs.foldl (fun (m : Tbl α) e => Tbl.set m d (k + e.1) e.2) t) = true := by
  induction vs generalizing t with
  | nil => exact h
  | cons v vs ih => exact ih (wf_set _ _ _ _ _ rfl h)

end Tbl
end Sys2Proof
end

