-- ==== Sys2Proof/Laws/KeepsOps.lean ====
section
/-! SUPPORT. What each operation and each command of Machine/Ops.lean touches, one lemma each: the bits of its mask are the
parts of the state that it may change; the queue and the canonical form of the memories it keeps. -/
namespace Sys2Proof.Machine

theorem State.setReg_keeps : ∀ s off v, Keeps 1 s (State.setReg s off v) := by
  intro s off v
  unfold State.setReg
  refine Keeps.set_regs rfl ?_
  exact Keeps.refl _

theorem State.setFld_keeps : ∀ s off f v, Keeps 1 s (State.setFld s off f v) := by
  intro s off f v
  unfold State.setFld
  refine Keeps.step (State.setReg_keeps ..) rfl ?_
  exact Keeps.refl _

theorem State.addSat_keeps : ∀ s off n, Keeps 1 s (State.addSat s off n) := by
  intro s off n
  unfold State.addSat
  refine Keeps.step (State.setReg_keeps ..) rfl ?_
  exact Keeps.refl _

theorem State.inc_keeps : ∀ s off, Keeps 1 s (State.inc s off) := by
  intro s off
  unfold State.inc
  refine Keeps.step (State.addSat_keeps ..) rfl ?_
  exact Keeps.refl _

theorem State.add64_keeps : ∀ s off n, Keeps 1 s (State.add64 s off n) := by
  intro s off n
  unfold State.add64
  refine Keeps.step (State.setReg_keeps ..) rfl ?_
  exact Keeps.refl _

theorem State.sub_keeps : ∀ s off n, Keeps 1 s (State.sub s off n) := by
  intro s off n
  unfold State.sub
  refine Keeps.step (State.setReg_keeps ..) rfl ?_
  exact Keeps.refl _

theorem State.setRegBit_keeps : ∀ s off i b, Keeps 1 s (State.setRegBit s off i b) := by
  intro s off i b
  unfold State.setRegBit
  refine Keeps.step (State.setReg_keeps ..) rfl ?_
  exact Keeps.refl _

theorem State.fresh_keeps : ∀ s, Keeps 16777216 s (State.fresh s).2 := by
  intro s
  unfold State.fresh
  dsimp -zeta only
  refine Keeps.set_free rfl ?_
  exact Keeps.refl _

theorem State.setCore_keeps : ∀ s c k, Keeps 32 s (State.setCore s c k) := by
  intro s c k
  unfold State.setCore
  refine Keeps.set_cores rfl ?_
  exact Keeps.refl _

theorem State.setLine_keeps : ∀ s l v, Keeps 128 s (State.setLine s l v) := by
  intro s l v
  unfold State.setLine
  refine Keeps.set_msys rfl ?_
  exact Keeps.refl _

theorem State.putByte_keeps : ∀ s a b, Keeps 137 s (State.putByte s a b) := by
  intro s a b
  unfold State.putByte
  split
  ·
    rename_i y0 y1 y2
    lift_lets -underBinder
    extract_lets -descend x3 x4
    have hx3 : Keeps 137 s x3 := by
      unfold x3
      refine Keeps.ite ?_ ?_
      ·
        exact Keeps.refl _
      ·
        refine Keeps.step (State.addSat_keeps ..) rfl ?_
        exact Keeps.refl _
    clear_value x3
    clear_value x4
    refine Keeps.step (State.setLine_keeps ..) rfl ?_
    exact hx3
  ·
    rename_i y5 y6
    lift_lets -underBinder
    extract_lets -descend x7 x8 x9
    clear_value x7
    clear_value x8
    clear_value x9
    refine Keeps.ite ?_ ?_
    ·
      refine Keeps.set_msys rfl ?_
      exact Keeps.refl _
    ·
      refine Keeps.ite ?_ ?_
      ·
        exact Keeps.refl _
      ·
        refine Keeps.set_mem rfl ?_ ?_
        ·
          exact fun h => Tbl.wf_set _ _ _ _ _ rfl h
        ·
          exact Keeps.refl _

theorem State.clearPoison_keeps : ∀ s a n, Keeps 129 s (State.clearPoison s a n) := by
  intro s a n
  unfold State.clearPoison
  lift_lets -underBinder
  extract_lets -descend x0 x1 x2 x3 x4
  clear_value x0
  clear_value x2
  clear_value x3
  have hx4 : Keeps 129 s x4 := by
    unfold x4
    refine Keeps.set_msys rfl ?_
    exact Keeps.refl _
  clear_value x4
  refine Keeps.fold ?_ ?_
  ·
    exact hx4
  ·
    intro z5 q6 h7
    refine Keeps.step (State.sub_keeps ..) rfl ?_
    exact h7

theorem State.putBytes_keeps : ∀ s a bs, Keeps 137 s (State.putBytes s a bs) := by
  intro s a bs
  unfold State.putBytes
  lift_lets -underBinder
  extract_lets -descend x0
  have hx0 : Keeps 137 s x0 := by
    unfold x0
    refine Keeps.ite ?_ ?_
    ·
      exact Keeps.refl _
    ·
      refine Keeps.step (State.clearPoison_keeps ..) rfl ?_
      exact Keeps.refl _
  clear_value x0
  refine Keeps.foldl (fun z : State × _ => z.1) ?_ ?_
  ·
    exact hx0
  ·
    rintro ⟨z4, z5⟩ q2 h3
    dsimp -zeta only at h3 ⊢
    refine Keeps.step (State.putByte_keeps ..) rfl ?_
    exact h3

theorem State.putNat_keeps : ∀ s a n v, Keeps 137 s (State.putNat s a n v) := by
  intro s a n v
  unfold State.putNat
  refine Keeps.step (State.putBytes_keeps ..) rfl ?_
  exact Keeps.refl _

theorem State.putHostBytes_keeps : ∀ s a bs, Keeps 16 s (State.putHostBytes s a bs) := by
  intro s a bs
  unfold State.putHostBytes
  refine Keeps.set_hostMem rfl ?_ ?_
  ·
    exact fun h => Tbl.wf_fold _ _ _ h
  ·
    exact Keeps.refl _

theorem State.putRing_keeps : ∀ s hbm a bs, Keeps 153 s (State.putRing s hbm a bs) := by
  intro s hbm a bs
  unfold State.putRing
  refine Keeps.ite ?_ ?_
  ·
    refine Keeps.step (State.putBytes_keeps ..) rfl ?_
    exact Keeps.refl _
  ·
    refine Keeps.step (State.putHostBytes_keeps ..) rfl ?_
    exact Keeps.refl _

theorem State.irq_keeps : ∀ s fn vec, Keeps 2097152 s (State.irq s fn vec) := by
  intro s fn vec
  unfold State.irq
  refine Keeps.set_host rfl ?_
  exact Keeps.refl _

theorem State.setModState_keeps : ∀ s v, Keeps 1 s (State.setModState s v) := by
  intro s v
  unfold State.setModState
  refine Keeps.step (State.setFld_keeps ..) rfl ?_
  exact Keeps.refl _

theorem State.alarmEvent_keeps : ∀ s src n, Keeps 8388608 s (State.alarmEvent s src n) := by
  intro s src n
  unfold State.alarmEvent
  refine Keeps.fold ?_ ?_
  ·
    exact Keeps.refl _
  ·
    intro z0 q1 h2
    refine Keeps.ite ?_ ?_
    ·
      refine Keeps.set_ras rfl ?_
      exact h2
    ·
      exact h2

theorem State.floodEntry_keeps : ∀ s e, Keeps 8388609 s (State.floodEntry s e) := by
  intro s e
  unfold State.floodEntry
  lift_lets -underBinder
  extract_lets -descend x0 x1 x2 x3 x4 x5
  clear_value x0
  clear_value x1
  clear_value x2
  clear_value x3
  have hx4 : Keeps 8388609 s x4 := by
    unfold x4
    refine Keeps.set_ras rfl ?_
    exact Keeps.refl _
  clear_value x4
  have hx5 : Keeps 8388609 s x5 := by
    unfold x5
    refine Keeps.step (State.setRegBit_keeps ..) rfl ?_
    exact hx4
  clear_value x5
  refine Keeps.ite ?_ ?_
  ·
    refine Keeps.step (State.alarmEvent_keeps ..) rfl ?_
    refine Keeps.step (State.inc_keeps ..) rfl ?_
    exact hx5
  ·
    exact hx5

theorem State.logEntry_keeps : ∀ s e, Keeps 8388609 s (State.logEntry s e) := by
  intro s e
  unfold State.logEntry
  refine Keeps.ite ?_ ?_
  ·
    exact Keeps.refl _
  ·
    refine Keeps.ite ?_ ?_
    ·
      exact Keeps.refl _
    ·
      split
      ·
        rename_i y0 y1 y2
        refine Keeps.set_ras rfl ?_
        exact Keeps.refl _
      ·
        rename_i y3 y4
        refine Keeps.ite ?_ ?_
        ·
          refine Keeps.set_ras rfl ?_
          exact Keeps.refl _
        ·
          refine Keeps.step (State.floodEntry_keeps ..) rfl ?_
          exact Keeps.refl _

theorem State.log_keeps : ∀ s cls code u inst addr pc peer value, Keeps 8388609 s (State.log s cls code u inst addr pc peer value) := by
  intro s cls code u inst addr pc peer value
  unfold State.log
  refine Keeps.step (State.logEntry_keeps ..) rfl ?_
  exact Keeps.refl _

theorem State.fatal_keeps : ∀ s code u inst, Keeps 8388609 s (State.fatal s code u inst) := by
  intro s code u inst
  unfold State.fatal
  refine Keeps.step (State.log_keeps ..) rfl ?_
  exact Keeps.refl _

theorem State.firewallDenied_keeps : ∀ s u inst a pc, Keeps 8388609 s (State.firewallDenied s u inst a pc) := by
  intro s u inst a pc
  unfold State.firewallDenied
  refine Keeps.step (State.log_keeps ..) rfl ?_
  refine Keeps.step (State.inc_keeps ..) rfl ?_
  exact Keeps.refl _

theorem State.staleWrite_keeps : ∀ s, Keeps 1 s (State.staleWrite s) := by
  intro s
  unfold State.staleWrite
  refine Keeps.step (State.inc_keeps ..) rfl ?_
  exact Keeps.refl _

theorem State.ltfMark_keeps : ∀ s inst voteExcl, Keeps 1 s (State.ltfMark s inst voteExcl) := by
  intro s inst voteExcl
  unfold State.ltfMark
  split
  ·
    rename_i y0 y1
    refine Keeps.ite ?_ ?_
    ·
      exact Keeps.refl _
    ·
      refine Keeps.step (State.setRegBit_keeps ..) rfl ?_
      exact Keeps.refl _
  ·
    rename_i y2
    exact Keeps.refl _

theorem State.ltfEnd_keeps : ∀ s inst voteExcl, Keeps 1 s (State.ltfEnd s inst voteExcl) := by
  intro s inst voteExcl
  unfold State.ltfEnd
  refine Keeps.step (State.ltfMark_keeps ..) rfl ?_
  refine Keeps.step (State.inc_keeps ..) rfl ?_
  exact Keeps.refl _

theorem State.sramUe_keeps : ∀ s u inst voteExcl a, Keeps 8388609 s (State.sramUe s u inst voteExcl a) := by
  intro s u inst voteExcl a
  unfold State.sramUe
  refine Keeps.step (State.ltfMark_keeps ..) rfl ?_
  refine Keeps.step (State.log_keeps ..) rfl ?_
  refine Keeps.step (State.alarmEvent_keeps ..) rfl ?_
  refine Keeps.step (State.inc_keeps ..) rfl ?_
  exact Keeps.refl _

theorem State.readFailed_keeps : ∀ s st u inst voteExcl a, Keeps 8388609 s (State.readFailed s st u inst voteExcl a) := by
  intro s st u inst voteExcl a
  unfold State.readFailed
  refine Keeps.ite ?_ ?_
  ·
    refine Keeps.step (State.sramUe_keeps ..) rfl ?_
    exact Keeps.refl _
  ·
    refine Keeps.ite ?_ ?_
    ·
      refine Keeps.step (State.ltfEnd_keeps ..) rfl ?_
      exact Keeps.refl _
    ·
      refine Keeps.ite ?_ ?_
      ·
        refine Keeps.step (State.firewallDenied_keeps ..) rfl ?_
        exact Keeps.refl _
      ·
        exact Keeps.refl _

theorem State.regRefused_keeps : ∀ s req off, Keeps 8388609 s (State.regRefused s req off) := by
  intro s req off
  unfold State.regRefused
  split
  ·
    rename_i y0 y1
    refine Keeps.step (State.firewallDenied_keeps ..) rfl ?_
    exact Keeps.refl _
  ·
    rename_i y2 y3
    refine Keeps.step (State.firewallDenied_keeps ..) rfl ?_
    exact Keeps.refl _
  ·
    rename_i y4 y5 y6
    exact Keeps.refl _

theorem State.refusedRead_keeps : ∀ s req off, Keeps 10485761 s (State.refusedRead s req off) := by
  intro s req off
  unfold State.refusedRead
  lift_lets -underBinder
  extract_lets -descend x0 x1
  have hx0 : Keeps 10485761 s x0 := by
    unfold x0
    refine Keeps.step (State.regRefused_keeps ..) rfl ?_
    exact Keeps.refl _
  clear_value x0
  clear_value x1
  refine Keeps.set_host rfl ?_
  exact hx0

theorem State.directCritical_keeps : ∀ s off, Keeps 8388609 s (State.directCritical s off) := by
  intro s off
  unfold State.directCritical
  refine Keeps.step (State.log_keeps ..) rfl ?_
  refine Keeps.step (State.inc_keeps ..) rfl ?_
  exact Keeps.refl _

theorem State.doneSem_keeps : ∀ s n who inst gen, Keeps 64 s (State.doneSem s n who inst gen) := by
  intro s n who inst gen
  unfold State.doneSem
  refine Keeps.ite ?_ ?_
  ·
    exact Keeps.refl _
  ·
    refine Keeps.set_sch rfl ?_
    exact Keeps.refl _

theorem State.setQfld_keeps : ∀ s q r f v, Keeps 1 s (State.setQfld s q r f v) := by
  intro s q r f v
  unfold State.setQfld
  refine Keeps.step (State.setFld_keeps ..) rfl ?_
  exact Keeps.refl _

theorem State.writeCpl_keeps : ∀ s q idx status result irq, Keeps 2097305 s (State.writeCpl s q idx status result irq) := by
  intro s q idx status result irq
  unfold State.writeCpl
  lift_lets -underBinder
  extract_lets -descend x0 x1 x2 x3 x4 x5
  clear_value x0
  clear_value x1
  clear_value x2
  have hx3 : Keeps 2097305 s x3 := by
    unfold x3
    refine Keeps.step (State.putRing_keeps ..) rfl ?_
    exact Keeps.refl _
  clear_value x3
  have hx4 : Keeps 2097305 s x4 := by
    unfold x4
    refine Keeps.step (State.setQfld_keeps ..) rfl ?_
    exact hx3
  clear_value x4
  clear_value x5
  refine Keeps.ite ?_ ?_
  ·
    refine Keeps.step (State.irq_keeps ..) rfl ?_
    exact hx4
  ·
    exact hx4

theorem State.showRunning_keeps : ∀ s q, Keeps 1 s (State.showRunning s q) := by
  intro s q
  unfold State.showRunning
  refine Keeps.step (State.setQfld_keeps ..) rfl ?_
  exact Keeps.refl _

theorem State.completeWork_keeps : ∀ s id status result, Keeps 2097305 s (State.completeWork s id status result) := by
  intro s id status result
  unfold State.completeWork
  split
  ·
    rename_i y0 y1
    exact Keeps.refl _
  ·
    rename_i y2 y3 y4
    lift_lets -underBinder
    extract_lets -descend x5 x6
    clear_value x5
    have hx6 : Keeps 2097305 s x6 := by
      unfold x6
      refine Keeps.set_host rfl ?_
      exact Keeps.refl _
    clear_value x6
    refine Keeps.step (State.writeCpl_keeps ..) rfl ?_
    refine Keeps.step (State.showRunning_keeps ..) rfl ?_
    exact hx6

theorem State.dropWork_keeps : ∀ s id, Keeps 2097153 s (State.dropWork s id) := by
  intro s id
  unfold State.dropWork
  split
  ·
    rename_i y0 y1
    exact Keeps.refl _
  ·
    rename_i y2 y3 y4
    refine Keeps.step (State.showRunning_keeps ..) rfl ?_
    refine Keeps.set_host rfl ?_
    exact Keeps.refl _

theorem State.mapDma_keeps : ∀ s u id f, Keeps 160 s (State.mapDma s u id f) := by
  intro s u id f
  unfold State.mapDma
  lift_lets -underBinder
  extract_lets -descend x0
  split
  ·
    rename_i y1 y2
    refine Keeps.step (State.setCore_keeps ..) rfl ?_
    exact Keeps.refl _
  ·
    rename_i y3 y4
    refine Keeps.set_msys rfl ?_
    exact Keeps.refl _

theorem State.finishItem_keeps : ∀ s o status result done who ow, Keeps 224 s (State.finishItem s o status result done who ow) := by
  intro s o status result done who ow
  unfold State.finishItem
  lift_lets -underBinder
  extract_lets -descend x0
  have hx0 : Keeps 224 s x0 := by
    unfold x0
    refine Keeps.step (State.mapDma_keeps ..) rfl ?_
    exact Keeps.refl _
  clear_value x0
  split
  ·
    rename_i y1 y2 y3
    refine Keeps.ite ?_ ?_
    ·
      exact hx0
    ·
      refine Keeps.step (State.doneSem_keeps ..) rfl ?_
      exact hx0
  ·
    rename_i y4 y5
    exact hx0

end Sys2Proof.Machine
end

