-- ==== Sys2Proof/Laws/KeepsFlags.lean ====
section
/-! SUPPORT. What each operation and each command of Machine/Flags.lean touches, one lemma each: the bits of its mask are the
parts of the state that it may change; the queue and the canonical form of the memories it keeps. -/
namespace Sys2Proof.Machine

theorem State.fpEvent_keeps : ∀ s c unit ev, Keeps 1 s (State.fpEvent s c unit ev) := by
  intro s c unit ev
  unfold State.fpEvent
  lift_lets -underBinder
  extract_lets -descend x0 x1 x2 x3 x4
  have hx0 : Keeps 1 s x0 := by
    unfold x0
    refine Keeps.ite ?_ ?_
    ·
      refine Keeps.step (State.setFld_keeps ..) rfl ?_
      exact Keeps.refl _
    ·
      exact Keeps.refl _
  clear_value x0
  have hx1 : Keeps 1 s x1 := by
    unfold x1
    refine Keeps.step (State.setFld_keeps ..) rfl ?_
    exact hx0
  clear_value x1
  have hx2 : Keeps 1 s x2 := by
    unfold x2
    refine Keeps.ite ?_ ?_
    ·
      refine Keeps.ite ?_ ?_
      ·
        exact hx1
      ·
        refine Keeps.step (State.setFld_keeps ..) rfl ?_
        exact hx1
    ·
      exact Keeps.refl _
  clear_value x2
  have hx3 : Keeps 1 s x3 := by
    unfold x3
    refine Keeps.ite ?_ ?_
    ·
      refine Keeps.step (State.setFld_keeps ..) rfl ?_
      exact hx2
    ·
      exact hx2
  clear_value x3
  have hx4 : Keeps 1 s x4 := by
    unfold x4
    refine Keeps.ite ?_ ?_
    ·
      refine Keeps.step (State.setFld_keeps ..) rfl ?_
      exact hx3
    ·
      exact hx3
  clear_value x4
  refine Keeps.ite ?_ ?_
  ·
    exact hx4
  ·
    refine Keeps.step (State.addSat_keeps ..) rfl ?_
    exact hx4

theorem State.reduceAt_keeps : ∀ s dstCode srcCode op a vals, Keeps 137 s (State.reduceAt s dstCode srcCode op a vals).2 := by
  intro s dstCode srcCode op a vals
  unfold State.reduceAt
  lift_lets -underBinder
  extract_lets -descend x0 x1
  clear_value x0
  have hx1 : Keeps 137 s x1.1 := by
    unfold x1
    refine Keeps.foldl (fun z : State × _ => z.1) ?_ ?_
    ·
      dsimp -zeta only
      exact Keeps.refl _
    ·
      rintro ⟨z5, z6⟩ q3 h4
      dsimp -zeta only at h4 ⊢
      lift_lets -underBinder
      extract_lets -descend x7
      have hx7 : Keeps 137 s x7 := by
        unfold x7
        refine Keeps.ite ?_ ?_
        ·
          refine Keeps.step (State.add64_keeps ..) rfl ?_
          exact h4
        ·
          exact h4
      clear_value x7
      dsimp -zeta only
      refine Keeps.step (State.putNat_keeps ..) rfl ?_
      exact hx7
  clear_value x1
  exact hx1

end Sys2Proof.Machine
end

