-- ==== Sys2Proof/Laws/KeepsAccess.lean ====
section
/-! SUPPORT. What each operation and each command of Machine/Access.lean touches, one lemma each: the bits of its mask are the
parts of the state that it may change; the queue and the canonical form of the memories it keeps. -/
namespace Sys2Proof.Machine

theorem State.engFail_keeps : ∀ s e st a, Keeps 8388609 s (State.engFail s e st a) := by
  intro s e st a
  unfold State.engFail
  refine Keeps.step (State.readFailed_keeps ..) rfl ?_
  exact Keeps.refl _

end Sys2Proof.Machine
end

