-- ==== Sys2Proof/Laws/KeepsPod.lean ====
section
/-! SUPPORT. What each operation and each command of Machine/Pod.lean touches, one lemma each: the bits of its mask are the
parts of the state that it may change; the queue and the canonical form of the memories it keeps. -/
namespace Sys2Proof.Machine

theorem State.addEvent_keeps : ∀ s type fn dev, Keeps 2097153 s (State.addEvent s type fn dev) := by
  intro s type fn dev
  unfold State.addEvent
  refine Keeps.ite ?_ ?_
  ·
    refine Keeps.step (State.inc_keeps ..) rfl ?_
    exact Keeps.refl _
  ·
    lift_lets -underBinder
    extract_lets -descend x0 x1 x2
    clear_value x0
    clear_value x1
    have hx2 : Keeps 2097153 s x2 := by
      unfold x2
      refine Keeps.set_host rfl ?_
      exact Keeps.refl _
    clear_value x2
    refine Keeps.step (State.irq_keeps ..) rfl ?_
    refine Keeps.step (State.setFld_keeps ..) rfl ?_
    exact hx2

theorem State.popEvent_keeps : ∀ s, Keeps 2097153 s (State.popEvent s).2 := by
  intro s
  unfold State.popEvent
  split
  ·
    rename_i y0 y1
    dsimp -zeta only
    exact Keeps.refl _
  ·
    rename_i y2 y3 y4 y5
    lift_lets -underBinder
    extract_lets -descend x6 x7
    clear_value x6
    have hx7 : Keeps 2097153 s x7 := by
      unfold x7
      refine Keeps.set_host rfl ?_
      exact Keeps.refl _
    clear_value x7
    dsimp -zeta only
    refine Keeps.step (State.setFld_keeps ..) rfl ?_
    exact hx7

theorem State.showPod_keeps : ∀ s, Keeps 1 s (State.showPod s) := by
  intro s
  unfold State.showPod
  refine Keeps.ite ?_ ?_
  ·
    exact Keeps.refl _
  ·
    lift_lets -underBinder
    extract_lets -descend x0 x1 x2 x3 x4
    clear_value x0
    clear_value x1
    have hx2 : Keeps 1 s x2 := by
      unfold x2
      refine Keeps.step (State.setReg_keeps ..) rfl ?_
      exact Keeps.refl _
    clear_value x2
    have hx3 : Keeps 1 s x3 := by
      unfold x3
      refine Keeps.ite ?_ ?_
      ·
        refine Keeps.step (State.setReg_keeps ..) rfl ?_
        exact hx2
      ·
        exact hx2
    clear_value x3
    have hx4 : Keeps 1 s x4 := by
      unfold x4
      refine Keeps.step (State.setFld_keeps ..) rfl ?_
      exact hx3
    clear_value x4
    refine Keeps.ite ?_ ?_
    ·
      exact hx4
    ·
      refine Keeps.step (State.setFld_keeps ..) rfl ?_
      exact hx4

theorem State.setMember_keeps : ∀ s dev on, Keeps 2097153 s (State.setMember s dev on) := by
  intro s dev on
  unfold State.setMember
  refine Keeps.ite ?_ ?_
  ·
    exact Keeps.refl _
  ·
    refine Keeps.step (State.showPod_keeps ..) rfl ?_
    refine Keeps.step (State.addEvent_keeps ..) rfl ?_
    refine Keeps.step (State.setRegBit_keeps ..) rfl ?_
    exact Keeps.refl _

theorem State.podSnap_keeps : ∀ s, Keeps 1 s (State.podSnap s) := by
  intro s
  unfold State.podSnap
  lift_lets -underBinder
  extract_lets -descend x0 x1 x2 x3
  have hx0 : Keeps 1 s x0 := by
    unfold x0
    refine Keeps.step (State.setReg_keeps ..) rfl ?_
    refine Keeps.step (State.setReg_keeps ..) rfl ?_
    exact Keeps.refl _
  clear_value x0
  have hx1 : Keeps 1 s x1 := by
    unfold x1
    refine Keeps.step (State.setReg_keeps ..) rfl ?_
    exact hx0
  clear_value x1
  have hx2 : Keeps 1 s x2 := by
    unfold x2
    refine Keeps.step (State.setReg_keeps ..) rfl ?_
    exact hx1
  clear_value x2
  have hx3 : Keeps 1 s x3 := by
    unfold x3
    refine Keeps.step (State.setReg_keeps ..) rfl ?_
    exact hx2
  clear_value x3
  refine Keeps.step (State.setReg_keeps ..) rfl ?_
  exact hx3

theorem execHstPodSnap_keeps : ∀ req s, KeepsOut 8388609 s (execHstPodSnap req s) := by
  intro req s
  unfold execHstPodSnap
  split
  ·
    rename_i y0
    refine KeepsOut.next ?_
    refine Keeps.step (State.podSnap_keeps ..) rfl ?_
    exact Keeps.refl _
  ·
    rename_i y1
    refine KeepsOut.next ?_
    refine Keeps.step (State.regRefused_keeps ..) rfl ?_
    exact Keeps.refl _

theorem execThmEvent_keeps : ∀ req s, KeepsOut 10485761 s (execThmEvent req s) := by
  intro req s
  unfold execThmEvent
  split
  ·
    rename_i y0
    split
    ·
      rename_i y1 y2 y3 y4
      have e5 : Keeps 10485761 s (y3) := by
        refine Keeps.snd_eq y4 ?_
        refine Keeps.step (State.popEvent_keeps ..) rfl ?_
        exact Keeps.refl _
      refine KeepsOut.next ?_
      refine Keeps.set_host rfl ?_
      exact e5
  ·
    rename_i y6
    refine KeepsOut.next ?_
    refine Keeps.step (State.refusedRead_keeps ..) rfl ?_
    exact Keeps.refl _

end Sys2Proof.Machine
end

