-- ==== Sys2Proof/Laws/KeepsRas.lean ====
section
/-! SUPPORT. What each operation and each command of Machine/Ras.lean touches, one lemma each: the bits of its mask are the
parts of the state that it may change; the queue and the canonical form of the memories it keeps. -/
namespace Sys2Proof.Machine

theorem State.ringWrite_keeps : ∀ s e, Keeps 8388609 s (State.ringWrite s e).2 := by
  intro s e
  unfold State.ringWrite
  lift_lets -underBinder
  extract_lets -descend x0 x1 x2 x3
  clear_value x0
  clear_value x1
  clear_value x2
  have hx3 : Keeps 8388609 s x3 := by
    unfold x3
    refine Keeps.set_ras rfl ?_
    exact Keeps.refl _
  clear_value x3
  dsimp -zeta only
  refine Keeps.step (State.setFld_keeps ..) rfl ?_
  exact hx3

theorem State.startSnapshot_keeps : ∀ s, Keeps 8388609 s (State.startSnapshot s) := by
  intro s
  unfold State.startSnapshot
  refine Keeps.ite ?_ ?_
  ·
    exact Keeps.refl _
  ·
    split
    ·
      rename_i y0 y1 y2
      refine Keeps.set_ras rfl ?_
      exact Keeps.refl _
    ·
      rename_i y3 y4
      refine Keeps.step (State.setRegBit_keeps ..) rfl ?_
      refine Keeps.set_ras rfl ?_
      exact Keeps.refl _

theorem State.closeOpen_keeps : ∀ s k, Keeps 8388609 s (State.closeOpen s k) := by
  intro s k
  unfold State.closeOpen
  split
  ·
    rename_i y0 y1
    exact Keeps.refl _
  ·
    rename_i y2 y3 y4
    lift_lets -underBinder
    extract_lets -descend x5 x6
    clear_value x5
    have hx6 : Keeps 8388609 s x6 := by
      unfold x6
      refine Keeps.set_ras rfl ?_
      exact Keeps.refl _
    clear_value x6
    refine Keeps.ite ?_ ?_
    ·
      exact hx6
    ·
      refine Keeps.step (State.ringWrite_keeps ..) rfl ?_
      exact hx6

theorem State.takeEntry_keeps : ∀ s e, Keeps 8388609 s (State.takeEntry s e) := by
  intro s e
  unfold State.takeEntry
  split
  ·
    rename_i y0 y1 y2
    split
    ·
      rename_i y3 y4
      exact Keeps.refl _
    ·
      rename_i y5 y6 y7
      lift_lets -underBinder
      extract_lets -descend x8 x9 x10 x11 x12
      clear_value x8
      clear_value x9
      clear_value x10
      have hx11 : Keeps 8388609 s x11 := by
        unfold x11
        refine Keeps.set_ras rfl ?_
        exact Keeps.refl _
      clear_value x11
      have hx12 : Keeps 8388609 s x12 := by
        unfold x12
        split
        ·
          rename_i y13 y14 y15
          refine Keeps.set_ras rfl ?_
          exact hx11
        ·
          rename_i y16 y17
          exact hx11
      clear_value x12
      refine Keeps.step (State.inc_keeps ..) rfl ?_
      exact hx12
  ·
    rename_i y18 y19
    lift_lets -underBinder
    extract_lets -descend x20 x21 x22
    have hx20 : Keeps 8388609 s x20 := by
      unfold x20
      refine Keeps.ite ?_ ?_
      ·
        refine Keeps.step (State.closeOpen_keeps ..) rfl ?_
        exact Keeps.refl _
      ·
        exact Keeps.refl _
    clear_value x20
    clear_value x21
    clear_value x22
    refine Keeps.ite ?_ ?_
    ·
      split
      ·
        rename_i y23 y24 y25 y26
        have e27 : Keeps 8388609 s (y25) := by
          refine Keeps.snd_eq y26 ?_
          refine Keeps.step (State.ringWrite_keeps ..) rfl ?_
          exact hx20
        lift_lets -underBinder
        extract_lets -descend x28 x29
        clear_value x28
        have hx29 : Keeps 8388609 s x29 := by
          unfold x29
          refine Keeps.set_ras rfl ?_
          exact e27
        clear_value x29
        refine Keeps.ite ?_ ?_
        ·
          refine Keeps.step (State.startSnapshot_keeps ..) rfl ?_
          exact hx29
        ·
          exact hx29
    ·
      refine Keeps.set_ras rfl ?_
      exact hx20

theorem State.closeAlarm_keeps : ∀ s n, Keeps 10485761 s (State.closeAlarm s n) := by
  intro s n
  unfold State.closeAlarm
  lift_lets -underBinder
  extract_lets -descend x0 x1 x2 x3 x4 x5 x6 x7 x8
  clear_value x0
  clear_value x1
  clear_value x2
  have hx3 : Keeps 10485761 s x3 := by
    unfold x3
    refine Keeps.set_ras rfl ?_
    exact Keeps.refl _
  clear_value x3
  have hx4 : Keeps 10485761 s x4 := by
    unfold x4
    refine Keeps.step (State.setFld_keeps ..) rfl ?_
    exact hx3
  clear_value x4
  have hx5 : Keeps 10485761 s x5 := by
    unfold x5
    refine Keeps.step (State.setRegBit_keeps ..) rfl ?_
    exact hx4
  clear_value x5
  have hx6 : Keeps 10485761 s x6 := by
    unfold x6
    refine Keeps.step (State.log_keeps ..) rfl ?_
    exact hx5
  clear_value x6
  have hx7 : Keeps 10485761 s x7 := by
    unfold x7
    refine Keeps.step (State.irq_keeps ..) rfl ?_
    exact hx6
  clear_value x7
  clear_value x8
  refine Keeps.ite ?_ ?_
  ·
    refine Keeps.ite ?_ ?_
    ·
      refine Keeps.set_ras rfl ?_
      exact hx7
    ·
      exact hx4
  ·
    exact Keeps.refl _

theorem State.smbAnswer_keeps : ∀ s bs, Keeps 8388608 s (State.smbAnswer s bs) := by
  intro s bs
  unfold State.smbAnswer
  refine Keeps.set_ras rfl ?_
  exact Keeps.refl _

theorem State.setTap_keeps : ∀ s k, Keeps 8388608 s (State.setTap s k) := by
  intro s k
  unfold State.setTap
  refine Keeps.set_ras rfl ?_
  exact Keeps.refl _

theorem execPatrolScrub_keeps : ∀ addr f s, KeepsOut 8388737 s (execPatrolScrub addr f s) := by
  intro addr f s
  unfold execPatrolScrub
  lift_lets -underBinder
  extract_lets -descend x0 x1
  clear_value x0
  clear_value x1
  split
  ·
    rename_i y2
    refine KeepsOut.next ?_
    exact Keeps.refl _
  ·
    rename_i y3
    split
    ·
      rename_i y4
      refine KeepsOut.next ?_
      exact Keeps.refl _
    ·
      rename_i y5
      refine KeepsOut.next ?_
      refine Keeps.step (State.alarmEvent_keeps ..) rfl ?_
      refine Keeps.step (State.inc_keeps ..) rfl ?_
      exact Keeps.refl _
    ·
      rename_i y6
      lift_lets -underBinder
      extract_lets -descend x7 x8 x9
      clear_value x7
      clear_value x8
      have hx9 : Keeps 8388737 s x9 := by
        unfold x9
        refine Keeps.set_msys rfl ?_
        exact Keeps.refl _
      clear_value x9
      refine KeepsOut.next ?_
      refine Keeps.step (State.log_keeps ..) rfl ?_
      refine Keeps.step (State.alarmEvent_keeps ..) rfl ?_
      refine Keeps.step (State.inc_keeps ..) rfl ?_
      exact hx9

theorem execContrailEntry_keeps : ∀ s, KeepsOut 8388609 s (execContrailEntry s) := by
  intro s
  unfold execContrailEntry
  split
  ·
    rename_i y0 y1
    refine KeepsOut.next ?_
    exact Keeps.refl _
  ·
    rename_i y2 y3 y4
    split
    ·
      rename_i y5 y6
      refine KeepsOut.next ?_
      exact Keeps.refl _
    ·
      rename_i y7 y8 y9
      refine KeepsOut.next ?_
      refine Keeps.step (State.takeEntry_keeps ..) rfl ?_
      refine Keeps.set_ras rfl ?_
      exact Keeps.refl _

theorem execSnapshotComplete_keeps : ∀ s, KeepsOut 8388609 s (execSnapshotComplete s) := by
  intro s
  unfold execSnapshotComplete
  split
  ·
    rename_i y0 y1
    refine KeepsOut.next ?_
    exact Keeps.refl _
  ·
    rename_i y2 y3 y4
    lift_lets -underBinder
    extract_lets -descend x5 x6 x7 x8 x9 x10 x11 x12
    clear_value x5
    clear_value x6
    clear_value x7
    have hx8 : Keeps 8388609 s x8 := by
      unfold x8
      refine Keeps.set_ras rfl ?_
      exact Keeps.refl _
    clear_value x8
    have hx9 : Keeps 8388609 s x9 := by
      unfold x9
      refine Keeps.step (State.setFld_keeps ..) rfl ?_
      exact hx8
    clear_value x9
    have hx10 : Keeps 8388609 s x10 := by
      unfold x10
      refine Keeps.step (State.setFld_keeps ..) rfl ?_
      exact hx9
    clear_value x10
    have hx11 : Keeps 8388609 s x11 := by
      unfold x11
      refine Keeps.step (State.setRegBit_keeps ..) rfl ?_
      exact hx10
    clear_value x11
    clear_value x12
    split
    ·
      rename_i y13
      refine KeepsOut.next ?_
      exact hx11
    ·
      rename_i y14
      refine KeepsOut.next ?_
      refine Keeps.step (State.startSnapshot_keeps ..) rfl ?_
      refine Keeps.set_ras rfl ?_
      exact hx11

theorem execCoalesceWindowClose_keeps : ∀ k s, KeepsOut 8388609 s (execCoalesceWindowClose k s) := by
  intro k s
  unfold execCoalesceWindowClose
  split
  ·
    rename_i y0 y1
    refine KeepsOut.next ?_
    exact Keeps.refl _
  ·
    rename_i y2 y3 y4
    split
    ·
      rename_i y5
      refine KeepsOut.next ?_
      refine Keeps.step (State.closeOpen_keeps ..) rfl ?_
      exact Keeps.refl _
    ·
      rename_i y6
      refine KeepsOut.next ?_
      exact Keeps.refl _

theorem execFloodEnd_keeps : ∀ cls s, KeepsOut 8388609 s (execFloodEnd cls s) := by
  intro cls s
  unfold execFloodEnd
  lift_lets -underBinder
  extract_lets -descend x0 x1 x2 x3 x4
  clear_value x0
  clear_value x1
  have hx2 : Keeps 8388609 s x2 := by
    unfold x2
    refine Keeps.set_ras rfl ?_
    exact Keeps.refl _
  clear_value x2
  have hx3 : Keeps 8388609 s x3 := by
    unfold x3
    refine Keeps.step (State.setRegBit_keeps ..) rfl ?_
    exact hx2
  clear_value x3
  have hx4 : Keeps 8388609 s x4 := by
    unfold x4
    refine Keeps.fold ?_ ?_
    ·
      exact hx3
    ·
      intro z5 q6 h7
      refine Keeps.step (State.ringWrite_keeps ..) rfl ?_
      exact h7
  clear_value x4
  split
  ·
    rename_i y8
    refine KeepsOut.next ?_
    refine Keeps.step (State.log_keeps ..) rfl ?_
    exact hx4
  ·
    rename_i y9
    refine KeepsOut.next ?_
    exact Keeps.refl _

theorem execAlarmWindowClose_keeps : ∀ n s, KeepsOut 10485761 s (execAlarmWindowClose n s) := by
  intro n s
  unfold execAlarmWindowClose
  refine KeepsOut.next ?_
  refine Keeps.step (State.closeAlarm_keeps ..) rfl ?_
  exact Keeps.refl _

theorem execSmbusTransaction_keeps : ∀ addr pecGood data s, KeepsOut 8388609 s (execSmbusTransaction addr pecGood data s) := by
  intro addr pecGood data s
  unfold execSmbusTransaction
  split
  ·
    rename_i y0
    refine KeepsOut.next ?_
    exact Keeps.refl _
  ·
    rename_i y1
    split
    ·
      rename_i y2
      refine KeepsOut.next ?_
      refine Keeps.set_ras rfl ?_
      exact Keeps.refl _
    ·
      rename_i y3
      refine KeepsOut.next ?_
      refine Keeps.step (State.inc_keeps ..) rfl ?_
      exact Keeps.refl _

theorem execSmbusArp_keeps : ∀ addr s, KeepsOut 1 s (execSmbusArp addr s) := by
  intro addr s
  unfold execSmbusArp
  refine KeepsOut.next ?_
  refine Keeps.step (State.setFld_keeps ..) rfl ?_
  refine Keeps.step (State.setFld_keeps ..) rfl ?_
  exact Keeps.refl _

theorem execSmbusTimeout_keeps : ∀ s, KeepsOut 8388608 s (execSmbusTimeout s) := by
  intro s
  unfold execSmbusTimeout
  refine KeepsOut.next ?_
  refine Keeps.set_ras rfl ?_
  exact Keeps.refl _

theorem execMctpTransmit_keeps : ∀ lost addressed s, KeepsOut 8388609 s (execMctpTransmit lost addressed s) := by
  intro lost addressed s
  unfold execMctpTransmit
  split
  ·
    rename_i y0
    lift_lets -underBinder
    extract_lets -descend x1 x2 x3 x4 x5
    have hx1 : Keeps 8388609 s x1 := by
      unfold x1
      refine Keeps.step (State.inc_keeps ..) rfl ?_
      exact Keeps.refl _
    clear_value x1
    clear_value x2
    have hx3 : Keeps 8388609 s x3 := by
      unfold x3
      refine Keeps.ite ?_ ?_
      ·
        refine Keeps.set_ras rfl ?_
        exact hx1
      ·
        exact hx1
    clear_value x3
    clear_value x4
    have hx5 : Keeps 8388609 s x5 := by
      unfold x5
      refine Keeps.set_ras rfl ?_
      exact hx3
    clear_value x5
    split
    ·
      rename_i y6
      refine KeepsOut.next ?_
      refine Keeps.step (State.log_keeps ..) rfl ?_
      refine Keeps.step (State.inc_keeps ..) rfl ?_
      exact hx5
    ·
      rename_i y7
      refine KeepsOut.next ?_
      refine Keeps.set_ras rfl ?_
      exact hx3
  ·
    rename_i y8
    refine KeepsOut.next ?_
    refine Keeps.set_ras rfl ?_
    exact Keeps.refl _

theorem execSetEndpointId_keeps : ∀ eid s, KeepsOut 8388608 s (execSetEndpointId eid s) := by
  intro eid s
  unfold execSetEndpointId
  split
  ·
    rename_i y0
    refine KeepsOut.next ?_
    refine Keeps.step (State.smbAnswer_keeps ..) rfl ?_
    exact Keeps.refl _
  ·
    rename_i y1
    refine KeepsOut.next ?_
    refine Keeps.step (State.smbAnswer_keeps ..) rfl ?_
    refine Keeps.set_ras rfl ?_
    exact Keeps.refl _

theorem execGetEndpointId_keeps : ∀ s, KeepsOut 8388608 s (execGetEndpointId s) := by
  intro s
  unfold execGetEndpointId
  refine KeepsOut.next ?_
  refine Keeps.step (State.smbAnswer_keeps ..) rfl ?_
  exact Keeps.refl _

theorem execGetMctpVersionSupport_keeps : ∀ s, KeepsOut 8388608 s (execGetMctpVersionSupport s) := by
  intro s
  unfold execGetMctpVersionSupport
  refine KeepsOut.next ?_
  refine Keeps.step (State.smbAnswer_keeps ..) rfl ?_
  exact Keeps.refl _

theorem execGetMessageTypeSupport_keeps : ∀ s, KeepsOut 8388608 s (execGetMessageTypeSupport s) := by
  intro s
  unfold execGetMessageTypeSupport
  refine KeepsOut.next ?_
  refine Keeps.step (State.smbAnswer_keeps ..) rfl ?_
  exact Keeps.refl _

theorem execPldmRequest_keeps : ∀ sensor s, KeepsOut 8388608 s (execPldmRequest sensor s) := by
  intro sensor s
  unfold execPldmRequest
  split
  ·
    rename_i y0 y1 y2
    refine KeepsOut.next ?_
    refine Keeps.step (State.smbAnswer_keeps ..) rfl ?_
    exact Keeps.refl _
  ·
    rename_i y3 y4
    refine KeepsOut.next ?_
    refine Keeps.step (State.smbAnswer_keeps ..) rfl ?_
    exact Keeps.refl _

theorem execBypass_keeps : ∀ s, KeepsOut 8388608 s (execBypass s) := by
  intro s
  unfold execBypass
  refine KeepsOut.next ?_
  refine Keeps.step (State.setTap_keeps ..) rfl ?_
  exact Keeps.refl _

theorem execIdcode_keeps : ∀ s, KeepsOut 8388608 s (execIdcode s) := by
  intro s
  unfold execIdcode
  lift_lets -underBinder
  extract_lets -descend x0 x1
  clear_value x0
  clear_value x1
  refine KeepsOut.next ?_
  refine Keeps.set_ras rfl ?_
  exact Keeps.refl _

theorem execSamplePreload_keeps : ∀ s, KeepsOut 25165824 s (execSamplePreload s) := by
  intro s
  unfold execSamplePreload
  split
  ·
    rename_i y0 y1 y2 y3
    have e4 : Keeps 25165824 s (y2) := by
      refine Keeps.snd_eq y3 ?_
      refine Keeps.step (State.fresh_keeps ..) rfl ?_
      exact Keeps.refl _
    refine KeepsOut.next ?_
    refine Keeps.set_ras rfl ?_
    exact e4

theorem State.tapInReset_keeps : ∀ s k, Keeps 8388608 s (State.tapInReset s k) := by
  intro s k
  unfold State.tapInReset
  refine Keeps.step (State.setTap_keeps ..) rfl ?_
  exact Keeps.refl _

theorem execExtest_keeps : ∀ s, KeepsOut 8388608 s (execExtest s) := by
  intro s
  unfold execExtest
  refine KeepsOut.next ?_
  refine Keeps.step (State.tapInReset_keeps ..) rfl ?_
  exact Keeps.refl _

theorem execClamp_keeps : ∀ s, KeepsOut 8388608 s (execClamp s) := by
  intro s
  unfold execClamp
  refine KeepsOut.next ?_
  refine Keeps.step (State.tapInReset_keeps ..) rfl ?_
  exact Keeps.refl _

theorem execHighz_keeps : ∀ s, KeepsOut 8388608 s (execHighz s) := by
  intro s
  unfold execHighz
  refine KeepsOut.next ?_
  refine Keeps.step (State.tapInReset_keeps ..) rfl ?_
  exact Keeps.refl _

theorem execTestModeEntry_keeps : ∀ path s, KeepsOut 8388609 s (execTestModeEntry path s) := by
  intro path s
  unfold execTestModeEntry
  lift_lets -underBinder
  extract_lets -descend x0
  have hx0 : Keeps 8388609 s x0 := by
    unfold x0
    refine Keeps.step (State.log_keeps ..) rfl ?_
    refine Keeps.step (State.inc_keeps ..) rfl ?_
    exact Keeps.refl _
  clear_value x0
  split
  ·
    rename_i y1 y2
    refine KeepsOut.next ?_
    refine Keeps.step (State.setTap_keeps ..) rfl ?_
    exact hx0
  ·
    rename_i y3
    refine KeepsOut.next ?_
    refine Keeps.set_ras rfl ?_
    exact hx0
  ·
    rename_i y4
    refine KeepsOut.next ?_
    refine Keeps.set_ras rfl ?_
    exact hx0

end Sys2Proof.Machine
end

