-- ==== Sys2Proof/Laws/KeepsFabric.lean ====
section
/-! SUPPORT. What each operation and each command of Machine/Fabric.lean touches, one lemma each: the bits of its mask are the
parts of the state that it may change; the queue and the canonical form of the memories it keeps. -/
namespace Sys2Proof.Machine

theorem State.setSess_keeps : ∀ s k x, Keeps 65536 s (State.setSess s k x) := by
  intro s k x
  unfold State.setSess
  refine Keeps.set_sessions rfl ?_
  exact Keeps.refl _

theorem State.setLink_keeps : ∀ s n up, Keeps 1 s (State.setLink s n up) := by
  intro s n up
  unfold State.setLink
  refine Keeps.step (State.setRegBit_keeps ..) rfl ?_
  exact Keeps.refl _

theorem State.emit_keeps : ∀ s k p, Keeps 524289 s (State.emit s k p) := by
  intro s k p
  unfold State.emit
  lift_lets -underBinder
  extract_lets -descend x0 x1
  clear_value x0
  clear_value x1
  split
  ·
    rename_i y2
    lift_lets -underBinder
    extract_lets -descend x3 x4
    clear_value x3
    have hx4 : Keeps 524289 s x4 := by
      unfold x4
      refine Keeps.set_fab rfl ?_
      exact Keeps.refl _
    clear_value x4
    refine Keeps.step (State.add64_keeps ..) rfl ?_
    exact hx4
  ·
    rename_i y5
    exact Keeps.refl _

theorem State.queueControl_keeps : ∀ s k type payload, Keeps 65536 s (State.queueControl s k type payload) := by
  intro s k type payload
  unfold State.queueControl
  lift_lets -underBinder
  extract_lets -descend x0 x1
  clear_value x0
  clear_value x1
  refine Keeps.step (State.setSess_keeps ..) rfl ?_
  exact Keeps.refl _

theorem State.sendAck_keeps : ∀ s k, Keeps 65536 s (State.sendAck s k) := by
  intro s k
  unfold State.sendAck
  lift_lets -underBinder
  extract_lets -descend x0 x1
  clear_value x0
  clear_value x1
  refine Keeps.step (State.setSess_keeps ..) rfl ?_
  refine Keeps.step (State.queueControl_keeps ..) rfl ?_
  exact Keeps.refl _

theorem State.answerRx_keeps : ∀ s rx status, Keeps 65536 s (State.answerRx s rx status) := by
  intro s rx status
  unfold State.answerRx
  lift_lets -underBinder
  extract_lets -descend x0 x1 x2
  clear_value x0
  have hx1 : Keeps 65536 s x1 := by
    unfold x1
    refine Keeps.step (State.setSess_keeps ..) rfl ?_
    exact Keeps.refl _
  clear_value x1
  have hx2 : Keeps 65536 s x2 := by
    unfold x2
    refine Keeps.ite ?_ ?_
    ·
      exact hx1
    ·
      refine Keeps.step (State.queueControl_keeps ..) rfl ?_
      exact hx1
  clear_value x2
  refine Keeps.ite ?_ ?_
  ·
    refine Keeps.step (State.sendAck_keeps ..) rfl ?_
    exact hx2
  ·
    exact hx2

theorem State.showTxns_keeps : ∀ s d, Keeps 1 s (State.showTxns s d) := by
  intro s d
  unfold State.showTxns
  lift_lets -underBinder
  extract_lets -descend x0 x1
  clear_value x0
  have hx1 : Keeps 1 s x1 := by
    unfold x1
    refine Keeps.step (State.setFld_keeps ..) rfl ?_
    exact Keeps.refl _
  clear_value x1
  refine Keeps.ite ?_ ?_
  ·
    refine Keeps.step (State.setFld_keeps ..) rfl ?_
    exact hx1
  ·
    exact hx1

theorem State.remoteError_keeps : ∀ s f status addr x k, Keeps 8388609 s (State.remoteError s f status addr x k) := by
  intro s f status addr x k
  unfold State.remoteError
  lift_lets -underBinder
  extract_lets -descend x0
  clear_value x0
  refine Keeps.step (State.log_keeps ..) rfl ?_
  refine Keeps.step (State.inc_keeps ..) rfl ?_
  exact Keeps.refl _

theorem State.userDone_keeps : ∀ s t status, Keeps 11542713 s (State.userDone s t status) := by
  intro s t status
  unfold State.userDone
  split
  ·
    rename_i y0 y1 y2 y3 y4
    refine Keeps.step (State.mapDma_keeps ..) rfl ?_
    exact Keeps.refl _
  ·
    rename_i y5 y6 y7
    lift_lets -underBinder
    extract_lets -descend x8 x9 x10
    clear_value x8
    have hx9 : Keeps 11542713 s x9 := by
      unfold x9
      refine Keeps.ite ?_ ?_
      ·
        exact Keeps.refl _
      ·
        refine Keeps.step (State.remoteError_keeps ..) rfl ?_
        exact Keeps.refl _
    clear_value x9
    clear_value x10
    refine Keeps.set_host rfl ?_
    exact hx9
  ·
    rename_i y11 y12 y13
    refine Keeps.ite ?_ ?_
    ·
      exact Keeps.refl _
    ·
      refine Keeps.step (State.remoteError_keeps ..) rfl ?_
      exact Keeps.refl _
  ·
    rename_i y14 y15 y16 y17
    refine Keeps.ite ?_ ?_
    ·
      exact Keeps.refl _
    ·
      refine Keeps.set_seam rfl ?_
      exact Keeps.refl _
  ·
    rename_i y18 y19 y20
    refine Keeps.ite ?_ ?_
    ·
      exact Keeps.refl _
    ·
      split
      ·
        rename_i y21 y22 y23
        lift_lets -underBinder
        extract_lets -descend x24 x25
        clear_value x24
        have hx25 : Keeps 11542713 s x25 := by
          unfold x25
          refine Keeps.set_host rfl ?_
          exact Keeps.refl _
        clear_value x25
        refine Keeps.step (State.completeWork_keeps ..) rfl ?_
        exact hx25
      ·
        rename_i y26 y27
        exact Keeps.refl _
  ·
    rename_i y28 y29 y30
    refine Keeps.set_media rfl ?_
    exact Keeps.refl _
  ·
    rename_i y31 y32 y33 y34 y35 y36 y37
    exact Keeps.refl _

theorem State.endTxn_keeps : ∀ s num status, Keeps 11673785 s (State.endTxn s num status) := by
  intro s num status
  unfold State.endTxn
  split
  ·
    rename_i y0 y1
    exact Keeps.refl _
  ·
    rename_i y2 y3 y4
    lift_lets -underBinder
    extract_lets -descend x5 x6
    clear_value x5
    have hx6 : Keeps 11673785 s x6 := by
      unfold x6
      refine Keeps.set_txns rfl ?_
      exact Keeps.refl _
    clear_value x6
    refine Keeps.step (State.userDone_keeps ..) rfl ?_
    refine Keeps.step (State.showTxns_keeps ..) rfl ?_
    exact hx6

theorem State.txnAcked_keeps : ∀ s num status, Keeps 11673785 s (State.txnAcked s num status) := by
  intro s num status
  unfold State.txnAcked
  split
  ·
    rename_i y0 y1
    exact Keeps.refl _
  ·
    rename_i y2 y3 y4
    lift_lets -underBinder
    extract_lets -descend x5 x6
    have hx6 : Keeps 11673785 s x6 := by
      unfold x6
      refine Keeps.set_txns rfl ?_
      exact Keeps.refl _
    clear_value x6
    refine Keeps.ite ?_ ?_
    ·
      refine Keeps.step (State.endTxn_keeps ..) rfl ?_
      exact hx6
    ·
      exact hx6

theorem State.endTxnsOf_keeps : ∀ s k status p, Keeps 11739321 s (State.endTxnsOf s k status p) := by
  intro s k status p
  unfold State.endTxnsOf
  lift_lets -underBinder
  extract_lets -descend x0 x1 x2 x3 x4
  clear_value x0
  clear_value x1
  clear_value x3
  have hx4 : Keeps 11739321 s x4 := by
    unfold x4
    refine Keeps.step (State.setSess_keeps ..) rfl ?_
    exact Keeps.refl _
  clear_value x4
  refine Keeps.fold ?_ ?_
  ·
    exact hx4
  ·
    intro z5 q6 h7
    refine Keeps.step (State.endTxn_keeps ..) rfl ?_
    exact h7

theorem State.startTxn_keeps : ∀ s t user inst gen, KeepsOpt 12263609 s (fun z : State => z) (State.startTxn s t user inst gen) := by
  intro s t user inst gen
  unfold State.startTxn
  lift_lets -underBinder
  extract_lets -descend x0 x1 x2 x3 x4 x5 x6 x7 x8 x9 x10 x11
  clear_value x0
  clear_value x1
  clear_value x2
  clear_value x3
  clear_value x4
  clear_value x5
  clear_value x6
  clear_value x7
  have hx8 : Keeps 12263609 s x8 := by
    unfold x8
    refine Keeps.many (t := s) ?_ (.inr rfl) (.inr rfl) (.inr rfl) (.inr rfl) (.inr rfl) (.inr rfl) (.inr rfl) (.inr rfl) (.inr rfl) (.inr rfl) (.inr rfl) (.inr rfl) (.inr rfl) (.inr rfl) (.inr rfl) (.inr rfl) (.inr rfl) (.inl rfl) (.inr rfl) (.inl rfl) (.inr rfl) (.inr rfl) (.inr rfl) (.inr rfl) (.inr rfl) rfl id id
    exact Keeps.refl _
  clear_value x8
  have hx9 : Keeps 12263609 s x9 := by
    unfold x9
    refine Keeps.step (State.showTxns_keeps ..) rfl ?_
    exact hx8
  clear_value x9
  clear_value x10
  clear_value x11
  split
  ·
    rename_i y12
    exact KeepsOpt.none
  ·
    rename_i y13
    split
    ·
      rename_i y14
      refine KeepsOpt.some ?_
      refine Keeps.step (State.endTxn_keeps ..) rfl ?_
      exact hx9
    ·
      rename_i y15
      refine KeepsOpt.some ?_
      refine Keeps.step (State.setSess_keeps ..) rfl ?_
      exact hx9

theorem State.takeEpoch_keeps : ∀ s key, Keeps 524288 s (State.takeEpoch s key).2 := by
  intro s key
  unfold State.takeEpoch
  lift_lets -underBinder
  extract_lets -descend x0 x1 x2
  clear_value x0
  clear_value x1
  clear_value x2
  split
  ·
    rename_i y3
    dsimp -zeta only
    refine Keeps.set_fab rfl ?_
    exact Keeps.refl _
  ·
    rename_i y4
    split
    ·
      rename_i y5
      dsimp -zeta only
      exact Keeps.refl _
    ·
      rename_i y6
      dsimp -zeta only
      refine Keeps.set_fab rfl ?_
      exact Keeps.refl _

theorem State.sendOpen_keeps : ∀ s k nonce, Keeps 589825 s (State.sendOpen s k nonce) := by
  intro s k nonce
  unfold State.sendOpen
  lift_lets -underBinder
  extract_lets -descend x0 x1
  clear_value x0
  have hx1 : Keeps 589825 s x1 := by
    unfold x1
    refine Keeps.step (State.setSess_keeps ..) rfl ?_
    exact Keeps.refl _
  clear_value x1
  split
  ·
    rename_i y2 y3 y4
    have e5 : Keeps 589825 s (y3) := by
      refine Keeps.snd_eq y4 ?_
      refine Keeps.step (State.takeEpoch_keeps ..) rfl ?_
      exact hx1
    refine Keeps.step (State.setSess_keeps ..) rfl ?_
    exact e5
  ·
    rename_i y6 y7 y8 y9
    have e10 : Keeps 589825 s (y8) := by
      refine Keeps.snd_eq y9 ?_
      refine Keeps.step (State.takeEpoch_keeps ..) rfl ?_
      exact hx1
    lift_lets -underBinder
    extract_lets -descend x11 x12 x13 x14 x15
    clear_value x11
    clear_value x12
    have hx13 : Keeps 589825 s x13 := by
      unfold x13
      refine Keeps.step (State.setSess_keeps ..) rfl ?_
      exact e10
    clear_value x13
    clear_value x14
    have hx15 : Keeps 589825 s x15 := by
      unfold x15
      refine Keeps.step (State.setSess_keeps ..) rfl ?_
      exact hx13
    clear_value x15
    refine Keeps.step (State.emit_keeps ..) rfl ?_
    exact hx15

theorem State.failSession_keeps : ∀ s k why, Keeps 11739321 s (State.failSession s k why) := by
  intro s k why
  unfold State.failSession
  lift_lets -underBinder
  extract_lets -descend x0 x1 x2 x3
  have hx0 : Keeps 11739321 s x0 := by
    unfold x0
    refine Keeps.step (State.endTxnsOf_keeps ..) rfl ?_
    exact Keeps.refl _
  clear_value x0
  clear_value x1
  have hx2 : Keeps 11739321 s x2 := by
    unfold x2
    refine Keeps.step (State.setSess_keeps ..) rfl ?_
    exact hx0
  clear_value x2
  have hx3 : Keeps 11739321 s x3 := by
    unfold x3
    refine Keeps.step (State.log_keeps ..) rfl ?_
    exact hx2
  clear_value x3
  refine Keeps.ite ?_ ?_
  ·
    refine Keeps.step (State.setMember_keeps ..) rfl ?_
    exact hx3
  ·
    exact hx3

theorem State.closeSession_keeps : ∀ s k, Keeps 11739321 s (State.closeSession s k) := by
  intro s k
  unfold State.closeSession
  lift_lets -underBinder
  extract_lets -descend x0 x1
  have hx0 : Keeps 11739321 s x0 := by
    unfold x0
    refine Keeps.step (State.endTxnsOf_keeps ..) rfl ?_
    exact Keeps.refl _
  clear_value x0
  clear_value x1
  refine Keeps.step (State.setSess_keeps ..) rfl ?_
  exact hx0

theorem State.retransmit_keeps : ∀ s k seq miss, Keeps 589825 s (State.retransmit s k seq miss) := by
  intro s k seq miss
  unfold State.retransmit
  split
  ·
    rename_i y0 y1
    exact Keeps.refl _
  ·
    rename_i y2 y3 y4
    lift_lets -underBinder
    extract_lets -descend x5 x6 x7 x8
    clear_value x5
    clear_value x6
    clear_value x7
    have hx8 : Keeps 589825 s x8 := by
      unfold x8
      refine Keeps.step (State.setSess_keeps ..) rfl ?_
      exact Keeps.refl _
    clear_value x8
    refine Keeps.step (State.emit_keeps ..) rfl ?_
    exact hx8

theorem State.ackArrived_keeps : ∀ s k cum ranges ce status, Keeps 12263609 s (State.ackArrived s k cum ranges ce status) := by
  intro s k cum ranges ce status
  unfold State.ackArrived
  lift_lets -underBinder
  extract_lets -descend x0 x1 x2 x3 x4 x5 x6 x7 x8 x9
  clear_value x1
  clear_value x2
  clear_value x3
  clear_value x4
  clear_value x5
  have hx6 : Keeps 12263609 s x6 := by
    unfold x6
    refine Keeps.step (State.setSess_keeps ..) rfl ?_
    exact Keeps.refl _
  clear_value x6
  have hx7 : Keeps 12263609 s x7 := by
    unfold x7
    refine Keeps.fold ?_ ?_
    ·
      exact hx6
    ·
      intro z10 q11 h12
      refine Keeps.ite ?_ ?_
      ·
        refine Keeps.step (State.txnAcked_keeps ..) rfl ?_
        exact h12
      ·
        exact h12
  clear_value x7
  clear_value x8
  clear_value x9
  refine Keeps.fold ?_ ?_
  ·
    exact hx7
  ·
    intro z13 q14 h15
    refine Keeps.step (State.retransmit_keeps ..) rfl ?_
    exact h15

theorem State.sendQueued_keeps : ∀ s k q, Keeps 720897 s (State.sendQueued s k q) := by
  intro s k q
  unfold State.sendQueued
  lift_lets -underBinder
  extract_lets -descend x0 x1 x2 x3 x4 x5 x6
  clear_value x0
  clear_value x2
  clear_value x3
  clear_value x4
  have hx5 : Keeps 720897 s x5 := by
    unfold x5
    refine Keeps.step (State.setSess_keeps ..) rfl ?_
    exact Keeps.refl _
  clear_value x5
  have hx6 : Keeps 720897 s x6 := by
    unfold x6
    refine Keeps.set_txns rfl ?_
    exact hx5
  clear_value x6
  refine Keeps.step (State.emit_keeps ..) rfl ?_
  exact hx6

theorem State.stranger_keeps : ∀ s n, Keeps 1 s (State.stranger s n) := by
  intro s n
  unfold State.stranger
  refine Keeps.step (State.add64_keeps ..) rfl ?_
  exact Keeps.refl _

theorem State.takeRx_keeps : ∀ s k want, KeepsOpt 262144 s (fun z : _ × State => z.2) (State.takeRx s k want) := by
  intro s k want
  unfold State.takeRx
  split
  ·
    rename_i y0 y1
    exact KeepsOpt.none
  ·
    rename_i y2 y3 y4
    split
    ·
      rename_i y5
      refine KeepsOpt.some ?_
      dsimp -zeta only
      refine Keeps.set_ingress rfl ?_
      exact Keeps.refl _
    ·
      rename_i y6
      exact KeepsOpt.none

theorem State.reqRefused_keeps : ∀ s rx st, Keeps 8388609 s (State.reqRefused s rx st) := by
  intro s rx st
  unfold State.reqRefused
  refine Keeps.ite ?_ ?_
  ·
    refine Keeps.step (State.firewallDenied_keeps ..) rfl ?_
    exact Keeps.refl _
  ·
    exact Keeps.refl _

end Sys2Proof.Machine
end

