-- ==== Sys2Proof/Laws/KeepsMem.lean ====
section
/-! SUPPORT. What each operation and each command of Machine/Mem.lean touches, one lemma each: the bits of its mask are the
parts of the state that it may change; the queue and the canonical form of the memories it keeps. -/
namespace Sys2Proof.Machine

theorem State.storeBacking_keeps : ∀ s l d, Keeps 8 s (State.storeBacking s l d) := by
  intro s l d
  unfold State.storeBacking
  refine Keeps.set_mem rfl ?_ ?_
  ·
    exact fun h => Tbl.wf_line _ _ _ h
  ·
    exact Keeps.refl _

theorem State.heldBy_keeps : ∀ s q inst up, Keeps 1 s (State.heldBy s q inst up) := by
  intro s q inst up
  unfold State.heldBy
  split
  ·
    rename_i y0 y1
    refine Keeps.step (State.setFld_keeps ..) rfl ?_
    exact Keeps.refl _
  ·
    rename_i y2
    exact Keeps.refl _

theorem State.dropLine_keeps : ∀ s l, Keeps 129 s (State.dropLine s l) := by
  intro s l
  unfold State.dropLine
  split
  ·
    rename_i y0 y1
    exact Keeps.refl _
  ·
    rename_i y2 y3 y4
    lift_lets -underBinder
    extract_lets -descend x5 x6 x7 x8 x9
    clear_value x5
    clear_value x6
    have hx7 : Keeps 129 s x7 := by
      unfold x7
      refine Keeps.set_msys rfl ?_
      exact Keeps.refl _
    clear_value x7
    have hx8 : Keeps 129 s x8 := by
      unfold x8
      refine Keeps.step (State.heldBy_keeps ..) rfl ?_
      exact hx7
    clear_value x8
    have hx9 : Keeps 129 s x9 := by
      unfold x9
      refine Keeps.ite ?_ ?_
      ·
        refine Keeps.step (State.sub_keeps ..) rfl ?_
        exact hx8
      ·
        exact hx8
    clear_value x9
    refine Keeps.ite ?_ ?_
    ·
      refine Keeps.step (State.sub_keeps ..) rfl ?_
      exact hx9
    ·
      exact hx9

theorem State.addLine_keeps : ∀ s l v, Keeps 129 s (State.addLine s l v) := by
  intro s l v
  unfold State.addLine
  lift_lets -underBinder
  extract_lets -descend x0 x1 x2 x3 x4 x5
  clear_value x0
  have hx1 : Keeps 129 s x1 := by
    unfold x1
    refine Keeps.step (State.setLine_keeps ..) rfl ?_
    exact Keeps.refl _
  clear_value x1
  clear_value x2
  have hx3 : Keeps 129 s x3 := by
    unfold x3
    refine Keeps.set_msys rfl ?_
    exact hx1
  clear_value x3
  have hx4 : Keeps 129 s x4 := by
    unfold x4
    refine Keeps.step (State.heldBy_keeps ..) rfl ?_
    exact hx3
  clear_value x4
  have hx5 : Keeps 129 s x5 := by
    unfold x5
    refine Keeps.ite ?_ ?_
    ·
      refine Keeps.step (State.addSat_keeps ..) rfl ?_
      exact hx4
    ·
      exact hx4
  clear_value x5
  refine Keeps.ite ?_ ?_
  ·
    refine Keeps.step (State.addSat_keeps ..) rfl ?_
    exact hx5
  ·
    exact hx5

theorem State.cleanLine_keeps : ∀ s l, Keeps 137 s (State.cleanLine s l) := by
  intro s l
  unfold State.cleanLine
  split
  ·
    rename_i y0 y1 y2
    refine Keeps.ite ?_ ?_
    ·
      refine Keeps.step (State.add64_keeps ..) rfl ?_
      refine Keeps.step (State.sub_keeps ..) rfl ?_
      refine Keeps.step (State.setLine_keeps ..) rfl ?_
      refine Keeps.step (State.storeBacking_keeps ..) rfl ?_
      exact Keeps.refl _
    ·
      exact Keeps.refl _
  ·
    rename_i y3 y4
    exact Keeps.refl _

theorem State.setVictims_keeps : ∀ s q vs, Keeps 128 s (State.setVictims s q vs) := by
  intro s q vs
  unfold State.setVictims
  refine Keeps.set_msys rfl ?_
  exact Keeps.refl _

theorem State.endVictim_keeps : ∀ s q v, Keeps 137 s (State.endVictim s q v) := by
  intro s q v
  unfold State.endVictim
  refine Keeps.step (State.add64_keeps ..) rfl ?_
  refine Keeps.step (State.setVictims_keeps ..) rfl ?_
  refine Keeps.step (State.storeBacking_keeps ..) rfl ?_
  exact Keeps.refl _

theorem State.findWay_keeps : ∀ s l, Keeps 129 s (State.findWay s l).2 := by
  intro s l
  unfold State.findWay
  lift_lets -underBinder
  extract_lets -descend x0 x1 x2 x3 x4
  clear_value x0
  clear_value x1
  clear_value x2
  clear_value x3
  clear_value x4
  split
  ·
    rename_i y5 y6 y7
    dsimp -zeta only
    exact Keeps.refl _
  ·
    rename_i y8 y9
    split
    ·
      rename_i y10
      dsimp -zeta only
      exact Keeps.refl _
    ·
      rename_i y11
      split
      ·
        rename_i y12 y13
        dsimp -zeta only
        exact Keeps.refl _
      ·
        rename_i y14 y15 y16 y17
        split
        ·
          rename_i y18
          dsimp -zeta only
          refine Keeps.step (State.dropLine_keeps ..) rfl ?_
          exact Keeps.refl _
        ·
          rename_i y19
          split
          ·
            rename_i y20
            dsimp -zeta only
            exact Keeps.refl _
          ·
            rename_i y21
            dsimp -zeta only
            refine Keeps.step (State.setVictims_keeps ..) rfl ?_
            refine Keeps.step (State.dropLine_keeps ..) rfl ?_
            exact Keeps.refl _

theorem State.answer_keeps : ∀ s r st data ep, Keeps 2097312 s (State.answer s r st data ep) := by
  intro s r st data ep
  unfold State.answer
  lift_lets -underBinder
  extract_lets -descend x0
  clear_value x0
  split
  ·
    rename_i y1 y2 y3 y4
    refine Keeps.ite ?_ ?_
    ·
      exact Keeps.refl _
    ·
      lift_lets -underBinder
      extract_lets -descend x5
      clear_value x5
      refine Keeps.step (State.setCore_keeps ..) rfl ?_
      exact Keeps.refl _
  ·
    rename_i y6 y7 y8
    refine Keeps.set_msys rfl ?_
    exact Keeps.refl _
  ·
    rename_i y9 y10 y11
    lift_lets -underBinder
    extract_lets -descend x12 x13 x14
    clear_value x12
    clear_value x13
    clear_value x14
    refine Keeps.many (t := s) ?_ (.inr rfl) (.inr rfl) (.inr rfl) (.inr rfl) (.inr rfl) (.inr rfl) (.inr rfl) (.inl rfl) (.inr rfl) (.inr rfl) (.inr rfl) (.inr rfl) (.inr rfl) (.inr rfl) (.inr rfl) (.inr rfl) (.inr rfl) (.inr rfl) (.inr rfl) (.inr rfl) (.inr rfl) (.inl rfl) (.inr rfl) (.inr rfl) (.inr rfl) rfl id id
    exact Keeps.refl _

theorem State.serve_keeps : ∀ s r, Keeps 10485929 s (State.serve s r) := by
  intro s r
  unfold State.serve
  split
  ·
    rename_i y0 y1 y2
    refine Keeps.step (State.answer_keeps ..) rfl ?_
    refine Keeps.step (State.putBytes_keeps ..) rfl ?_
    exact Keeps.refl _
  ·
    rename_i y3 y4
    split
    ·
      rename_i y5 y6
      refine Keeps.step (State.answer_keeps ..) rfl ?_
      exact Keeps.refl _
    ·
      rename_i y7 y8
      refine Keeps.step (State.answer_keeps ..) rfl ?_
      refine Keeps.step (State.sramUe_keeps ..) rfl ?_
      exact Keeps.refl _
    ·
      rename_i y9 y10 y11
      refine Keeps.step (State.answer_keeps ..) rfl ?_
      refine Keeps.step (State.ltfEnd_keeps ..) rfl ?_
      exact Keeps.refl _

theorem State.failReq_keeps : ∀ s r, Keeps 2097313 s (State.failReq s r) := by
  intro s r
  unfold State.failReq
  refine Keeps.step (State.answer_keeps ..) rfl ?_
  refine Keeps.step (State.ltfEnd_keeps ..) rfl ?_
  exact Keeps.refl _

theorem State.touch_keeps : ∀ s l, Keeps 128 s (State.touch s l) := by
  intro s l
  unfold State.touch
  split
  ·
    rename_i y0 y1 y2
    lift_lets -underBinder
    extract_lets -descend x3 x4
    have hx3 : Keeps 128 s x3 := by
      unfold x3
      refine Keeps.step (State.setLine_keeps ..) rfl ?_
      exact Keeps.refl _
    clear_value x3
    clear_value x4
    refine Keeps.set_msys rfl ?_
    exact hx3
  ·
    rename_i y5 y6
    exact Keeps.refl _

theorem State.addMiss_keeps : ∀ s m, Keeps 128 s (State.addMiss s m) := by
  intro s m
  unfold State.addMiss
  refine Keeps.set_msys rfl ?_
  exact Keeps.refl _

theorem State.hbmAccess_keeps : ∀ s r, Keeps 10485929 s (State.hbmAccess s r) := by
  intro s r
  unfold State.hbmAccess
  lift_lets -underBinder
  extract_lets -descend x0 x1
  clear_value x0
  clear_value x1
  refine Keeps.ite ?_ ?_
  ·
    refine Keeps.step (State.addMiss_keeps ..) rfl ?_
    exact Keeps.refl _
  ·
    split
    ·
      rename_i y2 y3 y4
      refine Keeps.step (State.serve_keeps ..) rfl ?_
      refine Keeps.step (State.add64_keeps ..) rfl ?_
      refine Keeps.step (State.touch_keeps ..) rfl ?_
      exact Keeps.refl _
    ·
      rename_i y5 y6
      split
      ·
        rename_i y7 y8 y9
        lift_lets -underBinder
        extract_lets -descend x10
        have hx10 : Keeps 10485929 s x10 := by
          unfold x10
          refine Keeps.step (State.setVictims_keeps ..) rfl ?_
          exact Keeps.refl _
        clear_value x10
        refine Keeps.step (State.serve_keeps ..) rfl ?_
        refine Keeps.step (State.add64_keeps ..) rfl ?_
        refine Keeps.step (State.addLine_keeps ..) rfl ?_
        exact hx10
      ·
        rename_i y11 y12
        refine Keeps.ite ?_ ?_
        ·
          lift_lets -underBinder
          extract_lets -descend x13 x14
          have hx13 : Keeps 10485929 s x13 := by
            unfold x13
            refine Keeps.step (State.add64_keeps ..) rfl ?_
            exact Keeps.refl _
          clear_value x13
          clear_value x14
          refine Keeps.set_msys rfl ?_
          exact hx13
        ·
          split
          ·
            rename_i y15 y16 y17
            refine Keeps.ite ?_ ?_
            ·
              split
              ·
                rename_i y18 y19 y20 y21
                have e22 : Keeps 10485929 s (y20) := by
                  refine Keeps.snd_eq y21 ?_
                  refine Keeps.step (State.findWay_keeps ..) rfl ?_
                  exact Keeps.refl _
                refine Keeps.step (State.answer_keeps ..) rfl ?_
                refine Keeps.step (State.add64_keeps ..) rfl ?_
                refine Keeps.step (State.addLine_keeps ..) rfl ?_
                exact e22
              ·
                rename_i y23 y24 y25
                have e26 : Keeps 10485929 s (y24) := by
                  refine Keeps.snd_eq y25 ?_
                  refine Keeps.step (State.findWay_keeps ..) rfl ?_
                  exact Keeps.refl _
                refine Keeps.set_msys rfl ?_
                exact e26
            ·
              refine Keeps.step (State.addMiss_keeps ..) rfl ?_
              refine Keeps.step (State.add64_keeps ..) rfl ?_
              exact Keeps.refl _
          ·
            rename_i y27 y28
            refine Keeps.step (State.addMiss_keeps ..) rfl ?_
            refine Keeps.step (State.add64_keeps ..) rfl ?_
            exact Keeps.refl _

theorem State.hbmFailed_keeps : ∀ s l late inst, Keeps 8388609 s (State.hbmFailed s l late inst) := by
  intro s l late inst
  unfold State.hbmFailed
  lift_lets -underBinder
  extract_lets -descend x0 x1 x2
  clear_value x0
  have hx1 : Keeps 8388609 s x1 := by
    unfold x1
    refine Keeps.step (State.alarmEvent_keeps ..) rfl ?_
    refine Keeps.step (State.inc_keeps ..) rfl ?_
    exact Keeps.refl _
  clear_value x1
  have hx2 : Keeps 8388609 s x2 := by
    unfold x2
    refine Keeps.step (State.setReg_keeps ..) rfl ?_
    exact hx1
  clear_value x2
  refine Keeps.step (State.log_keeps ..) rfl ?_
  exact hx2

theorem State.hbmCorrected_keeps : ∀ s l, Keeps 8388609 s (State.hbmCorrected s l) := by
  intro s l
  unfold State.hbmCorrected
  lift_lets -underBinder
  extract_lets -descend x0
  clear_value x0
  refine Keeps.step (State.setReg_keeps ..) rfl ?_
  refine Keeps.step (State.alarmEvent_keeps ..) rfl ?_
  refine Keeps.step (State.inc_keeps ..) rfl ?_
  exact Keeps.refl _

theorem State.deepFailed_keeps : ∀ s a late inst, Keeps 8388609 s (State.deepFailed s a late inst) := by
  intro s a late inst
  unfold State.deepFailed
  lift_lets -underBinder
  extract_lets -descend x0 x1 x2 x3
  clear_value x0
  have hx1 : Keeps 8388609 s x1 := by
    unfold x1
    refine Keeps.step (State.inc_keeps ..) rfl ?_
    exact Keeps.refl _
  clear_value x1
  have hx2 : Keeps 8388609 s x2 := by
    unfold x2
    refine Keeps.ite ?_ ?_
    ·
      refine Keeps.step (State.alarmEvent_keeps ..) rfl ?_
      exact hx1
    ·
      exact hx1
  clear_value x2
  have hx3 : Keeps 8388609 s x3 := by
    unfold x3
    refine Keeps.step (State.setReg_keeps ..) rfl ?_
    exact hx2
  clear_value x3
  refine Keeps.step (State.log_keeps ..) rfl ?_
  exact hx3

theorem State.deepCorrected_keeps : ∀ s a, Keeps 8388609 s (State.deepCorrected s a) := by
  intro s a
  unfold State.deepCorrected
  lift_lets -underBinder
  extract_lets -descend x0
  clear_value x0
  refine Keeps.step (State.setReg_keeps ..) rfl ?_
  refine Keeps.step (State.alarmEvent_keeps ..) rfl ?_
  refine Keeps.step (State.inc_keeps ..) rfl ?_
  exact Keeps.refl _

theorem State.takeMiss_keeps : ∀ s l, KeepsOpt 128 s (fun z : _ × State => z.2) (State.takeMiss s l) := by
  intro s l
  unfold State.takeMiss
  split
  ·
    rename_i y0 y1
    exact KeepsOpt.none
  ·
    rename_i y2 y3 y4
    split
    ·
      rename_i y5 y6
      exact KeepsOpt.none
    ·
      rename_i y7 y8 y9
      refine KeepsOpt.some ?_
      dsimp -zeta only
      refine Keeps.set_msys rfl ?_
      exact Keeps.refl _

theorem State.failMiss_keeps : ∀ s m late, Keeps 10485921 s (State.failMiss s m late) := by
  intro s m late
  unfold State.failMiss
  split
  ·
    rename_i y0 y1
    exact Keeps.refl _
  ·
    rename_i y2 y3 y4 y5
    lift_lets -underBinder
    extract_lets -descend x6
    have hx6 : Keeps 10485921 s x6 := by
      unfold x6
      refine Keeps.step (State.failReq_keeps ..) rfl ?_
      refine Keeps.step (State.hbmFailed_keeps ..) rfl ?_
      exact Keeps.refl _
    clear_value x6
    refine Keeps.ite ?_ ?_
    ·
      exact hx6
    ·
      refine Keeps.step (State.addMiss_keeps ..) rfl ?_
      exact hx6

theorem State.failVictim_keeps : ∀ s q l late, Keeps 8388737 s (State.failVictim s q l late) := by
  intro s q l late
  unfold State.failVictim
  split
  ·
    rename_i y0 y1
    exact Keeps.refl _
  ·
    rename_i y2 y3 y4
    lift_lets -underBinder
    extract_lets -descend x5 x6 x7
    have hx5 : Keeps 8388737 s x5 := by
      unfold x5
      refine Keeps.step (State.hbmFailed_keeps ..) rfl ?_
      exact Keeps.refl _
    clear_value x5
    clear_value x6
    clear_value x7
    refine Keeps.ite ?_ ?_
    ·
      refine Keeps.step (State.addLine_keeps ..) rfl ?_
      refine Keeps.step (State.setVictims_keeps ..) rfl ?_
      exact hx5
    ·
      refine Keeps.step (State.setVictims_keeps ..) rfl ?_
      exact hx5

theorem State.retryWaiting_keeps : ∀ s q, Keeps 10485929 s (State.retryWaiting s q) := by
  intro s q
  unfold State.retryWaiting
  lift_lets -underBinder
  extract_lets -descend x0 x1 x2
  clear_value x0
  clear_value x1
  have hx2 : Keeps 10485929 s x2 := by
    unfold x2
    refine Keeps.set_msys rfl ?_
    exact Keeps.refl _
  clear_value x2
  refine Keeps.fold ?_ ?_
  ·
    exact hx2
  ·
    intro z3 q4 h5
    refine Keeps.step (State.hbmAccess_keeps ..) rfl ?_
    exact h5

theorem execOvercastAccess_keeps : ∀ r s, KeepsOut 10485929 s (execOvercastAccess r s) := by
  intro r s
  unfold execOvercastAccess
  lift_lets -underBinder
  extract_lets -descend x0 x1
  clear_value x0
  clear_value x1
  split
  ·
    rename_i y2
    refine KeepsOut.next ?_
    refine Keeps.step (State.answer_keeps ..) rfl ?_
    exact Keeps.refl _
  ·
    rename_i y3
    split
    ·
      rename_i y4
      refine KeepsOut.next ?_
      refine Keeps.ite ?_ ?_
      ·
        refine Keeps.step (State.staleWrite_keeps ..) rfl ?_
        exact Keeps.refl _
      ·
        exact Keeps.refl _
    ·
      rename_i y5
      split
      ·
        rename_i y6 y7
        lift_lets -underBinder
        extract_lets -descend x8
        clear_value x8
        split
        ·
          rename_i y9
          refine KeepsOut.next ?_
          exact Keeps.refl _
        ·
          rename_i y10
          split
          ·
            rename_i y11 y12 y13
            refine KeepsOut.next ?_
            refine Keeps.fold ?_ ?_
            ·
              exact Keeps.refl _
            ·
              intro z14 q15 h16
              refine Keeps.step (State.hbmAccess_keeps ..) rfl ?_
              exact h16
          ·
            rename_i y17 y18 y19
            refine KeepsOut.next ?_
            refine Keeps.set_msys rfl ?_
            exact Keeps.refl _
          ·
            rename_i y20 y21 y22
            refine KeepsOut.next ?_
            refine Keeps.step (State.serve_keeps ..) rfl ?_
            exact Keeps.refl _
      ·
        rename_i y23 y24
        refine KeepsOut.next ?_
        refine Keeps.step (State.answer_keeps ..) rfl ?_
        refine Keeps.step (State.firewallDenied_keeps ..) rfl ?_
        exact Keeps.refl _
      ·
        rename_i y25 y26 y27
        refine KeepsOut.next ?_
        refine Keeps.step (State.answer_keeps ..) rfl ?_
        exact Keeps.refl _

theorem execCacheMissFill_keeps : ∀ line out s, KeepsOut 10485929 s (execCacheMissFill line out s) := by
  intro line out s
  unfold execCacheMissFill
  split
  ·
    rename_i y0 y1
    refine KeepsOut.next ?_
    exact Keeps.refl _
  ·
    rename_i y3 y4 y5 y6
    have e7 : Keeps 10485929 s ((y4, y5)).2 := by
      refine KeepsOpt.eq (π := (fun z : _ × State => z.2)) y6 ?_
      refine KeepsOpt.step (State.takeMiss_keeps ..) rfl ?_
      exact Keeps.refl _
    split
    ·
      rename_i y8
      refine KeepsOut.next ?_
      refine Keeps.step (State.failMiss_keeps ..) rfl ?_
      exact e7
    ·
      rename_i y9 y10
      lift_lets -underBinder
      extract_lets -descend x11
      have hx11 : Keeps 10485929 s x11 := by
        unfold x11
        refine Keeps.ite ?_ ?_
        ·
          refine Keeps.step (State.hbmCorrected_keeps ..) rfl ?_
          exact e7
        ·
          exact e7
      clear_value x11
      split
      ·
        rename_i y12
        refine KeepsOut.next ?_
        refine Keeps.fold ?_ ?_
        ·
          exact hx11
        ·
          intro z13 q14 h15
          refine Keeps.step (State.serve_keeps ..) rfl ?_
          exact h15
      ·
        rename_i y16
        split
        ·
          rename_i y17 y18 y19
          have e20 : Keeps 10485929 s (y18) := by
            refine Keeps.snd_eq y19 ?_
            refine Keeps.step (State.findWay_keeps ..) rfl ?_
            exact hx11
          refine KeepsOut.next ?_
          refine Keeps.step (State.addMiss_keeps ..) rfl ?_
          exact e20
        ·
          rename_i y21 y22 y23 y24
          have e25 : Keeps 10485929 s (y23) := by
            refine Keeps.snd_eq y24 ?_
            refine Keeps.step (State.findWay_keeps ..) rfl ?_
            exact hx11
          lift_lets -underBinder
          extract_lets -descend x26
          have hx26 : Keeps 10485929 s x26 := by
            unfold x26
            refine Keeps.step (State.addLine_keeps ..) rfl ?_
            exact e25
          clear_value x26
          refine KeepsOut.next ?_
          refine Keeps.fold ?_ ?_
          ·
            exact hx26
          ·
            intro z27 q28 h29
            refine Keeps.step (State.serve_keeps ..) rfl ?_
            exact h29

theorem execVictimWriteback_keeps : ∀ q line good s, KeepsOut 10485929 s (execVictimWriteback q line good s) := by
  intro q line good s
  unfold execVictimWriteback
  split
  ·
    rename_i y0 y1
    refine KeepsOut.next ?_
    exact Keeps.refl _
  ·
    rename_i y2 y3 y4
    refine KeepsOut.next ?_
    refine Keeps.step (State.retryWaiting_keeps ..) rfl ?_
    refine Keeps.ite ?_ ?_
    ·
      refine Keeps.step (State.endVictim_keeps ..) rfl ?_
      exact Keeps.refl _
    ·
      refine Keeps.step (State.failVictim_keeps ..) rfl ?_
      exact Keeps.refl _

theorem execLateAccessTimeout_keeps : ∀ a s, KeepsOut 10485929 s (execLateAccessTimeout a s) := by
  intro a s
  unfold execLateAccessTimeout
  split
  ·
    rename_i y0 y1
    split
    ·
      rename_i y2 y3
      refine KeepsOut.next ?_
      exact Keeps.refl _
    ·
      rename_i y5 y6 y7 y8
      have e9 : Keeps 10485929 s ((y6, y7)).2 := by
        refine KeepsOpt.eq (π := (fun z : _ × State => z.2)) y8 ?_
        refine KeepsOpt.step (State.takeMiss_keeps ..) rfl ?_
        exact Keeps.refl _
      refine KeepsOut.next ?_
      refine Keeps.step (State.failMiss_keeps ..) rfl ?_
      refine Keeps.set_msys rfl ?_
      exact e9
  ·
    rename_i y10 y11 y12
    split
    ·
      rename_i y13
      refine KeepsOut.next ?_
      refine Keeps.step (State.retryWaiting_keeps ..) rfl ?_
      refine Keeps.step (State.failVictim_keeps ..) rfl ?_
      exact Keeps.refl _
    ·
      rename_i y14
      refine KeepsOut.next ?_
      exact Keeps.refl _
  ·
    rename_i y15 y16
    split
    ·
      rename_i y17 y18
      refine KeepsOut.next ?_
      exact Keeps.refl _
    ·
      rename_i y19 y20 y21
      lift_lets -underBinder
      extract_lets -descend x22 x23
      clear_value x22
      have hx23 : Keeps 10485929 s x23 := by
        unfold x23
        refine Keeps.set_msys rfl ?_
        exact Keeps.refl _
      clear_value x23
      refine KeepsOut.next ?_
      refine Keeps.step (State.failReq_keeps ..) rfl ?_
      refine Keeps.step (State.deepFailed_keeps ..) rfl ?_
      exact hx23

theorem execLateDataDiscard_keeps : ∀ a s, KeepsOut 129 s (execLateDataDiscard a s) := by
  intro a s
  unfold execLateDataDiscard
  split
  ·
    rename_i y0 y1
    refine KeepsOut.next ?_
    exact Keeps.refl _
  ·
    rename_i y2 y3 y4
    refine KeepsOut.next ?_
    refine Keeps.step (State.inc_keeps ..) rfl ?_
    refine Keeps.set_msys rfl ?_
    exact Keeps.refl _

theorem execDeepTierAccess_keeps : ∀ k out s, KeepsOut 10485929 s (execDeepTierAccess k out s) := by
  intro k out s
  unfold execDeepTierAccess
  split
  ·
    rename_i y0 y1
    refine KeepsOut.next ?_
    exact Keeps.refl _
  ·
    rename_i y2 y3 y4
    lift_lets -underBinder
    extract_lets -descend x5 x6
    clear_value x5
    have hx6 : Keeps 10485929 s x6 := by
      unfold x6
      refine Keeps.set_msys rfl ?_
      exact Keeps.refl _
    clear_value x6
    split
    ·
      rename_i y7
      refine KeepsOut.next ?_
      refine Keeps.step (State.serve_keeps ..) rfl ?_
      exact hx6
    ·
      rename_i y8
      refine KeepsOut.next ?_
      refine Keeps.step (State.serve_keeps ..) rfl ?_
      refine Keeps.step (State.deepCorrected_keeps ..) rfl ?_
      exact hx6
    ·
      rename_i y9
      refine KeepsOut.next ?_
      refine Keeps.step (State.failReq_keeps ..) rfl ?_
      refine Keeps.step (State.deepFailed_keeps ..) rfl ?_
      exact hx6

end Sys2Proof.Machine
end

