-- ==== Sys2Proof/Laws/KeepsDma.lean ====
section
/-! SUPPORT. What each operation and each command of Machine/Dma.lean touches, one lemma each: the bits of its mask are the
parts of the state that it may change; the queue and the canonical form of the memories it keeps. -/
namespace Sys2Proof.Machine

theorem State.showDma_keeps : ∀ s c, Keeps 1 s (State.showDma s c) := by
  intro s c
  unfold State.showDma
  lift_lets -underBinder
  extract_lets -descend x0 x1 x2 x3
  clear_value x0
  clear_value x1
  have hx2 : Keeps 1 s x2 := by
    unfold x2
    refine Keeps.step (State.setFld_keeps ..) rfl ?_
    exact Keeps.refl _
  clear_value x2
  have hx3 : Keeps 1 s x3 := by
    unfold x3
    refine Keeps.step (State.setFld_keeps ..) rfl ?_
    exact hx2
  clear_value x3
  refine Keeps.step (State.setFld_keeps ..) rfl ?_
  exact hx3

theorem State.setDmaList_keeps : ∀ s u l, Keeps 161 s (State.setDmaList s u l) := by
  intro s u l
  unfold State.setDmaList
  split
  ·
    rename_i y0 y1
    refine Keeps.step (State.showDma_keeps ..) rfl ?_
    refine Keeps.step (State.setCore_keeps ..) rfl ?_
    exact Keeps.refl _
  ·
    rename_i y2 y3
    refine Keeps.set_msys rfl ?_
    exact Keeps.refl _

theorem State.putItem_keeps : ∀ s u it, Keeps 161 s (State.putItem s u it) := by
  intro s u it
  unfold State.putItem
  refine Keeps.step (State.setDmaList_keeps ..) rfl ?_
  exact Keeps.refl _

theorem State.dropDma_keeps : ∀ s u id, Keeps 161 s (State.dropDma s u id) := by
  intro s u id
  unfold State.dropDma
  refine Keeps.step (State.setDmaList_keeps ..) rfl ?_
  exact Keeps.refl _

theorem State.endItem_keeps : ∀ s u it st, Keeps 161 s (State.endItem s u it st) := by
  intro s u it st
  unfold State.endItem
  refine Keeps.step (State.putItem_keeps ..) rfl ?_
  exact Keeps.refl _

theorem State.dmaEvent_keeps : ∀ s u ev, Keeps 1 s (State.dmaEvent s u ev) := by
  intro s u ev
  unfold State.dmaEvent
  split
  ·
    rename_i y0 y1
    refine Keeps.step (State.fpEvent_keeps ..) rfl ?_
    exact Keeps.refl _
  ·
    rename_i y2 y3
    exact Keeps.refl _

theorem State.dmaWrite_keeps : ∀ s u e p a bs, Keeps 8388745 s (State.dmaWrite s u e p a bs).2 := by
  intro s u e p a bs
  unfold State.dmaWrite
  split
  ·
    rename_i y0 y1
    split
    ·
      rename_i y2
      split
      ·
        rename_i y3 y4
        split
        ·
          rename_i y5 y6 y7 y8
          have e9 : Keeps 8388745 s (y7) := by
            refine Keeps.snd_eq y8 ?_
            refine Keeps.step (State.reduceAt_keeps ..) rfl ?_
            exact Keeps.refl _
          dsimp -zeta only
          refine Keeps.step (State.dmaEvent_keeps ..) rfl ?_
          exact e9
      ·
        rename_i y10 y11
        dsimp -zeta only
        refine Keeps.step (State.engFail_keeps ..) rfl ?_
        exact Keeps.refl _
    ·
      rename_i y12
      dsimp -zeta only
      refine Keeps.step (State.putBytes_keeps ..) rfl ?_
      exact Keeps.refl _
  ·
    rename_i y13 y14
    dsimp -zeta only
    refine Keeps.step (State.engFail_keeps ..) rfl ?_
    exact Keeps.refl _

theorem State.dmaSeed_keeps : ∀ s u, Keeps 16777216 s (State.dmaSeed s u).2.2 := by
  intro s u
  unfold State.dmaSeed
  split
  ·
    rename_i y0 y1
    dsimp -zeta only
    exact Keeps.refl _
  ·
    rename_i y2 y3
    split
    ·
      rename_i y4 y5 y6 y7
      have e8 : Keeps 16777216 s (y6) := by
        refine Keeps.snd_eq y7 ?_
        refine Keeps.step (State.fresh_keeps ..) rfl ?_
        exact Keeps.refl _
      split
      ·
        rename_i y9 y10 y11 y12
        have e13 : Keeps 16777216 s (y11) := by
          refine Keeps.snd_eq y12 ?_
          refine Keeps.step (State.fresh_keeps ..) rfl ?_
          exact e8
        exact e13

theorem State.addMoved_keeps : ∀ s u n, Keeps 1 s (State.addMoved s u n) := by
  intro s u n
  unfold State.addMoved
  split
  ·
    rename_i y0 y1
    refine Keeps.step (State.add64_keeps ..) rfl ?_
    exact Keeps.refl _
  ·
    rename_i y2 y3
    exact Keeps.refl _

theorem State.dmaGather_keeps : ∀ s u p it, Keeps 25165825 s (State.dmaGather s u p it).2.2 := by
  intro s u p it
  unfold State.dmaGather
  lift_lets -underBinder
  extract_lets -descend x0
  clear_value x0
  split
  ·
    rename_i y1 y2 y3 y4 y5
    have e6 : Keeps 25165825 s (y4) := by
      refine Keeps.trd_eq y5 ?_
      refine Keeps.step (State.dmaSeed_keeps ..) rfl ?_
      exact Keeps.refl _
    lift_lets -underBinder
    extract_lets -descend x7 x8
    have hx7 : Keeps 25165825 s x7.2.2 := by
      unfold x7
      refine Keeps.foldl (fun z : _ × _ × State => z.2.2) ?_ ?_
      ·
        exact e6
      ·
        rintro ⟨z12, z13, z14⟩ q10 h11
        dsimp -zeta only at h11 ⊢
        split
        ·
          rename_i y15
          exact h11
        ·
          rename_i y16
          split
          ·
            rename_i y17 y18 y19
            dsimp -zeta only
            refine Keeps.step (State.dmaEvent_keeps ..) rfl ?_
            exact h11
          ·
            rename_i y20 y21 y22 y23 y24
            dsimp -zeta only
            refine Keeps.step (State.engFail_keeps ..) rfl ?_
            exact h11
    clear_value x7
    clear_value x8
    exact hx7

theorem State.dmaRows_keeps : ∀ s u p it, Keeps 25165961 s (State.dmaRows s u p it).2 := by
  intro s u p it
  unfold State.dmaRows
  lift_lets -underBinder
  extract_lets -descend x0
  clear_value x0
  split
  ·
    rename_i y1 y2 y3 y4 y5
    have e6 : Keeps 25165961 s (y4) := by
      refine Keeps.trd_eq y5 ?_
      refine Keeps.step (State.dmaSeed_keeps ..) rfl ?_
      exact Keeps.refl _
    refine Keeps.foldl (fun z : _ × State => z.2) ?_ ?_
    ·
      exact e6
    ·
      rintro ⟨z10, z11⟩ q8 h9
      dsimp -zeta only at h9 ⊢
      split
      ·
        rename_i y12
        exact h9
      ·
        rename_i y13
        split
        ·
          rename_i y14 y15 y16
          split
          ·
            rename_i y17 y18 y19
            have e20 : Keeps 25165961 s (y18) := by
              refine Keeps.snd_eq y19 ?_
              refine Keeps.step (State.dmaWrite_keeps ..) rfl ?_
              exact h9
            dsimp -zeta only
            refine Keeps.step (State.addMoved_keeps ..) rfl ?_
            refine Keeps.step (State.dmaEvent_keeps ..) rfl ?_
            exact e20
          ·
            rename_i y21 y22 y23 y24 y25
            have e26 : Keeps 25165961 s (y23) := by
              refine Keeps.snd_eq y25 ?_
              refine Keeps.step (State.dmaWrite_keeps ..) rfl ?_
              exact h9
            exact e26
        ·
          rename_i y27 y28 y29 y30 y31
          dsimp -zeta only
          refine Keeps.step (State.engFail_keeps ..) rfl ?_
          exact h9

theorem State.dmaSwizzle_keeps : ∀ s u p it, Keeps 25165961 s (State.dmaSwizzle s u p it).2 := by
  intro s u p it
  unfold State.dmaSwizzle
  split
  ·
    rename_i y0 y1 y2 y3 y4
    have e5 : Keeps 25165961 s (y3) := by
      refine Keeps.trd_eq y4 ?_
      refine Keeps.step (State.dmaGather_keeps ..) rfl ?_
      exact Keeps.refl _
    refine Keeps.foldl (fun z : _ × State => z.2) ?_ ?_
    ·
      exact e5
    ·
      rintro ⟨z9, z10⟩ q7 h8
      dsimp -zeta only at h8 ⊢
      split
      ·
        rename_i y11
        exact h8
      ·
        rename_i y12
        split
        ·
          rename_i y13 y14 y15
          have e16 : Keeps 25165961 s (y14) := by
            refine Keeps.snd_eq y15 ?_
            refine Keeps.step (State.dmaWrite_keeps ..) rfl ?_
            exact h8
          dsimp -zeta only
          refine Keeps.step (State.addMoved_keeps ..) rfl ?_
          exact e16
        ·
          rename_i y17 y18 y19 y20 y21
          have e22 : Keeps 25165961 s (y19) := by
            refine Keeps.snd_eq y21 ?_
            refine Keeps.step (State.dmaWrite_keeps ..) rfl ?_
            exact h8
          exact e22

theorem State.dmaSend_keeps : ∀ s u it sess reqs, KeepsOpt 12263609 s (fun z : State => z) (State.dmaSend s u it sess reqs) := by
  intro s u it sess reqs
  unfold State.dmaSend
  refine KeepsOpt.foldl ?_ ?_
  ·
    refine KeepsOpt.some ?_
    exact Keeps.refl _
  ·
    intro z0 q1 h2
    split
    ·
      rename_i y3
      exact h2
    ·
      rename_i y4 y5
      refine KeepsOpt.step (State.startTxn_keeps ..) rfl ?_
      exact (KeepsOpt.eq rfl h2)

theorem State.dmaAsk_keeps : ∀ s u p it dev, Keeps 12263609 s (State.dmaAsk s u p it dev) := by
  intro s u p it dev
  unfold State.dmaAsk
  split
  ·
    rename_i y0 y1
    refine Keeps.step (State.endItem_keeps ..) rfl ?_
    exact Keeps.refl _
  ·
    rename_i y2 y3 y4
    lift_lets -underBinder
    extract_lets -descend x5
    clear_value x5
    split
    ·
      rename_i y6 y7 y8
      have e9 : Keeps 12263609 s y7 := by
        refine KeepsOpt.eq (π := (fun z : State => z)) y8 ?_
        refine KeepsOpt.step (State.dmaSend_keeps ..) rfl ?_
        refine Keeps.step (State.putItem_keeps ..) rfl ?_
        exact Keeps.refl _
      exact e9
    ·
      rename_i y10 y11
      exact Keeps.refl _

theorem State.dmaPush_keeps : ∀ s u p it dev, Keeps 29040825 s (State.dmaPush s u p it dev) := by
  intro s u p it dev
  unfold State.dmaPush
  split
  ·
    rename_i y0 y1
    refine Keeps.step (State.endItem_keeps ..) rfl ?_
    exact Keeps.refl _
  ·
    rename_i y2 y3 y4
    split
    ·
      rename_i y5 y6 y7 y8 y9
      have e10 : Keeps 29040825 s (y8) := by
        refine Keeps.trd_eq y9 ?_
        refine Keeps.step (State.dmaGather_keeps ..) rfl ?_
        exact Keeps.refl _
      lift_lets -underBinder
      extract_lets -descend x11 x12 x13
      clear_value x11
      clear_value x12
      clear_value x13
      refine Keeps.ite ?_ ?_
      ·
        refine Keeps.step (State.endItem_keeps ..) rfl ?_
        exact e10
      ·
        split
        ·
          rename_i y14 y15 y16
          have e17 : Keeps 29040825 s y15 := by
            refine KeepsOpt.eq (π := (fun z : State => z)) y16 ?_
            refine KeepsOpt.step (State.dmaSend_keeps ..) rfl ?_
            refine Keeps.step (State.putItem_keeps ..) rfl ?_
            exact e10
          refine Keeps.step (State.addMoved_keeps ..) rfl ?_
          exact e17
        ·
          rename_i y18 y19
          exact Keeps.refl _

theorem State.dmaMove_keeps : ∀ s u p it, Keeps 29040825 s (State.dmaMove s u p it) := by
  intro s u p it
  unfold State.dmaMove
  split
  ·
    rename_i y0 y1 y2
    refine Keeps.step (State.dmaPush_keeps ..) rfl ?_
    exact Keeps.refl _
  ·
    rename_i y3 y4
    split
    ·
      rename_i y5 y6 y7 y8
      have e9 : Keeps 29040825 s (y7) := by
        refine Keeps.snd_eq y8 ?_
        split
        ·
          rename_i y10
          refine Keeps.step (State.dmaRows_keeps ..) rfl ?_
          exact Keeps.refl _
        ·
          rename_i y11
          refine Keeps.step (State.dmaSwizzle_keeps ..) rfl ?_
          exact Keeps.refl _
      refine Keeps.step (State.endItem_keeps ..) rfl ?_
      exact e9

theorem State.runDma_keeps : ∀ s u k op, Keeps 29040825 s (State.runDma s u k op) := by
  intro s u k op
  unfold State.runDma
  split
  ·
    rename_i y0 y1
    exact Keeps.refl _
  ·
    rename_i y2 y3 y4
    lift_lets -underBinder
    extract_lets -descend x5
    clear_value x5
    refine Keeps.ite ?_ ?_
    ·
      exact Keeps.refl _
    ·
      refine Keeps.ite ?_ ?_
      ·
        refine Keeps.step (State.dropDma_keeps ..) rfl ?_
        exact Keeps.refl _
      ·
        refine Keeps.ite ?_ ?_
        ·
          split
          ·
            rename_i y6 y7
            split
            ·
              rename_i y8 y9 y10
              refine Keeps.step (State.dmaAsk_keeps ..) rfl ?_
              exact Keeps.refl _
            ·
              rename_i y11 y12
              refine Keeps.step (State.dmaMove_keeps ..) rfl ?_
              exact Keeps.refl _
          ·
            rename_i y13 y14
            refine Keeps.step (State.endItem_keeps ..) rfl ?_
            exact Keeps.refl _
        ·
          refine Keeps.ite ?_ ?_
          ·
            refine Keeps.ite ?_ ?_
            ·
              refine Keeps.step (State.endItem_keeps ..) rfl ?_
              exact Keeps.refl _
            ·
              refine Keeps.step (State.dmaMove_keeps ..) rfl ?_
              exact Keeps.refl _
          ·
            exact Keeps.refl _

theorem State.runMaint_keeps : ∀ s u k op, Keeps 8388777 s (State.runMaint s u k op) := by
  intro s u k op
  unfold State.runMaint
  split
  ·
    rename_i y0 y1
    exact Keeps.refl _
  ·
    rename_i y2 y3 y4
    refine Keeps.ite ?_ ?_
    ·
      exact Keeps.refl _
    ·
      refine Keeps.ite ?_ ?_
      ·
        refine Keeps.ite ?_ ?_
        ·
          refine Keeps.step (State.endItem_keeps ..) rfl ?_
          exact Keeps.refl _
        ·
          exact Keeps.refl _
      ·
        refine Keeps.ite ?_ ?_
        ·
          refine Keeps.step (State.dropDma_keeps ..) rfl ?_
          exact Keeps.refl _
        ·
          split
          ·
            rename_i y5 y6
            lift_lets -underBinder
            extract_lets -descend x7 x8 x9 x10 x11 x12 x13 x14 x15
            clear_value x8
            clear_value x9
            clear_value x10
            clear_value x11
            have hx12 : Keeps 8388777 s x12 := by
              unfold x12
              refine Keeps.ite ?_ ?_
              ·
                refine Keeps.step (State.setVictims_keeps ..) rfl ?_
                exact Keeps.refl _
              ·
                refine Keeps.fold ?_ ?_
                ·
                  exact Keeps.refl _
                ·
                  intro z16 q17 h18
                  refine Keeps.step (State.endVictim_keeps ..) rfl ?_
                  exact h18
            clear_value x12
            have hx13 : Keeps 8388777 s x13 := by
              unfold x13
              refine Keeps.ite ?_ ?_
              ·
                exact hx12
              ·
                refine Keeps.fold ?_ ?_
                ·
                  exact hx12
                ·
                  intro z19 q20 h21
                  refine Keeps.step (State.cleanLine_keeps ..) rfl ?_
                  exact h21
            clear_value x13
            have hx14 : Keeps 8388777 s x14 := by
              unfold x14
              refine Keeps.ite ?_ ?_
              ·
                exact hx13
              ·
                refine Keeps.fold ?_ ?_
                ·
                  exact hx13
                ·
                  intro z22 q23 h24
                  refine Keeps.step (State.dropLine_keeps ..) rfl ?_
                  exact h24
            clear_value x14
            have hx15 : Keeps 8388777 s x15 := by
              unfold x15
              refine Keeps.ite ?_ ?_
              ·
                refine Keeps.step (State.ltfEnd_keeps ..) rfl ?_
                exact hx14
              ·
                exact hx14
            clear_value x15
            refine Keeps.step (State.endItem_keeps ..) rfl ?_
            exact hx15
          ·
            rename_i y25 y26
            refine Keeps.step (State.endItem_keeps ..) rfl ?_
            refine Keeps.step (State.engFail_keeps ..) rfl ?_
            exact Keeps.refl _

theorem State.handItem_keeps : ∀ s u it, Keeps 161 s (State.handItem s u it) := by
  intro s u it
  unfold State.handItem
  refine Keeps.step (State.putItem_keeps ..) rfl ?_
  exact Keeps.refl _

theorem State.reportItem_keeps : ∀ s u it st, Keeps 2097401 s (State.reportItem s u it st) := by
  intro s u it st
  unfold State.reportItem
  lift_lets -underBinder
  extract_lets -descend x0 x1 x2 x3 x4
  have hx0 : Keeps 2097401 s x0 := by
    unfold x0
    refine Keeps.step (State.dropDma_keeps ..) rfl ?_
    exact Keeps.refl _
  clear_value x0
  clear_value x1
  clear_value x2
  have hx3 : Keeps 2097401 s x3 := by
    unfold x3
    split
    ·
      rename_i y5 y6 y7
      refine Keeps.step (State.doneSem_keeps ..) rfl ?_
      exact hx0
    ·
      rename_i y8 y9
      exact hx0
  clear_value x3
  have hx4 : Keeps 2097401 s x4 := by
    unfold x4
    split
    ·
      rename_i y10 y11 y12
      refine Keeps.step (State.add64_keeps ..) rfl ?_
      refine Keeps.step (State.setFld_keeps ..) rfl ?_
      exact hx3
    ·
      rename_i y13 y14 y15
      exact hx3
  clear_value x4
  split
  ·
    rename_i y16 y17 y18 y19 y20 y21 y22
    refine Keeps.step (State.setCore_keeps ..) rfl ?_
    exact hx4
  ·
    rename_i y23 y24 y25 y26 y27 y28
    lift_lets -underBinder
    extract_lets -descend x29
    clear_value x29
    refine Keeps.step (State.setCore_keeps ..) rfl ?_
    exact hx4
  ·
    rename_i y30 y31 y32 y33 y34 y35 y36
    refine Keeps.step (State.completeWork_keeps ..) rfl ?_
    exact hx4
  ·
    rename_i y37 y38 y39 y40 y41 y42 y43 y44
    exact hx4

theorem execCopy_keeps : ∀ u k s, KeepsOut 29040825 s (execCopy u k s) := by
  intro u k s
  unfold execCopy
  refine KeepsOut.next ?_
  refine Keeps.step (State.runDma_keeps ..) rfl ?_
  exact Keeps.refl _

theorem execCopyWithConversion_keeps : ∀ u k s, KeepsOut 29040825 s (execCopyWithConversion u k s) := by
  intro u k s
  unfold execCopyWithConversion
  refine KeepsOut.next ?_
  refine Keeps.step (State.runDma_keeps ..) rfl ?_
  exact Keeps.refl _

theorem execMemorySideReduction_keeps : ∀ u k s, KeepsOut 29040825 s (execMemorySideReduction u k s) := by
  intro u k s
  unfold execMemorySideReduction
  refine KeepsOut.next ?_
  refine Keeps.step (State.runDma_keeps ..) rfl ?_
  exact Keeps.refl _

theorem execFlush_keeps : ∀ u k s, KeepsOut 8388777 s (execFlush u k s) := by
  intro u k s
  unfold execFlush
  refine KeepsOut.next ?_
  refine Keeps.step (State.runMaint_keeps ..) rfl ?_
  exact Keeps.refl _

theorem execInvalidate_keeps : ∀ u k s, KeepsOut 8388777 s (execInvalidate u k s) := by
  intro u k s
  unfold execInvalidate
  refine KeepsOut.next ?_
  refine Keeps.step (State.runMaint_keeps ..) rfl ?_
  exact Keeps.refl _

theorem execFlushAndInvalidate_keeps : ∀ u k s, KeepsOut 8388777 s (execFlushAndInvalidate u k s) := by
  intro u k s
  unfold execFlushAndInvalidate
  refine KeepsOut.next ?_
  refine Keeps.step (State.runMaint_keeps ..) rfl ?_
  exact Keeps.refl _

theorem execDmaItemCompletion_keeps : ∀ u k s, KeepsOut 2097401 s (execDmaItemCompletion u k s) := by
  intro u k s
  unfold execDmaItemCompletion
  split
  ·
    rename_i y0 y1
    refine KeepsOut.next ?_
    exact Keeps.refl _
  ·
    rename_i y2 y3 y4
    lift_lets -underBinder
    extract_lets -descend x5 x6
    clear_value x5
    clear_value x6
    split
    ·
      rename_i y7
      refine KeepsOut.next ?_
      exact Keeps.refl _
    ·
      rename_i y8 y9
      lift_lets -underBinder
      extract_lets -descend x10
      clear_value x10
      split
      ·
        rename_i y11
        refine KeepsOut.next ?_
        refine Keeps.step (State.putItem_keeps ..) rfl ?_
        exact Keeps.refl _
      ·
        rename_i y12
        refine KeepsOut.next ?_
        refine Keeps.step (State.reportItem_keeps ..) rfl ?_
        exact Keeps.refl _

end Sys2Proof.Machine
end

