-- ==== Sys2Proof/Laws/KeepsSched.lean ====
section
/-! SUPPORT. What each operation and each command of Machine/Sched.lean touches, one lemma each: the bits of its mask are the
parts of the state that it may change; the queue and the canonical form of the memories it keeps. -/
namespace Sys2Proof.Machine

theorem State.setSch_keeps : ∀ s x, Keeps 64 s (State.setSch s x) := by
  intro s x
  unfold State.setSch
  refine Keeps.set_sch rfl ?_
  exact Keeps.refl _

theorem State.showSem_keeps : ∀ s n, Keeps 1 s (State.showSem s n) := by
  intro s n
  unfold State.showSem
  refine Keeps.step (State.setFld_keeps ..) rfl ?_
  exact Keeps.refl _

theorem State.semGrantTo_keeps : ∀ s n w, Keeps 33 s (State.semGrantTo s n w) := by
  intro s n w
  unfold State.semGrantTo
  lift_lets -underBinder
  extract_lets -descend x0 x1 x2 x3 x4 x5
  clear_value x0
  clear_value x1
  have hx2 : Keeps 33 s x2 := by
    unfold x2
    refine Keeps.step (State.setFld_keeps ..) rfl ?_
    exact Keeps.refl _
  clear_value x2
  have hx3 : Keeps 33 s x3 := by
    unfold x3
    refine Keeps.step (State.setFld_keeps ..) rfl ?_
    refine Keeps.step (State.setFld_keeps ..) rfl ?_
    exact hx2
  clear_value x3
  have hx4 : Keeps 33 s x4 := by
    unfold x4
    refine Keeps.step (State.setFld_keeps ..) rfl ?_
    refine Keeps.step (State.setFld_keeps ..) rfl ?_
    exact hx3
  clear_value x4
  have hx5 : Keeps 33 s x5 := by
    unfold x5
    refine Keeps.ite ?_ ?_
    ·
      refine Keeps.step (State.inc_keeps ..) rfl ?_
      exact hx4
    ·
      exact hx4
  clear_value x5
  split
  ·
    rename_i y6 y7 y8
    refine Keeps.step (State.setCore_keeps ..) rfl ?_
    refine Keeps.step (State.setFld_keeps ..) rfl ?_
    exact hx5
  ·
    rename_i y9 y10
    exact hx5

theorem State.semServe_keeps : ∀ s n a2, Keeps 97 s (State.semServe s n a2) := by
  intro s n a2
  induction a2 generalizing s n with
  | zero =>
    unfold State.semServe
    refine Keeps.step (State.showSem_keeps ..) rfl ?_
    exact Keeps.refl _
  | succ n0 ih =>
    unfold State.semServe
    split
    ·
      rename_i y0 y1
      refine Keeps.step (State.showSem_keeps ..) rfl ?_
      exact Keeps.refl _
    ·
      rename_i y2 y3 y4 y5
      refine Keeps.ite ?_ ?_
      ·
        refine Keeps.step (State.showSem_keeps ..) rfl ?_
        exact Keeps.refl _
      ·
        refine Keeps.step (ih ..) rfl ?_
        refine Keeps.step (State.semGrantTo_keeps ..) rfl ?_
        refine Keeps.step (State.setSch_keeps ..) rfl ?_
        exact Keeps.refl _

theorem State.semServeAll_keeps : ∀ s n, Keeps 97 s (State.semServeAll s n) := by
  intro s n
  unfold State.semServeAll
  refine Keeps.step (State.semServe_keeps ..) rfl ?_
  exact Keeps.refl _

theorem State.semApply_keeps : ∀ s n op, Keeps 8388705 s (State.semApply s n op) := by
  intro s n op
  unfold State.semApply
  refine Keeps.ite ?_ ?_
  ·
    exact Keeps.refl _
  ·
    refine Keeps.ite ?_ ?_
    ·
      lift_lets -underBinder
      extract_lets -descend x0 x1 x2
      clear_value x0
      clear_value x1
      clear_value x2
      refine Keeps.ite ?_ ?_
      ·
        refine Keeps.step (State.semGrantTo_keeps ..) rfl ?_
        exact Keeps.refl _
      ·
        refine Keeps.step (State.showSem_keeps ..) rfl ?_
        refine Keeps.step (State.setSch_keeps ..) rfl ?_
        exact Keeps.refl _
    ·
      refine Keeps.ite ?_ ?_
      ·
        refine Keeps.step (State.log_keeps ..) rfl ?_
        exact Keeps.refl _
      ·
        refine Keeps.step (State.semServeAll_keeps ..) rfl ?_
        refine Keeps.step (State.setFld_keeps ..) rfl ?_
        refine Keeps.step (State.setFld_keeps ..) rfl ?_
        exact Keeps.refl _

theorem State.writeSem_keeps : ∀ s n v, Keeps 97 s (State.writeSem s n v) := by
  intro s n v
  unfold State.writeSem
  refine Keeps.step (State.semServeAll_keeps ..) rfl ?_
  refine Keeps.step (State.setFld_keeps ..) rfl ?_
  exact Keeps.refl _

theorem State.bobServe_keeps : ∀ s n, Keeps 96 s (State.bobServe s n) := by
  intro s n
  unfold State.bobServe
  lift_lets -underBinder
  extract_lets -descend x0 x1 x2 x3
  clear_value x1
  clear_value x2
  have hx3 : Keeps 96 s x3 := by
    unfold x3
    refine Keeps.step (State.setSch_keeps ..) rfl ?_
    exact Keeps.refl _
  clear_value x3
  refine Keeps.fold ?_ ?_
  ·
    exact hx3
  ·
    intro z4 q5 h6
    split
    ·
      rename_i y7 y8 y9 y10
      refine Keeps.step (State.setCore_keeps ..) rfl ?_
      exact h6
    ·
      rename_i y11 y12 y13 y14 y15
      exact h6

theorem State.showBob_keeps : ∀ s n, Keeps 1 s (State.showBob s n) := by
  intro s n
  unfold State.showBob
  refine Keeps.step (State.setFld_keeps ..) rfl ?_
  exact Keeps.refl _

theorem State.bobAdd_keeps : ∀ s n addend by', Keeps 97 s (State.bobAdd s n addend by').2 := by
  intro s n addend by'
  unfold State.bobAdd
  lift_lets -underBinder
  extract_lets -descend x0 x1 x2 x3 x4 x5 x6 x7
  clear_value x0
  clear_value x1
  clear_value x2
  clear_value x3
  have hx4 : Keeps 97 s x4 := by
    unfold x4
    refine Keeps.ite ?_ ?_
    ·
      refine Keeps.step (State.setFld_keeps ..) rfl ?_
      exact Keeps.refl _
    ·
      exact Keeps.refl _
  clear_value x4
  have hx5 : Keeps 97 s x5 := by
    unfold x5
    refine Keeps.step (State.showBob_keeps ..) rfl ?_
    refine Keeps.step (State.setFld_keeps ..) rfl ?_
    exact hx4
  clear_value x5
  clear_value x6
  have hx7 : Keeps 97 s x7 := by
    unfold x7
    refine Keeps.step (State.setSch_keeps ..) rfl ?_
    exact hx5
  clear_value x7
  dsimp -zeta only
  refine Keeps.step (State.bobServe_keeps ..) rfl ?_
  exact hx7

theorem State.writeBob_keeps : ∀ s n v, Keeps 97 s (State.writeBob s n v) := by
  intro s n v
  unfold State.writeBob
  refine Keeps.step (State.bobServe_keeps ..) rfl ?_
  refine Keeps.step (State.showBob_keeps ..) rfl ?_
  refine Keeps.step (State.setFld_keeps ..) rfl ?_
  exact Keeps.refl _

theorem State.showPool_keeps : ∀ s p, Keeps 1 s (State.showPool s p) := by
  intro s p
  unfold State.showPool
  lift_lets -underBinder
  extract_lets -descend x0
  have hx0 : Keeps 1 s x0 := by
    unfold x0
    refine Keeps.step (State.setFld_keeps ..) rfl ?_
    exact Keeps.refl _
  clear_value x0
  refine Keeps.step (State.setFld_keeps ..) rfl ?_
  exact hx0

theorem State.poolFill_keeps : ∀ s p, Keeps 65 s (State.poolFill s p) := by
  intro s p
  unfold State.poolFill
  refine Keeps.step (State.showPool_keeps ..) rfl ?_
  refine Keeps.step (State.setSch_keeps ..) rfl ?_
  exact Keeps.refl _

theorem State.frameSlot_keeps : ∀ s x seq slot st, Keeps 1048576 s (State.frameSlot s x seq slot st) := by
  intro s x seq slot st
  unfold State.frameSlot
  lift_lets -underBinder
  extract_lets -descend x0 x1 x2
  clear_value x0
  clear_value x1
  clear_value x2
  refine Keeps.set_media rfl ?_
  exact Keeps.refl _

theorem State.poolGrant_keeps : ∀ s p, Keeps 1048641 s (State.poolGrant s p) := by
  intro s p
  unfold State.poolGrant
  split
  ·
    rename_i y0 y1 y2 y3 y4 y5 y6 y7
    lift_lets -underBinder
    extract_lets -descend x8 x9
    clear_value x8
    have hx9 : Keeps 1048641 s x9 := by
      unfold x9
      refine Keeps.step (State.showPool_keeps ..) rfl ?_
      refine Keeps.step (State.setSch_keeps ..) rfl ?_
      exact Keeps.refl _
    clear_value x9
    split
    ·
      rename_i y10 y11 y12 y13
      refine Keeps.step (State.frameSlot_keeps ..) rfl ?_
      exact hx9
    ·
      rename_i y14 y15
      exact hx9
  ·
    rename_i y16 y17 y18
    exact Keeps.refl _

theorem State.takeSlot_keeps : ∀ s p, Keeps 1048641 s (State.takeSlot s p).2 := by
  intro s p
  unfold State.takeSlot
  lift_lets -underBinder
  extract_lets -descend x0
  have hx0 : Keeps 1048641 s x0 := by
    unfold x0
    refine Keeps.fold ?_ ?_
    ·
      exact Keeps.refl _
    ·
      intro z1 q2 h3
      refine Keeps.step (State.poolGrant_keeps ..) rfl ?_
      exact h3
  clear_value x0
  split
  ·
    rename_i y4 y5 y6 y7 y8 y9
    dsimp -zeta only
    refine Keeps.step (State.showPool_keeps ..) rfl ?_
    refine Keeps.step (State.setSch_keeps ..) rfl ?_
    exact hx0
  ·
    rename_i y10 y11 y12
    dsimp -zeta only
    refine Keeps.step (State.inc_keeps ..) rfl ?_
    exact hx0

theorem State.returnSlot_keeps : ∀ s p slot who inst, Keeps 8388673 s (State.returnSlot s p slot who inst) := by
  intro s p slot who inst
  unfold State.returnSlot
  refine Keeps.ite ?_ ?_
  ·
    refine Keeps.step (State.showPool_keeps ..) rfl ?_
    refine Keeps.step (State.setSch_keeps ..) rfl ?_
    exact Keeps.refl _
  ·
    refine Keeps.step (State.log_keeps ..) rfl ?_
    refine Keeps.step (State.inc_keeps ..) rfl ?_
    exact Keeps.refl _

theorem State.writePoolCfg_keeps : ∀ s p v, Keeps 65 s (State.writePoolCfg s p v) := by
  intro s p v
  unfold State.writePoolCfg
  lift_lets -underBinder
  extract_lets -descend x0 x1 x2 x3
  clear_value x0
  clear_value x1
  have hx2 : Keeps 65 s x2 := by
    unfold x2
    refine Keeps.ite ?_ ?_
    ·
      exact Keeps.refl _
    ·
      refine Keeps.step (State.setFld_keeps ..) rfl ?_
      refine Keeps.step (State.setFld_keeps ..) rfl ?_
      exact Keeps.refl _
  clear_value x2
  have hx3 : Keeps 65 s x3 := by
    unfold x3
    refine Keeps.step (State.setFld_keeps ..) rfl ?_
    exact hx2
  clear_value x3
  refine Keeps.ite ?_ ?_
  ·
    refine Keeps.step (State.poolFill_keeps ..) rfl ?_
    exact hx3
  ·
    exact hx3

theorem State.timedOut_keeps : ∀ s who inst pc holder, Keeps 8388609 s (State.timedOut s who inst pc holder) := by
  intro s who inst pc holder
  unfold State.timedOut
  refine Keeps.step (State.log_keeps ..) rfl ?_
  refine Keeps.step (State.inc_keeps ..) rfl ?_
  exact Keeps.refl _

theorem State.showCore_keeps : ∀ s c, Keeps 1 s (State.showCore s c) := by
  intro s c
  unfold State.showCore
  lift_lets -underBinder
  extract_lets -descend x0 x1
  clear_value x0
  have hx1 : Keeps 1 s x1 := by
    unfold x1
    refine Keeps.step (State.setFld_keeps ..) rfl ?_
    exact Keeps.refl _
  clear_value x1
  refine Keeps.step (State.setFld_keeps ..) rfl ?_
  exact hx1

theorem State.setRunq_keeps : ∀ s c q, Keeps 33 s (State.setRunq s c q) := by
  intro s c q
  unfold State.setRunq
  refine Keeps.step (State.showCore_keeps ..) rfl ?_
  refine Keeps.step (State.setCore_keeps ..) rfl ?_
  exact Keeps.refl _

theorem State.placeEntry_keeps : ∀ s i w, KeepsOpt 2097185 s (fun z : State => z) (State.placeEntry s i w) := by
  intro s i w
  unfold State.placeEntry
  lift_lets -underBinder
  extract_lets -descend x0 x1 x2 x3 x4
  clear_value x0
  clear_value x1
  clear_value x2
  have hx3 : Keeps 2097185 s x3 := by
    unfold x3
    refine Keeps.fold ?_ ?_
    ·
      exact Keeps.refl _
    ·
      intro z5 q6 h7
      refine Keeps.step (State.setRunq_keeps ..) rfl ?_
      exact h7
  clear_value x3
  clear_value x4
  split
  ·
    rename_i y8
    exact KeepsOpt.none
  ·
    rename_i y9
    refine KeepsOpt.some ?_
    refine Keeps.set_host rfl ?_
    exact hx3

theorem State.finishCopy_keeps : ∀ s c p st, Keeps 2097305 s (State.finishCopy s c p st) := by
  intro s c p st
  unfold State.finishCopy
  split
  ·
    rename_i y0 y1
    exact Keeps.refl _
  ·
    rename_i y2 y3 y4
    lift_lets -underBinder
    extract_lets -descend x5 x6 x7 x8
    clear_value x5
    clear_value x7
    have hx8 : Keeps 2097305 s x8 := by
      unfold x8
      refine Keeps.set_host rfl ?_
      exact Keeps.refl _
    clear_value x8
    refine Keeps.ite ?_ ?_
    ·
      refine Keeps.step (State.completeWork_keeps ..) rfl ?_
      exact hx8
    ·
      exact hx8

theorem State.retireCore_keeps : ∀ s c, Keeps 10485945 s (State.retireCore s c) := by
  intro s c
  unfold State.retireCore
  lift_lets -underBinder
  extract_lets -descend x0 x1 x2 x3 x4 x5 x6 x7 x8 x9
  have hx0 : Keeps 10485945 s x0 := by
    unfold x0
    refine Keeps.step (State.setFld_keeps ..) rfl ?_
    exact Keeps.refl _
  clear_value x0
  have hx1 : Keeps 10485945 s x1 := by
    unfold x1
    refine Keeps.step (State.setRegBit_keeps ..) rfl ?_
    exact hx0
  clear_value x1
  have hx2 : Keeps 10485945 s x2 := by
    unfold x2
    refine Keeps.step (State.setRegBit_keeps ..) rfl ?_
    exact hx1
  clear_value x2
  have hx3 : Keeps 10485945 s x3 := by
    unfold x3
    refine Keeps.step (State.setFld_keeps ..) rfl ?_
    exact hx2
  clear_value x3
  clear_value x4
  clear_value x5
  have hx6 : Keeps 10485945 s x6 := by
    unfold x6
    refine Keeps.many (t := x3) ?_ (.inr rfl) (.inr rfl) (.inr rfl) (.inl rfl) (.inr rfl) (.inr rfl) (.inr rfl) (.inl rfl) (.inr rfl) (.inr rfl) (.inr rfl) (.inr rfl) (.inr rfl) (.inr rfl) (.inr rfl) (.inr rfl) (.inr rfl) (.inr rfl) (.inr rfl) (.inr rfl) (.inr rfl) (.inr rfl) (.inr rfl) (.inr rfl) (.inr rfl) rfl ?_ id
    ·
      exact hx3
    ·
      exact fun h => Tbl.wf_filter _ _ _ h
  clear_value x6
  clear_value x7
  have hx8 : Keeps 10485945 s x8 := by
    unfold x8
    refine Keeps.step (State.setRunq_keeps ..) rfl ?_
    exact hx6
  clear_value x8
  have hx9 : Keeps 10485945 s x9 := by
    unfold x9
    refine Keeps.fold ?_ ?_
    ·
      exact hx8
    ·
      intro z10 q11 h12
      refine Keeps.step (State.finishCopy_keeps ..) rfl ?_
      exact h12
  clear_value x9
  refine Keeps.step (State.log_keeps ..) rfl ?_
  exact hx9

theorem State.retireSuspects_keeps : ∀ s i, Keeps 10485945 s (State.retireSuspects s i) := by
  intro s i
  unfold State.retireSuspects
  refine Keeps.fold ?_ ?_
  ·
    exact Keeps.refl _
  ·
    intro z0 q1 h2
    refine Keeps.step (State.retireCore_keeps ..) rfl ?_
    exact h2

theorem State.queueList_keeps : ∀ s c p base count, Keeps 10485921 s (State.queueList s c p base count).2 := by
  intro s c p base count
  unfold State.queueList
  split
  ·
    rename_i y0 y1
    lift_lets -underBinder
    extract_lets -descend x2 x3 x4
    clear_value x2
    clear_value x3
    have hx4 : Keeps 10485921 s x4 := by
      unfold x4
      refine Keeps.set_host rfl ?_
      exact Keeps.refl _
    clear_value x4
    dsimp -zeta only
    refine Keeps.step (State.setDmaList_keeps ..) rfl ?_
    exact hx4
  ·
    rename_i y5 y6
    dsimp -zeta only
    refine Keeps.step (State.readFailed_keeps ..) rfl ?_
    exact Keeps.refl _

theorem State.putHead_keeps : ∀ s c p, Keeps 33 s (State.putHead s c p) := by
  intro s c p
  unfold State.putHead
  split
  ·
    rename_i y0 y1
    exact Keeps.refl _
  ·
    rename_i y2 y3 y4 y5
    refine Keeps.step (State.setRunq_keeps ..) rfl ?_
    exact Keeps.refl _

theorem execSemaphoreOperation_keeps : ∀ n k s, KeepsOut 8388705 s (execSemaphoreOperation n k s) := by
  intro n k s
  unfold execSemaphoreOperation
  lift_lets -underBinder
  extract_lets -descend x0
  clear_value x0
  split
  ·
    rename_i y1 y2
    refine KeepsOut.next ?_
    exact Keeps.refl _
  ·
    rename_i y3 y4 y5
    refine KeepsOut.next ?_
    refine Keeps.step (State.semApply_keeps ..) rfl ?_
    refine Keeps.step (State.setSch_keeps ..) rfl ?_
    exact Keeps.refl _

theorem execSemaphoreWrite_keeps : ∀ req n v s, KeepsOut 8388705 s (execSemaphoreWrite req n v s) := by
  intro req n v s
  unfold execSemaphoreWrite
  refine KeepsOut.next ?_
  refine Keeps.ite ?_ ?_
  ·
    refine Keeps.step (State.writeSem_keeps ..) rfl ?_
    exact Keeps.refl _
  ·
    refine Keeps.step (State.regRefused_keeps ..) rfl ?_
    exact Keeps.refl _

theorem execBobbinCounterOp_keeps : ∀ n k s, KeepsOut 97 s (execBobbinCounterOp n k s) := by
  intro n k s
  unfold execBobbinCounterOp
  lift_lets -underBinder
  extract_lets -descend x0
  clear_value x0
  split
  ·
    rename_i y1 y2
    refine KeepsOut.next ?_
    exact Keeps.refl _
  ·
    rename_i y3 y4 y5
    lift_lets -underBinder
    extract_lets -descend x6 x7
    clear_value x6
    have hx7 : Keeps 97 s x7 := by
      unfold x7
      refine Keeps.step (State.setSch_keeps ..) rfl ?_
      exact Keeps.refl _
    clear_value x7
    split
    ·
      rename_i y8 y9 y10 y11 y12
      split
      ·
        rename_i y13 y14 y15 y16
        have e17 : Keeps 97 s (y15) := by
          refine Keeps.snd_eq y16 ?_
          refine Keeps.step (State.bobAdd_keeps ..) rfl ?_
          exact hx7
        refine KeepsOut.next ?_
        refine Keeps.step (State.setCore_keeps ..) rfl ?_
        exact e17
    ·
      rename_i y18 y19 y20 y21
      split
      ·
        rename_i y22
        refine KeepsOut.next ?_
        refine Keeps.step (State.setCore_keeps ..) rfl ?_
        exact hx7
      ·
        rename_i y23
        refine KeepsOut.next ?_
        refine Keeps.step (State.setSch_keeps ..) rfl ?_
        exact hx7

theorem execBobbinValueWrite_keeps : ∀ req n v s, KeepsOut 8388705 s (execBobbinValueWrite req n v s) := by
  intro req n v s
  unfold execBobbinValueWrite
  refine KeepsOut.next ?_
  refine Keeps.ite ?_ ?_
  ·
    refine Keeps.step (State.writeBob_keeps ..) rfl ?_
    exact Keeps.refl _
  ·
    refine Keeps.step (State.regRefused_keeps ..) rfl ?_
    exact Keeps.refl _

theorem execPoolTake_keeps : ∀ req p s, KeepsOut 11534401 s (execPoolTake req p s) := by
  intro req p s
  unfold execPoolTake
  split
  ·
    rename_i y0
    refine KeepsOut.next ?_
    refine Keeps.step (State.refusedRead_keeps ..) rfl ?_
    exact Keeps.refl _
  ·
    rename_i y1
    split
    ·
      rename_i y2 y3 y4 y5
      have e6 : Keeps 11534401 s (y4) := by
        refine Keeps.snd_eq y5 ?_
        refine Keeps.step (State.takeSlot_keeps ..) rfl ?_
        exact Keeps.refl _
      refine KeepsOut.next ?_
      refine Keeps.set_host rfl ?_
      exact e6

theorem execPoolReturn_keeps : ∀ req p slot s, KeepsOut 8388673 s (execPoolReturn req p slot s) := by
  intro req p slot s
  unfold execPoolReturn
  refine KeepsOut.next ?_
  refine Keeps.ite ?_ ?_
  ·
    refine Keeps.step (State.returnSlot_keeps ..) rfl ?_
    exact Keeps.refl _
  ·
    refine Keeps.step (State.regRefused_keeps ..) rfl ?_
    exact Keeps.refl _

theorem execSlotGrant_keeps : ∀ p s, KeepsOut 1048641 s (execSlotGrant p s) := by
  intro p s
  unfold execSlotGrant
  refine KeepsOut.next ?_
  refine Keeps.step (State.poolGrant_keeps ..) rfl ?_
  exact Keeps.refl _

theorem execWatchdogExpiry_keeps : ∀ w s, KeepsOut 9437281 s (execWatchdogExpiry w s) := by
  intro w s
  unfold execWatchdogExpiry
  split
  ·
    rename_i y0 y1 y2
    lift_lets -underBinder
    extract_lets -descend x3
    clear_value x3
    split
    ·
      rename_i y4 y5
      refine KeepsOut.next ?_
      exact Keeps.refl _
    ·
      rename_i y6 y7 y8
      lift_lets -underBinder
      extract_lets -descend x9 x10 x11 x12
      clear_value x9
      have hx10 : Keeps 9437281 s x10 := by
        unfold x10
        refine Keeps.step (State.showSem_keeps ..) rfl ?_
        refine Keeps.step (State.setSch_keeps ..) rfl ?_
        exact Keeps.refl _
      clear_value x10
      clear_value x11
      have hx12 : Keeps 9437281 s x12 := by
        unfold x12
        refine Keeps.step (State.timedOut_keeps ..) rfl ?_
        exact hx10
      clear_value x12
      split
      ·
        rename_i y13 y14 y15
        refine KeepsOut.next ?_
        refine Keeps.step (State.setCore_keeps ..) rfl ?_
        exact hx12
      ·
        rename_i y16 y17
        refine KeepsOut.next ?_
        exact hx12
  ·
    rename_i y18 y19 y20
    lift_lets -underBinder
    extract_lets -descend x21
    clear_value x21
    split
    ·
      rename_i y22 y23 y24 y25 y26
      lift_lets -underBinder
      extract_lets -descend x27 x28 x29 x30
      clear_value x27
      have hx28 : Keeps 9437281 s x28 := by
        unfold x28
        refine Keeps.step (State.setSch_keeps ..) rfl ?_
        exact Keeps.refl _
      clear_value x28
      have hx29 : Keeps 9437281 s x29 := by
        unfold x29
        refine Keeps.step (State.timedOut_keeps ..) rfl ?_
        exact hx28
      clear_value x29
      clear_value x30
      refine KeepsOut.next ?_
      refine Keeps.step (State.setCore_keeps ..) rfl ?_
      exact hx29
    ·
      rename_i y31 y32
      refine KeepsOut.next ?_
      exact Keeps.refl _
  ·
    rename_i y33 y34
    lift_lets -underBinder
    extract_lets -descend x35 x36
    clear_value x35
    have hx36 : Keeps 9437281 s x36 := by
      unfold x36
      refine Keeps.step (State.timedOut_keeps ..) rfl ?_
      exact Keeps.refl _
    clear_value x36
    split
    ·
      rename_i y37
      refine KeepsOut.next ?_
      exact Keeps.refl _
    ·
      rename_i y38
      refine KeepsOut.next ?_
      refine Keeps.step (State.setCore_keeps ..) rfl ?_
      exact hx36
  ·
    rename_i y39 y40 y41
    lift_lets -underBinder
    extract_lets -descend x42
    clear_value x42
    split
    ·
      rename_i y43 y44
      refine KeepsOut.next ?_
      exact Keeps.refl _
    ·
      rename_i y45 y46 y47
      lift_lets -underBinder
      extract_lets -descend x48 x49 x50
      clear_value x48
      have hx49 : Keeps 9437281 s x49 := by
        unfold x49
        refine Keeps.step (State.showPool_keeps ..) rfl ?_
        refine Keeps.step (State.setSch_keeps ..) rfl ?_
        exact Keeps.refl _
      clear_value x49
      have hx50 : Keeps 9437281 s x50 := by
        unfold x50
        refine Keeps.step (State.timedOut_keeps ..) rfl ?_
        exact hx49
      clear_value x50
      split
      ·
        rename_i y51 y52 y53 y54
        refine KeepsOut.next ?_
        refine Keeps.step (State.frameSlot_keeps ..) rfl ?_
        exact hx50
      ·
        rename_i y55 y56
        refine KeepsOut.next ?_
        exact hx50

theorem execDispatch_keeps : ∀ i s, KeepsOut 2097249 s (execDispatch i s) := by
  intro i s
  unfold execDispatch
  split
  ·
    rename_i y0
    refine KeepsOut.next ?_
    exact Keeps.refl _
  ·
    rename_i y1
    lift_lets -underBinder
    extract_lets -descend x2 x3
    clear_value x2
    split
    ·
      rename_i y4 y5 y6 y7
      have e8 : Keeps 2097249 s ((y5, y6)).2 := by
        refine KeepsOpt.eq (π := (fun z : _ × State => z.2)) y7 ?_
        refine KeepsOpt.findSome ?_
        intro q9
        unfold x3
        split
        ·
          rename_i y10 y11 y12
          refine KeepsOpt.map ?_
          refine KeepsOpt.step (State.placeEntry_keeps ..) rfl ?_
          exact Keeps.refl _
        ·
          rename_i y13 y14
          exact KeepsOpt.none
      refine KeepsOut.next ?_
      refine Keeps.step (State.setSch_keeps ..) rfl ?_
      exact e8
    ·
      rename_i y15 y16
      refine KeepsOut.next ?_
      exact Keeps.refl _

theorem execCopyRestore_keeps : ∀ c s, KeepsOut 10485921 s (execCopyRestore c s) := by
  intro c s
  unfold execCopyRestore
  split
  ·
    rename_i y0 y1
    refine KeepsOut.next ?_
    exact Keeps.refl _
  ·
    rename_i y2 y3 y4
    split
    ·
      rename_i y5 y6
      lift_lets -underBinder
      extract_lets -descend x7 x8 x9
      clear_value x7
      have hx8 : Keeps 10485921 s x8 := by
        unfold x8
        refine Keeps.step (State.add64_keeps ..) rfl ?_
        exact Keeps.refl _
      clear_value x8
      clear_value x9
      split
      ·
        rename_i y10
        refine KeepsOut.next ?_
        refine Keeps.step (State.putHead_keeps ..) rfl ?_
        refine Keeps.step (State.add64_keeps ..) rfl ?_
        exact hx8
      ·
        rename_i y11
        split
        ·
          rename_i y12 y13 y14 y15
          have e16 : Keeps 10485921 s (y14) := by
            refine Keeps.snd_eq y15 ?_
            refine Keeps.step (State.queueList_keeps ..) rfl ?_
            exact hx8
          refine KeepsOut.next ?_
          refine Keeps.step (State.putHead_keeps ..) rfl ?_
          exact e16
    ·
      rename_i y17 y18 y19
      split
      ·
        rename_i y20
        refine KeepsOut.next ?_
        exact Keeps.refl _
      ·
        rename_i y21
        refine KeepsOut.next ?_
        refine Keeps.step (State.putHead_keeps ..) rfl ?_
        exact Keeps.refl _
    ·
      rename_i y22 y23 y24
      refine KeepsOut.next ?_
      exact Keeps.refl _

theorem execProgramStart_keeps : ∀ c s, KeepsOut 33 s (execProgramStart c s) := by
  intro c s
  unfold execProgramStart
  split
  ·
    rename_i y0 y1
    refine KeepsOut.next ?_
    exact Keeps.refl _
  ·
    rename_i y2 y3 y4
    split
    ·
      rename_i y5
      refine KeepsOut.next ?_
      exact Keeps.refl _
    ·
      rename_i y6
      lift_lets -underBinder
      extract_lets -descend x7 x8 x9 x10 x11 x12 x13 x14 x15 x16 x17
      clear_value x7
      clear_value x8
      clear_value x9
      clear_value x10
      clear_value x11
      have hx12 : Keeps 33 s x12 := by
        unfold x12
        refine Keeps.step (State.setCore_keeps ..) rfl ?_
        exact Keeps.refl _
      clear_value x12
      have hx13 : Keeps 33 s x13 := by
        unfold x13
        refine Keeps.fold ?_ ?_
        ·
          exact hx12
        ·
          intro z18 q19 h20
          refine Keeps.step (State.setReg_keeps ..) rfl ?_
          exact h20
      clear_value x13
      have hx14 : Keeps 33 s x14 := by
        unfold x14
        refine Keeps.step (State.setReg_keeps ..) rfl ?_
        exact hx13
      clear_value x14
      have hx15 : Keeps 33 s x15 := by
        unfold x15
        refine Keeps.step (State.setReg_keeps ..) rfl ?_
        exact hx14
      clear_value x15
      have hx16 : Keeps 33 s x16 := by
        unfold x16
        refine Keeps.step (State.setFld_keeps ..) rfl ?_
        refine Keeps.step (State.setFld_keeps ..) rfl ?_
        exact hx15
      clear_value x16
      have hx17 : Keeps 33 s x17 := by
        unfold x17
        refine Keeps.step (State.setFld_keeps ..) rfl ?_
        exact hx16
      clear_value x17
      refine KeepsOut.next ?_
      refine Keeps.step (State.putHead_keeps ..) rfl ?_
      exact hx17

theorem execCopySave_keeps : ∀ c s, KeepsOut 10485921 s (execCopySave c s) := by
  intro c s
  unfold execCopySave
  split
  ·
    rename_i y0 y1 y2 y3 y4 y5
    split
    ·
      rename_i y6
      refine KeepsOut.next ?_
      exact Keeps.refl _
    ·
      rename_i y7
      lift_lets -underBinder
      extract_lets -descend x8 x9 x10 x11 x12
      clear_value x8
      have hx9 : Keeps 10485921 s x9 := by
        unfold x9
        refine Keeps.step (State.setCore_keeps ..) rfl ?_
        exact Keeps.refl _
      clear_value x9
      have hx10 : Keeps 10485921 s x10 := by
        unfold x10
        refine Keeps.step (State.setFld_keeps ..) rfl ?_
        exact hx9
      clear_value x10
      have hx11 : Keeps 10485921 s x11 := by
        unfold x11
        refine Keeps.ite ?_ ?_
        ·
          exact hx10
        ·
          refine Keeps.step (State.setFld_keeps ..) rfl ?_
          refine Keeps.step (State.setFld_keeps ..) rfl ?_
          exact hx10
      clear_value x11
      clear_value x12
      split
      ·
        rename_i y13 y14 y15 y16
        have e17 : Keeps 10485921 s (y15) := by
          refine Keeps.snd_eq y16 ?_
          refine Keeps.step (State.queueList_keeps ..) rfl ?_
          exact hx11
        refine KeepsOut.next ?_
        refine Keeps.step (State.putHead_keeps ..) rfl ?_
        exact e17
  ·
    rename_i y18 y19 y20
    refine KeepsOut.next ?_
    exact Keeps.refl _

theorem execCopyEnd_keeps : ∀ c s, KeepsOut 10485945 s (execCopyEnd c s) := by
  intro c s
  unfold execCopyEnd
  split
  ·
    rename_i y0 y1
    refine KeepsOut.next ?_
    exact Keeps.refl _
  ·
    rename_i y2 y3 y4
    lift_lets -underBinder
    extract_lets -descend x5 x6 x7 x8 x9 x10
    clear_value x5
    have hx6 : Keeps 10485945 s x6 := by
      unfold x6
      refine Keeps.step (State.setRunq_keeps ..) rfl ?_
      exact Keeps.refl _
    clear_value x6
    have hx7 : Keeps 10485945 s x7 := by
      unfold x7
      refine Keeps.step (State.setFld_keeps ..) rfl ?_
      exact hx6
    clear_value x7
    have hx8 : Keeps 10485945 s x8 := by
      unfold x8
      refine Keeps.step (State.setFld_keeps ..) rfl ?_
      exact hx7
    clear_value x8
    have hx9 : Keeps 10485945 s x9 := by
      unfold x9
      refine Keeps.step (State.finishCopy_keeps ..) rfl ?_
      exact hx8
    clear_value x9
    clear_value x10
    split
    ·
      rename_i y11
      refine KeepsOut.next ?_
      exact Keeps.refl _
    ·
      rename_i y12
      refine KeepsOut.next ?_
      refine Keeps.ite ?_ ?_
      ·
        refine Keeps.step (State.retireCore_keeps ..) rfl ?_
        exact hx9
      ·
        exact hx9

end Sys2Proof.Machine
end

