-- ==== Sys2Proof/Laws/KeepsArray.lean ====
section
/-! SUPPORT. What each operation and each command of Machine/Array.lean touches, one lemma each: the bits of its mask are the
parts of the state that it may change; the queue and the canonical form of the memories it keeps. -/
namespace Sys2Proof.Machine

theorem State.recordMx_keeps : ∀ s c it st, Keeps 96 s (State.recordMx s c it st) := by
  intro s c it st
  unfold State.recordMx
  lift_lets -underBinder
  extract_lets -descend x0 x1
  clear_value x0
  have hx1 : Keeps 96 s x1 := by
    unfold x1
    refine Keeps.ite ?_ ?_
    ·
      refine Keeps.step (State.setCore_keeps ..) rfl ?_
      exact Keeps.refl _
    ·
      exact Keeps.refl _
  clear_value x1
  split
  ·
    rename_i y2 y3 y4
    refine Keeps.ite ?_ ?_
    ·
      exact hx1
    ·
      split
      ·
        rename_i y5 y6 y7
        refine Keeps.step (State.doneSem_keeps ..) rfl ?_
        exact hx1
      ·
        rename_i y8 y9
        exact hx1
  ·
    rename_i y10 y11
    exact hx1

theorem State.setArr_keeps : ∀ s c a, Keeps 32 s (State.setArr s c a) := by
  intro s c a
  unfold State.setArr
  refine Keeps.step (State.setCore_keeps ..) rfl ?_
  exact Keeps.refl _

theorem State.setJob_keeps : ∀ s c j, Keeps 32 s (State.setJob s c j) := by
  intro s c j
  unfold State.setJob
  refine Keeps.step (State.setArr_keeps ..) rfl ?_
  exact Keeps.refl _

theorem State.companion_keeps : ∀ s c p, Keeps 97 s (State.companion s c p) := by
  intro s c p
  unfold State.companion
  refine Keeps.ite ?_ ?_
  ·
    exact Keeps.refl _
  ·
    refine Keeps.step (State.bobAdd_keeps ..) rfl ?_
    exact Keeps.refl _

theorem State.endJob_keeps : ∀ s c j st, Keeps 233 s (State.endJob s c j st) := by
  intro s c j st
  unfold State.endJob
  lift_lets -underBinder
  extract_lets -descend x0 x1 x2 x3 x4 x5 x6 x7 x8 x9 x10
  clear_value x0
  have hx1 : Keeps 233 s x1 := by
    unfold x1
    refine Keeps.ite ?_ ?_
    ·
      refine Keeps.step (State.companion_keeps ..) rfl ?_
      exact Keeps.refl _
    ·
      exact Keeps.refl _
  clear_value x1
  have hx2 : Keeps 233 s x2 := by
    unfold x2
    refine Keeps.ite ?_ ?_
    ·
      refine Keeps.step (State.companion_keeps ..) rfl ?_
      exact hx1
    ·
      exact hx1
  clear_value x2
  have hx3 : Keeps 233 s x3 := by
    unfold x3
    refine Keeps.step (State.addSat_keeps ..) rfl ?_
    exact hx2
  clear_value x3
  have hx5 : Keeps 233 s x5 := by
    unfold x5
    refine Keeps.ite ?_ ?_
    ·
      refine Keeps.ite ?_ ?_
      ·
        refine Keeps.step (State.reduceAt_keeps ..) rfl ?_
        exact hx3
      ·
        exact hx3
    ·
      exact hx2
  clear_value x5
  clear_value x6
  have hx7 : Keeps 233 s x7 := by
    unfold x7
    refine Keeps.step (State.setArr_keeps ..) rfl ?_
    exact hx5
  clear_value x7
  have hx8 : Keeps 233 s x8 := by
    unfold x8
    refine Keeps.step (State.setFld_keeps ..) rfl ?_
    refine Keeps.step (State.setFld_keeps ..) rfl ?_
    exact hx7
  clear_value x8
  have hx9 : Keeps 233 s x9 := by
    unfold x9
    refine Keeps.ite ?_ ?_
    ·
      exact hx8
    ·
      refine Keeps.step (State.setReg_keeps ..) rfl ?_
      exact hx8
  clear_value x9
  have hx10 : Keeps 233 s x10 := by
    unfold x10
    refine Keeps.step (State.recordMx_keeps ..) rfl ?_
    exact hx9
  clear_value x10
  refine Keeps.fold ?_ ?_
  ·
    exact hx10
  ·
    intro z11 q12 h13
    refine Keeps.step (State.recordMx_keeps ..) rfl ?_
    exact h13

theorem State.failJob_keeps : ∀ s c j st a, Keeps 8388841 s (State.failJob s c j st a) := by
  intro s c j st a
  unfold State.failJob
  refine Keeps.step (State.endJob_keeps ..) rfl ?_
  refine Keeps.step (State.engFail_keeps ..) rfl ?_
  exact Keeps.refl _

theorem State.putC_keeps : ∀ s c j p ptile l, Keeps 137 s (State.putC s c j p ptile l).2.2.2 := by
  intro s c j p ptile l
  unfold State.putC
  split
  ·
    rename_i y0
    lift_lets -underBinder
    extract_lets -descend x1 x2 x3
    clear_value x1
    clear_value x2
    clear_value x3
    dsimp -zeta only
    exact Keeps.refl _
  ·
    rename_i y4
    split
    ·
      rename_i y5 y6 y7
      dsimp -zeta only
      refine Keeps.fold ?_ ?_
      ·
        exact Keeps.refl _
      ·
        intro z8 q9 h10
        refine Keeps.step (State.putBytes_keeps ..) rfl ?_
        exact h10
    ·
      rename_i y11 y12 y13 y14 y15
      dsimp -zeta only
      exact Keeps.refl _

theorem State.writeRow_keeps : ∀ s c j p x dst sum final, Keeps 137 s (State.writeRow s c j p x dst sum final).2.2.2 := by
  intro s c j p x dst sum final
  unfold State.writeRow
  lift_lets -underBinder
  extract_lets -descend x0 x1
  clear_value x0
  clear_value x1
  split
  ·
    rename_i y2 y3 y4 y5
    split
    ·
      rename_i y6
      dsimp -zeta only
      exact Keeps.refl _
    ·
      rename_i y7
      split
      ·
        rename_i y8 y9 y10 y11
        lift_lets -underBinder
        extract_lets -descend x12 x13 x14 x15
        clear_value x12
        have hx13 : Keeps 137 s x13 := by
          unfold x13
          refine Keeps.ite ?_ ?_
          ·
            refine Keeps.step (State.fpEvent_keeps ..) rfl ?_
            exact Keeps.refl _
          ·
            exact Keeps.refl _
        clear_value x13
        have hx14 : Keeps 137 s x14 := by
          unfold x14
          refine Keeps.ite ?_ ?_
          ·
            refine Keeps.step (State.fpEvent_keeps ..) rfl ?_
            exact hx13
          ·
            exact hx13
        clear_value x14
        have hx15 : Keeps 137 s x15 := by
          unfold x15
          refine Keeps.step (State.fpEvent_keeps ..) rfl ?_
          exact hx14
        clear_value x15
        refine Keeps.step (State.putC_keeps ..) rfl ?_
        exact hx15

theorem State.accumulate_keeps : ∀ s c j p x dst res, Keeps 169 s (State.accumulate s c j p x dst res).2.2.2 := by
  intro s c j p x dst res
  unfold State.accumulate
  lift_lets -underBinder
  extract_lets -descend x0 x1
  clear_value x0
  clear_value x1
  split
  ·
    rename_i y2 y3 y4 y5
    split
    ·
      rename_i y6
      dsimp -zeta only
      exact Keeps.refl _
    ·
      rename_i y7
      lift_lets -underBinder
      extract_lets -descend x8
      split
      ·
        rename_i y9 y10 y11 y12
        lift_lets -underBinder
        extract_lets -descend x13 x14 x15
        have hx13 : Keeps 169 s x13 := by
          unfold x13
          refine Keeps.ite ?_ ?_
          ·
            refine Keeps.step (State.fpEvent_keeps ..) rfl ?_
            exact Keeps.refl _
          ·
            exact Keeps.refl _
        clear_value x13
        have hx14 : Keeps 169 s x14 := by
          unfold x14
          refine Keeps.step (State.setArr_keeps ..) rfl ?_
          exact hx13
        clear_value x14
        clear_value x15
        split
        ·
          rename_i y16
          dsimp -zeta only
          refine Keeps.step (State.setArr_keeps ..) rfl ?_
          exact hx14
        ·
          rename_i y17
          refine Keeps.step (State.writeRow_keeps ..) rfl ?_
          exact hx14

theorem State.drawUnit_keeps : ∀ s c p, Keeps 97 s (State.drawUnit s c p).2 := by
  intro s c p
  unfold State.drawUnit
  refine Keeps.step (State.bobAdd_keeps ..) rfl ?_
  exact Keeps.refl _

theorem State.finishUnit_keeps : ∀ s c j, Keeps 233 s (State.finishUnit s c j).2.2 := by
  intro s c j
  unfold State.finishUnit
  lift_lets -underBinder
  extract_lets -descend x0 x1 x2 x3 x4 x5
  clear_value x0
  clear_value x2
  clear_value x3
  have hx4 : Keeps 233 s x4.2.2 := by
    unfold x4
    refine Keeps.foldl (fun z : _ × _ × State => z.2.2) ?_ ?_
    ·
      dsimp -zeta only
      exact Keeps.refl _
    ·
      rintro ⟨z9, z10, z11⟩ q7 h8
      dsimp -zeta only at h8 ⊢
      split
      ·
        rename_i y12
        exact h8
      ·
        rename_i y13
        lift_lets -underBinder
        extract_lets -descend x14
        clear_value x14
        dsimp -zeta only
        refine Keeps.step (State.putC_keeps ..) rfl ?_
        exact h8
  clear_value x4
  have hx5 : Keeps 233 s x5.2.2 := by
    unfold x5
    refine Keeps.foldl (fun z : _ × _ × State => z.2.2) ?_ ?_
    ·
      exact hx4
    ·
      rintro ⟨z18, z19, z20⟩ q16 h17
      dsimp -zeta only at h17 ⊢
      split
      ·
        rename_i y21
        exact h17
      ·
        rename_i y22
        dsimp -zeta only
        refine Keeps.step (State.writeRow_keeps ..) rfl ?_
        exact h17
  clear_value x5
  dsimp -zeta only
  refine Keeps.ite ?_ ?_
  ·
    refine Keeps.step (State.companion_keeps ..) rfl ?_
    exact hx5
  ·
    exact hx5

theorem State.runUnits_keeps : ∀ a0 a1 a2 a3 a4, Keeps 8388841 a1 (State.runUnits a0 a1 a2 a3 a4) := by
  intro a0 a1 a2 a3 a4
  induction a0 generalizing a1 a2 a3 a4 with
  | zero =>
    unfold State.runUnits
    refine Keeps.step (State.endJob_keeps ..) rfl ?_
    exact Keeps.refl _
  | succ n0 ih =>
    unfold State.runUnits
    lift_lets -underBinder
    extract_lets -descend x0 x1
    clear_value x0
    clear_value x1
    refine Keeps.ite ?_ ?_
    ·
      refine Keeps.step (State.endJob_keeps ..) rfl ?_
      exact Keeps.refl _
    ·
      refine Keeps.ite ?_ ?_
      ·
        refine Keeps.step (State.endJob_keeps ..) rfl ?_
        exact Keeps.refl _
      ·
        refine Keeps.ite ?_ ?_
        ·
          refine Keeps.step (State.setJob_keeps ..) rfl ?_
          exact Keeps.refl _
        ·
          split
          ·
            rename_i y2 y3 y4 y5
            have e6 : Keeps 8388841 a1 (y4) := by
              refine Keeps.trd_eq y5 ?_
              refine Keeps.step (State.finishUnit_keeps ..) rfl ?_
              exact Keeps.refl _
            split
            ·
              rename_i y7 y8 y9 y10
              have e11 : Keeps 8388841 a1 (y9) := by
                refine Keeps.snd_eq y10 ?_
                split
                ·
                  rename_i y12
                  exact e6
                ·
                  rename_i y13
                  refine Keeps.step (State.drawUnit_keeps ..) rfl ?_
                  exact e6
              refine Keeps.step (ih ..) rfl ?_
              exact e11
          ·
            rename_i y14 y15 y16 y17 y18 y19
            have e20 : Keeps 8388841 a1 (y17) := by
              refine Keeps.trd_eq y19 ?_
              refine Keeps.step (State.finishUnit_keeps ..) rfl ?_
              exact Keeps.refl _
            refine Keeps.step (State.endJob_keeps ..) rfl ?_
            refine Keeps.step (State.engFail_keeps ..) rfl ?_
            exact e20

theorem State.closeUnit_keeps : ∀ s c j, Keeps 8388841 s (State.closeUnit s c j) := by
  intro s c j
  unfold State.closeUnit
  lift_lets -underBinder
  extract_lets -descend x0
  clear_value x0
  split
  ·
    rename_i y1 y2 y3 y4
    have e5 : Keeps 8388841 s (y3) := by
      refine Keeps.trd_eq y4 ?_
      refine Keeps.step (State.finishUnit_keeps ..) rfl ?_
      exact Keeps.refl _
    split
    ·
      rename_i y6 y7 y8 y9
      have e10 : Keeps 8388841 s (y8) := by
        refine Keeps.snd_eq y9 ?_
        split
        ·
          rename_i y11
          exact e5
        ·
          rename_i y12
          split
          ·
            rename_i y13 y14 y15
            exact e5
          ·
            rename_i y16 y17
            refine Keeps.step (State.drawUnit_keeps ..) rfl ?_
            exact e5
      refine Keeps.step (State.runUnits_keeps ..) rfl ?_
      exact e10
  ·
    rename_i y18 y19 y20 y21 y22 y23
    have e24 : Keeps 8388841 s (y21) := by
      refine Keeps.trd_eq y23 ?_
      refine Keeps.step (State.finishUnit_keeps ..) rfl ?_
      exact Keeps.refl _
    refine Keeps.step (State.failJob_keeps ..) rfl ?_
    exact e24

theorem State.startJob_keeps : ∀ s c it, Keeps 8388841 s (State.startJob s c it) := by
  intro s c it
  unfold State.startJob
  lift_lets -underBinder
  extract_lets -descend x0 x1 x2 x3 x4 x5
  clear_value x0
  clear_value x1
  have hx2 : Keeps 8388841 s x2 := by
    unfold x2
    refine Keeps.step (State.setFld_keeps ..) rfl ?_
    exact Keeps.refl _
  clear_value x2
  clear_value x3
  have hx4 : Keeps 8388841 s x4 := by
    unfold x4
    refine Keeps.step (State.setArr_keeps ..) rfl ?_
    exact hx2
  clear_value x4
  have hx5 : Keeps 8388841 s x5 := by
    unfold x5
    refine Keeps.ite ?_ ?_
    ·
      refine Keeps.step (State.add64_keeps ..) rfl ?_
      exact hx4
    ·
      exact hx4
  clear_value x5
  split
  ·
    rename_i y6 y7 y8 y9
    have e10 : Keeps 8388841 s (y8) := by
      refine Keeps.snd_eq y9 ?_
      split
      ·
        rename_i y11
        exact hx5
      ·
        rename_i y12
        refine Keeps.step (State.drawUnit_keeps ..) rfl ?_
        exact hx5
    refine Keeps.step (State.runUnits_keeps ..) rfl ?_
    exact e10

theorem State.popMx_keeps : ∀ s c, Keeps 32 s (State.popMx s c) := by
  intro s c
  unfold State.popMx
  refine Keeps.step (State.setCore_keeps ..) rfl ?_
  exact Keeps.refl _

theorem State.startProduct_keeps : ∀ s c it, Keeps 8388841 s (State.startProduct s c it) := by
  intro s c it
  unfold State.startProduct
  lift_lets -underBinder
  extract_lets -descend x0
  have hx0 : Keeps 8388841 s x0 := by
    unfold x0
    refine Keeps.step (State.popMx_keeps ..) rfl ?_
    exact Keeps.refl _
  clear_value x0
  refine Keeps.ite ?_ ?_
  ·
    exact hx0
  ·
    split
    ·
      rename_i y1 y2 y3
      refine Keeps.step (State.startJob_keeps ..) rfl ?_
      exact hx0
    ·
      rename_i y4 y5 y6 y7 y8
      refine Keeps.step (State.recordMx_keeps ..) rfl ?_
      refine Keeps.step (State.engFail_keeps ..) rfl ?_
      exact hx0

theorem State.loadBank_keeps : ∀ s c j x k, Keeps 8388641 s (State.loadBank s c j x k) := by
  intro s c j x k
  unfold State.loadBank
  lift_lets -underBinder
  extract_lets -descend x0
  clear_value x0
  split
  ·
    rename_i y1 y2 y3 y4
    lift_lets -underBinder
    extract_lets -descend x5
    have hx5 : Keeps 8388641 s x5 := by
      unfold x5
      refine Keeps.ite ?_ ?_
      ·
        refine Keeps.step (State.add64_keeps ..) rfl ?_
        exact Keeps.refl _
      ·
        refine Keeps.step (State.engFail_keeps ..) rfl ?_
        exact Keeps.refl _
    clear_value x5
    refine Keeps.step (State.setArr_keeps ..) rfl ?_
    exact hx5

theorem State.recordMismatch_keeps : ∀ s c j p v, Keeps 8388609 s (State.recordMismatch s c j p v) := by
  intro s c j p v
  unfold State.recordMismatch
  lift_lets -underBinder
  extract_lets -descend x0 x1 x2 x3 x4 x5
  clear_value x0
  have hx1 : Keeps 8388609 s x1 := by
    unfold x1
    refine Keeps.step (State.setReg_keeps ..) rfl ?_
    exact Keeps.refl _
  clear_value x1
  have hx2 : Keeps 8388609 s x2 := by
    unfold x2
    refine Keeps.step (State.setReg_keeps ..) rfl ?_
    exact hx1
  clear_value x2
  have hx3 : Keeps 8388609 s x3 := by
    unfold x3
    refine Keeps.step (State.setFld_keeps ..) rfl ?_
    exact hx2
  clear_value x3
  have hx4 : Keeps 8388609 s x4 := by
    unfold x4
    refine Keeps.step (State.setFld_keeps ..) rfl ?_
    exact hx3
  clear_value x4
  have hx5 : Keeps 8388609 s x5 := by
    unfold x5
    refine Keeps.ite ?_ ?_
    ·
      exact hx4
    ·
      refine Keeps.step (State.setFld_keeps ..) rfl ?_
      exact hx4
  clear_value x5
  refine Keeps.ite ?_ ?_
  ·
    refine Keeps.step (State.inc_keeps ..) rfl ?_
    exact hx3
  ·
    refine Keeps.step (State.log_keeps ..) rfl ?_
    exact hx5

theorem State.nextPass_keeps : ∀ s c j, Keeps 8388841 s (State.nextPass s c j) := by
  intro s c j
  unfold State.nextPass
  lift_lets -underBinder
  extract_lets -descend x0 x1 x2
  have hx0 : Keeps 8388841 s x0 := by
    unfold x0
    refine Keeps.step (State.add64_keeps ..) rfl ?_
    exact Keeps.refl _
  clear_value x0
  have hx1 : Keeps 8388841 s x1 := by
    unfold x1
    refine Keeps.step (State.setFld_keeps ..) rfl ?_
    exact hx0
  clear_value x1
  refine Keeps.ite ?_ ?_
  ·
    refine Keeps.step (State.endJob_keeps ..) rfl ?_
    exact hx0
  ·
    refine Keeps.ite ?_ ?_
    ·
      refine Keeps.step (State.setJob_keeps ..) rfl ?_
      exact hx0
    ·
      refine Keeps.ite ?_ ?_
      ·
        refine Keeps.step (State.endJob_keeps ..) rfl ?_
        exact hx0
      ·
        refine Keeps.ite ?_ ?_
        ·
          refine Keeps.step (State.setJob_keeps ..) rfl ?_
          exact hx1
        ·
          refine Keeps.step (State.closeUnit_keeps ..) rfl ?_
          exact hx1

theorem State.afterRow_keeps : ∀ s c j x, Keeps 8388841 s (State.afterRow s c j x) := by
  intro s c j x
  unfold State.afterRow
  lift_lets -underBinder
  extract_lets -descend x0
  clear_value x0
  refine Keeps.ite ?_ ?_
  ·
    refine Keeps.step (State.setJob_keeps ..) rfl ?_
    exact Keeps.refl _
  ·
    refine Keeps.step (State.nextPass_keeps ..) rfl ?_
    exact Keeps.refl _

theorem State.keepRow_keeps : ∀ s c j p x dst keep res, Keeps 8388841 s (State.keepRow s c j p x dst keep res) := by
  intro s c j p x dst keep res
  unfold State.keepRow
  refine Keeps.ite ?_ ?_
  ·
    refine Keeps.step (State.afterRow_keeps ..) rfl ?_
    exact Keeps.refl _
  ·
    split
    ·
      rename_i y0 y1 y2 y3 y4
      have e5 : Keeps 8388841 s (y3) := by
        refine Keeps.fth_eq y4 ?_
        refine Keeps.step (State.accumulate_keeps ..) rfl ?_
        exact Keeps.refl _
      refine Keeps.step (State.afterRow_keeps ..) rfl ?_
      exact e5
    ·
      rename_i y6 y7 y8 y9 y10 y11 y12
      have e13 : Keeps 8388841 s (y10) := by
        refine Keeps.fth_eq y12 ?_
        refine Keeps.step (State.accumulate_keeps ..) rfl ?_
        exact Keeps.refl _
      refine Keeps.step (State.failJob_keeps ..) rfl ?_
      exact e13

theorem State.drainRow_keeps : ∀ s c j x b upsets, Keeps 8388841 s (State.drainRow s c j x b upsets) := by
  intro s c j x b upsets
  unfold State.drainRow
  lift_lets -underBinder
  extract_lets -descend x0
  clear_value x0
  split
  ·
    rename_i y1 y2
    exact Keeps.refl _
  ·
    rename_i y3 y4 y5 y6
    split
    ·
      rename_i y7 y8 y9 y10 y11 y12
      refine Keeps.ite ?_ ?_
      ·
        refine Keeps.step (State.failJob_keeps ..) rfl ?_
        exact Keeps.refl _
      ·
        lift_lets -underBinder
        extract_lets -descend x13 x14 x15 x16 x17 x18 x19 x20 x21 x22 x23 x24 x25 x26 x27 x28
        clear_value x13
        clear_value x14
        clear_value x15
        have hx16 : Keeps 8388841 s x16 := by
          unfold x16
          refine Keeps.ite ?_ ?_
          ·
            refine Keeps.step (State.add64_keeps ..) rfl ?_
            refine Keeps.step (State.inc_keeps ..) rfl ?_
            exact Keeps.refl _
          ·
            exact Keeps.refl _
        clear_value x16
        clear_value x17
        clear_value x18
        clear_value x19
        clear_value x20
        clear_value x21
        clear_value x22
        have hx23 : Keeps 8388841 s x23 := by
          unfold x23
          refine Keeps.step (State.add64_keeps ..) rfl ?_
          refine Keeps.step (State.setArr_keeps ..) rfl ?_
          exact Keeps.refl _
        clear_value x23
        have hx24 : Keeps 8388841 s x24 := by
          unfold x24
          refine Keeps.ite ?_ ?_
          ·
            refine Keeps.step (State.fpEvent_keeps ..) rfl ?_
            exact hx23
          ·
            exact hx23
        clear_value x24
        clear_value x25
        have hx26 : Keeps 8388841 s x26 := by
          unfold x26
          refine Keeps.ite ?_ ?_
          ·
            refine Keeps.step (State.inc_keeps ..) rfl ?_
            exact hx24
          ·
            exact hx24
        clear_value x26
        have hx27 : Keeps 8388841 s x27 := by
          unfold x27
          refine Keeps.step (State.recordMismatch_keeps ..) rfl ?_
          exact hx26
        clear_value x27
        clear_value x28
        refine Keeps.ite ?_ ?_
        ·
          refine Keeps.step (State.keepRow_keeps ..) rfl ?_
          exact hx16
        ·
          refine Keeps.ite ?_ ?_
          ·
            refine Keeps.step (State.keepRow_keeps ..) rfl ?_
            exact hx26
          ·
            refine Keeps.ite ?_ ?_
            ·
              refine Keeps.step (State.afterRow_keeps ..) rfl ?_
              exact hx27
            ·
              refine Keeps.step (State.afterRow_keeps ..) rfl ?_
              exact hx27

theorem State.fetchTile_keeps : ∀ s c j b, Keeps 8388841 s (State.fetchTile s c j b) := by
  intro s c j b
  unfold State.fetchTile
  lift_lets -underBinder
  extract_lets -descend x0 x1 x2 x3
  clear_value x0
  clear_value x1
  clear_value x2
  clear_value x3
  split
  ·
    rename_i y4 y5 y6
    lift_lets -underBinder
    extract_lets -descend x7 x8 x9
    have hx7 : Keeps 8388841 s x7 := by
      unfold x7
      refine Keeps.step (State.add64_keeps ..) rfl ?_
      exact Keeps.refl _
    clear_value x7
    clear_value x8
    refine Keeps.ite ?_ ?_
    ·
      split
      ·
        rename_i y10 y11 y12 y13
        have e14 : Keeps 8388841 s (y12) := by
          refine Keeps.snd_eq y13 ?_
          refine Keeps.step (State.drawUnit_keeps ..) rfl ?_
          exact hx7
        refine Keeps.step (State.setJob_keeps ..) rfl ?_
        exact e14
    ·
      refine Keeps.step (State.setJob_keeps ..) rfl ?_
      exact hx7
  ·
    rename_i y15 y16 y17 y18 y19
    refine Keeps.step (State.failJob_keeps ..) rfl ?_
    exact Keeps.refl _

theorem State.writeBack_keeps : ∀ s c j t, Keeps 8388841 s (State.writeBack s c j t) := by
  intro s c j t
  unfold State.writeBack
  split
  ·
    rename_i y0 y1 y2
    lift_lets -underBinder
    extract_lets -descend x3 x4
    have hx3 : Keeps 8388841 s x3 := by
      unfold x3
      refine Keeps.step (State.add64_keeps ..) rfl ?_
      refine Keeps.fold ?_ ?_
      ·
        exact Keeps.refl _
      ·
        intro z5 q6 h7
        refine Keeps.step (State.putBytes_keeps ..) rfl ?_
        exact h7
    clear_value x3
    refine Keeps.ite ?_ ?_
    ·
      refine Keeps.step (State.setJob_keeps ..) rfl ?_
      exact hx3
    ·
      refine Keeps.step (State.closeUnit_keeps ..) rfl ?_
      exact hx3
  ·
    rename_i y8 y9 y10 y11 y12
    refine Keeps.step (State.failJob_keeps ..) rfl ?_
    exact Keeps.refl _

theorem State.abortMx_keeps : ∀ s c, Keeps 16777449 s (State.abortMx s c) := by
  intro s c
  unfold State.abortMx
  lift_lets -underBinder
  extract_lets -descend x0 x1 x2
  clear_value x0
  clear_value x1
  have hx2 : Keeps 16777449 s x2 := by
    unfold x2
    refine Keeps.step (State.setCore_keeps ..) rfl ?_
    exact Keeps.refl _
  clear_value x2
  split
  ·
    rename_i y3 y4
    refine Keeps.fold ?_ ?_
    ·
      exact hx2
    ·
      intro z5 q6 h7
      refine Keeps.step (State.recordMx_keeps ..) rfl ?_
      exact h7
  ·
    rename_i y8 y9 y10
    lift_lets -underBinder
    extract_lets -descend x11
    clear_value x11
    split
    ·
      rename_i y12 y13
      refine Keeps.step (State.endJob_keeps ..) rfl ?_
      exact hx2
    ·
      rename_i y14 y15 y16
      refine Keeps.ite ?_ ?_
      ·
        refine Keeps.step (State.endJob_keeps ..) rfl ?_
        exact hx2
      ·
        split
        ·
          rename_i y17 y18 y19 y20
          have e21 : Keeps 16777449 s (y19) := by
            refine Keeps.snd_eq y20 ?_
            refine Keeps.step (State.fresh_keeps ..) rfl ?_
            exact hx2
          lift_lets -underBinder
          extract_lets -descend x22 x23
          clear_value x22
          clear_value x23
          refine Keeps.ite ?_ ?_
          ·
            refine Keeps.step (State.endJob_keeps ..) rfl ?_
            exact e21
          ·
            refine Keeps.step (State.setJob_keeps ..) rfl ?_
            exact e21

theorem execMatrixProduct_keeps : ∀ c s, KeepsOut 8388841 s (execMatrixProduct c s) := by
  intro c s
  unfold execMatrixProduct
  split
  ·
    rename_i y0 y1
    refine KeepsOut.next ?_
    exact Keeps.refl _
  ·
    rename_i y2 y3 y4
    lift_lets -underBinder
    extract_lets -descend x5
    clear_value x5
    split
    ·
      rename_i y6
      refine KeepsOut.next ?_
      refine Keeps.step (State.startProduct_keeps ..) rfl ?_
      exact Keeps.refl _
    ·
      rename_i y7
      split
      ·
        rename_i y8
        refine KeepsOut.next ?_
        refine Keeps.step (State.recordMx_keeps ..) rfl ?_
        refine Keeps.step (State.popMx_keeps ..) rfl ?_
        exact Keeps.refl _
      ·
        rename_i y9
        refine KeepsOut.next ?_
        exact Keeps.refl _

theorem execDispatchedMatrixProduct_keeps : ∀ c s, KeepsOut 8388841 s (execDispatchedMatrixProduct c s) := by
  intro c s
  unfold execDispatchedMatrixProduct
  split
  ·
    rename_i y0 y1 y2
    refine KeepsOut.next ?_
    refine Keeps.ite ?_ ?_
    ·
      refine Keeps.step (State.startProduct_keeps ..) rfl ?_
      exact Keeps.refl _
    ·
      exact Keeps.refl _
  ·
    rename_i y3 y4
    refine KeepsOut.next ?_
    exact Keeps.refl _

theorem execPointerListProduct_keeps : ∀ c s, KeepsOut 8388841 s (execPointerListProduct c s) := by
  intro c s
  unfold execPointerListProduct
  split
  ·
    rename_i y0 y1 y2
    refine KeepsOut.next ?_
    refine Keeps.ite ?_ ?_
    ·
      refine Keeps.step (State.startProduct_keeps ..) rfl ?_
      exact Keeps.refl _
    ·
      exact Keeps.refl _
  ·
    rename_i y3 y4
    refine KeepsOut.next ?_
    exact Keeps.refl _

theorem execWeightTileLoad_keeps : ∀ c s, KeepsOut 8388641 s (execWeightTileLoad c s) := by
  intro c s
  unfold execWeightTileLoad
  split
  ·
    rename_i y0 y1
    refine KeepsOut.next ?_
    exact Keeps.refl _
  ·
    rename_i y2 y3 y4
    lift_lets -underBinder
    extract_lets -descend x5
    clear_value x5
    split
    ·
      rename_i y6 y7
      refine KeepsOut.next ?_
      exact Keeps.refl _
    ·
      rename_i y8 y9 y10
      split
      ·
        rename_i y11
        split
        ·
          rename_i y12
          refine KeepsOut.next ?_
          exact Keeps.refl _
        ·
          rename_i y13
          refine KeepsOut.next ?_
          refine Keeps.step (State.loadBank_keeps ..) rfl ?_
          exact Keeps.refl _
      ·
        rename_i y14
        split
        ·
          rename_i y15 y16
          refine KeepsOut.next ?_
          exact Keeps.refl _
        ·
          rename_i y17 y18 y19
          split
          ·
            rename_i y20
            refine KeepsOut.next ?_
            exact Keeps.refl _
          ·
            rename_i y21
            refine KeepsOut.next ?_
            refine Keeps.step (State.loadBank_keeps ..) rfl ?_
            exact Keeps.refl _

theorem execPassEntry_keeps : ∀ c s, KeepsOut 233 s (execPassEntry c s) := by
  intro c s
  unfold execPassEntry
  split
  ·
    rename_i y0 y1
    refine KeepsOut.next ?_
    exact Keeps.refl _
  ·
    rename_i y2 y3 y4
    lift_lets -underBinder
    extract_lets -descend x5
    clear_value x5
    split
    ·
      rename_i y6 y7
      refine KeepsOut.next ?_
      exact Keeps.refl _
    ·
      rename_i y8 y9 y10
      split
      ·
        rename_i y11
        refine KeepsOut.next ?_
        exact Keeps.refl _
      ·
        rename_i y12
        lift_lets -underBinder
        extract_lets -descend x13
        clear_value x13
        split
        ·
          rename_i y14 y15
          refine KeepsOut.next ?_
          exact Keeps.refl _
        ·
          rename_i y16 y17 y18
          split
          ·
            rename_i y19
            refine KeepsOut.next ?_
            exact Keeps.refl _
          ·
            rename_i y20
            split
            ·
              rename_i y21
              refine KeepsOut.next ?_
              refine Keeps.step (State.endJob_keeps ..) rfl ?_
              exact Keeps.refl _
            ·
              rename_i y22
              lift_lets -underBinder
              extract_lets -descend x23 x24 x25 x26 x27 x28
              clear_value x23
              clear_value x24
              have hx25 : Keeps 233 s x25 := by
                unfold x25
                refine Keeps.step (State.setArr_keeps ..) rfl ?_
                exact Keeps.refl _
              clear_value x25
              have hx26 : Keeps 233 s x26 := by
                unfold x26
                refine Keeps.step (State.setFld_keeps ..) rfl ?_
                refine Keeps.step (State.setFld_keeps ..) rfl ?_
                exact hx25
              clear_value x26
              have hx27 : Keeps 233 s x27 := by
                unfold x27
                refine Keeps.ite ?_ ?_
                ·
                  refine Keeps.step (State.inc_keeps ..) rfl ?_
                  exact hx26
                ·
                  exact hx26
              clear_value x27
              have hx28 : Keeps 233 s x28 := by
                unfold x28
                refine Keeps.ite ?_ ?_
                ·
                  exact hx27
                ·
                  refine Keeps.step (State.setFld_keeps ..) rfl ?_
                  exact hx27
              clear_value x28
              refine KeepsOut.next ?_
              refine Keeps.step (State.setJob_keeps ..) rfl ?_
              exact hx28

theorem execRowDrain_keeps : ∀ c upsets s, KeepsOut 8388841 s (execRowDrain c upsets s) := by
  intro c upsets s
  unfold execRowDrain
  split
  ·
    rename_i y0 y1
    refine KeepsOut.next ?_
    exact Keeps.refl _
  ·
    rename_i y2 y3 y4
    split
    ·
      rename_i y5 y6 y7 y8 y9 y10
      refine KeepsOut.next ?_
      refine Keeps.ite ?_ ?_
      ·
        refine Keeps.step (State.drainRow_keeps ..) rfl ?_
        exact Keeps.refl _
      ·
        exact Keeps.refl _
    ·
      rename_i y11 y12 y13
      refine KeepsOut.next ?_
      exact Keeps.refl _

theorem execSelvageRetry_keeps : ∀ c s, KeepsOut 8388841 s (execSelvageRetry c s) := by
  intro c s
  unfold execSelvageRetry
  split
  ·
    rename_i y0 y1
    refine KeepsOut.next ?_
    exact Keeps.refl _
  ·
    rename_i y2 y3 y4
    split
    ·
      rename_i y5 y6
      refine KeepsOut.next ?_
      exact Keeps.refl _
    ·
      rename_i y7 y8 y9
      split
      ·
        rename_i y10
        lift_lets -underBinder
        extract_lets -descend x11 x12 x13 x14
        clear_value x11
        have hx12 : Keeps 8388841 s x12 := by
          unfold x12
          refine Keeps.step (State.loadBank_keeps ..) rfl ?_
          exact Keeps.refl _
        clear_value x12
        clear_value x13
        have hx14 : Keeps 8388841 s x14 := by
          unfold x14
          refine Keeps.step (State.setArr_keeps ..) rfl ?_
          exact hx12
        clear_value x14
        split
        ·
          rename_i y15 y16 y17
          split
          ·
            rename_i y18
            refine KeepsOut.next ?_
            refine Keeps.step (State.endJob_keeps ..) rfl ?_
            exact hx14
          ·
            rename_i y19
            lift_lets -underBinder
            extract_lets -descend x20
            have hx20 : Keeps 8388841 s x20 := by
              unfold x20
              refine Keeps.step (State.setFld_keeps ..) rfl ?_
              refine Keeps.step (State.setFld_keeps ..) rfl ?_
              exact hx14
            clear_value x20
            refine KeepsOut.next ?_
            refine Keeps.step (State.setJob_keeps ..) rfl ?_
            exact hx20
        ·
          rename_i y21 y22
          refine KeepsOut.next ?_
          exact hx14
      ·
        rename_i y23
        refine KeepsOut.next ?_
        exact Keeps.refl _

theorem execStagingFetch_keeps : ∀ c s, KeepsOut 8388841 s (execStagingFetch c s) := by
  intro c s
  unfold execStagingFetch
  split
  ·
    rename_i y0 y1
    refine KeepsOut.next ?_
    exact Keeps.refl _
  ·
    rename_i y2 y3 y4
    lift_lets -underBinder
    extract_lets -descend x5 x6 x7
    clear_value x5
    clear_value x6
    clear_value x7
    split
    ·
      rename_i y8 y9 y10
      refine KeepsOut.next ?_
      refine Keeps.ite ?_ ?_
      ·
        refine Keeps.step (State.fetchTile_keeps ..) rfl ?_
        exact Keeps.refl _
      ·
        exact Keeps.refl _
    ·
      rename_i y11 y12
      refine KeepsOut.next ?_
      exact Keeps.refl _

theorem execStagingWriteback_keeps : ∀ c s, KeepsOut 8388841 s (execStagingWriteback c s) := by
  intro c s
  unfold execStagingWriteback
  split
  ·
    rename_i y0 y1
    refine KeepsOut.next ?_
    exact Keeps.refl _
  ·
    rename_i y2 y3 y4
    lift_lets -underBinder
    extract_lets -descend x5
    clear_value x5
    split
    ·
      rename_i y6 y7 y8
      refine KeepsOut.next ?_
      refine Keeps.step (State.writeBack_keeps ..) rfl ?_
      exact Keeps.refl _
    ·
      rename_i y9 y10
      refine KeepsOut.next ?_
      exact Keeps.refl _

end Sys2Proof.Machine
end

