-- ==== Sys2Proof/Laws/KeepsSquall.lean ====
section
/-! SUPPORT. What each operation and each command of Machine/Squall.lean touches, one lemma each: the bits of its mask are the
parts of the state that it may change; the queue and the canonical form of the memories it keeps. -/
namespace Sys2Proof.Machine

theorem State.setVote_keeps : ∀ s i v, Keeps 2048 s (State.setVote s i v) := by
  intro s i v
  unfold State.setVote
  refine Keeps.set_votes rfl ?_
  exact Keeps.refl _

theorem State.sendSquall_keeps : ∀ s i pod dev msg, Keeps 12267705 s (State.sendSquall s i pod dev msg) := by
  intro s i pod dev msg
  unfold State.sendSquall
  refine Keeps.ite ?_ ?_
  ·
    refine Keeps.set_localMsgs rfl ?_
    exact Keeps.refl _
  ·
    split
    ·
      rename_i y0 y1
      exact Keeps.refl _
    ·
      rename_i y2 y3 y4
      lift_lets -underBinder
      extract_lets -descend x5
      clear_value x5
      refine KeepsOpt.getD ?_ ?_
      ·
        refine KeepsOpt.step (State.startTxn_keeps ..) rfl ?_
        exact Keeps.refl _
      ·
        exact Keeps.refl _

theorem State.fanOut_keeps : ∀ s i msg, Keeps 12267705 s (State.fanOut s i msg) := by
  intro s i msg
  unfold State.fanOut
  lift_lets -underBinder
  extract_lets -descend x0
  have hx0 : Keeps 12267705 s x0 := by
    unfold x0
    refine Keeps.ite ?_ ?_
    ·
      refine Keeps.fold ?_ ?_
      ·
        exact Keeps.refl _
      ·
        intro z1 q2 h3
        refine Keeps.step (State.sendSquall_keeps ..) rfl ?_
        exact h3
    ·
      exact Keeps.refl _
  clear_value x0
  refine Keeps.fold ?_ ?_
  ·
    exact hx0
  ·
    intro z4 q5 h6
    refine Keeps.step (State.sendSquall_keeps ..) rfl ?_
    exact h6

theorem State.sendUp_keeps : ∀ s i msg, Keeps 12267705 s (State.sendUp s i msg) := by
  intro s i msg
  unfold State.sendUp
  refine Keeps.ite ?_ ?_
  ·
    refine Keeps.step (State.sendSquall_keeps ..) rfl ?_
    exact Keeps.refl _
  ·
    refine Keeps.step (State.sendSquall_keeps ..) rfl ?_
    exact Keeps.refl _

theorem State.showVote_keeps : ∀ s i, Keeps 1 s (State.showVote s i) := by
  intro s i
  unfold State.showVote
  lift_lets -underBinder
  extract_lets -descend x0 x1 x2 x3 x4 x5 x6 x7
  clear_value x0
  clear_value x1
  clear_value x2
  clear_value x3
  clear_value x4
  clear_value x5
  have hx6 : Keeps 1 s x6 := by
    unfold x6
    refine Keeps.step (State.showPod_keeps ..) rfl ?_
    refine Keeps.step (State.setFld_keeps ..) rfl ?_
    exact Keeps.refl _
  clear_value x6
  refine Keeps.ite ?_ ?_
  ·
    refine Keeps.step (State.setModState_keeps ..) rfl ?_
    exact hx6
  ·
    exact hx6

theorem State.applied_keeps : ∀ s i step dev pod fail, Keeps 12267705 s (State.applied s i step dev pod fail) := by
  intro s i step dev pod fail
  unfold State.applied
  refine Keeps.ite ?_ ?_
  ·
    refine Keeps.set_localMsgs rfl ?_
    exact Keeps.refl _
  ·
    refine Keeps.step (State.sendUp_keeps ..) rfl ?_
    exact Keeps.refl _

theorem State.tryApplied_keeps : ∀ s i, Keeps 12269753 s (State.tryApplied s i) := by
  intro s i
  unfold State.tryApplied
  lift_lets -underBinder
  extract_lets -descend x0 x1 x2
  clear_value x0
  clear_value x1
  have hx2 : Keeps 12269753 s x2 := by
    unfold x2
    refine Keeps.step (State.setVote_keeps ..) rfl ?_
    exact Keeps.refl _
  clear_value x2
  refine Keeps.ite ?_ ?_
  ·
    exact Keeps.refl _
  ·
    refine Keeps.step (State.showVote_keeps ..) rfl ?_
    refine Keeps.fold ?_ ?_
    ·
      exact hx2
    ·
      intro z3 q4 h5
      refine Keeps.step (State.applied_keeps ..) rfl ?_
      exact h5

theorem State.itemEnded_keeps : ∀ s i step ok, Keeps 12269753 s (State.itemEnded s i step ok) := by
  intro s i step ok
  unfold State.itemEnded
  lift_lets -underBinder
  extract_lets -descend x0 x1 x2
  clear_value x0
  clear_value x1
  clear_value x2
  refine Keeps.step (State.tryApplied_keeps ..) rfl ?_
  refine Keeps.step (State.setVote_keeps ..) rfl ?_
  exact Keeps.refl _

theorem State.itemTotal_keeps : ∀ s i step total, Keeps 12269753 s (State.itemTotal s i step total) := by
  intro s i step total
  unfold State.itemTotal
  lift_lets -underBinder
  extract_lets -descend x0 x1
  clear_value x0
  clear_value x1
  refine Keeps.step (State.tryApplied_keeps ..) rfl ?_
  refine Keeps.step (State.setVote_keeps ..) rfl ?_
  exact Keeps.refl _

end Sys2Proof.Machine
end

