-- ==== Sys2Proof/Laws/KeepsUpd.lean ====
section
/-! SUPPORT. What each operation and each command of Machine/Upd.lean touches, one lemma each: the bits of its mask are the
parts of the state that it may change; the queue and the canonical form of the memories it keeps. -/
namespace Sys2Proof.Machine

theorem State.updWrite_keeps : ∀ s a f vals, Keeps 137 s (State.updWrite s a f vals) := by
  intro s a f vals
  unfold State.updWrite
  refine Keeps.step (State.putBytes_keeps ..) rfl ?_
  exact Keeps.refl _

theorem State.showUpd_keeps : ∀ s d, Keeps 1 s (State.showUpd s d) := by
  intro s d
  unfold State.showUpd
  lift_lets -underBinder
  extract_lets -descend x0 x1 x2 x3
  clear_value x0
  clear_value x1
  clear_value x2
  have hx3 : Keeps 1 s x3 := by
    unfold x3
    refine Keeps.step (State.setFld_keeps ..) rfl ?_
    refine Keeps.step (State.setFld_keeps ..) rfl ?_
    exact Keeps.refl _
  clear_value x3
  refine Keeps.step (State.setFld_keeps ..) rfl ?_
  refine Keeps.step (State.setFld_keeps ..) rfl ?_
  exact hx3

theorem State.setUpdQ_keeps : ∀ s d q, Keeps 1025 s (State.setUpdQ s d q) := by
  intro s d q
  unfold State.setUpdQ
  refine Keeps.step (State.showUpd_keeps ..) rfl ?_
  refine Keeps.set_upd rfl ?_
  exact Keeps.refl _

theorem State.updEnd_keeps : ∀ s d it st, Keeps 12270841 s (State.updEnd s d it st) := by
  intro s d it st
  unfold State.updEnd
  lift_lets -underBinder
  extract_lets -descend x0 x1 x2 x3 x4
  have hx0 : Keeps 12270841 s x0 := by
    unfold x0
    refine Keeps.step (State.setUpdQ_keeps ..) rfl ?_
    exact Keeps.refl _
  clear_value x0
  have hx1 : Keeps 12270841 s x1 := by
    unfold x1
    refine Keeps.step (State.setFld_keeps ..) rfl ?_
    exact hx0
  clear_value x1
  have hx2 : Keeps 12270841 s x2 := by
    unfold x2
    refine Keeps.ite ?_ ?_
    ·
      refine Keeps.step (State.inc_keeps ..) rfl ?_
      exact hx1
    ·
      exact hx1
  clear_value x2
  clear_value x3
  have hx4 : Keeps 12270841 s x4 := by
    unfold x4
    refine Keeps.step (State.finishItem_keeps ..) rfl ?_
    exact hx2
  clear_value x4
  split
  ·
    rename_i y5 y6 y7 y8 y9 y10
    refine Keeps.ite ?_ ?_
    ·
      exact hx4
    ·
      refine Keeps.step (State.itemEnded_keeps ..) rfl ?_
      exact hx4
  ·
    rename_i y11 y12 y13
    exact hx4

theorem State.updStart_keeps : ∀ s d it, Keeps 12270841 s (State.updStart s d it) := by
  intro s d it
  unfold State.updStart
  lift_lets -underBinder
  extract_lets -descend x0
  clear_value x0
  refine Keeps.ite ?_ ?_
  ·
    refine Keeps.step (State.updEnd_keeps ..) rfl ?_
    exact Keeps.refl _
  ·
    split
    ·
      rename_i y1 y2
      lift_lets -underBinder
      extract_lets -descend x3 x4
      clear_value x3
      clear_value x4
      refine Keeps.ite ?_ ?_
      ·
        refine Keeps.step (State.updEnd_keeps ..) rfl ?_
        exact Keeps.refl _
      ·
        refine Keeps.ite ?_ ?_
        ·
          refine Keeps.step (State.updEnd_keeps ..) rfl ?_
          exact Keeps.refl _
        ·
          refine Keeps.ite ?_ ?_
          ·
            refine Keeps.step (State.updEnd_keeps ..) rfl ?_
            exact Keeps.refl _
          ·
            refine Keeps.step (State.setUpdQ_keeps ..) rfl ?_
            exact Keeps.refl _
    ·
      rename_i y5 y6
      refine Keeps.step (State.updEnd_keeps ..) rfl ?_
      refine Keeps.step (State.engFail_keeps ..) rfl ?_
      exact Keeps.refl _

theorem State.updRelease_keeps : ∀ s d it x, Keeps 12270841 s (State.updRelease s d it x) := by
  intro s d it x
  unfold State.updRelease
  lift_lets -underBinder
  extract_lets -descend x0 x1
  clear_value x0
  refine Keeps.ite ?_ ?_
  ·
    unfold x1
    refine Keeps.step (State.setUpdQ_keeps ..) rfl ?_
    exact Keeps.refl _
  ·
    split
    ·
      rename_i y2 y3 y4
      refine Keeps.ite ?_ ?_
      ·
        unfold x1
        refine Keeps.step (State.setUpdQ_keeps ..) rfl ?_
        exact Keeps.refl _
      ·
        refine Keeps.step (State.updEnd_keeps ..) rfl ?_
        exact Keeps.refl _
    ·
      rename_i y5 y6
      lift_lets -underBinder
      extract_lets -descend x7
      clear_value x7
      refine Keeps.ite ?_ ?_
      ·
        refine Keeps.step (State.updEnd_keeps ..) rfl ?_
        exact Keeps.refl _
      ·
        refine Keeps.ite ?_ ?_
        ·
          refine Keeps.step (State.updEnd_keeps ..) rfl ?_
          exact Keeps.refl _
        ·
          refine Keeps.step (State.showUpd_keeps ..) rfl ?_
          exact Keeps.refl _

theorem State.updRun_keeps : ∀ s d a2, Keeps 12270841 s (State.updRun s d a2) := by
  intro s d a2
  induction a2 generalizing s d with
  | zero =>
    unfold State.updRun
    exact Keeps.refl _
  | succ n0 ih =>
    unfold State.updRun
    split
    ·
      rename_i y0 y1
      refine Keeps.step (State.showUpd_keeps ..) rfl ?_
      exact Keeps.refl _
    ·
      rename_i y2 y3 y4 y5
      refine Keeps.ite ?_ ?_
      ·
        refine Keeps.step (State.showUpd_keeps ..) rfl ?_
        exact Keeps.refl _
      ·
        refine Keeps.ite ?_ ?_
        ·
          refine Keeps.step (ih ..) rfl ?_
          refine Keeps.step (State.dropDma_keeps ..) rfl ?_
          refine Keeps.step (State.setUpdQ_keeps ..) rfl ?_
          exact Keeps.refl _
        ·
          split
          ·
            rename_i y6 y7
            refine Keeps.step (ih ..) rfl ?_
            refine Keeps.step (State.updStart_keeps ..) rfl ?_
            exact Keeps.refl _
          ·
            rename_i y8 y9 y10
            lift_lets -underBinder
            extract_lets -descend x11
            have hx11 : Keeps 12270841 s x11 := by
              unfold x11
              refine Keeps.step (State.updRelease_keeps ..) rfl ?_
              exact Keeps.refl _
            clear_value x11
            refine Keeps.ite ?_ ?_
            ·
              exact hx11
            ·
              refine Keeps.step (ih ..) rfl ?_
              exact hx11

theorem State.updRunDie_keeps : ∀ s d, Keeps 12270841 s (State.updRunDie s d) := by
  intro s d
  unfold State.updRunDie
  refine Keeps.step (State.updRun_keeps ..) rfl ?_
  exact Keeps.refl _

theorem State.updRunAll_keeps : ∀ s, Keeps 12270841 s (State.updRunAll s) := by
  intro s
  unfold State.updRunAll
  refine Keeps.fold ?_ ?_
  ·
    exact Keeps.refl _
  ·
    intro z0 q1 h2
    refine Keeps.step (State.updRunDie_keeps ..) rfl ?_
    exact h2

theorem State.updApply_keeps : ∀ s d it p n2, Keeps 12270841 s (State.updApply s d it p n2) := by
  intro s d it p n2
  unfold State.updApply
  lift_lets -underBinder
  extract_lets -descend x0
  clear_value x0
  split
  ·
    rename_i y1 y2 y3
    split
    ·
      rename_i y4 y5 y6 y7 y8 y9
      lift_lets -underBinder
      extract_lets -descend x10 x11 x12 x13 x14
      have hx10 : Keeps 12270841 s x10 := by
        unfold x10
        refine Keeps.step (State.updWrite_keeps ..) rfl ?_
        refine Keeps.step (State.updWrite_keeps ..) rfl ?_
        exact Keeps.refl _
      clear_value x10
      have hx11 : Keeps 12270841 s x11 := by
        unfold x11
        refine Keeps.ite ?_ ?_
        ·
          refine Keeps.step (State.updWrite_keeps ..) rfl ?_
          exact hx10
        ·
          exact hx10
      clear_value x11
      have hx12 : Keeps 12270841 s x12 := by
        unfold x12
        refine Keeps.step (State.add64_keeps ..) rfl ?_
        exact hx11
      clear_value x12
      clear_value x13
      have hx14 : Keeps 12270841 s x14 := by
        unfold x14
        refine Keeps.ite ?_ ?_
        ·
          refine Keeps.step (State.setRegBit_keeps ..) rfl ?_
          refine Keeps.step (State.setRegBit_keeps ..) rfl ?_
          exact hx12
        ·
          exact hx12
      clear_value x14
      refine Keeps.step (State.updEnd_keeps ..) rfl ?_
      exact hx14
  ·
    rename_i y15 y16 y17 y18 y19
    refine Keeps.step (State.updEnd_keeps ..) rfl ?_
    refine Keeps.step (State.engFail_keeps ..) rfl ?_
    exact Keeps.refl _

theorem State.updTake_keeps : ∀ s d, Keeps 1185 s (State.updTake s d) := by
  intro s d
  unfold State.updTake
  refine Keeps.ite ?_ ?_
  ·
    exact Keeps.refl _
  ·
    split
    ·
      rename_i y0 y1
      exact Keeps.refl _
    ·
      rename_i y2 y3 y4 y5
      lift_lets -underBinder
      extract_lets -descend x6 x7
      clear_value x6
      clear_value x7
      refine Keeps.step (State.setUpdQ_keeps ..) rfl ?_
      refine Keeps.step (State.handItem_keeps ..) rfl ?_
      exact Keeps.refl _

theorem execUpdateItem_keeps : ∀ d s, KeepsOut 12270841 s (execUpdateItem d s) := by
  intro d s
  unfold execUpdateItem
  refine KeepsOut.next ?_
  refine Keeps.step (State.updRunDie_keeps ..) rfl ?_
  refine Keeps.step (State.updTake_keeps ..) rfl ?_
  exact Keeps.refl _

theorem execUpdateApplyComplete_keeps : ∀ d s, KeepsOut 12270841 s (execUpdateApplyComplete d s) := by
  intro d s
  unfold execUpdateApplyComplete
  split
  ·
    rename_i y0 y1 y2 y3
    split
    ·
      rename_i y4 y5 y6 y7 y8 y9
      split
      ·
        rename_i y10
        refine KeepsOut.next ?_
        refine Keeps.step (State.updRunDie_keeps ..) rfl ?_
        refine Keeps.step (State.dropDma_keeps ..) rfl ?_
        refine Keeps.step (State.setUpdQ_keeps ..) rfl ?_
        exact Keeps.refl _
      ·
        rename_i y11
        refine KeepsOut.next ?_
        refine Keeps.step (State.updRunDie_keeps ..) rfl ?_
        refine Keeps.step (State.updApply_keeps ..) rfl ?_
        exact Keeps.refl _
    ·
      rename_i y12 y13 y14
      refine KeepsOut.next ?_
      exact Keeps.refl _
  ·
    rename_i y15 y16
    refine KeepsOut.next ?_
    exact Keeps.refl _

end Sys2Proof.Machine
end

