-- ==== Sys2Proof/Laws/KeepsKv.lean ====
section
/-! SUPPORT. What each operation and each command of Machine/Kv.lean touches, one lemma each: the bits of its mask are the
parts of the state that it may change; the queue and the canonical form of the memories it keeps. -/
namespace Sys2Proof.Machine

theorem State.setL1_keeps : ∀ s n slot open' len res, Keeps 137 s (State.setL1 s n slot open' len res) := by
  intro s n slot open' len res
  unfold State.setL1
  refine Keeps.step (State.putNat_keeps ..) rfl ?_
  exact Keeps.refl _

theorem State.setL2_keeps : ∀ s n slot b f, Keeps 137 s (State.setL2 s n slot b f) := by
  intro s n slot b f
  unfold State.setL2
  refine Keeps.step (State.putNat_keeps ..) rfl ?_
  exact Keeps.refl _

theorem State.setKv_keeps : ∀ s n k, Keeps 257 s (State.setKv s n k) := by
  intro s n k
  unfold State.setKv
  lift_lets -underBinder
  extract_lets -descend x0 x1
  have hx0 : Keeps 257 s x0 := by
    unfold x0
    refine Keeps.set_kv rfl ?_
    exact Keeps.refl _
  clear_value x0
  have hx1 : Keeps 257 s x1 := by
    unfold x1
    refine Keeps.step (State.setFld_keeps ..) rfl ?_
    exact hx0
  clear_value x1
  refine Keeps.step (State.setFld_keeps ..) rfl ?_
  exact hx1

theorem State.setReserved_keeps : ∀ s n v, Keeps 1 s (State.setReserved s n v) := by
  intro s n v
  unfold State.setReserved
  refine Keeps.step (State.setFld_keeps ..) rfl ?_
  exact Keeps.refl _

theorem State.setLab_keeps : ∀ s d l, Keeps 512 s (State.setLab s d l) := by
  intro s d l
  unfold State.setLab
  refine Keeps.set_lab rfl ?_
  exact Keeps.refl _

theorem State.labDrop_keeps : ∀ s p, Keeps 512 s (State.labDrop s p) := by
  intro s p
  unfold State.labDrop
  refine Keeps.fold ?_ ?_
  ·
    exact Keeps.refl _
  ·
    intro z0 q1 h2
    refine Keeps.step (State.setLab_keeps ..) rfl ?_
    exact h2

theorem State.labAdd_keeps : ∀ s d e, Keeps 512 s (State.labAdd s d e) := by
  intro s d e
  unfold State.labAdd
  lift_lets -underBinder
  extract_lets -descend x0
  clear_value x0
  refine Keeps.step (State.setLab_keeps ..) rfl ?_
  exact Keeps.refl _

theorem State.kvTranslate_keeps : ∀ s d space slot block, Keeps 513 s (State.kvTranslate s d space slot block).2 := by
  intro s d space slot block
  unfold State.kvTranslate
  lift_lets -underBinder
  extract_lets -descend x0 x1
  split
  ·
    rename_i y2 y3 y4
    lift_lets -underBinder
    extract_lets -descend x5
    have hx5 : Keeps 513 s x5 := by
      unfold x5
      refine Keeps.step (State.setLab_keeps ..) rfl ?_
      exact Keeps.refl _
    clear_value x5
    dsimp -zeta only
    unfold x1
    split
    ·
      rename_i y6 y7 y8 y9 y10
      refine Keeps.step (State.labAdd_keeps ..) rfl ?_
      refine Keeps.step (State.add64_keeps ..) rfl ?_
      exact hx5
    ·
      rename_i y11 y12 y13
      refine Keeps.step (State.add64_keeps ..) rfl ?_
      exact hx5
  ·
    rename_i y14 y15
    lift_lets -underBinder
    extract_lets -descend x16
    have hx16 : Keeps 513 s x16 := by
      unfold x16
      refine Keeps.step (State.add64_keeps ..) rfl ?_
      exact Keeps.refl _
    clear_value x16
    split
    ·
      rename_i y17 y18 y19
      dsimp -zeta only
      unfold x1
      split
      ·
        rename_i y20 y21 y22 y23 y24
        refine Keeps.step (State.labAdd_keeps ..) rfl ?_
        refine Keeps.step (State.labAdd_keeps ..) rfl ?_
        exact hx16
      ·
        rename_i y25 y26 y27
        refine Keeps.step (State.labAdd_keeps ..) rfl ?_
        exact hx16
    ·
      rename_i y28 y29
      exact hx16

theorem State.kvAlloc_keeps : ∀ s n, Keeps 16777985 s (State.kvAlloc s n).2 := by
  intro s n
  unfold State.kvAlloc
  lift_lets -underBinder
  extract_lets -descend x0
  clear_value x0
  split
  ·
    rename_i y1
    split
    ·
      rename_i y2 y3
      dsimp -zeta only
      exact Keeps.refl _
    ·
      rename_i y4 y5 y6
      lift_lets -underBinder
      extract_lets -descend x7 x8
      have hx7 : Keeps 16777985 s x7 := by
        unfold x7
        refine Keeps.step (State.setKv_keeps ..) rfl ?_
        exact Keeps.refl _
      clear_value x7
      have hx8 : Keeps 16777985 s x8 := by
        unfold x8
        refine Keeps.step (State.labDrop_keeps ..) rfl ?_
        exact hx7
      clear_value x8
      dsimp -zeta only
      refine Keeps.step (State.add64_keeps ..) rfl ?_
      exact hx8
  ·
    rename_i y9
    split
    ·
      rename_i y10 y11 y12 y13
      have e14 : Keeps 16777985 s (y12) := by
        refine Keeps.snd_eq y13 ?_
        refine Keeps.step (State.fresh_keeps ..) rfl ?_
        exact Keeps.refl _
      split
      ·
        rename_i y15 y16
        exact e14
      ·
        rename_i y17 y18 y19
        dsimp -zeta only
        refine Keeps.step (State.setKv_keeps ..) rfl ?_
        exact e14

theorem State.kvRef_keeps : ∀ s n f, Keeps 257 s (State.kvRef s n f) := by
  intro s n f
  unfold State.kvRef
  lift_lets -underBinder
  extract_lets -descend x0
  clear_value x0
  refine Keeps.step (State.setKv_keeps ..) rfl ?_
  exact Keeps.refl _

theorem State.kvUnref_keeps : ∀ s n f, Keeps 257 s (State.kvUnref s n f) := by
  intro s n f
  unfold State.kvUnref
  lift_lets -underBinder
  extract_lets -descend x0 x1 x2
  clear_value x0
  clear_value x1
  clear_value x2
  refine Keeps.ite ?_ ?_
  ·
    refine Keeps.step (State.setKv_keeps ..) rfl ?_
    exact Keeps.refl _
  ·
    refine Keeps.ite ?_ ?_
    ·
      refine Keeps.step (State.setKv_keeps ..) rfl ?_
      exact Keeps.refl _
    ·
      refine Keeps.step (State.setKv_keeps ..) rfl ?_
      exact Keeps.refl _

theorem State.kvGrow_keeps : ∀ s n slot a3, Keeps 16778121 s (State.kvGrow s n slot a3).2 := by
  intro s n slot a3
  induction a3 generalizing s n slot with
  | nil =>
    unfold State.kvGrow
    dsimp -zeta only
    exact Keeps.refl _
  | cons a0 l0 ih =>
    unfold State.kvGrow
    split
    ·
      rename_i y0 y1 y2
      have e3 : Keeps 16778121 s (y1) := by
        refine Keeps.snd_eq y2 ?_
        refine Keeps.step (State.kvAlloc_keeps ..) rfl ?_
        exact Keeps.refl _
      exact e3
    ·
      rename_i y4 y5 y6 y7
      have e8 : Keeps 16778121 s (y6) := by
        refine Keeps.snd_eq y7 ?_
        refine Keeps.step (State.kvAlloc_keeps ..) rfl ?_
        exact Keeps.refl _
      refine Keeps.step (ih ..) rfl ?_
      refine Keeps.step (State.setReserved_keeps ..) rfl ?_
      refine Keeps.step (State.setL2_keeps ..) rfl ?_
      exact e8

theorem State.putTokens_keeps : ∀ s n slot pos toks, Keeps 137 s (State.putTokens s n slot pos toks) := by
  intro s n slot pos toks
  unfold State.putTokens
  refine Keeps.fold ?_ ?_
  ·
    exact Keeps.refl _
  ·
    intro z0 q1 h2
    split
    ·
      rename_i y3 y4 y5
      refine Keeps.step (State.putBytes_keeps ..) rfl ?_
      exact h2
    ·
      rename_i y6 y7
      exact h2

theorem State.kvEnd_keeps : ∀ s it st tokens record, Keeps 8388841 s (State.kvEnd s it st tokens record) := by
  intro s it st tokens record
  unfold State.kvEnd
  lift_lets -underBinder
  extract_lets -descend x0 x1 x2 x3 x4 x5 x6
  clear_value x0
  clear_value x1
  clear_value x2
  clear_value x3
  clear_value x4
  clear_value x5
  have hx6 : Keeps 8388841 s x6 := by
    unfold x6
    refine Keeps.ite ?_ ?_
    ·
      exact Keeps.refl _
    ·
      refine Keeps.ite ?_ ?_
      ·
        refine Keeps.step (State.putBytes_keeps ..) rfl ?_
        exact Keeps.refl _
      ·
        refine Keeps.step (State.engFail_keeps ..) rfl ?_
        exact Keeps.refl _
  clear_value x6
  refine Keeps.step (State.finishItem_keeps ..) rfl ?_
  exact hx6

theorem State.kvOpenCmd_keeps : ∀ s it, Keeps 25166825 s (State.kvOpenCmd s it) := by
  intro s it
  unfold State.kvOpenCmd
  lift_lets -underBinder
  extract_lets -descend x0 x1 x2 x3 x4
  clear_value x0
  clear_value x1
  clear_value x2
  clear_value x3
  clear_value x4
  refine Keeps.ite ?_ ?_
  ·
    refine Keeps.step (State.kvEnd_keeps ..) rfl ?_
    exact Keeps.refl _
  ·
    split
    ·
      rename_i y5 y6
      lift_lets -underBinder
      extract_lets -descend x7 x8
      clear_value x7
      clear_value x8
      split
      ·
        rename_i y9 y10 y11 y12
        lift_lets -underBinder
        extract_lets -descend x13 x14 x15 x16 x17 x18 x19 x20
        have hx13 : Keeps 25166825 s x13 := by
          unfold x13
          refine Keeps.ite ?_ ?_
          ·
            refine Keeps.step (State.inc_keeps ..) rfl ?_
            exact Keeps.refl _
          ·
            exact Keeps.refl _
        clear_value x13
        clear_value x14
        clear_value x15
        clear_value x16
        have hx17 : Keeps 25166825 s x17 := by
          unfold x17
          refine Keeps.fold ?_ ?_
          ·
            exact hx13
          ·
            intro z21 q22 h23
            refine Keeps.step (State.kvRef_keeps ..) rfl ?_
            exact h23
        clear_value x17
        have hx18 : Keeps 25166825 s x18 := by
          unfold x18
          refine Keeps.fold ?_ ?_
          ·
            exact hx17
          ·
            intro z24 q25 h26
            refine Keeps.step (State.setL2_keeps ..) rfl ?_
            exact h26
        clear_value x18
        have hx19 : Keeps 25166825 s x19 := by
          unfold x19
          refine Keeps.step (State.setReserved_keeps ..) rfl ?_
          exact hx18
        clear_value x19
        clear_value x20
        refine Keeps.ite ?_ ?_
        ·
          refine Keeps.step (State.kvEnd_keeps ..) rfl ?_
          refine Keeps.step (State.inc_keeps ..) rfl ?_
          exact hx13
        ·
          split
          ·
            rename_i y27 y28 y29 y30
            have e31 : Keeps 25166825 s (y29) := by
              refine Keeps.snd_eq y30 ?_
              refine Keeps.step (State.kvGrow_keeps ..) rfl ?_
              exact hx19
            lift_lets -underBinder
            extract_lets -descend x32 x33 x34 x35 x36
            have hx32 : Keeps 25166825 s x32 := by
              unfold x32
              refine Keeps.step (State.setL1_keeps ..) rfl ?_
              exact e31
            clear_value x32
            have hx33 : Keeps 25166825 s x33 := by
              unfold x33
              refine Keeps.step (State.putTokens_keeps ..) rfl ?_
              exact hx32
            clear_value x33
            clear_value x34
            have hx35 : Keeps 25166825 s x35 := by
              unfold x35
              refine Keeps.step (State.setKv_keeps ..) rfl ?_
              exact hx33
            clear_value x35
            have hx36 : Keeps 25166825 s x36 := by
              unfold x36
              refine Keeps.step (State.setFld_keeps ..) rfl ?_
              exact hx35
            clear_value x36
            refine Keeps.step (State.kvEnd_keeps ..) rfl ?_
            refine Keeps.step (State.add64_keeps ..) rfl ?_
            exact hx36
    ·
      rename_i y37 y38
      refine Keeps.step (State.kvEnd_keeps ..) rfl ?_
      refine Keeps.step (State.engFail_keeps ..) rfl ?_
      exact Keeps.refl _

theorem State.kvCow_keeps : ∀ s n slot b rows old, Keeps 16778121 s (State.kvCow s n slot b rows old).2 := by
  intro s n slot b rows old
  unfold State.kvCow
  split
  ·
    rename_i y0 y1 y2
    have e3 : Keeps 16778121 s (y1) := by
      refine Keeps.snd_eq y2 ?_
      refine Keeps.step (State.kvAlloc_keeps ..) rfl ?_
      exact Keeps.refl _
    exact e3
  ·
    rename_i y4 y5 y6 y7
    have e8 : Keeps 16778121 s (y6) := by
      refine Keeps.snd_eq y7 ?_
      refine Keeps.step (State.kvAlloc_keeps ..) rfl ?_
      exact Keeps.refl _
    lift_lets -underBinder
    extract_lets -descend x9 x10 x11 x12 x13
    clear_value x9
    have hx10 : Keeps 16778121 s x10 := by
      unfold x10
      refine Keeps.fold ?_ ?_
      ·
        exact e8
      ·
        intro z14 q15 h16
        lift_lets -underBinder
        extract_lets -descend x17 x18
        clear_value x17
        clear_value x18
        refine Keeps.step (State.putBytes_keeps ..) rfl ?_
        refine Keeps.step (State.putBytes_keeps ..) rfl ?_
        exact h16
    clear_value x10
    have hx11 : Keeps 16778121 s x11 := by
      unfold x11
      refine Keeps.step (State.putBytes_keeps ..) rfl ?_
      exact hx10
    clear_value x11
    have hx12 : Keeps 16778121 s x12 := by
      unfold x12
      refine Keeps.step (State.kvUnref_keeps ..) rfl ?_
      refine Keeps.step (State.setL2_keeps ..) rfl ?_
      exact hx11
    clear_value x12
    have hx13 : Keeps 16778121 s x13 := by
      unfold x13
      refine Keeps.step (State.labDrop_keeps ..) rfl ?_
      exact hx12
    clear_value x13
    dsimp -zeta only
    refine Keeps.step (State.inc_keeps ..) rfl ?_
    exact hx13

theorem State.kvAppendCmd_keeps : ∀ s it, Keeps 25166825 s (State.kvAppendCmd s it) := by
  intro s it
  unfold State.kvAppendCmd
  lift_lets -underBinder
  extract_lets -descend x0 x1 x2 x3 x4 x5
  clear_value x0
  clear_value x1
  clear_value x2
  clear_value x3
  clear_value x4
  clear_value x5
  refine Keeps.ite ?_ ?_
  ·
    refine Keeps.step (State.kvEnd_keeps ..) rfl ?_
    exact Keeps.refl _
  ·
    refine Keeps.ite ?_ ?_
    ·
      refine Keeps.step (State.kvEnd_keeps ..) rfl ?_
      exact Keeps.refl _
    ·
      split
      ·
        rename_i y6 y7
        lift_lets -underBinder
        extract_lets -descend x8 x9 x10
        clear_value x8
        clear_value x9
        clear_value x10
        split
        ·
          rename_i y11 y12 y13 y14
          have e15 : Keeps 25166825 s (y13) := by
            refine Keeps.snd_eq y14 ?_
            split
            ·
              rename_i y16 y17
              have e18 : Keeps 25166825 s (y13) := by
                refine Keeps.snd_eq y14 ?_
                split
                ·
                  rename_i y19 y20 y21
                  split
                  ·
                    rename_i y22 y23 y24 y25
                    have e26 : Keeps 25166825 s (y24) := by
                      refine Keeps.snd_eq y25 ?_
                      refine Keeps.step (State.kvCow_keeps ..) rfl ?_
                      exact Keeps.refl _
                    dsimp -zeta only
                    refine Keeps.step (State.setReserved_keeps ..) rfl ?_
                    exact e26
                ·
                  rename_i y27 y28
                  dsimp -zeta only
                  exact Keeps.refl _
              split
              ·
                rename_i y29 y30 y31 y32
                have e33 : Keeps 25166825 s (y31) := by
                  refine Keeps.snd_eq y32 ?_
                  refine Keeps.step (State.kvCow_keeps ..) rfl ?_
                  exact Keeps.refl _
                dsimp -zeta only
                refine Keeps.step (State.setReserved_keeps ..) rfl ?_
                exact e33
            ·
              rename_i y34
              have e35 : Keeps 25166825 s (y13) := by
                refine Keeps.snd_eq y14 ?_
                split
                ·
                  rename_i y36 y37 y38
                  split
                  ·
                    rename_i y39 y40 y41 y42
                    have e43 : Keeps 25166825 s (y41) := by
                      refine Keeps.snd_eq y42 ?_
                      refine Keeps.step (State.kvCow_keeps ..) rfl ?_
                      exact Keeps.refl _
                    dsimp -zeta only
                    refine Keeps.step (State.setReserved_keeps ..) rfl ?_
                    exact e43
                ·
                  rename_i y44 y45
                  dsimp -zeta only
                  exact Keeps.refl _
              dsimp -zeta only
              exact Keeps.refl _
          lift_lets -underBinder
          extract_lets -descend x46 x47 x48
          clear_value x46
          clear_value x47
          clear_value x48
          refine Keeps.ite ?_ ?_
          ·
            refine Keeps.step (State.kvEnd_keeps ..) rfl ?_
            exact e15
          ·
            split
            ·
              rename_i y49 y50 y51 y52
              have e53 : Keeps 25166825 s (y51) := by
                refine Keeps.snd_eq y52 ?_
                refine Keeps.step (State.kvGrow_keeps ..) rfl ?_
                exact e15
              lift_lets -underBinder
              extract_lets -descend x54
              have hx54 : Keeps 25166825 s x54 := by
                unfold x54
                refine Keeps.step (State.setL1_keeps ..) rfl ?_
                exact e53
              clear_value x54
              refine Keeps.step (State.kvEnd_keeps ..) rfl ?_
              refine Keeps.step (State.putTokens_keeps ..) rfl ?_
              exact hx54
      ·
        rename_i y55 y56
        refine Keeps.step (State.kvEnd_keeps ..) rfl ?_
        refine Keeps.step (State.engFail_keeps ..) rfl ?_
        exact Keeps.refl _

theorem State.kvForkCmd_keeps : ∀ s it, Keeps 8389097 s (State.kvForkCmd s it) := by
  intro s it
  unfold State.kvForkCmd
  lift_lets -underBinder
  extract_lets -descend x0 x1 x2 x3 x4 x5 x6 x7 x8 x9 x10
  clear_value x0
  clear_value x1
  clear_value x2
  clear_value x3
  clear_value x4
  clear_value x5
  clear_value x6
  have hx7 : Keeps 8389097 s x7 := by
    unfold x7
    refine Keeps.fold ?_ ?_
    ·
      exact Keeps.refl _
    ·
      intro z11 q12 h13
      split
      ·
        rename_i y14 y15 y16
        refine Keeps.step (State.setL2_keeps ..) rfl ?_
        refine Keeps.step (State.kvRef_keeps ..) rfl ?_
        exact h13
      ·
        rename_i y17 y18
        exact h13
  clear_value x7
  have hx8 : Keeps 8389097 s x8 := by
    unfold x8
    refine Keeps.step (State.setL1_keeps ..) rfl ?_
    refine Keeps.step (State.setReserved_keeps ..) rfl ?_
    exact hx7
  clear_value x8
  clear_value x9
  have hx10 : Keeps 8389097 s x10 := by
    unfold x10
    refine Keeps.step (State.setKv_keeps ..) rfl ?_
    exact hx8
  clear_value x10
  refine Keeps.ite ?_ ?_
  ·
    refine Keeps.step (State.kvEnd_keeps ..) rfl ?_
    exact Keeps.refl _
  ·
    refine Keeps.ite ?_ ?_
    ·
      refine Keeps.step (State.kvEnd_keeps ..) rfl ?_
      refine Keeps.step (State.inc_keeps ..) rfl ?_
      exact Keeps.refl _
    ·
      refine Keeps.step (State.kvEnd_keeps ..) rfl ?_
      refine Keeps.step (State.setFld_keeps ..) rfl ?_
      exact hx10

theorem State.kvPublishCmd_keeps : ∀ s it, Keeps 8389097 s (State.kvPublishCmd s it) := by
  intro s it
  unfold State.kvPublishCmd
  lift_lets -underBinder
  extract_lets -descend x0 x1 x2 x3 x4
  clear_value x0
  clear_value x1
  clear_value x2
  clear_value x3
  have hx4 : Keeps 8389097 s x4.2 := by
    unfold x4
    refine Keeps.foldl (fun z : _ × State => z.2) ?_ ?_
    ·
      dsimp -zeta only
      exact Keeps.refl _
    ·
      rintro ⟨z8, z9⟩ q6 h7
      dsimp -zeta only at h7 ⊢
      split
      ·
        rename_i y10 y11
        exact h7
      ·
        rename_i y12 y13 y14
        lift_lets -underBinder
        extract_lets -descend x15 x16 x17 x18
        clear_value x15
        clear_value x16
        clear_value x17
        clear_value x18
        dsimp -zeta only
        refine Keeps.ite ?_ ?_
        ·
          exact h7
        ·
          refine Keeps.step (State.setKv_keeps ..) rfl ?_
          exact h7
  clear_value x4
  refine Keeps.ite ?_ ?_
  ·
    refine Keeps.step (State.kvEnd_keeps ..) rfl ?_
    exact Keeps.refl _
  ·
    refine Keeps.step (State.kvEnd_keeps ..) rfl ?_
    exact hx4

theorem State.kvRelease_keeps : ∀ s it, Keeps 8389609 s (State.kvRelease s it) := by
  intro s it
  unfold State.kvRelease
  lift_lets -underBinder
  extract_lets -descend x0 x1 x2 x3 x4 x5 x6 x7 x8
  clear_value x0
  clear_value x1
  clear_value x2
  have hx3 : Keeps 8389609 s x3 := by
    unfold x3
    refine Keeps.fold ?_ ?_
    ·
      exact Keeps.refl _
    ·
      intro z9 q10 h11
      split
      ·
        rename_i y12 y13 y14
        refine Keeps.step (State.setL2_keeps ..) rfl ?_
        refine Keeps.step (State.kvUnref_keeps ..) rfl ?_
        exact h11
      ·
        rename_i y15 y16
        exact h11
  clear_value x3
  have hx4 : Keeps 8389609 s x4 := by
    unfold x4
    refine Keeps.step (State.setReserved_keeps ..) rfl ?_
    exact hx3
  clear_value x4
  have hx5 : Keeps 8389609 s x5 := by
    unfold x5
    refine Keeps.step (State.setL1_keeps ..) rfl ?_
    exact hx4
  clear_value x5
  clear_value x6
  have hx7 : Keeps 8389609 s x7 := by
    unfold x7
    refine Keeps.step (State.setKv_keeps ..) rfl ?_
    exact hx5
  clear_value x7
  have hx8 : Keeps 8389609 s x8 := by
    unfold x8
    refine Keeps.step (State.labDrop_keeps ..) rfl ?_
    exact hx7
  clear_value x8
  refine Keeps.step (State.kvEnd_keeps ..) rfl ?_
  refine Keeps.step (State.setFld_keeps ..) rfl ?_
  exact hx8

theorem State.kvCloseCmd_keeps : ∀ s it, Keeps 8389609 s (State.kvCloseCmd s it) := by
  intro s it
  unfold State.kvCloseCmd
  lift_lets -underBinder
  extract_lets -descend x0 x1 x2
  clear_value x0
  clear_value x1
  clear_value x2
  refine Keeps.ite ?_ ?_
  ·
    refine Keeps.step (State.kvEnd_keeps ..) rfl ?_
    exact Keeps.refl _
  ·
    refine Keeps.ite ?_ ?_
    ·
      refine Keeps.step (State.kvRelease_keeps ..) rfl ?_
      exact Keeps.refl _
    ·
      refine Keeps.step (State.setKv_keeps ..) rfl ?_
      exact Keeps.refl _

theorem State.kvDeliver_keeps : ∀ s n a2, Keeps 417 s (State.kvDeliver s n a2) := by
  intro s n a2
  induction a2 generalizing s n with
  | zero =>
    unfold State.kvDeliver
    exact Keeps.refl _
  | succ n0 ih =>
    unfold State.kvDeliver
    lift_lets -underBinder
    extract_lets -descend x0
    clear_value x0
    refine Keeps.ite ?_ ?_
    ·
      exact Keeps.refl _
    ·
      split
      ·
        rename_i y1 y2
        exact Keeps.refl _
      ·
        rename_i y3 y4 y5 y6
        refine Keeps.step (ih ..) rfl ?_
        refine Keeps.step (State.setKv_keeps ..) rfl ?_
        refine Keeps.step (State.handItem_keeps ..) rfl ?_
        exact Keeps.refl _

theorem State.zeroRange_keeps : ∀ s a n, Keeps 137 s (State.zeroRange s a n) := by
  intro s a n
  unfold State.zeroRange
  lift_lets -underBinder
  extract_lets -descend x0 x1 x2 x3
  clear_value x1
  have hx2 : Keeps 137 s x2 := by
    unfold x2
    refine Keeps.fold ?_ ?_
    ·
      exact Keeps.refl _
    ·
      intro z4 q5 h6
      refine Keeps.fold ?_ ?_
      ·
        exact h6
      ·
        intro z7 q8 h9
        refine Keeps.ite ?_ ?_
        ·
          refine Keeps.step (State.putByte_keeps ..) rfl ?_
          exact h9
        ·
          exact h9
  clear_value x2
  have hx3 : Keeps 137 s x3 := by
    unfold x3
    refine Keeps.step (State.clearPoison_keeps ..) rfl ?_
    exact hx2
  clear_value x3
  refine Keeps.set_mem rfl ?_ ?_
  ·
    exact fun h => Tbl.wf_filter _ _ _ h
  ·
    exact hx3

theorem State.kvFreshSpace_keeps : ∀ s n, Keeps 905 s (State.kvFreshSpace s n) := by
  intro s n
  unfold State.kvFreshSpace
  lift_lets -underBinder
  extract_lets -descend x0 x1 x2 x3 x4
  have hx0 : Keeps 905 s x0 := by
    unfold x0
    refine Keeps.step (State.zeroRange_keeps ..) rfl ?_
    exact Keeps.refl _
  clear_value x0
  have hx1 : Keeps 905 s x1 := by
    unfold x1
    refine Keeps.step (State.zeroRange_keeps ..) rfl ?_
    exact hx0
  clear_value x1
  clear_value x2
  have hx3 : Keeps 905 s x3 := by
    unfold x3
    refine Keeps.step (State.setKv_keeps ..) rfl ?_
    exact hx1
  clear_value x3
  have hx4 : Keeps 905 s x4 := by
    unfold x4
    refine Keeps.step (State.setFld_keeps ..) rfl ?_
    refine Keeps.step (State.setReserved_keeps ..) rfl ?_
    exact hx3
  clear_value x4
  refine Keeps.step (State.labDrop_keeps ..) rfl ?_
  exact hx4

theorem State.writeKvCfg_keeps : ∀ s n v, Keeps 8389513 s (State.writeKvCfg s n v) := by
  intro s n v
  unfold State.writeKvCfg
  lift_lets -underBinder
  extract_lets -descend x0 x1 x2 x3 x4 x5
  clear_value x0
  clear_value x1
  clear_value x2
  have hx3 : Keeps 8389513 s x3 := by
    unfold x3
    refine Keeps.step (State.setReg_keeps ..) rfl ?_
    exact Keeps.refl _
  clear_value x3
  have hx4 : Keeps 8389513 s x4 := by
    unfold x4
    refine Keeps.step (State.setFld_keeps ..) rfl ?_
    refine Keeps.step (State.setFld_keeps ..) rfl ?_
    exact hx3
  clear_value x4
  have hx5 : Keeps 8389513 s x5 := by
    unfold x5
    refine Keeps.fold ?_ ?_
    ·
      exact hx4
    ·
      intro z6 q7 h8
      refine Keeps.step (State.setReg_keeps ..) rfl ?_
      exact h8
  clear_value x5
  refine Keeps.ite ?_ ?_
  ·
    refine Keeps.ite ?_ ?_
    ·
      exact Keeps.refl _
    ·
      refine Keeps.ite ?_ ?_
      ·
        refine Keeps.step (State.setFld_keeps ..) rfl ?_
        exact Keeps.refl _
      ·
        refine Keeps.step (State.log_keeps ..) rfl ?_
        exact Keeps.refl _
  ·
    refine Keeps.ite ?_ ?_
    ·
      exact hx3
    ·
      refine Keeps.ite ?_ ?_
      ·
        refine Keeps.step (State.kvFreshSpace_keeps ..) rfl ?_
        exact hx5
      ·
        refine Keeps.step (State.setFld_keeps ..) rfl ?_
        exact hx3

theorem State.resetKv_keeps : ∀ s i, Keeps 905 s (State.resetKv s i) := by
  intro s i
  unfold State.resetKv
  lift_lets -underBinder
  extract_lets -descend x0
  have hx0 : Keeps 905 s x0 := by
    unfold x0
    refine Keeps.fold ?_ ?_
    ·
      exact Keeps.refl _
    ·
      intro z1 q2 h3
      refine Keeps.step (State.kvFreshSpace_keeps ..) rfl ?_
      exact h3
  clear_value x0
  refine Keeps.step (State.labDrop_keeps ..) rfl ?_
  exact hx0

theorem execKvOpen_keeps : ∀ space s, KeepsOut 25166825 s (execKvOpen space s) := by
  intro space s
  unfold execKvOpen
  refine KeepsOut.next ?_
  unfold State.kvCommand
  lift_lets -underBinder
  extract_lets -descend x0 x1
  have hx0 : Keeps 25166825 s x0 := by
    unfold x0
    refine Keeps.step (State.kvDeliver_keeps ..) rfl ?_
    exact Keeps.refl _
  clear_value x0
  clear_value x1
  split
  ·
    rename_i y2 y3 y4 y5 y6 y7
    refine Keeps.ite ?_ ?_
    ·
      refine Keeps.step (State.dropDma_keeps ..) rfl ?_
      refine Keeps.step (State.setKv_keeps ..) rfl ?_
      exact hx0
    ·
      refine Keeps.ite ?_ ?_
      ·
        refine Keeps.ite ?_ ?_
        ·
          refine Keeps.step (State.kvEnd_keeps ..) rfl ?_
          refine Keeps.step (State.setKv_keeps ..) rfl ?_
          exact hx0
        ·
          exact hx0
      ·
        refine Keeps.ite ?_ ?_
        ·
          exact hx0
        ·
          lift_lets -underBinder
          extract_lets -descend x8
          have hx8 : Keeps 25166825 s x8 := by
            unfold x8
            refine Keeps.step (State.setKv_keeps ..) rfl ?_
            exact hx0
          clear_value x8
          refine Keeps.ite ?_ ?_
          ·
            refine Keeps.step (State.kvEnd_keeps ..) rfl ?_
            exact hx8
          ·
            refine Keeps.step (State.kvOpenCmd_keeps ..) rfl ?_
            exact hx8
  ·
    rename_i y9 y10 y11
    exact hx0

theorem execKvAppend_keeps : ∀ space s, KeepsOut 25166825 s (execKvAppend space s) := by
  intro space s
  unfold execKvAppend
  refine KeepsOut.next ?_
  unfold State.kvCommand
  lift_lets -underBinder
  extract_lets -descend x0 x1
  have hx0 : Keeps 25166825 s x0 := by
    unfold x0
    refine Keeps.step (State.kvDeliver_keeps ..) rfl ?_
    exact Keeps.refl _
  clear_value x0
  clear_value x1
  split
  ·
    rename_i y2 y3 y4 y5 y6 y7
    refine Keeps.ite ?_ ?_
    ·
      refine Keeps.step (State.dropDma_keeps ..) rfl ?_
      refine Keeps.step (State.setKv_keeps ..) rfl ?_
      exact hx0
    ·
      refine Keeps.ite ?_ ?_
      ·
        refine Keeps.ite ?_ ?_
        ·
          refine Keeps.step (State.kvEnd_keeps ..) rfl ?_
          refine Keeps.step (State.setKv_keeps ..) rfl ?_
          exact hx0
        ·
          exact hx0
      ·
        refine Keeps.ite ?_ ?_
        ·
          exact hx0
        ·
          lift_lets -underBinder
          extract_lets -descend x8
          have hx8 : Keeps 25166825 s x8 := by
            unfold x8
            refine Keeps.step (State.setKv_keeps ..) rfl ?_
            exact hx0
          clear_value x8
          refine Keeps.ite ?_ ?_
          ·
            refine Keeps.step (State.kvEnd_keeps ..) rfl ?_
            exact hx8
          ·
            refine Keeps.step (State.kvAppendCmd_keeps ..) rfl ?_
            exact hx8
  ·
    rename_i y9 y10 y11
    exact hx0

theorem execKvFork_keeps : ∀ space s, KeepsOut 8389097 s (execKvFork space s) := by
  intro space s
  unfold execKvFork
  refine KeepsOut.next ?_
  unfold State.kvCommand
  lift_lets -underBinder
  extract_lets -descend x0 x1
  have hx0 : Keeps 8389097 s x0 := by
    unfold x0
    refine Keeps.step (State.kvDeliver_keeps ..) rfl ?_
    exact Keeps.refl _
  clear_value x0
  clear_value x1
  split
  ·
    rename_i y2 y3 y4 y5 y6 y7
    refine Keeps.ite ?_ ?_
    ·
      refine Keeps.step (State.dropDma_keeps ..) rfl ?_
      refine Keeps.step (State.setKv_keeps ..) rfl ?_
      exact hx0
    ·
      refine Keeps.ite ?_ ?_
      ·
        refine Keeps.ite ?_ ?_
        ·
          refine Keeps.step (State.kvEnd_keeps ..) rfl ?_
          refine Keeps.step (State.setKv_keeps ..) rfl ?_
          exact hx0
        ·
          exact hx0
      ·
        refine Keeps.ite ?_ ?_
        ·
          exact hx0
        ·
          lift_lets -underBinder
          extract_lets -descend x8
          have hx8 : Keeps 8389097 s x8 := by
            unfold x8
            refine Keeps.step (State.setKv_keeps ..) rfl ?_
            exact hx0
          clear_value x8
          refine Keeps.ite ?_ ?_
          ·
            refine Keeps.step (State.kvEnd_keeps ..) rfl ?_
            exact hx8
          ·
            refine Keeps.step (State.kvForkCmd_keeps ..) rfl ?_
            exact hx8
  ·
    rename_i y9 y10 y11
    exact hx0

theorem execKvPublish_keeps : ∀ space s, KeepsOut 8389097 s (execKvPublish space s) := by
  intro space s
  unfold execKvPublish
  refine KeepsOut.next ?_
  unfold State.kvCommand
  lift_lets -underBinder
  extract_lets -descend x0 x1
  have hx0 : Keeps 8389097 s x0 := by
    unfold x0
    refine Keeps.step (State.kvDeliver_keeps ..) rfl ?_
    exact Keeps.refl _
  clear_value x0
  clear_value x1
  split
  ·
    rename_i y2 y3 y4 y5 y6 y7
    refine Keeps.ite ?_ ?_
    ·
      refine Keeps.step (State.dropDma_keeps ..) rfl ?_
      refine Keeps.step (State.setKv_keeps ..) rfl ?_
      exact hx0
    ·
      refine Keeps.ite ?_ ?_
      ·
        refine Keeps.ite ?_ ?_
        ·
          refine Keeps.step (State.kvEnd_keeps ..) rfl ?_
          refine Keeps.step (State.setKv_keeps ..) rfl ?_
          exact hx0
        ·
          exact hx0
      ·
        refine Keeps.ite ?_ ?_
        ·
          exact hx0
        ·
          lift_lets -underBinder
          extract_lets -descend x8
          have hx8 : Keeps 8389097 s x8 := by
            unfold x8
            refine Keeps.step (State.setKv_keeps ..) rfl ?_
            exact hx0
          clear_value x8
          refine Keeps.ite ?_ ?_
          ·
            refine Keeps.step (State.kvEnd_keeps ..) rfl ?_
            exact hx8
          ·
            refine Keeps.step (State.kvPublishCmd_keeps ..) rfl ?_
            exact hx8
  ·
    rename_i y9 y10 y11
    exact hx0

theorem execKvClose_keeps : ∀ space s, KeepsOut 8389609 s (execKvClose space s) := by
  intro space s
  unfold execKvClose
  refine KeepsOut.next ?_
  unfold State.kvCommand
  lift_lets -underBinder
  extract_lets -descend x0 x1
  have hx0 : Keeps 8389609 s x0 := by
    unfold x0
    refine Keeps.step (State.kvDeliver_keeps ..) rfl ?_
    exact Keeps.refl _
  clear_value x0
  clear_value x1
  split
  ·
    rename_i y2 y3 y4 y5 y6 y7
    refine Keeps.ite ?_ ?_
    ·
      refine Keeps.step (State.dropDma_keeps ..) rfl ?_
      refine Keeps.step (State.setKv_keeps ..) rfl ?_
      exact hx0
    ·
      refine Keeps.ite ?_ ?_
      ·
        refine Keeps.ite ?_ ?_
        ·
          refine Keeps.step (State.kvEnd_keeps ..) rfl ?_
          refine Keeps.step (State.setKv_keeps ..) rfl ?_
          exact hx0
        ·
          exact hx0
      ·
        refine Keeps.ite ?_ ?_
        ·
          exact hx0
        ·
          lift_lets -underBinder
          extract_lets -descend x8
          have hx8 : Keeps 8389609 s x8 := by
            unfold x8
            refine Keeps.step (State.setKv_keeps ..) rfl ?_
            exact hx0
          clear_value x8
          refine Keeps.ite ?_ ?_
          ·
            refine Keeps.step (State.kvEnd_keeps ..) rfl ?_
            exact hx8
          ·
            refine Keeps.step (State.kvCloseCmd_keeps ..) rfl ?_
            exact hx8
  ·
    rename_i y9 y10 y11
    exact hx0

theorem execKvCloseRelease_keeps : ∀ space slot s, KeepsOut 8389609 s (execKvCloseRelease space slot s) := by
  intro space slot s
  unfold execKvCloseRelease
  lift_lets -underBinder
  extract_lets -descend x0
  clear_value x0
  split
  ·
    rename_i y1 y2 y3 y4
    split
    ·
      rename_i y5
      split
      ·
        rename_i y6
        refine KeepsOut.next ?_
        refine Keeps.step (State.dropDma_keeps ..) rfl ?_
        refine Keeps.step (State.setKv_keeps ..) rfl ?_
        exact Keeps.refl _
      ·
        rename_i y7
        refine KeepsOut.next ?_
        refine Keeps.step (State.kvRelease_keeps ..) rfl ?_
        exact Keeps.refl _
    ·
      rename_i y8
      refine KeepsOut.next ?_
      exact Keeps.refl _
  ·
    rename_i y9 y10
    refine KeepsOut.next ?_
    exact Keeps.refl _

theorem execKvTranslation_keeps : ∀ d space slot block s, KeepsOut 513 s (execKvTranslation d space slot block s) := by
  intro d space slot block s
  unfold execKvTranslation
  refine KeepsOut.next ?_
  refine Keeps.ite ?_ ?_
  ·
    exact Keeps.refl _
  ·
    refine Keeps.step (State.kvTranslate_keeps ..) rfl ?_
    exact Keeps.refl _

theorem execKvSpaceEnable_keeps : ∀ req space val s, KeepsOut 8389513 s (execKvSpaceEnable req space val s) := by
  intro req space val s
  unfold execKvSpaceEnable
  lift_lets -underBinder
  extract_lets -descend x0
  clear_value x0
  split
  ·
    rename_i y1
    refine KeepsOut.next ?_
    refine Keeps.step (State.writeKvCfg_keeps ..) rfl ?_
    exact Keeps.refl _
  ·
    rename_i y2
    refine KeepsOut.next ?_
    refine Keeps.step (State.regRefused_keeps ..) rfl ?_
    exact Keeps.refl _

theorem execKvSpaceDisable_keeps : ∀ req space val s, KeepsOut 8389513 s (execKvSpaceDisable req space val s) := by
  intro req space val s
  unfold execKvSpaceDisable
  lift_lets -underBinder
  extract_lets -descend x0
  clear_value x0
  split
  ·
    rename_i y1
    refine KeepsOut.next ?_
    refine Keeps.step (State.writeKvCfg_keeps ..) rfl ?_
    exact Keeps.refl _
  ·
    rename_i y2
    refine KeepsOut.next ?_
    refine Keeps.step (State.regRefused_keeps ..) rfl ?_
    exact Keeps.refl _

end Sys2Proof.Machine
end

