-- ==== Sys2Proof/Laws/KeepsSfu.lean ====
section
/-! SUPPORT. What each operation and each command of Machine/Sfu.lean touches, one lemma each: the bits of its mask are the
parts of the state that it may change; the queue and the canonical form of the memories it keeps. -/
namespace Sys2Proof.Machine

theorem State.runRow_keeps : ∀ s c it d leg r, Keeps 137 s (State.runRow s c it d leg r).2.2 := by
  intro s c it d leg r
  unfold State.runRow
  lift_lets -underBinder
  extract_lets -descend x0 x1 x2 x3 x4 x5
  clear_value x0
  clear_value x1
  clear_value x2
  clear_value x3
  clear_value x4
  clear_value x5
  split
  ·
    rename_i y6 y7 y8
    lift_lets -underBinder
    extract_lets -descend x9 x10 x11 x12 x13 x14 x15 x16 x17 x18 x19 x20 x21 x22
    clear_value x9
    clear_value x10
    clear_value x11
    clear_value x12
    clear_value x13
    clear_value x14
    have hx15 : Keeps 137 s x15 := by
      unfold x15
      refine Keeps.ite ?_ ?_
      ·
        refine Keeps.step (State.putNat_keeps ..) rfl ?_
        refine Keeps.step (State.putNat_keeps ..) rfl ?_
        exact Keeps.refl _
      ·
        exact Keeps.refl _
    clear_value x15
    have hx16 : Keeps 137 s x16 := by
      unfold x16
      refine Keeps.ite ?_ ?_
      ·
        exact hx15
      ·
        refine Keeps.step (State.fpEvent_keeps ..) rfl ?_
        exact hx15
    clear_value x16
    have hx17 : Keeps 137 s x17 := by
      unfold x17
      refine Keeps.ite ?_ ?_
      ·
        refine Keeps.step (State.inc_keeps ..) rfl ?_
        exact hx16
      ·
        exact hx16
    clear_value x17
    clear_value x18
    clear_value x20
    have hx21 : Keeps 137 s x21 := by
      unfold x21
      refine Keeps.ite ?_ ?_
      ·
        refine Keeps.step (State.fpEvent_keeps ..) rfl ?_
        exact hx17
      ·
        exact hx17
    clear_value x21
    have hx22 : Keeps 137 s x22 := by
      unfold x22
      refine Keeps.ite ?_ ?_
      ·
        refine Keeps.step (State.putBytes_keeps ..) rfl ?_
        exact hx21
      ·
        exact hx21
    clear_value x22
    split
    ·
      rename_i y23
      dsimp -zeta only
      exact Keeps.refl _
    ·
      rename_i y24
      split
      ·
        rename_i y25
        exact hx17
      ·
        rename_i y26
        dsimp -zeta only
        refine Keeps.step (State.add64_keeps ..) rfl ?_
        exact hx22
  ·
    rename_i y27 y28 y29 y30 y31
    dsimp -zeta only
    exact Keeps.refl _

theorem State.runRowOp_keeps : ∀ s c op, Keeps 8388841 s (State.runRowOp s c op) := by
  intro s c op
  unfold State.runRowOp
  split
  ·
    rename_i y0 y1
    exact Keeps.refl _
  ·
    rename_i y2 y3 y4
    lift_lets -underBinder
    extract_lets -descend x5 x6
    clear_value x5
    have hx6 : Keeps 8388841 s x6 := by
      unfold x6
      refine Keeps.step (State.popMx_keeps ..) rfl ?_
      exact Keeps.refl _
    clear_value x6
    refine Keeps.ite ?_ ?_
    ·
      exact Keeps.refl _
    ·
      refine Keeps.ite ?_ ?_
      ·
        exact hx6
      ·
        split
        ·
          rename_i y7 y8
          lift_lets -underBinder
          extract_lets -descend x9 x10
          clear_value x9
          have hx10 : Keeps 8388841 s x10.2.2 := by
            unfold x10
            refine Keeps.foldl (fun z : _ × _ × State => z.2.2) ?_ ?_
            ·
              exact hx6
            ·
              rintro ⟨z14, z15, z16⟩ q12 h13
              dsimp -zeta only at h13 ⊢
              split
              ·
                rename_i y17
                exact h13
              ·
                rename_i y18
                refine Keeps.step (State.runRow_keeps ..) rfl ?_
                exact h13
          clear_value x10
          refine Keeps.step (State.recordMx_keeps ..) rfl ?_
          refine Keeps.ite ?_ ?_
          ·
            exact hx10
          ·
            refine Keeps.step (State.engFail_keeps ..) rfl ?_
            exact hx10
        ·
          rename_i y19 y20
          refine Keeps.step (State.recordMx_keeps ..) rfl ?_
          exact hx6

theorem execSoftMaximum_keeps : ∀ c s, KeepsOut 8388841 s (execSoftMaximum c s) := by
  intro c s
  unfold execSoftMaximum
  refine KeepsOut.next ?_
  refine Keeps.step (State.runRowOp_keeps ..) rfl ?_
  exact Keeps.refl _

theorem execLayernorm_keeps : ∀ c s, KeepsOut 8388841 s (execLayernorm c s) := by
  intro c s
  unfold execLayernorm
  refine KeepsOut.next ?_
  refine Keeps.step (State.runRowOp_keeps ..) rfl ?_
  exact Keeps.refl _

theorem execRmsnorm_keeps : ∀ c s, KeepsOut 8388841 s (execRmsnorm c s) := by
  intro c s
  unfold execRmsnorm
  refine KeepsOut.next ?_
  refine Keeps.step (State.runRowOp_keeps ..) rfl ?_
  exact Keeps.refl _

theorem execSoftMaximumStatistics_keeps : ∀ c s, KeepsOut 8388841 s (execSoftMaximumStatistics c s) := by
  intro c s
  unfold execSoftMaximumStatistics
  refine KeepsOut.next ?_
  refine Keeps.step (State.runRowOp_keeps ..) rfl ?_
  exact Keeps.refl _

theorem execLayernormStatistics_keeps : ∀ c s, KeepsOut 8388841 s (execLayernormStatistics c s) := by
  intro c s
  unfold execLayernormStatistics
  refine KeepsOut.next ?_
  refine Keeps.step (State.runRowOp_keeps ..) rfl ?_
  exact Keeps.refl _

theorem execRmsnormStatistics_keeps : ∀ c s, KeepsOut 8388841 s (execRmsnormStatistics c s) := by
  intro c s
  unfold execRmsnormStatistics
  refine KeepsOut.next ?_
  refine Keeps.step (State.runRowOp_keeps ..) rfl ?_
  exact Keeps.refl _

theorem execGatedActivation_keeps : ∀ c s, KeepsOut 8388841 s (execGatedActivation c s) := by
  intro c s
  unfold execGatedActivation
  refine KeepsOut.next ?_
  refine Keeps.step (State.runRowOp_keeps ..) rfl ?_
  exact Keeps.refl _

end Sys2Proof.Machine
end

