-- ==== Sys2Proof/Laws/KeepsAttn.lean ====
section
/-! SUPPORT. What each operation and each command of Machine/Attn.lean touches, one lemma each: the bits of its mask are the
parts of the state that it may change; the queue and the canonical form of the memories it keeps. -/
namespace Sys2Proof.Machine

theorem State.kvStage_keeps : ∀ s c e d slot n t v, Keeps 513 s (State.kvStage s c e d slot n t v).2.2 := by
  intro s c e d slot n t v
  unfold State.kvStage
  lift_lets -underBinder
  extract_lets -descend x0 x1 x2 x3
  clear_value x0
  clear_value x1
  have hx2 : Keeps 513 s x2.2 := by
    unfold x2
    refine Keeps.foldl (fun z : _ × State => z.2) ?_ ?_
    ·
      dsimp -zeta only
      exact Keeps.refl _
    ·
      rintro ⟨z7, z8⟩ q5 h6
      dsimp -zeta only at h6 ⊢
      refine Keeps.step (State.kvTranslate_keeps ..) rfl ?_
      exact h6
  clear_value x2
  have hx3 : Keeps 513 s x3 := by
    unfold x3
    exact hx2
  clear_value x3
  split
  ·
    rename_i y9
    exact hx3
  ·
    rename_i y10
    split
    ·
      rename_i y11 y12 y13 y14
      dsimp -zeta only
      refine Keeps.ite ?_ ?_
      ·
        refine Keeps.step (State.add64_keeps ..) rfl ?_
        exact hx3
      ·
        exact hx3

theorem State.attnPass_keeps : ∀ s c it p b no rows, Keeps 8388641 s (State.attnPass s c it p b no rows).2 := by
  intro s c it p b no rows
  unfold State.attnPass
  lift_lets -underBinder
  extract_lets -descend x0 x1 x2 x3 x4 x5 x6 x7 x8 x9 x10 x11
  clear_value x1
  clear_value x2
  have hx3 : Keeps 8388641 s x3 := by
    unfold x3
    refine Keeps.step (State.add64_keeps ..) rfl ?_
    refine Keeps.step (State.setFld_keeps ..) rfl ?_
    exact Keeps.refl _
  clear_value x3
  clear_value x4
  clear_value x5
  have hx6 : Keeps 8388641 s x6 := by
    unfold x6
    refine Keeps.step (State.add64_keeps ..) rfl ?_
    refine Keeps.step (State.setArr_keeps ..) rfl ?_
    exact hx3
  clear_value x6
  have hx7 : Keeps 8388641 s x7 := by
    unfold x7
    refine Keeps.ite ?_ ?_
    ·
      refine Keeps.step (State.fpEvent_keeps ..) rfl ?_
      exact hx6
    ·
      exact hx6
  clear_value x7
  have hx8 : Keeps 8388641 s x8 := by
    unfold x8
    refine Keeps.step (State.addSat_keeps ..) rfl ?_
    exact hx7
  clear_value x8
  clear_value x9
  have hx10 : Keeps 8388641 s x10 := by
    unfold x10
    refine Keeps.fold ?_ ?_
    ·
      exact hx8
    ·
      intro z12 q13 h14
      refine Keeps.step (State.recordMismatch_keeps ..) rfl ?_
      exact h14
  clear_value x10
  have hx11 : Keeps 8388641 s x11 := by
    unfold x11
    refine Keeps.fold ?_ ?_
    ·
      exact hx10
    ·
      intro z15 q16 h17
      refine Keeps.step (State.recordMismatch_keeps ..) rfl ?_
      exact h17
  clear_value x11
  exact hx11

theorem State.putRow_keeps : ∀ s c e p base a vals, Keeps 137 s (State.putRow s c e p base a vals).2.2 := by
  intro s c e p base a vals
  unfold State.putRow
  lift_lets -underBinder
  extract_lets -descend x0
  clear_value x0
  split
  ·
    rename_i y1 y2
    lift_lets -underBinder
    extract_lets -descend x3 x4
    clear_value x3
    have hx4 : Keeps 137 s x4 := by
      unfold x4
      refine Keeps.ite ?_ ?_
      ·
        refine Keeps.step (State.fpEvent_keeps ..) rfl ?_
        exact Keeps.refl _
      ·
        exact Keeps.refl _
    clear_value x4
    dsimp -zeta only
    refine Keeps.step (State.putBytes_keeps ..) rfl ?_
    refine Keeps.step (State.fpEvent_keeps ..) rfl ?_
    exact hx4
  ·
    rename_i y5 y6
    dsimp -zeta only
    exact Keeps.refl _

theorem State.putRows_keeps : ∀ s c e p base l, Keeps 137 s (State.putRows s c e p base l).2.2 := by
  intro s c e p base l
  unfold State.putRows
  refine Keeps.foldl (fun z : _ × _ × State => z.2.2) ?_ ?_
  ·
    dsimp -zeta only
    exact Keeps.refl _
  ·
    rintro ⟨z3, z4, z5⟩ q1 h2
    dsimp -zeta only at h2 ⊢
    split
    ·
      rename_i y6
      exact h2
    ·
      rename_i y7
      refine Keeps.step (State.putRow_keeps ..) rfl ?_
      exact h2

theorem State.queryRow_keeps : ∀ s c d e r, Keeps 1 s (State.queryRow s c d e r).2 := by
  intro s c d e r
  unfold State.queryRow
  lift_lets -underBinder
  extract_lets -descend x0 x1 x2
  clear_value x0
  clear_value x1
  clear_value x2
  split
  ·
    rename_i y3
    split
    ·
      rename_i y4 y5 y6 y7
      dsimp -zeta only
      refine Keeps.ite ?_ ?_
      ·
        refine Keeps.step (State.fpEvent_keeps ..) rfl ?_
        exact Keeps.refl _
      ·
        exact Keeps.refl _
  ·
    rename_i y8
    dsimp -zeta only
    exact Keeps.refl _

theorem State.attnScores_keeps : ∀ s c it d e n r0 g no, Keeps 8389289 s (State.attnScores s c it d e n r0 g no).2.2 := by
  intro s c it d e n r0 g no
  unfold State.attnScores
  lift_lets -underBinder
  extract_lets -descend x0 x1 x2 x3
  clear_value x0
  clear_value x1
  clear_value x2
  clear_value x3
  split
  ·
    rename_i y4 y5 y6 y7
    split
    ·
      rename_i y8
      dsimp -zeta only
      exact Keeps.refl _
    ·
      rename_i y9
      split
      ·
        rename_i y10 y11 y12 y13
        have e14 : Keeps 8389289 s (y12) := by
          refine Keeps.snd_eq y13 ?_
          refine Keeps.foldl (fun z : _ × State => z.2) ?_ ?_
          ·
            dsimp -zeta only
            exact Keeps.refl _
          ·
            rintro ⟨z18, z19⟩ q16 h17
            dsimp -zeta only at h17 ⊢
            refine Keeps.step (State.queryRow_keeps ..) rfl ?_
            exact h17
        lift_lets -underBinder
        extract_lets -descend x20
        clear_value x20
        refine Keeps.foldl (fun z : _ × _ × State => z.2.2) ?_ ?_
        ·
          exact e14
        ·
          rintro ⟨z24, z25, z26⟩ q22 h23
          dsimp -zeta only at h23 ⊢
          split
          ·
            rename_i y27
            exact h23
          ·
            rename_i y28
            split
            ·
              rename_i y29
              dsimp -zeta only
              refine Keeps.step (State.kvStage_keeps ..) rfl ?_
              exact h23
            ·
              rename_i y30
              lift_lets -underBinder
              extract_lets -descend x31
              clear_value x31
              dsimp -zeta only
              refine Keeps.step (State.putRows_keeps ..) rfl ?_
              refine Keeps.foldl (fun z : _ × _ × State => z.2.2) ?_ ?_
              ·
                dsimp -zeta only
                refine Keeps.step (State.kvStage_keeps ..) rfl ?_
                exact h23
              ·
                rintro ⟨z35, z36, z37⟩ q33 h34
                dsimp -zeta only at h34 ⊢
                split
                ·
                  rename_i y38
                  exact h34
                ·
                  rename_i y39
                  dsimp -zeta only
                  refine Keeps.step (State.attnPass_keeps ..) rfl ?_
                  exact h34

theorem State.attnNorm_keeps : ∀ s c it d e n r0 k, Keeps 137 s (State.attnNorm s c it d e n r0 k).2.2 := by
  intro s c it d e n r0 k
  unfold State.attnNorm
  lift_lets -underBinder
  extract_lets -descend x0 x1 x2 x3
  clear_value x0
  clear_value x1
  clear_value x2
  clear_value x3
  split
  ·
    rename_i y4 y5 y6 y7
    split
    ·
      rename_i y8 y9 y10 y11
      lift_lets -underBinder
      extract_lets -descend x12 x13 x14 x15 x16 x17 x18 x19
      clear_value x12
      clear_value x13
      clear_value x14
      clear_value x15
      have hx16 : Keeps 137 s x16 := by
        unfold x16
        refine Keeps.ite ?_ ?_
        ·
          exact Keeps.refl _
        ·
          refine Keeps.step (State.fpEvent_keeps ..) rfl ?_
          exact Keeps.refl _
      clear_value x16
      have hx17 : Keeps 137 s x17 := by
        unfold x17
        refine Keeps.ite ?_ ?_
        ·
          refine Keeps.step (State.inc_keeps ..) rfl ?_
          exact hx16
        ·
          exact hx16
      clear_value x17
      have hx18 : Keeps 137 s x18 := by
        unfold x18
        refine Keeps.step (State.fpEvent_keeps ..) rfl ?_
        exact hx17
      clear_value x18
      have hx19 : Keeps 137 s x19 := by
        unfold x19
        refine Keeps.step (State.putBytes_keeps ..) rfl ?_
        exact hx18
      clear_value x19
      dsimp -zeta only
      refine Keeps.step (State.add64_keeps ..) rfl ?_
      exact hx19
    ·
      rename_i y20 y21 y22 y23
      dsimp -zeta only
      exact Keeps.refl _
    ·
      rename_i y24 y25 y26 y27
      dsimp -zeta only
      exact Keeps.refl _

theorem State.attnOutput_keeps : ∀ s c it d e n r0 g no, Keeps 8389289 s (State.attnOutput s c it d e n r0 g no).2.2 := by
  intro s c it d e n r0 g no
  unfold State.attnOutput
  lift_lets -underBinder
  extract_lets -descend x0 x1 x2 x3 x4
  clear_value x0
  clear_value x1
  clear_value x2
  clear_value x3
  clear_value x4
  split
  ·
    rename_i y5 y6 y7 y8
    lift_lets -underBinder
    extract_lets -descend x9 x10 x11 x12
    clear_value x9
    clear_value x10
    have hx11 : Keeps 8389289 s x11.2.2.2 := by
      unfold x11
      dsimp -zeta only
      exact Keeps.refl _
    clear_value x11
    have hx12 : Keeps 8389289 s x12.2.2.2 := by
      unfold x12
      refine Keeps.foldl (fun z : _ × _ × _ × State => z.2.2.2) ?_ ?_
      ·
        exact hx11
      ·
        rintro ⟨z16, z17, z18, z19⟩ q14 h15
        dsimp -zeta only at h15 ⊢
        split
        ·
          rename_i y20
          exact h15
        ·
          rename_i y21
          split
          ·
            rename_i y22
            dsimp -zeta only
            refine Keeps.step (State.kvStage_keeps ..) rfl ?_
            exact h15
          ·
            rename_i y23
            refine Keeps.foldl (fun z : _ × _ × _ × State => z.2.2.2) ?_ ?_
            ·
              dsimp -zeta only
              refine Keeps.step (State.kvStage_keeps ..) rfl ?_
              exact h15
            ·
              rintro ⟨z27, z28, z29, z30⟩ q25 h26
              dsimp -zeta only at h26 ⊢
              split
              ·
                rename_i y31
                exact h26
              ·
                rename_i y32
                lift_lets -underBinder
                extract_lets -descend x33 x34 x35 x36
                clear_value x33
                clear_value x34
                clear_value x35
                clear_value x36
                dsimp -zeta only
                split
                ·
                  rename_i y37
                  refine Keeps.step (State.putRows_keeps ..) rfl ?_
                  refine Keeps.step (State.attnPass_keeps ..) rfl ?_
                  exact h26
                ·
                  rename_i y38
                  dsimp -zeta only
                  refine Keeps.step (State.attnPass_keeps ..) rfl ?_
                  exact h26
    clear_value x12
    exact hx12

theorem State.runEntry_keeps : ∀ s c it d e n, Keeps 8389289 s (State.runEntry s c it d e n).2.2 := by
  intro s c it d e n
  unfold State.runEntry
  lift_lets -underBinder
  extract_lets -descend x0 x1
  clear_value x0
  clear_value x1
  split
  ·
    rename_i y2
    dsimp -zeta only
    exact Keeps.refl _
  ·
    rename_i y3
    refine Keeps.foldl (fun z : _ × _ × State => z.2.2) ?_ ?_
    ·
      dsimp -zeta only
      exact Keeps.refl _
    ·
      rintro ⟨z7, z8, z9⟩ q5 h6
      dsimp -zeta only at h6 ⊢
      lift_lets -underBinder
      extract_lets -descend x10 x11
      clear_value x10
      clear_value x11
      split
      ·
        rename_i y12
        exact h6
      ·
        rename_i y13
        split
        ·
          rename_i y14 y15 y16 y17
          have e18 : Keeps 8389289 s (y16) := by
            refine Keeps.trd_eq y17 ?_
            refine Keeps.step (State.attnScores_keeps ..) rfl ?_
            exact h6
          split
          ·
            rename_i y19 y20 y21 y22
            have e23 : Keeps 8389289 s (y21) := by
              refine Keeps.trd_eq y22 ?_
              refine Keeps.foldl (fun z : _ × _ × State => z.2.2) ?_ ?_
              ·
                exact e18
              ·
                rintro ⟨z27, z28, z29⟩ q25 h26
                dsimp -zeta only at h26 ⊢
                split
                ·
                  rename_i y30
                  exact h26
                ·
                  rename_i y31
                  refine Keeps.step (State.attnNorm_keeps ..) rfl ?_
                  exact h26
            refine Keeps.step (State.attnOutput_keeps ..) rfl ?_
            exact e23
          ·
            rename_i y32 y33
            refine Keeps.foldl (fun z : _ × _ × State => z.2.2) ?_ ?_
            ·
              exact e18
            ·
              rintro ⟨z37, z38, z39⟩ q35 h36
              dsimp -zeta only at h36 ⊢
              split
              ·
                rename_i y40
                exact h36
              ·
                rename_i y41
                refine Keeps.step (State.attnNorm_keeps ..) rfl ?_
                exact h36
        ·
          rename_i y42 y43
          refine Keeps.step (State.attnScores_keeps ..) rfl ?_
          exact h6

theorem State.pinSlot_keeps : ∀ s sp slot up, Keeps 257 s (State.pinSlot s sp slot up) := by
  intro s sp slot up
  unfold State.pinSlot
  lift_lets -underBinder
  extract_lets -descend x0 x1
  clear_value x0
  clear_value x1
  refine Keeps.step (State.setKv_keeps ..) rfl ?_
  exact Keeps.refl _

theorem State.dropPin_keeps : ∀ s sp p, Keeps 257 s (State.dropPin s sp p) := by
  intro s sp p
  unfold State.dropPin
  split
  ·
    rename_i y0 y1 y2
    refine Keeps.step (State.pinSlot_keeps ..) rfl ?_
    exact Keeps.refl _
  ·
    rename_i y3
    exact Keeps.refl _

theorem State.endAttn_keeps : ∀ s c j st, Keeps 353 s (State.endAttn s c j st) := by
  intro s c j st
  unfold State.endAttn
  lift_lets -underBinder
  extract_lets -descend x0 x1 x2 x3 x4
  clear_value x0
  have hx1 : Keeps 353 s x1 := by
    unfold x1
    refine Keeps.step (State.dropPin_keeps ..) rfl ?_
    exact Keeps.refl _
  clear_value x1
  have hx2 : Keeps 353 s x2 := by
    unfold x2
    refine Keeps.ite ?_ ?_
    ·
      refine Keeps.step (State.bobAdd_keeps ..) rfl ?_
      exact hx1
    ·
      exact hx1
  clear_value x2
  clear_value x3
  have hx4 : Keeps 353 s x4 := by
    unfold x4
    refine Keeps.step (State.setArr_keeps ..) rfl ?_
    exact hx2
  clear_value x4
  refine Keeps.step (State.recordMx_keeps ..) rfl ?_
  refine Keeps.step (State.setFld_keeps ..) rfl ?_
  exact hx4

theorem State.beginEntry_keeps : ∀ s c j, Keeps 353 s (State.beginEntry s c j) := by
  intro s c j
  unfold State.beginEntry
  lift_lets -underBinder
  extract_lets -descend x0 x1 x2 x3
  clear_value x0
  clear_value x1
  clear_value x2
  clear_value x3
  refine Keeps.ite ?_ ?_
  ·
    refine Keeps.step (State.endAttn_keeps ..) rfl ?_
    exact Keeps.refl _
  ·
    refine Keeps.ite ?_ ?_
    ·
      refine Keeps.step (State.setArr_keeps ..) rfl ?_
      refine Keeps.step (State.pinSlot_keeps ..) rfl ?_
      exact Keeps.refl _
    ·
      refine Keeps.step (State.endAttn_keeps ..) rfl ?_
      exact Keeps.refl _

theorem State.firstEntry_keeps : ∀ s c it, Keeps 353 s (State.firstEntry s c it) := by
  intro s c it
  unfold State.firstEntry
  lift_lets -underBinder
  extract_lets -descend x0 x1 x2 x3
  clear_value x0
  have hx1 : Keeps 353 s x1 := by
    unfold x1
    refine Keeps.step (State.setFld_keeps ..) rfl ?_
    exact Keeps.refl _
  clear_value x1
  clear_value x2
  have hx3 : Keeps 353 s x3 := by
    unfold x3
    refine Keeps.step (State.setArr_keeps ..) rfl ?_
    exact hx1
  clear_value x3
  split
  ·
    rename_i y4 y5 y6 y7
    have e8 : Keeps 353 s (y6) := by
      refine Keeps.snd_eq y7 ?_
      split
      ·
        rename_i y9
        exact hx3
      ·
        rename_i y10
        refine Keeps.step (State.bobAdd_keeps ..) rfl ?_
        exact hx3
    refine Keeps.step (State.beginEntry_keeps ..) rfl ?_
    exact e8

theorem State.nextAttn_keeps : ∀ s c j, Keeps 8389609 s (State.nextAttn s c j) := by
  intro s c j
  unfold State.nextAttn
  lift_lets -underBinder
  extract_lets -descend x0
  clear_value x0
  split
  ·
    rename_i y1 y2
    refine Keeps.step (State.endAttn_keeps ..) rfl ?_
    exact Keeps.refl _
  ·
    rename_i y3 y4 y5 y6
    refine Keeps.ite ?_ ?_
    ·
      refine Keeps.step (State.setArr_keeps ..) rfl ?_
      refine Keeps.step (State.dropPin_keeps ..) rfl ?_
      exact Keeps.refl _
    ·
      split
      ·
        rename_i y7 y8 y9 y10
        have e11 : Keeps 8389609 s (y9) := by
          refine Keeps.trd_eq y10 ?_
          refine Keeps.step (State.runEntry_keeps ..) rfl ?_
          exact Keeps.refl _
        lift_lets -underBinder
        extract_lets -descend x12 x13
        have hx12 : Keeps 8389609 s x12 := by
          unfold x12
          refine Keeps.step (State.dropPin_keeps ..) rfl ?_
          exact e11
        clear_value x12
        have hx13 : Keeps 8389609 s x13 := by
          unfold x13
          refine Keeps.ite ?_ ?_
          ·
            exact hx12
          ·
            refine Keeps.step (State.bobAdd_keeps ..) rfl ?_
            exact hx12
        clear_value x13
        split
        ·
          rename_i y14 y15 y16 y17
          have e18 : Keeps 8389609 s (y16) := by
            refine Keeps.snd_eq y17 ?_
            split
            ·
              rename_i y19
              exact hx13
            ·
              rename_i y20
              refine Keeps.step (State.bobAdd_keeps ..) rfl ?_
              exact hx13
          refine Keeps.step (State.beginEntry_keeps ..) rfl ?_
          exact e18
      ·
        rename_i y21 y22 y23 y24 y25 y26
        have e27 : Keeps 8389609 s (y24) := by
          refine Keeps.trd_eq y26 ?_
          refine Keeps.step (State.runEntry_keeps ..) rfl ?_
          exact Keeps.refl _
        refine Keeps.step (State.endAttn_keeps ..) rfl ?_
        refine Keeps.step (State.engFail_keeps ..) rfl ?_
        exact e27

theorem State.abortAll_keeps : ∀ s c, Keeps 16777705 s (State.abortAll s c) := by
  intro s c
  unfold State.abortAll
  split
  ·
    rename_i y0 y1 y2
    refine Keeps.step (State.abortMx_keeps ..) rfl ?_
    refine Keeps.step (State.endAttn_keeps ..) rfl ?_
    exact Keeps.refl _
  ·
    rename_i y3 y4
    refine Keeps.step (State.abortMx_keeps ..) rfl ?_
    exact Keeps.refl _

theorem State.storeRow_keeps : ∀ s c it r, Keeps 649 s (State.storeRow s c it r).2.2 := by
  intro s c it r
  unfold State.storeRow
  lift_lets -underBinder
  extract_lets -descend x0 x1 x2 x3 x4 x5 x6 x7 x8 x9
  clear_value x0
  clear_value x1
  clear_value x2
  clear_value x3
  clear_value x4
  clear_value x5
  clear_value x6
  clear_value x7
  clear_value x8
  have hx9 : Keeps 649 s x9 := by
    unfold x9
    refine Keeps.ite ?_ ?_
    ·
      refine Keeps.step (State.kvTranslate_keeps ..) rfl ?_
      exact Keeps.refl _
    ·
      exact Keeps.refl _
  clear_value x9
  refine Keeps.foldl (fun z : _ × _ × State => z.2.2) ?_ ?_
  ·
    exact hx9
  ·
    rintro ⟨z13, z14, z15⟩ q11 h12
    dsimp -zeta only at h12 ⊢
    split
    ·
      rename_i y16
      exact h12
    ·
      rename_i y17
      lift_lets -underBinder
      extract_lets -descend x18 x19 x20
      have hx18 : Keeps 649 s x18 := by
        unfold x18
        exact h12
      clear_value x18
      clear_value x19
      clear_value x20
      split
      ·
        rename_i y21 y22 y23 y24 y25
        lift_lets -underBinder
        extract_lets -descend x26 x27 x28 x29 x30
        clear_value x26
        clear_value x27
        clear_value x29
        have hx30 : Keeps 649 s x30 := by
          unfold x30
          refine Keeps.ite ?_ ?_
          ·
            refine Keeps.step (State.fpEvent_keeps ..) rfl ?_
            exact hx18
          ·
            exact hx18
        clear_value x30
        dsimp -zeta only
        refine Keeps.step (State.putBytes_keeps ..) rfl ?_
        refine Keeps.step (State.fpEvent_keeps ..) rfl ?_
        exact hx30
      ·
        rename_i y31 y32 y33 y34 y35
        exact hx18
      ·
        rename_i y36 y37 y38 y39 y40 y41 y42
        exact hx18

theorem State.runStore_keeps : ∀ s c it, Keeps 8389353 s (State.runStore s c it) := by
  intro s c it
  unfold State.runStore
  split
  ·
    rename_i y0 y1
    lift_lets -underBinder
    extract_lets -descend x2
    have hx2 : Keeps 8389353 s x2.2.2 := by
      unfold x2
      refine Keeps.foldl (fun z : _ × _ × State => z.2.2) ?_ ?_
      ·
        dsimp -zeta only
        exact Keeps.refl _
      ·
        rintro ⟨z6, z7, z8⟩ q4 h5
        dsimp -zeta only at h5 ⊢
        split
        ·
          rename_i y9
          exact h5
        ·
          rename_i y10
          refine Keeps.step (State.storeRow_keeps ..) rfl ?_
          exact h5
    clear_value x2
    refine Keeps.step (State.recordMx_keeps ..) rfl ?_
    refine Keeps.ite ?_ ?_
    ·
      exact hx2
    ·
      refine Keeps.step (State.engFail_keeps ..) rfl ?_
      exact hx2
  ·
    rename_i y11 y12
    refine Keeps.step (State.recordMx_keeps ..) rfl ?_
    exact Keeps.refl _

theorem execAttention_keeps : ∀ c s, KeepsOut 8389609 s (execAttention c s) := by
  intro c s
  unfold execAttention
  split
  ·
    rename_i y0 y1 y2
    refine KeepsOut.next ?_
    refine Keeps.step (State.nextAttn_keeps ..) rfl ?_
    exact Keeps.refl _
  ·
    rename_i y3 y4
    split
    ·
      rename_i y5 y6
      refine KeepsOut.next ?_
      exact Keeps.refl _
    ·
      rename_i y7 y8 y9
      split
      ·
        rename_i y10
        refine KeepsOut.next ?_
        exact Keeps.refl _
      ·
        rename_i y11
        lift_lets -underBinder
        extract_lets -descend x12
        have hx12 : Keeps 8389609 s x12 := by
          unfold x12
          refine Keeps.step (State.popMx_keeps ..) rfl ?_
          exact Keeps.refl _
        clear_value x12
        split
        ·
          rename_i y13
          refine KeepsOut.next ?_
          exact hx12
        ·
          rename_i y14
          split
          ·
            rename_i y15 y16 y17
            refine KeepsOut.next ?_
            refine Keeps.step (State.firstEntry_keeps ..) rfl ?_
            exact hx12
          ·
            rename_i y18 y19 y20 y21 y22
            refine KeepsOut.next ?_
            refine Keeps.step (State.recordMx_keeps ..) rfl ?_
            refine Keeps.step (State.engFail_keeps ..) rfl ?_
            exact hx12

theorem execKvStore_keeps : ∀ c s, KeepsOut 8389353 s (execKvStore c s) := by
  intro c s
  unfold execKvStore
  split
  ·
    rename_i y0 y1
    refine KeepsOut.next ?_
    exact Keeps.refl _
  ·
    rename_i y2 y3 y4
    split
    ·
      rename_i y5
      refine KeepsOut.next ?_
      exact Keeps.refl _
    ·
      rename_i y6
      lift_lets -underBinder
      extract_lets -descend x7
      have hx7 : Keeps 8389353 s x7 := by
        unfold x7
        refine Keeps.step (State.popMx_keeps ..) rfl ?_
        exact Keeps.refl _
      clear_value x7
      refine KeepsOut.next ?_
      refine Keeps.ite ?_ ?_
      ·
        exact hx7
      ·
        refine Keeps.step (State.runStore_keeps ..) rfl ?_
        exact hx7

end Sys2Proof.Machine
end

