-- ==== Sys2Proof/Laws/KeepsVote.lean ====
section
/-! SUPPORT. What each operation and each command of Machine/Vote.lean touches, one lemma each: the bits of its mask are the
parts of the state that it may change; the queue and the canonical form of the memories it keeps. -/
namespace Sys2Proof.Machine

theorem State.putOpen_keeps : ∀ s i o, Keeps 2048 s (State.putOpen s i o) := by
  intro s i o
  unfold State.putOpen
  lift_lets -underBinder
  extract_lets -descend x0
  clear_value x0
  refine Keeps.step (State.setVote_keeps ..) rfl ?_
  exact Keeps.refl _

theorem State.refuseRec_keeps : ∀ s i w, Keeps 1 s (State.refuseRec s i w) := by
  intro s i w
  unfold State.refuseRec
  refine Keeps.ite ?_ ?_
  ·
    refine Keeps.step (State.inc_keeps ..) rfl ?_
    exact Keeps.refl _
  ·
    refine Keeps.step (State.inc_keeps ..) rfl ?_
    exact Keeps.refl _

theorem State.showSeam_keeps : ∀ s d, Keeps 1 s (State.showSeam s d) := by
  intro s d
  unfold State.showSeam
  lift_lets -underBinder
  extract_lets -descend x0 x1 x2
  clear_value x0
  clear_value x1
  have hx2 : Keeps 1 s x2 := by
    unfold x2
    refine Keeps.step (State.setFld_keeps ..) rfl ?_
    exact Keeps.refl _
  clear_value x2
  refine Keeps.step (State.setFld_keeps ..) rfl ?_
  exact hx2

theorem State.endVote_keeps : ∀ s it st, Keeps 225 s (State.endVote s it st) := by
  intro s it st
  unfold State.endVote
  lift_lets -underBinder
  extract_lets -descend x0 x1
  have hx0 : Keeps 225 s x0 := by
    unfold x0
    refine Keeps.step (State.setFld_keeps ..) rfl ?_
    exact Keeps.refl _
  clear_value x0
  have hx1 : Keeps 225 s x1 := by
    unfold x1
    refine Keeps.step (State.showSeam_keeps ..) rfl ?_
    refine Keeps.step (State.add64_keeps ..) rfl ?_
    exact hx0
  clear_value x1
  refine Keeps.step (State.finishItem_keeps ..) rfl ?_
  exact hx1

theorem State.endVotes_keeps : ∀ s i st p, Keeps 2273 s (State.endVotes s i st p) := by
  intro s i st p
  unfold State.endVotes
  lift_lets -underBinder
  extract_lets -descend x0 x1
  clear_value x0
  have hx1 : Keeps 2273 s x1 := by
    unfold x1
    refine Keeps.step (State.setVote_keeps ..) rfl ?_
    exact Keeps.refl _
  clear_value x1
  refine Keeps.fold ?_ ?_
  ·
    exact hx1
  ·
    intro z2 q3 h4
    refine Keeps.step (State.endVote_keeps ..) rfl ?_
    exact h4

theorem State.recordGns_keeps : ∀ s i d, Keeps 2049 s (State.recordGns s i d) := by
  intro s i d
  unfold State.recordGns
  refine Keeps.ite ?_ ?_
  ·
    exact Keeps.refl _
  ·
    lift_lets -underBinder
    extract_lets -descend x0 x1 x2 x3
    clear_value x0
    have hx1 : Keeps 2049 s x1 := by
      unfold x1
      refine Keeps.step (State.setReg_keeps ..) rfl ?_
      exact Keeps.refl _
    clear_value x1
    have hx2 : Keeps 2049 s x2 := by
      unfold x2
      refine Keeps.step (State.setReg_keeps ..) rfl ?_
      exact hx1
    clear_value x2
    have hx3 : Keeps 2049 s x3 := by
      unfold x3
      refine Keeps.step (State.setVote_keeps ..) rfl ?_
      exact hx2
    clear_value x3
    refine Keeps.ite ?_ ?_
    ·
      refine Keeps.step (State.setFld_keeps ..) rfl ?_
      exact hx3
    ·
      exact hx3

theorem State.podCauses_keeps : ∀ s i d, Keeps 1 s (State.podCauses s i d) := by
  intro s i d
  unfold State.podCauses
  split
  ·
    rename_i y0 y1 y2
    refine Keeps.ite ?_ ?_
    ·
      refine Keeps.step (State.setReg_keeps ..) rfl ?_
      exact Keeps.refl _
    ·
      exact Keeps.refl _
  ·
    rename_i y3 y4
    exact Keeps.refl _

theorem State.recordDecision_keeps : ∀ s i d, Keeps 12270841 s (State.recordDecision s i d) := by
  intro s i d
  unfold State.recordDecision
  lift_lets -underBinder
  extract_lets -descend x0 x1 x2 x3 x4 x5 x6 x7 x8 x9 x10 x11 x12 x13 x14 x15 x16 x17
  clear_value x0
  clear_value x2
  clear_value x3
  clear_value x4
  clear_value x5
  have hx6 : Keeps 12270841 s x6 := by
    unfold x6
    refine Keeps.step (State.podCauses_keeps ..) rfl ?_
    exact Keeps.refl _
  clear_value x6
  have hx7 : Keeps 12270841 s x7 := by
    unfold x7
    refine Keeps.step (State.setVote_keeps ..) rfl ?_
    exact hx6
  clear_value x7
  have hx8 : Keeps 12270841 s x8 := by
    unfold x8
    refine Keeps.step (State.setReg_keeps ..) rfl ?_
    exact hx7
  clear_value x8
  have hx9 : Keeps 12270841 s x9 := by
    unfold x9
    refine Keeps.step (State.add64_keeps ..) rfl ?_
    exact hx8
  clear_value x9
  have hx10 : Keeps 12270841 s x10 := by
    unfold x10
    refine Keeps.step (State.setFld_keeps ..) rfl ?_
    exact hx9
  clear_value x10
  have hx11 : Keeps 12270841 s x11 := by
    unfold x11
    refine Keeps.step (State.setFld_keeps ..) rfl ?_
    exact hx10
  clear_value x11
  have hx12 : Keeps 12270841 s x12 := by
    unfold x12
    refine Keeps.ite ?_ ?_
    ·
      exact hx11
    ·
      refine Keeps.step (State.setFld_keeps ..) rfl ?_
      exact hx11
  clear_value x12
  have hx13 : Keeps 12270841 s x13 := by
    unfold x13
    refine Keeps.step (State.recordGns_keeps ..) rfl ?_
    exact hx12
  clear_value x13
  have hx14 : Keeps 12270841 s x14 := by
    unfold x14
    refine Keeps.step (State.fanOut_keeps ..) rfl ?_
    exact hx13
  clear_value x14
  have hx15 : Keeps 12270841 s x15 := by
    unfold x15
    refine Keeps.fold ?_ ?_
    ·
      exact hx14
    ·
      intro z18 q19 h20
      refine Keeps.step (State.sendSquall_keeps ..) rfl ?_
      exact h20
  clear_value x15
  have hx16 : Keeps 12270841 s x16 := by
    unfold x16
    refine Keeps.step (State.retireSuspects_keeps ..) rfl ?_
    exact hx15
  clear_value x16
  have hx17 : Keeps 12270841 s x17 := by
    unfold x17
    refine Keeps.step (State.endVotes_keeps ..) rfl ?_
    exact hx16
  clear_value x17
  refine Keeps.step (State.showVote_keeps ..) rfl ?_
  refine Keeps.step (State.tryApplied_keeps ..) rfl ?_
  refine Keeps.step (State.updRunAll_keeps ..) rfl ?_
  exact hx17

theorem State.holdJob_keeps : ∀ s i pod dev, Keeps 12270841 s (State.holdJob s i pod dev) := by
  intro s i pod dev
  unfold State.holdJob
  lift_lets -underBinder
  extract_lets -descend x0 x1 x2 x3
  clear_value x0
  have hx1 : Keeps 12270841 s x1 := by
    unfold x1
    refine Keeps.step (State.setVote_keeps ..) rfl ?_
    exact Keeps.refl _
  clear_value x1
  have hx2 : Keeps 12270841 s x2 := by
    unfold x2
    refine Keeps.step (State.endVotes_keeps ..) rfl ?_
    exact hx1
  clear_value x2
  have hx3 : Keeps 12270841 s x3 := by
    unfold x3
    refine Keeps.ite ?_ ?_
    ·
      refine Keeps.step (State.setRegBit_keeps ..) rfl ?_
      exact hx2
    ·
      exact hx2
  clear_value x3
  refine Keeps.step (State.showVote_keeps ..) rfl ?_
  refine Keeps.step (State.updRunAll_keeps ..) rfl ?_
  refine Keeps.step (State.setFld_keeps ..) rfl ?_
  exact hx3

theorem State.fenceMember_keeps : ∀ s i step pod dev, Keeps 12270841 s (State.fenceMember s i step pod dev) := by
  intro s i step pod dev
  unfold State.fenceMember
  lift_lets -underBinder
  extract_lets -descend x0 x1 x2 x3
  clear_value x0
  have hx1 : Keeps 12270841 s x1 := by
    unfold x1
    refine Keeps.step (State.setVote_keeps ..) rfl ?_
    exact Keeps.refl _
  clear_value x1
  have hx2 : Keeps 12270841 s x2 := by
    unfold x2
    refine Keeps.step (State.setFld_keeps ..) rfl ?_
    exact hx1
  clear_value x2
  have hx3 : Keeps 12270841 s x3 := by
    unfold x3
    refine Keeps.step (State.fanOut_keeps ..) rfl ?_
    exact hx2
  clear_value x3
  refine Keeps.step (State.holdJob_keeps ..) rfl ?_
  exact hx3

theorem State.decide'_keeps : ∀ s i o, Keeps 12270841 s (State.decide' s i o) := by
  intro s i o
  unfold State.decide'
  refine Keeps.ite ?_ ?_
  ·
    exact Keeps.refl _
  ·
    lift_lets -underBinder
    extract_lets -descend x0 x1 x2 x3 x4 x5 x6 x7 x8 x9 x10 x11 x12 x13 x14 x15 x16
    clear_value x0
    clear_value x1
    clear_value x2
    clear_value x3
    clear_value x4
    clear_value x5
    clear_value x6
    clear_value x7
    clear_value x8
    clear_value x9
    clear_value x10
    clear_value x11
    clear_value x12
    clear_value x13
    have hx14 : Keeps 12270841 s x14 := by
      unfold x14
      refine Keeps.step (State.setVote_keeps ..) rfl ?_
      exact Keeps.refl _
    clear_value x14
    have hx15 : Keeps 12270841 s x15 := by
      unfold x15
      refine Keeps.ite ?_ ?_
      ·
        exact hx14
      ·
        refine Keeps.step (State.setReg_keeps ..) rfl ?_
        exact hx14
    clear_value x15
    have hx16 : Keeps 12270841 s x16 := by
      unfold x16
      refine Keeps.step (State.recordDecision_keeps ..) rfl ?_
      exact hx15
    clear_value x16
    refine Keeps.fold ?_ ?_
    ·
      exact hx16
    ·
      intro z17 q18 h19
      refine Keeps.step (State.fenceMember_keeps ..) rfl ?_
      exact h19

theorem State.tryJob_keeps : ∀ s i step expired, Keeps 12270841 s (State.tryJob s i step expired) := by
  intro s i step expired
  unfold State.tryJob
  split
  ·
    rename_i y0 y1
    exact Keeps.refl _
  ·
    rename_i y2 y3 y4
    refine Keeps.ite ?_ ?_
    ·
      refine Keeps.step (State.decide'_keeps ..) rfl ?_
      exact Keeps.refl _
    ·
      exact Keeps.refl _

theorem State.addPod_keeps : ∀ s i step r, Keeps 12270841 s (State.addPod s i step r) := by
  intro s i step r
  unfold State.addPod
  split
  ·
    rename_i y0 y1
    lift_lets -underBinder
    extract_lets -descend x2
    clear_value x2
    refine Keeps.ite ?_ ?_
    ·
      refine Keeps.step (State.inc_keeps ..) rfl ?_
      exact Keeps.refl _
    ·
      refine Keeps.step (State.tryJob_keeps ..) rfl ?_
      refine Keeps.step (State.putOpen_keeps ..) rfl ?_
      exact Keeps.refl _
  ·
    rename_i y3 y4
    refine Keeps.step (State.refuseRec_keeps ..) rfl ?_
    exact Keeps.refl _

theorem State.tryPod_keeps : ∀ s i step expired, Keeps 12270841 s (State.tryPod s i step expired) := by
  intro s i step expired
  unfold State.tryPod
  split
  ·
    rename_i y0 y1
    exact Keeps.refl _
  ·
    rename_i y2 y3 y4
    lift_lets -underBinder
    extract_lets -descend x5 x6 x7
    clear_value x5
    clear_value x6
    clear_value x7
    refine Keeps.ite ?_ ?_
    ·
      refine Keeps.ite ?_ ?_
      ·
        refine Keeps.step (State.decide'_keeps ..) rfl ?_
        refine Keeps.step (State.putOpen_keeps ..) rfl ?_
        exact Keeps.refl _
      ·
        refine Keeps.ite ?_ ?_
        ·
          refine Keeps.step (State.addPod_keeps ..) rfl ?_
          refine Keeps.step (State.putOpen_keeps ..) rfl ?_
          exact Keeps.refl _
        ·
          refine Keeps.step (State.sendSquall_keeps ..) rfl ?_
          refine Keeps.step (State.putOpen_keeps ..) rfl ?_
          exact Keeps.refl _
    ·
      exact Keeps.refl _

theorem State.tryNext_keeps : ∀ s i, Keeps 12270841 s (State.tryNext s i) := by
  intro s i
  unfold State.tryNext
  split
  ·
    rename_i y0 y1 y2
    refine Keeps.step (State.tryJob_keeps ..) rfl ?_
    refine Keeps.step (State.tryPod_keeps ..) rfl ?_
    exact Keeps.refl _
  ·
    rename_i y3 y4
    exact Keeps.refl _

theorem State.addMember_keeps : ∀ s i step r, Keeps 12270841 s (State.addMember s i step r) := by
  intro s i step r
  unfold State.addMember
  split
  ·
    rename_i y0 y1
    lift_lets -underBinder
    extract_lets -descend x2 x3 x4 x5
    clear_value x2
    clear_value x3
    clear_value x4
    have hx5 : Keeps 12270841 s x5 := by
      unfold x5
      refine Keeps.step (State.putOpen_keeps ..) rfl ?_
      exact Keeps.refl _
    clear_value x5
    refine Keeps.ite ?_ ?_
    ·
      refine Keeps.step (State.inc_keeps ..) rfl ?_
      exact Keeps.refl _
    ·
      refine Keeps.ite ?_ ?_
      ·
        refine Keeps.step (State.inc_keeps ..) rfl ?_
        exact Keeps.refl _
      ·
        refine Keeps.step (State.tryNext_keeps ..) rfl ?_
        refine Keeps.step (State.tryNext_keeps ..) rfl ?_
        refine Keeps.step (State.tryPod_keeps ..) rfl ?_
        exact hx5
  ·
    rename_i y6 y7
    refine Keeps.step (State.refuseRec_keeps ..) rfl ?_
    exact Keeps.refl _

theorem State.sendTray_keeps : ∀ s i step recs, Keeps 12267705 s (State.sendTray s i step recs) := by
  intro s i step recs
  unfold State.sendTray
  refine Keeps.step (State.sendSquall_keeps ..) rfl ?_
  exact Keeps.refl _

theorem State.tryTray_keeps : ∀ s i step expired, Keeps 12269753 s (State.tryTray s i step expired) := by
  intro s i step expired
  unfold State.tryTray
  split
  ·
    rename_i y0 y1
    exact Keeps.refl _
  ·
    rename_i y2 y3 y4
    lift_lets -underBinder
    extract_lets -descend x5 x6
    clear_value x5
    clear_value x6
    refine Keeps.ite ?_ ?_
    ·
      refine Keeps.step (State.sendTray_keeps ..) rfl ?_
      refine Keeps.step (State.putOpen_keeps ..) rfl ?_
      exact Keeps.refl _
    ·
      exact Keeps.refl _

theorem State.addTray_keeps : ∀ s i step r, Keeps 12269753 s (State.addTray s i step r) := by
  intro s i step r
  unfold State.addTray
  lift_lets -underBinder
  extract_lets -descend x0
  clear_value x0
  refine Keeps.ite ?_ ?_
  ·
    refine Keeps.step (State.inc_keeps ..) rfl ?_
    exact Keeps.refl _
  ·
    refine Keeps.ite ?_ ?_
    ·
      refine Keeps.step (State.sendTray_keeps ..) rfl ?_
      exact Keeps.refl _
    ·
      refine Keeps.step (State.tryTray_keeps ..) rfl ?_
      refine Keeps.step (State.putOpen_keeps ..) rfl ?_
      exact Keeps.refl _

theorem State.addVote_keeps : ∀ s i step r, Keeps 12270841 s (State.addVote s i step r) := by
  intro s i step r
  unfold State.addVote
  refine Keeps.ite ?_ ?_
  ·
    refine Keeps.step (State.addMember_keeps ..) rfl ?_
    exact Keeps.refl _
  ·
    refine Keeps.ite ?_ ?_
    ·
      refine Keeps.step (State.addTray_keeps ..) rfl ?_
      exact Keeps.refl _
    ·
      refine Keeps.step (State.sendTray_keeps ..) rfl ?_
      exact Keeps.refl _

theorem State.takeCauses_keeps : ∀ s i, Keeps 2049 s (State.takeCauses s i).2 := by
  intro s i
  unfold State.takeCauses
  lift_lets -underBinder
  extract_lets -descend x0 x1 x2 x3 x4 x5 x6 x7 x8
  clear_value x0
  clear_value x1
  clear_value x2
  clear_value x3
  clear_value x4
  have hx5 : Keeps 2049 s x5 := by
    unfold x5
    refine Keeps.fold ?_ ?_
    ·
      exact Keeps.refl _
    ·
      intro z9 q10 h11
      refine Keeps.step (State.setFld_keeps ..) rfl ?_
      refine Keeps.step (State.setFld_keeps ..) rfl ?_
      exact h11
  clear_value x5
  have hx6 : Keeps 2049 s x6 := by
    unfold x6
    refine Keeps.fold ?_ ?_
    ·
      exact hx5
    ·
      intro z12 q13 h14
      refine Keeps.step (State.setRegBit_keeps ..) rfl ?_
      refine Keeps.step (State.setRegBit_keeps ..) rfl ?_
      exact h14
  clear_value x6
  have hx7 : Keeps 2049 s x7 := by
    unfold x7
    refine Keeps.step (State.setRegBit_keeps ..) rfl ?_
    exact hx6
  clear_value x7
  dsimp -zeta only
  refine Keeps.step (State.setVote_keeps ..) rfl ?_
  exact hx7

theorem State.formVote_keeps : ∀ s i it, Keeps 12270841 s (State.formVote s i it) := by
  intro s i it
  unfold State.formVote
  lift_lets -underBinder
  extract_lets -descend x0 x1 x2
  clear_value x0
  clear_value x1
  clear_value x2
  split
  ·
    rename_i y3 y4 y5 y6
    have e7 : Keeps 12270841 s (y5) := by
      refine Keeps.snd_eq y6 ?_
      refine Keeps.step (State.takeCauses_keeps ..) rfl ?_
      exact Keeps.refl _
    lift_lets -underBinder
    extract_lets -descend x8 x9 x10 x11 x12
    clear_value x8
    have hx9 : Keeps 12270841 s x9 := by
      unfold x9
      refine Keeps.step (State.setVote_keeps ..) rfl ?_
      exact e7
    clear_value x9
    have hx10 : Keeps 12270841 s x10 := by
      unfold x10
      refine Keeps.step (State.itemTotal_keeps ..) rfl ?_
      exact hx9
    clear_value x10
    have hx11 : Keeps 12270841 s x11 := by
      unfold x11
      refine Keeps.ite ?_ ?_
      ·
        refine Keeps.step (State.putOpen_keeps ..) rfl ?_
        exact hx10
      ·
        exact hx10
    clear_value x11
    have hx12 : Keeps 12270841 s x12 := by
      unfold x12
      refine Keeps.step (State.addVote_keeps ..) rfl ?_
      exact hx11
    clear_value x12
    split
    ·
      rename_i y13 y14 y15
      refine Keeps.step (State.showVote_keeps ..) rfl ?_
      refine Keeps.step (State.endVotes_keeps ..) rfl ?_
      exact hx12
    ·
      rename_i y16 y17
      refine Keeps.step (State.showVote_keeps ..) rfl ?_
      exact hx12

theorem State.stepDone_keeps : ∀ s i step, Keeps 2049 s (State.stepDone s i step) := by
  intro s i step
  unfold State.stepDone
  lift_lets -underBinder
  extract_lets -descend x0 x1
  clear_value x0
  have hx1 : Keeps 2049 s x1 := by
    unfold x1
    refine Keeps.step (State.setVote_keeps ..) rfl ?_
    exact Keeps.refl _
  clear_value x1
  refine Keeps.step (State.showVote_keeps ..) rfl ?_
  refine Keeps.step (State.setReg_keeps ..) rfl ?_
  exact hx1

theorem State.tryDone_keeps : ∀ s i a2, Keeps 12269753 s (State.tryDone s i a2) := by
  intro s i a2
  induction a2 generalizing s i with
  | zero =>
    unfold State.tryDone
    exact Keeps.refl _
  | succ n0 ih =>
    unfold State.tryDone
    lift_lets -underBinder
    extract_lets -descend x0
    clear_value x0
    split
    ·
      rename_i y1 y2
      exact Keeps.refl _
    ·
      rename_i y3 y4 y5
      refine Keeps.ite ?_ ?_
      ·
        lift_lets -underBinder
        extract_lets -descend x6 x7
        have hx6 : Keeps 12269753 s x6 := by
          unfold x6
          refine Keeps.step (State.setVote_keeps ..) rfl ?_
          exact Keeps.refl _
        clear_value x6
        have hx7 : Keeps 12269753 s x7 := by
          unfold x7
          refine Keeps.step (State.fanOut_keeps ..) rfl ?_
          exact hx6
        clear_value x7
        refine Keeps.step (ih ..) rfl ?_
        refine Keeps.step (State.stepDone_keeps ..) rfl ?_
        exact hx7
      ·
        exact Keeps.refl _

theorem State.appliedAt_keeps : ∀ s i step key fail, Keeps 12270841 s (State.appliedAt s i step key fail) := by
  intro s i step key fail
  unfold State.appliedAt
  lift_lets -underBinder
  extract_lets -descend x0
  clear_value x0
  refine Keeps.ite ?_ ?_
  ·
    exact Keeps.refl _
  ·
    refine Keeps.ite ?_ ?_
    ·
      refine Keeps.step (State.fenceMember_keeps ..) rfl ?_
      exact Keeps.refl _
    ·
      refine Keeps.ite ?_ ?_
      ·
        exact Keeps.refl _
      ·
        refine Keeps.step (State.tryDone_keeps ..) rfl ?_
        refine Keeps.step (State.setVote_keeps ..) rfl ?_
        exact Keeps.refl _

theorem State.resumeVote_keeps : ∀ s i next, Keeps 2049 s (State.resumeVote s i next) := by
  intro s i next
  unfold State.resumeVote
  lift_lets -underBinder
  extract_lets -descend x0 x1
  clear_value x0
  have hx1 : Keeps 2049 s x1 := by
    unfold x1
    refine Keeps.step (State.setVote_keeps ..) rfl ?_
    exact Keeps.refl _
  clear_value x1
  refine Keeps.step (State.showVote_keeps ..) rfl ?_
  refine Keeps.step (State.setFld_keeps ..) rfl ?_
  exact hx1

theorem State.resetVote_keeps : ∀ s i, Keeps 12269753 s (State.resetVote s i) := by
  intro s i
  unfold State.resetVote
  lift_lets -underBinder
  extract_lets -descend x0 x1 x2 x3 x4 x5 x6 x7
  clear_value x0
  clear_value x1
  clear_value x2
  clear_value x3
  clear_value x4
  have hx5 : Keeps 12269753 s x5 := by
    unfold x5
    refine Keeps.step (State.setVote_keeps ..) rfl ?_
    exact Keeps.refl _
  clear_value x5
  have hx6 : Keeps 12269753 s x6 := by
    unfold x6
    refine Keeps.fold ?_ ?_
    ·
      exact hx5
    ·
      intro z8 q9 h10
      refine Keeps.step (State.applied_keeps ..) rfl ?_
      exact h10
  clear_value x6
  clear_value x7
  refine Keeps.step (State.showVote_keeps ..) rfl ?_
  refine Keeps.step (State.setReg_keeps ..) rfl ?_
  exact hx6

theorem execSquallVote_keeps : ∀ d s, KeepsOut 2273 s (execSquallVote d s) := by
  intro d s
  unfold execSquallVote
  split
  ·
    rename_i y0 y1
    refine KeepsOut.next ?_
    exact Keeps.refl _
  ·
    rename_i y2 y3 y4
    split
    ·
      rename_i y5 y6
      refine KeepsOut.next ?_
      exact Keeps.refl _
    ·
      rename_i y7 y8 y9 y10
      lift_lets -underBinder
      extract_lets -descend x11 x12 x13 x14 x15 x16 x17
      clear_value x11
      clear_value x13
      clear_value x14
      clear_value x15
      have hx16 : Keeps 2273 s x16 := by
        unfold x16
        refine Keeps.step (State.handItem_keeps ..) rfl ?_
        exact Keeps.refl _
      clear_value x16
      clear_value x17
      split
      ·
        rename_i y18
        refine KeepsOut.next ?_
        refine Keeps.step (State.endVote_keeps ..) rfl ?_
        exact hx16
      ·
        rename_i y19
        split
        ·
          rename_i y20
          refine KeepsOut.next ?_
          refine Keeps.step (State.endVote_keeps ..) rfl ?_
          exact hx16
        ·
          rename_i y21
          split
          ·
            rename_i y22
            refine KeepsOut.next ?_
            refine Keeps.step (State.endVote_keeps ..) rfl ?_
            exact hx16
          ·
            rename_i y23
            split
            ·
              rename_i y24
              refine KeepsOut.next ?_
              refine Keeps.step (State.endVote_keeps ..) rfl ?_
              exact hx16
            ·
              rename_i y25
              refine KeepsOut.next ?_
              refine Keeps.step (State.showSeam_keeps ..) rfl ?_
              refine Keeps.step (State.setVote_keeps ..) rfl ?_
              exact hx16

theorem execVoteFormation_keeps : ∀ i s, KeepsOut 12270841 s (execVoteFormation i s) := by
  intro i s
  unfold execVoteFormation
  split
  ·
    rename_i y0
    refine KeepsOut.next ?_
    exact Keeps.refl _
  ·
    rename_i y1
    split
    ·
      rename_i y2 y3
      refine KeepsOut.next ?_
      exact Keeps.refl _
    ·
      rename_i y4 y5 y6
      lift_lets -underBinder
      extract_lets -descend x7
      clear_value x7
      split
      ·
        rename_i y8
        refine KeepsOut.next ?_
        exact Keeps.refl _
      ·
        rename_i y9
        refine KeepsOut.next ?_
        refine Keeps.step (State.formVote_keeps ..) rfl ?_
        exact Keeps.refl _

theorem execVoteMsg_keeps : ∀ m s, KeepsOut 12532985 s (execVoteMsg m s) := by
  intro m s
  unfold execVoteMsg
  refine KeepsOut.next ?_
  unfold State.withSquall
  split
  ·
    rename_i y0 y1
    split
    ·
      rename_i y2 y3
      exact Keeps.refl _
    ·
      rename_i y4 y5 y6 y7 y8
      refine Keeps.ite ?_ ?_
      ·
        dsimp -zeta only
        refine Keeps.ite ?_ ?_
        ·
          refine Keeps.fold ?_ ?_
          ·
            refine Keeps.set_localMsgs rfl ?_
            exact Keeps.refl _
          ·
            intro z9 q10 h11
            refine Keeps.step (State.addVote_keeps ..) rfl ?_
            exact h11
        ·
          refine Keeps.set_localMsgs rfl ?_
          exact Keeps.refl _
      ·
        exact Keeps.refl _
  ·
    rename_i y12 y13
    unfold State.withMsg
    split
    ·
      rename_i y14 y15
      exact Keeps.refl _
    ·
      rename_i y16 y17 y18 y19 y20
      refine Keeps.ite ?_ ?_
      ·
        exact Keeps.refl _
      ·
        lift_lets -underBinder
        extract_lets -descend x21 x22 x23
        have hx21 : Keeps 12532985 s x21 := by
          unfold x21
          refine Keeps.set_ingress rfl ?_
          exact Keeps.refl _
        clear_value x21
        clear_value x22
        have hx23 : Keeps 12532985 s x23 := by
          unfold x23
          refine Keeps.ite ?_ ?_
          ·
            exact hx21
          ·
            dsimp -zeta only
            lift_lets -underBinder
            extract_lets -descend x24 x25 x26 x27 x28 x29 x30
            clear_value x24
            clear_value x25
            clear_value x26
            clear_value x27
            clear_value x28
            clear_value x29
            have hx30 : Keeps 12532985 s x30 := by
              unfold x30
              refine Keeps.step (State.setVote_keeps ..) rfl ?_
              exact hx21
            clear_value x30
            refine Keeps.ite ?_ ?_
            ·
              exact hx21
            ·
              refine Keeps.ite ?_ ?_
              ·
                refine Keeps.step (State.inc_keeps ..) rfl ?_
                exact hx21
              ·
                refine Keeps.ite ?_ ?_
                ·
                  refine Keeps.fold ?_ ?_
                  ·
                    exact hx30
                  ·
                    intro z31 q32 h33
                    refine Keeps.step (State.addVote_keeps ..) rfl ?_
                    exact h33
                ·
                  exact hx30
        clear_value x23
        refine Keeps.fold ?_ ?_
        ·
          exact hx23
        ·
          intro z34 q35 h36
          refine Keeps.step (State.answerRx_keeps ..) rfl ?_
          exact h36

theorem execPodVoteMsg_keeps : ∀ m s, KeepsOut 12532985 s (execPodVoteMsg m s) := by
  intro m s
  unfold execPodVoteMsg
  refine KeepsOut.next ?_
  unfold State.withSquall
  split
  ·
    rename_i y0 y1
    split
    ·
      rename_i y2 y3
      exact Keeps.refl _
    ·
      rename_i y4 y5 y6 y7 y8
      refine Keeps.ite ?_ ?_
      ·
        dsimp -zeta only
        refine Keeps.ite ?_ ?_
        ·
          refine Keeps.step (State.tryNext_keeps ..) rfl ?_
          refine Keeps.fold ?_ ?_
          ·
            refine Keeps.set_localMsgs rfl ?_
            exact Keeps.refl _
          ·
            intro z9 q10 h11
            refine Keeps.step (State.addPod_keeps ..) rfl ?_
            exact h11
        ·
          refine Keeps.set_localMsgs rfl ?_
          exact Keeps.refl _
      ·
        exact Keeps.refl _
  ·
    rename_i y12 y13
    unfold State.withMsg
    split
    ·
      rename_i y14 y15
      exact Keeps.refl _
    ·
      rename_i y16 y17 y18 y19 y20
      refine Keeps.ite ?_ ?_
      ·
        exact Keeps.refl _
      ·
        lift_lets -underBinder
        extract_lets -descend x21 x22 x23
        have hx21 : Keeps 12532985 s x21 := by
          unfold x21
          refine Keeps.set_ingress rfl ?_
          exact Keeps.refl _
        clear_value x21
        clear_value x22
        have hx23 : Keeps 12532985 s x23 := by
          unfold x23
          refine Keeps.ite ?_ ?_
          ·
            exact hx21
          ·
            dsimp -zeta only
            lift_lets -underBinder
            extract_lets -descend x24 x25 x26 x27 x28 x29 x30
            clear_value x24
            clear_value x25
            clear_value x26
            clear_value x27
            clear_value x28
            clear_value x29
            have hx30 : Keeps 12532985 s x30 := by
              unfold x30
              refine Keeps.step (State.setVote_keeps ..) rfl ?_
              exact hx21
            clear_value x30
            refine Keeps.ite ?_ ?_
            ·
              exact hx21
            ·
              refine Keeps.ite ?_ ?_
              ·
                refine Keeps.step (State.inc_keeps ..) rfl ?_
                exact hx21
              ·
                refine Keeps.ite ?_ ?_
                ·
                  refine Keeps.step (State.tryNext_keeps ..) rfl ?_
                  refine Keeps.fold ?_ ?_
                  ·
                    exact hx30
                  ·
                    intro z31 q32 h33
                    refine Keeps.step (State.addPod_keeps ..) rfl ?_
                    exact h33
                ·
                  exact hx30
        clear_value x23
        refine Keeps.fold ?_ ?_
        ·
          exact hx23
        ·
          intro z34 q35 h36
          refine Keeps.step (State.answerRx_keeps ..) rfl ?_
          exact h36

theorem execDecisionMsg_keeps : ∀ m s, KeepsOut 12532985 s (execDecisionMsg m s) := by
  intro m s
  unfold execDecisionMsg
  refine KeepsOut.next ?_
  unfold State.withSquall
  split
  ·
    rename_i y0 y1
    split
    ·
      rename_i y2 y3
      exact Keeps.refl _
    ·
      rename_i y4 y5 y6 y7 y8
      refine Keeps.ite ?_ ?_
      ·
        dsimp -zeta only
        refine Keeps.ite ?_ ?_
        ·
          refine Keeps.set_localMsgs rfl ?_
          exact Keeps.refl _
        ·
          refine Keeps.step (State.tryNext_keeps ..) rfl ?_
          refine Keeps.step (State.recordDecision_keeps ..) rfl ?_
          refine Keeps.set_localMsgs rfl ?_
          exact Keeps.refl _
      ·
        exact Keeps.refl _
  ·
    rename_i y9 y10
    unfold State.withMsg
    split
    ·
      rename_i y11 y12
      exact Keeps.refl _
    ·
      rename_i y13 y14 y15 y16 y17
      refine Keeps.ite ?_ ?_
      ·
        exact Keeps.refl _
      ·
        lift_lets -underBinder
        extract_lets -descend x18 x19 x20
        have hx18 : Keeps 12532985 s x18 := by
          unfold x18
          refine Keeps.set_ingress rfl ?_
          exact Keeps.refl _
        clear_value x18
        clear_value x19
        have hx20 : Keeps 12532985 s x20 := by
          unfold x20
          refine Keeps.ite ?_ ?_
          ·
            exact hx18
          ·
            dsimp -zeta only
            lift_lets -underBinder
            extract_lets -descend x21 x22 x23 x24 x25 x26 x27
            clear_value x21
            clear_value x22
            clear_value x23
            clear_value x24
            clear_value x25
            clear_value x26
            have hx27 : Keeps 12532985 s x27 := by
              unfold x27
              refine Keeps.step (State.setVote_keeps ..) rfl ?_
              exact hx18
            clear_value x27
            refine Keeps.ite ?_ ?_
            ·
              exact hx18
            ·
              refine Keeps.ite ?_ ?_
              ·
                refine Keeps.step (State.inc_keeps ..) rfl ?_
                exact hx18
              ·
                refine Keeps.ite ?_ ?_
                ·
                  exact hx27
                ·
                  refine Keeps.step (State.tryNext_keeps ..) rfl ?_
                  refine Keeps.step (State.recordDecision_keeps ..) rfl ?_
                  exact hx27
        clear_value x20
        refine Keeps.fold ?_ ?_
        ·
          exact hx20
        ·
          intro z28 q29 h30
          refine Keeps.step (State.answerRx_keeps ..) rfl ?_
          exact h30

theorem execQueryMsg_keeps : ∀ m s, KeepsOut 12531897 s (execQueryMsg m s) := by
  intro m s
  unfold execQueryMsg
  refine KeepsOut.next ?_
  unfold State.withSquall
  split
  ·
    rename_i y0 y1
    split
    ·
      rename_i y2 y3
      exact Keeps.refl _
    ·
      rename_i y4 y5 y6 y7 y8
      refine Keeps.ite ?_ ?_
      ·
        dsimp -zeta only
        split
        ·
          rename_i y9 y10 y11
          refine Keeps.step (State.sendSquall_keeps ..) rfl ?_
          refine Keeps.set_localMsgs rfl ?_
          exact Keeps.refl _
        ·
          rename_i y12 y13
          refine Keeps.ite ?_ ?_
          ·
            refine Keeps.set_localMsgs rfl ?_
            exact Keeps.refl _
          ·
            lift_lets -underBinder
            extract_lets -descend x14 x15
            clear_value x14
            have hx15 : Keeps 12531897 s x15 := by
              unfold x15
              refine Keeps.step (State.setVote_keeps ..) rfl ?_
              refine Keeps.set_localMsgs rfl ?_
              exact Keeps.refl _
            clear_value x15
            refine Keeps.step (State.sendUp_keeps ..) rfl ?_
            exact hx15
      ·
        exact Keeps.refl _
  ·
    rename_i y16 y17
    unfold State.withMsg
    split
    ·
      rename_i y18 y19
      exact Keeps.refl _
    ·
      rename_i y20 y21 y22 y23 y24
      refine Keeps.ite ?_ ?_
      ·
        exact Keeps.refl _
      ·
        lift_lets -underBinder
        extract_lets -descend x25 x26 x27
        have hx25 : Keeps 12531897 s x25 := by
          unfold x25
          refine Keeps.set_ingress rfl ?_
          exact Keeps.refl _
        clear_value x25
        clear_value x26
        have hx27 : Keeps 12531897 s x27 := by
          unfold x27
          refine Keeps.ite ?_ ?_
          ·
            exact hx25
          ·
            dsimp -zeta only
            lift_lets -underBinder
            extract_lets -descend x28 x29 x30 x31 x32 x33 x34
            clear_value x28
            clear_value x29
            clear_value x30
            clear_value x31
            clear_value x32
            clear_value x33
            have hx34 : Keeps 12531897 s x34 := by
              unfold x34
              refine Keeps.step (State.setVote_keeps ..) rfl ?_
              exact hx25
            clear_value x34
            refine Keeps.ite ?_ ?_
            ·
              exact hx25
            ·
              refine Keeps.ite ?_ ?_
              ·
                refine Keeps.step (State.inc_keeps ..) rfl ?_
                exact hx25
              ·
                split
                ·
                  rename_i y35 y36 y37
                  refine Keeps.step (State.sendSquall_keeps ..) rfl ?_
                  exact hx34
                ·
                  rename_i y38 y39
                  refine Keeps.ite ?_ ?_
                  ·
                    exact hx34
                  ·
                    lift_lets -underBinder
                    extract_lets -descend x40 x41
                    clear_value x40
                    have hx41 : Keeps 12531897 s x41 := by
                      unfold x41
                      refine Keeps.step (State.setVote_keeps ..) rfl ?_
                      exact hx34
                    clear_value x41
                    refine Keeps.step (State.sendUp_keeps ..) rfl ?_
                    exact hx41
        clear_value x27
        refine Keeps.fold ?_ ?_
        ·
          exact hx27
        ·
          intro z42 q43 h44
          refine Keeps.step (State.answerRx_keeps ..) rfl ?_
          exact h44

theorem execAppliedMsg_keeps : ∀ m s, KeepsOut 12532985 s (execAppliedMsg m s) := by
  intro m s
  unfold execAppliedMsg
  refine KeepsOut.next ?_
  unfold State.withSquall
  split
  ·
    rename_i y0 y1
    split
    ·
      rename_i y2 y3
      exact Keeps.refl _
    ·
      rename_i y4 y5 y6 y7 y8
      refine Keeps.ite ?_ ?_
      ·
        dsimp -zeta only
        refine Keeps.ite ?_ ?_
        ·
          refine Keeps.step (State.appliedAt_keeps ..) rfl ?_
          refine Keeps.set_localMsgs rfl ?_
          exact Keeps.refl _
        ·
          refine Keeps.ite ?_ ?_
          ·
            refine Keeps.step (State.sendUp_keeps ..) rfl ?_
            refine Keeps.set_localMsgs rfl ?_
            exact Keeps.refl _
          ·
            refine Keeps.set_localMsgs rfl ?_
            exact Keeps.refl _
      ·
        exact Keeps.refl _
  ·
    rename_i y9 y10
    unfold State.withMsg
    split
    ·
      rename_i y11 y12
      exact Keeps.refl _
    ·
      rename_i y13 y14 y15 y16 y17
      refine Keeps.ite ?_ ?_
      ·
        exact Keeps.refl _
      ·
        lift_lets -underBinder
        extract_lets -descend x18 x19 x20
        have hx18 : Keeps 12532985 s x18 := by
          unfold x18
          refine Keeps.set_ingress rfl ?_
          exact Keeps.refl _
        clear_value x18
        clear_value x19
        have hx20 : Keeps 12532985 s x20 := by
          unfold x20
          refine Keeps.ite ?_ ?_
          ·
            exact hx18
          ·
            dsimp -zeta only
            lift_lets -underBinder
            extract_lets -descend x21 x22 x23 x24 x25 x26 x27
            clear_value x21
            clear_value x22
            clear_value x23
            clear_value x24
            clear_value x25
            clear_value x26
            have hx27 : Keeps 12532985 s x27 := by
              unfold x27
              refine Keeps.step (State.setVote_keeps ..) rfl ?_
              exact hx18
            clear_value x27
            refine Keeps.ite ?_ ?_
            ·
              exact hx18
            ·
              refine Keeps.ite ?_ ?_
              ·
                refine Keeps.step (State.inc_keeps ..) rfl ?_
                exact hx18
              ·
                refine Keeps.ite ?_ ?_
                ·
                  refine Keeps.step (State.appliedAt_keeps ..) rfl ?_
                  exact hx27
                ·
                  refine Keeps.ite ?_ ?_
                  ·
                    refine Keeps.step (State.sendUp_keeps ..) rfl ?_
                    exact hx27
                  ·
                    exact hx27
        clear_value x20
        refine Keeps.fold ?_ ?_
        ·
          exact hx20
        ·
          intro z28 q29 h30
          refine Keeps.step (State.answerRx_keeps ..) rfl ?_
          exact h30

theorem execStepDoneMsg_keeps : ∀ m s, KeepsOut 12531897 s (execStepDoneMsg m s) := by
  intro m s
  unfold execStepDoneMsg
  refine KeepsOut.next ?_
  unfold State.withSquall
  split
  ·
    rename_i y0 y1
    split
    ·
      rename_i y2 y3
      exact Keeps.refl _
    ·
      rename_i y4 y5 y6 y7 y8
      refine Keeps.ite ?_ ?_
      ·
        dsimp -zeta only
        refine Keeps.ite ?_ ?_
        ·
          refine Keeps.set_localMsgs rfl ?_
          exact Keeps.refl _
        ·
          refine Keeps.step (State.stepDone_keeps ..) rfl ?_
          refine Keeps.step (State.fanOut_keeps ..) rfl ?_
          refine Keeps.set_localMsgs rfl ?_
          exact Keeps.refl _
      ·
        exact Keeps.refl _
  ·
    rename_i y9 y10
    unfold State.withMsg
    split
    ·
      rename_i y11 y12
      exact Keeps.refl _
    ·
      rename_i y13 y14 y15 y16 y17
      refine Keeps.ite ?_ ?_
      ·
        exact Keeps.refl _
      ·
        lift_lets -underBinder
        extract_lets -descend x18 x19 x20
        have hx18 : Keeps 12531897 s x18 := by
          unfold x18
          refine Keeps.set_ingress rfl ?_
          exact Keeps.refl _
        clear_value x18
        clear_value x19
        have hx20 : Keeps 12531897 s x20 := by
          unfold x20
          refine Keeps.ite ?_ ?_
          ·
            exact hx18
          ·
            dsimp -zeta only
            lift_lets -underBinder
            extract_lets -descend x21 x22 x23 x24 x25 x26 x27
            clear_value x21
            clear_value x22
            clear_value x23
            clear_value x24
            clear_value x25
            clear_value x26
            have hx27 : Keeps 12531897 s x27 := by
              unfold x27
              refine Keeps.step (State.setVote_keeps ..) rfl ?_
              exact hx18
            clear_value x27
            refine Keeps.ite ?_ ?_
            ·
              exact hx18
            ·
              refine Keeps.ite ?_ ?_
              ·
                refine Keeps.step (State.inc_keeps ..) rfl ?_
                exact hx18
              ·
                refine Keeps.ite ?_ ?_
                ·
                  exact hx27
                ·
                  refine Keeps.step (State.stepDone_keeps ..) rfl ?_
                  refine Keeps.step (State.fanOut_keeps ..) rfl ?_
                  exact hx27
        clear_value x20
        refine Keeps.fold ?_ ?_
        ·
          exact hx20
        ·
          intro z28 q29 h30
          refine Keeps.step (State.answerRx_keeps ..) rfl ?_
          exact h30

theorem execFenceMsg_keeps : ∀ m s, KeepsOut 12532985 s (execFenceMsg m s) := by
  intro m s
  unfold execFenceMsg
  refine KeepsOut.next ?_
  unfold State.withSquall
  split
  ·
    rename_i y0 y1
    split
    ·
      rename_i y2 y3
      exact Keeps.refl _
    ·
      rename_i y4 y5 y6 y7 y8
      refine Keeps.ite ?_ ?_
      ·
        dsimp -zeta only
        refine Keeps.ite ?_ ?_
        ·
          refine Keeps.set_localMsgs rfl ?_
          exact Keeps.refl _
        ·
          lift_lets -underBinder
          extract_lets -descend x9 x10
          clear_value x9
          clear_value x10
          refine Keeps.step (State.holdJob_keeps ..) rfl ?_
          refine Keeps.step (State.fanOut_keeps ..) rfl ?_
          refine Keeps.set_localMsgs rfl ?_
          exact Keeps.refl _
      ·
        exact Keeps.refl _
  ·
    rename_i y11 y12
    unfold State.withMsg
    split
    ·
      rename_i y13 y14
      exact Keeps.refl _
    ·
      rename_i y15 y16 y17 y18 y19
      refine Keeps.ite ?_ ?_
      ·
        exact Keeps.refl _
      ·
        lift_lets -underBinder
        extract_lets -descend x20 x21 x22
        have hx20 : Keeps 12532985 s x20 := by
          unfold x20
          refine Keeps.set_ingress rfl ?_
          exact Keeps.refl _
        clear_value x20
        clear_value x21
        have hx22 : Keeps 12532985 s x22 := by
          unfold x22
          refine Keeps.ite ?_ ?_
          ·
            exact hx20
          ·
            dsimp -zeta only
            lift_lets -underBinder
            extract_lets -descend x23 x24 x25 x26 x27 x28 x29 x30 x31
            clear_value x23
            clear_value x24
            clear_value x25
            clear_value x26
            clear_value x27
            clear_value x28
            have hx29 : Keeps 12532985 s x29 := by
              unfold x29
              refine Keeps.step (State.setVote_keeps ..) rfl ?_
              exact hx20
            clear_value x29
            clear_value x30
            clear_value x31
            refine Keeps.ite ?_ ?_
            ·
              exact hx20
            ·
              refine Keeps.ite ?_ ?_
              ·
                refine Keeps.step (State.inc_keeps ..) rfl ?_
                exact hx20
              ·
                refine Keeps.ite ?_ ?_
                ·
                  exact hx29
                ·
                  refine Keeps.step (State.holdJob_keeps ..) rfl ?_
                  refine Keeps.step (State.fanOut_keeps ..) rfl ?_
                  exact hx29
        clear_value x22
        refine Keeps.fold ?_ ?_
        ·
          exact hx22
        ·
          intro z32 q33 h34
          refine Keeps.step (State.answerRx_keeps ..) rfl ?_
          exact h34

theorem execTrayTimerExpiry_keeps : ∀ i step s, KeepsOut 12269753 s (execTrayTimerExpiry i step s) := by
  intro i step s
  unfold execTrayTimerExpiry
  refine KeepsOut.next ?_
  refine Keeps.ite ?_ ?_
  ·
    refine Keeps.step (State.tryTray_keeps ..) rfl ?_
    exact Keeps.refl _
  ·
    exact Keeps.refl _

theorem execPodDeadlineExpiry_keeps : ∀ i step s, KeepsOut 12270841 s (execPodDeadlineExpiry i step s) := by
  intro i step s
  unfold execPodDeadlineExpiry
  refine KeepsOut.next ?_
  refine Keeps.step (State.tryNext_keeps ..) rfl ?_
  refine Keeps.step (State.tryPod_keeps ..) rfl ?_
  exact Keeps.refl _

theorem execJobDeadlineExpiry_keeps : ∀ i step s, KeepsOut 12270841 s (execJobDeadlineExpiry i step s) := by
  intro i step s
  unfold execJobDeadlineExpiry
  refine KeepsOut.next ?_
  refine Keeps.ite ?_ ?_
  ·
    exact Keeps.refl _
  ·
    refine Keeps.step (State.tryNext_keeps ..) rfl ?_
    refine Keeps.step (State.tryJob_keeps ..) rfl ?_
    exact Keeps.refl _

theorem execQueryInterval_keeps : ∀ i s, KeepsOut 12267705 s (execQueryInterval i s) := by
  intro i s
  unfold execQueryInterval
  split
  ·
    rename_i y0 y1
    refine KeepsOut.next ?_
    exact Keeps.refl _
  ·
    rename_i y2 y3 y4
    split
    ·
      rename_i y5
      refine KeepsOut.next ?_
      exact Keeps.refl _
    ·
      rename_i y6
      lift_lets -underBinder
      extract_lets -descend x7
      have hx7 : Keeps 12267705 s x7 := by
        unfold x7
        refine Keeps.step (State.setFld_keeps ..) rfl ?_
        refine Keeps.step (State.inc_keeps ..) rfl ?_
        exact Keeps.refl _
      clear_value x7
      refine KeepsOut.next ?_
      refine Keeps.step (State.sendUp_keeps ..) rfl ?_
      exact hx7

theorem execDecisionWait_keeps : ∀ i s, KeepsOut 8390657 s (execDecisionWait i s) := by
  intro i s
  unfold execDecisionWait
  split
  ·
    rename_i y0 y1
    refine KeepsOut.next ?_
    exact Keeps.refl _
  ·
    rename_i y2 y3 y4
    lift_lets -underBinder
    extract_lets -descend x5 x6
    clear_value x5
    have hx6 : Keeps 8390657 s x6 := by
      unfold x6
      refine Keeps.step (State.setVote_keeps ..) rfl ?_
      exact Keeps.refl _
    clear_value x6
    split
    ·
      rename_i y7
      refine KeepsOut.next ?_
      exact Keeps.refl _
    ·
      rename_i y8
      refine KeepsOut.next ?_
      refine Keeps.step (State.log_keeps ..) rfl ?_
      exact hx6

theorem execApplyLate_keeps : ∀ i step s, KeepsOut 12270841 s (execApplyLate i step s) := by
  intro i step s
  unfold execApplyLate
  lift_lets -underBinder
  extract_lets -descend x0 x1
  clear_value x0
  clear_value x1
  split
  ·
    rename_i y2
    refine KeepsOut.next ?_
    refine Keeps.fold ?_ ?_
    ·
      exact Keeps.refl _
    ·
      intro z3 q4 h5
      refine Keeps.step (State.fenceMember_keeps ..) rfl ?_
      refine Keeps.step (State.log_keeps ..) rfl ?_
      exact h5
  ·
    rename_i y6
    refine KeepsOut.next ?_
    exact Keeps.refl _

end Sys2Proof.Machine
end

