-- ==== Sys2Proof/Laws/KeepsIngest.lean ====
section
/-! SUPPORT. What each operation and each command of Machine/Ingest.lean touches, one lemma each: the bits of its mask are the
parts of the state that it may change; the queue and the canonical form of the memories it keeps. -/
namespace Sys2Proof.Machine

theorem State.setMedia_keeps : ∀ s m, Keeps 1048576 s (State.setMedia s m) := by
  intro s m
  unfold State.setMedia
  refine Keeps.set_media rfl ?_
  exact Keeps.refl _

theorem State.setStrm_keeps : ∀ s x t, Keeps 1048576 s (State.setStrm s x t) := by
  intro s x t
  unfold State.setStrm
  refine Keeps.step (State.setMedia_keeps ..) rfl ?_
  exact Keeps.refl _

theorem State.mediaWrite_keeps : ∀ s u i a bs, Keeps 8388745 s (State.mediaWrite s u i a bs) := by
  intro s u i a bs
  unfold State.mediaWrite
  refine Keeps.ite ?_ ?_
  ·
    exact Keeps.refl _
  ·
    split
    ·
      rename_i y0 y1
      refine Keeps.step (State.putBytes_keeps ..) rfl ?_
      exact Keeps.refl _
    ·
      rename_i y2 y3
      refine Keeps.step (State.firewallDenied_keeps ..) rfl ?_
      exact Keeps.refl _
    ·
      rename_i y4 y5 y6
      exact Keeps.refl _

theorem State.setRingFld_keeps : ∀ s codec i r f v, Keeps 1 s (State.setRingFld s codec i r f v) := by
  intro s codec i r f v
  unfold State.setRingFld
  refine Keeps.step (State.setFld_keeps ..) rfl ?_
  exact Keeps.refl _

theorem State.writeMediaTail_keeps : ∀ s codec i v, Keeps 1 s (State.writeMediaTail s codec i v) := by
  intro s codec i v
  unfold State.writeMediaTail
  refine Keeps.ite ?_ ?_
  ·
    refine Keeps.step (State.setRingFld_keeps ..) rfl ?_
    refine Keeps.step (State.setRingFld_keeps ..) rfl ?_
    exact Keeps.refl _
  ·
    refine Keeps.step (State.setRingFld_keeps ..) rfl ?_
    exact Keeps.refl _

theorem State.mediaFetch_keeps : ∀ s codec i n, KeepsOpt 1 s (fun z : _ × _ × State => z.2.2) (State.mediaFetch s codec i n) := by
  intro s codec i n
  unfold State.mediaFetch
  lift_lets -underBinder
  extract_lets -descend x0 x1 x2 x3
  clear_value x0
  clear_value x1
  clear_value x2
  clear_value x3
  split
  ·
    rename_i y4
    exact KeepsOpt.none
  ·
    rename_i y5
    refine KeepsOpt.some ?_
    dsimp -zeta only
    refine Keeps.step (State.setRingFld_keeps ..) rfl ?_
    exact Keeps.refl _

theorem State.mediaCpl_keeps : ∀ s codec i idx status result, Keeps 3145881 s (State.mediaCpl s codec i idx status result) := by
  intro s codec i idx status result
  unfold State.mediaCpl
  lift_lets -underBinder
  extract_lets -descend x0 x1 x2 x3 x4 x5 x6 x7
  clear_value x0
  clear_value x1
  clear_value x2
  clear_value x3
  have hx4 : Keeps 3145881 s x4 := by
    unfold x4
    refine Keeps.step (State.putRing_keeps ..) rfl ?_
    exact Keeps.refl _
  clear_value x4
  clear_value x5
  clear_value x6
  have hx7 : Keeps 3145881 s x7 := by
    unfold x7
    refine Keeps.step (State.setMedia_keeps ..) rfl ?_
    exact hx4
  clear_value x7
  refine Keeps.step (State.irq_keeps ..) rfl ?_
  exact hx7

theorem State.showIngest_keeps : ∀ s, Keeps 1 s (State.showIngest s) := by
  intro s
  unfold State.showIngest
  lift_lets -underBinder
  extract_lets -descend x0 x1
  have hx0 : Keeps 1 s x0 := by
    unfold x0
    refine Keeps.fold ?_ ?_
    ·
      exact Keeps.refl _
    ·
      intro z2 q3 h4
      refine Keeps.step (State.setFld_keeps ..) rfl ?_
      exact h4
  clear_value x0
  have hx1 : Keeps 1 s x1 := by
    unfold x1
    refine Keeps.step (State.setFld_keeps ..) rfl ?_
    exact hx0
  clear_value x1
  refine Keeps.step (State.setFld_keeps ..) rfl ?_
  exact hx1

theorem State.setCdc_keeps : ∀ s e x, Keeps 1048576 s (State.setCdc s e x) := by
  intro s e x
  unfold State.setCdc
  refine Keeps.step (State.setMedia_keeps ..) rfl ?_
  exact Keeps.refl _

theorem State.setEncS_keeps : ∀ s t x, Keeps 1048576 s (State.setEncS s t x) := by
  intro s t x
  unfold State.setEncS
  refine Keeps.step (State.setMedia_keeps ..) rfl ?_
  exact Keeps.refl _

theorem State.showEng_keeps : ∀ s e, Keeps 1 s (State.showEng s e) := by
  intro s e
  unfold State.showEng
  lift_lets -underBinder
  extract_lets -descend x0 x1 x2 x3
  clear_value x0
  have hx1 : Keeps 1 s x1 := by
    unfold x1
    refine Keeps.step (State.setFld_keeps ..) rfl ?_
    exact Keeps.refl _
  clear_value x1
  have hx2 : Keeps 1 s x2 := by
    unfold x2
    refine Keeps.step (State.setFld_keeps ..) rfl ?_
    exact hx1
  clear_value x2
  have hx3 : Keeps 1 s x3 := by
    unfold x3
    refine Keeps.step (State.setFld_keeps ..) rfl ?_
    exact hx2
  clear_value x3
  refine Keeps.step (State.setFld_keeps ..) rfl ?_
  exact hx3

theorem State.reserve_keeps : ∀ s e x mps, KeepsOpt 1048577 s (fun z : State => z) (State.reserve s e x mps) := by
  intro s e x mps
  unfold State.reserve
  split
  ·
    rename_i y0
    exact KeepsOpt.none
  ·
    rename_i y1
    lift_lets -underBinder
    extract_lets -descend x2 x3 x4 x5
    clear_value x2
    have hx3 : Keeps 1048577 s x3 := by
      unfold x3
      refine Keeps.step (State.setMedia_keeps ..) rfl ?_
      exact Keeps.refl _
    clear_value x3
    clear_value x4
    have hx5 : Keeps 1048577 s x5 := by
      unfold x5
      refine Keeps.step (State.setCdc_keeps ..) rfl ?_
      exact hx3
    clear_value x5
    refine KeepsOpt.some ?_
    refine Keeps.step (State.showEng_keeps ..) rfl ?_
    exact hx5

theorem State.unbind_keeps : ∀ s es x mine, Keeps 1048577 s (State.unbind s es x mine) := by
  intro s es x mine
  unfold State.unbind
  refine Keeps.fold ?_ ?_
  ·
    exact Keeps.refl _
  ·
    intro z0 q1 h2
    lift_lets -underBinder
    extract_lets -descend x3 x4 x5 x6 x7
    clear_value x3
    have hx4 : Keeps 1048577 s x4 := by
      unfold x4
      refine Keeps.step (State.setMedia_keeps ..) rfl ?_
      exact h2
    clear_value x4
    clear_value x5
    have hx7 : Keeps 1048577 s x7 := by
      unfold x7
      refine Keeps.step (State.setCdc_keeps ..) rfl ?_
      exact hx4
    clear_value x7
    refine Keeps.step (State.showEng_keeps ..) rfl ?_
    exact hx7

theorem State.pixelsDone_keeps : ∀ s e key n live, Keeps 1048577 s (State.pixelsDone s e key n live) := by
  intro s e key n live
  unfold State.pixelsDone
  lift_lets -underBinder
  extract_lets -descend x0
  have hx0 : Keeps 1048577 s x0 := by
    unfold x0
    refine Keeps.step (State.add64_keeps ..) rfl ?_
    exact Keeps.refl _
  clear_value x0
  split
  ·
    rename_i y1
    exact hx0
  ·
    rename_i y2 y3
    lift_lets -underBinder
    extract_lets -descend x4
    clear_value x4
    split
    ·
      rename_i y5 y6 y7 y8
      lift_lets -underBinder
      extract_lets -descend x9 x10 x11
      clear_value x9
      clear_value x10
      have hx11 : Keeps 1048577 s x11 := by
        unfold x11
        refine Keeps.step (State.setMedia_keeps ..) rfl ?_
        exact hx0
      clear_value x11
      refine Keeps.ite ?_ ?_
      ·
        refine Keeps.step (State.inc_keeps ..) rfl ?_
        exact hx11
      ·
        exact hx11

theorem State.applyInstalls_keeps : ∀ s x seq, Keeps 1048577 s (State.applyInstalls s x seq) := by
  intro s x seq
  unfold State.applyInstalls
  lift_lets -underBinder
  extract_lets -descend x0 x1 x2 x3 x4 x5 x6 x7
  clear_value x0
  clear_value x1
  clear_value x2
  clear_value x3
  clear_value x4
  have hx5 : Keeps 1048577 s x5 := by
    unfold x5
    refine Keeps.step (State.setStrm_keeps ..) rfl ?_
    exact Keeps.refl _
  clear_value x5
  have hx6 : Keeps 1048577 s x6 := by
    unfold x6
    refine Keeps.ite ?_ ?_
    ·
      refine Keeps.step (State.setFld_keeps ..) rfl ?_
      exact hx5
    ·
      exact hx5
  clear_value x6
  have hx7 : Keeps 1048577 s x7 := by
    unfold x7
    refine Keeps.step (State.setFld_keeps ..) rfl ?_
    exact hx6
  clear_value x7
  refine Keeps.step (State.setFld_keeps ..) rfl ?_
  exact hx7

theorem State.assignFrame_keeps : ∀ s x fill, Keeps 1048577 s (State.assignFrame s x fill) := by
  intro s x fill
  unfold State.assignFrame
  lift_lets -underBinder
  extract_lets -descend x0 x1 x2 x3 x4
  clear_value x0
  have hx1 : Keeps 1048577 s x1 := by
    unfold x1
    refine Keeps.step (State.applyInstalls_keeps ..) rfl ?_
    exact Keeps.refl _
  clear_value x1
  clear_value x2
  clear_value x3
  have hx4 : Keeps 1048577 s x4 := by
    unfold x4
    refine Keeps.step (State.setStrm_keeps ..) rfl ?_
    exact hx1
  clear_value x4
  refine Keeps.step (State.add64_keeps ..) rfl ?_
  refine Keeps.step (State.add64_keeps ..) rfl ?_
  exact hx4

theorem State.mapFrame_keeps : ∀ s x seq g, Keeps 1048576 s (State.mapFrame s x seq g) := by
  intro s x seq g
  unfold State.mapFrame
  refine Keeps.step (State.setStrm_keeps ..) rfl ?_
  exact Keeps.refl _

theorem State.dropSlot_keeps : ∀ s x f, Keeps 9437249 s (State.dropSlot s x f) := by
  intro s x f
  unfold State.dropSlot
  split
  ·
    rename_i y0 y1 y2
    refine Keeps.step (State.mapFrame_keeps ..) rfl ?_
    refine Keeps.step (State.returnSlot_keeps ..) rfl ?_
    exact Keeps.refl _
  ·
    rename_i y3 y4
    exact Keeps.refl _

theorem State.slotWrite_keeps : ∀ s x f off bs, Keeps 8388745 s (State.slotWrite s x f off bs) := by
  intro s x f off bs
  unfold State.slotWrite
  split
  ·
    rename_i y0 y1 y2
    refine Keeps.step (State.mediaWrite_keeps ..) rfl ?_
    exact Keeps.refl _
  ·
    rename_i y3 y4
    exact Keeps.refl _

theorem State.settle_keeps : ∀ s x f, Keeps 9437385 s (State.settle s x f) := by
  intro s x f
  unfold State.settle
  refine Keeps.ite ?_ ?_
  ·
    exact Keeps.refl _
  ·
    lift_lets -underBinder
    extract_lets -descend x0 x1 x2 x3 x4 x5 x6 x7 x8 x9 x10 x11
    clear_value x0
    have hx1 : Keeps 9437385 s x1 := by
      unfold x1
      refine Keeps.step (State.dropSlot_keeps ..) rfl ?_
      exact Keeps.refl _
    clear_value x1
    clear_value x2
    clear_value x3
    clear_value x4
    have hx5 : Keeps 9437385 s x5 := by
      unfold x5
      refine Keeps.step (State.slotWrite_keeps ..) rfl ?_
      exact Keeps.refl _
    clear_value x5
    clear_value x6
    have hx7 : Keeps 9437385 s x7 := by
      unfold x7
      refine Keeps.ite ?_ ?_
      ·
        refine Keeps.step (State.slotWrite_keeps ..) rfl ?_
        refine Keeps.step (State.slotWrite_keeps ..) rfl ?_
        exact hx5
      ·
        exact hx5
    clear_value x7
    have hx8 : Keeps 9437385 s x8 := by
      unfold x8
      refine Keeps.ite ?_ ?_
      ·
        refine Keeps.step (State.inc_keeps ..) rfl ?_
        exact hx7
      ·
        exact hx7
    clear_value x8
    have hx9 : Keeps 9437385 s x9 := by
      unfold x9
      refine Keeps.ite ?_ ?_
      ·
        refine Keeps.step (State.inc_keeps ..) rfl ?_
        exact hx8
      ·
        exact hx8
    clear_value x9
    have hx10 : Keeps 9437385 s x10 := by
      unfold x10
      refine Keeps.ite ?_ ?_
      ·
        refine Keeps.step (State.inc_keeps ..) rfl ?_
        exact hx9
      ·
        exact hx9
    clear_value x10
    clear_value x11
    refine Keeps.ite ?_ ?_
    ·
      refine Keeps.step (State.mapFrame_keeps ..) rfl ?_
      refine Keeps.step (State.inc_keeps ..) rfl ?_
      exact hx1
    ·
      refine Keeps.step (State.mapFrame_keeps ..) rfl ?_
      exact hx10

theorem State.tryEndJob_keeps : ∀ s id, Keeps 3145945 s (State.tryEndJob s id) := by
  intro s id
  unfold State.tryEndJob
  split
  ·
    rename_i y0 y1
    exact Keeps.refl _
  ·
    rename_i y2 y3 y4
    split
    ·
      rename_i y5 y6
      exact Keeps.refl _
    ·
      rename_i y7 y8 y9
      refine Keeps.ite ?_ ?_
      ·
        exact Keeps.refl _
      ·
        lift_lets -underBinder
        extract_lets -descend x10 x11 x12 x13
        clear_value x10
        have hx11 : Keeps 3145945 s x11 := by
          unfold x11
          refine Keeps.step (State.setMedia_keeps ..) rfl ?_
          exact Keeps.refl _
        clear_value x11
        clear_value x12
        have hx13 : Keeps 3145945 s x13 := by
          unfold x13
          refine Keeps.step (State.doneSem_keeps ..) rfl ?_
          refine Keeps.step (State.mediaCpl_keeps ..) rfl ?_
          exact hx11
        clear_value x13
        split
        ·
          rename_i y14 y15
          refine Keeps.step (State.showIngest_keeps ..) rfl ?_
          exact hx13
        ·
          rename_i y16 y17 y18
          refine Keeps.step (State.showIngest_keeps ..) rfl ?_
          refine Keeps.step (State.setMedia_keeps ..) rfl ?_
          exact hx13

theorem State.publish_keeps : ∀ s x, Keeps 11534585 s (State.publish s x) := by
  intro s x
  unfold State.publish
  split
  ·
    rename_i y0 y1
    exact Keeps.refl _
  ·
    rename_i y2 y3 y4 y5
    lift_lets -underBinder
    extract_lets -descend x6
    have hx6 : Keeps 11534585 s x6 := by
      unfold x6
      refine Keeps.step (State.settle_keeps ..) rfl ?_
      exact Keeps.refl _
    clear_value x6
    split
    ·
      rename_i y7 y8
      exact hx6
    ·
      rename_i y9 y10 y11 y12
      refine Keeps.ite ?_ ?_
      ·
        exact hx6
      ·
        lift_lets -underBinder
        extract_lets -descend x13 x14 x15 x16 x17 x18 x19 x20
        clear_value x13
        clear_value x14
        have hx15 : Keeps 11534585 s x15 := by
          unfold x15
          refine Keeps.step (State.mediaWrite_keeps ..) rfl ?_
          exact hx6
        clear_value x15
        have hx16 : Keeps 11534585 s x16 := by
          unfold x16
          refine Keeps.step (State.mediaWrite_keeps ..) rfl ?_
          exact hx15
        clear_value x16
        clear_value x17
        have hx18 : Keeps 11534585 s x18 := by
          unfold x18
          refine Keeps.ite ?_ ?_
          ·
            refine Keeps.step (State.bobAdd_keeps ..) rfl ?_
            exact hx16
          ·
            exact hx16
        clear_value x18
        clear_value x19
        have hx20 : Keeps 11534585 s x20 := by
          unfold x20
          refine Keeps.step (State.setStrm_keeps ..) rfl ?_
          exact hx18
        clear_value x20
        split
        ·
          rename_i y21 y22 y23
          refine Keeps.step (State.tryEndJob_keeps ..) rfl ?_
          exact hx20
        ·
          rename_i y24 y25
          exact hx20

theorem State.putJob_keeps : ∀ s b, Keeps 1048576 s (State.putJob s b) := by
  intro s b
  unfold State.putJob
  refine Keeps.step (State.setMedia_keeps ..) rfl ?_
  exact Keeps.refl _

theorem State.endJob'_keeps : ∀ s id st, Keeps 3145945 s (State.endJob' s id st) := by
  intro s id st
  unfold State.endJob'
  lift_lets -underBinder
  extract_lets -descend x0 x1
  clear_value x0
  have hx1 : Keeps 3145945 s x1 := by
    unfold x1
    refine Keeps.step (State.setMedia_keeps ..) rfl ?_
    exact Keeps.refl _
  clear_value x1
  refine Keeps.step (State.tryEndJob_keeps ..) rfl ?_
  exact hx1

theorem State.askRemote_keeps : ∀ s b, Keeps 12263609 s (State.askRemote s b) := by
  intro s b
  unfold State.askRemote
  refine Keeps.ite ?_ ?_
  ·
    exact Keeps.refl _
  ·
    lift_lets -underBinder
    extract_lets -descend x0
    clear_value x0
    split
    ·
      rename_i y1
      lift_lets -underBinder
      extract_lets -descend x2 x3
      clear_value x2
      clear_value x3
      split
      ·
        rename_i y4 y5 y6
        have e7 : Keeps 12263609 s y5 := by
          refine KeepsOpt.eq (π := (fun z : State => z)) y6 ?_
          refine KeepsOpt.step (State.startTxn_keeps ..) rfl ?_
          exact Keeps.refl _
        refine Keeps.step (State.setMedia_keeps ..) rfl ?_
        exact e7
      ·
        rename_i y8 y9
        exact Keeps.refl _
    ·
      rename_i y11
      exact Keeps.refl _

theorem State.slotFor_keeps : ∀ s p wait, Keeps 1048641 s (State.slotFor s p wait).2 := by
  intro s p wait
  unfold State.slotFor
  split
  ·
    rename_i y0
    lift_lets -underBinder
    extract_lets -descend x1
    have hx1 : Keeps 1048641 s x1 := by
      unfold x1
      refine Keeps.fold ?_ ?_
      ·
        exact Keeps.refl _
      ·
        intro z2 q3 h4
        refine Keeps.step (State.poolGrant_keeps ..) rfl ?_
        exact h4
    clear_value x1
    split
    ·
      rename_i y5 y6 y7 y8 y9 y10
      dsimp -zeta only
      refine Keeps.step (State.showPool_keeps ..) rfl ?_
      refine Keeps.step (State.setSch_keeps ..) rfl ?_
      exact hx1
    ·
      rename_i y11 y12 y13
      exact hx1
  ·
    rename_i y14
    split
    ·
      rename_i y15 y16 y17 y18
      have e19 : Keeps 1048641 s (y17) := by
        refine Keeps.snd_eq y18 ?_
        refine Keeps.step (State.takeSlot_keeps ..) rfl ?_
        exact Keeps.refl _
      exact e19
    ·
      rename_i y20 y21 y22
      have e23 : Keeps 1048641 s (y21) := by
        refine Keeps.snd_eq y22 ?_
        refine Keeps.step (State.takeSlot_keeps ..) rfl ?_
        exact Keeps.refl _
      exact e23

theorem State.formFrame_keeps : ∀ s id k, Keeps 11534553 s (State.formFrame s id k) := by
  intro s id k
  unfold State.formFrame
  split
  ·
    rename_i y0 y1
    exact Keeps.refl _
  ·
    rename_i y2 y3 y4
    refine Keeps.ite ?_ ?_
    ·
      exact Keeps.refl _
    ·
      lift_lets -underBinder
      extract_lets -descend x5 x6 x7
      clear_value x5
      clear_value x6
      clear_value x7
      split
      ·
        rename_i y8 y9 y10 y11
        refine Keeps.ite ?_ ?_
        ·
          refine Keeps.step (State.endJob'_keeps ..) rfl ?_
          refine Keeps.step (State.readFailed_keeps ..) rfl ?_
          exact Keeps.refl _
        ·
          lift_lets -underBinder
          extract_lets -descend x12 x13 x14 x15
          clear_value x12
          clear_value x13
          clear_value x14
          clear_value x15
          split
          ·
            rename_i y16 y17 y18 y19
            have e20 : Keeps 11534553 s (y18) := by
              refine Keeps.snd_eq y19 ?_
              split
              ·
                rename_i y21
                dsimp -zeta only
                exact Keeps.refl _
              ·
                rename_i y22
                refine Keeps.step (State.slotFor_keeps ..) rfl ?_
                exact Keeps.refl _
            split
            ·
              rename_i y23
              have e24 : Keeps 11534553 s (y18) := by
                refine Keeps.snd_eq y19 ?_
                split
                ·
                  rename_i y25
                  dsimp -zeta only
                  exact Keeps.refl _
                ·
                  rename_i y26
                  refine Keeps.step (State.slotFor_keeps ..) rfl ?_
                  exact Keeps.refl _
              refine Keeps.step (State.endJob'_keeps ..) rfl ?_
              refine Keeps.step (State.putJob_keeps ..) rfl ?_
              exact e24
            ·
              rename_i y27 y28 y29
              have e30 : Keeps 11534553 s (y18) := by
                refine Keeps.snd_eq y19 ?_
                split
                ·
                  rename_i y31
                  dsimp -zeta only
                  exact Keeps.refl _
                ·
                  rename_i y32
                  refine Keeps.step (State.slotFor_keeps ..) rfl ?_
                  exact Keeps.refl _
              lift_lets -underBinder
              extract_lets -descend x33 x34 x35 x36 x37 x38 x39 x40 x41
              clear_value x33
              clear_value x34
              have hx35 : Keeps 11534553 s x35 := by
                unfold x35
                refine Keeps.step (State.assignFrame_keeps ..) rfl ?_
                exact e30
              clear_value x35
              clear_value x36
              have hx37 : Keeps 11534553 s x37 := by
                unfold x37
                refine Keeps.step (State.setMedia_keeps ..) rfl ?_
                exact hx35
              clear_value x37
              clear_value x38
              have hx39 : Keeps 11534553 s x39 := by
                unfold x39
                refine Keeps.ite ?_ ?_
                ·
                  refine Keeps.step (State.showPool_keeps ..) rfl ?_
                  refine Keeps.step (State.setSch_keeps ..) rfl ?_
                  exact hx37
                ·
                  exact hx37
              clear_value x39
              have hx40 : Keeps 11534553 s x40 := by
                unfold x40
                refine Keeps.step (State.putJob_keeps ..) rfl ?_
                exact hx39
              clear_value x40
              clear_value x41
              refine Keeps.ite ?_ ?_
              ·
                refine Keeps.step (State.setMedia_keeps ..) rfl ?_
                exact hx40
              ·
                exact hx40

theorem State.closeSample_keeps : ∀ s id, Keeps 11534553 s (State.closeSample s id) := by
  intro s id
  unfold State.closeSample
  split
  ·
    rename_i y0 y1
    exact Keeps.refl _
  ·
    rename_i y2 y3 y4
    refine Keeps.ite ?_ ?_
    ·
      exact Keeps.refl _
    ·
      lift_lets -underBinder
      extract_lets -descend x5 x6 x7 x8 x9
      clear_value x5
      clear_value x6
      have hx7 : Keeps 11534553 s x7 := by
        unfold x7
        refine Keeps.step (State.add64_keeps ..) rfl ?_
        exact Keeps.refl _
      clear_value x7
      have hx8 : Keeps 11534553 s x8 := by
        unfold x8
        refine Keeps.fold ?_ ?_
        ·
          exact hx7
        ·
          intro z10 q11 h12
          refine Keeps.step (State.formFrame_keeps ..) rfl ?_
          exact h12
      clear_value x8
      clear_value x9
      refine Keeps.step (State.setMedia_keeps ..) rfl ?_
      exact hx8

theorem State.endSource_keeps : ∀ s id, Keeps 11534553 s (State.endSource s id) := by
  intro s id
  unfold State.endSource
  lift_lets -underBinder
  extract_lets -descend x0
  have hx0 : Keeps 11534553 s x0 := by
    unfold x0
    refine Keeps.step (State.closeSample_keeps ..) rfl ?_
    exact Keeps.refl _
  clear_value x0
  split
  ·
    rename_i y1 y2 y3
    refine Keeps.step (State.endJob'_keeps ..) rfl ?_
    exact hx0
  ·
    rename_i y4 y5
    exact hx0

theorem State.lostFrame_keeps : ∀ s id pos, Keeps 11534553 s (State.lostFrame s id pos) := by
  intro s id pos
  unfold State.lostFrame
  lift_lets -underBinder
  extract_lets -descend x0 x1 x2
  have hx0 : Keeps 11534553 s x0 := by
    unfold x0
    refine Keeps.step (State.closeSample_keeps ..) rfl ?_
    exact Keeps.refl _
  clear_value x0
  clear_value x1
  have hx2 : Keeps 11534553 s x2 := by
    unfold x2
    refine Keeps.step (State.setMedia_keeps ..) rfl ?_
    exact hx0
  clear_value x2
  refine Keeps.step (State.closeSample_keeps ..) rfl ?_
  exact hx2

theorem State.addRecord_keeps : ∀ s id r key pos next cause name, Keeps 3145945 s (State.addRecord s id r key pos next cause name) := by
  intro s id r key pos next cause name
  unfold State.addRecord
  split
  ·
    rename_i y0 y1
    exact Keeps.refl _
  ·
    rename_i y2 y3 y4
    refine Keeps.ite ?_ ?_
    ·
      refine Keeps.step (State.tryEndJob_keeps ..) rfl ?_
      exact Keeps.refl _
    ·
      lift_lets -underBinder
      extract_lets -descend x5 x6 x7 x8 x9
      clear_value x5
      clear_value x6
      clear_value x7
      clear_value x8
      clear_value x9
      refine Keeps.ite ?_ ?_
      ·
        refine Keeps.step (State.endJob'_keeps ..) rfl ?_
        refine Keeps.step (State.putJob_keeps ..) rfl ?_
        exact Keeps.refl _
      ·
        refine Keeps.step (State.putJob_keeps ..) rfl ?_
        exact Keeps.refl _

theorem State.bareRecord_keeps : ∀ s b, Keeps 12263673 s (State.bareRecord s b) := by
  intro s b
  unfold State.bareRecord
  lift_lets -underBinder
  extract_lets -descend x0
  clear_value x0
  refine Keeps.ite ?_ ?_
  ·
    refine Keeps.step (State.endSource_keeps ..) rfl ?_
    refine Keeps.step (State.putJob_keeps ..) rfl ?_
    exact Keeps.refl _
  ·
    unfold State.parserBytes
    split
    ·
      rename_i y1 y2 y3
      dsimp -zeta only
      lift_lets -underBinder
      extract_lets -descend x4
      clear_value x4
      refine Keeps.step (State.endSource_keeps ..) rfl ?_
      refine Keeps.step (State.addRecord_keeps ..) rfl ?_
      exact Keeps.refl _
    ·
      rename_i y5 y6
      refine Keeps.step (State.askRemote_keeps ..) rfl ?_
      exact Keeps.refl _
    ·
      rename_i y7 y8 y9 y10 y11 y12
      refine Keeps.step (State.endJob'_keeps ..) rfl ?_
      refine Keeps.step (State.readFailed_keeps ..) rfl ?_
      exact Keeps.refl _

theorem State.resync_keeps : ∀ s b found, Keeps 12263673 s (State.resync s b found) := by
  intro s b found
  unfold State.resync
  lift_lets -underBinder
  extract_lets -descend x0
  clear_value x0
  unfold State.parserBytes
  split
  ·
    rename_i y1 y2 y3
    dsimp -zeta only
    lift_lets -underBinder
    extract_lets -descend x4 x5 x6 x7 x8 x9
    clear_value x4
    have hx5 : Keeps 12263673 s x5 := by
      unfold x5
      refine Keeps.step (State.closeSample_keeps ..) rfl ?_
      exact Keeps.refl _
    clear_value x5
    have hx6 : Keeps 12263673 s x6 := by
      unfold x6
      refine Keeps.step (State.inc_keeps ..) rfl ?_
      refine Keeps.step (State.add64_keeps ..) rfl ?_
      exact hx5
    clear_value x6
    have hx7 : Keeps 12263673 s x7 := by
      unfold x7
      refine Keeps.step (State.lostFrame_keeps ..) rfl ?_
      exact hx6
    clear_value x7
    clear_value x8
    have hx9 : Keeps 12263673 s x9 := by
      unfold x9
      refine Keeps.step (State.setMedia_keeps ..) rfl ?_
      exact hx7
    clear_value x9
    refine Keeps.ite ?_ ?_
    ·
      refine Keeps.step (State.endSource_keeps ..) rfl ?_
      exact hx9
    ·
      refine Keeps.step (State.tryEndJob_keeps ..) rfl ?_
      exact hx9
  ·
    rename_i y10 y11
    refine Keeps.step (State.askRemote_keeps ..) rfl ?_
    exact Keeps.refl _
  ·
    rename_i y12 y13 y14 y15 y16 y17
    refine Keeps.step (State.endJob'_keeps ..) rfl ?_
    refine Keeps.step (State.readFailed_keeps ..) rfl ?_
    exact Keeps.refl _

theorem State.truncated_keeps : ∀ s b, Keeps 11534553 s (State.truncated s b) := by
  intro s b
  unfold State.truncated
  refine Keeps.ite ?_ ?_
  ·
    refine Keeps.step (State.endJob'_keeps ..) rfl ?_
    exact Keeps.refl _
  ·
    lift_lets -underBinder
    extract_lets -descend x0 x1 x2
    have hx0 : Keeps 11534553 s x0 := by
      unfold x0
      refine Keeps.step (State.lostFrame_keeps ..) rfl ?_
      exact Keeps.refl _
    clear_value x0
    clear_value x1
    have hx2 : Keeps 11534553 s x2 := by
      unfold x2
      refine Keeps.step (State.setMedia_keeps ..) rfl ?_
      exact hx0
    clear_value x2
    refine Keeps.step (State.endSource_keeps ..) rfl ?_
    exact hx2

theorem State.boltNext_keeps : ∀ s b, Keeps 12263673 s (State.boltNext s b) := by
  intro s b
  unfold State.boltNext
  lift_lets -underBinder
  extract_lets -descend x0
  clear_value x0
  refine Keeps.ite ?_ ?_
  ·
    refine Keeps.step (State.endSource_keeps ..) rfl ?_
    exact Keeps.refl _
  ·
    refine Keeps.ite ?_ ?_
    ·
      refine Keeps.step (State.truncated_keeps ..) rfl ?_
      exact Keeps.refl _
    ·
      unfold State.parserBytes
      split
      ·
        rename_i y1 y2 y3
        dsimp -zeta only
        refine Keeps.ite ?_ ?_
        ·
          refine Keeps.ite ?_ ?_
          ·
            refine Keeps.step (State.endJob'_keeps ..) rfl ?_
            exact Keeps.refl _
          ·
            refine Keeps.step (State.resync_keeps ..) rfl ?_
            exact Keeps.refl _
        ·
          lift_lets -underBinder
          extract_lets -descend x4 x5 x6 x7
          clear_value x4
          clear_value x5
          clear_value x6
          have hx7 : Keeps 12263673 s x7 := by
            unfold x7
            refine Keeps.ite ?_ ?_
            ·
              refine Keeps.step (State.closeSample_keeps ..) rfl ?_
              exact Keeps.refl _
            ·
              exact Keeps.refl _
          clear_value x7
          split
          ·
            rename_i y8 y9
            exact hx7
          ·
            rename_i y10 y11 y12
            refine Keeps.ite ?_ ?_
            ·
              refine Keeps.step (State.tryEndJob_keeps ..) rfl ?_
              exact hx7
            ·
              refine Keeps.ite ?_ ?_
              ·
                refine Keeps.step (State.truncated_keeps ..) rfl ?_
                exact hx7
              ·
                lift_lets -underBinder
                extract_lets -descend x13 x14 x15
                clear_value x13
                clear_value x14
                refine Keeps.ite ?_ ?_
                ·
                  unfold x15
                  refine Keeps.ite ?_ ?_
                  ·
                    refine Keeps.step (State.tryEndJob_keeps ..) rfl ?_
                    refine Keeps.step (State.closeSample_keeps ..) rfl ?_
                    refine Keeps.step (State.addRecord_keeps ..) rfl ?_
                    exact hx7
                  ·
                    refine Keeps.step (State.addRecord_keeps ..) rfl ?_
                    exact hx7
                ·
                  split
                  ·
                    rename_i y16 y17 y18
                    lift_lets -underBinder
                    extract_lets -descend x19
                    clear_value x19
                    unfold x15
                    refine Keeps.ite ?_ ?_
                    ·
                      refine Keeps.step (State.tryEndJob_keeps ..) rfl ?_
                      refine Keeps.step (State.closeSample_keeps ..) rfl ?_
                      refine Keeps.step (State.addRecord_keeps ..) rfl ?_
                      exact hx7
                    ·
                      refine Keeps.step (State.addRecord_keeps ..) rfl ?_
                      exact hx7
                  ·
                    rename_i y20 y21
                    refine Keeps.step (State.askRemote_keeps ..) rfl ?_
                    exact hx7
                  ·
                    rename_i y22 y23 y24 y25 y26 y27
                    refine Keeps.step (State.endJob'_keeps ..) rfl ?_
                    refine Keeps.step (State.readFailed_keeps ..) rfl ?_
                    exact hx7
      ·
        rename_i y28 y29
        refine Keeps.step (State.askRemote_keeps ..) rfl ?_
        exact Keeps.refl _
      ·
        rename_i y30 y31 y32 y33 y34 y35
        refine Keeps.step (State.endJob'_keeps ..) rfl ?_
        refine Keeps.step (State.readFailed_keeps ..) rfl ?_
        exact Keeps.refl _

theorem State.ustarNext_keeps : ∀ s b, Keeps 12263673 s (State.ustarNext s b) := by
  intro s b
  unfold State.ustarNext
  lift_lets -underBinder
  extract_lets -descend x0
  clear_value x0
  refine Keeps.ite ?_ ?_
  ·
    refine Keeps.step (State.endSource_keeps ..) rfl ?_
    exact Keeps.refl _
  ·
    refine Keeps.ite ?_ ?_
    ·
      refine Keeps.step (State.truncated_keeps ..) rfl ?_
      exact Keeps.refl _
    ·
      unfold State.parserBytes
      split
      ·
        rename_i y1 y2 y3
        dsimp -zeta only
        refine Keeps.ite ?_ ?_
        ·
          refine Keeps.ite ?_ ?_
          ·
            refine Keeps.step (State.endSource_keeps ..) rfl ?_
            refine Keeps.step (State.putJob_keeps ..) rfl ?_
            exact Keeps.refl _
          ·
            split
            ·
              rename_i y4 y5 y6
              refine Keeps.ite ?_ ?_
              ·
                refine Keeps.step (State.endSource_keeps ..) rfl ?_
                refine Keeps.step (State.putJob_keeps ..) rfl ?_
                exact Keeps.refl _
              ·
                refine Keeps.step (State.putJob_keeps ..) rfl ?_
                exact Keeps.refl _
            ·
              rename_i y7 y8
              refine Keeps.step (State.askRemote_keeps ..) rfl ?_
              exact Keeps.refl _
            ·
              rename_i y9 y10 y11 y12 y13 y14
              refine Keeps.step (State.endJob'_keeps ..) rfl ?_
              refine Keeps.step (State.readFailed_keeps ..) rfl ?_
              exact Keeps.refl _
        ·
          refine Keeps.ite ?_ ?_
          ·
            refine Keeps.ite ?_ ?_
            ·
              refine Keeps.step (State.endJob'_keeps ..) rfl ?_
              exact Keeps.refl _
            ·
              refine Keeps.step (State.resync_keeps ..) rfl ?_
              exact Keeps.refl _
          ·
            lift_lets -underBinder
            extract_lets -descend x15 x16 x17 x18 x19 x20 x21 x22 x23 x24 x25 x26
            clear_value x15
            clear_value x16
            clear_value x17
            clear_value x18
            clear_value x19
            clear_value x20
            clear_value x21
            clear_value x22
            have hx23 : Keeps 12263673 s x23 := by
              unfold x23
              refine Keeps.step (State.putJob_keeps ..) rfl ?_
              exact Keeps.refl _
            clear_value x23
            have hx24 : Keeps 12263673 s x24 := by
              unfold x24
              refine Keeps.ite ?_ ?_
              ·
                refine Keeps.step (State.closeSample_keeps ..) rfl ?_
                exact hx23
              ·
                exact hx23
            clear_value x24
            clear_value x25
            refine Keeps.ite ?_ ?_
            ·
              refine Keeps.step (State.truncated_keeps ..) rfl ?_
              exact Keeps.refl _
            ·
              refine Keeps.ite ?_ ?_
              ·
                split
                ·
                  rename_i y27 y28 y29
                  lift_lets -underBinder
                  extract_lets -descend x30 x31
                  clear_value x30
                  refine Keeps.step (State.putJob_keeps ..) rfl ?_
                  exact Keeps.refl _
                ·
                  rename_i y32 y33
                  refine Keeps.step (State.askRemote_keeps ..) rfl ?_
                  exact Keeps.refl _
                ·
                  rename_i y34 y35 y36 y37 y38 y39
                  refine Keeps.step (State.endJob'_keeps ..) rfl ?_
                  refine Keeps.step (State.readFailed_keeps ..) rfl ?_
                  exact Keeps.refl _
              ·
                refine Keeps.ite ?_ ?_
                ·
                  refine Keeps.step (State.putJob_keeps ..) rfl ?_
                  exact Keeps.refl _
                ·
                  refine Keeps.ite ?_ ?_
                  ·
                    refine Keeps.step (State.putJob_keeps ..) rfl ?_
                    exact Keeps.refl _
                  ·
                    refine Keeps.ite ?_ ?_
                    ·
                      refine Keeps.step (State.addRecord_keeps ..) rfl ?_
                      exact hx24
                    ·
                      split
                      ·
                        rename_i y40 y41 y42
                        refine Keeps.step (State.addRecord_keeps ..) rfl ?_
                        exact hx24
                      ·
                        rename_i y43 y44
                        refine Keeps.step (State.askRemote_keeps ..) rfl ?_
                        exact hx24
                      ·
                        rename_i y45 y46 y47 y48 y49 y50
                        refine Keeps.step (State.endJob'_keeps ..) rfl ?_
                        refine Keeps.step (State.readFailed_keeps ..) rfl ?_
                        exact hx24
      ·
        rename_i y51 y52
        refine Keeps.step (State.askRemote_keeps ..) rfl ?_
        exact Keeps.refl _
      ·
        rename_i y53 y54 y55 y56 y57 y58
        refine Keeps.step (State.endJob'_keeps ..) rfl ?_
        refine Keeps.step (State.readFailed_keeps ..) rfl ?_
        exact Keeps.refl _

theorem State.beginJob_keeps : ∀ s b, Keeps 12263673 s (State.beginJob s b) := by
  intro s b
  unfold State.beginJob
  refine Keeps.ite ?_ ?_
  ·
    refine Keeps.step (State.askRemote_keeps ..) rfl ?_
    exact Keeps.refl _
  ·
    refine Keeps.ite ?_ ?_
    ·
      refine Keeps.step (State.bareRecord_keeps ..) rfl ?_
      exact Keeps.refl _
    ·
      exact Keeps.refl _

theorem State.resetIngest_keeps : ∀ s i, Keeps 1048577 s (State.resetIngest s i) := by
  intro s i
  unfold State.resetIngest
  lift_lets -underBinder
  extract_lets -descend x0 x1 x2 x3 x4 x5
  have hx0 : Keeps 1048577 s x0 := by
    unfold x0
    refine Keeps.fold ?_ ?_
    ·
      exact Keeps.refl _
    ·
      intro z6 q7 h8
      refine Keeps.ite ?_ ?_
      ·
        exact h8
      ·
        lift_lets -underBinder
        extract_lets -descend x9 x10 x11 x12 x13 x14 x15
        have hx9 : Keeps 1048577 s x9 := by
          unfold x9
          refine Keeps.step (State.setStrm_keeps ..) rfl ?_
          exact h8
        clear_value x9
        have hx10 : Keeps 1048577 s x10 := by
          unfold x10
          refine Keeps.step (State.setFld_keeps ..) rfl ?_
          exact hx9
        clear_value x10
        have hx11 : Keeps 1048577 s x11 := by
          unfold x11
          refine Keeps.step (State.setReg_keeps ..) rfl ?_
          exact hx10
        clear_value x11
        have hx12 : Keeps 1048577 s x12 := by
          unfold x12
          refine Keeps.step (State.setFld_keeps ..) rfl ?_
          exact hx11
        clear_value x12
        have hx13 : Keeps 1048577 s x13 := by
          unfold x13
          refine Keeps.step (State.setFld_keeps ..) rfl ?_
          exact hx12
        clear_value x13
        have hx14 : Keeps 1048577 s x14 := by
          unfold x14
          refine Keeps.step (State.setFld_keeps ..) rfl ?_
          exact hx13
        clear_value x14
        have hx15 : Keeps 1048577 s x15 := by
          unfold x15
          refine Keeps.step (State.setReg_keeps ..) rfl ?_
          exact hx14
        clear_value x15
        refine Keeps.step (State.unbind_keeps ..) rfl ?_
        exact hx15
  clear_value x0
  clear_value x1
  have hx2 : Keeps 1048577 s x2 := by
    unfold x2
    refine Keeps.step (State.setMedia_keeps ..) rfl ?_
    exact hx0
  clear_value x2
  have hx3 : Keeps 1048577 s x3 := by
    unfold x3
    refine Keeps.step (State.setRingFld_keeps ..) rfl ?_
    exact hx2
  clear_value x3
  have hx4 : Keeps 1048577 s x4 := by
    unfold x4
    refine Keeps.step (State.setRingFld_keeps ..) rfl ?_
    exact hx3
  clear_value x4
  have hx5 : Keeps 1048577 s x5 := by
    unfold x5
    refine Keeps.step (State.setRingFld_keeps ..) rfl ?_
    exact hx4
  clear_value x5
  refine Keeps.step (State.showIngest_keeps ..) rfl ?_
  exact hx5

theorem State.applyPicture_keeps : ∀ s x f d declared, Keeps 9437321 s (State.applyPicture s x f d declared) := by
  intro s x f d declared
  unfold State.applyPicture
  lift_lets -underBinder
  extract_lets -descend x0
  split
  ·
    rename_i y1
    unfold x0
    refine Keeps.step (State.mapFrame_keeps ..) rfl ?_
    exact Keeps.refl _
  ·
    rename_i y2 y3
    refine Keeps.ite ?_ ?_
    ·
      unfold x0
      refine Keeps.step (State.mapFrame_keeps ..) rfl ?_
      exact Keeps.refl _
    ·
      refine Keeps.ite ?_ ?_
      ·
        unfold x0
        refine Keeps.step (State.mapFrame_keeps ..) rfl ?_
        exact Keeps.refl _
      ·
        split
        ·
          rename_i y4 y5 y6 y7
          lift_lets -underBinder
          extract_lets -descend x8 x9 x10 x11 x12 x13 x14 x15 x16 x17
          clear_value x8
          clear_value x9
          clear_value x10
          clear_value x11
          clear_value x12
          clear_value x13
          have hx14 : Keeps 9437321 s x14 := by
            unfold x14
            refine Keeps.ite ?_ ?_
            ·
              refine Keeps.step (State.setStrm_keeps ..) rfl ?_
              exact Keeps.refl _
            ·
              exact Keeps.refl _
          clear_value x14
          have hx15 : Keeps 9437321 s x15 := by
            unfold x15
            split
            ·
              rename_i y18 y19 y20 y21 y22
              refine Keeps.step (State.setFld_keeps ..) rfl ?_
              refine Keeps.step (State.setReg_keeps ..) rfl ?_
              exact hx14
            ·
              rename_i y23
              exact hx14
          clear_value x15
          clear_value x16
          have hx17 : Keeps 9437321 s x17 := by
            unfold x17
            refine Keeps.step (State.slotWrite_keeps ..) rfl ?_
            exact hx15
          clear_value x17
          refine Keeps.step (State.mapFrame_keeps ..) rfl ?_
          exact hx17
  ·
    rename_i y24 y25 y26
    unfold x0
    refine Keeps.step (State.mapFrame_keeps ..) rfl ?_
    exact Keeps.refl _

theorem State.applySound_keeps : ∀ s x f d declared, Keeps 9437321 s (State.applySound s x f d declared) := by
  intro s x f d declared
  unfold State.applySound
  lift_lets -underBinder
  extract_lets -descend x0
  split
  ·
    rename_i y1
    unfold x0
    refine Keeps.step (State.mapFrame_keeps ..) rfl ?_
    exact Keeps.refl _
  ·
    rename_i y2 y3
    lift_lets -underBinder
    extract_lets -descend x4 x5 x6
    clear_value x4
    clear_value x5
    clear_value x6
    refine Keeps.ite ?_ ?_
    ·
      unfold x0
      refine Keeps.step (State.mapFrame_keeps ..) rfl ?_
      exact Keeps.refl _
    ·
      refine Keeps.ite ?_ ?_
      ·
        unfold x0
        refine Keeps.step (State.mapFrame_keeps ..) rfl ?_
        exact Keeps.refl _
      ·
        split
        ·
          rename_i y7 y8
          unfold x0
          refine Keeps.step (State.mapFrame_keeps ..) rfl ?_
          exact Keeps.refl _
        ·
          rename_i y9 y10 y11 y12
          refine Keeps.ite ?_ ?_
          ·
            unfold x0
            refine Keeps.step (State.mapFrame_keeps ..) rfl ?_
            exact Keeps.refl _
          ·
            lift_lets -underBinder
            extract_lets -descend x13
            have hx13 : Keeps 9437321 s x13 := by
              unfold x13
              refine Keeps.step (State.slotWrite_keeps ..) rfl ?_
              exact Keeps.refl _
            clear_value x13
            refine Keeps.step (State.mapFrame_keeps ..) rfl ?_
            exact hx13
  ·
    rename_i y14 y15 y16
    unfold x0
    refine Keeps.step (State.mapFrame_keeps ..) rfl ?_
    exact Keeps.refl _

theorem State.dropLive_keeps : ∀ s x seq st incomplete, Keeps 9437249 s (State.dropLive s x seq st incomplete) := by
  intro s x seq st incomplete
  unfold State.dropLive
  split
  ·
    rename_i y0 y1
    exact Keeps.refl _
  ·
    rename_i y2 y3 y4
    lift_lets -underBinder
    extract_lets -descend x5
    have hx5 : Keeps 9437249 s x5 := by
      unfold x5
      refine Keeps.step (State.dropSlot_keeps ..) rfl ?_
      exact Keeps.refl _
    clear_value x5
    refine Keeps.step (State.mapFrame_keeps ..) rfl ?_
    exact hx5

theorem State.liveSlot_keeps : ∀ s x seq video size, Keeps 9437249 s (State.liveSlot s x seq video size) := by
  intro s x seq video size
  unfold State.liveSlot
  split
  ·
    rename_i y0 y1
    exact Keeps.refl _
  ·
    rename_i y2 y3 y4
    lift_lets -underBinder
    extract_lets -descend x5 x6 x7 x8
    clear_value x5
    clear_value x6
    clear_value x7
    clear_value x8
    refine Keeps.ite ?_ ?_
    ·
      refine Keeps.step (State.mapFrame_keeps ..) rfl ?_
      exact Keeps.refl _
    ·
      split
      ·
        rename_i y9 y10 y11
        have e12 : Keeps 9437249 s (y10) := by
          refine Keeps.snd_eq y11 ?_
          refine Keeps.step (State.takeSlot_keeps ..) rfl ?_
          exact Keeps.refl _
        refine Keeps.step (State.dropLive_keeps ..) rfl ?_
        refine Keeps.step (State.inc_keeps ..) rfl ?_
        exact e12
      ·
        rename_i y13 y14 y15 y16
        have e17 : Keeps 9437249 s (y15) := by
          refine Keeps.snd_eq y16 ?_
          refine Keeps.step (State.takeSlot_keeps ..) rfl ?_
          exact Keeps.refl _
        refine Keeps.step (State.mapFrame_keeps ..) rfl ?_
        exact e17

theorem execIngRingTail_keeps : ∀ req i tail s, KeepsOut 8388609 s (execIngRingTail req i tail s) := by
  intro req i tail s
  unfold execIngRingTail
  lift_lets -underBinder
  extract_lets -descend x0
  clear_value x0
  split
  ·
    rename_i y1
    refine KeepsOut.next ?_
    refine Keeps.step (State.writeMediaTail_keeps ..) rfl ?_
    exact Keeps.refl _
  ·
    rename_i y2
    refine KeepsOut.next ?_
    refine Keeps.step (State.regRefused_keeps ..) rfl ?_
    exact Keeps.refl _

theorem execIngestJob_keeps : ∀ i s, KeepsOut 12263673 s (execIngestJob i s) := by
  intro i s
  unfold execIngestJob
  split
  ·
    rename_i y0 y1
    refine KeepsOut.next ?_
    exact Keeps.refl _
  ·
    rename_i y3 y4 y5 y6 y7
    have e8 : Keeps 12263673 s ((y4, y5, y6)).2.2 := by
      refine KeepsOpt.eq (π := (fun z : _ × _ × State => z.2.2)) y7 ?_
      refine KeepsOpt.step (State.mediaFetch_keeps ..) rfl ?_
      exact Keeps.refl _
    lift_lets -underBinder
    extract_lets -descend x9 x10 x11 x12 x13 x14 x15
    clear_value x9
    clear_value x10
    clear_value x11
    clear_value x12
    clear_value x13
    clear_value x14
    have hx15 : Keeps 12263673 s x15 := by
      unfold x15
      refine Keeps.step (State.showIngest_keeps ..) rfl ?_
      refine Keeps.step (State.setMedia_keeps ..) rfl ?_
      exact e8
    clear_value x15
    split
    ·
      rename_i y16
      refine KeepsOut.next ?_
      refine Keeps.step (State.doneSem_keeps ..) rfl ?_
      refine Keeps.step (State.mediaCpl_keeps ..) rfl ?_
      exact e8
    ·
      rename_i y17
      refine KeepsOut.next ?_
      refine Keeps.ite ?_ ?_
      ·
        refine Keeps.step (State.beginJob_keeps ..) rfl ?_
        exact hx15
      ·
        exact hx15

theorem State.parseStep_keeps : ∀ s x want, Keeps 12263673 s (State.parseStep s x want) := by
  intro s x want
  unfold State.parseStep
  split
  ·
    rename_i y0 y1
    exact Keeps.refl _
  ·
    rename_i y2 y3 y4
    refine Keeps.ite ?_ ?_
    ·
      refine Keeps.step (State.tryEndJob_keeps ..) rfl ?_
      exact Keeps.refl _
    ·
      refine Keeps.ite ?_ ?_
      ·
        refine Keeps.step (State.bareRecord_keeps ..) rfl ?_
        exact Keeps.refl _
      ·
        refine Keeps.ite ?_ ?_
        ·
          exact Keeps.refl _
        ·
          refine Keeps.ite ?_ ?_
          ·
            refine Keeps.step (State.boltNext_keeps ..) rfl ?_
            exact Keeps.refl _
          ·
            refine Keeps.step (State.ustarNext_keeps ..) rfl ?_
            exact Keeps.refl _

theorem execBoltRecord_keeps : ∀ x s, KeepsOut 12263673 s (execBoltRecord x s) := by
  intro x s
  unfold execBoltRecord
  refine KeepsOut.next ?_
  refine Keeps.step (State.parseStep_keeps ..) rfl ?_
  exact Keeps.refl _

theorem execUstarMember_keeps : ∀ x s, KeepsOut 12263673 s (execUstarMember x s) := by
  intro x s
  unfold execUstarMember
  refine KeepsOut.next ?_
  refine Keeps.step (State.parseStep_keeps ..) rfl ?_
  exact Keeps.refl _

theorem State.engineDone_keeps : ∀ s e, Keeps 1048577 s (State.engineDone s e) := by
  intro s e
  unfold State.engineDone
  refine Keeps.step (State.showEng_keeps ..) rfl ?_
  refine Keeps.step (State.setCdc_keeps ..) rfl ?_
  exact Keeps.refl _

theorem State.liveDecoded_keeps : ∀ s x seq e, Keeps 9437321 s (State.liveDecoded s x seq e) := by
  intro s x seq e
  unfold State.liveDecoded
  split
  ·
    rename_i y0 y1
    refine Keeps.step (State.engineDone_keeps ..) rfl ?_
    exact Keeps.refl _
  ·
    rename_i y2 y3 y4
    lift_lets -underBinder
    extract_lets -descend x5 x6 x7 x8 x9 x10 x11 x12 x13
    clear_value x5
    clear_value x6
    clear_value x7
    clear_value x8
    clear_value x9
    have hx10 : Keeps 9437321 s x10 := by
      unfold x10
      refine Keeps.step (State.engineDone_keeps ..) rfl ?_
      exact Keeps.refl _
    clear_value x10
    have hx11 : Keeps 9437321 s x11 := by
      unfold x11
      refine Keeps.step (State.pixelsDone_keeps ..) rfl ?_
      exact hx10
    clear_value x11
    have hx12 : Keeps 9437321 s x12 := by
      unfold x12
      refine Keeps.step (State.setStrm_keeps ..) rfl ?_
      exact hx11
    clear_value x12
    have hx13 : Keeps 9437321 s x13 := by
      unfold x13
      refine Keeps.ite ?_ ?_
      ·
        refine Keeps.step (State.inc_keeps ..) rfl ?_
        exact hx12
      ·
        exact hx12
    clear_value x13
    split
    ·
      rename_i y14 y15
      exact hx13
    ·
      rename_i y16 y17 y18
      refine Keeps.ite ?_ ?_
      ·
        exact hx13
      ·
        refine Keeps.ite ?_ ?_
        ·
          refine Keeps.step (State.mapFrame_keeps ..) rfl ?_
          exact hx13
        ·
          lift_lets -underBinder
          extract_lets -descend x19
          clear_value x19
          refine Keeps.step (State.applyPicture_keeps ..) rfl ?_
          exact hx13

theorem execDecodeComplete_keeps : ∀ x seq audio s, KeepsOut 9437321 s (execDecodeComplete x seq audio s) := by
  intro x seq audio s
  unfold execDecodeComplete
  lift_lets -underBinder
  extract_lets -descend x0
  clear_value x0
  split
  ·
    rename_i y1
    split
    ·
      rename_i y2 y3 y4
      refine KeepsOut.next ?_
      refine Keeps.step (State.liveDecoded_keeps ..) rfl ?_
      exact Keeps.refl _
    ·
      rename_i y5 y6
      refine KeepsOut.next ?_
      exact Keeps.refl _
  ·
    rename_i y7
    split
    ·
      rename_i y8 y9
      refine KeepsOut.next ?_
      exact Keeps.refl _
    ·
      rename_i y10 y11 y12
      split
      ·
        rename_i y13
        refine KeepsOut.next ?_
        exact Keeps.refl _
      ·
        rename_i y14
        split
        ·
          rename_i y15
          split
          ·
            rename_i y16
            refine KeepsOut.next ?_
            exact Keeps.refl _
          ·
            rename_i y17
            split
            ·
              rename_i y18
              lift_lets -underBinder
              extract_lets -descend x19
              clear_value x19
              split
              ·
                rename_i y20 y21 y22 y23
                lift_lets -underBinder
                extract_lets -descend x24 x25
                have hx24 : Keeps 9437321 s x24 := by
                  unfold x24
                  refine Keeps.step (State.setStrm_keeps ..) rfl ?_
                  exact Keeps.refl _
                clear_value x24
                clear_value x25
                refine KeepsOut.next ?_
                refine Keeps.step (State.applySound_keeps ..) rfl ?_
                exact hx24
            ·
              rename_i y26
              split
              ·
                rename_i y27 y28 y29
                refine KeepsOut.next ?_
                refine Keeps.step (State.applySound_keeps ..) rfl ?_
                exact Keeps.refl _
              ·
                rename_i y30 y31
                refine KeepsOut.next ?_
                exact Keeps.refl _
        ·
          rename_i y32
          split
          ·
            rename_i y33
            refine KeepsOut.next ?_
            exact Keeps.refl _
          ·
            rename_i y34
            split
            ·
              rename_i y35 y36
              refine KeepsOut.next ?_
              exact Keeps.refl _
            ·
              rename_i y37 y38 y39
              split
              ·
                rename_i y40
                refine KeepsOut.next ?_
                refine Keeps.step (State.applyPicture_keeps ..) rfl ?_
                exact Keeps.refl _
              ·
                rename_i y41
                split
                ·
                  rename_i y42 y43
                  refine KeepsOut.next ?_
                  exact Keeps.refl _
                ·
                  rename_i y44 y45 y46
                  lift_lets -underBinder
                  extract_lets -descend x47 x48 x49 x50 x51 x52 x53 x54 x55
                  clear_value x47
                  clear_value x48
                  clear_value x49
                  clear_value x50
                  clear_value x51
                  clear_value x52
                  clear_value x53
                  have hx54 : Keeps 9437321 s x54 := by
                    unfold x54
                    refine Keeps.step (State.pixelsDone_keeps ..) rfl ?_
                    refine Keeps.step (State.engineDone_keeps ..) rfl ?_
                    exact Keeps.refl _
                  clear_value x54
                  have hx55 : Keeps 9437321 s x55 := by
                    unfold x55
                    refine Keeps.ite ?_ ?_
                    ·
                      exact hx54
                    ·
                      refine Keeps.step (State.addSat_keeps ..) rfl ?_
                      exact hx54
                  clear_value x55
                  split
                  ·
                    rename_i y56
                    refine KeepsOut.next ?_
                    refine Keeps.step (State.mapFrame_keeps ..) rfl ?_
                    exact hx55
                  ·
                    rename_i y57
                    refine KeepsOut.next ?_
                    refine Keeps.step (State.applyPicture_keeps ..) rfl ?_
                    exact hx55

theorem execSampleRecord_keeps : ∀ x s, KeepsOut 11534585 s (execSampleRecord x s) := by
  intro x s
  unfold execSampleRecord
  refine KeepsOut.next ?_
  refine Keeps.step (State.publish_keeps ..) rfl ?_
  exact Keeps.refl _

theorem State.installSettings_keeps : ∀ s x target, Keeps 9437185 s (State.installSettings s x target) := by
  intro s x target
  unfold State.installSettings
  lift_lets -underBinder
  extract_lets -descend x0 x1 x2 x3 x4 x5 x6 x7 x8
  clear_value x0
  clear_value x1
  clear_value x2
  clear_value x3
  clear_value x4
  have hx5 : Keeps 9437185 s x5 := by
    unfold x5
    refine Keeps.ite ?_ ?_
    ·
      refine Keeps.step (State.firewallDenied_keeps ..) rfl ?_
      exact Keeps.refl _
    ·
      exact Keeps.refl _
  clear_value x5
  clear_value x6
  clear_value x7
  have hx8 : Keeps 9437185 s x8 := by
    unfold x8
    refine Keeps.step (State.setStrm_keeps ..) rfl ?_
    exact hx5
  clear_value x8
  refine Keeps.ite ?_ ?_
  ·
    refine Keeps.step (State.setFld_keeps ..) rfl ?_
    exact Keeps.refl _
  ·
    refine Keeps.ite ?_ ?_
    ·
      refine Keeps.step (State.setFld_keeps ..) rfl ?_
      exact hx5
    ·
      refine Keeps.step (State.setFld_keeps ..) rfl ?_
      exact hx8

theorem execSettingsInstall_keeps : ∀ req x target s, KeepsOut 9437185 s (execSettingsInstall req x target s) := by
  intro req x target s
  unfold execSettingsInstall
  lift_lets -underBinder
  extract_lets -descend x0
  clear_value x0
  split
  ·
    rename_i y1
    refine KeepsOut.next ?_
    refine Keeps.step (State.installSettings_keeps ..) rfl ?_
    exact Keeps.refl _
  ·
    rename_i y2
    refine KeepsOut.next ?_
    refine Keeps.step (State.regRefused_keeps ..) rfl ?_
    exact Keeps.refl _

theorem State.writeStrmCfg_keeps : ∀ s x v, Keeps 9437249 s (State.writeStrmCfg s x v) := by
  intro s x v
  unfold State.writeStrmCfg
  lift_lets -underBinder
  extract_lets -descend x0 x1 x2 x3 x4 x5 x6 x7 x8 x9 x10 x11
  clear_value x0
  clear_value x1
  clear_value x2
  clear_value x3
  have hx4 : Keeps 9437249 s x4 := by
    unfold x4
    refine Keeps.fold ?_ ?_
    ·
      exact Keeps.refl _
    ·
      intro z12 q13 h14
      refine Keeps.step (State.dropSlot_keeps ..) rfl ?_
      exact h14
  clear_value x4
  clear_value x5
  have hx6 : Keeps 9437249 s x6 := by
    unfold x6
    refine Keeps.ite ?_ ?_
    ·
      exact Keeps.refl _
    ·
      refine Keeps.step (State.setStrm_keeps ..) rfl ?_
      exact hx4
  clear_value x6
  have hx7 : Keeps 9437249 s x7 := by
    unfold x7
    refine Keeps.step (State.setReg_keeps ..) rfl ?_
    exact hx6
  clear_value x7
  clear_value x8
  clear_value x9
  have hx10 : Keeps 9437249 s x10 := by
    unfold x10
    refine Keeps.step (State.setReg_keeps ..) rfl ?_
    refine Keeps.step (State.setStrm_keeps ..) rfl ?_
    exact hx7
  clear_value x10
  clear_value x11
  refine Keeps.ite ?_ ?_
  ·
    refine Keeps.ite ?_ ?_
    ·
      split
      ·
        rename_i y15 y16
        refine Keeps.step (State.log_keeps ..) rfl ?_
        refine Keeps.step (State.setFld_keeps ..) rfl ?_
        exact hx10
      ·
        rename_i y18 y19 y20
        have e21 : Keeps 9437249 s y19 := by
          refine KeepsOpt.eq (π := (fun z : State => z)) y20 ?_
          refine KeepsOpt.step (State.reserve_keeps ..) rfl ?_
          exact hx10
        refine Keeps.step (State.showIngest_keeps ..) rfl ?_
        refine Keeps.step (State.setFld_keeps ..) rfl ?_
        refine Keeps.step (State.setStrm_keeps ..) rfl ?_
        exact e21
    ·
      refine Keeps.step (State.showIngest_keeps ..) rfl ?_
      refine Keeps.step (State.setFld_keeps ..) rfl ?_
      exact hx10
  ·
    refine Keeps.ite ?_ ?_
    ·
      refine Keeps.step (State.showIngest_keeps ..) rfl ?_
      refine Keeps.step (State.setFld_keeps ..) rfl ?_
      refine Keeps.step (State.unbind_keeps ..) rfl ?_
      exact hx7
    ·
      exact hx7

theorem execStreamEnable_keeps : ∀ req x val s, KeepsOut 9437249 s (execStreamEnable req x val s) := by
  intro req x val s
  unfold execStreamEnable
  lift_lets -underBinder
  extract_lets -descend x0
  clear_value x0
  split
  ·
    rename_i y1
    refine KeepsOut.next ?_
    refine Keeps.step (State.writeStrmCfg_keeps ..) rfl ?_
    exact Keeps.refl _
  ·
    rename_i y2
    refine KeepsOut.next ?_
    refine Keeps.step (State.regRefused_keeps ..) rfl ?_
    exact Keeps.refl _

theorem State.livePicture_keeps : ∀ s x ts no, Keeps 9437249 s (State.livePicture s x ts no) := by
  intro s x ts no
  unfold State.livePicture
  lift_lets -underBinder
  extract_lets -descend x0
  clear_value x0
  split
  ·
    rename_i y1 y2 y3 y4 y5 y6 y7
    lift_lets -underBinder
    extract_lets -descend x8 x9 x10 x11 x12
    have hx8 : Keeps 9437249 s x8 := by
      unfold x8
      refine Keeps.step (State.setStrm_keeps ..) rfl ?_
      exact Keeps.refl _
    clear_value x8
    clear_value x9
    have hx10 : Keeps 9437249 s x10 := by
      unfold x10
      refine Keeps.step (State.liveSlot_keeps ..) rfl ?_
      exact hx8
    clear_value x10
    clear_value x11
    clear_value x12
    refine Keeps.ite ?_ ?_
    ·
      exact hx8
    ·
      refine Keeps.step (State.setStrm_keeps ..) rfl ?_
      exact hx10
  ·
    rename_i y13 y14 y15
    exact Keeps.refl _

theorem State.liveAccepted_keeps : ∀ s x t marker q ts pl, Keeps 9437249 s (State.liveAccepted s x t marker q ts pl) := by
  intro s x t marker q ts pl
  unfold State.liveAccepted
  lift_lets -underBinder
  extract_lets -descend x0 x1 x2 x3 x4 x5 x6 x7 x8 x9 x10 x11 x12 x13 x14 x15
  clear_value x0
  clear_value x1
  clear_value x3
  clear_value x4
  clear_value x5
  clear_value x6
  clear_value x7
  clear_value x8
  clear_value x9
  clear_value x10
  have hx11 : Keeps 9437249 s x11 := by
    unfold x11
    refine Keeps.ite ?_ ?_
    ·
      refine Keeps.step (State.setStrm_keeps ..) rfl ?_
      exact Keeps.refl _
    ·
      refine Keeps.step (State.assignFrame_keeps ..) rfl ?_
      refine Keeps.step (State.setStrm_keeps ..) rfl ?_
      exact Keeps.refl _
  clear_value x11
  clear_value x12
  have hx13 : Keeps 9437249 s x13 := by
    unfold x13
    refine Keeps.step (State.setMedia_keeps ..) rfl ?_
    exact hx11
  clear_value x13
  clear_value x14
  have hx15 : Keeps 9437249 s x15 := by
    unfold x15
    refine Keeps.step (State.setStrm_keeps ..) rfl ?_
    exact hx13
  clear_value x15
  refine Keeps.ite ?_ ?_
  ·
    refine Keeps.step (State.liveSlot_keeps ..) rfl ?_
    exact hx13
  ·
    refine Keeps.step (State.livePicture_keeps ..) rfl ?_
    exact hx15

theorem State.livePacket_keeps : ∀ s x p, Keeps 9437249 s (State.livePacket s x p) := by
  intro s x p
  unfold State.livePacket
  lift_lets -underBinder
  extract_lets -descend x0
  split
  ·
    rename_i y1 y2
    unfold x0
    refine Keeps.step (State.inc_keeps ..) rfl ?_
    exact Keeps.refl _
  ·
    rename_i y3 y4 y5 y6 y7 y8 y9 y10
    lift_lets -underBinder
    extract_lets -descend x11 x12 x13 x14 x15
    clear_value x11
    clear_value x12
    clear_value x13
    have hx14 : Keeps 9437249 s x14 := by
      unfold x14
      refine Keeps.ite ?_ ?_
      ·
        refine Keeps.step (State.setReg_keeps ..) rfl ?_
        exact Keeps.refl _
      ·
        exact Keeps.refl _
    clear_value x14
    clear_value x15
    refine Keeps.ite ?_ ?_
    ·
      unfold x0
      refine Keeps.step (State.inc_keeps ..) rfl ?_
      exact Keeps.refl _
    ·
      refine Keeps.ite ?_ ?_
      ·
        unfold x0
        refine Keeps.step (State.inc_keeps ..) rfl ?_
        refine Keeps.step (State.setStrm_keeps ..) rfl ?_
        exact hx14
      ·
        refine Keeps.step (State.liveAccepted_keeps ..) rfl ?_
        exact hx14

theorem execRtpPacket_keeps : ∀ k s, KeepsOut 9764929 s (execRtpPacket k s) := by
  intro k s
  unfold execRtpPacket
  refine KeepsOut.next ?_
  unfold State.withMsg
  split
  ·
    rename_i y0 y1
    exact Keeps.refl _
  ·
    rename_i y2 y3 y4 y5 y6
    refine Keeps.ite ?_ ?_
    ·
      exact Keeps.refl _
    ·
      lift_lets -underBinder
      extract_lets -descend x7 x8 x9
      have hx7 : Keeps 9764929 s x7 := by
        unfold x7
        refine Keeps.set_ingress rfl ?_
        exact Keeps.refl _
      clear_value x7
      clear_value x8
      have hx9 : Keeps 9764929 s x9 := by
        unfold x9
        refine Keeps.ite ?_ ?_
        ·
          exact hx7
        ·
          dsimp -zeta only
          lift_lets -underBinder
          extract_lets -descend x10
          clear_value x10
          refine Keeps.ite ?_ ?_
          ·
            refine Keeps.step (State.inc_keeps ..) rfl ?_
            exact hx7
          ·
            refine Keeps.step (State.livePacket_keeps ..) rfl ?_
            exact hx7
      clear_value x9
      refine Keeps.fold ?_ ?_
      ·
        exact hx9
      ·
        intro z11 q12 h13
        refine Keeps.step (State.answerRx_keeps ..) rfl ?_
        exact h13

theorem execLiveLate_keeps : ∀ x seq s, KeepsOut 9437249 s (execLiveLate x seq s) := by
  intro x seq s
  unfold execLiveLate
  lift_lets -underBinder
  extract_lets -descend x0
  clear_value x0
  split
  ·
    rename_i y1 y2
    refine KeepsOut.next ?_
    exact Keeps.refl _
  ·
    rename_i y3 y4 y5
    split
    ·
      rename_i y6
      refine KeepsOut.next ?_
      exact Keeps.refl _
    ·
      rename_i y7
      lift_lets -underBinder
      extract_lets -descend x8 x9 x10 x11 x12 x13 x14
      clear_value x8
      clear_value x9
      clear_value x10
      clear_value x11
      clear_value x12
      clear_value x13
      have hx14 : Keeps 9437249 s x14 := by
        unfold x14
        refine Keeps.ite ?_ ?_
        ·
          refine Keeps.step (State.setStrm_keeps ..) rfl ?_
          exact Keeps.refl _
        ·
          refine Keeps.ite ?_ ?_
          ·
            refine Keeps.step (State.setStrm_keeps ..) rfl ?_
            exact Keeps.refl _
          ·
            exact Keeps.refl _
      clear_value x14
      refine KeepsOut.next ?_
      refine Keeps.step (State.inc_keeps ..) rfl ?_
      refine Keeps.step (State.dropLive_keeps ..) rfl ?_
      exact hx14

end Sys2Proof.Machine
end

