-- ==== Sys2Proof/Laws/KeepsCodec.lean ====
section
/-! SUPPORT. What each operation and each command of Machine/Codec.lean touches, one lemma each: the bits of its mask are the
parts of the state that it may change; the queue and the canonical form of the memories it keeps. -/
namespace Sys2Proof.Machine

theorem State.showEnc_keeps : ∀ s t, Keeps 1 s (State.showEnc s t) := by
  intro s t
  unfold State.showEnc
  lift_lets -underBinder
  extract_lets -descend x0 x1
  clear_value x0
  have hx1 : Keeps 1 s x1 := by
    unfold x1
    refine Keeps.step (State.setFld_keeps ..) rfl ?_
    exact Keeps.refl _
  clear_value x1
  refine Keeps.step (State.setFld_keeps ..) rfl ?_
  exact hx1

theorem State.showEncRings_keeps : ∀ s, Keeps 1 s (State.showEncRings s) := by
  intro s
  unfold State.showEncRings
  refine Keeps.fold ?_ ?_
  ·
    exact Keeps.refl _
  ·
    intro z0 q1 h2
    refine Keeps.step (State.setFld_keeps ..) rfl ?_
    exact h2

theorem State.bindEnc_keeps : ∀ s t e, Keeps 1048577 s (State.bindEnc s t e) := by
  intro s t e
  unfold State.bindEnc
  lift_lets -underBinder
  extract_lets -descend x0 x1 x2 x3 x4 x5
  clear_value x0
  clear_value x1
  have hx2 : Keeps 1048577 s x2 := by
    unfold x2
    refine Keeps.ite ?_ ?_
    ·
      exact Keeps.refl _
    ·
      split
      ·
        rename_i y6 y7
        exact Keeps.refl _
      ·
        rename_i y8 y9 y10
        lift_lets -underBinder
        extract_lets -descend x11 x12 x13 x14
        have hx11 : Keeps 1048577 s x11 := by
          unfold x11
          refine Keeps.step (State.setCdc_keeps ..) rfl ?_
          exact Keeps.refl _
        clear_value x11
        clear_value x12
        have hx13 : Keeps 1048577 s x13 := by
          unfold x13
          refine Keeps.step (State.setCdc_keeps ..) rfl ?_
          exact hx11
        clear_value x13
        clear_value x14
        refine Keeps.step (State.showEng_keeps ..) rfl ?_
        refine Keeps.step (State.showEnc_keeps ..) rfl ?_
        refine Keeps.step (State.setEncS_keeps ..) rfl ?_
        exact hx13
  clear_value x2
  clear_value x3
  have hx4 : Keeps 1048577 s x4 := by
    unfold x4
    refine Keeps.step (State.setCdc_keeps ..) rfl ?_
    exact hx2
  clear_value x4
  clear_value x5
  refine Keeps.step (State.showEng_keeps ..) rfl ?_
  refine Keeps.step (State.showEnc_keeps ..) rfl ?_
  refine Keeps.step (State.setEncS_keeps ..) rfl ?_
  exact hx4

theorem State.writeEncCfg_keeps : ∀ s t v, Keeps 9437185 s (State.writeEncCfg s t v) := by
  intro s t v
  unfold State.writeEncCfg
  lift_lets -underBinder
  extract_lets -descend x0 x1 x2 x3 x4 x5 x6 x7 x8 x9 x10 x11 x12 x13 x14 x15
  clear_value x0
  clear_value x1
  have hx2 : Keeps 9437185 s x2 := by
    unfold x2
    refine Keeps.step (State.setFld_keeps ..) rfl ?_
    exact Keeps.refl _
  clear_value x2
  have hx3 : Keeps 9437185 s x3 := by
    unfold x3
    refine Keeps.ite ?_ ?_
    ·
      refine Keeps.step (State.setFld_keeps ..) rfl ?_
      exact hx2
    ·
      exact hx2
  clear_value x3
  have hx4 : Keeps 9437185 s x4 := by
    unfold x4
    refine Keeps.ite ?_ ?_
    ·
      refine Keeps.step (State.setFld_keeps ..) rfl ?_
      exact hx3
    ·
      exact hx3
  clear_value x4
  clear_value x5
  clear_value x6
  clear_value x7
  clear_value x8
  have hx9 : Keeps 9437185 s x9 := by
    unfold x9
    refine Keeps.ite ?_ ?_
    ·
      refine Keeps.step (State.firewallDenied_keeps ..) rfl ?_
      exact hx4
    ·
      exact hx4
  clear_value x9
  clear_value x10
  clear_value x11
  clear_value x12
  clear_value x13
  clear_value x14
  clear_value x15
  refine Keeps.ite ?_ ?_
  ·
    refine Keeps.ite ?_ ?_
    ·
      refine Keeps.step (State.setFld_keeps ..) rfl ?_
      exact hx9
    ·
      refine Keeps.ite ?_ ?_
      ·
        split
        ·
          rename_i y16 y17
          refine Keeps.step (State.log_keeps ..) rfl ?_
          refine Keeps.step (State.setFld_keeps ..) rfl ?_
          exact hx9
        ·
          rename_i y19 y20 y21
          have e22 : Keeps 9437185 s y20 := by
            refine KeepsOpt.eq (π := (fun z : State => z)) y21 ?_
            split
            ·
              rename_i y23
              exact KeepsOpt.none
            ·
              rename_i y24
              refine KeepsOpt.step (State.reserve_keeps ..) rfl ?_
              refine Keeps.step (State.bindEnc_keeps ..) rfl ?_
              exact hx9
          refine Keeps.step (State.showEnc_keeps ..) rfl ?_
          refine Keeps.step (State.setFld_keeps ..) rfl ?_
          refine Keeps.step (State.setEncS_keeps ..) rfl ?_
          exact e22
      ·
        refine Keeps.step (State.showEnc_keeps ..) rfl ?_
        refine Keeps.step (State.setFld_keeps ..) rfl ?_
        refine Keeps.step (State.bindEnc_keeps ..) rfl ?_
        refine Keeps.step (State.setEncS_keeps ..) rfl ?_
        exact hx9
  ·
    refine Keeps.ite ?_ ?_
    ·
      refine Keeps.step (State.setFld_keeps ..) rfl ?_
      refine Keeps.step (State.unbind_keeps ..) rfl ?_
      exact hx4
    ·
      exact hx4

theorem State.endPic_keeps : ∀ s t p st result, Keeps 3145945 s (State.endPic s t p st result) := by
  intro s t p st result
  unfold State.endPic
  lift_lets -underBinder
  extract_lets -descend x0 x1 x2
  clear_value x0
  have hx1 : Keeps 3145945 s x1 := by
    unfold x1
    refine Keeps.step (State.setEncS_keeps ..) rfl ?_
    exact Keeps.refl _
  clear_value x1
  have hx2 : Keeps 3145945 s x2 := by
    unfold x2
    refine Keeps.fold ?_ ?_
    ·
      exact hx1
    ·
      intro z3 q4 h5
      lift_lets -underBinder
      extract_lets -descend x6 x7
      clear_value x6
      refine Keeps.step (State.showEng_keeps ..) rfl ?_
      refine Keeps.step (State.setCdc_keeps ..) rfl ?_
      exact h5
  clear_value x2
  refine Keeps.step (State.showEncRings_keeps ..) rfl ?_
  refine Keeps.step (State.doneSem_keeps ..) rfl ?_
  refine Keeps.step (State.mediaCpl_keeps ..) rfl ?_
  exact hx2

theorem State.startPic_keeps : ∀ s e t p, Keeps 3145945 s (State.startPic s e t p) := by
  intro s e t p
  unfold State.startPic
  lift_lets -underBinder
  extract_lets -descend x0 x1 x2 x3 x4 x5
  clear_value x0
  clear_value x1
  clear_value x2
  clear_value x3
  have hx4 : Keeps 3145945 s x4 := by
    unfold x4
    refine Keeps.step (State.setFld_keeps ..) rfl ?_
    exact Keeps.refl _
  clear_value x4
  have hx5 : Keeps 3145945 s x5 := by
    unfold x5
    refine Keeps.step (State.setEncS_keeps ..) rfl ?_
    exact hx4
  clear_value x5
  refine Keeps.ite ?_ ?_
  ·
    refine Keeps.step (State.endPic_keeps ..) rfl ?_
    exact Keeps.refl _
  ·
    split
    ·
      rename_i y6
      refine Keeps.step (State.showEng_keeps ..) rfl ?_
      refine Keeps.step (State.setCdc_keeps ..) rfl ?_
      exact hx5
    ·
      rename_i y7
      exact hx5

theorem State.finishPic_keeps : ∀ s e t p, Keeps 11534553 s (State.finishPic s e t p) := by
  intro s e t p
  unfold State.finishPic
  lift_lets -underBinder
  extract_lets -descend x0 x1 x2
  clear_value x0
  clear_value x1
  clear_value x2
  split
  ·
    rename_i y3 y4
    refine Keeps.step (State.endPic_keeps ..) rfl ?_
    refine Keeps.step (State.readFailed_keeps ..) rfl ?_
    exact Keeps.refl _
  ·
    rename_i y5
    lift_lets -underBinder
    extract_lets -descend x6
    clear_value x6
    split
    ·
      rename_i y7 y8 y9 y10
      lift_lets -underBinder
      extract_lets -descend x11 x12 x13 x14 x15 x16 x17 x18 x19 x20 x21 x22 x23
      clear_value x11
      clear_value x12
      clear_value x13
      clear_value x14
      clear_value x15
      have hx16 : Keeps 11534553 s x16 := by
        unfold x16
        refine Keeps.step (State.mediaWrite_keeps ..) rfl ?_
        exact Keeps.refl _
      clear_value x16
      have hx17 : Keeps 11534553 s x17 := by
        unfold x17
        refine Keeps.step (State.mediaWrite_keeps ..) rfl ?_
        exact hx16
      clear_value x17
      clear_value x18
      clear_value x19
      clear_value x20
      have hx21 : Keeps 11534553 s x21 := by
        unfold x21
        refine Keeps.step (State.setEncS_keeps ..) rfl ?_
        exact hx17
      clear_value x21
      have hx22 : Keeps 11534553 s x22 := by
        unfold x22
        refine Keeps.step (State.add64_keeps ..) rfl ?_
        exact hx21
      clear_value x22
      have hx23 : Keeps 11534553 s x23 := by
        unfold x23
        refine Keeps.step (State.pixelsDone_keeps ..) rfl ?_
        exact hx22
      clear_value x23
      refine Keeps.ite ?_ ?_
      ·
        refine Keeps.step (State.endPic_keeps ..) rfl ?_
        exact Keeps.refl _
      ·
        refine Keeps.step (State.showEnc_keeps ..) rfl ?_
        refine Keeps.step (State.endPic_keeps ..) rfl ?_
        exact hx23

theorem State.takeWork_keeps : ∀ s e r, Keeps 3145945 s (State.takeWork s e r) := by
  intro s e r
  unfold State.takeWork
  lift_lets -underBinder
  extract_lets -descend x0 x1 x2
  clear_value x0
  clear_value x1
  have hx2 : Keeps 3145945 s x2 := by
    unfold x2
    refine Keeps.step (State.setCdc_keeps ..) rfl ?_
    exact Keeps.refl _
  clear_value x2
  split
  ·
    rename_i y3 y4 y5 y6
    lift_lets -underBinder
    extract_lets -descend x7 x8
    have hx7 : Keeps 3145945 s x7 := by
      unfold x7
      refine Keeps.ite ?_ ?_
      ·
        exact hx2
      ·
        refine Keeps.fold ?_ ?_
        ·
          exact hx2
        ·
          intro z9 q10 h11
          refine Keeps.ite ?_ ?_
          ·
            exact h11
          ·
            refine Keeps.step (State.showEng_keeps ..) rfl ?_
            refine Keeps.step (State.setCdc_keeps ..) rfl ?_
            exact h11
    clear_value x7
    clear_value x8
    refine Keeps.step (State.showEng_keeps ..) rfl ?_
    refine Keeps.step (State.setCdc_keeps ..) rfl ?_
    exact hx7
  ·
    rename_i y12 y13 y14 y15
    split
    ·
      rename_i y16 y17
      exact hx2
    ·
      rename_i y18 y19 y20
      lift_lets -underBinder
      extract_lets -descend x21 x22 x23
      clear_value x21
      clear_value x22
      have hx23 : Keeps 3145945 s x23 := by
        unfold x23
        refine Keeps.ite ?_ ?_
        ·
          exact hx2
        ·
          refine Keeps.step (State.bindEnc_keeps ..) rfl ?_
          refine Keeps.step (State.showEng_keeps ..) rfl ?_
          refine Keeps.step (State.setCdc_keeps ..) rfl ?_
          exact hx2
      clear_value x23
      refine Keeps.step (State.startPic_keeps ..) rfl ?_
      exact hx23

theorem State.resetCodec_keeps : ∀ s i, Keeps 1048577 s (State.resetCodec s i) := by
  intro s i
  unfold State.resetCodec
  lift_lets -underBinder
  extract_lets -descend x0 x1 x2 x3 x4
  have hx0 : Keeps 1048577 s x0 := by
    unfold x0
    refine Keeps.fold ?_ ?_
    ·
      exact Keeps.refl _
    ·
      intro z5 q6 h7
      lift_lets -underBinder
      extract_lets -descend x8 x9 x10 x11
      clear_value x8
      have hx9 : Keeps 1048577 s x9 := by
        unfold x9
        refine Keeps.step (State.setEncS_keeps ..) rfl ?_
        exact h7
      clear_value x9
      have hx10 : Keeps 1048577 s x10 := by
        unfold x10
        refine Keeps.step (State.setEncS_keeps ..) rfl ?_
        refine Keeps.step (State.unbind_keeps ..) rfl ?_
        exact hx9
      clear_value x10
      have hx11 : Keeps 1048577 s x11 := by
        unfold x11
        refine Keeps.step (State.setFld_keeps ..) rfl ?_
        exact hx10
      clear_value x11
      refine Keeps.ite ?_ ?_
      ·
        exact hx9
      ·
        refine Keeps.step (State.showEnc_keeps ..) rfl ?_
        refine Keeps.step (State.setFld_keeps ..) rfl ?_
        exact hx11
  clear_value x0
  clear_value x1
  have hx2 : Keeps 1048577 s x2 := by
    unfold x2
    refine Keeps.step (State.setMedia_keeps ..) rfl ?_
    exact hx0
  clear_value x2
  have hx3 : Keeps 1048577 s x3 := by
    unfold x3
    refine Keeps.step (State.setRingFld_keeps ..) rfl ?_
    exact hx2
  clear_value x3
  have hx4 : Keeps 1048577 s x4 := by
    unfold x4
    refine Keeps.step (State.setRingFld_keeps ..) rfl ?_
    exact hx3
  clear_value x4
  refine Keeps.step (State.showEncRings_keeps ..) rfl ?_
  refine Keeps.step (State.setRingFld_keeps ..) rfl ?_
  exact hx4

theorem State.requestKey_keeps : ∀ s t v, Keeps 1 s (State.requestKey s t v) := by
  intro s t v
  unfold State.requestKey
  refine Keeps.ite ?_ ?_
  ·
    exact Keeps.refl _
  ·
    refine Keeps.step (State.inc_keeps ..) rfl ?_
    refine Keeps.step (State.setFld_keeps ..) rfl ?_
    exact Keeps.refl _

theorem execCdcRingTail_keeps : ∀ req i tail s, KeepsOut 8388609 s (execCdcRingTail req i tail s) := by
  intro req i tail s
  unfold execCdcRingTail
  lift_lets -underBinder
  extract_lets -descend x0
  clear_value x0
  split
  ·
    rename_i y1
    refine KeepsOut.next ?_
    refine Keeps.step (State.writeMediaTail_keeps ..) rfl ?_
    exact Keeps.refl _
  ·
    rename_i y2
    refine KeepsOut.next ?_
    refine Keeps.step (State.regRefused_keeps ..) rfl ?_
    exact Keeps.refl _

theorem execPictureDescriptor_keeps : ∀ i s, KeepsOut 3145945 s (execPictureDescriptor i s) := by
  intro i s
  unfold execPictureDescriptor
  split
  ·
    rename_i y0 y1
    refine KeepsOut.next ?_
    exact Keeps.refl _
  ·
    rename_i y3 y4 y5 y6 y7
    have e8 : Keeps 3145945 s ((y4, y5, y6)).2.2 := by
      refine KeepsOpt.eq (π := (fun z : _ × _ × State => z.2.2)) y7 ?_
      refine KeepsOpt.step (State.mediaFetch_keeps ..) rfl ?_
      exact Keeps.refl _
    lift_lets -underBinder
    extract_lets -descend x9 x10 x11 x12 x13 x14 x15
    clear_value x9
    clear_value x10
    clear_value x11
    clear_value x12
    clear_value x13
    have hx14 : Keeps 3145945 s x14 := by
      unfold x14
      refine Keeps.step (State.setMedia_keeps ..) rfl ?_
      exact e8
    clear_value x14
    clear_value x15
    split
    ·
      rename_i y16
      refine KeepsOut.next ?_
      refine Keeps.step (State.doneSem_keeps ..) rfl ?_
      refine Keeps.step (State.mediaCpl_keeps ..) rfl ?_
      exact e8
    ·
      rename_i y17
      refine KeepsOut.next ?_
      refine Keeps.step (State.showEncRings_keeps ..) rfl ?_
      refine Keeps.step (State.setEncS_keeps ..) rfl ?_
      exact hx14

theorem execEncodeStreamEnable_keeps : ∀ req t val s, KeepsOut 9437185 s (execEncodeStreamEnable req t val s) := by
  intro req t val s
  unfold execEncodeStreamEnable
  lift_lets -underBinder
  extract_lets -descend x0
  clear_value x0
  split
  ·
    rename_i y1
    refine KeepsOut.next ?_
    refine Keeps.step (State.writeEncCfg_keeps ..) rfl ?_
    exact Keeps.refl _
  ·
    rename_i y2
    refine KeepsOut.next ?_
    refine Keeps.step (State.regRefused_keeps ..) rfl ?_
    exact Keeps.refl _

theorem execKeyPictureRequest_keeps : ∀ req t val s, KeepsOut 8388609 s (execKeyPictureRequest req t val s) := by
  intro req t val s
  unfold execKeyPictureRequest
  lift_lets -underBinder
  extract_lets -descend x0
  clear_value x0
  split
  ·
    rename_i y1
    refine KeepsOut.next ?_
    refine Keeps.step (State.requestKey_keeps ..) rfl ?_
    exact Keeps.refl _
  ·
    rename_i y2
    refine KeepsOut.next ?_
    refine Keeps.step (State.regRefused_keeps ..) rfl ?_
    exact Keeps.refl _

theorem execPictureBoundary_keeps : ∀ e s, KeepsOut 11534553 s (execPictureBoundary e s) := by
  intro e s
  unfold execPictureBoundary
  lift_lets -underBinder
  extract_lets -descend x0 x1
  clear_value x0
  have hx1 : Keeps 11534553 s x1 := by
    unfold x1
    split
    ·
      rename_i y2 y3 y4 y5
      split
      ·
        rename_i y6 y7 y8
        refine Keeps.step (State.finishPic_keeps ..) rfl ?_
        exact Keeps.refl _
      ·
        rename_i y9 y10
        refine Keeps.step (State.engineDone_keeps ..) rfl ?_
        exact Keeps.refl _
    ·
      rename_i y11 y12
      exact Keeps.refl _
  clear_value x1
  split
  ·
    rename_i y13
    refine KeepsOut.next ?_
    exact hx1
  ·
    rename_i y14
    split
    ·
      rename_i y15 y16 y17
      split
      ·
        rename_i y18 y19 y20
        refine KeepsOut.next ?_
        refine Keeps.step (State.takeWork_keeps ..) rfl ?_
        exact hx1
      ·
        rename_i y21 y22
        refine KeepsOut.next ?_
        refine Keeps.step (State.showEng_keeps ..) rfl ?_
        refine Keeps.step (State.setCdc_keeps ..) rfl ?_
        exact hx1
    ·
      rename_i y23 y24
      split
      ·
        rename_i y25 y26 y27
        refine KeepsOut.next ?_
        refine Keeps.step (State.takeWork_keeps ..) rfl ?_
        exact hx1
      ·
        rename_i y28 y29
        refine KeepsOut.next ?_
        exact hx1

theorem execBlockRowPreempt_keeps : ∀ e s, KeepsOut 3145945 s (execBlockRowPreempt e s) := by
  intro e s
  unfold execBlockRowPreempt
  lift_lets -underBinder
  extract_lets -descend x0
  clear_value x0
  split
  ·
    rename_i y1 y2 y3 y4 y5 y6
    split
    ·
      rename_i y7
      refine KeepsOut.next ?_
      exact Keeps.refl _
    ·
      rename_i y8
      refine KeepsOut.next ?_
      refine Keeps.step (State.showEng_keeps ..) rfl ?_
      refine Keeps.step (State.takeWork_keeps ..) rfl ?_
      refine Keeps.step (State.setCdc_keeps ..) rfl ?_
      exact Keeps.refl _
  ·
    rename_i y9 y10 y11
    refine KeepsOut.next ?_
    exact Keeps.refl _

theorem execEncodeLiveLate_keeps : ∀ t pts s, KeepsOut 3145945 s (execEncodeLiveLate t pts s) := by
  intro t pts s
  unfold execEncodeLiveLate
  split
  ·
    rename_i y0
    refine KeepsOut.next ?_
    exact Keeps.refl _
  ·
    rename_i y1
    split
    ·
      rename_i y2 y3
      refine KeepsOut.next ?_
      exact Keeps.refl _
    ·
      rename_i y4 y5 y6
      refine KeepsOut.next ?_
      refine Keeps.step (State.inc_keeps ..) rfl ?_
      refine Keeps.step (State.endPic_keeps ..) rfl ?_
      exact Keeps.refl _

end Sys2Proof.Machine
end

