-- ==== Sys2Proof/Laws/KeepsConv.lean ====
section
/-! SUPPORT. What each operation and each command of Machine/Conv.lean touches, one lemma each: the bits of its mask are the
parts of the state that it may change; the queue and the canonical form of the memories it keeps. -/
namespace Sys2Proof.Machine

theorem State.startConv_keeps : ∀ s c mode, Keeps 8388841 s (State.startConv s c mode) := by
  intro s c mode
  unfold State.startConv
  split
  ·
    rename_i y0 y1
    exact Keeps.refl _
  ·
    rename_i y2 y3 y4
    refine Keeps.ite ?_ ?_
    ·
      exact Keeps.refl _
    ·
      lift_lets -underBinder
      extract_lets -descend x5
      have hx5 : Keeps 8388841 s x5 := by
        unfold x5
        refine Keeps.step (State.popMx_keeps ..) rfl ?_
        exact Keeps.refl _
      clear_value x5
      refine Keeps.ite ?_ ?_
      ·
        exact hx5
      ·
        split
        ·
          rename_i y6 y7
          refine Keeps.step (State.startJob_keeps ..) rfl ?_
          refine Keeps.step (State.setFld_keeps ..) rfl ?_
          exact hx5
        ·
          rename_i y8 y9
          refine Keeps.step (State.recordMx_keeps ..) rfl ?_
          exact hx5

theorem State.putCells_keeps : ∀ s w l, Keeps 137 s (State.putCells s w l) := by
  intro s w l
  unfold State.putCells
  refine Keeps.fold ?_ ?_
  ·
    exact Keeps.refl _
  ·
    intro z0 q1 h2
    split
    ·
      rename_i y3 y4 y5 y6
      lift_lets -underBinder
      extract_lets -descend x7
      clear_value x7
      refine Keeps.step (State.putNat_keeps ..) rfl ?_
      exact h2

theorem State.windowRow_keeps : ∀ s c it d ch y, Keeps 137 s (State.windowRow s c it d ch y).2.2 := by
  intro s c it d ch y
  unfold State.windowRow
  lift_lets -underBinder
  extract_lets -descend x0 x1
  clear_value x0
  clear_value x1
  split
  ·
    rename_i y2 y3 y4 y5 y6
    lift_lets -underBinder
    extract_lets -descend x7 x8
    clear_value x8
    split
    ·
      rename_i y9 y10 y11 y12 y13 y14
      lift_lets -underBinder
      extract_lets -descend x15 x16
      clear_value x15
      have hx16 : Keeps 137 s x16 := by
        unfold x16
        refine Keeps.step (State.fpEvent_keeps ..) rfl ?_
        exact Keeps.refl _
      clear_value x16
      dsimp -zeta only
      refine Keeps.step (State.add64_keeps ..) rfl ?_
      refine Keeps.step (State.putCells_keeps ..) rfl ?_
      exact hx16
    ·
      rename_i y17 y18 y19 y20 y21 y22 y23 y24
      dsimp -zeta only
      exact Keeps.refl _
    ·
      rename_i y25 y26 y27 y28 y29 y30 y31
      dsimp -zeta only
      exact Keeps.refl _

theorem State.runPlanar_keeps : ∀ s c it d, Keeps 137 s (State.runPlanar s c it d).2.2 := by
  intro s c it d
  unfold State.runPlanar
  split
  ·
    rename_i y0 y1 y2 y3 y4
    refine Keeps.foldl (fun z : _ × _ × State => z.2.2) ?_ ?_
    ·
      dsimp -zeta only
      exact Keeps.refl _
    ·
      rintro ⟨z8, z9, z10⟩ q6 h7
      dsimp -zeta only at h7 ⊢
      refine Keeps.foldl (fun z : _ × _ × State => z.2.2) ?_ ?_
      ·
        exact h7
      ·
        rintro ⟨z14, z15, z16⟩ q12 h13
        dsimp -zeta only at h13 ⊢
        split
        ·
          rename_i y17
          exact h13
        ·
          rename_i y18
          refine Keeps.step (State.windowRow_keeps ..) rfl ?_
          exact h13

theorem State.runPack_keeps : ∀ s c it d, Keeps 137 s (State.runPack s c it d).2.2 := by
  intro s c it d
  unfold State.runPack
  lift_lets -underBinder
  extract_lets -descend x0 x1
  clear_value x0
  clear_value x1
  split
  ·
    rename_i y2 y3
    lift_lets -underBinder
    extract_lets -descend x4 x5 x6 x7 x8 x9
    clear_value x4
    clear_value x5
    clear_value x7
    clear_value x8
    clear_value x9
    split
    ·
      rename_i y10 y11
      lift_lets -underBinder
      extract_lets -descend x12 x13
      have hx12 : Keeps 137 s x12 := by
        unfold x12
        refine Keeps.step (State.setReg_keeps ..) rfl ?_
        refine Keeps.step (State.putBytes_keeps ..) rfl ?_
        exact Keeps.refl _
      clear_value x12
      have hx13 : Keeps 137 s x13 := by
        unfold x13
        refine Keeps.step (State.add64_keeps ..) rfl ?_
        exact hx12
      clear_value x13
      exact hx13
    ·
      rename_i y14 y15
      dsimp -zeta only
      exact Keeps.refl _
  ·
    rename_i y16 y17
    dsimp -zeta only
    exact Keeps.refl _

theorem State.unpackFrom_keeps : ∀ c it d a3 a4 a5 a6, Keeps 137 a4 (State.unpackFrom c it d a3 a4 a5 a6).2.2 := by
  intro c it d a3 a4 a5 a6
  induction a3 generalizing c it d a4 a5 a6 with
  | zero =>
    unfold State.unpackFrom
    dsimp -zeta only
    exact Keeps.refl _
  | succ n0 ih =>
    unfold State.unpackFrom
    lift_lets -underBinder
    extract_lets -descend x0 x1
    clear_value x0
    clear_value x1
    split
    ·
      rename_i y2
      dsimp -zeta only
      exact Keeps.refl _
    ·
      rename_i y3
      split
      ·
        rename_i y4
        dsimp -zeta only
        exact Keeps.refl _
      ·
        rename_i y5
        split
        ·
          rename_i y6 y7
          lift_lets -underBinder
          extract_lets -descend x8 x9
          clear_value x8
          clear_value x9
          split
          ·
            rename_i y10
            dsimp -zeta only
            exact Keeps.refl _
          ·
            rename_i y11
            split
            ·
              rename_i y12 y13 y14 y15
              lift_lets -underBinder
              extract_lets -descend x16 x17
              clear_value x16
              have hx17 : Keeps 137 a4 x17 := by
                unfold x17
                refine Keeps.step (State.add64_keeps ..) rfl ?_
                refine Keeps.step (State.putBytes_keeps ..) rfl ?_
                exact Keeps.refl _
              clear_value x17
              refine Keeps.step (ih ..) rfl ?_
              exact hx17
            ·
              rename_i y18 y19 y20 y21
              dsimp -zeta only
              exact Keeps.refl _
            ·
              rename_i y22 y23 y24 y25
              dsimp -zeta only
              exact Keeps.refl _
        ·
          rename_i y26 y27
          dsimp -zeta only
          exact Keeps.refl _

theorem State.runWindow_keeps : ∀ s c op, Keeps 8388841 s (State.runWindow s c op) := by
  intro s c op
  unfold State.runWindow
  split
  ·
    rename_i y0 y1
    exact Keeps.refl _
  ·
    rename_i y2 y3 y4
    lift_lets -underBinder
    extract_lets -descend x5 x6
    clear_value x5
    have hx6 : Keeps 8388841 s x6 := by
      unfold x6
      refine Keeps.step (State.popMx_keeps ..) rfl ?_
      exact Keeps.refl _
    clear_value x6
    refine Keeps.ite ?_ ?_
    ·
      exact Keeps.refl _
    ·
      refine Keeps.ite ?_ ?_
      ·
        exact hx6
      ·
        split
        ·
          rename_i y7 y8
          lift_lets -underBinder
          extract_lets -descend x9
          have hx9 : Keeps 8388841 s x9.2.2 := by
            unfold x9
            split
            ·
              rename_i y10
              refine Keeps.step (State.runPlanar_keeps ..) rfl ?_
              exact hx6
            ·
              rename_i y11
              split
              ·
                rename_i y12
                refine Keeps.step (State.runPack_keeps ..) rfl ?_
                exact hx6
              ·
                rename_i y13
                refine Keeps.step (State.unpackFrom_keeps ..) rfl ?_
                exact hx6
          clear_value x9
          refine Keeps.step (State.recordMx_keeps ..) rfl ?_
          refine Keeps.ite ?_ ?_
          ·
            exact hx9
          ·
            refine Keeps.step (State.engFail_keeps ..) rfl ?_
            exact hx9
        ·
          rename_i y14 y15
          refine Keeps.step (State.recordMx_keeps ..) rfl ?_
          exact hx6

theorem execConvolution_keeps : ∀ c s, KeepsOut 8388841 s (execConvolution c s) := by
  intro c s
  unfold execConvolution
  refine KeepsOut.next ?_
  refine Keeps.step (State.startConv_keeps ..) rfl ?_
  exact Keeps.refl _

theorem execWeightGradient_keeps : ∀ c s, KeepsOut 8388841 s (execWeightGradient c s) := by
  intro c s
  unfold execWeightGradient
  refine KeepsOut.next ?_
  refine Keeps.step (State.startConv_keeps ..) rfl ?_
  exact Keeps.refl _

theorem execLineFetch_keeps : ∀ c s, KeepsOut 8388841 s (execLineFetch c s) := by
  intro c s
  unfold execLineFetch
  split
  ·
    rename_i y0 y1
    refine KeepsOut.next ?_
    exact Keeps.refl _
  ·
    rename_i y2 y3 y4
    lift_lets -underBinder
    extract_lets -descend x5
    clear_value x5
    split
    ·
      rename_i y6 y7
      refine KeepsOut.next ?_
      exact Keeps.refl _
    ·
      rename_i y8 y9 y10
      split
      ·
        rename_i y11
        refine KeepsOut.next ?_
        exact Keeps.refl _
      ·
        rename_i y12
        lift_lets -underBinder
        extract_lets -descend x13
        clear_value x13
        split
        ·
          rename_i y14 y15 y16
          refine KeepsOut.next ?_
          refine Keeps.step (State.setJob_keeps ..) rfl ?_
          refine Keeps.step (State.add64_keeps ..) rfl ?_
          exact Keeps.refl _
        ·
          rename_i y17 y18 y19 y20 y21
          refine KeepsOut.next ?_
          refine Keeps.step (State.failJob_keeps ..) rfl ?_
          exact Keeps.refl _

theorem execMaxPool_keeps : ∀ c s, KeepsOut 8388841 s (execMaxPool c s) := by
  intro c s
  unfold execMaxPool
  refine KeepsOut.next ?_
  refine Keeps.step (State.runWindow_keeps ..) rfl ?_
  exact Keeps.refl _

theorem execAveragePool_keeps : ∀ c s, KeepsOut 8388841 s (execAveragePool c s) := by
  intro c s
  unfold execAveragePool
  refine KeepsOut.next ?_
  refine Keeps.step (State.runWindow_keeps ..) rfl ?_
  exact Keeps.refl _

theorem execSpaceToDepth_keeps : ∀ c s, KeepsOut 8388841 s (execSpaceToDepth c s) := by
  intro c s
  unfold execSpaceToDepth
  refine KeepsOut.next ?_
  refine Keeps.step (State.runWindow_keeps ..) rfl ?_
  exact Keeps.refl _

theorem execDepthToSpace_keeps : ∀ c s, KeepsOut 8388841 s (execDepthToSpace c s) := by
  intro c s
  unfold execDepthToSpace
  refine KeepsOut.next ?_
  refine Keeps.step (State.runWindow_keeps ..) rfl ?_
  exact Keeps.refl _

theorem execPack_keeps : ∀ c s, KeepsOut 8388841 s (execPack c s) := by
  intro c s
  unfold execPack
  refine KeepsOut.next ?_
  refine Keeps.step (State.runWindow_keeps ..) rfl ?_
  exact Keeps.refl _

theorem execUnpack_keeps : ∀ c s, KeepsOut 8388841 s (execUnpack c s) := by
  intro c s
  unfold execUnpack
  refine KeepsOut.next ?_
  refine Keeps.step (State.runWindow_keeps ..) rfl ?_
  exact Keeps.refl _

end Sys2Proof.Machine
end

