-- ==== Sys2Proof/Laws/KeepsPower.lean ====
section
/-! SUPPORT. What each operation and each command of Machine/Power.lean touches, one lemma each: the bits of its mask are the
parts of the state that it may change; the queue and the canonical form of the memories it keeps. -/
namespace Sys2Proof.Machine

theorem State.setCap_keeps : ∀ s tdpReq backupReq, Keeps 8388609 s (State.setCap s tdpReq backupReq) := by
  intro s tdpReq backupReq
  unfold State.setCap
  lift_lets -underBinder
  extract_lets -descend x0 x1 x2
  clear_value x0
  clear_value x1
  have hx2 : Keeps 8388609 s x2 := by
    unfold x2
    refine Keeps.step (State.setFld_keeps ..) rfl ?_
    refine Keeps.step (State.setFld_keeps ..) rfl ?_
    exact Keeps.refl _
  clear_value x2
  refine Keeps.ite ?_ ?_
  ·
    refine Keeps.step (State.log_keeps ..) rfl ?_
    exact hx2
  ·
    exact hx2

theorem State.showThrottle_keeps : ∀ s, Keeps 1 s (State.showThrottle s) := by
  intro s
  unfold State.showThrottle
  lift_lets -underBinder
  extract_lets -descend x0
  have hx0 : Keeps 1 s x0 := by
    unfold x0
    refine Keeps.fold ?_ ?_
    ·
      exact Keeps.refl _
    ·
      intro z1 q2 h3
      refine Keeps.step (State.setFld_keeps ..) rfl ?_
      exact h3
  clear_value x0
  refine Keeps.step (State.setFld_keeps ..) rfl ?_
  exact hx0

theorem State.setDieMhz_keeps : ∀ s d mhz, Keeps 1 s (State.setDieMhz s d mhz) := by
  intro s d mhz
  unfold State.setDieMhz
  lift_lets -underBinder
  extract_lets -descend x0
  have hx0 : Keeps 1 s x0 := by
    unfold x0
    refine Keeps.step (State.setFld_keeps ..) rfl ?_
    exact Keeps.refl _
  clear_value x0
  refine Keeps.step (State.setFld_keeps ..) rfl ?_
  exact hx0

theorem State.boundRatio_keeps : ∀ s, Keeps 1 s (State.boundRatio s) := by
  intro s
  unfold State.boundRatio
  refine Keeps.fold ?_ ?_
  ·
    exact Keeps.refl _
  ·
    intro z0 q1 h2
    refine Keeps.fold ?_ ?_
    ·
      exact h2
    ·
      intro z3 q4 h5
      split
      ·
        rename_i y6 y7 y8
        lift_lets -underBinder
        extract_lets -descend x9
        refine Keeps.ite ?_ ?_
        ·
          refine Keeps.step (State.setDieMhz_keeps ..) rfl ?_
          exact h5
        ·
          refine Keeps.ite ?_ ?_
          ·
            refine Keeps.step (State.setDieMhz_keeps ..) rfl ?_
            exact h5
          ·
            exact h5

theorem State.lowerDie_keeps : ∀ s d, Keeps 1 s (State.lowerDie s d) := by
  intro s d
  unfold State.lowerDie
  refine Keeps.ite ?_ ?_
  ·
    refine Keeps.step (State.setDieMhz_keeps ..) rfl ?_
    exact Keeps.refl _
  ·
    exact Keeps.refl _

theorem State.cut_keeps : ∀ s, Keeps 8388609 s (State.cut s) := by
  intro s
  unfold State.cut
  lift_lets -underBinder
  extract_lets -descend x0
  have hx0 : Keeps 8388609 s x0 := by
    unfold x0
    refine Keeps.fold ?_ ?_
    ·
      exact Keeps.refl _
    ·
      intro z1 q2 h3
      refine Keeps.step (State.lowerDie_keeps ..) rfl ?_
      exact h3
  clear_value x0
  refine Keeps.step (State.alarmEvent_keeps ..) rfl ?_
  refine Keeps.step (State.inc_keeps ..) rfl ?_
  refine Keeps.step (State.showThrottle_keeps ..) rfl ?_
  refine Keeps.step (State.boundRatio_keeps ..) rfl ?_
  exact hx0

theorem State.minimumDraw_keeps : ∀ s, Keeps 4194305 s (State.minimumDraw s) := by
  intro s
  unfold State.minimumDraw
  lift_lets -underBinder
  extract_lets -descend x0 x1
  clear_value x0
  have hx1 : Keeps 4194305 s x1 := by
    unfold x1
    refine Keeps.set_pwr rfl ?_
    exact Keeps.refl _
  clear_value x1
  refine Keeps.fold ?_ ?_
  ·
    exact hx1
  ·
    intro z2 q3 h4
    refine Keeps.step (State.setFld_keeps ..) rfl ?_
    exact h4

theorem State.diesOff_keeps : ∀ s, Keeps 1 s (State.diesOff s) := by
  intro s
  unfold State.diesOff
  refine Keeps.fold ?_ ?_
  ·
    exact Keeps.refl _
  ·
    intro z0 q1 h2
    refine Keeps.step (State.setReg_keeps ..) rfl ?_
    exact h2

theorem State.failModule_keeps : ∀ s code, Keeps 4194305 s (State.failModule s code) := by
  intro s code
  unfold State.failModule
  lift_lets -underBinder
  extract_lets -descend x0 x1
  clear_value x0
  have hx1 : Keeps 4194305 s x1 := by
    unfold x1
    refine Keeps.set_pwr rfl ?_
    exact Keeps.refl _
  clear_value x1
  refine Keeps.step (State.setFld_keeps ..) rfl ?_
  refine Keeps.step (State.setModState_keeps ..) rfl ?_
  exact hx1

theorem State.fatalNow_keeps : ∀ s code u, Keeps 8388609 s (State.fatalNow s code u) := by
  intro s code u
  unfold State.fatalNow
  refine Keeps.step (State.takeEntry_keeps ..) rfl ?_
  exact Keeps.refl _

theorem State.transfer_keeps : ∀ s toB, Keeps 8388609 s (State.transfer s toB) := by
  intro s toB
  unfold State.transfer
  lift_lets -underBinder
  extract_lets -descend x0 x1 x2 x3
  clear_value x0
  have hx1 : Keeps 8388609 s x1 := by
    unfold x1
    refine Keeps.step (State.setFld_keeps ..) rfl ?_
    exact Keeps.refl _
  clear_value x1
  have hx2 : Keeps 8388609 s x2 := by
    unfold x2
    refine Keeps.step (State.setFld_keeps ..) rfl ?_
    exact hx1
  clear_value x2
  have hx3 : Keeps 8388609 s x3 := by
    unfold x3
    refine Keeps.step (State.setFld_keeps ..) rfl ?_
    exact hx2
  clear_value x3
  refine Keeps.step (State.log_keeps ..) rfl ?_
  refine Keeps.step (State.inc_keeps ..) rfl ?_
  exact hx3

theorem execInputAFail_keeps : ∀ cv s, KeepsOut 12582913 s (execInputAFail cv s) := by
  intro cv s
  unfold execInputAFail
  split
  ·
    rename_i y0
    lift_lets -underBinder
    extract_lets -descend x1 x2 x3 x4
    have hx1 : Keeps 12582913 s x1 := by
      unfold x1
      refine Keeps.step (State.setFld_keeps ..) rfl ?_
      exact Keeps.refl _
    clear_value x1
    have hx2 : Keeps 12582913 s x2 := by
      unfold x2
      refine Keeps.step (State.setFld_keeps ..) rfl ?_
      exact hx1
    clear_value x2
    clear_value x3
    have hx4 : Keeps 12582913 s x4 := by
      unfold x4
      refine Keeps.set_pwr rfl ?_
      exact hx2
    clear_value x4
    split
    ·
      rename_i y5
      refine KeepsOut.next ?_
      exact hx4
    ·
      rename_i y6
      split
      ·
        rename_i y7
        refine KeepsOut.next ?_
        refine Keeps.step (State.minimumDraw_keeps ..) rfl ?_
        exact hx4
      ·
        rename_i y8
        refine KeepsOut.next ?_
        refine Keeps.step (State.transfer_keeps ..) rfl ?_
        exact hx4
  ·
    rename_i y9
    refine KeepsOut.next ?_
    exact Keeps.refl _

theorem execInputAGood_keeps : ∀ cv s, KeepsOut 4194305 s (execInputAGood cv s) := by
  intro cv s
  unfold execInputAGood
  split
  ·
    rename_i y0
    lift_lets -underBinder
    extract_lets -descend x1 x2 x3 x4
    have hx1 : Keeps 4194305 s x1 := by
      unfold x1
      refine Keeps.step (State.setFld_keeps ..) rfl ?_
      exact Keeps.refl _
    clear_value x1
    have hx2 : Keeps 4194305 s x2 := by
      unfold x2
      refine Keeps.step (State.setFld_keeps ..) rfl ?_
      exact hx1
    clear_value x2
    clear_value x3
    have hx4 : Keeps 4194305 s x4 := by
      unfold x4
      refine Keeps.set_pwr rfl ?_
      exact hx2
    clear_value x4
    split
    ·
      rename_i y5
      refine KeepsOut.next ?_
      refine Keeps.step (State.setFld_keeps ..) rfl ?_
      exact hx4
    ·
      rename_i y6
      refine KeepsOut.next ?_
      exact hx4
  ·
    rename_i y7
    refine KeepsOut.next ?_
    exact Keeps.refl _

theorem execInputAGoodBandDeparture_keeps : ∀ cv s, KeepsOut 1 s (execInputAGoodBandDeparture cv s) := by
  intro cv s
  unfold execInputAGoodBandDeparture
  split
  ·
    rename_i y0
    refine KeepsOut.next ?_
    exact Keeps.refl _
  ·
    rename_i y1
    refine KeepsOut.next ?_
    refine Keeps.step (State.setFld_keeps ..) rfl ?_
    refine Keeps.step (State.setFld_keeps ..) rfl ?_
    exact Keeps.refl _

theorem execSwitchBackTimer_keeps : ∀ s, KeepsOut 8388609 s (execSwitchBackTimer s) := by
  intro s
  unfold execSwitchBackTimer
  split
  ·
    rename_i y0
    refine KeepsOut.next ?_
    refine Keeps.step (State.transfer_keeps ..) rfl ?_
    exact Keeps.refl _
  ·
    rename_i y1
    refine KeepsOut.next ?_
    exact Keeps.refl _

theorem execInputBFail_keeps : ∀ cv s, KeepsOut 12582913 s (execInputBFail cv s) := by
  intro cv s
  unfold execInputBFail
  split
  ·
    rename_i y0
    lift_lets -underBinder
    extract_lets -descend x1 x2 x3 x4
    have hx1 : Keeps 12582913 s x1 := by
      unfold x1
      refine Keeps.step (State.setFld_keeps ..) rfl ?_
      exact Keeps.refl _
    clear_value x1
    have hx2 : Keeps 12582913 s x2 := by
      unfold x2
      refine Keeps.step (State.setFld_keeps ..) rfl ?_
      exact hx1
    clear_value x2
    clear_value x3
    have hx4 : Keeps 12582913 s x4 := by
      unfold x4
      refine Keeps.set_pwr rfl ?_
      exact hx2
    clear_value x4
    split
    ·
      rename_i y5
      split
      ·
        rename_i y6
        refine KeepsOut.next ?_
        refine Keeps.step (State.minimumDraw_keeps ..) rfl ?_
        exact hx4
      ·
        rename_i y7
        refine KeepsOut.next ?_
        refine Keeps.step (State.transfer_keeps ..) rfl ?_
        exact hx4
    ·
      rename_i y8
      refine KeepsOut.next ?_
      refine Keeps.step (State.log_keeps ..) rfl ?_
      exact hx4
  ·
    rename_i y9
    refine KeepsOut.next ?_
    exact Keeps.refl _

theorem execBothInputsFail_keeps : ∀ s, KeepsOut 4194305 s (execBothInputsFail s) := by
  intro s
  unfold execBothInputsFail
  lift_lets -underBinder
  extract_lets -descend x0 x1 x2 x3
  have hx0 : Keeps 4194305 s x0 := by
    unfold x0
    refine Keeps.step (State.setFld_keeps ..) rfl ?_
    exact Keeps.refl _
  clear_value x0
  have hx1 : Keeps 4194305 s x1 := by
    unfold x1
    refine Keeps.step (State.setFld_keeps ..) rfl ?_
    exact hx0
  clear_value x1
  clear_value x2
  have hx3 : Keeps 4194305 s x3 := by
    unfold x3
    refine Keeps.set_pwr rfl ?_
    exact hx1
  clear_value x3
  refine KeepsOut.next ?_
  refine Keeps.step (State.minimumDraw_keeps ..) rfl ?_
  exact hx3

theorem execPowerSample_keeps : ∀ sampleW meanW draws s, KeepsOut 12582913 s (execPowerSample sampleW meanW draws s) := by
  intro sampleW meanW draws s
  unfold execPowerSample
  lift_lets -underBinder
  extract_lets -descend x0 x1 x2 x3 x4
  have hx0 : Keeps 12582913 s x0 := by
    unfold x0
    refine Keeps.step (State.setFld_keeps ..) rfl ?_
    refine Keeps.step (State.setFld_keeps ..) rfl ?_
    exact Keeps.refl _
  clear_value x0
  clear_value x1
  clear_value x2
  have hx3 : Keeps 12582913 s x3 := by
    unfold x3
    refine Keeps.set_pwr rfl ?_
    exact hx0
  clear_value x3
  have hx4 : Keeps 12582913 s x4 := by
    unfold x4
    refine Keeps.ite ?_ ?_
    ·
      refine Keeps.step (State.inc_keeps ..) rfl ?_
      exact hx3
    ·
      exact hx3
  clear_value x4
  split
  ·
    rename_i y5
    refine KeepsOut.next ?_
    refine Keeps.step (State.cut_keeps ..) rfl ?_
    exact hx4
  ·
    rename_i y6
    refine KeepsOut.next ?_
    exact hx4

theorem execPeakRunLimit_keeps : ∀ s, KeepsOut 12582913 s (execPeakRunLimit s) := by
  intro s
  unfold execPeakRunLimit
  split
  ·
    rename_i y0
    refine KeepsOut.next ?_
    refine Keeps.step (State.cut_keeps ..) rfl ?_
    refine Keeps.set_pwr rfl ?_
    exact Keeps.refl _
  ·
    rename_i y1
    refine KeepsOut.next ?_
    exact Keeps.refl _

theorem execClockRaise_keeps : ∀ s, KeepsOut 1 s (execClockRaise s) := by
  intro s
  unfold execClockRaise
  lift_lets -underBinder
  extract_lets -descend x0 x1 x2
  clear_value x0
  clear_value x1
  have hx2 : Keeps 1 s x2 := by
    unfold x2
    refine Keeps.fold ?_ ?_
    ·
      exact Keeps.refl _
    ·
      intro z3 q4 h5
      refine Keeps.ite ?_ ?_
      ·
        refine Keeps.step (State.boundRatio_keeps ..) rfl ?_
        refine Keeps.step (State.setDieMhz_keeps ..) rfl ?_
        exact h5
      ·
        exact h5
  clear_value x2
  split
  ·
    rename_i y6
    refine KeepsOut.next ?_
    refine Keeps.step (State.showThrottle_keeps ..) rfl ?_
    exact hx2
  ·
    rename_i y7
    refine KeepsOut.next ?_
    exact Keeps.refl _

theorem execThermalSample_keeps : ∀ temps s, KeepsOut 12582913 s (execThermalSample temps s) := by
  intro temps s
  unfold execThermalSample
  lift_lets -underBinder
  extract_lets -descend x0 x1 x2 x3 x4 x5 x6 x7 x8
  have hx1 : Keeps 12582913 s x1 := by
    unfold x1
    refine Keeps.fold ?_ ?_
    ·
      exact Keeps.refl _
    ·
      intro z9 q10 h11
      refine Keeps.step (State.setFld_keeps ..) rfl ?_
      exact h11
  clear_value x1
  clear_value x2
  clear_value x3
  have hx4 : Keeps 12582913 s x4 := by
    unfold x4
    refine Keeps.step (State.fatalNow_keeps ..) rfl ?_
    exact hx1
  clear_value x4
  clear_value x5
  have hx6 : Keeps 12582913 s x6 := by
    unfold x6
    refine Keeps.set_pwr rfl ?_
    exact hx4
  clear_value x6
  have hx8 : Keeps 12582913 s x8 := by
    unfold x8
    refine Keeps.fold ?_ ?_
    ·
      exact hx1
    ·
      intro z12 q13 h14
      refine Keeps.ite ?_ ?_
      ·
        refine Keeps.step (State.lowerDie_keeps ..) rfl ?_
        exact h14
      ·
        exact h14
  clear_value x8
  split
  ·
    rename_i y15
    refine KeepsOut.next ?_
    refine Keeps.step (State.failModule_keeps ..) rfl ?_
    refine Keeps.step (State.diesOff_keeps ..) rfl ?_
    exact hx6
  ·
    rename_i y16
    refine KeepsOut.next ?_
    refine Keeps.step (State.showThrottle_keeps ..) rfl ?_
    refine Keeps.step (State.boundRatio_keeps ..) rfl ?_
    exact hx8

theorem State.writeDieReq_keeps : ∀ s d v, Keeps 1 s (State.writeDieReq s d v) := by
  intro s d v
  unfold State.writeDieReq
  lift_lets -underBinder
  extract_lets -descend x0 x1 x2
  clear_value x0
  have hx1 : Keeps 1 s x1 := by
    unfold x1
    refine Keeps.step (State.setFld_keeps ..) rfl ?_
    exact Keeps.refl _
  clear_value x1
  have hx2 : Keeps 1 s x2 := by
    unfold x2
    refine Keeps.ite ?_ ?_
    ·
      exact hx1
    ·
      refine Keeps.ite ?_ ?_
      ·
        refine Keeps.step (State.setDieMhz_keeps ..) rfl ?_
        exact hx1
      ·
        exact hx1
  clear_value x2
  refine Keeps.step (State.showThrottle_keeps ..) rfl ?_
  refine Keeps.step (State.boundRatio_keeps ..) rfl ?_
  exact hx2

theorem execDieRequest_keeps : ∀ req d mhz s, KeepsOut 8388609 s (execDieRequest req d mhz s) := by
  intro req d mhz s
  unfold execDieRequest
  split
  ·
    rename_i y0
    refine KeepsOut.next ?_
    refine Keeps.step (State.writeDieReq_keeps ..) rfl ?_
    exact Keeps.refl _
  ·
    rename_i y1
    refine KeepsOut.next ?_
    refine Keeps.step (State.regRefused_keeps ..) rfl ?_
    exact Keeps.refl _

theorem execPcieRefclkLoss_keeps : ∀ s, KeepsOut 12582913 s (execPcieRefclkLoss s) := by
  intro s
  unfold execPcieRefclkLoss
  refine KeepsOut.next ?_
  refine Keeps.step (State.failModule_keeps ..) rfl ?_
  refine Keeps.step (State.diesOff_keeps ..) rfl ?_
  refine Keeps.step (State.fatalNow_keeps ..) rfl ?_
  exact Keeps.refl _

end Sys2Proof.Machine
end

