-- ==== Sys2Proof/Laws/KeepsSeam.lean ====
section
/-! SUPPORT. What each operation and each command of Machine/Seam.lean touches, one lemma each: the bits of its mask are the
parts of the state that it may change; the queue and the canonical form of the memories it keeps. -/
namespace Sys2Proof.Machine

theorem State.setSeamQ_keeps : ∀ s d q, Keeps 8193 s (State.setSeamQ s d q) := by
  intro s d q
  unfold State.setSeamQ
  refine Keeps.step (State.showSeam_keeps ..) rfl ?_
  refine Keeps.set_seam rfl ?_
  exact Keeps.refl _

theorem State.putSeam_keeps : ∀ s d it, Keeps 8193 s (State.putSeam s d it) := by
  intro s d it
  unfold State.putSeam
  refine Keeps.step (State.setSeamQ_keeps ..) rfl ?_
  exact Keeps.refl _

theorem State.sendSeam_keeps : ∀ s d g it st r die type bytes arg data, Keeps 12263609 s (State.sendSeam s d g it st r die type bytes arg data).2 := by
  intro s d g it st r die type bytes arg data
  unfold State.sendSeam
  lift_lets -underBinder
  extract_lets -descend x0 x1
  clear_value x0
  clear_value x1
  split
  ·
    rename_i y2
    lift_lets -underBinder
    extract_lets -descend x3 x4 x5
    clear_value x3
    clear_value x4
    clear_value x5
    split
    ·
      rename_i y6 y7 y8
      have e9 : Keeps 12263609 s y7 := by
        refine KeepsOpt.eq (π := (fun z : State => z)) y8 ?_
        refine KeepsOpt.step (State.startTxn_keeps ..) rfl ?_
        exact Keeps.refl _
      dsimp -zeta only
      refine Keeps.step (State.add64_keeps ..) rfl ?_
      exact e9
    ·
      rename_i y10 y11
      dsimp -zeta only
      exact Keeps.refl _
  ·
    rename_i y13
    dsimp -zeta only
    refine Keeps.step (State.putSeam_keeps ..) rfl ?_
    exact Keeps.refl _

theorem State.sendAborts_keeps : ∀ s d g it code, Keeps 12263609 s (State.sendAborts s d g it code) := by
  intro s d g it code
  unfold State.sendAborts
  refine Keeps.fold ?_ ?_
  ·
    exact Keeps.refl _
  ·
    intro z0 q1 h2
    refine Keeps.fold ?_ ?_
    ·
      exact h2
    ·
      intro z3 q4 h5
      refine Keeps.step (State.sendSeam_keeps ..) rfl ?_
      exact h5

theorem State.scramble_keeps : ∀ s e a n, Keeps 16777353 s (State.scramble s e a n) := by
  intro s e a n
  unfold State.scramble
  refine Keeps.ite ?_ ?_
  ·
    exact Keeps.refl _
  ·
    split
    ·
      rename_i y0 y1 y2 y3
      have e4 : Keeps 16777353 s (y2) := by
        refine Keeps.snd_eq y3 ?_
        refine Keeps.step (State.fresh_keeps ..) rfl ?_
        exact Keeps.refl _
      refine Keeps.step (State.putBytes_keeps ..) rfl ?_
      exact e4

theorem State.addGrad_keeps : ∀ s it, Keeps 2048 s (State.addGrad s it) := by
  intro s it
  unfold State.addGrad
  lift_lets -underBinder
  extract_lets -descend x0 x1 x2 x3 x4
  clear_value x0
  clear_value x1
  clear_value x2
  clear_value x3
  clear_value x4
  refine Keeps.ite ?_ ?_
  ·
    exact Keeps.refl _
  ·
    refine Keeps.step (State.setVote_keeps ..) rfl ?_
    exact Keeps.refl _

theorem State.dropSeam_keeps : ∀ s d it st, Keeps 8417 s (State.dropSeam s d it st) := by
  intro s d it st
  unfold State.dropSeam
  lift_lets -underBinder
  extract_lets -descend x0 x1 x2
  have hx0 : Keeps 8417 s x0 := by
    unfold x0
    refine Keeps.step (State.setSeamQ_keeps ..) rfl ?_
    exact Keeps.refl _
  clear_value x0
  have hx1 : Keeps 8417 s x1 := by
    unfold x1
    refine Keeps.step (State.setFld_keeps ..) rfl ?_
    exact hx0
  clear_value x1
  have hx2 : Keeps 8417 s x2 := by
    unfold x2
    refine Keeps.step (State.add64_keeps ..) rfl ?_
    exact hx1
  clear_value x2
  refine Keeps.step (State.finishItem_keeps ..) rfl ?_
  exact hx2

theorem State.endSeam_keeps : ∀ s d g it st moved, Keeps 29059321 s (State.endSeam s d g it st moved) := by
  intro s d g it st moved
  unfold State.endSeam
  lift_lets -underBinder
  extract_lets -descend x0 x1 x2 x3
  have hx0 : Keeps 29059321 s x0 := by
    unfold x0
    refine Keeps.ite ?_ ?_
    ·
      refine Keeps.step (State.addGrad_keeps ..) rfl ?_
      exact Keeps.refl _
    ·
      refine Keeps.step (State.sendAborts_keeps ..) rfl ?_
      exact Keeps.refl _
  clear_value x0
  have hx1 : Keeps 29059321 s x1 := by
    unfold x1
    refine Keeps.ite ?_ ?_
    ·
      refine Keeps.fold ?_ ?_
      ·
        exact hx0
      ·
        intro z4 q5 h6
        refine Keeps.step (State.scramble_keeps ..) rfl ?_
        exact h6
    ·
      exact hx0
  clear_value x1
  clear_value x2
  have hx3 : Keeps 29059321 s x3 := by
    unfold x3
    refine Keeps.set_seamNotes rfl ?_
    exact hx1
  clear_value x3
  refine Keeps.step (State.dropSeam_keeps ..) rfl ?_
  exact hx3

theorem State.seamInit_keeps : ∀ s d g it, Keeps 8329 s (State.seamInit s d g it).2.2 := by
  intro s d g it
  unfold State.seamInit
  lift_lets -underBinder
  extract_lets -descend x0 x1
  clear_value x0
  clear_value x1
  split
  ·
    rename_i y2 y3
    lift_lets -underBinder
    extract_lets -descend x4
    clear_value x4
    split
    ·
      rename_i y5 y6 y7
      dsimp -zeta only
      exact Keeps.refl _
    ·
      rename_i y8 y9
      dsimp -zeta only
      refine Keeps.step (State.putSeam_keeps ..) rfl ?_
      exact Keeps.refl _
  ·
    rename_i y10 y11
    split
    ·
      rename_i y12
      dsimp -zeta only
      exact Keeps.refl _
    ·
      rename_i y13
      lift_lets -underBinder
      extract_lets -descend x14
      clear_value x14
      split
      ·
        rename_i y15 y16
        dsimp -zeta only
        refine Keeps.step (State.putSeam_keeps ..) rfl ?_
        exact Keeps.refl _
      ·
        rename_i y17 y18
        dsimp -zeta only
        exact Keeps.refl _
  ·
    rename_i y19 y20
    lift_lets -underBinder
    extract_lets -descend x21 x22
    clear_value x21
    clear_value x22
    split
    ·
      rename_i y23 y24
      dsimp -zeta only
      refine Keeps.step (State.putSeam_keeps ..) rfl ?_
      exact Keeps.refl _
    ·
      rename_i y25 y26
      dsimp -zeta only
      exact Keeps.refl _
  ·
    rename_i y27 y28
    lift_lets -underBinder
    extract_lets -descend x29 x30
    clear_value x29
    clear_value x30
    split
    ·
      rename_i y31 y32 y33
      dsimp -zeta only
      exact Keeps.refl _
    ·
      rename_i y34 y35
      lift_lets -underBinder
      extract_lets -descend x36 x37
      clear_value x36
      clear_value x37
      split
      ·
        rename_i y38 y39
        dsimp -zeta only
        refine Keeps.step (State.putSeam_keeps ..) rfl ?_
        refine Keeps.step (State.putBytes_keeps ..) rfl ?_
        exact Keeps.refl _
      ·
        rename_i y40 y41
        dsimp -zeta only
        exact Keeps.refl _
  ·
    rename_i y42 y43 y44 y45 y46
    dsimp -zeta only
    exact Keeps.refl _

theorem State.seamGrant_keeps : ∀ s d g it kind st, Keeps 12263609 s (State.seamGrant s d g it kind st) := by
  intro s d g it kind st
  unfold State.seamGrant
  refine Keeps.fold ?_ ?_
  ·
    exact Keeps.refl _
  ·
    intro z0 q1 h2
    split
    ·
      rename_i y3 y4
      exact h2
    ·
      rename_i y5 y6 y7
      lift_lets -underBinder
      extract_lets -descend x8 x9 x10
      clear_value x8
      clear_value x9
      clear_value x10
      refine Keeps.ite ?_ ?_
      ·
        exact h2
      ·
        split
        ·
          rename_i y11 y12 y13 y14
          have e15 : Keeps 12263609 s (y13) := by
            refine Keeps.snd_eq y14 ?_
            refine Keeps.step (State.sendSeam_keeps ..) rfl ?_
            exact h2
          split
          ·
            rename_i y16 y17 y18 y19
            have e20 : Keeps 12263609 s (y13) := by
              refine Keeps.snd_eq y14 ?_
              refine Keeps.step (State.sendSeam_keeps ..) rfl ?_
              exact h2
            refine Keeps.step (State.putSeam_keeps ..) rfl ?_
            exact e20
          ·
            rename_i y21 y22 y23 y24
            have e25 : Keeps 12263609 s (y13) := by
              refine Keeps.snd_eq y14 ?_
              refine Keeps.step (State.sendSeam_keeps ..) rfl ?_
              exact h2
            exact e25

theorem State.seamSend_keeps : ∀ s d g id st a5, Keeps 12263609 s (State.seamSend s d g id st a5) := by
  intro s d g id st a5
  induction a5 generalizing s d g id st with
  | zero =>
    unfold State.seamSend
    exact Keeps.refl _
  | succ n0 ih =>
    unfold State.seamSend
    split
    ·
      rename_i y0 y1
      exact Keeps.refl _
    ·
      rename_i y2 y3 y4
      lift_lets -underBinder
      extract_lets -descend x5
      split
      ·
        rename_i y6 y7
        exact Keeps.refl _
      ·
        rename_i y8 y9 y10
        split
        ·
          rename_i y11 y12
          exact Keeps.refl _
        ·
          rename_i y13 y14 y15
          split
          ·
            rename_i y16 y17 y18 y19
            have e20 : Keeps 12263609 s (y18) := by
              refine Keeps.snd_eq y19 ?_
              refine Keeps.step (State.sendSeam_keeps ..) rfl ?_
              exact Keeps.refl _
            refine Keeps.ite ?_ ?_
            ·
              exact Keeps.refl _
            ·
              split
              ·
                rename_i y21 y22
                exact e20
              ·
                rename_i y23 y24 y25
                lift_lets -underBinder
                extract_lets -descend x26
                clear_value x26
                refine Keeps.step (ih ..) rfl ?_
                refine Keeps.step (State.putSeam_keeps ..) rfl ?_
                exact e20

theorem State.seamReport_keeps : ∀ s it die r, Keeps 1 s (State.seamReport s it die r) := by
  intro s it die r
  unfold State.seamReport
  lift_lets -underBinder
  extract_lets -descend x0 x1 x2
  clear_value x0
  have hx1 : Keeps 1 s x1 := by
    unfold x1
    refine Keeps.step (State.setRegBit_keeps ..) rfl ?_
    exact Keeps.refl _
  clear_value x1
  have hx2 : Keeps 1 s x2 := by
    unfold x2
    refine Keeps.ite ?_ ?_
    ·
      refine Keeps.ite ?_ ?_
      ·
        exact hx1
      ·
        refine Keeps.step (State.setRegBit_keeps ..) rfl ?_
        exact hx1
    ·
      exact Keeps.refl _
  clear_value x2
  refine Keeps.ite ?_ ?_
  ·
    exact hx2
  ·
    refine Keeps.step (State.addSat_keeps ..) rfl ?_
    exact hx2

theorem State.seamDieStage_keeps : ∀ s d g it, Keeps 8193 s (State.seamDieStage s d g it).2.2 := by
  intro s d g it
  unfold State.seamDieStage
  lift_lets -underBinder
  extract_lets -descend x0 x1 x2
  clear_value x0
  clear_value x1
  clear_value x2
  split
  ·
    rename_i y3 y4 y5
    dsimp -zeta only
    exact Keeps.refl _
  ·
    rename_i y6 y7
    lift_lets -underBinder
    extract_lets -descend x8 x9 x10 x11
    clear_value x8
    have hx9 : Keeps 8193 s x9 := by
      unfold x9
      refine Keeps.fold ?_ ?_
      ·
        exact Keeps.refl _
      ·
        intro z12 q13 h14
        refine Keeps.step (State.seamReport_keeps ..) rfl ?_
        exact h14
    clear_value x9
    have hx10 : Keeps 8193 s x10 := by
      unfold x10
      refine Keeps.fold ?_ ?_
      ·
        exact hx9
      ·
        intro z15 q16 h17
        refine Keeps.step (State.add64_keeps ..) rfl ?_
        exact h17
    clear_value x10
    clear_value x11
    dsimp -zeta only
    refine Keeps.step (State.putSeam_keeps ..) rfl ?_
    exact hx10

theorem State.seamClose_keeps : ∀ s d g it kind st, Keeps 8193 s (State.seamClose s d g it kind st) := by
  intro s d g it kind st
  unfold State.seamClose
  lift_lets -underBinder
  extract_lets -descend x0 x1 x2 x3 x4 x5 x6 x7
  clear_value x0
  clear_value x1
  clear_value x2
  clear_value x5
  clear_value x6
  clear_value x7
  refine Keeps.ite ?_ ?_
  ·
    refine Keeps.step (State.putSeam_keeps ..) rfl ?_
    refine Keeps.fold ?_ ?_
    ·
      exact Keeps.refl _
    ·
      intro z8 q9 h10
      refine Keeps.step (State.seamReport_keeps ..) rfl ?_
      exact h10
  ·
    refine Keeps.ite ?_ ?_
    ·
      refine Keeps.step (State.putSeam_keeps ..) rfl ?_
      exact Keeps.refl _
    ·
      split
      ·
        rename_i y11 y12
        lift_lets -underBinder
        extract_lets -descend x13
        clear_value x13
        refine Keeps.step (State.putSeam_keeps ..) rfl ?_
        exact Keeps.refl _
      ·
        rename_i y14 y15
        lift_lets -underBinder
        extract_lets -descend x16 x17 x18
        clear_value x16
        clear_value x17
        clear_value x18
        refine Keeps.step (State.putSeam_keeps ..) rfl ?_
        exact Keeps.refl _
      ·
        rename_i y19 y20 y21
        lift_lets -underBinder
        extract_lets -descend x22
        clear_value x22
        refine Keeps.step (State.putSeam_keeps ..) rfl ?_
        exact Keeps.refl _

theorem State.seamWrites_keeps : ∀ s e l, Keeps 137 s (State.seamWrites s e l).2.2 := by
  intro s e l
  unfold State.seamWrites
  refine Keeps.foldl (fun z : _ × _ × State => z.2.2) ?_ ?_
  ·
    dsimp -zeta only
    exact Keeps.refl _
  ·
    rintro ⟨z3, z4, z5⟩ q1 h2
    dsimp -zeta only at h2 ⊢
    split
    ·
      rename_i y6
      exact h2
    ·
      rename_i y7
      split
      ·
        rename_i y8 y9
        dsimp -zeta only
        refine Keeps.step (State.putBytes_keeps ..) rfl ?_
        exact h2
      ·
        rename_i y10 y11
        exact h2

theorem State.seamFinish_keeps : ∀ s d g it, Keeps 137 s (State.seamFinish s d g it).2.2 := by
  intro s d g it
  unfold State.seamFinish
  lift_lets -underBinder
  extract_lets -descend x0 x1 x2
  clear_value x0
  clear_value x1
  clear_value x2
  split
  ·
    rename_i y3 y4
    refine Keeps.step (State.seamWrites_keeps ..) rfl ?_
    exact Keeps.refl _
  ·
    rename_i y5 y6
    lift_lets -underBinder
    extract_lets -descend x7
    clear_value x7
    refine Keeps.step (State.seamWrites_keeps ..) rfl ?_
    exact Keeps.refl _
  ·
    rename_i y8 y9
    split
    ·
      rename_i y10 y11 y12
      refine Keeps.step (State.seamWrites_keeps ..) rfl ?_
      exact Keeps.refl _
    ·
      rename_i y13 y14
      dsimp -zeta only
      exact Keeps.refl _
  ·
    rename_i y15 y16 y17 y18
    lift_lets -underBinder
    extract_lets -descend x19
    clear_value x19
    refine Keeps.step (State.seamWrites_keeps ..) rfl ?_
    exact Keeps.refl _

theorem State.seamAdvance_keeps : ∀ s d id a3, Keeps 29059321 s (State.seamAdvance s d id a3) := by
  intro s d id a3
  induction a3 generalizing s d id with
  | zero =>
    unfold State.seamAdvance
    exact Keeps.refl _
  | succ n0 ih =>
    unfold State.seamAdvance
    split
    ·
      rename_i y0 y1
      exact Keeps.refl _
    ·
      rename_i y2 y3 y4
      lift_lets -underBinder
      extract_lets -descend x5
      clear_value x5
      split
      ·
        rename_i y6 y7
        exact Keeps.refl _
      ·
        rename_i y8 y9 y10
        split
        ·
          rename_i y11 y12 y13
          refine Keeps.step (State.endSeam_keeps ..) rfl ?_
          exact Keeps.refl _
        ·
          rename_i y14 y15
          split
          ·
            rename_i y16 y17
            refine Keeps.step (State.endSeam_keeps ..) rfl ?_
            exact Keeps.refl _
          ·
            rename_i y18 y19 y20 y21
            refine Keeps.ite ?_ ?_
            ·
              split
              ·
                rename_i y22 y23 y24 y25
                have e26 : Keeps 29059321 s (y24) := by
                  refine Keeps.trd_eq y25 ?_
                  refine Keeps.step (State.seamFinish_keeps ..) rfl ?_
                  exact Keeps.refl _
                refine Keeps.step (State.endSeam_keeps ..) rfl ?_
                exact e26
              ·
                rename_i y27 y28 y29 y30 y31 y32
                have e33 : Keeps 29059321 s (y30) := by
                  refine Keeps.trd_eq y32 ?_
                  refine Keeps.step (State.seamFinish_keeps ..) rfl ?_
                  exact Keeps.refl _
                refine Keeps.step (State.endSeam_keeps ..) rfl ?_
                refine Keeps.step (State.engFail_keeps ..) rfl ?_
                exact e33
            ·
              refine Keeps.ite ?_ ?_
              ·
                split
                ·
                  rename_i y34 y35 y36 y37
                  have e38 : Keeps 29059321 s (y36) := by
                    refine Keeps.trd_eq y37 ?_
                    refine Keeps.step (State.seamDieStage_keeps ..) rfl ?_
                    exact Keeps.refl _
                  split
                  ·
                    rename_i y39 y40 y41
                    refine Keeps.step (ih ..) rfl ?_
                    refine Keeps.step (State.putSeam_keeps ..) rfl ?_
                    exact e38
                  ·
                    rename_i y42 y43
                    exact e38
                ·
                  rename_i y44 y45 y46 y47 y48 y49
                  have e50 : Keeps 29059321 s (y47) := by
                    refine Keeps.trd_eq y49 ?_
                    refine Keeps.step (State.seamDieStage_keeps ..) rfl ?_
                    exact Keeps.refl _
                  refine Keeps.step (State.endSeam_keeps ..) rfl ?_
                  refine Keeps.step (State.engFail_keeps ..) rfl ?_
                  exact e50
              ·
                lift_lets -underBinder
                extract_lets -descend x51 x52 x53 x54
                clear_value x51
                have hx52 : Keeps 29059321 s x52 := by
                  unfold x52
                  refine Keeps.step (State.putSeam_keeps ..) rfl ?_
                  exact Keeps.refl _
                clear_value x52
                have hx53 : Keeps 29059321 s x53 := by
                  unfold x53
                  refine Keeps.step (State.seamGrant_keeps ..) rfl ?_
                  exact hx52
                clear_value x53
                have hx54 : Keeps 29059321 s x54 := by
                  unfold x54
                  refine Keeps.step (State.seamSend_keeps ..) rfl ?_
                  exact hx53
                clear_value x54
                split
                ·
                  rename_i y55 y56
                  exact hx54
                ·
                  rename_i y57 y58 y59
                  refine Keeps.ite ?_ ?_
                  ·
                    exact hx54
                  ·
                    refine Keeps.ite ?_ ?_
                    ·
                      refine Keeps.step (ih ..) rfl ?_
                      exact hx54
                    ·
                      refine Keeps.step (ih ..) rfl ?_
                      refine Keeps.step (State.seamClose_keeps ..) rfl ?_
                      exact hx54

theorem State.seamRun_keeps : ∀ s d id, Keeps 29059321 s (State.seamRun s d id) := by
  intro s d id
  unfold State.seamRun
  refine Keeps.step (State.seamAdvance_keeps ..) rfl ?_
  exact Keeps.refl _

theorem State.seamStart_keeps : ∀ s d it, Keeps 29059321 s (State.seamStart s d it).2 := by
  intro s d it
  unfold State.seamStart
  lift_lets -underBinder
  extract_lets -descend x0
  clear_value x0
  split
  ·
    rename_i y1
    dsimp -zeta only
    refine Keeps.step (State.dropSeam_keeps ..) rfl ?_
    exact Keeps.refl _
  ·
    rename_i y2
    split
    ·
      rename_i y3 y4
      split
      ·
        rename_i y5
        dsimp -zeta only
        refine Keeps.step (State.dropSeam_keeps ..) rfl ?_
        exact Keeps.refl _
      ·
        rename_i y6
        split
        ·
          rename_i y7
          dsimp -zeta only
          refine Keeps.step (State.dropSeam_keeps ..) rfl ?_
          exact Keeps.refl _
        ·
          rename_i y8
          split
          ·
            rename_i y9 y10
            lift_lets -underBinder
            extract_lets -descend x11 x12 x13
            clear_value x11
            clear_value x12
            clear_value x13
            split
            ·
              rename_i y14 y15
              dsimp -zeta only
              refine Keeps.step (State.dropSeam_keeps ..) rfl ?_
              exact Keeps.refl _
            ·
              rename_i y16 y17 y18
              split
              ·
                rename_i y19
                dsimp -zeta only
                refine Keeps.step (State.dropSeam_keeps ..) rfl ?_
                exact Keeps.refl _
              ·
                rename_i y20
                lift_lets -underBinder
                extract_lets -descend x21 x22 x23 x24 x25
                clear_value x21
                clear_value x22
                clear_value x23
                have hx24 : Keeps 29059321 s x24 := by
                  unfold x24
                  refine Keeps.step (State.putSeam_keeps ..) rfl ?_
                  refine Keeps.step (State.add64_keeps ..) rfl ?_
                  exact Keeps.refl _
                clear_value x24
                clear_value x25
                split
                ·
                  rename_i y26
                  dsimp -zeta only
                  exact Keeps.refl _
                ·
                  rename_i y27
                  split
                  ·
                    rename_i y28 y29 y30 y31
                    dsimp -zeta only
                    refine Keeps.step (State.endSeam_keeps ..) rfl ?_
                    exact hx24
                  ·
                    rename_i y32 y33 y34
                    split
                    ·
                      rename_i y35 y36 y37 y38
                      have e39 : Keeps 29059321 s (y37) := by
                        refine Keeps.trd_eq y38 ?_
                        refine Keeps.step (State.seamInit_keeps ..) rfl ?_
                        exact hx24
                      dsimp -zeta only
                      refine Keeps.step (State.seamRun_keeps ..) rfl ?_
                      exact e39
                    ·
                      rename_i y40 y41 y42 y43 y44 y45
                      have e46 : Keeps 29059321 s (y43) := by
                        refine Keeps.trd_eq y45 ?_
                        refine Keeps.step (State.seamInit_keeps ..) rfl ?_
                        exact hx24
                      dsimp -zeta only
                      refine Keeps.step (State.endSeam_keeps ..) rfl ?_
                      refine Keeps.step (State.engFail_keeps ..) rfl ?_
                      exact e46
                  ·
                    rename_i y47 y48 y49 y50 y51
                    dsimp -zeta only
                    refine Keeps.step (State.endSeam_keeps ..) rfl ?_
                    refine Keeps.step (State.engFail_keeps ..) rfl ?_
                    exact hx24
          ·
            rename_i y52 y53
            dsimp -zeta only
            refine Keeps.step (State.dropSeam_keeps ..) rfl ?_
            refine Keeps.step (State.engFail_keeps ..) rfl ?_
            exact Keeps.refl _
    ·
      rename_i y54 y55
      dsimp -zeta only
      refine Keeps.step (State.dropSeam_keeps ..) rfl ?_
      refine Keeps.step (State.engFail_keeps ..) rfl ?_
      exact Keeps.refl _

theorem State.seamStarts_keeps : ∀ s d a2, Keeps 29059321 s (State.seamStarts s d a2) := by
  intro s d a2
  induction a2 generalizing s d with
  | zero =>
    unfold State.seamStarts
    exact Keeps.refl _
  | succ n0 ih =>
    unfold State.seamStarts
    split
    ·
      rename_i y0 y1
      exact Keeps.refl _
    ·
      rename_i y2 y3 y4
      refine Keeps.ite ?_ ?_
      ·
        refine Keeps.step (ih ..) rfl ?_
        refine Keeps.step (State.dropDma_keeps ..) rfl ?_
        refine Keeps.step (State.setSeamQ_keeps ..) rfl ?_
        exact Keeps.refl _
      ·
        split
        ·
          rename_i y5 y6 y7
          have e8 : Keeps 29059321 s (y6) := by
            refine Keeps.snd_eq y7 ?_
            refine Keeps.step (State.seamStart_keeps ..) rfl ?_
            exact Keeps.refl _
          refine Keeps.step (ih ..) rfl ?_
          exact e8
        ·
          rename_i y9 y10 y11
          have e12 : Keeps 29059321 s (y10) := by
            refine Keeps.snd_eq y11 ?_
            refine Keeps.step (State.seamStart_keeps ..) rfl ?_
            exact Keeps.refl _
          exact e12

theorem State.seamNext_keeps : ∀ s d, Keeps 29059321 s (State.seamNext s d) := by
  intro s d
  unfold State.seamNext
  refine Keeps.step (State.seamStarts_keeps ..) rfl ?_
  exact Keeps.refl _

theorem State.seamData_keeps : ∀ s h data, Keeps 29059321 s (State.seamData s h data) := by
  intro s h data
  unfold State.seamData
  split
  ·
    rename_i y0 y1
    exact Keeps.refl _
  ·
    rename_i y2 y3 y4 y5
    split
    ·
      rename_i y6 y7
      exact Keeps.refl _
    ·
      rename_i y8 y9 y10
      split
      ·
        rename_i y11 y12
        exact Keeps.refl _
      ·
        rename_i y13 y14 y15 y16
        lift_lets -underBinder
        extract_lets -descend x17 x18 x19
        clear_value x17
        have hx18 : Keeps 29059321 s x18 := by
          unfold x18
          refine Keeps.step (State.add64_keeps ..) rfl ?_
          exact Keeps.refl _
        clear_value x18
        clear_value x19
        refine Keeps.ite ?_ ?_
        ·
          refine Keeps.step (State.seamNext_keeps ..) rfl ?_
          refine Keeps.step (State.seamRun_keeps ..) rfl ?_
          refine Keeps.step (State.putSeam_keeps ..) rfl ?_
          exact Keeps.refl _
        ·
          refine Keeps.ite ?_ ?_
          ·
            exact Keeps.refl _
          ·
            refine Keeps.step (State.seamNext_keeps ..) rfl ?_
            refine Keeps.step (State.seamRun_keeps ..) rfl ?_
            refine Keeps.step (State.putSeam_keeps ..) rfl ?_
            exact hx18

theorem State.seamNote_keeps : ∀ s h g abort, Keeps 29059321 s (State.seamNote s h g abort) := by
  intro s h g abort
  unfold State.seamNote
  lift_lets -underBinder
  extract_lets -descend x0 x1
  clear_value x0
  have hx1 : Keeps 29059321 s x1 := by
    unfold x1
    refine Keeps.set_seamNotes rfl ?_
    exact Keeps.refl _
  clear_value x1
  split
  ·
    rename_i y2 y3 y4 y5
    refine Keeps.step (State.seamNext_keeps ..) rfl ?_
    refine Keeps.step (State.seamRun_keeps ..) rfl ?_
    exact hx1
  ·
    rename_i y6 y7
    exact hx1

theorem State.seamAbort_keeps : ∀ s h g, Keeps 29059321 s (State.seamAbort s h g) := by
  intro s h g
  unfold State.seamAbort
  split
  ·
    rename_i y0 y1 y2 y3
    refine Keeps.ite ?_ ?_
    ·
      refine Keeps.step (State.inc_keeps ..) rfl ?_
      exact Keeps.refl _
    ·
      refine Keeps.step (State.seamNext_keeps ..) rfl ?_
      refine Keeps.step (State.seamRun_keeps ..) rfl ?_
      refine Keeps.step (State.putSeam_keeps ..) rfl ?_
      exact Keeps.refl _
  ·
    rename_i y4 y5
    refine Keeps.ite ?_ ?_
    ·
      refine Keeps.step (State.inc_keeps ..) rfl ?_
      exact Keeps.refl _
    ·
      refine Keeps.step (State.seamNote_keeps ..) rfl ?_
      exact Keeps.refl _

theorem State.seamGo_keeps : ∀ s d coll, Keeps 29059321 s (State.seamGo s d coll) := by
  intro s d coll
  unfold State.seamGo
  lift_lets -underBinder
  extract_lets -descend x0 x1
  have hx0 : Keeps 29059321 s x0 := by
    unfold x0
    refine Keeps.step (State.seamNext_keeps ..) rfl ?_
    exact Keeps.refl _
  clear_value x0
  clear_value x1
  refine Keeps.step (State.seamNext_keeps ..) rfl ?_
  refine Keeps.fold ?_ ?_
  ·
    exact hx0
  ·
    intro z2 q3 h4
    refine Keeps.ite ?_ ?_
    ·
      refine Keeps.step (State.dropDma_keeps ..) rfl ?_
      refine Keeps.step (State.setSeamQ_keeps ..) rfl ?_
      exact h4
    ·
      refine Keeps.step (State.seamRun_keeps ..) rfl ?_
      exact h4

theorem State.writeGroup_keeps : ∀ s i g v, Keeps 8421377 s (State.writeGroup s i g v) := by
  intro s i g v
  unfold State.writeGroup
  lift_lets -underBinder
  extract_lets -descend x0 x1 x2 x3 x4 x5 x6 x7
  clear_value x0
  clear_value x1
  have hx2 : Keeps 8421377 s x2 := by
    unfold x2
    refine Keeps.ite ?_ ?_
    ·
      exact Keeps.refl _
    ·
      refine Keeps.step (State.setFld_keeps ..) rfl ?_
      exact Keeps.refl _
  clear_value x2
  have hx3 : Keeps 8421377 s x3 := by
    unfold x3
    refine Keeps.step (State.setRegBit_keeps ..) rfl ?_
    exact hx2
  clear_value x3
  clear_value x4
  clear_value x5
  clear_value x6
  have hx7 : Keeps 8421377 s x7 := by
    unfold x7
    refine Keeps.set_seamGroups rfl ?_
    exact hx2
  clear_value x7
  refine Keeps.ite ?_ ?_
  ·
    refine Keeps.set_seamGroups rfl ?_
    exact hx3
  ·
    refine Keeps.ite ?_ ?_
    ·
      exact hx2
    ·
      refine Keeps.ite ?_ ?_
      ·
        refine Keeps.step (State.setRegBit_keeps ..) rfl ?_
        refine Keeps.step (State.setRegBit_keeps ..) rfl ?_
        exact hx7
      ·
        refine Keeps.step (State.setRegBit_keeps ..) rfl ?_
        refine Keeps.step (State.readFailed_keeps ..) rfl ?_
        exact hx2

theorem State.resetSeam_keeps : ∀ s i, Keeps 57345 s (State.resetSeam s i) := by
  intro s i
  unfold State.resetSeam
  lift_lets -underBinder
  extract_lets -descend x0 x1
  have hx0 : Keeps 57345 s x0 := by
    unfold x0
    refine Keeps.fold ?_ ?_
    ·
      exact Keeps.refl _
    ·
      intro z2 q3 h4
      refine Keeps.step (State.setSeamQ_keeps ..) rfl ?_
      exact h4
  clear_value x0
  have hx1 : Keeps 57345 s x1 := by
    unfold x1
    refine Keeps.fold ?_ ?_
    ·
      exact hx0
    ·
      intro z5 q6 h7
      refine Keeps.step (State.setReg_keeps ..) rfl ?_
      refine Keeps.step (State.setRegBit_keeps ..) rfl ?_
      exact h7
  clear_value x1
  refine Keeps.many (t := x1) ?_ (.inr rfl) (.inr rfl) (.inr rfl) (.inr rfl) (.inr rfl) (.inr rfl) (.inr rfl) (.inr rfl) (.inr rfl) (.inr rfl) (.inr rfl) (.inr rfl) (.inr rfl) (.inr rfl) (.inl rfl) (.inl rfl) (.inr rfl) (.inr rfl) (.inr rfl) (.inr rfl) (.inr rfl) (.inr rfl) (.inr rfl) (.inr rfl) (.inr rfl) rfl id id
  exact hx1

theorem execSeamItem_keeps : ∀ d s, KeepsOut 29059321 s (execSeamItem d s) := by
  intro d s
  unfold execSeamItem
  split
  ·
    rename_i y0
    refine KeepsOut.next ?_
    exact Keeps.refl _
  ·
    rename_i y1
    split
    ·
      rename_i y2 y3
      refine KeepsOut.next ?_
      exact Keeps.refl _
    ·
      rename_i y4 y5 y6 y7
      lift_lets -underBinder
      extract_lets -descend x8
      clear_value x8
      refine KeepsOut.next ?_
      refine Keeps.step (State.seamNext_keeps ..) rfl ?_
      refine Keeps.step (State.setSeamQ_keeps ..) rfl ?_
      refine Keeps.step (State.handItem_keeps ..) rfl ?_
      exact Keeps.refl _

theorem execAllReduce_keeps : ∀ d s, KeepsOut 29059321 s (execAllReduce d s) := by
  intro d s
  unfold execAllReduce
  refine KeepsOut.next ?_
  refine Keeps.step (State.seamGo_keeps ..) rfl ?_
  exact Keeps.refl _

theorem execReduceScatter_keeps : ∀ d s, KeepsOut 29059321 s (execReduceScatter d s) := by
  intro d s
  unfold execReduceScatter
  refine KeepsOut.next ?_
  refine Keeps.step (State.seamGo_keeps ..) rfl ?_
  exact Keeps.refl _

theorem execAllGather_keeps : ∀ d s, KeepsOut 29059321 s (execAllGather d s) := by
  intro d s
  unfold execAllGather
  refine KeepsOut.next ?_
  refine Keeps.step (State.seamGo_keeps ..) rfl ?_
  exact Keeps.refl _

theorem execBroadcast_keeps : ∀ d s, KeepsOut 29059321 s (execBroadcast d s) := by
  intro d s
  unfold execBroadcast
  refine KeepsOut.next ?_
  refine Keeps.step (State.seamGo_keeps ..) rfl ?_
  exact Keeps.refl _

theorem execAllToAll_keeps : ∀ d s, KeepsOut 29059321 s (execAllToAll d s) := by
  intro d s
  unfold execAllToAll
  refine KeepsOut.next ?_
  refine Keeps.step (State.seamGo_keeps ..) rfl ?_
  exact Keeps.refl _

theorem execPermute_keeps : ∀ d s, KeepsOut 29059321 s (execPermute d s) := by
  intro d s
  unfold execPermute
  refine KeepsOut.next ?_
  refine Keeps.step (State.seamGo_keeps ..) rfl ?_
  exact Keeps.refl _

theorem execDataMsg_keeps : ∀ k s, KeepsOut 29321465 s (execDataMsg k s) := by
  intro k s
  unfold execDataMsg
  refine KeepsOut.next ?_
  unfold State.withSeam
  unfold State.withMsg
  split
  ·
    rename_i y0 y1
    exact Keeps.refl _
  ·
    rename_i y2 y3 y4 y5 y6
    refine Keeps.ite ?_ ?_
    ·
      exact Keeps.refl _
    ·
      lift_lets -underBinder
      extract_lets -descend x7 x8 x9
      have hx7 : Keeps 29321465 s x7 := by
        unfold x7
        refine Keeps.set_ingress rfl ?_
        exact Keeps.refl _
      clear_value x7
      clear_value x8
      have hx9 : Keeps 29321465 s x9 := by
        unfold x9
        refine Keeps.ite ?_ ?_
        ·
          exact hx7
        ·
          dsimp -zeta only
          lift_lets -underBinder
          extract_lets -descend x10
          clear_value x10
          refine Keeps.ite ?_ ?_
          ·
            exact hx7
          ·
            refine Keeps.ite ?_ ?_
            ·
              refine Keeps.step (State.seamData_keeps ..) rfl ?_
              exact hx7
            ·
              exact hx7
      clear_value x9
      refine Keeps.fold ?_ ?_
      ·
        exact hx9
      ·
        intro z11 q12 h13
        refine Keeps.step (State.answerRx_keeps ..) rfl ?_
        exact h13

theorem execGrantMsg_keeps : ∀ k s, KeepsOut 29321465 s (execGrantMsg k s) := by
  intro k s
  unfold execGrantMsg
  refine KeepsOut.next ?_
  unfold State.withSeam
  unfold State.withMsg
  split
  ·
    rename_i y0 y1
    exact Keeps.refl _
  ·
    rename_i y2 y3 y4 y5 y6
    refine Keeps.ite ?_ ?_
    ·
      exact Keeps.refl _
    ·
      lift_lets -underBinder
      extract_lets -descend x7 x8 x9
      have hx7 : Keeps 29321465 s x7 := by
        unfold x7
        refine Keeps.set_ingress rfl ?_
        exact Keeps.refl _
      clear_value x7
      clear_value x8
      have hx9 : Keeps 29321465 s x9 := by
        unfold x9
        refine Keeps.ite ?_ ?_
        ·
          exact hx7
        ·
          dsimp -zeta only
          lift_lets -underBinder
          extract_lets -descend x10
          clear_value x10
          refine Keeps.ite ?_ ?_
          ·
            exact hx7
          ·
            split
            ·
              rename_i y11 y12 y13
              refine Keeps.step (State.seamNote_keeps ..) rfl ?_
              exact hx7
            ·
              rename_i y14 y15
              exact hx7
      clear_value x9
      refine Keeps.fold ?_ ?_
      ·
        exact hx9
      ·
        intro z16 q17 h18
        refine Keeps.step (State.answerRx_keeps ..) rfl ?_
        exact h18

theorem execAbortMsg_keeps : ∀ k s, KeepsOut 29321465 s (execAbortMsg k s) := by
  intro k s
  unfold execAbortMsg
  refine KeepsOut.next ?_
  unfold State.withSeam
  unfold State.withMsg
  split
  ·
    rename_i y0 y1
    exact Keeps.refl _
  ·
    rename_i y2 y3 y4 y5 y6
    refine Keeps.ite ?_ ?_
    ·
      exact Keeps.refl _
    ·
      lift_lets -underBinder
      extract_lets -descend x7 x8 x9
      have hx7 : Keeps 29321465 s x7 := by
        unfold x7
        refine Keeps.set_ingress rfl ?_
        exact Keeps.refl _
      clear_value x7
      clear_value x8
      have hx9 : Keeps 29321465 s x9 := by
        unfold x9
        refine Keeps.ite ?_ ?_
        ·
          exact hx7
        ·
          dsimp -zeta only
          lift_lets -underBinder
          extract_lets -descend x10
          clear_value x10
          refine Keeps.ite ?_ ?_
          ·
            exact hx7
          ·
            split
            ·
              rename_i y11 y12 y13
              refine Keeps.step (State.seamAbort_keeps ..) rfl ?_
              exact hx7
            ·
              rename_i y14 y15
              exact hx7
      clear_value x9
      refine Keeps.fold ?_ ?_
      ·
        exact hx9
      ·
        intro z16 q17 h18
        refine Keeps.step (State.answerRx_keeps ..) rfl ?_
        exact h18

theorem execSeamPeerTimeout_keeps : ∀ d k s, KeepsOut 29059321 s (execSeamPeerTimeout d k s) := by
  intro d k s
  unfold execSeamPeerTimeout
  split
  ·
    rename_i y0 y1
    refine KeepsOut.next ?_
    exact Keeps.refl _
  ·
    rename_i y2 y3 y4
    split
    ·
      rename_i y5 y6 y7 y8 y9
      split
      ·
        rename_i y10 y11
        refine KeepsOut.next ?_
        exact Keeps.refl _
      ·
        rename_i y12 y13 y14 y15
        lift_lets -underBinder
        extract_lets -descend x16 x17
        clear_value x16
        clear_value x17
        split
        ·
          rename_i y18
          refine KeepsOut.next ?_
          exact Keeps.refl _
        ·
          rename_i y19 y20 y21
          lift_lets -underBinder
          extract_lets -descend x22 x23 x24
          clear_value x22
          clear_value x23
          have hx24 : Keeps 29059321 s x24 := by
            unfold x24
            refine Keeps.step (State.log_keeps ..) rfl ?_
            exact Keeps.refl _
          clear_value x24
          refine KeepsOut.next ?_
          refine Keeps.step (State.seamNext_keeps ..) rfl ?_
          refine Keeps.step (State.seamRun_keeps ..) rfl ?_
          refine Keeps.step (State.putSeam_keeps ..) rfl ?_
          exact hx24
    ·
      rename_i y25 y26 y27
      refine KeepsOut.next ?_
      exact Keeps.refl _

theorem execGroupEnable_keeps : ∀ req i g val s, KeepsOut 8421377 s (execGroupEnable req i g val s) := by
  intro req i g val s
  unfold execGroupEnable
  lift_lets -underBinder
  extract_lets -descend x0
  clear_value x0
  split
  ·
    rename_i y1
    refine KeepsOut.next ?_
    refine Keeps.step (State.writeGroup_keeps ..) rfl ?_
    exact Keeps.refl _
  ·
    rename_i y2
    refine KeepsOut.next ?_
    refine Keeps.step (State.regRefused_keeps ..) rfl ?_
    exact Keeps.refl _

end Sys2Proof.Machine
end

