-- ==== Sys2Proof/Laws/KeepsQueue.lean ====
section
/-! SUPPORT. What each operation and each command of Machine/Queue.lean touches, one lemma each: the bits of its mask are the
parts of the state that it may change; the queue and the canonical form of the memories it keeps. -/
namespace Sys2Proof.Machine

theorem State.disableQueue_keeps : ∀ s q code, Keeps 1 s (State.disableQueue s q code) := by
  intro s q code
  unfold State.disableQueue
  refine Keeps.step (State.setQfld_keeps ..) rfl ?_
  refine Keeps.step (State.setQfld_keeps ..) rfl ?_
  exact Keeps.refl _

theorem State.writeQTail_keeps : ∀ s q v, Keeps 1 s (State.writeQTail s q v) := by
  intro s q v
  unfold State.writeQTail
  refine Keeps.ite ?_ ?_
  ·
    refine Keeps.step (State.disableQueue_keeps ..) rfl ?_
    exact Keeps.refl _
  ·
    refine Keeps.step (State.setQfld_keeps ..) rfl ?_
    exact Keeps.refl _

theorem State.openWork_keeps : ∀ s q idx d inst, Keeps 2097153 s (State.openWork s q idx d inst).2 := by
  intro s q idx d inst
  unfold State.openWork
  lift_lets -underBinder
  extract_lets -descend x0 x1 x2 x3
  clear_value x0
  clear_value x1
  have hx2 : Keeps 2097153 s x2 := by
    unfold x2
    refine Keeps.set_host rfl ?_
    exact Keeps.refl _
  clear_value x2
  have hx3 : Keeps 2097153 s x3 := by
    unfold x3
    refine Keeps.step (State.setQfld_keeps ..) rfl ?_
    exact hx2
  clear_value x3
  dsimp -zeta only
  refine Keeps.step (State.showRunning_keeps ..) rfl ?_
  exact hx3

theorem execCoreWork_keeps : ∀ q s, KeepsOut 10485913 s (execCoreWork q s) := by
  intro q s
  unfold execCoreWork
  split
  ·
    rename_i y0 y1
    refine KeepsOut.next ?_
    exact Keeps.refl _
  ·
    rename_i y2 y3 y4 y5
    split
    ·
      rename_i y6
      refine KeepsOut.next ?_
      exact Keeps.refl _
    ·
      rename_i y7
      lift_lets -underBinder
      extract_lets -descend x8 x9 x10
      clear_value x8
      clear_value x9
      clear_value x10
      split
      ·
        rename_i y11
        split
        ·
          rename_i y12 y13 y14 y15
          have e16 : Keeps 10485913 s (y14) := by
            refine Keeps.snd_eq y15 ?_
            refine Keeps.step (State.openWork_keeps ..) rfl ?_
            exact Keeps.refl _
          refine KeepsOut.next ?_
          refine Keeps.step (State.completeWork_keeps ..) rfl ?_
          exact e16
      ·
        rename_i y17
        split
        ·
          rename_i y18 y19 y20 y21
          have e22 : Keeps 10485913 s (y20) := by
            refine Keeps.snd_eq y21 ?_
            refine Keeps.step (State.openWork_keeps ..) rfl ?_
            exact Keeps.refl _
          split
          ·
            rename_i y23
            refine KeepsOut.next ?_
            refine Keeps.step (State.completeWork_keeps ..) rfl ?_
            exact e22
          ·
            rename_i y24
            lift_lets -underBinder
            extract_lets -descend x25
            clear_value x25
            split
            ·
              rename_i y26 y27
              refine KeepsOut.next ?_
              refine Keeps.step (State.completeWork_keeps ..) rfl ?_
              refine Keeps.step (State.log_keeps ..) rfl ?_
              exact e22
            ·
              rename_i y28
              lift_lets -underBinder
              extract_lets -descend x29 x30
              clear_value x29
              clear_value x30
              split
              ·
                rename_i y31 y32
                split
                ·
                  rename_i y33
                  refine KeepsOut.next ?_
                  refine Keeps.step (State.completeWork_keeps ..) rfl ?_
                  exact e22
                ·
                  rename_i y34
                  refine KeepsOut.next ?_
                  exact e22
              ·
                rename_i y35 y36
                refine KeepsOut.next ?_
                refine Keeps.step (State.completeWork_keeps ..) rfl ?_
                refine Keeps.step (State.readFailed_keeps ..) rfl ?_
                exact e22

theorem execEngineRecord_keeps : ∀ q s, KeepsOut 10485945 s (execEngineRecord q s) := by
  intro q s
  unfold execEngineRecord
  split
  ·
    rename_i y0 y1
    refine KeepsOut.next ?_
    exact Keeps.refl _
  ·
    rename_i y2 y3 y4 y5
    split
    ·
      rename_i y6
      refine KeepsOut.next ?_
      exact Keeps.refl _
    ·
      rename_i y7
      lift_lets -underBinder
      extract_lets -descend x8 x9
      clear_value x8
      clear_value x9
      split
      ·
        rename_i y10 y11 y12 y13
        have e14 : Keeps 10485945 s (y12) := by
          refine Keeps.snd_eq y13 ?_
          refine Keeps.step (State.openWork_keeps ..) rfl ?_
          exact Keeps.refl _
        lift_lets -underBinder
        extract_lets -descend x15 x16 x17 x18 x19 x20 x21 x22
        clear_value x15
        clear_value x16
        clear_value x17
        clear_value x18
        clear_value x19
        clear_value x20
        clear_value x21
        clear_value x22
        split
        ·
          rename_i y23
          refine KeepsOut.next ?_
          refine Keeps.step (State.completeWork_keeps ..) rfl ?_
          refine Keeps.ite ?_ ?_
          ·
            exact e14
          ·
            refine Keeps.step (State.readFailed_keeps ..) rfl ?_
            exact e14
        ·
          rename_i y24
          split
          ·
            rename_i y25
            refine KeepsOut.next ?_
            refine Keeps.step (State.completeWork_keeps ..) rfl ?_
            exact e14
          ·
            rename_i y26
            refine KeepsOut.next ?_
            refine Keeps.step (State.setDmaList_keeps ..) rfl ?_
            exact e14

theorem execBarrier_keeps : ∀ q s, KeepsOut 2097305 s (execBarrier q s) := by
  intro q s
  unfold execBarrier
  split
  ·
    rename_i y0 y1 y2
    split
    ·
      rename_i y3
      refine KeepsOut.next ?_
      refine Keeps.step (State.completeWork_keeps ..) rfl ?_
      exact Keeps.refl _
    ·
      rename_i y4
      split
      ·
        rename_i y5 y6
        refine KeepsOut.next ?_
        exact Keeps.refl _
      ·
        rename_i y7 y8 y9 y10
        lift_lets -underBinder
        extract_lets -descend x11
        clear_value x11
        split
        ·
          rename_i y12 y13 y14 y15
          have e16 : Keeps 2097305 s (y14) := by
            refine Keeps.snd_eq y15 ?_
            refine Keeps.step (State.openWork_keeps ..) rfl ?_
            exact Keeps.refl _
          refine KeepsOut.next ?_
          refine Keeps.ite ?_ ?_
          ·
            refine Keeps.step (State.completeWork_keeps ..) rfl ?_
            exact e16
          ·
            exact e16
  ·
    rename_i y17 y18
    split
    ·
      rename_i y19 y20
      refine KeepsOut.next ?_
      exact Keeps.refl _
    ·
      rename_i y21 y22 y23 y24
      lift_lets -underBinder
      extract_lets -descend x25
      clear_value x25
      split
      ·
        rename_i y26 y27 y28 y29
        have e30 : Keeps 2097305 s (y28) := by
          refine Keeps.snd_eq y29 ?_
          refine Keeps.step (State.openWork_keeps ..) rfl ?_
          exact Keeps.refl _
        refine KeepsOut.next ?_
        refine Keeps.step (State.completeWork_keeps ..) rfl ?_
        exact e30

theorem execHstQTail_keeps : ∀ req q tail s, KeepsOut 8388609 s (execHstQTail req q tail s) := by
  intro req q tail s
  unfold execHstQTail
  lift_lets -underBinder
  extract_lets -descend x0
  clear_value x0
  split
  ·
    rename_i y1
    refine KeepsOut.next ?_
    refine Keeps.step (State.writeQTail_keeps ..) rfl ?_
    exact Keeps.refl _
  ·
    rename_i y2
    refine KeepsOut.next ?_
    refine Keeps.step (State.regRefused_keeps ..) rfl ?_
    exact Keeps.refl _

end Sys2Proof.Machine
end

