-- ==== Sys2Proof/Laws/KeepsTransport.lean ====
section
/-! SUPPORT. What each operation and each command of Machine/Transport.lean touches, one lemma each: the bits of its mask are the
parts of the state that it may change; the queue and the canonical form of the memories it keeps. -/
namespace Sys2Proof.Machine

theorem State.linkChange_keeps : ∀ s n up, Keeps 8388609 s (State.linkChange s n up) := by
  intro s n up
  unfold State.linkChange
  lift_lets -underBinder
  extract_lets -descend x0
  have hx0 : Keeps 8388609 s x0 := by
    unfold x0
    refine Keeps.fold ?_ ?_
    ·
      refine Keeps.step (State.setLink_keeps ..) rfl ?_
      exact Keeps.refl _
    ·
      intro z1 q2 h3
      refine Keeps.step (State.setRegBit_keeps ..) rfl ?_
      exact h3
  clear_value x0
  refine Keeps.step (State.log_keeps ..) rfl ?_
  exact hx0

theorem State.acceptPkt_keeps : ∀ s n k p ce, Keeps 327681 s (State.acceptPkt s n k p ce) := by
  intro s n k p ce
  unfold State.acceptPkt
  lift_lets -underBinder
  extract_lets -descend x0 x1 x2 x3 x4
  clear_value x0
  clear_value x1
  clear_value x2
  have hx3 : Keeps 327681 s x3 := by
    unfold x3
    refine Keeps.step (State.setSess_keeps ..) rfl ?_
    exact Keeps.refl _
  clear_value x3
  clear_value x4
  refine Keeps.ite ?_ ?_
  ·
    refine Keeps.step (State.inc_keeps ..) rfl ?_
    exact Keeps.refl _
  ·
    refine Keeps.ite ?_ ?_
    ·
      refine Keeps.step (State.inc_keeps ..) rfl ?_
      exact Keeps.refl _
    ·
      refine Keeps.ite ?_ ?_
      ·
        refine Keeps.set_ingress rfl ?_
        exact hx3
      ·
        refine Keeps.ite ?_ ?_
        ·
          exact hx3
        ·
          refine Keeps.ite ?_ ?_
          ·
            refine Keeps.step (State.sendAck_keeps ..) rfl ?_
            refine Keeps.step (State.inc_keeps ..) rfl ?_
            exact hx3
          ·
            refine Keeps.ite ?_ ?_
            ·
              refine Keeps.step (State.answerRx_keeps ..) rfl ?_
              exact hx3
            ·
              refine Keeps.set_ingress rfl ?_
              exact hx3

theorem State.receivePkt_keeps : ∀ s f p, Keeps 327681 s (State.receivePkt s f p) := by
  intro s f p
  unfold State.receivePkt
  lift_lets -underBinder
  extract_lets -descend x0 x1 x2
  clear_value x0
  have hx1 : Keeps 327681 s x1 := by
    unfold x1
    refine Keeps.step (State.add64_keeps ..) rfl ?_
    exact Keeps.refl _
  clear_value x1
  have hx2 : Keeps 327681 s x2 := by
    unfold x2
    refine Keeps.ite ?_ ?_
    ·
      refine Keeps.step (State.inc_keeps ..) rfl ?_
      exact hx1
    ·
      exact hx1
  clear_value x2
  refine Keeps.ite ?_ ?_
  ·
    refine Keeps.step (State.stranger_keeps ..) rfl ?_
    exact hx2
  ·
    split
    ·
      rename_i y3
      lift_lets -underBinder
      extract_lets -descend x4
      clear_value x4
      refine Keeps.ite ?_ ?_
      ·
        refine Keeps.step (State.inc_keeps ..) rfl ?_
        exact hx2
      ·
        refine Keeps.step (State.acceptPkt_keeps ..) rfl ?_
        exact hx2
    ·
      rename_i y5
      refine Keeps.step (State.stranger_keeps ..) rfl ?_
      exact hx2

theorem State.rxReduce_keeps : ∀ s rx op, Keeps 8454281 s (State.rxReduce s rx op) := by
  intro s rx op
  unfold State.rxReduce
  lift_lets -underBinder
  extract_lets -descend x0 x1 x2
  clear_value x0
  clear_value x1
  clear_value x2
  refine Keeps.ite ?_ ?_
  ·
    refine Keeps.step (State.answerRx_keeps ..) rfl ?_
    refine Keeps.step (State.reduceAt_keeps ..) rfl ?_
    exact Keeps.refl _
  ·
    refine Keeps.step (State.answerRx_keeps ..) rfl ?_
    refine Keeps.step (State.reqRefused_keeps ..) rfl ?_
    exact Keeps.refl _

theorem State.readReply_keeps : ∀ s k req data, Keeps 65536 s (State.readReply s k req data) := by
  intro s k req data
  unfold State.readReply
  lift_lets -underBinder
  extract_lets -descend x0 x1 x2 x3
  clear_value x0
  clear_value x1
  clear_value x2
  clear_value x3
  refine Keeps.step (State.setSess_keeps ..) rfl ?_
  exact Keeps.refl _

theorem execFrameReceive_keeps : ∀ f s, KeepsOut 8716289 s (execFrameReceive f s) := by
  intro f s
  unfold execFrameReceive
  lift_lets -underBinder
  extract_lets -descend x0 x1 x2
  clear_value x0
  have hx1 : Keeps 8716289 s x1 := by
    unfold x1
    refine Keeps.step (State.add64_keeps ..) rfl ?_
    exact Keeps.refl _
  clear_value x1
  have hx2 : Keeps 8716289 s x2 := by
    unfold x2
    refine Keeps.ite ?_ ?_
    ·
      exact hx1
    ·
      refine Keeps.step (State.alarmEvent_keeps ..) rfl ?_
      refine Keeps.step (State.add64_keeps ..) rfl ?_
      exact hx1
  clear_value x2
  split
  ·
    rename_i y3
    refine KeepsOut.next ?_
    exact Keeps.refl _
  ·
    rename_i y4
    split
    ·
      rename_i y5
      refine KeepsOut.next ?_
      refine Keeps.step (State.inc_keeps ..) rfl ?_
      exact hx2
    ·
      rename_i y6
      split
      ·
        rename_i y7
        refine KeepsOut.next ?_
        refine Keeps.step (State.stranger_keeps ..) rfl ?_
        exact hx2
      ·
        rename_i y8
        split
        ·
          rename_i y9 y10 y11
          refine KeepsOut.next ?_
          refine Keeps.ite ?_ ?_
          ·
            refine Keeps.step (State.receivePkt_keeps ..) rfl ?_
            exact hx2
          ·
            refine Keeps.step (State.stranger_keeps ..) rfl ?_
            exact hx2
        ·
          rename_i y12 y13 y14
          refine KeepsOut.next ?_
          refine Keeps.ite ?_ ?_
          ·
            exact hx2
          ·
            refine Keeps.step (State.stranger_keeps ..) rfl ?_
            exact hx2
        ·
          rename_i y15 y16
          refine KeepsOut.next ?_
          refine Keeps.step (State.stranger_keeps ..) rfl ?_
          exact hx2

theorem execWriteMsg_keeps : ∀ k s, KeepsOut 8716425 s (execWriteMsg k s) := by
  intro k s
  unfold execWriteMsg
  refine KeepsOut.next ?_
  unfold State.withRx
  split
  ·
    rename_i y0 y1 y2 y3
    have e4 : Keeps 8716425 s ((y1, y2)).2 := by
      refine KeepsOpt.eq (π := (fun z : _ × State => z.2)) y3 ?_
      refine KeepsOpt.step (State.takeRx_keeps ..) rfl ?_
      exact Keeps.refl _
    dsimp -zeta only
    lift_lets -underBinder
    extract_lets -descend x5 x6
    clear_value x5
    clear_value x6
    refine Keeps.ite ?_ ?_
    ·
      refine Keeps.step (State.answerRx_keeps ..) rfl ?_
      refine Keeps.step (State.putBytes_keeps ..) rfl ?_
      exact e4
    ·
      refine Keeps.step (State.answerRx_keeps ..) rfl ?_
      refine Keeps.step (State.reqRefused_keeps ..) rfl ?_
      exact e4
  ·
    rename_i y7 y8
    exact Keeps.refl _

theorem execReadMsg_keeps : ∀ k s, KeepsOut 8716289 s (execReadMsg k s) := by
  intro k s
  unfold execReadMsg
  lift_lets -underBinder
  extract_lets -descend x0
  clear_value x0
  split
  ·
    rename_i y1
    refine KeepsOut.next ?_
    exact Keeps.refl _
  ·
    rename_i y2
    refine KeepsOut.next ?_
    unfold State.withRx
    split
    ·
      rename_i y3 y4 y5 y6
      have e7 : Keeps 8716289 s ((y4, y5)).2 := by
        refine KeepsOpt.eq (π := (fun z : _ × State => z.2)) y6 ?_
        refine KeepsOpt.step (State.takeRx_keeps ..) rfl ?_
        exact Keeps.refl _
      dsimp -zeta only
      lift_lets -underBinder
      extract_lets -descend x8 x9 x10
      clear_value x8
      clear_value x9
      clear_value x10
      refine Keeps.ite ?_ ?_
      ·
        refine Keeps.step (State.answerRx_keeps ..) rfl ?_
        refine Keeps.step (State.readReply_keeps ..) rfl ?_
        exact e7
      ·
        refine Keeps.step (State.answerRx_keeps ..) rfl ?_
        refine Keeps.step (State.readFailed_keeps ..) rfl ?_
        exact e7
    ·
      rename_i y11 y12
      exact Keeps.refl _

theorem execAddMsg_keeps : ∀ k s, KeepsOut 8716425 s (execAddMsg k s) := by
  intro k s
  unfold execAddMsg
  refine KeepsOut.next ?_
  unfold State.withRx
  split
  ·
    rename_i y0 y1 y2 y3
    have e4 : Keeps 8716425 s ((y1, y2)).2 := by
      refine KeepsOpt.eq (π := (fun z : _ × State => z.2)) y3 ?_
      refine KeepsOpt.step (State.takeRx_keeps ..) rfl ?_
      exact Keeps.refl _
    dsimp -zeta only
    refine Keeps.step (State.rxReduce_keeps ..) rfl ?_
    exact e4
  ·
    rename_i y5 y6
    exact Keeps.refl _

theorem execMaxMsg_keeps : ∀ k s, KeepsOut 8716425 s (execMaxMsg k s) := by
  intro k s
  unfold execMaxMsg
  refine KeepsOut.next ?_
  unfold State.withRx
  split
  ·
    rename_i y0 y1 y2 y3
    have e4 : Keeps 8716425 s ((y1, y2)).2 := by
      refine KeepsOpt.eq (π := (fun z : _ × State => z.2)) y3 ?_
      refine KeepsOpt.step (State.takeRx_keeps ..) rfl ?_
      exact Keeps.refl _
    dsimp -zeta only
    refine Keeps.step (State.rxReduce_keeps ..) rfl ?_
    exact e4
  ·
    rename_i y5 y6
    exact Keeps.refl _

theorem execMinMsg_keeps : ∀ k s, KeepsOut 8716425 s (execMinMsg k s) := by
  intro k s
  unfold execMinMsg
  refine KeepsOut.next ?_
  unfold State.withRx
  split
  ·
    rename_i y0 y1 y2 y3
    have e4 : Keeps 8716425 s ((y1, y2)).2 := by
      refine KeepsOpt.eq (π := (fun z : _ × State => z.2)) y3 ?_
      refine KeepsOpt.step (State.takeRx_keeps ..) rfl ?_
      exact Keeps.refl _
    dsimp -zeta only
    refine Keeps.step (State.rxReduce_keeps ..) rfl ?_
    exact e4
  ·
    rename_i y5 y6
    exact Keeps.refl _

theorem execReadDataMsg_keeps : ∀ k s, KeepsOut 12001465 s (execReadDataMsg k s) := by
  intro k s
  unfold execReadDataMsg
  refine KeepsOut.next ?_
  unfold State.withRx
  split
  ·
    rename_i y0 y1 y2 y3
    have e4 : Keeps 12001465 s ((y1, y2)).2 := by
      refine KeepsOpt.eq (π := (fun z : _ × State => z.2)) y3 ?_
      refine KeepsOpt.step (State.takeRx_keeps ..) rfl ?_
      exact Keeps.refl _
    dsimp -zeta only
    lift_lets -underBinder
    extract_lets -descend x5 x6 x7 x8
    clear_value x5
    clear_value x6
    have hx7 : Keeps 12001465 s x7 := by
      unfold x7
      refine Keeps.set_txns rfl ?_
      exact e4
    clear_value x7
    have hx8 : Keeps 12001465 s x8 := by
      unfold x8
      refine Keeps.step (State.answerRx_keeps ..) rfl ?_
      exact hx7
    clear_value x8
    split
    ·
      rename_i y9 y10 y11
      refine Keeps.ite ?_ ?_
      ·
        refine Keeps.step (State.endTxn_keeps ..) rfl ?_
        exact hx8
      ·
        exact hx8
    ·
      rename_i y12 y13
      exact hx8
  ·
    rename_i y14 y15
    exact Keeps.refl _

theorem execAckMsg_keeps : ∀ k s, KeepsOut 12525753 s (execAckMsg k s) := by
  intro k s
  unfold execAckMsg
  refine KeepsOut.next ?_
  unfold State.withRx
  split
  ·
    rename_i y0 y1 y2 y3
    have e4 : Keeps 12525753 s ((y1, y2)).2 := by
      refine KeepsOpt.eq (π := (fun z : _ × State => z.2)) y3 ?_
      refine KeepsOpt.step (State.takeRx_keeps ..) rfl ?_
      exact Keeps.refl _
    dsimp -zeta only
    lift_lets -underBinder
    extract_lets -descend x5
    clear_value x5
    refine Keeps.step (State.ackArrived_keeps ..) rfl ?_
    exact e4
  ·
    rename_i y6 y7
    exact Keeps.refl _

theorem execNakMsg_keeps : ∀ k s, KeepsOut 12525753 s (execNakMsg k s) := by
  intro k s
  unfold execNakMsg
  refine KeepsOut.next ?_
  unfold State.withRx
  split
  ·
    rename_i y0 y1 y2 y3
    have e4 : Keeps 12525753 s ((y1, y2)).2 := by
      refine KeepsOpt.eq (π := (fun z : _ × State => z.2)) y3 ?_
      refine KeepsOpt.step (State.takeRx_keeps ..) rfl ?_
      exact Keeps.refl _
    dsimp -zeta only
    lift_lets -underBinder
    extract_lets -descend x5
    clear_value x5
    refine Keeps.step (State.ackArrived_keeps ..) rfl ?_
    exact e4
  ·
    rename_i y6 y7
    exact Keeps.refl _

theorem execOpenMsg_keeps : ∀ k nonce s, KeepsOut 12525753 s (execOpenMsg k nonce s) := by
  intro k nonce s
  unfold execOpenMsg
  refine KeepsOut.next ?_
  unfold State.withRx
  split
  ·
    rename_i y0 y1 y2 y3
    have e4 : Keeps 12525753 s ((y1, y2)).2 := by
      refine KeepsOpt.eq (π := (fun z : _ × State => z.2)) y3 ?_
      refine KeepsOpt.step (State.takeRx_keeps ..) rfl ?_
      exact Keeps.refl _
    dsimp -zeta only
    lift_lets -underBinder
    extract_lets -descend x5 x6 x7 x8 x9 x10 x11 x12 x13 x14
    clear_value x5
    clear_value x6
    clear_value x7
    have hx8 : Keeps 12525753 s x8 := by
      unfold x8
      refine Keeps.step (State.endTxnsOf_keeps ..) rfl ?_
      exact e4
    clear_value x8
    clear_value x9
    clear_value x10
    clear_value x11
    have hx12 : Keeps 12525753 s x12 := by
      unfold x12
      refine Keeps.step (State.setSess_keeps ..) rfl ?_
      exact hx8
    clear_value x12
    clear_value x13
    have hx14 : Keeps 12525753 s x14 := by
      unfold x14
      refine Keeps.step (State.setSess_keeps ..) rfl ?_
      exact hx12
    clear_value x14
    refine Keeps.ite ?_ ?_
    ·
      exact e4
    ·
      refine Keeps.ite ?_ ?_
      ·
        split
        ·
          rename_i y15 y16 y17
          refine Keeps.ite ?_ ?_
          ·
            refine Keeps.step (State.emit_keeps ..) rfl ?_
            exact e4
          ·
            exact e4
        ·
          rename_i y18 y19
          exact e4
      ·
        refine Keeps.step (State.emit_keeps ..) rfl ?_
        exact hx14
  ·
    rename_i y20 y21
    exact Keeps.refl _

theorem execOpenAckMsg_keeps : ∀ k s, KeepsOut 327680 s (execOpenAckMsg k s) := by
  intro k s
  unfold execOpenAckMsg
  refine KeepsOut.next ?_
  unfold State.withRx
  split
  ·
    rename_i y0 y1 y2 y3
    have e4 : Keeps 327680 s ((y1, y2)).2 := by
      refine KeepsOpt.eq (π := (fun z : _ × State => z.2)) y3 ?_
      refine KeepsOpt.step (State.takeRx_keeps ..) rfl ?_
      exact Keeps.refl _
    dsimp -zeta only
    lift_lets -underBinder
    extract_lets -descend x5 x6 x7 x8
    clear_value x5
    clear_value x6
    clear_value x7
    clear_value x8
    refine Keeps.ite ?_ ?_
    ·
      refine Keeps.step (State.setSess_keeps ..) rfl ?_
      exact e4
    ·
      exact e4
  ·
    rename_i y9 y10
    exact Keeps.refl _

theorem execCloseMsg_keeps : ∀ k s, KeepsOut 12001465 s (execCloseMsg k s) := by
  intro k s
  unfold execCloseMsg
  refine KeepsOut.next ?_
  unfold State.withRx
  split
  ·
    rename_i y0 y1 y2 y3
    have e4 : Keeps 12001465 s ((y1, y2)).2 := by
      refine KeepsOpt.eq (π := (fun z : _ × State => z.2)) y3 ?_
      refine KeepsOpt.step (State.takeRx_keeps ..) rfl ?_
      exact Keeps.refl _
    dsimp -zeta only
    refine Keeps.step (State.closeSession_keeps ..) rfl ?_
    exact e4
  ·
    rename_i y5 y6
    exact Keeps.refl _

theorem execGenNoticeMsg_keeps : ∀ k s, KeepsOut 12001465 s (execGenNoticeMsg k s) := by
  intro k s
  unfold execGenNoticeMsg
  refine KeepsOut.next ?_
  unfold State.withRx
  split
  ·
    rename_i y0 y1 y2 y3
    have e4 : Keeps 12001465 s ((y1, y2)).2 := by
      refine KeepsOpt.eq (π := (fun z : _ × State => z.2)) y3 ?_
      refine KeepsOpt.step (State.takeRx_keeps ..) rfl ?_
      exact Keeps.refl _
    dsimp -zeta only
    lift_lets -underBinder
    extract_lets -descend x5 x6 x7
    clear_value x5
    clear_value x6
    have hx7 : Keeps 12001465 s x7 := by
      unfold x7
      refine Keeps.step (State.setSess_keeps ..) rfl ?_
      exact e4
    clear_value x7
    refine Keeps.step (State.sendAck_keeps ..) rfl ?_
    refine Keeps.step (State.endTxnsOf_keeps ..) rfl ?_
    exact hx7
  ·
    rename_i y8 y9
    exact Keeps.refl _

theorem execProbeMsg_keeps : ∀ k s, KeepsOut 327680 s (execProbeMsg k s) := by
  intro k s
  unfold execProbeMsg
  refine KeepsOut.next ?_
  unfold State.withRx
  split
  ·
    rename_i y0 y1 y2 y3
    have e4 : Keeps 327680 s ((y1, y2)).2 := by
      refine KeepsOpt.eq (π := (fun z : _ × State => z.2)) y3 ?_
      refine KeepsOpt.step (State.takeRx_keeps ..) rfl ?_
      exact Keeps.refl _
    dsimp -zeta only
    refine Keeps.step (State.sendAck_keeps ..) rfl ?_
    exact e4
  ·
    rename_i y5 y6
    exact Keeps.refl _

theorem execTransaction_keeps : ∀ t s, KeepsOut 12263609 s (execTransaction t s) := by
  intro t s
  unfold execTransaction
  lift_lets -underBinder
  extract_lets -descend x0 x1 x2
  clear_value x0
  clear_value x1
  clear_value x2
  split
  ·
    rename_i y3 y4 y5
    have e6 : Keeps 12263609 s y4 := by
      refine KeepsOpt.eq (π := (fun z : State => z)) y5 ?_
      refine KeepsOpt.step (State.startTxn_keeps ..) rfl ?_
      exact Keeps.refl _
    refine KeepsOut.next ?_
    exact e6
  ·
    rename_i y7 y8
    refine KeepsOut.next ?_
    exact Keeps.refl _

theorem State.reopenFull_keeps : ∀ s k, Keeps 17367041 s (State.reopenFull s k) := by
  intro s k
  unfold State.reopenFull
  lift_lets -underBinder
  extract_lets -descend x0 x1
  clear_value x0
  have hx1 : Keeps 17367041 s x1 := by
    unfold x1
    refine Keeps.step (State.fresh_keeps ..) rfl ?_
    exact Keeps.refl _
  clear_value x1
  refine Keeps.ite ?_ ?_
  ·
    refine Keeps.step (State.sendOpen_keeps ..) rfl ?_
    exact hx1
  ·
    exact Keeps.refl _

theorem execPacketSchedule_keeps : ∀ n s, KeepsOut 17498113 s (execPacketSchedule n s) := by
  intro n s
  unfold execPacketSchedule
  split
  ·
    rename_i y0
    refine KeepsOut.next ?_
    exact Keeps.refl _
  ·
    rename_i y1
    split
    ·
      rename_i y2 y3 y4 y5
      lift_lets -underBinder
      extract_lets -descend x6 x7
      clear_value x6
      have hx7 : Keeps 17498113 s x7 := by
        unfold x7
        refine Keeps.set_fab rfl ?_
        exact Keeps.refl _
      clear_value x7
      split
      ·
        rename_i y8 y9 y10
        refine KeepsOut.next ?_
        refine Keeps.step (State.reopenFull_keeps ..) rfl ?_
        refine Keeps.step (State.sendQueued_keeps ..) rfl ?_
        exact hx7
      ·
        rename_i y11 y12 y13 y14 y15
        refine KeepsOut.next ?_
        refine Keeps.step (State.emit_keeps ..) rfl ?_
        refine Keeps.step (State.setSess_keeps ..) rfl ?_
        exact hx7
      ·
        rename_i y16 y17 y18
        refine KeepsOut.next ?_
        exact hx7
    ·
      rename_i y19 y20
      lift_lets -underBinder
      extract_lets -descend x21 x22 x23
      clear_value x23
      split
      ·
        rename_i y24 y25
        refine KeepsOut.next ?_
        exact Keeps.refl _
      ·
        rename_i y26 y27 y28 y29 y30
        split
        ·
          rename_i y31 y32
          refine KeepsOut.next ?_
          exact Keeps.refl _
        ·
          rename_i y33 y34 y35 y36 y37 y38
          lift_lets -underBinder
          extract_lets -descend x39 x40 x41 x42 x43 x44
          clear_value x39
          clear_value x41
          clear_value x42
          clear_value x43
          have hx44 : Keeps 17498113 s x44 := by
            unfold x44
            refine Keeps.set_fab rfl ?_
            exact Keeps.refl _
          clear_value x44
          refine KeepsOut.next ?_
          refine Keeps.step (State.reopenFull_keeps ..) rfl ?_
          refine Keeps.step (State.sendQueued_keeps ..) rfl ?_
          exact hx44

theorem execAckDeadline_keeps : ∀ k seq s, KeepsOut 12263609 s (execAckDeadline k seq s) := by
  intro k seq s
  unfold execAckDeadline
  lift_lets -underBinder
  extract_lets -descend x0
  clear_value x0
  split
  ·
    rename_i y1 y2
    refine KeepsOut.next ?_
    refine Keeps.ite ?_ ?_
    ·
      refine Keeps.step (State.queueControl_keeps ..) rfl ?_
      exact Keeps.refl _
    ·
      exact Keeps.refl _
  ·
    rename_i y3 y4 y5
    split
    ·
      rename_i y6
      refine KeepsOut.next ?_
      exact Keeps.refl _
    ·
      rename_i y7
      lift_lets -underBinder
      extract_lets -descend x8 x9
      clear_value x8
      have hx9 : Keeps 12263609 s x9 := by
        unfold x9
        refine Keeps.step (State.alarmEvent_keeps ..) rfl ?_
        refine Keeps.step (State.inc_keeps ..) rfl ?_
        refine Keeps.step (State.setSess_keeps ..) rfl ?_
        exact Keeps.refl _
      clear_value x9
      refine KeepsOut.next ?_
      refine Keeps.ite ?_ ?_
      ·
        refine Keeps.step (State.failSession_keeps ..) rfl ?_
        exact hx9
      ·
        refine Keeps.step (State.retransmit_keeps ..) rfl ?_
        exact hx9

theorem execAckDelay_keeps : ∀ k s, KeepsOut 65536 s (execAckDelay k s) := by
  intro k s
  unfold execAckDelay
  refine KeepsOut.next ?_
  refine Keeps.ite ?_ ?_
  ·
    refine Keeps.step (State.sendAck_keeps ..) rfl ?_
    exact Keeps.refl _
  ·
    exact Keeps.refl _

theorem execOpenRepeat_keeps : ∀ k s, KeepsOut 524289 s (execOpenRepeat k s) := by
  intro k s
  unfold execOpenRepeat
  lift_lets -underBinder
  extract_lets -descend x0
  clear_value x0
  split
  ·
    rename_i y1 y2 y3
    refine KeepsOut.next ?_
    refine Keeps.ite ?_ ?_
    ·
      refine Keeps.step (State.emit_keeps ..) rfl ?_
      exact Keeps.refl _
    ·
      exact Keeps.refl _
  ·
    rename_i y4 y5
    refine KeepsOut.next ?_
    exact Keeps.refl _

theorem execOpeningTimeout_keeps : ∀ k s, KeepsOut 11739321 s (execOpeningTimeout k s) := by
  intro k s
  unfold execOpeningTimeout
  refine KeepsOut.next ?_
  refine Keeps.ite ?_ ?_
  ·
    refine Keeps.step (State.failSession_keeps ..) rfl ?_
    exact Keeps.refl _
  ·
    exact Keeps.refl _

theorem execFailedReopen_keeps : ∀ k nonce s, KeepsOut 589825 s (execFailedReopen k nonce s) := by
  intro k nonce s
  unfold execFailedReopen
  lift_lets -underBinder
  extract_lets -descend x0
  clear_value x0
  split
  ·
    rename_i y1
    refine KeepsOut.next ?_
    exact Keeps.refl _
  ·
    rename_i y2
    split
    ·
      rename_i y3
      refine KeepsOut.next ?_
      refine Keeps.step (State.setSess_keeps ..) rfl ?_
      exact Keeps.refl _
    ·
      rename_i y4
      refine KeepsOut.next ?_
      refine Keeps.step (State.sendOpen_keeps ..) rfl ?_
      exact Keeps.refl _

theorem execRatePeriod_keeps : ∀ k s, KeepsOut 65536 s (execRatePeriod k s) := by
  intro k s
  unfold execRatePeriod
  lift_lets -underBinder
  extract_lets -descend x0
  clear_value x0
  split
  ·
    rename_i y1
    refine KeepsOut.next ?_
    exact Keeps.refl _
  ·
    rename_i y2
    refine KeepsOut.next ?_
    refine Keeps.step (State.setSess_keeps ..) rfl ?_
    exact Keeps.refl _

theorem execSessionIdle_keeps : ∀ k s, KeepsOut 65536 s (execSessionIdle k s) := by
  intro k s
  unfold execSessionIdle
  lift_lets -underBinder
  extract_lets -descend x0
  clear_value x0
  refine KeepsOut.next ?_
  refine Keeps.ite ?_ ?_
  ·
    refine Keeps.step (State.setSess_keeps ..) rfl ?_
    exact Keeps.refl _
  ·
    exact Keeps.refl _

theorem execEpochCounterWrite_keeps : ∀ key s, KeepsOut 2686977 s (execEpochCounterWrite key s) := by
  intro key s
  unfold execEpochCounterWrite
  split
  ·
    rename_i y0 y1
    refine KeepsOut.next ?_
    exact Keeps.refl _
  ·
    rename_i y2 y3 y4
    lift_lets -underBinder
    extract_lets -descend x5 x6 x7 x8 x9
    clear_value x5
    clear_value x6
    clear_value x7
    have hx8 : Keeps 2686977 s x8 := by
      unfold x8
      refine Keeps.many (t := s) ?_ (.inr rfl) (.inr rfl) (.inr rfl) (.inr rfl) (.inr rfl) (.inr rfl) (.inr rfl) (.inr rfl) (.inr rfl) (.inr rfl) (.inr rfl) (.inr rfl) (.inr rfl) (.inr rfl) (.inr rfl) (.inr rfl) (.inr rfl) (.inr rfl) (.inr rfl) (.inl rfl) (.inr rfl) (.inl rfl) (.inr rfl) (.inr rfl) (.inr rfl) rfl id id
      exact Keeps.refl _
    clear_value x8
    clear_value x9
    refine KeepsOut.next ?_
    refine Keeps.fold ?_ ?_
    ·
      exact hx8
    ·
      intro z10 q11 h12
      refine Keeps.step (State.sendOpen_keeps ..) rfl ?_
      exact h12

theorem execPortDown_keeps : ∀ n s, KeepsOut 8388609 s (execPortDown n s) := by
  intro n s
  unfold execPortDown
  refine KeepsOut.next ?_
  refine Keeps.ite ?_ ?_
  ·
    refine Keeps.step (State.linkChange_keeps ..) rfl ?_
    exact Keeps.refl _
  ·
    exact Keeps.refl _

theorem execPortRetrain_keeps : ∀ up s, KeepsOut 8388609 s (execPortRetrain up s) := by
  intro up s
  unfold execPortRetrain
  refine KeepsOut.next ?_
  refine Keeps.fold ?_ ?_
  ·
    exact Keeps.refl _
  ·
    intro z0 q1 h2
    refine Keeps.ite ?_ ?_
    ·
      refine Keeps.step (State.linkChange_keeps ..) rfl ?_
      exact h2
    ·
      exact h2

theorem execFabRefclkLoss_keeps : ∀ s, KeepsOut 8388609 s (execFabRefclkLoss s) := by
  intro s
  unfold execFabRefclkLoss
  refine KeepsOut.next ?_
  refine Keeps.fold ?_ ?_
  ·
    exact Keeps.refl _
  ·
    intro z0 q1 h2
    refine Keeps.ite ?_ ?_
    ·
      refine Keeps.step (State.linkChange_keeps ..) rfl ?_
      exact h2
    ·
      exact h2

theorem execGratuitousArp_keeps : ∀ s, KeepsOut 524288 s (execGratuitousArp s) := by
  intro s
  unfold execGratuitousArp
  refine KeepsOut.next ?_
  refine Keeps.set_fab rfl ?_
  exact Keeps.refl _

theorem execPtpMessage_keeps : ∀ port m s, KeepsOut 11010049 s (execPtpMessage port m s) := by
  intro port m s
  unfold execPtpMessage
  split
  ·
    rename_i y0
    refine KeepsOut.next ?_
    refine Keeps.step (State.stranger_keeps ..) rfl ?_
    exact Keeps.refl _
  ·
    rename_i y1
    split
    ·
      rename_i y2
      refine KeepsOut.next ?_
      exact Keeps.refl _
    ·
      rename_i y3
      lift_lets -underBinder
      extract_lets -descend x4 x5 x6 x7 x8 x9 x10 x11
      have hx4 : Keeps 11010049 s x4 := by
        unfold x4
        refine Keeps.step (State.setReg_keeps ..) rfl ?_
        exact Keeps.refl _
      clear_value x4
      have hx5 : Keeps 11010049 s x5 := by
        unfold x5
        refine Keeps.fold ?_ ?_
        ·
          exact hx4
        ·
          intro z12 q13 h14
          refine Keeps.step (State.closeAlarm_keeps ..) rfl ?_
          exact h14
      clear_value x5
      clear_value x6
      have hx7 : Keeps 11010049 s x7 := by
        unfold x7
        refine Keeps.set_fab rfl ?_
        exact hx5
      clear_value x7
      have hx8 : Keeps 11010049 s x8 := by
        unfold x8
        refine Keeps.step (State.setReg_keeps ..) rfl ?_
        exact hx7
      clear_value x8
      have hx9 : Keeps 11010049 s x9 := by
        unfold x9
        refine Keeps.ite ?_ ?_
        ·
          refine Keeps.step (State.log_keeps ..) rfl ?_
          exact hx4
        ·
          exact hx4
      clear_value x9
      clear_value x10
      have hx11 : Keeps 11010049 s x11 := by
        unfold x11
        refine Keeps.set_fab rfl ?_
        exact hx9
      clear_value x11
      split
      ·
        rename_i y15
        refine KeepsOut.next ?_
        refine Keeps.step (State.setFld_keeps ..) rfl ?_
        refine Keeps.step (State.setFld_keeps ..) rfl ?_
        exact hx8
      ·
        rename_i y16
        refine KeepsOut.next ?_
        refine Keeps.ite ?_ ?_
        ·
          refine Keeps.step (State.add64_keeps ..) rfl ?_
          exact hx11
        ·
          exact hx11

theorem execPtpSyncInterval_keeps : ∀ s, KeepsOut 524288 s (execPtpSyncInterval s) := by
  intro s
  unfold execPtpSyncInterval
  refine KeepsOut.next ?_
  refine Keeps.set_fab rfl ?_
  exact Keeps.refl _

end Sys2Proof.Machine
end

