-- ==== Sys2Proof/Laws/KeepsRegBus.lean ====
section
/-! SUPPORT. What each operation and each command of Machine/RegBus.lean touches, one lemma each: the bits of its mask are the
parts of the state that it may change; the queue and the canonical form of the memories it keeps. -/
namespace Sys2Proof.Machine

theorem State.dropCoreWaits_keeps : ∀ s c, Keeps 64 s (State.dropCoreWaits s c) := by
  intro s c
  unfold State.dropCoreWaits
  lift_lets -underBinder
  extract_lets -descend x0 x1 x2
  clear_value x2
  refine Keeps.set_sch rfl ?_
  exact Keeps.refl _

theorem State.stopCore_keeps : ∀ s c, Keeps 96 s (State.stopCore s c) := by
  intro s c
  unfold State.stopCore
  lift_lets -underBinder
  extract_lets -descend x0
  clear_value x0
  refine Keeps.ite ?_ ?_
  ·
    exact Keeps.refl _
  ·
    refine Keeps.step (State.setCore_keeps ..) rfl ?_
    refine Keeps.step (State.dropCoreWaits_keeps ..) rfl ?_
    exact Keeps.refl _

theorem State.invalidateIcache_keeps : ∀ s c, Keeps 32 s (State.invalidateIcache s c) := by
  intro s c
  unfold State.invalidateIcache
  refine Keeps.step (State.setCore_keeps ..) rfl ?_
  exact Keeps.refl _

theorem State.writeSeqCtrl_keeps : ∀ s c v, Keeps 96 s (State.writeSeqCtrl s c v) := by
  intro s c v
  unfold State.writeSeqCtrl
  lift_lets -underBinder
  extract_lets -descend x0
  have hx0 : Keeps 96 s x0 := by
    unfold x0
    refine Keeps.ite ?_ ?_
    ·
      refine Keeps.step (State.invalidateIcache_keeps ..) rfl ?_
      exact Keeps.refl _
    ·
      exact Keeps.refl _
  clear_value x0
  refine Keeps.ite ?_ ?_
  ·
    refine Keeps.step (State.stopCore_keeps ..) rfl ?_
    exact hx0
  ·
    exact hx0

theorem State.readReg_keeps : ∀ s req off, Keeps 3145793 s (State.readReg s req off).2 := by
  intro s req off
  unfold State.readReg
  split
  ·
    rename_i y0 y1
    dsimp -zeta only
    exact Keeps.refl _
  ·
    rename_i y2 y3 y4
    split
    ·
      rename_i y5
      dsimp -zeta only
      exact Keeps.refl _
    ·
      rename_i y6
      split
      ·
        rename_i y7 y8 y9
        refine Keeps.step (State.popEvent_keeps ..) rfl ?_
        exact Keeps.refl _
      ·
        rename_i y10 y11 y12
        dsimp -zeta only
        exact Keeps.refl _
      ·
        rename_i y13 y14 y15 y16 y17
        split
        ·
          rename_i y18 y19 y20 y21
          have e22 : Keeps 3145793 s (y20) := by
            refine Keeps.snd_eq y21 ?_
            refine Keeps.step (State.takeSlot_keeps ..) rfl ?_
            exact Keeps.refl _
          exact e22
      ·
        rename_i y23 y24 y25
        dsimp -zeta only
        exact Keeps.refl _
      ·
        rename_i y26 y27 y28
        dsimp -zeta only
        exact Keeps.refl _
      ·
        rename_i y29 y30 y31
        dsimp -zeta only
        exact Keeps.refl _
      ·
        rename_i y32 y33 y34
        dsimp -zeta only
        exact Keeps.refl _
      ·
        rename_i y35 y36 y37
        dsimp -zeta only
        exact Keeps.refl _
      ·
        rename_i y38 y39 y40 y41 y42 y43 y44 y45 y46 y47
        dsimp -zeta only
        exact Keeps.refl _

theorem State.writeGeneric_keeps : ∀ s r off v, Keeps 1 s (State.writeGeneric s r off v) := by
  intro s r off v
  unfold State.writeGeneric
  refine Keeps.step (State.setReg_keeps ..) rfl ?_
  exact Keeps.refl _

theorem State.writeUnlessOn_keeps : ∀ s r cfg off v, Keeps 1 s (State.writeUnlessOn s r cfg off v) := by
  intro s r cfg off v
  unfold State.writeUnlessOn
  refine Keeps.ite ?_ ?_
  ·
    exact Keeps.refl _
  ·
    refine Keeps.step (State.writeGeneric_keeps ..) rfl ?_
    exact Keeps.refl _

theorem State.writePwrReg_keeps : ∀ s r off v, Keeps 1 s (State.writePwrReg s r off v) := by
  intro s r off v
  unfold State.writePwrReg
  split
  ·
    rename_i y0 y1 y2 y3 y4
    refine Keeps.step (State.writeDieReq_keeps ..) rfl ?_
    exact Keeps.refl _
  ·
    rename_i y5 y6 y7
    exact Keeps.refl _
  ·
    rename_i y8 y9 y10 y11
    refine Keeps.step (State.writeGeneric_keeps ..) rfl ?_
    exact Keeps.refl _

theorem State.writeHstReg_keeps : ∀ s r off v, Keeps 1 s (State.writeHstReg s r off v) := by
  intro s r off v
  unfold State.writeHstReg
  split
  ·
    rename_i y0 y1 y2
    refine Keeps.ite ?_ ?_
    ·
      refine Keeps.step (State.podSnap_keeps ..) rfl ?_
      exact Keeps.refl _
    ·
      exact Keeps.refl _
  ·
    rename_i y3 y4 y5 y6 y7
    split
    ·
      rename_i y8
      refine Keeps.step (State.writeQTail_keeps ..) rfl ?_
      exact Keeps.refl _
    ·
      rename_i y9
      exact Keeps.refl _
  ·
    rename_i y10 y11 y12 y13 y14 y15
    split
    ·
      rename_i y16
      refine Keeps.step (State.writeQTail_keeps ..) rfl ?_
      exact Keeps.refl _
    ·
      rename_i y17
      exact Keeps.refl _
  ·
    rename_i y18 y19 y20
    refine Keeps.step (State.writeUnlessOn_keeps ..) rfl ?_
    exact Keeps.refl _
  ·
    rename_i y21 y22 y23
    refine Keeps.step (State.writeUnlessOn_keeps ..) rfl ?_
    exact Keeps.refl _
  ·
    rename_i y24 y25 y26
    refine Keeps.step (State.writeUnlessOn_keeps ..) rfl ?_
    exact Keeps.refl _
  ·
    rename_i y27 y28 y29
    refine Keeps.step (State.writeUnlessOn_keeps ..) rfl ?_
    exact Keeps.refl _
  ·
    rename_i y30 y31 y32 y33 y34 y35 y36 y37 y38
    refine Keeps.step (State.writeGeneric_keeps ..) rfl ?_
    exact Keeps.refl _

theorem State.writeSchReg_keeps : ∀ s req r off v, Keeps 8388705 s (State.writeSchReg s req r off v) := by
  intro s req r off v
  unfold State.writeSchReg
  split
  ·
    rename_i y0 y1 y2 y3 y4
    refine Keeps.step (State.writeSem_keeps ..) rfl ?_
    exact Keeps.refl _
  ·
    rename_i y5 y6 y7 y8 y9
    refine Keeps.step (State.writeBob_keeps ..) rfl ?_
    exact Keeps.refl _
  ·
    rename_i y10 y11 y12 y13 y14
    refine Keeps.step (State.showBob_keeps ..) rfl ?_
    refine Keeps.step (State.writeGeneric_keeps ..) rfl ?_
    exact Keeps.refl _
  ·
    rename_i y15 y16 y17 y18 y19
    refine Keeps.step (State.showBob_keeps ..) rfl ?_
    refine Keeps.step (State.writeGeneric_keeps ..) rfl ?_
    exact Keeps.refl _
  ·
    rename_i y20 y21 y22 y23 y24
    refine Keeps.step (State.writePoolCfg_keeps ..) rfl ?_
    exact Keeps.refl _
  ·
    rename_i y25 y26 y27 y28 y29
    refine Keeps.ite ?_ ?_
    ·
      exact Keeps.refl _
    ·
      refine Keeps.step (State.writeGeneric_keeps ..) rfl ?_
      exact Keeps.refl _
  ·
    rename_i y30 y31 y32 y33 y34
    refine Keeps.ite ?_ ?_
    ·
      exact Keeps.refl _
    ·
      refine Keeps.step (State.writeGeneric_keeps ..) rfl ?_
      exact Keeps.refl _
  ·
    rename_i y35 y36 y37 y38 y39
    refine Keeps.step (State.returnSlot_keeps ..) rfl ?_
    exact Keeps.refl _
  ·
    rename_i y40 y41 y42 y43 y44 y45 y46 y47 y48 y49
    refine Keeps.step (State.writeGeneric_keeps ..) rfl ?_
    exact Keeps.refl _

theorem State.writeKvReg_keeps : ∀ s r off v, Keeps 8389513 s (State.writeKvReg s r off v) := by
  intro s r off v
  unfold State.writeKvReg
  split
  ·
    rename_i y0 y1 y2 y3 y4
    refine Keeps.step (State.writeKvCfg_keeps ..) rfl ?_
    exact Keeps.refl _
  ·
    rename_i y5 y6 y7 y8 y9
    refine Keeps.step (State.writeUnlessOn_keeps ..) rfl ?_
    exact Keeps.refl _
  ·
    rename_i y10 y11 y12 y13 y14
    refine Keeps.step (State.writeUnlessOn_keeps ..) rfl ?_
    exact Keeps.refl _
  ·
    rename_i y15 y16 y17 y18 y19
    refine Keeps.step (State.writeUnlessOn_keeps ..) rfl ?_
    exact Keeps.refl _
  ·
    rename_i y20 y21 y22 y23 y24
    refine Keeps.step (State.writeUnlessOn_keeps ..) rfl ?_
    exact Keeps.refl _
  ·
    rename_i y25 y26 y27 y28 y29
    refine Keeps.step (State.writeUnlessOn_keeps ..) rfl ?_
    exact Keeps.refl _
  ·
    rename_i y30 y31 y32 y33 y34
    refine Keeps.step (State.writeUnlessOn_keeps ..) rfl ?_
    exact Keeps.refl _
  ·
    rename_i y35 y36 y37 y38 y39
    refine Keeps.step (State.writeUnlessOn_keeps ..) rfl ?_
    exact Keeps.refl _
  ·
    rename_i y40 y41 y42 y43 y44
    refine Keeps.step (State.writeUnlessOn_keeps ..) rfl ?_
    exact Keeps.refl _
  ·
    rename_i y45 y46 y47 y48 y49 y50 y51 y52 y53 y54 y55
    refine Keeps.step (State.writeGeneric_keeps ..) rfl ?_
    exact Keeps.refl _

theorem State.writeLinkReg_keeps : ∀ s r off v, Keeps 8486913 s (State.writeLinkReg s r off v) := by
  intro s r off v
  unfold State.writeLinkReg
  split
  ·
    rename_i y0 y1 y2 y3 y4 y5
    refine Keeps.step (State.writeGroup_keeps ..) rfl ?_
    exact Keeps.refl _
  ·
    rename_i y6 y7 y8 y9 y10 y11
    refine Keeps.ite ?_ ?_
    ·
      exact Keeps.refl _
    ·
      refine Keeps.step (State.writeGeneric_keeps ..) rfl ?_
      exact Keeps.refl _
  ·
    rename_i y12 y13 y14 y15 y16
    refine Keeps.step (State.showVote_keeps ..) rfl ?_
    refine Keeps.step (State.writeGeneric_keeps ..) rfl ?_
    exact Keeps.refl _
  ·
    rename_i y17 y18 y19
    refine Keeps.step (State.setSess_keeps ..) rfl ?_
    exact Keeps.refl _
  ·
    rename_i y20 y21 y22
    refine Keeps.step (State.setSess_keeps ..) rfl ?_
    exact Keeps.refl _
  ·
    rename_i y23 y24 y25
    refine Keeps.step (State.setSess_keeps ..) rfl ?_
    exact Keeps.refl _
  ·
    rename_i y26 y27 y28 y29 y30 y31 y32 y33
    refine Keeps.step (State.writeGeneric_keeps ..) rfl ?_
    exact Keeps.refl _

theorem State.writeMediaReg_keeps : ∀ s r off v, Keeps 9437249 s (State.writeMediaReg s r off v) := by
  intro s r off v
  unfold State.writeMediaReg
  split
  ·
    rename_i y0 y1 y2 y3 y4
    refine Keeps.step (State.writeMediaTail_keeps ..) rfl ?_
    exact Keeps.refl _
  ·
    rename_i y5 y6 y7 y8 y9
    refine Keeps.step (State.writeUnlessOn_keeps ..) rfl ?_
    exact Keeps.refl _
  ·
    rename_i y10 y11 y12 y13 y14
    refine Keeps.step (State.writeUnlessOn_keeps ..) rfl ?_
    exact Keeps.refl _
  ·
    rename_i y15 y16 y17 y18 y19
    refine Keeps.step (State.writeStrmCfg_keeps ..) rfl ?_
    exact Keeps.refl _
  ·
    rename_i y20 y21 y22 y23 y24
    refine Keeps.step (State.installSettings_keeps ..) rfl ?_
    exact Keeps.refl _
  ·
    rename_i y25 y26 y27 y28 y29
    refine Keeps.step (State.writeMediaTail_keeps ..) rfl ?_
    exact Keeps.refl _
  ·
    rename_i y30 y31 y32 y33 y34
    refine Keeps.step (State.writeUnlessOn_keeps ..) rfl ?_
    exact Keeps.refl _
  ·
    rename_i y35 y36 y37 y38 y39
    refine Keeps.step (State.writeUnlessOn_keeps ..) rfl ?_
    exact Keeps.refl _
  ·
    rename_i y40 y41 y42 y43 y44
    refine Keeps.step (State.writeEncCfg_keeps ..) rfl ?_
    exact Keeps.refl _
  ·
    rename_i y45 y46 y47 y48 y49
    refine Keeps.step (State.writeUnlessOn_keeps ..) rfl ?_
    exact Keeps.refl _
  ·
    rename_i y50 y51 y52 y53 y54
    refine Keeps.step (State.requestKey_keeps ..) rfl ?_
    exact Keeps.refl _
  ·
    rename_i y55 y56 y57 y58 y59 y60 y61 y62 y63 y64 y65 y66 y67
    refine Keeps.step (State.writeGeneric_keeps ..) rfl ?_
    exact Keeps.refl _

theorem State.writeReg_keeps : ∀ s req off v, Keeps 9536489 s (State.writeReg s req off v) := by
  intro s req off v
  unfold State.writeReg
  split
  ·
    rename_i y0 y1
    exact Keeps.refl _
  ·
    rename_i y2 y3 y4
    refine Keeps.ite ?_ ?_
    ·
      exact Keeps.refl _
    ·
      refine Keeps.ite ?_ ?_
      ·
        refine Keeps.step (State.writeGeneric_keeps ..) rfl ?_
        exact Keeps.refl _
      ·
        refine Keeps.ite ?_ ?_
        ·
          refine Keeps.step (State.writePwrReg_keeps ..) rfl ?_
          exact Keeps.refl _
        ·
          refine Keeps.ite ?_ ?_
          ·
            refine Keeps.step (State.writeHstReg_keeps ..) rfl ?_
            exact Keeps.refl _
          ·
            refine Keeps.ite ?_ ?_
            ·
              refine Keeps.step (State.writeSchReg_keeps ..) rfl ?_
              exact Keeps.refl _
            ·
              refine Keeps.ite ?_ ?_
              ·
                refine Keeps.step (State.writeGeneric_keeps ..) rfl ?_
                exact Keeps.refl _
              ·
                refine Keeps.ite ?_ ?_
                ·
                  refine Keeps.step (State.writeKvReg_keeps ..) rfl ?_
                  exact Keeps.refl _
                ·
                  refine Keeps.ite ?_ ?_
                  ·
                    refine Keeps.step (State.writeLinkReg_keeps ..) rfl ?_
                    exact Keeps.refl _
                  ·
                    refine Keeps.ite ?_ ?_
                    ·
                      refine Keeps.step (State.writeMediaReg_keeps ..) rfl ?_
                      exact Keeps.refl _
                    ·
                      refine Keeps.ite ?_ ?_
                      ·
                        exact Keeps.refl _
                      ·
                        refine Keeps.ite ?_ ?_
                        ·
                          refine Keeps.step (State.writeSeqCtrl_keeps ..) rfl ?_
                          exact Keeps.refl _
                        ·
                          refine Keeps.step (State.writeGeneric_keeps ..) rfl ?_
                          exact Keeps.refl _

theorem State.read4_keeps : ∀ s req off, Keeps 3145795 s (State.read4 s req off).2 := by
  intro s req off
  unfold State.read4
  split
  ·
    rename_i y0
    dsimp -zeta only
    exact Keeps.refl _
  ·
    rename_i y1
    split
    ·
      rename_i y2
      split
      ·
        rename_i y3 y4 y5 y6
        have e7 : Keeps 3145795 s (y5) := by
          refine Keeps.snd_eq y6 ?_
          refine Keeps.step (State.readReg_keeps ..) rfl ?_
          exact Keeps.refl _
        lift_lets -underBinder
        extract_lets -descend x8
        clear_value x8
        dsimp -zeta only
        refine Keeps.set_captured rfl ?_
        exact e7
    ·
      rename_i y9
      split
      ·
        rename_i y10
        split
        ·
          rename_i y11 y12 y13
          dsimp -zeta only
          refine Keeps.set_captured rfl ?_
          exact Keeps.refl _
        ·
          rename_i y14 y15
          dsimp -zeta only
          exact Keeps.refl _
      ·
        rename_i y16
        split
        ·
          rename_i y17 y18 y19 y20
          have e21 : Keeps 3145795 s (y19) := by
            refine Keeps.snd_eq y20 ?_
            refine Keeps.step (State.readReg_keeps ..) rfl ?_
            exact Keeps.refl _
          exact e21

theorem State.busRead_keeps : ∀ s req off size, Keeps 11534403 s (State.busRead s req off size).2 := by
  intro s req off size
  unfold State.busRead
  split
  ·
    rename_i y0
    dsimp -zeta only
    exact Keeps.refl _
  ·
    rename_i y1
    split
    ·
      rename_i y2
      dsimp -zeta only
      refine Keeps.step (State.regRefused_keeps ..) rfl ?_
      exact Keeps.refl _
    ·
      rename_i y3
      split
      ·
        rename_i y4
        refine Keeps.step (State.read4_keeps ..) rfl ?_
        exact Keeps.refl _
      ·
        rename_i y5
        split
        ·
          rename_i y6
          split
          ·
            rename_i y7 y8 y9 y10
            have e11 : Keeps 11534403 s (y9) := by
              refine Keeps.snd_eq y10 ?_
              refine Keeps.step (State.readReg_keeps ..) rfl ?_
              exact Keeps.refl _
            exact e11
        ·
          rename_i y12
          split
          ·
            rename_i y13 y14 y15 y16
            have e17 : Keeps 11534403 s (y15) := by
              refine Keeps.snd_eq y16 ?_
              refine Keeps.step (State.read4_keeps ..) rfl ?_
              exact Keeps.refl _
            split
            ·
              rename_i y18 y19 y20 y21
              have e22 : Keeps 11534403 s (y20) := by
                refine Keeps.snd_eq y21 ?_
                refine Keeps.step (State.read4_keeps ..) rfl ?_
                exact e17
              exact e22

theorem State.write4_keeps : ∀ s req off v, Keeps 9536493 s (State.write4 s req off v) := by
  intro s req off v
  unfold State.write4
  refine Keeps.ite ?_ ?_
  ·
    lift_lets -underBinder
    extract_lets -descend x0
    clear_value x0
    refine Keeps.set_heldLow rfl ?_
    exact Keeps.refl _
  ·
    refine Keeps.ite ?_ ?_
    ·
      lift_lets -underBinder
      extract_lets -descend x1 x2
      clear_value x1
      have hx2 : Keeps 9536493 s x2 := by
        unfold x2
        refine Keeps.set_heldLow rfl ?_
        exact Keeps.refl _
      clear_value x2
      refine Keeps.step (State.writeReg_keeps ..) rfl ?_
      exact hx2
    ·
      refine Keeps.step (State.writeReg_keeps ..) rfl ?_
      exact Keeps.refl _

theorem State.busWrite_keeps : ∀ s req off size v, Keeps 9536493 s (State.busWrite s req off size v) := by
  intro s req off size v
  unfold State.busWrite
  refine Keeps.ite ?_ ?_
  ·
    exact Keeps.refl _
  ·
    refine Keeps.ite ?_ ?_
    ·
      refine Keeps.step (State.regRefused_keeps ..) rfl ?_
      exact Keeps.refl _
    ·
      refine Keeps.ite ?_ ?_
      ·
        refine Keeps.step (State.directCritical_keeps ..) rfl ?_
        exact Keeps.refl _
      ·
        refine Keeps.ite ?_ ?_
        ·
          refine Keeps.step (State.write4_keeps ..) rfl ?_
          exact Keeps.refl _
        ·
          refine Keeps.ite ?_ ?_
          ·
            refine Keeps.step (State.writeReg_keeps ..) rfl ?_
            exact Keeps.refl _
          ·
            refine Keeps.step (State.write4_keeps ..) rfl ?_
            refine Keeps.step (State.write4_keeps ..) rfl ?_
            exact Keeps.refl _

theorem State.hostDenied_keeps : ∀ s f st a, Keeps 8388609 s (State.hostDenied s f st a) := by
  intro s f st a
  unfold State.hostDenied
  refine Keeps.ite ?_ ?_
  ·
    refine Keeps.step (State.firewallDenied_keeps ..) rfl ?_
    exact Keeps.refl _
  ·
    refine Keeps.step (State.log_keeps ..) rfl ?_
    exact Keeps.refl _

theorem State.hostAnswer_keeps : ∀ s f data poisoned, Keeps 2097152 s (State.hostAnswer s f data poisoned) := by
  intro s f data poisoned
  unfold State.hostAnswer
  refine Keeps.set_host rfl ?_
  exact Keeps.refl _

theorem State.hostRead_keeps : ∀ s f a n, Keeps 10485761 s (State.hostRead s f a n) := by
  intro s f a n
  unfold State.hostRead
  split
  ·
    rename_i y0 y1
    refine Keeps.ite ?_ ?_
    ·
      refine Keeps.set_host rfl ?_
      exact Keeps.refl _
    ·
      lift_lets -underBinder
      extract_lets -descend x2
      clear_value x2
      refine Keeps.step (State.hostAnswer_keeps ..) rfl ?_
      refine Keeps.step (State.readFailed_keeps ..) rfl ?_
      exact Keeps.refl _
  ·
    rename_i y3 y4
    refine Keeps.step (State.hostAnswer_keeps ..) rfl ?_
    refine Keeps.step (State.hostDenied_keeps ..) rfl ?_
    exact Keeps.refl _

theorem State.hostWrite_keeps : ∀ s f a data, Keeps 8388745 s (State.hostWrite s f a data) := by
  intro s f a data
  unfold State.hostWrite
  split
  ·
    rename_i y0 y1
    refine Keeps.step (State.putBytes_keeps ..) rfl ?_
    exact Keeps.refl _
  ·
    rename_i y2 y3
    refine Keeps.step (State.hostDenied_keeps ..) rfl ?_
    exact Keeps.refl _

theorem State.remoteBar_keeps : ∀ s f dev a n data, Keeps 12263609 s (State.remoteBar s f dev a n data) := by
  intro s f dev a n data
  unfold State.remoteBar
  lift_lets -underBinder
  extract_lets -descend x0 x1
  clear_value x0
  split
  ·
    rename_i y2
    unfold x1
    lift_lets -underBinder
    extract_lets -descend x3 x4
    clear_value x3
    have hx4 : Keeps 12263609 s x4 := by
      unfold x4
      refine Keeps.step (State.remoteError_keeps ..) rfl ?_
      exact Keeps.refl _
    clear_value x4
    refine Keeps.ite ?_ ?_
    ·
      refine Keeps.step (State.hostAnswer_keeps ..) rfl ?_
      exact hx4
    ·
      exact hx4
  ·
    rename_i y5 y6
    lift_lets -underBinder
    extract_lets -descend x7 x8 x9 x10
    clear_value x7
    clear_value x8
    clear_value x9
    have hx10 : Keeps 12263609 s x10 := by
      unfold x10
      refine Keeps.ite ?_ ?_
      ·
        refine Keeps.set_host rfl ?_
        exact Keeps.refl _
      ·
        exact Keeps.refl _
    clear_value x10
    refine KeepsOpt.getD ?_ ?_
    ·
      refine KeepsOpt.step (State.startTxn_keeps ..) rfl ?_
      exact hx10
    ·
      exact Keeps.refl _

theorem execRegisterWrite_keeps : ∀ req off size val s, KeepsOut 9536493 s (execRegisterWrite req off size val s) := by
  intro req off size val s
  unfold execRegisterWrite
  refine KeepsOut.next ?_
  refine Keeps.step (State.busWrite_keeps ..) rfl ?_
  exact Keeps.refl _

theorem execSplitLowWordRead_keeps : ∀ req off s, KeepsOut 11534403 s (execSplitLowWordRead req off s) := by
  intro req off s
  unfold execSplitLowWordRead
  split
  ·
    rename_i y0 y1 y2 y3
    have e4 : Keeps 11534403 s (y2) := by
      refine Keeps.snd_eq y3 ?_
      refine Keeps.step (State.busRead_keeps ..) rfl ?_
      exact Keeps.refl _
    refine KeepsOut.next ?_
    refine Keeps.set_host rfl ?_
    exact e4

theorem execSplitLowWordWrite_keeps : ∀ req off val s, KeepsOut 9536493 s (execSplitLowWordWrite req off val s) := by
  intro req off val s
  unfold execSplitLowWordWrite
  refine KeepsOut.next ?_
  refine Keeps.step (State.busWrite_keeps ..) rfl ?_
  exact Keeps.refl _

theorem execSplitHighWordWrite_keeps : ∀ req off val s, KeepsOut 9536493 s (execSplitHighWordWrite req off val s) := by
  intro req off val s
  unfold execSplitHighWordWrite
  refine KeepsOut.next ?_
  refine Keeps.step (State.busWrite_keeps ..) rfl ?_
  exact Keeps.refl _

theorem execHostBarRead_keeps : ∀ f bar off len s, KeepsOut 12263675 s (execHostBarRead f bar off len s) := by
  intro f bar off len s
  unfold execHostBarRead
  split
  ·
    rename_i y0
    split
    ·
      rename_i y1
      split
      ·
        rename_i y2
        refine KeepsOut.next ?_
        refine Keeps.step (State.hostAnswer_keeps ..) rfl ?_
        refine Keeps.step (State.hostDenied_keeps ..) rfl ?_
        exact Keeps.refl _
      ·
        rename_i y3
        split
        ·
          rename_i y4 y5 y6 y7
          have e8 : Keeps 12263675 s (y6) := by
            refine Keeps.snd_eq y7 ?_
            refine Keeps.step (State.busRead_keeps ..) rfl ?_
            exact Keeps.refl _
          refine KeepsOut.next ?_
          refine Keeps.step (State.hostAnswer_keeps ..) rfl ?_
          exact e8
    ·
      rename_i y9 y10
      split
      ·
        rename_i y11
        refine KeepsOut.next ?_
        refine Keeps.step (State.hostAnswer_keeps ..) rfl ?_
        refine Keeps.step (State.hostDenied_keeps ..) rfl ?_
        exact Keeps.refl _
      ·
        rename_i y12
        split
        ·
          rename_i y13 y14 y15 y16
          have e17 : Keeps 12263675 s (y15) := by
            refine Keeps.snd_eq y16 ?_
            refine Keeps.step (State.busRead_keeps ..) rfl ?_
            exact Keeps.refl _
          refine KeepsOut.next ?_
          refine Keeps.step (State.hostAnswer_keeps ..) rfl ?_
          exact e17
  ·
    rename_i y18
    split
    ·
      rename_i y19
      split
      ·
        rename_i y20 y21 y22 y23 y24 y25
        split
        ·
          rename_i y26
          refine KeepsOut.next ?_
          refine Keeps.step (State.hostRead_keeps ..) rfl ?_
          exact Keeps.refl _
        ·
          rename_i y27
          refine KeepsOut.next ?_
          refine Keeps.step (State.hostAnswer_keeps ..) rfl ?_
          refine Keeps.step (State.hostDenied_keeps ..) rfl ?_
          exact Keeps.refl _
      ·
        rename_i y28 y29 y30
        refine KeepsOut.next ?_
        refine Keeps.step (State.hostAnswer_keeps ..) rfl ?_
        refine Keeps.step (State.hostDenied_keeps ..) rfl ?_
        exact Keeps.refl _
    ·
      rename_i y31
      split
      ·
        rename_i y32
        split
        ·
          rename_i y33 y34 y35 y36
          split
          ·
            rename_i y37
            refine KeepsOut.next ?_
            refine Keeps.step (State.hostAnswer_keeps ..) rfl ?_
            refine Keeps.step (State.hostDenied_keeps ..) rfl ?_
            exact Keeps.refl _
          ·
            rename_i y38
            split
            ·
              rename_i y39
              refine KeepsOut.next ?_
              refine Keeps.step (State.hostRead_keeps ..) rfl ?_
              exact Keeps.refl _
            ·
              rename_i y40
              refine KeepsOut.next ?_
              refine Keeps.step (State.remoteBar_keeps ..) rfl ?_
              exact Keeps.refl _
      ·
        rename_i y41
        refine KeepsOut.next ?_
        refine Keeps.step (State.hostAnswer_keeps ..) rfl ?_
        refine Keeps.step (State.hostDenied_keeps ..) rfl ?_
        exact Keeps.refl _

theorem execHostBarWrite_keeps : ∀ f bar off data s, KeepsOut 12297213 s (execHostBarWrite f bar off data s) := by
  intro f bar off data s
  unfold execHostBarWrite
  lift_lets -underBinder
  extract_lets -descend x0
  clear_value x0
  split
  ·
    rename_i y1
    split
    ·
      rename_i y2
      split
      ·
        rename_i y3
        refine KeepsOut.next ?_
        refine Keeps.step (State.hostDenied_keeps ..) rfl ?_
        exact Keeps.refl _
      ·
        rename_i y4
        refine KeepsOut.next ?_
        refine Keeps.step (State.busWrite_keeps ..) rfl ?_
        exact Keeps.refl _
    ·
      rename_i y5 y6
      split
      ·
        rename_i y7
        refine KeepsOut.next ?_
        refine Keeps.step (State.hostDenied_keeps ..) rfl ?_
        exact Keeps.refl _
      ·
        rename_i y8
        refine KeepsOut.next ?_
        refine Keeps.step (State.busWrite_keeps ..) rfl ?_
        exact Keeps.refl _
  ·
    rename_i y9
    split
    ·
      rename_i y10
      split
      ·
        rename_i y11 y12 y13 y14 y15 y16
        split
        ·
          rename_i y17
          refine KeepsOut.next ?_
          refine Keeps.step (State.hostWrite_keeps ..) rfl ?_
          exact Keeps.refl _
        ·
          rename_i y18
          refine KeepsOut.next ?_
          refine Keeps.step (State.hostDenied_keeps ..) rfl ?_
          exact Keeps.refl _
      ·
        rename_i y19 y20 y21
        refine KeepsOut.next ?_
        refine Keeps.step (State.hostDenied_keeps ..) rfl ?_
        exact Keeps.refl _
    ·
      rename_i y22
      split
      ·
        rename_i y23
        split
        ·
          rename_i y24 y25 y26 y27
          split
          ·
            rename_i y28
            refine KeepsOut.next ?_
            refine Keeps.step (State.hostDenied_keeps ..) rfl ?_
            exact Keeps.refl _
          ·
            rename_i y29
            split
            ·
              rename_i y30
              refine KeepsOut.next ?_
              refine Keeps.step (State.hostWrite_keeps ..) rfl ?_
              exact Keeps.refl _
            ·
              rename_i y31
              refine KeepsOut.next ?_
              refine Keeps.step (State.remoteBar_keeps ..) rfl ?_
              exact Keeps.refl _
      ·
        rename_i y32
        refine KeepsOut.next ?_
        refine Keeps.step (State.hostDenied_keeps ..) rfl ?_
        exact Keeps.refl _

theorem execCoreSeqStop_keeps : ∀ req c s, KeepsOut 9536489 s (execCoreSeqStop req c s) := by
  intro req c s
  unfold execCoreSeqStop
  refine KeepsOut.next ?_
  refine Keeps.ite ?_ ?_
  ·
    refine Keeps.step (State.writeReg_keeps ..) rfl ?_
    exact Keeps.refl _
  ·
    refine Keeps.step (State.regRefused_keeps ..) rfl ?_
    exact Keeps.refl _

theorem execCoreSeqIcinv_keeps : ∀ req c s, KeepsOut 9536489 s (execCoreSeqIcinv req c s) := by
  intro req c s
  unfold execCoreSeqIcinv
  refine KeepsOut.next ?_
  refine Keeps.ite ?_ ?_
  ·
    refine Keeps.step (State.writeReg_keeps ..) rfl ?_
    exact Keeps.refl _
  ·
    refine Keeps.step (State.regRefused_keeps ..) rfl ?_
    exact Keeps.refl _

end Sys2Proof.Machine
end

