-- ==== Sys2Proof/Laws/KeepsBundle.lean ====
section
/-! SUPPORT. What each operation and each command of Machine/Bundle.lean touches, one lemma each: the bits of its mask are the
parts of the state that it may change; the queue and the canonical form of the memories it keeps. -/
namespace Sys2Proof.Machine

theorem State.putS_keeps : ∀ s c i v, Keeps 32 s (State.putS s c i v) := by
  intro s c i v
  unfold State.putS
  refine Keeps.step (State.setCore_keeps ..) rfl ?_
  exact Keeps.refl _

theorem State.putA_keeps : ∀ s c i v, Keeps 32 s (State.putA s c i v) := by
  intro s c i v
  unfold State.putA
  refine Keeps.step (State.setCore_keeps ..) rfl ?_
  exact Keeps.refl _

theorem State.putB_keeps : ∀ s c i v, Keeps 32 s (State.putB s c i v) := by
  intro s c i v
  unfold State.putB
  refine Keeps.step (State.setCore_keeps ..) rfl ?_
  exact Keeps.refl _

theorem State.putV_keeps : ∀ s c i v, Keeps 32 s (State.putV s c i v) := by
  intro s c i v
  unfold State.putV
  refine Keeps.step (State.setCore_keeps ..) rfl ?_
  exact Keeps.refl _

theorem State.putP_keeps : ∀ s c i v, Keeps 32 s (State.putP s c i v) := by
  intro s c i v
  unfold State.putP
  refine Keeps.step (State.setCore_keeps ..) rfl ?_
  exact Keeps.refl _

theorem State.putLoaded_keeps : ∀ s c d n v, Keeps 32 s (State.putLoaded s c d n v) := by
  intro s c d n v
  unfold State.putLoaded
  split
  ·
    rename_i y0 y1
    refine Keeps.step (State.putS_keeps ..) rfl ?_
    exact Keeps.refl _
  ·
    rename_i y2 y3
    refine Keeps.step (State.putV_keeps ..) rfl ?_
    exact Keeps.refl _
  ·
    rename_i y4 y5 y6
    exact Keeps.refl _

theorem State.effLoad_keeps : ∀ s c pc slot bnd d segs n, Keeps 11534435 s (State.effLoad s c pc slot bnd d segs n) := by
  intro s c pc slot bnd d segs n
  unfold State.effLoad
  lift_lets -underBinder
  extract_lets -descend x0 x1 x2
  clear_value x0
  clear_value x1
  clear_value x2
  refine Keeps.ite ?_ ?_
  ·
    split
    ·
      rename_i y3 y4 y5 y6
      have e7 : Keeps 11534435 s (y5) := by
        refine Keeps.snd_eq y6 ?_
        refine Keeps.step (State.busRead_keeps ..) rfl ?_
        exact Keeps.refl _
      refine Keeps.step (State.putLoaded_keeps ..) rfl ?_
      exact e7
  ·
    refine Keeps.ite ?_ ?_
    ·
      refine Keeps.ite ?_ ?_
      ·
        exact Keeps.refl _
      ·
        refine Keeps.step (State.setCore_keeps ..) rfl ?_
        exact Keeps.refl _
    ·
      refine Keeps.step (State.putLoaded_keeps ..) rfl ?_
      exact Keeps.refl _

theorem State.effStore_keeps : ∀ s c segs n v, Keeps 9536493 s (State.effStore s c segs n v) := by
  intro s c segs n v
  unfold State.effStore
  lift_lets -underBinder
  extract_lets -descend x0
  clear_value x0
  refine Keeps.ite ?_ ?_
  ·
    refine Keeps.step (State.busWrite_keeps ..) rfl ?_
    exact Keeps.refl _
  ·
    refine Keeps.fold ?_ ?_
    ·
      exact Keeps.refl _
    ·
      intro z1 q2 h3
      refine Keeps.step (State.putNat_keeps ..) rfl ?_
      exact h3

theorem State.probeSessions_keeps : ∀ s c, Keeps 65536 s (State.probeSessions s c) := by
  intro s c
  unfold State.probeSessions
  refine Keeps.fold ?_ ?_
  ·
    exact Keeps.refl _
  ·
    intro z0 q1 h2
    refine Keeps.step (State.queueControl_keeps ..) rfl ?_
    exact h2

theorem State.sendSem_keeps : ∀ s c n acquire, Keeps 64 s (State.sendSem s c n acquire) := by
  intro s c n acquire
  unfold State.sendSem
  lift_lets -underBinder
  extract_lets -descend x0 x1
  clear_value x0
  clear_value x1
  refine Keeps.step (State.setSch_keeps ..) rfl ?_
  exact Keeps.refl _

theorem State.sendBob_keeps : ∀ s n op, Keeps 64 s (State.sendBob s n op) := by
  intro s n op
  unfold State.sendBob
  refine Keeps.step (State.setSch_keeps ..) rfl ?_
  exact Keeps.refl _

theorem State.applyEff_keeps : ∀ s c pc slot snap e, Keeps 28410863 s (State.applyEff s c pc slot snap e) := by
  intro s c pc slot snap e
  unfold State.applyEff
  lift_lets -underBinder
  extract_lets -descend x0
  clear_value x0
  split
  ·
    rename_i y1 y2 y3
    refine Keeps.step (State.putS_keeps ..) rfl ?_
    exact Keeps.refl _
  ·
    rename_i y4 y5 y6
    refine Keeps.step (State.putA_keeps ..) rfl ?_
    exact Keeps.refl _
  ·
    rename_i y7 y8 y9
    refine Keeps.step (State.putB_keeps ..) rfl ?_
    exact Keeps.refl _
  ·
    rename_i y10 y11 y12
    refine Keeps.step (State.putV_keeps ..) rfl ?_
    exact Keeps.refl _
  ·
    rename_i y13 y14 y15
    refine Keeps.step (State.putP_keeps ..) rfl ?_
    exact Keeps.refl _
  ·
    rename_i y16 y17 y18 y19 y20
    refine Keeps.step (State.effLoad_keeps ..) rfl ?_
    exact Keeps.refl _
  ·
    rename_i y21 y22 y23 y24
    refine Keeps.step (State.effStore_keeps ..) rfl ?_
    exact Keeps.refl _
  ·
    rename_i y25 y26
    refine Keeps.step (State.setCore_keeps ..) rfl ?_
    exact Keeps.refl _
  ·
    rename_i y27 y28
    refine Keeps.step (State.putS_keeps ..) rfl ?_
    refine Keeps.step (State.setCore_keeps ..) rfl ?_
    exact Keeps.refl _
  ·
    rename_i y29
    refine Keeps.step (State.abortAll_keeps ..) rfl ?_
    exact Keeps.refl _
  ·
    rename_i y30 y31
    lift_lets -underBinder
    extract_lets -descend x32 x33 x34 x35
    clear_value x32
    clear_value x33
    clear_value x34
    have hx35 : Keeps 28410863 s x35 := by
      unfold x35
      refine Keeps.set_host rfl ?_
      exact Keeps.refl _
    clear_value x35
    refine Keeps.step (State.setDmaList_keeps ..) rfl ?_
    exact hx35
  ·
    rename_i y36 y37 y38
    refine Keeps.step (State.putS_keeps ..) rfl ?_
    refine Keeps.step (State.setCore_keeps ..) rfl ?_
    exact Keeps.refl _
  ·
    rename_i y39 y40 y41 y42
    lift_lets -underBinder
    extract_lets -descend x43
    clear_value x43
    refine Keeps.step (State.setCore_keeps ..) rfl ?_
    exact Keeps.refl _
  ·
    rename_i y44 y45 y46
    split
    ·
      rename_i y47 y48
      exact Keeps.refl _
    ·
      rename_i y49 y50 y51 y52
      refine Keeps.step (State.putV_keeps ..) rfl ?_
      refine Keeps.step (State.setCore_keeps ..) rfl ?_
      exact Keeps.refl _
  ·
    rename_i y53 y54
    lift_lets -underBinder
    extract_lets -descend x55
    have hx55 : Keeps 28410863 s x55 := by
      unfold x55
      refine Keeps.step (State.setCore_keeps ..) rfl ?_
      exact Keeps.refl _
    clear_value x55
    refine Keeps.ite ?_ ?_
    ·
      refine Keeps.step (State.probeSessions_keeps ..) rfl ?_
      exact hx55
    ·
      exact hx55
  ·
    rename_i y56 y57
    refine Keeps.step (State.sendSem_keeps ..) rfl ?_
    refine Keeps.step (State.setCore_keeps ..) rfl ?_
    exact Keeps.refl _
  ·
    rename_i y58 y59
    refine Keeps.step (State.putS_keeps ..) rfl ?_
    refine Keeps.step (State.setCore_keeps ..) rfl ?_
    exact Keeps.refl _
  ·
    rename_i y60 y61
    refine Keeps.step (State.sendSem_keeps ..) rfl ?_
    exact Keeps.refl _
  ·
    rename_i y62 y63 y64 y65
    lift_lets -underBinder
    extract_lets -descend x66 x67 x68 x69 x70
    clear_value x66
    clear_value x67
    have hx68 : Keeps 28410863 s x68 := by
      unfold x68
      refine Keeps.set_host rfl ?_
      exact Keeps.refl _
    clear_value x68
    clear_value x69
    have hx70 : Keeps 28410863 s x70 := by
      unfold x70
      refine Keeps.step (State.setCore_keeps ..) rfl ?_
      exact hx68
    clear_value x70
    refine Keeps.step (State.sendBob_keeps ..) rfl ?_
    exact hx70
  ·
    rename_i y71 y72 y73
    refine Keeps.step (State.sendBob_keeps ..) rfl ?_
    refine Keeps.step (State.setCore_keeps ..) rfl ?_
    exact Keeps.refl _
  ·
    rename_i y74 y75
    refine Keeps.step (State.putS_keeps ..) rfl ?_
    refine Keeps.step (State.setCore_keeps ..) rfl ?_
    exact Keeps.refl _
  ·
    rename_i y76 y77
    refine Keeps.step (State.setCore_keeps ..) rfl ?_
    exact Keeps.refl _
  ·
    rename_i y78
    refine Keeps.step (State.invalidateIcache_keeps ..) rfl ?_
    exact Keeps.refl _
  ·
    rename_i y79 y80
    refine Keeps.step (State.setCore_keeps ..) rfl ?_
    exact Keeps.refl _
  ·
    rename_i y81 y82 y83
    exact Keeps.refl _
  ·
    rename_i y84 y85 y86 y87
    lift_lets -underBinder
    extract_lets -descend x88
    clear_value x88
    refine Keeps.step (State.setCore_keeps ..) rfl ?_
    exact Keeps.refl _
  ·
    rename_i y89 y90 y91
    refine Keeps.step (State.fpEvent_keeps ..) rfl ?_
    exact Keeps.refl _

theorem State.advance_keeps : ∀ s c pc effs, Keeps 33 s (State.advance s c pc effs) := by
  intro s c pc effs
  unfold State.advance
  lift_lets -underBinder
  extract_lets -descend x0 x1
  clear_value x0
  clear_value x1
  split
  ·
    rename_i y2 y3 y4 y5
    lift_lets -underBinder
    extract_lets -descend x6 x7
    have hx6 : Keeps 33 s x6 := by
      unfold x6
      refine Keeps.step (State.setCore_keeps ..) rfl ?_
      exact Keeps.refl _
    clear_value x6
    have hx7 : Keeps 33 s x7 := by
      unfold x7
      refine Keeps.step (State.setFld_keeps ..) rfl ?_
      exact hx6
    clear_value x7
    refine Keeps.step (State.setReg_keeps ..) rfl ?_
    exact hx7

theorem State.holdBundle_keeps : ∀ s c pc slot cause effs, Keeps 28410863 s (State.holdBundle s c pc slot cause effs) := by
  intro s c pc slot cause effs
  unfold State.holdBundle
  lift_lets -underBinder
  extract_lets -descend x0 x1
  have hx0 : Keeps 28410863 s x0 := by
    unfold x0
    refine Keeps.step (State.setFld_keeps ..) rfl ?_
    refine Keeps.step (State.setFld_keeps ..) rfl ?_
    exact Keeps.refl _
  clear_value x0
  have hx1 : Keeps 28410863 s x1 := by
    unfold x1
    refine Keeps.step (State.add64_keeps ..) rfl ?_
    exact hx0
  clear_value x1
  refine Keeps.fold ?_ ?_
  ·
    exact hx1
  ·
    intro z2 q3 h4
    refine Keeps.step (State.applyEff_keeps ..) rfl ?_
    exact h4

theorem State.faultBundle_keeps : ∀ s c pc slot code write bnd addr, Keeps 8388641 s (State.faultBundle s c pc slot code write bnd addr) := by
  intro s c pc slot code write bnd addr
  unfold State.faultBundle
  lift_lets -underBinder
  extract_lets -descend x0 x1 x2 x3 x4 x5 x6 x7
  clear_value x0
  have hx1 : Keeps 8388641 s x1 := by
    unfold x1
    refine Keeps.step (State.readFailed_keeps ..) rfl ?_
    exact Keeps.refl _
  clear_value x1
  clear_value x2
  have hx3 : Keeps 8388641 s x3 := by
    unfold x3
    refine Keeps.step (State.setReg_keeps ..) rfl ?_
    exact hx1
  clear_value x3
  have hx4 : Keeps 8388641 s x4 := by
    unfold x4
    refine Keeps.step (State.setReg_keeps ..) rfl ?_
    exact hx3
  clear_value x4
  have hx5 : Keeps 8388641 s x5 := by
    unfold x5
    refine Keeps.step (State.setReg_keeps ..) rfl ?_
    exact hx4
  clear_value x5
  have hx6 : Keeps 8388641 s x6 := by
    unfold x6
    refine Keeps.step (State.setFld_keeps ..) rfl ?_
    refine Keeps.step (State.setFld_keeps ..) rfl ?_
    exact hx5
  clear_value x6
  clear_value x7
  refine Keeps.step (State.setCore_keeps ..) rfl ?_
  exact hx6

theorem State.fetchHold_keeps : ∀ s c pc line, Keeps 28410863 s (State.fetchHold s c pc line) := by
  intro s c pc line
  unfold State.fetchHold
  lift_lets -underBinder
  extract_lets -descend x0 x1
  clear_value x0
  have hx1 : Keeps 28410863 s x1 := by
    unfold x1
    refine Keeps.ite ?_ ?_
    ·
      exact Keeps.refl _
    ·
      refine Keeps.step (State.inc_keeps ..) rfl ?_
      refine Keeps.step (State.setCore_keeps ..) rfl ?_
      exact Keeps.refl _
  clear_value x1
  refine Keeps.step (State.holdBundle_keeps ..) rfl ?_
  exact hx1

theorem State.issueBundle_keeps : ∀ s c pc ps, Keeps 28410863 s (State.issueBundle s c pc ps) := by
  intro s c pc ps
  unfold State.issueBundle
  lift_lets -underBinder
  extract_lets -descend x0 x1 x2 x3 x4
  clear_value x0
  clear_value x1
  have hx2 : Keeps 28410863 s x2 := by
    unfold x2
    refine Keeps.step (State.setFld_keeps ..) rfl ?_
    refine Keeps.step (State.setFld_keeps ..) rfl ?_
    exact Keeps.refl _
  clear_value x2
  have hx3 : Keeps 28410863 s x3 := by
    unfold x3
    refine Keeps.step (State.add64_keeps ..) rfl ?_
    exact hx2
  clear_value x3
  have hx4 : Keeps 28410863 s x4 := by
    unfold x4
    refine Keeps.fold ?_ ?_
    ·
      exact hx3
    ·
      intro z5 q6 h7
      refine Keeps.step (State.applyEff_keeps ..) rfl ?_
      exact h7
  clear_value x4
  refine Keeps.step (State.advance_keeps ..) rfl ?_
  exact hx4

theorem State.finishBundle_keeps : ∀ s c plans, Keeps 28410863 s (State.finishBundle s c plans) := by
  intro s c plans
  unfold State.finishBundle
  lift_lets -underBinder
  extract_lets -descend x0 x1
  clear_value x0
  clear_value x1
  split
  ·
    rename_i y2 y3 y4
    refine Keeps.step (State.fetchHold_keeps ..) rfl ?_
    exact Keeps.refl _
  ·
    rename_i y5 y6
    split
    ·
      rename_i y7 y8 y9
      refine Keeps.step (State.faultBundle_keeps ..) rfl ?_
      exact Keeps.refl _
    ·
      rename_i y10 y11
      split
      ·
        rename_i y12 y13 y14 y15 y16
        refine Keeps.step (State.holdBundle_keeps ..) rfl ?_
        exact Keeps.refl _
      ·
        rename_i y17 y18
        refine Keeps.ite ?_ ?_
        ·
          refine Keeps.step (State.holdBundle_keeps ..) rfl ?_
          exact Keeps.refl _
        ·
          split
          ·
            rename_i y19 y20 y21 y22 y23 y24 y25
            refine Keeps.step (State.faultBundle_keeps ..) rfl ?_
            exact Keeps.refl _
          ·
            rename_i y26 y27
            split
            ·
              rename_i y28 y29 y30 y31 y32
              refine Keeps.step (State.holdBundle_keeps ..) rfl ?_
              exact Keeps.refl _
            ·
              rename_i y33 y34
              refine Keeps.step (State.issueBundle_keeps ..) rfl ?_
              exact Keeps.refl _
  ·
    rename_i y35 y36 y37 y38 y39 y40
    refine Keeps.step (State.faultBundle_keeps ..) rfl ?_
    exact Keeps.refl _

theorem State.presentSlot_keeps : ∀ s i mine judge, Keeps 28410863 s (State.presentSlot s i mine judge) := by
  intro s i mine judge
  unfold State.presentSlot
  lift_lets -underBinder
  extract_lets -descend x0 x1 x2 x3 x4
  clear_value x0
  clear_value x1
  clear_value x2
  clear_value x3
  clear_value x4
  refine Keeps.ite ?_ ?_
  ·
    exact Keeps.refl _
  ·
    refine Keeps.ite ?_ ?_
    ·
      refine Keeps.step (State.finishBundle_keeps ..) rfl ?_
      refine Keeps.step (State.setCore_keeps ..) rfl ?_
      exact Keeps.refl _
    ·
      refine Keeps.step (State.setCore_keeps ..) rfl ?_
      exact Keeps.refl _

theorem execScalarArithmetic_keeps : ∀ op i s, KeepsOut 28410863 s (execScalarArithmetic op i s) := by
  intro op i s
  unfold execScalarArithmetic
  refine KeepsOut.next ?_
  refine Keeps.step (State.presentSlot_keeps ..) rfl ?_
  exact Keeps.refl _

theorem execBr_keeps : ∀ i s, KeepsOut 28410863 s (execBr i s) := by
  intro i s
  unfold execBr
  refine KeepsOut.next ?_
  refine Keeps.step (State.presentSlot_keeps ..) rfl ?_
  exact Keeps.refl _

theorem execBrr_keeps : ∀ i s, KeepsOut 28410863 s (execBrr i s) := by
  intro i s
  unfold execBrr
  refine KeepsOut.next ?_
  refine Keeps.step (State.presentSlot_keeps ..) rfl ?_
  exact Keeps.refl _

theorem execCall_keeps : ∀ i s, KeepsOut 28410863 s (execCall i s) := by
  intro i s
  unfold execCall
  refine KeepsOut.next ?_
  refine Keeps.step (State.presentSlot_keeps ..) rfl ?_
  exact Keeps.refl _

theorem execRet_keeps : ∀ i s, KeepsOut 28410863 s (execRet i s) := by
  intro i s
  unfold execRet
  refine KeepsOut.next ?_
  refine Keeps.step (State.presentSlot_keeps ..) rfl ?_
  exact Keeps.refl _

theorem execLoop_keeps : ∀ i s, KeepsOut 28410863 s (execLoop i s) := by
  intro i s
  unfold execLoop
  refine KeepsOut.next ?_
  refine Keeps.step (State.presentSlot_keeps ..) rfl ?_
  exact Keeps.refl _

theorem execAddressArithmetic_keeps : ∀ op i s, KeepsOut 28410863 s (execAddressArithmetic op i s) := by
  intro op i s
  unfold execAddressArithmetic
  refine KeepsOut.next ?_
  refine Keeps.step (State.presentSlot_keeps ..) rfl ?_
  exact Keeps.refl _

theorem execBset_keeps : ∀ i s, KeepsOut 28410863 s (execBset i s) := by
  intro i s
  unfold execBset
  refine KeepsOut.next ?_
  refine Keeps.step (State.presentSlot_keeps ..) rfl ?_
  exact Keeps.refl _

theorem execScalarLoad_keeps : ∀ i s, KeepsOut 28410863 s (execScalarLoad i s) := by
  intro i s
  unfold execScalarLoad
  refine KeepsOut.next ?_
  refine Keeps.step (State.presentSlot_keeps ..) rfl ?_
  exact Keeps.refl _

theorem execScalarStore_keeps : ∀ i s, KeepsOut 28410863 s (execScalarStore i s) := by
  intro i s
  unfold execScalarStore
  refine KeepsOut.next ?_
  refine Keeps.step (State.presentSlot_keeps ..) rfl ?_
  exact Keeps.refl _

theorem execMemoryResponse_keeps : ∀ c n s, KeepsOut 8388641 s (execMemoryResponse c n s) := by
  intro c n s
  unfold execMemoryResponse
  lift_lets -underBinder
  extract_lets -descend x0
  clear_value x0
  split
  ·
    rename_i y1 y2 y3 y4 y5 y6 y7 y8 y9 y10 y11
    lift_lets -underBinder
    extract_lets -descend x12
    have hx12 : Keeps 8388641 s x12 := by
      unfold x12
      refine Keeps.step (State.setCore_keeps ..) rfl ?_
      exact Keeps.refl _
    clear_value x12
    split
    ·
      rename_i y13
      refine KeepsOut.next ?_
      refine Keeps.ite ?_ ?_
      ·
        refine Keeps.step (State.faultBundle_keeps ..) rfl ?_
        exact hx12
      ·
        exact hx12
    ·
      rename_i y14
      refine KeepsOut.next ?_
      refine Keeps.ite ?_ ?_
      ·
        refine Keeps.step (State.putLoaded_keeps ..) rfl ?_
        exact hx12
      ·
        exact hx12
  ·
    rename_i y15 y16
    refine KeepsOut.next ?_
    exact Keeps.refl _

theorem execVectorArithmetic_keeps : ∀ op fmt i s, KeepsOut 28410863 s (execVectorArithmetic op fmt i s) := by
  intro op fmt i s
  unfold execVectorArithmetic
  refine KeepsOut.next ?_
  refine Keeps.step (State.presentSlot_keeps ..) rfl ?_
  exact Keeps.refl _

theorem execVcvt_keeps : ∀ i s, KeepsOut 28410863 s (execVcvt i s) := by
  intro i s
  unfold execVcvt
  lift_lets -underBinder
  extract_lets -descend x0
  clear_value x0
  split
  ·
    rename_i y1 y2 y3 y4
    have e5 : Keeps 28410863 s (y3) := by
      refine Keeps.snd_eq y4 ?_
      refine Keeps.step (State.fresh_keeps ..) rfl ?_
      exact Keeps.refl _
    lift_lets -underBinder
    extract_lets -descend x6
    refine KeepsOut.next ?_
    refine Keeps.step (State.presentSlot_keeps ..) rfl ?_
    exact e5

theorem execMxIssue_keeps : ∀ i s, KeepsOut 28410863 s (execMxIssue i s) := by
  intro i s
  unfold execMxIssue
  refine KeepsOut.next ?_
  refine Keeps.step (State.presentSlot_keeps ..) rfl ?_
  exact Keeps.refl _

theorem execMxWait_keeps : ∀ i s, KeepsOut 28410863 s (execMxWait i s) := by
  intro i s
  unfold execMxWait
  refine KeepsOut.next ?_
  refine Keeps.step (State.presentSlot_keeps ..) rfl ?_
  exact Keeps.refl _

theorem execMxPoll_keeps : ∀ i s, KeepsOut 28410863 s (execMxPoll i s) := by
  intro i s
  unfold execMxPoll
  refine KeepsOut.next ?_
  refine Keeps.step (State.presentSlot_keeps ..) rfl ?_
  exact Keeps.refl _

theorem execMxAbort_keeps : ∀ i s, KeepsOut 28410863 s (execMxAbort i s) := by
  intro i s
  unfold execMxAbort
  refine KeepsOut.next ?_
  refine Keeps.step (State.presentSlot_keeps ..) rfl ?_
  exact Keeps.refl _

theorem execSfn_keeps : ∀ i s, KeepsOut 28410863 s (execSfn i s) := by
  intro i s
  unfold execSfn
  refine KeepsOut.next ?_
  refine Keeps.step (State.presentSlot_keeps ..) rfl ?_
  exact Keeps.refl _

theorem execVld_keeps : ∀ i s, KeepsOut 28410863 s (execVld i s) := by
  intro i s
  unfold execVld
  refine KeepsOut.next ?_
  refine Keeps.step (State.presentSlot_keeps ..) rfl ?_
  exact Keeps.refl _

theorem execVst_keeps : ∀ i s, KeepsOut 28410863 s (execVst i s) := by
  intro i s
  unfold execVst
  refine KeepsOut.next ?_
  refine Keeps.step (State.presentSlot_keeps ..) rfl ?_
  exact Keeps.refl _

theorem execVldS_keeps : ∀ i s, KeepsOut 28410863 s (execVldS i s) := by
  intro i s
  unfold execVldS
  refine KeepsOut.next ?_
  refine Keeps.step (State.presentSlot_keeps ..) rfl ?_
  exact Keeps.refl _

theorem execVstS_keeps : ∀ i s, KeepsOut 28410863 s (execVstS i s) := by
  intro i s
  unfold execVstS
  refine KeepsOut.next ?_
  refine Keeps.step (State.presentSlot_keeps ..) rfl ?_
  exact Keeps.refl _

theorem execMovSv_keeps : ∀ i s, KeepsOut 28410863 s (execMovSv i s) := by
  intro i s
  unfold execMovSv
  refine KeepsOut.next ?_
  refine Keeps.step (State.presentSlot_keeps ..) rfl ?_
  exact Keeps.refl _

theorem execMovVs_keeps : ∀ i s, KeepsOut 28410863 s (execMovVs i s) := by
  intro i s
  unfold execMovVs
  refine KeepsOut.next ?_
  refine Keeps.step (State.presentSlot_keeps ..) rfl ?_
  exact Keeps.refl _

theorem execMovV_keeps : ∀ i s, KeepsOut 28410863 s (execMovV i s) := by
  intro i s
  unfold execMovV
  refine KeepsOut.next ?_
  refine Keeps.step (State.presentSlot_keeps ..) rfl ?_
  exact Keeps.refl _

theorem execDmaQ_keeps : ∀ i s, KeepsOut 28410863 s (execDmaQ i s) := by
  intro i s
  unfold execDmaQ
  refine KeepsOut.next ?_
  refine Keeps.step (State.presentSlot_keeps ..) rfl ?_
  exact Keeps.refl _

theorem execDmaWait_keeps : ∀ i s, KeepsOut 28410863 s (execDmaWait i s) := by
  intro i s
  unfold execDmaWait
  refine KeepsOut.next ?_
  refine Keeps.step (State.presentSlot_keeps ..) rfl ?_
  exact Keeps.refl _

theorem execSnd_keeps : ∀ i s, KeepsOut 28410863 s (execSnd i s) := by
  intro i s
  unfold execSnd
  refine KeepsOut.next ?_
  refine Keeps.step (State.presentSlot_keeps ..) rfl ?_
  exact Keeps.refl _

theorem execRcv_keeps : ∀ i s, KeepsOut 28410863 s (execRcv i s) := by
  intro i s
  unfold execRcv
  refine KeepsOut.next ?_
  refine Keeps.step (State.presentSlot_keeps ..) rfl ?_
  exact Keeps.refl _

theorem execFenceCore_keeps : ∀ i s, KeepsOut 28410863 s (execFenceCore i s) := by
  intro i s
  unfold execFenceCore
  refine KeepsOut.next ?_
  refine Keeps.step (State.presentSlot_keeps ..) rfl ?_
  exact Keeps.refl _

theorem execFenceDevice_keeps : ∀ i s, KeepsOut 28410863 s (execFenceDevice i s) := by
  intro i s
  unfold execFenceDevice
  refine KeepsOut.next ?_
  refine Keeps.step (State.presentSlot_keeps ..) rfl ?_
  exact Keeps.refl _

theorem execFencePod_keeps : ∀ i s, KeepsOut 28410863 s (execFencePod i s) := by
  intro i s
  unfold execFencePod
  refine KeepsOut.next ?_
  refine Keeps.step (State.presentSlot_keeps ..) rfl ?_
  exact Keeps.refl _

theorem execFenceComplete_keeps : ∀ c s, KeepsOut 32 s (execFenceComplete c s) := by
  intro c s
  unfold execFenceComplete
  lift_lets -underBinder
  extract_lets -descend x0
  clear_value x0
  split
  ·
    rename_i y1 y2
    refine KeepsOut.next ?_
    exact Keeps.refl _
  ·
    rename_i y3 y4 y5
    split
    ·
      rename_i y6
      refine KeepsOut.next ?_
      refine Keeps.step (State.setCore_keeps ..) rfl ?_
      exact Keeps.refl _
    ·
      rename_i y7
      refine KeepsOut.next ?_
      exact Keeps.refl _

theorem execSemAcq_keeps : ∀ i s, KeepsOut 28410863 s (execSemAcq i s) := by
  intro i s
  unfold execSemAcq
  refine KeepsOut.next ?_
  refine Keeps.step (State.presentSlot_keeps ..) rfl ?_
  exact Keeps.refl _

theorem execSemRel_keeps : ∀ i s, KeepsOut 28410863 s (execSemRel i s) := by
  intro i s
  unfold execSemRel
  refine KeepsOut.next ?_
  refine Keeps.step (State.presentSlot_keeps ..) rfl ?_
  exact Keeps.refl _

theorem execBobFadd_keeps : ∀ i s, KeepsOut 28410863 s (execBobFadd i s) := by
  intro i s
  unfold execBobFadd
  refine KeepsOut.next ?_
  refine Keeps.step (State.presentSlot_keeps ..) rfl ?_
  exact Keeps.refl _

theorem execBobWait_keeps : ∀ i s, KeepsOut 28410863 s (execBobWait i s) := by
  intro i s
  unfold execBobWait
  refine KeepsOut.next ?_
  refine Keeps.step (State.presentSlot_keeps ..) rfl ?_
  exact Keeps.refl _

theorem execPcmp_keeps : ∀ i s, KeepsOut 28410863 s (execPcmp i s) := by
  intro i s
  unfold execPcmp
  refine KeepsOut.next ?_
  refine Keeps.step (State.presentSlot_keeps ..) rfl ?_
  exact Keeps.refl _

theorem execPlog_keeps : ∀ i s, KeepsOut 28410863 s (execPlog i s) := by
  intro i s
  unfold execPlog
  refine KeepsOut.next ?_
  refine Keeps.step (State.presentSlot_keeps ..) rfl ?_
  exact Keeps.refl _

theorem execIcinv_keeps : ∀ i s, KeepsOut 28410863 s (execIcinv i s) := by
  intro i s
  unfold execIcinv
  refine KeepsOut.next ?_
  refine Keeps.step (State.presentSlot_keeps ..) rfl ?_
  exact Keeps.refl _

theorem execHalt_keeps : ∀ i s, KeepsOut 28410863 s (execHalt i s) := by
  intro i s
  unfold execHalt
  refine KeepsOut.next ?_
  refine Keeps.step (State.presentSlot_keeps ..) rfl ?_
  exact Keeps.refl _

theorem State.fillLine_keeps : ∀ s c line, Keeps 16777248 s (State.fillLine s c line) := by
  intro s c line
  unfold State.fillLine
  lift_lets -underBinder
  extract_lets -descend x0 x1 x2
  clear_value x0
  clear_value x1
  clear_value x2
  refine Keeps.ite ?_ ?_
  ·
    exact Keeps.refl _
  ·
    refine Keeps.ite ?_ ?_
    ·
      refine Keeps.step (State.setCore_keeps ..) rfl ?_
      exact Keeps.refl _
    ·
      split
      ·
        rename_i y3 y4 y5 y6
        have e7 : Keeps 16777248 s (y5) := by
          refine Keeps.snd_eq y6 ?_
          refine Keeps.step (State.fresh_keeps ..) rfl ?_
          exact Keeps.refl _
        lift_lets -underBinder
        extract_lets -descend x8 x9
        clear_value x8
        clear_value x9
        refine Keeps.step (State.setCore_keeps ..) rfl ?_
        exact e7

theorem execIcacheMissFill_keeps : ∀ c parityError s, KeepsOut 16777249 s (execIcacheMissFill c parityError s) := by
  intro c parityError s
  unfold execIcacheMissFill
  split
  ·
    rename_i y0 y1
    refine KeepsOut.next ?_
    exact Keeps.refl _
  ·
    rename_i y2 y3 y4
    split
    ·
      rename_i y5
      refine KeepsOut.next ?_
      refine Keeps.step (State.inc_keeps ..) rfl ?_
      exact Keeps.refl _
    ·
      rename_i y6
      lift_lets -underBinder
      extract_lets -descend x7 x8 x9
      clear_value x7
      have hx8 : Keeps 16777249 s x8 := by
        unfold x8
        refine Keeps.fold ?_ ?_
        ·
          exact Keeps.refl _
        ·
          intro z10 q11 h12
          refine Keeps.step (State.fillLine_keeps ..) rfl ?_
          exact h12
      clear_value x8
      clear_value x9
      refine KeepsOut.next ?_
      refine Keeps.step (State.setCore_keeps ..) rfl ?_
      exact hx8

end Sys2Proof.Machine
end

