-- ==== Sys2Proof/Laws/KeepsResets.lean ====
section
/-! SUPPORT. What each operation and each command of Machine/Resets.lean touches, one lemma each: the bits of its mask are the
parts of the state that it may change; the queue and the canonical form of the memories it keeps. -/
namespace Sys2Proof.Machine

theorem State.resetCore_keeps : ∀ s c, Keeps 97 s (State.resetCore s c) := by
  intro s c
  unfold State.resetCore
  lift_lets -underBinder
  extract_lets -descend x0 x1 x2 x3 x4 x5 x6 x7 x8 x9
  clear_value x0
  have hx1 : Keeps 97 s x1 := by
    unfold x1
    refine Keeps.step (State.dropCoreWaits_keeps ..) rfl ?_
    exact Keeps.refl _
  clear_value x1
  clear_value x3
  have hx4 : Keeps 97 s x4 := by
    unfold x4
    refine Keeps.set_sch rfl ?_
    exact hx1
  clear_value x4
  have hx5 : Keeps 97 s x5 := by
    unfold x5
    refine Keeps.step (State.setCore_keeps ..) rfl ?_
    exact hx4
  clear_value x5
  have hx6 : Keeps 97 s x6 := by
    unfold x6
    refine Keeps.fold ?_ ?_
    ·
      exact hx5
    ·
      intro z10 q11 h12
      refine Keeps.step (State.setReg_keeps ..) rfl ?_
      exact h12
  clear_value x6
  clear_value x7
  have hx8 : Keeps 97 s x8 := by
    unfold x8
    refine Keeps.step (State.setFld_keeps ..) rfl ?_
    refine Keeps.step (State.setReg_keeps ..) rfl ?_
    exact hx6
  clear_value x8
  have hx9 : Keeps 97 s x9 := by
    unfold x9
    refine Keeps.ite ?_ ?_
    ·
      refine Keeps.step (State.setFld_keeps ..) rfl ?_
      exact hx8
    ·
      exact hx8
  clear_value x9
  refine Keeps.step (State.showCore_keeps ..) rfl ?_
  exact hx9

theorem State.resetQueues_keeps : ∀ s i, Keeps 2097305 s (State.resetQueues s i) := by
  intro s i
  unfold State.resetQueues
  lift_lets -underBinder
  extract_lets -descend x0 x1
  have hx0 : Keeps 2097305 s x0 := by
    unfold x0
    refine Keeps.fold ?_ ?_
    ·
      exact Keeps.refl _
    ·
      intro z2 q3 h4
      lift_lets -underBinder
      extract_lets -descend x5
      have hx5 : Keeps 2097305 s x5 := by
        unfold x5
        refine Keeps.step (State.setRegBit_keeps ..) rfl ?_
        exact h4
      clear_value x5
      refine Keeps.step (State.setReg_keeps ..) rfl ?_
      refine Keeps.step (State.setReg_keeps ..) rfl ?_
      exact hx5
  clear_value x0
  clear_value x1
  refine Keeps.fold ?_ ?_
  ·
    exact hx0
  ·
    intro z6 q7 h8
    split
    ·
      rename_i y9 y10 y11
      refine Keeps.step (State.dropWork_keeps ..) rfl ?_
      exact h8
    ·
      rename_i y12 y13
      refine Keeps.step (State.completeWork_keeps ..) rfl ?_
      exact h8

theorem State.resetSems_keeps : ∀ s i, Keeps 97 s (State.resetSems s i) := by
  intro s i
  unfold State.resetSems
  lift_lets -underBinder
  extract_lets -descend x0 x1 x2
  clear_value x0
  have hx1 : Keeps 97 s x1 := by
    unfold x1
    refine Keeps.set_sch rfl ?_
    exact Keeps.refl _
  clear_value x1
  clear_value x2
  refine Keeps.fold ?_ ?_
  ·
    exact hx1
  ·
    intro z3 q4 h5
    lift_lets -underBinder
    extract_lets -descend x6 x7 x8
    clear_value x6
    have hx7 : Keeps 97 s x7 := by
      unfold x7
      refine Keeps.step (State.showSem_keeps ..) rfl ?_
      exact h5
    clear_value x7
    have hx8 : Keeps 97 s x8 := by
      unfold x8
      refine Keeps.step (State.setFld_keeps ..) rfl ?_
      exact hx7
    clear_value x8
    refine Keeps.ite ?_ ?_
    ·
      refine Keeps.step (State.semServeAll_keeps ..) rfl ?_
      refine Keeps.step (State.setFld_keeps ..) rfl ?_
      refine Keeps.step (State.setFld_keeps ..) rfl ?_
      exact hx8
    ·
      exact hx7

theorem State.resetBobs_keeps : ∀ s i, Keeps 65 s (State.resetBobs s i) := by
  intro s i
  unfold State.resetBobs
  lift_lets -underBinder
  extract_lets -descend x0
  clear_value x0
  refine Keeps.fold ?_ ?_
  ·
    exact Keeps.refl _
  ·
    intro z1 q2 h3
    lift_lets -underBinder
    extract_lets -descend x4 x5 x6 x7
    clear_value x4
    have hx5 : Keeps 65 s x5 := by
      unfold x5
      refine Keeps.step (State.setReg_keeps ..) rfl ?_
      refine Keeps.step (State.setReg_keeps ..) rfl ?_
      exact h3
    clear_value x5
    clear_value x6
    have hx7 : Keeps 65 s x7 := by
      unfold x7
      refine Keeps.set_sch rfl ?_
      exact hx5
    clear_value x7
    refine Keeps.step (State.showBob_keeps ..) rfl ?_
    exact hx7

theorem State.resetPools_keeps : ∀ s i, Keeps 65 s (State.resetPools s i) := by
  intro s i
  unfold State.resetPools
  refine Keeps.fold ?_ ?_
  ·
    exact Keeps.refl _
  ·
    intro z0 q1 h2
    lift_lets -underBinder
    extract_lets -descend x3 x4
    clear_value x3
    have hx4 : Keeps 65 s x4 := by
      unfold x4
      refine Keeps.set_sch rfl ?_
      exact h2
    clear_value x4
    refine Keeps.ite ?_ ?_
    ·
      refine Keeps.step (State.poolFill_keeps ..) rfl ?_
      exact hx4
    ·
      refine Keeps.step (State.showPool_keeps ..) rfl ?_
      exact hx4

theorem State.resetMem_keeps : ∀ s i, Keeps 1153 s (State.resetMem s i) := by
  intro s i
  unfold State.resetMem
  lift_lets -underBinder
  extract_lets -descend x0 x1 x2 x3 x4 x5 x6 x7
  clear_value x2
  clear_value x3
  clear_value x4
  have hx5 : Keeps 1153 s x5 := by
    unfold x5
    refine Keeps.set_msys rfl ?_
    exact Keeps.refl _
  clear_value x5
  have hx6 : Keeps 1153 s x6 := by
    unfold x6
    refine Keeps.set_upd rfl ?_
    exact hx5
  clear_value x6
  have hx7 : Keeps 1153 s x7 := by
    unfold x7
    refine Keeps.step (State.setRegBit_keeps ..) rfl ?_
    exact hx6
  clear_value x7
  refine Keeps.fold ?_ ?_
  ·
    exact hx7
  ·
    intro z8 q9 h10
    refine Keeps.step (State.showUpd_keeps ..) rfl ?_
    refine Keeps.step (State.setRegBit_keeps ..) rfl ?_
    refine Keeps.step (State.setRegBit_keeps ..) rfl ?_
    exact h10

theorem State.resetTransport_keeps : ∀ s i, Keeps 11739321 s (State.resetTransport s i) := by
  intro s i
  unfold State.resetTransport
  lift_lets -underBinder
  extract_lets -descend x0 x1 x2 x3 x4 x5
  clear_value x1
  have hx2 : Keeps 11739321 s x2 := by
    unfold x2
    refine Keeps.set_txns rfl ?_
    exact Keeps.refl _
  clear_value x2
  have hx3 : Keeps 11739321 s x3 := by
    unfold x3
    refine Keeps.fold ?_ ?_
    ·
      exact hx2
    ·
      intro z6 q7 h8
      split
      ·
        rename_i y9 y10 y11
        refine Keeps.step (State.userDone_keeps ..) rfl ?_
        exact h8
      ·
        rename_i y12 y13 y14
        refine Keeps.step (State.userDone_keeps ..) rfl ?_
        exact h8
      ·
        rename_i y15 y16 y17
        exact h8
  clear_value x3
  have hx4 : Keeps 11739321 s x4 := by
    unfold x4
    refine Keeps.fold ?_ ?_
    ·
      exact hx3
    ·
      intro z18 q19 h20
      refine Keeps.step (State.showTxns_keeps ..) rfl ?_
      exact h20
  clear_value x4
  have hx5 : Keeps 11739321 s x5 := by
    unfold x5
    refine Keeps.fold ?_ ?_
    ·
      exact hx4
    ·
      intro z21 q22 h23
      refine Keeps.step (State.setReg_keeps ..) rfl ?_
      exact h23
  clear_value x5
  refine Keeps.fold ?_ ?_
  ·
    exact hx5
  ·
    intro z24 q25 h26
    lift_lets -underBinder
    extract_lets -descend x27 x28 x29 x30
    clear_value x28
    have hx29 : Keeps 11739321 s x29 := by
      unfold x29
      refine Keeps.step (State.setSess_keeps ..) rfl ?_
      exact h26
    clear_value x29
    clear_value x30
    refine Keeps.ite ?_ ?_
    ·
      refine Keeps.step (State.queueControl_keeps ..) rfl ?_
      refine Keeps.step (State.setSess_keeps ..) rfl ?_
      exact hx29
    ·
      exact hx29

theorem State.resetInstance_keeps : ∀ s i, Keeps 12320761 s (State.resetInstance s i) := by
  intro s i
  unfold State.resetInstance
  lift_lets -underBinder
  extract_lets -descend x0 x1 x2 x3 x4 x5 x6 x7
  clear_value x0
  have hx1 : Keeps 12320761 s x1 := by
    unfold x1
    refine Keeps.step (State.setFld_keeps ..) rfl ?_
    exact Keeps.refl _
  clear_value x1
  have hx2 : Keeps 12320761 s x2 := by
    unfold x2
    refine Keeps.step (State.setFld_keeps ..) rfl ?_
    exact hx1
  clear_value x2
  have hx3 : Keeps 12320761 s x3 := by
    unfold x3
    refine Keeps.step (State.resetQueues_keeps ..) rfl ?_
    exact hx2
  clear_value x3
  have hx4 : Keeps 12320761 s x4 := by
    unfold x4
    refine Keeps.fold ?_ ?_
    ·
      exact hx3
    ·
      intro z8 q9 h10
      refine Keeps.step (State.resetCore_keeps ..) rfl ?_
      exact h10
  clear_value x4
  have hx5 : Keeps 12320761 s x5 := by
    unfold x5
    refine Keeps.step (State.resetCodec_keeps ..) rfl ?_
    refine Keeps.step (State.resetIngest_keeps ..) rfl ?_
    exact hx4
  clear_value x5
  have hx6 : Keeps 12320761 s x6 := by
    unfold x6
    refine Keeps.step (State.resetVote_keeps ..) rfl ?_
    refine Keeps.step (State.resetSeam_keeps ..) rfl ?_
    refine Keeps.step (State.resetMem_keeps ..) rfl ?_
    exact hx5
  clear_value x6
  have hx7 : Keeps 12320761 s x7 := by
    unfold x7
    refine Keeps.step (State.resetTransport_keeps ..) rfl ?_
    refine Keeps.step (State.resetKv_keeps ..) rfl ?_
    exact hx6
  clear_value x7
  refine Keeps.step (State.resetPools_keeps ..) rfl ?_
  refine Keeps.step (State.resetBobs_keeps ..) rfl ?_
  refine Keeps.step (State.resetSems_keeps ..) rfl ?_
  exact hx7

theorem State.resetOver_keeps : ∀ s i, Keeps 1 s (State.resetOver s i) := by
  intro s i
  unfold State.resetOver
  refine Keeps.step (State.setFld_keeps ..) rfl ?_
  exact Keeps.refl _

theorem State.ownWindows_keeps : ∀ s, Keeps 1 s (State.ownWindows s) := by
  intro s
  unfold State.ownWindows
  lift_lets -underBinder
  extract_lets -descend x0
  have hx0 : Keeps 1 s x0 := by
    unfold x0
    refine Keeps.step (State.setFld_keeps ..) rfl ?_
    exact Keeps.refl _
  clear_value x0
  refine Keeps.fold ?_ ?_
  ·
    exact hx0
  ·
    intro z1 q2 h3
    refine Keeps.step (State.setFld_keeps ..) rfl ?_
    exact h3

theorem State.resetPcie_keeps : ∀ s, Keeps 2097159 s (State.resetPcie s) := by
  intro s
  unfold State.resetPcie
  lift_lets -underBinder
  extract_lets -descend x0 x1 x2 x3
  have hx0 : Keeps 2097159 s x0 := by
    unfold x0
    refine Keeps.fold ?_ ?_
    ·
      exact Keeps.refl _
    ·
      intro z4 q5 h6
      refine Keeps.step (State.setReg_keeps ..) rfl ?_
      exact h6
  clear_value x0
  clear_value x1
  have hx2 : Keeps 2097159 s x2 := by
    unfold x2
    refine Keeps.many (t := x0) ?_ (.inl rfl) (.inl rfl) (.inl rfl) (.inr rfl) (.inr rfl) (.inr rfl) (.inr rfl) (.inr rfl) (.inr rfl) (.inr rfl) (.inr rfl) (.inr rfl) (.inr rfl) (.inr rfl) (.inr rfl) (.inr rfl) (.inr rfl) (.inr rfl) (.inr rfl) (.inr rfl) (.inr rfl) (.inl rfl) (.inr rfl) (.inr rfl) (.inr rfl) rfl id id
    exact hx0
  clear_value x2
  have hx3 : Keeps 2097159 s x3 := by
    unfold x3
    refine Keeps.step (State.ownWindows_keeps ..) rfl ?_
    exact hx2
  clear_value x3
  refine Keeps.ite ?_ ?_
  ·
    refine Keeps.step (State.setReg_keeps ..) rfl ?_
    exact hx3
  ·
    exact hx3

theorem State.flrVf_keeps : ∀ s k, Keeps 2097153 s (State.flrVf s k) := by
  intro s k
  unfold State.flrVf
  refine Keeps.step (State.addEvent_keeps ..) rfl ?_
  refine Keeps.fold ?_ ?_
  ·
    exact Keeps.refl _
  ·
    intro z0 q1 h2
    refine Keeps.step (State.setRegBit_keeps ..) rfl ?_
    exact h2

theorem execPcieReset_keeps : ∀ s, KeepsOut 2097159 s (execPcieReset s) := by
  intro s
  unfold execPcieReset
  refine KeepsOut.next ?_
  refine Keeps.step (State.resetPcie_keeps ..) rfl ?_
  exact Keeps.refl _

theorem execFunctionLevelReset_keeps : ∀ k s, KeepsOut 2097153 s (execFunctionLevelReset k s) := by
  intro k s
  unfold execFunctionLevelReset
  refine KeepsOut.next ?_
  refine Keeps.step (State.flrVf_keeps ..) rfl ?_
  exact Keeps.refl _

end Sys2Proof.Machine
end

