-- ==== Sys2Proof/Laws/KeepsPart.lean ====
section
/-! SUPPORT. What each operation and each command of Machine/Part.lean touches, one lemma each: the bits of its mask are the
parts of the state that it may change; the queue and the canonical form of the memories it keeps. -/
namespace Sys2Proof.Machine

theorem State.startRemap_keeps : ∀ s b, Keeps 129 s (State.startRemap s b) := by
  intro s b
  unfold State.startRemap
  lift_lets -underBinder
  extract_lets -descend x0 x1 x2 x3 x4 x5 x6
  clear_value x0
  clear_value x2
  clear_value x3
  clear_value x4
  have hx5 : Keeps 129 s x5 := by
    unfold x5
    refine Keeps.set_msys rfl ?_
    exact Keeps.refl _
  clear_value x5
  have hx6 : Keeps 129 s x6 := by
    unfold x6
    refine Keeps.fold ?_ ?_
    ·
      exact hx5
    ·
      intro z7 q8 h9
      refine Keeps.step (State.setFld_keeps ..) rfl ?_
      exact h9
  clear_value x6
  refine Keeps.fold ?_ ?_
  ·
    exact hx6
  ·
    intro z10 q11 h12
    refine Keeps.step (State.setFld_keeps ..) rfl ?_
    exact h12

theorem State.flushQuad_keeps : ∀ s q, Keeps 137 s (State.flushQuad s q) := by
  intro s q
  unfold State.flushQuad
  lift_lets -underBinder
  extract_lets -descend x0
  have hx0 : Keeps 137 s x0 := by
    unfold x0
    refine Keeps.fold ?_ ?_
    ·
      exact Keeps.refl _
    ·
      intro z1 q2 h3
      refine Keeps.step (State.endVictim_keeps ..) rfl ?_
      exact h3
  clear_value x0
  refine Keeps.fold ?_ ?_
  ·
    exact hx0
  ·
    intro z4 q5 h6
    refine Keeps.step (State.dropLine_keeps ..) rfl ?_
    refine Keeps.step (State.cleanLine_keeps ..) rfl ?_
    exact h6

theorem State.zeroGranule_keeps : ∀ s k, Keeps 136 s (State.zeroGranule s k) := by
  intro s k
  unfold State.zeroGranule
  lift_lets -underBinder
  extract_lets -descend x0 x1
  clear_value x0
  clear_value x1
  refine Keeps.many (t := s) ?_ (.inr rfl) (.inr rfl) (.inr rfl) (.inl rfl) (.inr rfl) (.inr rfl) (.inr rfl) (.inl rfl) (.inr rfl) (.inr rfl) (.inr rfl) (.inr rfl) (.inr rfl) (.inr rfl) (.inr rfl) (.inr rfl) (.inr rfl) (.inr rfl) (.inr rfl) (.inr rfl) (.inr rfl) (.inr rfl) (.inr rfl) (.inr rfl) (.inr rfl) rfl ?_ id
  ·
    exact Keeps.refl _
  ·
    exact fun h => Tbl.wf_filter _ _ _ h

theorem State.setGranules_keeps : ∀ s b, Keeps 1 s (State.setGranules s b) := by
  intro s b
  unfold State.setGranules
  lift_lets -underBinder
  extract_lets -descend x0
  have hx0 : Keeps 1 s x0 := by
    unfold x0
    refine Keeps.fold ?_ ?_
    ·
      exact Keeps.refl _
    ·
      intro z1 q2 h3
      refine Keeps.step (State.setReg_keeps ..) rfl ?_
      exact h3
  clear_value x0
  refine Keeps.fold ?_ ?_
  ·
    exact hx0
  ·
    intro z4 q5 h6
    lift_lets -underBinder
    extract_lets -descend x7
    have hx7 : Keeps 1 s x7 := by
      unfold x7
      refine Keeps.step (State.setFld_keeps ..) rfl ?_
      exact h6
    clear_value x7
    refine Keeps.step (State.setFld_keeps ..) rfl ?_
    exact hx7

theorem State.showOwner_keeps : ∀ s c, Keeps 1 s (State.showOwner s c) := by
  intro s c
  unfold State.showOwner
  lift_lets -underBinder
  extract_lets -descend x0
  clear_value x0
  refine Keeps.step (State.setFld_keeps ..) rfl ?_
  refine Keeps.step (State.setFld_keeps ..) rfl ?_
  exact Keeps.refl _

theorem State.assign_keeps : ∀ s b, Keeps 129 s (State.assign s b) := by
  intro s b
  unfold State.assign
  lift_lets -underBinder
  extract_lets -descend x0 x1 x2
  have hx0 : Keeps 129 s x0 := by
    unfold x0
    refine Keeps.fold ?_ ?_
    ·
      exact Keeps.refl _
    ·
      intro z3 q4 h5
      lift_lets -underBinder
      extract_lets -descend x6 x7 x8 x9 x10 x11
      clear_value x6
      have hx7 : Keeps 129 s x7 := by
        unfold x7
        refine Keeps.step (State.setFld_keeps ..) rfl ?_
        exact h5
      clear_value x7
      have hx8 : Keeps 129 s x8 := by
        unfold x8
        refine Keeps.step (State.setReg_keeps ..) rfl ?_
        exact hx7
      clear_value x8
      have hx9 : Keeps 129 s x9 := by
        unfold x9
        refine Keeps.step (State.setReg_keeps ..) rfl ?_
        exact hx8
      clear_value x9
      have hx10 : Keeps 129 s x10 := by
        unfold x10
        refine Keeps.step (State.setReg_keeps ..) rfl ?_
        exact hx9
      clear_value x10
      have hx11 : Keeps 129 s x11 := by
        unfold x11
        refine Keeps.step (State.setReg_keeps ..) rfl ?_
        exact hx10
      clear_value x11
      refine Keeps.fold ?_ ?_
      ·
        exact hx11
      ·
        intro z12 q13 h14
        refine Keeps.step (State.setReg_keeps ..) rfl ?_
        exact h14
  clear_value x0
  have hx1 : Keeps 129 s x1 := by
    unfold x1
    refine Keeps.fold ?_ ?_
    ·
      exact hx0
    ·
      intro z15 q16 h17
      refine Keeps.step (State.showOwner_keeps ..) rfl ?_
      exact h17
  clear_value x1
  clear_value x2
  refine Keeps.set_msys rfl ?_
  exact hx1

theorem State.refuseEntries_keeps : ∀ s, Keeps 129 s (State.refuseEntries s) := by
  intro s
  unfold State.refuseEntries
  refine Keeps.ite ?_ ?_
  ·
    refine Keeps.step (State.assign_keeps ..) rfl ?_
    refine Keeps.step (State.setGranules_keeps ..) rfl ?_
    exact Keeps.refl _
  ·
    exact Keeps.refl _

theorem State.startPartition_keeps : ∀ s b, Keeps 12320761 s (State.startPartition s b) := by
  intro s b
  unfold State.startPartition
  lift_lets -underBinder
  extract_lets -descend x0
  have hx0 : Keeps 12320761 s x0 := by
    unfold x0
    refine Keeps.fold ?_ ?_
    ·
      exact Keeps.refl _
    ·
      intro z1 q2 h3
      lift_lets -underBinder
      extract_lets -descend x4
      have hx4 : Keeps 12320761 s x4 := by
        unfold x4
        refine Keeps.step (State.resetInstance_keeps ..) rfl ?_
        exact h3
      clear_value x4
      refine Keeps.ite ?_ ?_
      ·
        exact hx4
      ·
        refine Keeps.fold ?_ ?_
        ·
          exact hx4
        ·
          intro z5 q6 h7
          refine Keeps.step (State.closeSession_keeps ..) rfl ?_
          exact h7
  clear_value x0
  refine Keeps.step (State.startRemap_keeps ..) rfl ?_
  exact hx0

theorem State.finishPartition_keeps : ∀ s r, Keeps 137 s (State.finishPartition s r) := by
  intro s r
  unfold State.finishPartition
  lift_lets -underBinder
  extract_lets -descend x0 x1 x2 x3 x4 x5
  have hx0 : Keeps 137 s x0 := by
    unfold x0
    refine Keeps.fold ?_ ?_
    ·
      exact Keeps.refl _
    ·
      intro z6 q7 h8
      refine Keeps.step (State.flushQuad_keeps ..) rfl ?_
      exact h8
  clear_value x0
  have hx1 : Keeps 137 s x1 := by
    unfold x1
    refine Keeps.fold ?_ ?_
    ·
      exact hx0
    ·
      intro z9 q10 h11
      refine Keeps.step (State.zeroGranule_keeps ..) rfl ?_
      exact h11
  clear_value x1
  clear_value x2
  have hx3 : Keeps 137 s x3 := by
    unfold x3
    refine Keeps.step (State.assign_keeps ..) rfl ?_
    refine Keeps.step (State.setGranules_keeps ..) rfl ?_
    exact hx1
  clear_value x3
  clear_value x4
  have hx5 : Keeps 137 s x5 := by
    unfold x5
    refine Keeps.set_msys rfl ?_
    exact hx3
  clear_value x5
  refine Keeps.fold ?_ ?_
  ·
    exact hx5
  ·
    intro z12 q13 h14
    refine Keeps.step (State.resetOver_keeps ..) rfl ?_
    exact h14

end Sys2Proof.Machine
end

