-- ==== Sys2Proof/Laws/KeepsStartup.lean ====
section
/-! SUPPORT. What each operation and each command of Machine/Startup.lean touches, one lemma each: the bits of its mask are the
parts of the state that it may change; the queue and the canonical form of the memories it keeps. -/
namespace Sys2Proof.Machine

theorem State.moduleReset_keeps : ∀ s cause, Keeps 16777199 s (State.moduleReset s cause) := by
  intro s cause
  unfold State.moduleReset
  dsimp only
  refine Keeps.step (State.setFld_keeps ..) rfl (Keeps.step (State.setFld_keeps ..) rfl (Keeps.step (State.setReg_keeps ..) rfl ?_))
  exact Keeps.many (t := s) (Keeps.refl _) (.inl rfl) (.inl rfl) (.inl rfl) (.inl rfl) (.inr rfl) (.inl rfl) (.inl rfl) (.inl rfl)
    (.inl rfl) (.inl rfl) (.inl rfl) (.inl rfl) (.inl rfl) (.inl rfl) (.inl rfl) (.inl rfl) (.inl rfl) (.inl rfl) (.inl rfl)
    (.inl rfl) (.inl rfl) (.inl rfl) (.inl rfl) (.inl rfl) (.inr rfl) rfl (fun h => Tbl.wf_filter _ _ _ h) (fun h => h)

theorem State.powerOn_keeps : ∀ s fresh, Keeps 16777199 s (State.powerOn s fresh) := by
  intro s fresh
  unfold State.powerOn
  dsimp only
  split
  · exact Keeps.many (t := s) (Keeps.refl _) (.inl rfl) (.inl rfl) (.inl rfl) (.inl rfl) (.inr rfl) (.inl rfl) (.inl rfl) (.inl rfl)
        (.inl rfl) (.inl rfl) (.inl rfl) (.inl rfl) (.inl rfl) (.inl rfl) (.inl rfl) (.inl rfl) (.inl rfl) (.inl rfl) (.inl rfl)
        (.inl rfl) (.inl rfl) (.inl rfl) (.inl rfl) (.inl rfl) (.inr rfl) rfl (fun _ => rfl) (fun h => h)
  · refine Keeps.step (State.setReg_keeps ..) rfl (Keeps.fold (Keeps.fold (Keeps.step (State.setReg_keeps ..) rfl ?_) ?_) ?_)
    · exact Keeps.many (t := s) (Keeps.refl _) (.inl rfl) (.inl rfl) (.inl rfl) (.inl rfl) (.inr rfl) (.inl rfl) (.inl rfl) (.inl rfl)
        (.inl rfl) (.inl rfl) (.inl rfl) (.inl rfl) (.inl rfl) (.inl rfl) (.inl rfl) (.inl rfl) (.inl rfl) (.inl rfl) (.inl rfl)
        (.inl rfl) (.inl rfl) (.inl rfl) (.inl rfl) (.inl rfl) (.inr rfl) rfl (fun _ => rfl) (fun h => h)
    · exact fun x a h => Keeps.step (State.setReg_keeps ..) rfl h
    · exact fun x a h => Keeps.step (State.setReg_keeps ..) rfl h

theorem State.enterStep_keeps : ∀ s step st, Keeps 1 s (State.enterStep s step st) := by
  intro s step st
  unfold State.enterStep
  refine Keeps.step (State.setModState_keeps ..) rfl ?_
  refine Keeps.step (State.setFld_keeps ..) rfl ?_
  exact Keeps.refl _

theorem State.measureInputs_keeps : ∀ s a b, Keeps 4194305 s (State.measureInputs s a b) := by
  intro s a b
  unfold State.measureInputs
  lift_lets -underBinder
  extract_lets -descend x0 x1 x2 x3 x4 x5 x6
  have hx0 : Keeps 4194305 s x0 := by
    unfold x0
    refine Keeps.step (State.setReg_keeps ..) rfl ?_
    exact Keeps.refl _
  clear_value x0
  have hx1 : Keeps 4194305 s x1 := by
    unfold x1
    refine Keeps.step (State.setFld_keeps ..) rfl ?_
    exact hx0
  clear_value x1
  have hx2 : Keeps 4194305 s x2 := by
    unfold x2
    refine Keeps.step (State.setFld_keeps ..) rfl ?_
    exact hx1
  clear_value x2
  clear_value x3
  have hx4 : Keeps 4194305 s x4 := by
    unfold x4
    refine Keeps.step (State.setFld_keeps ..) rfl ?_
    exact hx2
  clear_value x4
  have hx5 : Keeps 4194305 s x5 := by
    unfold x5
    refine Keeps.step (State.setFld_keeps ..) rfl ?_
    exact hx4
  clear_value x5
  clear_value x6
  refine Keeps.set_pwr rfl ?_
  exact hx5

theorem State.showImage_keeps : ∀ s off i running, Keeps 1 s (State.showImage s off i running) := by
  intro s off i running
  unfold State.showImage
  split
  ·
    rename_i y0 y1
    refine Keeps.step (State.setReg_keeps ..) rfl ?_
    exact Keeps.refl _
  ·
    rename_i y2
    refine Keeps.step (State.setReg_keeps ..) rfl ?_
    exact Keeps.refl _

theorem State.imageReg_keeps : ∀ s off v, Keeps 1 s (State.imageReg s off v) := by
  intro s off v
  unfold State.imageReg
  split
  ·
    rename_i y0 y1 y2
    refine Keeps.step (State.setReg_keeps ..) rfl ?_
    exact Keeps.refl _
  ·
    rename_i y3 y4
    exact Keeps.refl _

theorem State.loadImage_keeps : ∀ s b x, Keeps 2621441 s (State.loadImage s b x) := by
  intro s b x
  unfold State.loadImage
  lift_lets -underBinder
  extract_lets -descend x0 x1 x2 x3 x4 x5 x6 x7 x8 x9 x10 x11 x12
  have hx0 : Keeps 2621441 s x0 := by
    unfold x0
    refine Keeps.step (State.showImage_keeps ..) rfl ?_
    refine Keeps.step (State.showImage_keeps ..) rfl ?_
    exact Keeps.refl _
  clear_value x0
  have hx1 : Keeps 2621441 s x1 := by
    unfold x1
    refine Keeps.step (State.setFld_keeps ..) rfl ?_
    exact hx0
  clear_value x1
  have hx2 : Keeps 2621441 s x2 := by
    unfold x2
    refine Keeps.step (State.setFld_keeps ..) rfl ?_
    exact hx1
  clear_value x2
  have hx3 : Keeps 2621441 s x3 := by
    unfold x3
    refine Keeps.step (State.setFld_keeps ..) rfl ?_
    exact hx2
  clear_value x3
  have hx4 : Keeps 2621441 s x4 := by
    unfold x4
    split
    ·
      rename_i y13 y14 y15
      refine Keeps.step (State.setFld_keeps ..) rfl ?_
      refine Keeps.step (State.setFld_keeps ..) rfl ?_
      exact hx3
    ·
      rename_i y16 y17
      exact hx3
  clear_value x4
  clear_value x5
  clear_value x6
  clear_value x7
  clear_value x8
  clear_value x9
  clear_value x10
  have hx11 : Keeps 2621441 s x11 := by
    unfold x11
    refine Keeps.many (t := x4) ?_ (.inr rfl) (.inr rfl) (.inr rfl) (.inr rfl) (.inr rfl) (.inr rfl) (.inr rfl) (.inr rfl) (.inr rfl) (.inr rfl) (.inr rfl) (.inr rfl) (.inr rfl) (.inr rfl) (.inr rfl) (.inr rfl) (.inr rfl) (.inr rfl) (.inr rfl) (.inl rfl) (.inr rfl) (.inl rfl) (.inr rfl) (.inr rfl) (.inr rfl) rfl id id
    exact hx4
  clear_value x11
  clear_value x12
  refine Keeps.set_host rfl ?_
  exact hx11

theorem State.applyImage_keeps : ∀ s r, Keeps 11010185 s (State.applyImage s r) := by
  intro s r
  unfold State.applyImage
  lift_lets -underBinder
  extract_lets -descend x0 x1 x2 x3 x4 x5 x6 x7 x8 x9 x10 x11 x12 x13
  clear_value x0
  have hx1 : Keeps 11010185 s x1 := by
    unfold x1
    refine Keeps.many (t := s) ?_ (.inr rfl) (.inr rfl) (.inr rfl) (.inl rfl) (.inr rfl) (.inr rfl) (.inr rfl) (.inl rfl) (.inr rfl) (.inr rfl) (.inr rfl) (.inr rfl) (.inr rfl) (.inr rfl) (.inr rfl) (.inr rfl) (.inr rfl) (.inr rfl) (.inr rfl) (.inr rfl) (.inr rfl) (.inr rfl) (.inr rfl) (.inr rfl) (.inr rfl) rfl ?_ id
    ·
      exact Keeps.refl _
    ·
      exact fun h => Tbl.wf_filter _ _ _ h
  clear_value x1
  have hx2 : Keeps 11010185 s x2 := by
    unfold x2
    refine Keeps.step (State.setReg_keeps ..) rfl ?_
    exact hx1
  clear_value x2
  have hx3 : Keeps 11010185 s x3 := by
    unfold x3
    refine Keeps.fold ?_ ?_
    ·
      exact hx2
    ·
      intro z14 q15 h16
      refine Keeps.step (State.setFld_keeps ..) rfl ?_
      exact h16
  clear_value x3
  have hx4 : Keeps 11010185 s x4 := by
    unfold x4
    refine Keeps.step (State.setCap_keeps ..) rfl ?_
    exact hx3
  clear_value x4
  have hx5 : Keeps 11010185 s x5 := by
    unfold x5
    refine Keeps.step (State.setReg_keeps ..) rfl ?_
    exact hx4
  clear_value x5
  have hx6 : Keeps 11010185 s x6 := by
    unfold x6
    refine Keeps.fold ?_ ?_
    ·
      exact hx5
    ·
      intro z17 q18 h19
      refine Keeps.step (State.imageReg_keeps ..) rfl ?_
      exact h19
  clear_value x6
  have hx7 : Keeps 11010185 s x7 := by
    unfold x7
    refine Keeps.step (State.imageReg_keeps ..) rfl ?_
    refine Keeps.step (State.imageReg_keeps ..) rfl ?_
    exact hx6
  clear_value x7
  clear_value x8
  have hx9 : Keeps 11010185 s x9 := by
    unfold x9
    refine Keeps.set_fab rfl ?_
    exact hx7
  clear_value x9
  have hx10 : Keeps 11010185 s x10 := by
    unfold x10
    refine Keeps.step (State.assign_keeps ..) rfl ?_
    refine Keeps.step (State.setGranules_keeps ..) rfl ?_
    exact hx9
  clear_value x10
  have hx11 : Keeps 11010185 s x11 := by
    unfold x11
    refine Keeps.fold ?_ ?_
    ·
      exact hx10
    ·
      intro z20 q21 h22
      refine Keeps.step (State.imageReg_keeps ..) rfl ?_
      exact h22
  clear_value x11
  clear_value x12
  have hx13 : Keeps 11010185 s x13 := by
    unfold x13
    refine Keeps.set_host rfl ?_
    exact hx11
  clear_value x13
  refine Keeps.step (State.setFld_keeps ..) rfl ?_
  refine Keeps.step (State.ownWindows_keeps ..) rfl ?_
  exact hx13

theorem State.powerDies_keeps : ∀ s r mv temps, Keeps 1 s (State.powerDies s r mv temps) := by
  intro s r mv temps
  unfold State.powerDies
  lift_lets -underBinder
  extract_lets -descend x0
  have hx0 : Keeps 1 s x0 := by
    unfold x0
    refine Keeps.fold ?_ ?_
    ·
      exact Keeps.refl _
    ·
      intro z1 q2 h3
      lift_lets -underBinder
      extract_lets -descend x4 x5 x6
      have hx4 : Keeps 1 s x4 := by
        unfold x4
        refine Keeps.step (State.setReg_keeps ..) rfl ?_
        exact h3
      clear_value x4
      have hx5 : Keeps 1 s x5 := by
        unfold x5
        refine Keeps.step (State.setDieMhz_keeps ..) rfl ?_
        exact hx4
      clear_value x5
      have hx6 : Keeps 1 s x6 := by
        unfold x6
        split
        ·
          rename_i y7 y8 y9
          refine Keeps.step (State.setFld_keeps ..) rfl ?_
          exact hx5
        ·
          rename_i y10 y11
          exact hx5
      clear_value x6
      refine Keeps.step (State.setFld_keeps ..) rfl ?_
      exact hx6
  clear_value x0
  refine Keeps.step (State.showThrottle_keeps ..) rfl ?_
  refine Keeps.step (State.boundRatio_keeps ..) rfl ?_
  exact hx0

theorem State.bootSteps_keeps : ∀ s b, Keeps 15204489 s (State.bootSteps s b) := by
  intro s b
  unfold State.bootSteps
  lift_lets -underBinder
  extract_lets -descend x0 x1 x2 x3 x4 x5 x6
  have hx0 : Keeps 15204489 s x0 := by
    unfold x0
    refine Keeps.step (State.measureInputs_keeps ..) rfl ?_
    exact Keeps.refl _
  clear_value x0
  clear_value x1
  have hx2 : Keeps 15204489 s x2 := by
    unfold x2
    refine Keeps.set_pwr rfl ?_
    exact hx0
  clear_value x2
  have hx3 : Keeps 15204489 s x3 := by
    unfold x3
    refine Keeps.step (State.enterStep_keeps ..) rfl ?_
    exact hx2
  clear_value x3
  have hx4 : Keeps 15204489 s x4 := by
    unfold x4
    refine Keeps.step (State.setReg_keeps ..) rfl ?_
    exact hx3
  clear_value x4
  have hx5 : Keeps 15204489 s x5 := by
    unfold x5
    refine Keeps.step (State.setReg_keeps ..) rfl ?_
    exact hx4
  clear_value x5
  have hx6 : Keeps 15204489 s x6 := by
    unfold x6
    refine Keeps.step (State.enterStep_keeps ..) rfl ?_
    exact hx5
  clear_value x6
  refine Keeps.ite ?_ ?_
  ·
    refine Keeps.step (State.enterStep_keeps ..) rfl ?_
    exact hx2
  ·
    refine Keeps.ite ?_ ?_
    ·
      refine Keeps.step (State.failModule_keeps ..) rfl ?_
      exact hx3
    ·
      split
      ·
        rename_i y7 y8
        refine Keeps.step (State.failModule_keeps ..) rfl ?_
        exact hx6
      ·
        rename_i y9 y10 y11 y12
        lift_lets -underBinder
        extract_lets -descend x13
        have hx13 : Keeps 15204489 s x13 := by
          unfold x13
          refine Keeps.step (State.enterStep_keeps ..) rfl ?_
          refine Keeps.step (State.loadImage_keeps ..) rfl ?_
          exact hx6
        clear_value x13
        refine Keeps.ite ?_ ?_
        ·
          refine Keeps.step (State.failModule_keeps ..) rfl ?_
          exact hx13
        ·
          refine Keeps.step (State.enterStep_keeps ..) rfl ?_
          refine Keeps.step (State.applyImage_keeps ..) rfl ?_
          refine Keeps.step (State.powerDies_keeps ..) rfl ?_
          exact hx13

theorem State.trainCores_keeps : ∀ s t, Keeps 1 s (State.trainCores s t) := by
  intro s t
  unfold State.trainCores
  refine Keeps.fold ?_ ?_
  ·
    exact Keeps.refl _
  ·
    intro z0 q1 h2
    lift_lets -underBinder
    extract_lets -descend x3 x4 x5 x6 x7
    clear_value x3
    clear_value x4
    clear_value x5
    have hx6 : Keeps 1 s x6 := by
      unfold x6
      refine Keeps.step (State.setReg_keeps ..) rfl ?_
      exact h2
    clear_value x6
    clear_value x7
    refine Keeps.step (State.setReg_keeps ..) rfl ?_
    exact hx6

theorem State.leaveOutDie_keeps : ∀ s d, Keeps 8388737 s (State.leaveOutDie s d) := by
  intro s d
  unfold State.leaveOutDie
  lift_lets -underBinder
  extract_lets -descend x0 x1
  have hx0 : Keeps 8388737 s x0 := by
    unfold x0
    refine Keeps.step (State.setDieMhz_keeps ..) rfl ?_
    exact Keeps.refl _
  clear_value x0
  clear_value x1
  refine Keeps.step (State.log_keeps ..) rfl ?_
  refine Keeps.set_msys rfl ?_
  exact hx0

theorem State.leaveOutStack_keeps : ∀ s n, Keeps 8388737 s (State.leaveOutStack s n) := by
  intro s n
  unfold State.leaveOutStack
  refine Keeps.step (State.log_keeps ..) rfl ?_
  refine Keeps.set_msys rfl ?_
  exact Keeps.refl _

theorem State.leaveOutPackage_keeps : ∀ s p, Keeps 8388737 s (State.leaveOutPackage s p) := by
  intro s p
  unfold State.leaveOutPackage
  refine Keeps.step (State.log_keeps ..) rfl ?_
  refine Keeps.set_msys rfl ?_
  exact Keeps.refl _

theorem State.train_keeps : ∀ s t, Keeps 8388737 s (State.train s t) := by
  intro s t
  unfold State.train
  lift_lets -underBinder
  extract_lets -descend x0 x1 x2 x3 x4 x5 x6
  have hx0 : Keeps 8388737 s x0 := by
    unfold x0
    refine Keeps.fold ?_ ?_
    ·
      exact Keeps.refl _
    ·
      intro z7 q8 h9
      split
      ·
        rename_i y10 y11 y12
        refine Keeps.step (State.setReg_keeps ..) rfl ?_
        exact h9
      ·
        rename_i y13 y14
        refine Keeps.step (State.leaveOutStack_keeps ..) rfl ?_
        exact h9
  clear_value x0
  have hx1 : Keeps 8388737 s x1 := by
    unfold x1
    refine Keeps.fold ?_ ?_
    ·
      exact hx0
    ·
      intro z15 q16 h17
      refine Keeps.ite ?_ ?_
      ·
        refine Keeps.step (State.setFld_keeps ..) rfl ?_
        exact h17
      ·
        refine Keeps.step (State.leaveOutPackage_keeps ..) rfl ?_
        exact h17
  clear_value x1
  have hx2 : Keeps 8388737 s x2 := by
    unfold x2
    refine Keeps.step (State.trainCores_keeps ..) rfl ?_
    exact hx1
  clear_value x2
  have hx3 : Keeps 8388737 s x3 := by
    unfold x3
    refine Keeps.fold ?_ ?_
    ·
      exact hx2
    ·
      intro z18 q19 h20
      refine Keeps.step (State.leaveOutDie_keeps ..) rfl ?_
      exact h20
  clear_value x3
  have hx4 : Keeps 8388737 s x4 := by
    unfold x4
    refine Keeps.step (State.refuseEntries_keeps ..) rfl ?_
    exact hx3
  clear_value x4
  have hx5 : Keeps 8388737 s x5 := by
    unfold x5
    refine Keeps.step (State.setFld_keeps ..) rfl ?_
    exact hx4
  clear_value x5
  have hx6 : Keeps 8388737 s x6 := by
    unfold x6
    refine Keeps.step (State.setFld_keeps ..) rfl ?_
    exact hx5
  clear_value x6
  refine Keeps.step (State.enterStep_keeps ..) rfl ?_
  exact hx6

theorem State.createSession_keeps : ∀ s k b mgmt nonce, Keeps 589825 s (State.createSession s k b mgmt nonce) := by
  intro s k b mgmt nonce
  unfold State.createSession
  lift_lets -underBinder
  extract_lets -descend x0 x1
  clear_value x0
  clear_value x1
  refine Keeps.ite ?_ ?_
  ·
    refine Keeps.step (State.setSess_keeps ..) rfl ?_
    exact Keeps.refl _
  ·
    refine Keeps.step (State.sendOpen_keeps ..) rfl ?_
    refine Keeps.step (State.setSess_keeps ..) rfl ?_
    exact Keeps.refl _

theorem State.linkTrain_keeps : ∀ s up, Keeps 27852801 s (State.linkTrain s up) := by
  intro s up
  unfold State.linkTrain
  lift_lets -underBinder
  extract_lets -descend x0 x1 x2 x3
  have hx0 : Keeps 27852801 s x0 := by
    unfold x0
    refine Keeps.fold ?_ ?_
    ·
      exact Keeps.refl _
    ·
      intro z4 q5 h6
      refine Keeps.ite ?_ ?_
      ·
        refine Keeps.fold ?_ ?_
        ·
          refine Keeps.step (State.setLink_keeps ..) rfl ?_
          exact h6
        ·
          intro z7 q8 h9
          refine Keeps.step (State.setRegBit_keeps ..) rfl ?_
          exact h9
      ·
        refine Keeps.step (State.log_keeps ..) rfl ?_
        exact h6
  clear_value x0
  have hx1 : Keeps 27852801 s x1 := by
    unfold x1
    refine Keeps.ite ?_ ?_
    ·
      refine Keeps.step (State.setFld_keeps ..) rfl ?_
      exact hx0
    ·
      exact hx0
  clear_value x1
  have hx2 : Keeps 27852801 s x2 := by
    unfold x2
    refine Keeps.step (State.enterStep_keeps ..) rfl ?_
    exact hx1
  clear_value x2
  have hx3 : Keeps 27852801 s x3 := by
    unfold x3
    refine Keeps.ite ?_ ?_
    ·
      refine Keeps.step (State.setMember_keeps ..) rfl ?_
      exact hx2
    ·
      exact hx2
  clear_value x3
  split
  ·
    rename_i y10 y11
    exact hx3
  ·
    rename_i y12 y13 y14
    refine Keeps.fold ?_ ?_
    ·
      exact hx3
    ·
      intro z15 q16 h17
      split
      ·
        rename_i y18 y19 y20 y21
        have e22 : Keeps 27852801 s (y20) := by
          refine Keeps.snd_eq y21 ?_
          refine Keeps.step (State.fresh_keeps ..) rfl ?_
          exact h17
        refine Keeps.step (State.createSession_keeps ..) rfl ?_
        exact e22

theorem State.memberNonce_keeps : ∀ s dev nonce, Keeps 1 s (State.memberNonce s dev nonce) := by
  intro s dev nonce
  unfold State.memberNonce
  refine Keeps.step (State.setReg_keeps ..) rfl ?_
  refine Keeps.step (State.setReg_keeps ..) rfl ?_
  exact Keeps.refl _

theorem State.joinMember_keeps : ∀ s dev nonce, Keeps 2097153 s (State.joinMember s dev nonce) := by
  intro s dev nonce
  unfold State.joinMember
  refine Keeps.ite ?_ ?_
  ·
    refine Keeps.step (State.setMember_keeps ..) rfl ?_
    refine Keeps.step (State.memberNonce_keeps ..) rfl ?_
    exact Keeps.refl _
  ·
    exact Keeps.refl _

theorem State.endJoin_keeps : ∀ s, Keeps 2097153 s (State.endJoin s) := by
  intro s
  unfold State.endJoin
  lift_lets -underBinder
  extract_lets -descend x0 x1
  clear_value x0
  have hx1 : Keeps 2097153 s x1 := by
    unfold x1
    refine Keeps.set_host rfl ?_
    exact Keeps.refl _
  clear_value x1
  refine Keeps.ite ?_ ?_
  ·
    refine Keeps.step (State.showPod_keeps ..) rfl ?_
    refine Keeps.step (State.setFld_keeps ..) rfl ?_
    exact hx1
  ·
    exact hx1

theorem execPowerOn_keeps : ∀ aCv bCv fresh s, KeepsOut 16777199 s (execPowerOn aCv bCv fresh s) := by
  intro aCv bCv fresh s
  unfold execPowerOn
  refine KeepsOut.next ?_
  refine Keeps.step (State.measureInputs_keeps ..) rfl ?_
  refine Keeps.step (State.powerOn_keeps ..) rfl ?_
  exact Keeps.refl _

theorem execModResetN_keeps : ∀ lowSamples s, KeepsOut 16777199 s (execModResetN lowSamples s) := by
  intro lowSamples s
  unfold execModResetN
  split
  ·
    rename_i y0
    refine KeepsOut.next ?_
    exact Keeps.refl _
  ·
    rename_i y1
    refine KeepsOut.next ?_
    lift_lets -underBinder
    extract_lets -descend x2 x3
    have hx2 : Keeps 16777199 s x2 := by
      unfold x2
      refine Keeps.step (State.moduleReset_keeps ..) rfl ?_
      exact Keeps.refl _
    clear_value x2
    clear_value x3
    refine Keeps.set_pwr rfl ?_
    exact hx2

theorem execBoot_keeps : ∀ b s, KeepsOut 15204489 s (execBoot b s) := by
  intro b s
  unfold execBoot
  split
  ·
    rename_i y0
    refine KeepsOut.next ?_
    exact Keeps.refl _
  ·
    rename_i y1
    refine KeepsOut.next ?_
    refine Keeps.step (State.bootSteps_keeps ..) rfl ?_
    exact Keeps.refl _

theorem execMemTrain_keeps : ∀ t s, KeepsOut 8388737 s (execMemTrain t s) := by
  intro t s
  unfold execMemTrain
  split
  ·
    rename_i y0
    refine KeepsOut.next ?_
    exact Keeps.refl _
  ·
    rename_i y1
    refine KeepsOut.next ?_
    refine Keeps.step (State.train_keeps ..) rfl ?_
    exact Keeps.refl _

theorem execLinkTrain_keeps : ∀ up s, KeepsOut 27852801 s (execLinkTrain up s) := by
  intro up s
  unfold execLinkTrain
  split
  ·
    rename_i y0
    refine KeepsOut.next ?_
    exact Keeps.refl _
  ·
    rename_i y1
    refine KeepsOut.next ?_
    refine Keeps.step (State.linkTrain_keeps ..) rfl ?_
    exact Keeps.refl _

theorem execPodJoin_keeps : ∀ joined timeLocked s, KeepsOut 2621441 s (execPodJoin joined timeLocked s) := by
  intro joined timeLocked s
  unfold execPodJoin
  split
  ·
    rename_i y0
    refine KeepsOut.next ?_
    exact Keeps.refl _
  ·
    rename_i y1
    lift_lets -underBinder
    extract_lets -descend x2 x3 x4 x5
    have hx2 : Keeps 2621441 s x2 := by
      unfold x2
      refine Keeps.fold ?_ ?_
      ·
        exact Keeps.refl _
      ·
        intro z6 q7 h8
        refine Keeps.step (State.joinMember_keeps ..) rfl ?_
        exact h8
    clear_value x2
    clear_value x3
    have hx4 : Keeps 2621441 s x4 := by
      unfold x4
      refine Keeps.ite ?_ ?_
      ·
        refine Keeps.step (State.setFld_keeps ..) rfl ?_
        refine Keeps.set_fab rfl ?_
        exact hx2
      ·
        exact hx2
    clear_value x4
    refine KeepsOut.next ?_
    refine Keeps.ite ?_ ?_
    ·
      refine Keeps.step (State.endJoin_keeps ..) rfl ?_
      exact hx4
    ·
      exact hx4

theorem execReady_keeps : ∀ s, KeepsOut 20971521 s (execReady s) := by
  intro s
  unfold execReady
  split
  ·
    rename_i y0
    refine KeepsOut.next ?_
    exact Keeps.refl _
  ·
    rename_i y1
    split
    ·
      rename_i y2 y3 y4 y5
      have e6 : Keeps 20971521 s (y4) := by
        refine Keeps.snd_eq y5 ?_
        refine Keeps.step (State.fresh_keeps ..) rfl ?_
        exact Keeps.refl _
      lift_lets -underBinder
      extract_lets -descend x7 x8 x9 x10
      clear_value x7
      have hx8 : Keeps 20971521 s x8 := by
        unfold x8
        refine Keeps.set_pwr rfl ?_
        exact e6
      clear_value x8
      have hx9 : Keeps 20971521 s x9 := by
        unfold x9
        refine Keeps.step (State.setReg_keeps ..) rfl ?_
        exact hx8
      clear_value x9
      have hx10 : Keeps 20971521 s x10 := by
        unfold x10
        refine Keeps.step (State.enterStep_keeps ..) rfl ?_
        exact hx9
      clear_value x10
      refine KeepsOut.next ?_
      refine Keeps.ite ?_ ?_
      ·
        refine Keeps.step (State.setReg_keeps ..) rfl ?_
        exact hx10
      ·
        exact hx10

theorem execBootStepTimeout_keeps : ∀ st s, KeepsOut 32047233 s (execBootStepTimeout st s) := by
  intro st s
  unfold execBootStepTimeout
  split
  ·
    rename_i y0
    refine KeepsOut.next ?_
    exact Keeps.refl _
  ·
    rename_i y1
    refine KeepsOut.next ?_
    refine Keeps.ite ?_ ?_
    ·
      refine Keeps.step (State.failModule_keeps ..) rfl ?_
      refine Keeps.step (State.enterStep_keeps ..) rfl ?_
      exact Keeps.refl _
    ·
      exact Keeps.refl _
  ·
    rename_i y2
    refine KeepsOut.next ?_
    refine Keeps.ite ?_ ?_
    ·
      refine Keeps.step (State.failModule_keeps ..) rfl ?_
      refine Keeps.step (State.enterStep_keeps ..) rfl ?_
      exact Keeps.refl _
    ·
      exact Keeps.refl _
  ·
    rename_i y3
    refine KeepsOut.next ?_
    refine Keeps.ite ?_ ?_
    ·
      refine Keeps.step (State.failModule_keeps ..) rfl ?_
      refine Keeps.step (State.enterStep_keeps ..) rfl ?_
      exact Keeps.refl _
    ·
      exact Keeps.refl _
  ·
    rename_i y4
    refine KeepsOut.next ?_
    refine Keeps.ite ?_ ?_
    ·
      refine Keeps.step (State.train_keeps ..) rfl ?_
      exact Keeps.refl _
    ·
      exact Keeps.refl _
  ·
    rename_i y5
    refine KeepsOut.next ?_
    refine Keeps.ite ?_ ?_
    ·
      refine Keeps.step (State.linkTrain_keeps ..) rfl ?_
      exact Keeps.refl _
    ·
      exact Keeps.refl _

theorem execMemberJoin_keeps : ∀ dev nonce s, KeepsOut 2097153 s (execMemberJoin dev nonce s) := by
  intro dev nonce s
  unfold execMemberJoin
  refine KeepsOut.next ?_
  refine Keeps.ite ?_ ?_
  ·
    refine Keeps.step (State.joinMember_keeps ..) rfl ?_
    exact Keeps.refl _
  ·
    exact Keeps.refl _

theorem execPodJoinTimeout_keeps : ∀ s, KeepsOut 2097153 s (execPodJoinTimeout s) := by
  intro s
  unfold execPodJoinTimeout
  split
  ·
    rename_i y0
    refine KeepsOut.next ?_
    exact Keeps.refl _
  ·
    rename_i y1
    lift_lets -underBinder
    extract_lets -descend x2 x3
    clear_value x2
    have hx3 : Keeps 2097153 s x3 := by
      unfold x3
      refine Keeps.set_host rfl ?_
      exact Keeps.refl _
    clear_value x3
    refine KeepsOut.next ?_
    refine Keeps.step (State.setFld_keeps ..) rfl ?_
    exact hx3

theorem State.partitionDone_keeps : ∀ s, Keeps 137 s (State.partitionDone s) := by
  intro s
  unfold State.partitionDone
  split
  ·
    rename_i y0 y1 y2
    refine Keeps.step (State.finishPartition_keeps ..) rfl ?_
    exact Keeps.refl _
  ·
    rename_i y3 y4
    exact Keeps.refl _

end Sys2Proof.Machine
end

