-- ==== Sys2Proof/Laws/KeepsCommands.lean ====
section
/-! SUPPORT. What each operation and each command of Machine/Commands.lean touches, one lemma each: the bits of its mask are the
parts of the state that it may change; the queue and the canonical form of the memories it keeps. -/
namespace Sys2Proof.Machine

theorem State.recordCounter_keeps : ∀ s c, Keeps 2097152 s (State.recordCounter s c) := by
  intro s c
  unfold State.recordCounter
  lift_lets -underBinder
  extract_lets -descend x0 x1
  clear_value x0
  clear_value x1
  refine Keeps.set_host rfl ?_
  exact Keeps.refl _

theorem State.cmdRefused_keeps : ∀ s st, Keeps 8388609 s (State.cmdRefused s st) := by
  intro s st
  unfold State.cmdRefused
  lift_lets -underBinder
  extract_lets -descend x0
  have hx0 : Keeps 8388609 s x0 := by
    unfold x0
    refine Keeps.ite ?_ ?_
    ·
      refine Keeps.step (State.inc_keeps ..) rfl ?_
      exact Keeps.refl _
    ·
      refine Keeps.ite ?_ ?_
      ·
        refine Keeps.step (State.inc_keeps ..) rfl ?_
        exact Keeps.refl _
      ·
        exact Keeps.refl _
  clear_value x0
  refine Keeps.step (State.log_keeps ..) rfl ?_
  exact hx0

theorem State.sendTunnel_keeps : ∀ s k msg user, KeepsOpt 12263609 s (fun z : State => z) (State.sendTunnel s k msg user) := by
  intro s k msg user
  unfold State.sendTunnel
  refine KeepsOpt.step (State.startTxn_keeps ..) rfl ?_
  exact Keeps.refl _

theorem State.cmdDone_keeps : ∀ s via st res, Keeps 12263609 s (State.cmdDone s via st res) := by
  intro s via st res
  unfold State.cmdDone
  split
  ·
    rename_i y0 y1 y2
    refine Keeps.step (State.completeWork_keeps ..) rfl ?_
    exact Keeps.refl _
  ·
    rename_i y3 y4 y5
    refine KeepsOpt.getD ?_ ?_
    ·
      refine KeepsOpt.step (State.sendTunnel_keeps ..) rfl ?_
      exact Keeps.refl _
    ·
      exact Keeps.refl _
  ·
    rename_i y6
    exact Keeps.refl _

theorem State.withThm_keeps : ∀ s t, Keeps 2097152 s (State.withThm s t) := by
  intro s t
  unfold State.withThm
  refine Keeps.set_host rfl ?_
  exact Keeps.refl _

theorem State.cmdPartition_keeps : ∀ s via c, Keeps 12320761 s (State.cmdPartition s via c) := by
  intro s via c
  unfold State.cmdPartition
  refine Keeps.ite ?_ ?_
  ·
    refine Keeps.step (State.cmdDone_keeps ..) rfl ?_
    exact Keeps.refl _
  ·
    refine Keeps.step (State.withThm_keeps ..) rfl ?_
    refine Keeps.step (State.startPartition_keeps ..) rfl ?_
    exact Keeps.refl _

theorem State.cmdInstanceReset_keeps : ∀ s via c, Keeps 12320761 s (State.cmdInstanceReset s via c) := by
  intro s via c
  unfold State.cmdInstanceReset
  refine Keeps.step (State.withThm_keeps ..) rfl ?_
  refine Keeps.step (State.resetInstance_keeps ..) rfl ?_
  exact Keeps.refl _

theorem State.setFlash_keeps : ∀ s f, Keeps 2097152 s (State.setFlash s f) := by
  intro s f
  unfold State.setFlash
  refine Keeps.set_host rfl ?_
  exact Keeps.refl _

theorem State.cmdKeyProvision_keeps : ∀ s via c, Keeps 12263609 s (State.cmdKeyProvision s via c) := by
  intro s via c
  unfold State.cmdKeyProvision
  split
  ·
    rename_i y0 y1 y2
    refine Keeps.step (State.cmdDone_keeps ..) rfl ?_
    refine Keeps.step (State.setFlash_keeps ..) rfl ?_
    exact Keeps.refl _
  ·
    rename_i y3 y4
    refine Keeps.step (State.cmdDone_keeps ..) rfl ?_
    exact Keeps.refl _

theorem State.cmdKeyWrite_keeps : ∀ s via c, Keeps 12263609 s (State.cmdKeyWrite s via c) := by
  intro s via c
  unfold State.cmdKeyWrite
  lift_lets -underBinder
  extract_lets -descend x0 x1 x2
  clear_value x0
  clear_value x1
  clear_value x2
  refine Keeps.ite ?_ ?_
  ·
    refine Keeps.step (State.cmdDone_keeps ..) rfl ?_
    exact Keeps.refl _
  ·
    split
    ·
      rename_i y3 y4
      refine Keeps.step (State.cmdDone_keeps ..) rfl ?_
      exact Keeps.refl _
    ·
      rename_i y5 y6 y7
      refine Keeps.ite ?_ ?_
      ·
        refine Keeps.step (State.cmdDone_keeps ..) rfl ?_
        refine Keeps.step (State.setFlash_keeps ..) rfl ?_
        exact Keeps.refl _
      ·
        refine Keeps.ite ?_ ?_
        ·
          refine Keeps.step (State.cmdDone_keeps ..) rfl ?_
          refine Keeps.step (State.setFlash_keeps ..) rfl ?_
          exact Keeps.refl _
        ·
          refine Keeps.step (State.cmdDone_keeps ..) rfl ?_
          refine Keeps.set_host rfl ?_
          exact Keeps.refl _

theorem State.cmdKeyRetire_keeps : ∀ s via c, Keeps 12263609 s (State.cmdKeyRetire s via c) := by
  intro s via c
  unfold State.cmdKeyRetire
  lift_lets -underBinder
  extract_lets -descend x0 x1 x2 x3 x4
  clear_value x0
  clear_value x1
  clear_value x2
  clear_value x3
  clear_value x4
  refine Keeps.ite ?_ ?_
  ·
    refine Keeps.ite ?_ ?_
    ·
      refine Keeps.step (State.cmdDone_keeps ..) rfl ?_
      exact Keeps.refl _
    ·
      refine Keeps.step (State.cmdDone_keeps ..) rfl ?_
      refine Keeps.step (State.setFlash_keeps ..) rfl ?_
      exact Keeps.refl _
  ·
    refine Keeps.ite ?_ ?_
    ·
      refine Keeps.step (State.cmdDone_keeps ..) rfl ?_
      refine Keeps.step (State.setFlash_keeps ..) rfl ?_
      exact Keeps.refl _
    ·
      refine Keeps.step (State.cmdDone_keeps ..) rfl ?_
      refine Keeps.set_host rfl ?_
      exact Keeps.refl _

theorem State.enterMaint_keeps : ∀ s via, Keeps 12263609 s (State.enterMaint s via) := by
  intro s via
  unfold State.enterMaint
  refine Keeps.step (State.cmdDone_keeps ..) rfl ?_
  refine Keeps.step (State.withThm_keeps ..) rfl ?_
  refine Keeps.step (State.setFld_keeps ..) rfl ?_
  refine Keeps.step (State.setModState_keeps ..) rfl ?_
  exact Keeps.refl _

theorem State.cmdMaintEnter_keeps : ∀ s via, Keeps 12263609 s (State.cmdMaintEnter s via) := by
  intro s via
  unfold State.cmdMaintEnter
  refine Keeps.ite ?_ ?_
  ·
    refine Keeps.step (State.cmdDone_keeps ..) rfl ?_
    exact Keeps.refl _
  ·
    refine Keeps.step (State.withThm_keeps ..) rfl ?_
    exact Keeps.refl _

theorem State.cmdMaintExit_keeps : ∀ s via, Keeps 12263609 s (State.cmdMaintExit s via) := by
  intro s via
  unfold State.cmdMaintExit
  lift_lets -underBinder
  extract_lets -descend x0
  have hx0 : Keeps 12263609 s x0 := by
    unfold x0
    refine Keeps.step (State.setFld_keeps ..) rfl ?_
    exact Keeps.refl _
  clear_value x0
  refine Keeps.step (State.cmdDone_keeps ..) rfl ?_
  refine Keeps.ite ?_ ?_
  ·
    refine Keeps.step (State.showVote_keeps ..) rfl ?_
    refine Keeps.step (State.setModState_keeps ..) rfl ?_
    exact hx0
  ·
    exact hx0

theorem State.cmdRegWrite_keeps : ∀ s via c, Keeps 16777215 s (State.cmdRegWrite s via c) := by
  intro s via c
  unfold State.cmdRegWrite
  lift_lets -underBinder
  extract_lets -descend x0 x1
  clear_value x0
  clear_value x1
  refine Keeps.ite ?_ ?_
  ·
    refine Keeps.step (State.moduleReset_keeps ..) rfl ?_
    refine Keeps.step (State.cmdDone_keeps ..) rfl ?_
    exact Keeps.refl _
  ·
    refine Keeps.ite ?_ ?_
    ·
      refine Keeps.ite ?_ ?_
      ·
        refine Keeps.step (State.cmdMaintEnter_keeps ..) rfl ?_
        exact Keeps.refl _
      ·
        refine Keeps.step (State.cmdMaintExit_keeps ..) rfl ?_
        exact Keeps.refl _
    ·
      refine Keeps.step (State.cmdDone_keeps ..) rfl ?_
      refine Keeps.step (State.writeReg_keeps ..) rfl ?_
      exact Keeps.refl _

theorem State.cmdRegRead_keeps : ∀ s via c, Keeps 12263673 s (State.cmdRegRead s via c) := by
  intro s via c
  unfold State.cmdRegRead
  lift_lets -underBinder
  extract_lets -descend x0
  clear_value x0
  refine Keeps.ite ?_ ?_
  ·
    refine Keeps.step (State.cmdDone_keeps ..) rfl ?_
    exact Keeps.refl _
  ·
    split
    ·
      rename_i y1 y2 y3 y4
      have e5 : Keeps 12263673 s (y3) := by
        refine Keeps.snd_eq y4 ?_
        refine Keeps.step (State.readReg_keeps ..) rfl ?_
        exact Keeps.refl _
      refine Keeps.step (State.cmdDone_keeps ..) rfl ?_
      exact e5

theorem State.cmdCmdStatus_keeps : ∀ s via c, Keeps 12263609 s (State.cmdCmdStatus s via c) := by
  intro s via c
  unfold State.cmdCmdStatus
  refine Keeps.step (State.cmdDone_keeps ..) rfl ?_
  exact Keeps.refl _

theorem State.cmdImageWrite_keeps : ∀ s via c, Keeps 12263609 s (State.cmdImageWrite s via c) := by
  intro s via c
  unfold State.cmdImageWrite
  lift_lets -underBinder
  extract_lets -descend x0 x1 x2 x3 x4
  clear_value x0
  clear_value x1
  clear_value x2
  clear_value x3
  clear_value x4
  refine Keeps.ite ?_ ?_
  ·
    refine Keeps.step (State.cmdDone_keeps ..) rfl ?_
    exact Keeps.refl _
  ·
    split
    ·
      rename_i y5 y6
      refine Keeps.step (State.cmdDone_keeps ..) rfl ?_
      exact Keeps.refl _
    ·
      rename_i y7 y8 y9
      refine Keeps.ite ?_ ?_
      ·
        refine Keeps.step (State.cmdDone_keeps ..) rfl ?_
        exact Keeps.refl _
      ·
        refine Keeps.ite ?_ ?_
        ·
          refine Keeps.step (State.cmdDone_keeps ..) rfl ?_
          exact Keeps.refl _
        ·
          lift_lets -underBinder
          extract_lets -descend x10 x11 x12 x13
          have hx10 : Keeps 12263609 s x10 := by
            unfold x10
            refine Keeps.step (State.setFlash_keeps ..) rfl ?_
            exact Keeps.refl _
          clear_value x10
          clear_value x11
          have hx12 : Keeps 12263609 s x12 := by
            unfold x12
            refine Keeps.set_host rfl ?_
            exact hx10
          clear_value x12
          have hx13 : Keeps 12263609 s x13 := by
            unfold x13
            refine Keeps.step (State.setReg_keeps ..) rfl ?_
            exact hx12
          clear_value x13
          refine Keeps.step (State.cmdDone_keeps ..) rfl ?_
          exact hx13

theorem State.cmdPowerCap_keeps : ∀ s via c, Keeps 12263609 s (State.cmdPowerCap s via c) := by
  intro s via c
  unfold State.cmdPowerCap
  lift_lets -underBinder
  extract_lets -descend x0
  have hx0 : Keeps 12263609 s x0 := by
    unfold x0
    refine Keeps.step (State.setCap_keeps ..) rfl ?_
    exact Keeps.refl _
  clear_value x0
  refine Keeps.step (State.cmdDone_keeps ..) rfl ?_
  exact hx0

theorem State.cmdFirmwarePatch_keeps : ∀ s via c, Keeps 12263609 s (State.cmdFirmwarePatch s via c) := by
  intro s via c
  unfold State.cmdFirmwarePatch
  lift_lets -underBinder
  extract_lets -descend x0 x1
  clear_value x0
  clear_value x1
  split
  ·
    rename_i y2 y3
    lift_lets -underBinder
    extract_lets -descend x4
    have hx4 : Keeps 12263609 s x4 := by
      unfold x4
      refine Keeps.step (State.setFld_keeps ..) rfl ?_
      exact Keeps.refl _
    clear_value x4
    refine Keeps.step (State.cmdDone_keeps ..) rfl ?_
    refine Keeps.step (State.setFld_keeps ..) rfl ?_
    exact hx4
  ·
    rename_i y5 y6
    refine Keeps.step (State.cmdDone_keeps ..) rfl ?_
    refine Keeps.step (State.readFailed_keeps ..) rfl ?_
    exact Keeps.refl _

theorem State.cmdHbmRepair_keeps : ∀ s via c out, Keeps 12263609 s (State.cmdHbmRepair s via c out) := by
  intro s via c out
  unfold State.cmdHbmRepair
  lift_lets -underBinder
  extract_lets -descend x0 x1
  clear_value x0
  clear_value x1
  refine Keeps.ite ?_ ?_
  ·
    refine Keeps.step (State.cmdDone_keeps ..) rfl ?_
    exact Keeps.refl _
  ·
    split
    ·
      rename_i y2 y3 y4
      lift_lets -underBinder
      extract_lets -descend x5 x6
      clear_value x5
      have hx6 : Keeps 12263609 s x6 := by
        unfold x6
        refine Keeps.fold ?_ ?_
        ·
          exact Keeps.refl _
        ·
          intro z7 q8 h9
          refine Keeps.step (State.dropLine_keeps ..) rfl ?_
          refine Keeps.step (State.cleanLine_keeps ..) rfl ?_
          exact h9
      clear_value x6
      split
      ·
        rename_i y10
        refine Keeps.step (State.cmdDone_keeps ..) rfl ?_
        exact hx6
      ·
        rename_i y11
        refine Keeps.step (State.cmdDone_keeps ..) rfl ?_
        exact hx6
      ·
        rename_i y12
        lift_lets -underBinder
        extract_lets -descend x13 x14 x15
        have hx13 : Keeps 12263609 s x13 := by
          unfold x13
          refine Keeps.set_mem rfl ?_ ?_
          ·
            exact fun h => Tbl.wf_filter _ _ _ h
          ·
            exact hx6
        clear_value x13
        have hx14 : Keeps 12263609 s x14 := by
          unfold x14
          refine Keeps.step (State.setFld_keeps ..) rfl ?_
          exact hx13
        clear_value x14
        have hx15 : Keeps 12263609 s x15 := by
          unfold x15
          refine Keeps.ite ?_ ?_
          ·
            refine Keeps.step (State.setFld_keeps ..) rfl ?_
            exact hx14
          ·
            exact hx14
        clear_value x15
        refine Keeps.step (State.cmdDone_keeps ..) rfl ?_
        refine Keeps.step (State.log_keeps ..) rfl ?_
        exact hx15
    ·
      rename_i y16 y17
      refine Keeps.step (State.cmdDone_keeps ..) rfl ?_
      exact Keeps.refl _

theorem State.cmdSessionCreate_keeps : ∀ s via c nonce, Keeps 12263609 s (State.cmdSessionCreate s via c nonce) := by
  intro s via c nonce
  unfold State.cmdSessionCreate
  lift_lets -underBinder
  extract_lets -descend x0
  clear_value x0
  refine Keeps.ite ?_ ?_
  ·
    refine Keeps.step (State.cmdDone_keeps ..) rfl ?_
    exact Keeps.refl _
  ·
    refine Keeps.step (State.cmdDone_keeps ..) rfl ?_
    refine Keeps.step (State.createSession_keeps ..) rfl ?_
    exact Keeps.refl _

theorem State.cmdSessionClose_keeps : ∀ s via c, Keeps 12263609 s (State.cmdSessionClose s via c) := by
  intro s via c
  unfold State.cmdSessionClose
  refine Keeps.step (State.cmdDone_keeps ..) rfl ?_
  refine Keeps.step (State.closeSession_keeps ..) rfl ?_
  exact Keeps.refl _

theorem State.cmdResume_keeps : ∀ s via c, Keeps 12265657 s (State.cmdResume s via c) := by
  intro s via c
  unfold State.cmdResume
  lift_lets -underBinder
  extract_lets -descend x0 x1 x2 x3 x4
  clear_value x1
  have hx2 : Keeps 12265657 s x2 := by
    unfold x2
    refine Keeps.step (State.setReg_keeps ..) rfl ?_
    refine Keeps.step (State.setReg_keeps ..) rfl ?_
    exact Keeps.refl _
  clear_value x2
  have hx3 : Keeps 12265657 s x3 := by
    unfold x3
    refine Keeps.step (State.setReg_keeps ..) rfl ?_
    refine Keeps.step (State.setReg_keeps ..) rfl ?_
    exact hx2
  clear_value x3
  have hx4 : Keeps 12265657 s x4 := by
    unfold x4
    refine Keeps.step (State.imageReg_keeps ..) rfl ?_
    exact hx3
  clear_value x4
  refine Keeps.step (State.cmdDone_keeps ..) rfl ?_
  refine Keeps.step (State.resumeVote_keeps ..) rfl ?_
  exact hx4

theorem State.cmdDoorbell_keeps : ∀ s via c, Keeps 12263609 s (State.cmdDoorbell s via c) := by
  intro s via c
  unfold State.cmdDoorbell
  lift_lets -underBinder
  extract_lets -descend x0 x1 x2 x3
  clear_value x0
  clear_value x1
  clear_value x2
  clear_value x3
  refine Keeps.step (State.cmdDone_keeps ..) rfl ?_
  refine Keeps.step (State.writeQTail_keeps ..) rfl ?_
  exact Keeps.refl _

theorem State.cmdLogSeal_keeps : ∀ s via c, Keeps 12263609 s (State.cmdLogSeal s via c) := by
  intro s via c
  unfold State.cmdLogSeal
  lift_lets -underBinder
  extract_lets -descend x0 x1 x2
  clear_value x0
  clear_value x1
  clear_value x2
  refine Keeps.ite ?_ ?_
  ·
    refine Keeps.step (State.cmdDone_keeps ..) rfl ?_
    exact Keeps.refl _
  ·
    split
    ·
      rename_i y3 y4
      refine Keeps.ite ?_ ?_
      ·
        refine Keeps.step (State.cmdDone_keeps ..) rfl ?_
        exact Keeps.refl _
      ·
        lift_lets -underBinder
        extract_lets -descend x5
        clear_value x5
        refine Keeps.step (State.cmdDone_keeps ..) rfl ?_
        refine Keeps.step (State.putBytes_keeps ..) rfl ?_
        exact Keeps.refl _
    ·
      rename_i y6 y7
      refine Keeps.step (State.cmdDone_keeps ..) rfl ?_
      exact Keeps.refl _

theorem State.cmdExecute_keeps : ∀ s via c env, Keeps 16777215 s (State.cmdExecute s via c env) := by
  intro s via c env
  unfold State.cmdExecute
  split
  ·
    rename_i y0 y1
    refine Keeps.step (State.cmdPartition_keeps ..) rfl ?_
    exact Keeps.refl _
  ·
    rename_i y2 y3
    refine Keeps.step (State.cmdInstanceReset_keeps ..) rfl ?_
    exact Keeps.refl _
  ·
    rename_i y4 y5
    refine Keeps.step (State.cmdKeyProvision_keeps ..) rfl ?_
    exact Keeps.refl _
  ·
    rename_i y6 y7
    refine Keeps.step (State.cmdKeyWrite_keeps ..) rfl ?_
    exact Keeps.refl _
  ·
    rename_i y8 y9
    refine Keeps.step (State.cmdKeyRetire_keeps ..) rfl ?_
    exact Keeps.refl _
  ·
    rename_i y10 y11
    refine Keeps.step (State.cmdRegWrite_keeps ..) rfl ?_
    exact Keeps.refl _
  ·
    rename_i y12 y13
    refine Keeps.step (State.cmdImageWrite_keeps ..) rfl ?_
    exact Keeps.refl _
  ·
    rename_i y14 y15
    refine Keeps.step (State.cmdPowerCap_keeps ..) rfl ?_
    exact Keeps.refl _
  ·
    rename_i y16 y17
    refine Keeps.step (State.cmdFirmwarePatch_keeps ..) rfl ?_
    exact Keeps.refl _
  ·
    rename_i y18 y19
    refine Keeps.step (State.cmdHbmRepair_keeps ..) rfl ?_
    exact Keeps.refl _
  ·
    rename_i y20 y21
    refine Keeps.step (State.cmdSessionCreate_keeps ..) rfl ?_
    exact Keeps.refl _
  ·
    rename_i y22 y23
    refine Keeps.step (State.cmdSessionClose_keeps ..) rfl ?_
    exact Keeps.refl _
  ·
    rename_i y24 y25
    refine Keeps.step (State.cmdResume_keeps ..) rfl ?_
    exact Keeps.refl _
  ·
    rename_i y26 y27
    refine Keeps.step (State.cmdDoorbell_keeps ..) rfl ?_
    exact Keeps.refl _
  ·
    rename_i y28 y29
    refine Keeps.step (State.cmdRegRead_keeps ..) rfl ?_
    exact Keeps.refl _
  ·
    rename_i y30 y31
    refine Keeps.step (State.cmdCmdStatus_keeps ..) rfl ?_
    exact Keeps.refl _
  ·
    rename_i y32 y33
    refine Keeps.step (State.cmdLogSeal_keeps ..) rfl ?_
    exact Keeps.refl _
  ·
    rename_i y34 y35 y36 y37 y38 y39 y40 y41 y42 y43 y44 y45 y46 y47 y48 y49 y50 y51
    refine Keeps.step (State.cmdDone_keeps ..) rfl ?_
    exact Keeps.refl _

theorem State.cmdReceive_keeps : ∀ s via c wellFormed vf tunnelled env, Keeps 16777215 s (State.cmdReceive s via c wellFormed vf tunnelled env) := by
  intro s via c wellFormed vf tunnelled env
  unfold State.cmdReceive
  split
  ·
    rename_i y0 y1
    refine Keeps.step (State.cmdExecute_keeps ..) rfl ?_
    refine Keeps.step (State.recordCounter_keeps ..) rfl ?_
    exact Keeps.refl _
  ·
    rename_i y2 y3
    refine Keeps.step (State.cmdDone_keeps ..) rfl ?_
    refine Keeps.step (State.cmdRefused_keeps ..) rfl ?_
    exact Keeps.refl _

theorem State.cmdForward_keeps : ∀ s w q c block, Keeps 12263609 s (State.cmdForward s w q c block) := by
  intro s w q c block
  unfold State.cmdForward
  lift_lets -underBinder
  extract_lets -descend x0
  clear_value x0
  refine Keeps.ite ?_ ?_
  ·
    refine Keeps.step (State.completeWork_keeps ..) rfl ?_
    refine Keeps.step (State.cmdRefused_keeps ..) rfl ?_
    exact Keeps.refl _
  ·
    refine Keeps.ite ?_ ?_
    ·
      refine Keeps.step (State.completeWork_keeps ..) rfl ?_
      exact Keeps.refl _
    ·
      split
      ·
        rename_i y1 y2
        refine Keeps.step (State.completeWork_keeps ..) rfl ?_
        exact Keeps.refl _
      ·
        rename_i y3 y4 y5
        lift_lets -underBinder
        extract_lets -descend x6 x7
        clear_value x6
        clear_value x7
        split
        ·
          rename_i y8 y9 y10
          have e11 : Keeps 12263609 s y9 := by
            refine KeepsOpt.eq (π := (fun z : State => z)) y10 ?_
            refine KeepsOpt.step (State.sendTunnel_keeps ..) rfl ?_
            refine Keeps.set_host rfl ?_
            exact Keeps.refl _
          exact e11
        ·
          rename_i y12 y13
          refine Keeps.step (State.completeWork_keeps ..) rfl ?_
          exact Keeps.refl _

theorem State.cmdRow_keeps : ∀ s q want env, Keeps 16777215 s (State.cmdRow s q want env) := by
  intro s q want env
  unfold State.cmdRow
  split
  ·
    rename_i y0 y1
    exact Keeps.refl _
  ·
    rename_i y2 y3 y4 y5
    split
    ·
      rename_i y6 y7 y8 y9 y10
      lift_lets -underBinder
      extract_lets -descend x11 x12 x13
      clear_value x11
      clear_value x12
      clear_value x13
      refine Keeps.ite ?_ ?_
      ·
        exact Keeps.refl _
      ·
        refine Keeps.ite ?_ ?_
        ·
          exact Keeps.refl _
        ·
          refine Keeps.ite ?_ ?_
          ·
            exact Keeps.refl _
          ·
            split
            ·
              rename_i y14 y15 y16 y17
              have e18 : Keeps 16777215 s (y16) := by
                refine Keeps.snd_eq y17 ?_
                refine Keeps.step (State.openWork_keeps ..) rfl ?_
                exact Keeps.refl _
              refine Keeps.ite ?_ ?_
              ·
                refine Keeps.step (State.completeWork_keeps ..) rfl ?_
                exact e18
              ·
                refine Keeps.ite ?_ ?_
                ·
                  refine Keeps.step (State.completeWork_keeps ..) rfl ?_
                  refine Keeps.step (State.readFailed_keeps ..) rfl ?_
                  exact e18
                ·
                  refine Keeps.ite ?_ ?_
                  ·
                    refine Keeps.step (State.cmdForward_keeps ..) rfl ?_
                    exact e18
                  ·
                    refine Keeps.step (State.cmdReceive_keeps ..) rfl ?_
                    exact e18

theorem State.tunnelled_keeps : ∀ s j b, Keeps 33554431 s (State.tunnelled s j b) := by
  intro s j b
  unfold State.tunnelled
  split
  ·
    rename_i y0 y1 y2 y3
    split
    ·
      rename_i y4 y5 y6 y7
      have e8 : Keeps 33554431 s (y6) := by
        refine Keeps.snd_eq y7 ?_
        refine Keeps.step (State.fresh_keeps ..) rfl ?_
        exact Keeps.refl _
      split
      ·
        rename_i y9 y10 y11 y12
        have e13 : Keeps 33554431 s (y11) := by
          refine Keeps.snd_eq y12 ?_
          refine Keeps.step (State.fresh_keeps ..) rfl ?_
          exact e8
        lift_lets -underBinder
        extract_lets -descend x14
        clear_value x14
        refine Keeps.step (State.cmdReceive_keeps ..) rfl ?_
        exact e13

theorem State.tunnelAnswered_keeps : ∀ s b, Keeps 2097305 s (State.tunnelAnswered s b) := by
  intro s b
  unfold State.tunnelAnswered
  split
  ·
    rename_i y0 y1
    exact Keeps.refl _
  ·
    rename_i y2 y3 y4
    lift_lets -underBinder
    extract_lets -descend x5 x6
    clear_value x5
    have hx6 : Keeps 2097305 s x6 := by
      unfold x6
      refine Keeps.set_host rfl ?_
      exact Keeps.refl _
    clear_value x6
    refine Keeps.step (State.completeWork_keeps ..) rfl ?_
    exact hx6

theorem execPartition_keeps : ∀ q s, KeepsOut 16777215 s (execPartition q s) := by
  intro q s
  unfold execPartition
  refine KeepsOut.next ?_
  refine Keeps.step (State.cmdRow_keeps ..) rfl ?_
  exact Keeps.refl _

theorem execInstanceReset_keeps : ∀ q s, KeepsOut 16777215 s (execInstanceReset q s) := by
  intro q s
  unfold execInstanceReset
  refine KeepsOut.next ?_
  refine Keeps.step (State.cmdRow_keeps ..) rfl ?_
  exact Keeps.refl _

theorem execKeyProvision_keeps : ∀ q s, KeepsOut 16777215 s (execKeyProvision q s) := by
  intro q s
  unfold execKeyProvision
  refine KeepsOut.next ?_
  refine Keeps.step (State.cmdRow_keeps ..) rfl ?_
  exact Keeps.refl _

theorem execKeyWrite_keeps : ∀ q s, KeepsOut 16777215 s (execKeyWrite q s) := by
  intro q s
  unfold execKeyWrite
  refine KeepsOut.next ?_
  refine Keeps.step (State.cmdRow_keeps ..) rfl ?_
  exact Keeps.refl _

theorem execKeyRetire_keeps : ∀ q s, KeepsOut 16777215 s (execKeyRetire q s) := by
  intro q s
  unfold execKeyRetire
  refine KeepsOut.next ?_
  refine Keeps.step (State.cmdRow_keeps ..) rfl ?_
  exact Keeps.refl _

theorem execRegWrite_keeps : ∀ q s, KeepsOut 16777215 s (execRegWrite q s) := by
  intro q s
  unfold execRegWrite
  refine KeepsOut.next ?_
  refine Keeps.step (State.cmdRow_keeps ..) rfl ?_
  exact Keeps.refl _

theorem execImageWrite_keeps : ∀ q s, KeepsOut 16777215 s (execImageWrite q s) := by
  intro q s
  unfold execImageWrite
  refine KeepsOut.next ?_
  refine Keeps.step (State.cmdRow_keeps ..) rfl ?_
  exact Keeps.refl _

theorem execPowerCap_keeps : ∀ q s, KeepsOut 16777215 s (execPowerCap q s) := by
  intro q s
  unfold execPowerCap
  refine KeepsOut.next ?_
  refine Keeps.step (State.cmdRow_keeps ..) rfl ?_
  exact Keeps.refl _

theorem execFirmwarePatch_keeps : ∀ q s, KeepsOut 16777215 s (execFirmwarePatch q s) := by
  intro q s
  unfold execFirmwarePatch
  refine KeepsOut.next ?_
  refine Keeps.step (State.cmdRow_keeps ..) rfl ?_
  exact Keeps.refl _

theorem execHbmRepair_keeps : ∀ q out s, KeepsOut 16777215 s (execHbmRepair q out s) := by
  intro q out s
  unfold execHbmRepair
  refine KeepsOut.next ?_
  refine Keeps.step (State.cmdRow_keeps ..) rfl ?_
  exact Keeps.refl _

theorem execSessionCreate_keeps : ∀ q nonce s, KeepsOut 16777215 s (execSessionCreate q nonce s) := by
  intro q nonce s
  unfold execSessionCreate
  refine KeepsOut.next ?_
  refine Keeps.step (State.cmdRow_keeps ..) rfl ?_
  exact Keeps.refl _

theorem execSessionClose_keeps : ∀ q s, KeepsOut 16777215 s (execSessionClose q s) := by
  intro q s
  unfold execSessionClose
  refine KeepsOut.next ?_
  refine Keeps.step (State.cmdRow_keeps ..) rfl ?_
  exact Keeps.refl _

theorem execResume_keeps : ∀ q s, KeepsOut 16777215 s (execResume q s) := by
  intro q s
  unfold execResume
  refine KeepsOut.next ?_
  refine Keeps.step (State.cmdRow_keeps ..) rfl ?_
  exact Keeps.refl _

theorem execDoorbell_keeps : ∀ q s, KeepsOut 16777215 s (execDoorbell q s) := by
  intro q s
  unfold execDoorbell
  refine KeepsOut.next ?_
  refine Keeps.step (State.cmdRow_keeps ..) rfl ?_
  exact Keeps.refl _

theorem execRegRead_keeps : ∀ q s, KeepsOut 16777215 s (execRegRead q s) := by
  intro q s
  unfold execRegRead
  refine KeepsOut.next ?_
  refine Keeps.step (State.cmdRow_keeps ..) rfl ?_
  exact Keeps.refl _

theorem execCmdStatus_keeps : ∀ q s, KeepsOut 16777215 s (execCmdStatus q s) := by
  intro q s
  unfold execCmdStatus
  refine KeepsOut.next ?_
  refine Keeps.step (State.cmdRow_keeps ..) rfl ?_
  exact Keeps.refl _

theorem execLogSeal_keeps : ∀ q s, KeepsOut 16777215 s (execLogSeal q s) := by
  intro q s
  unfold execLogSeal
  refine KeepsOut.next ?_
  refine Keeps.step (State.cmdRow_keeps ..) rfl ?_
  exact Keeps.refl _

theorem execModuleReset_keeps : ∀ q s, KeepsOut 16777215 s (execModuleReset q s) := by
  intro q s
  unfold execModuleReset
  refine KeepsOut.next ?_
  refine Keeps.step (State.cmdRow_keeps ..) rfl ?_
  exact Keeps.refl _

theorem execMaintenanceEnter_keeps : ∀ q s, KeepsOut 16777215 s (execMaintenanceEnter q s) := by
  intro q s
  unfold execMaintenanceEnter
  refine KeepsOut.next ?_
  refine Keeps.step (State.cmdRow_keeps ..) rfl ?_
  exact Keeps.refl _

theorem execMaintenanceExit_keeps : ∀ q s, KeepsOut 16777215 s (execMaintenanceExit q s) := by
  intro q s
  unfold execMaintenanceExit
  refine KeepsOut.next ?_
  refine Keeps.step (State.cmdRow_keeps ..) rfl ?_
  exact Keeps.refl _

theorem execMaintenanceDrain_keeps : ∀ expired s, KeepsOut 12263609 s (execMaintenanceDrain expired s) := by
  intro expired s
  unfold execMaintenanceDrain
  split
  ·
    rename_i y0 y1 y2
    split
    ·
      rename_i y3
      refine KeepsOut.next ?_
      refine Keeps.step (State.enterMaint_keeps ..) rfl ?_
      exact Keeps.refl _
    ·
      rename_i y4
      split
      ·
        rename_i y5
        refine KeepsOut.next ?_
        refine Keeps.step (State.cmdDone_keeps ..) rfl ?_
        refine Keeps.step (State.withThm_keeps ..) rfl ?_
        exact Keeps.refl _
      ·
        rename_i y6
        refine KeepsOut.next ?_
        exact Keeps.refl _
  ·
    rename_i y7 y8
    refine KeepsOut.next ?_
    exact Keeps.refl _

theorem execInstanceResetComplete_keeps : ∀ i s, KeepsOut 12263609 s (execInstanceResetComplete i s) := by
  intro i s
  unfold execInstanceResetComplete
  split
  ·
    rename_i y0 y1 y2 y3
    split
    ·
      rename_i y4
      refine KeepsOut.next ?_
      refine Keeps.step (State.cmdDone_keeps ..) rfl ?_
      refine Keeps.step (State.resetOver_keeps ..) rfl ?_
      refine Keeps.step (State.withThm_keeps ..) rfl ?_
      exact Keeps.refl _
    ·
      rename_i y5
      refine KeepsOut.next ?_
      exact Keeps.refl _
  ·
    rename_i y6 y7
    refine KeepsOut.next ?_
    exact Keeps.refl _

theorem execPartitionChangeComplete_keeps : ∀ s, KeepsOut 12263609 s (execPartitionChangeComplete s) := by
  intro s
  unfold execPartitionChangeComplete
  split
  ·
    rename_i y0 y1 y2 y3
    refine KeepsOut.next ?_
    refine Keeps.step (State.cmdDone_keeps ..) rfl ?_
    refine Keeps.step (State.withThm_keeps ..) rfl ?_
    refine Keeps.step (State.partitionDone_keeps ..) rfl ?_
    exact Keeps.refl _
  ·
    rename_i y4 y5
    refine KeepsOut.next ?_
    exact Keeps.refl _

theorem execImageProgramComplete_keeps : ∀ verified s, KeepsOut 10485761 s (execImageProgramComplete verified s) := by
  intro verified s
  unfold execImageProgramComplete
  split
  ·
    rename_i y0 y1
    refine KeepsOut.next ?_
    exact Keeps.refl _
  ·
    rename_i y2 y3 y4 y5
    split
    ·
      rename_i y6
      refine KeepsOut.next ?_
      exact Keeps.refl _
    ·
      rename_i y7
      lift_lets -underBinder
      extract_lets -descend x8 x9 x10 x11 x12 x13
      clear_value x8
      have hx9 : Keeps 10485761 s x9 := by
        unfold x9
        refine Keeps.set_host rfl ?_
        exact Keeps.refl _
      clear_value x9
      clear_value x10
      clear_value x11
      have hx12 : Keeps 10485761 s x12 := by
        unfold x12
        refine Keeps.step (State.setFlash_keeps ..) rfl ?_
        exact hx9
      clear_value x12
      have hx13 : Keeps 10485761 s x13 := by
        unfold x13
        refine Keeps.step (State.showImage_keeps ..) rfl ?_
        exact hx12
      clear_value x13
      split
      ·
        rename_i y14
        refine KeepsOut.next ?_
        refine Keeps.step (State.setFld_keeps ..) rfl ?_
        exact hx13
      ·
        rename_i y15
        refine KeepsOut.next ?_
        refine Keeps.step (State.log_keeps ..) rfl ?_
        refine Keeps.step (State.setReg_keeps ..) rfl ?_
        exact hx9

theorem execTunnelledCommand_keeps : ∀ k s, KeepsOut 33554431 s (execTunnelledCommand k s) := by
  intro k s
  unfold execTunnelledCommand
  split
  ·
    rename_i y0
    refine KeepsOut.next ?_
    exact Keeps.refl _
  ·
    rename_i y1
    refine KeepsOut.next ?_
    unfold State.withMsg
    split
    ·
      rename_i y2 y3
      exact Keeps.refl _
    ·
      rename_i y4 y5 y6 y7 y8
      refine Keeps.ite ?_ ?_
      ·
        exact Keeps.refl _
      ·
        lift_lets -underBinder
        extract_lets -descend x9 x10 x11
        have hx9 : Keeps 33554431 s x9 := by
          unfold x9
          refine Keeps.set_ingress rfl ?_
          exact Keeps.refl _
        clear_value x9
        clear_value x10
        have hx11 : Keeps 33554431 s x11 := by
          unfold x11
          refine Keeps.ite ?_ ?_
          ·
            exact hx9
          ·
            dsimp -zeta only
            refine Keeps.step (State.tunnelled_keeps ..) rfl ?_
            exact hx9
        clear_value x11
        refine Keeps.fold ?_ ?_
        ·
          exact hx11
        ·
          intro z12 q13 h14
          refine Keeps.step (State.answerRx_keeps ..) rfl ?_
          exact h14

theorem execTunnelledCommandAnswer_keeps : ∀ k s, KeepsOut 2424985 s (execTunnelledCommandAnswer k s) := by
  intro k s
  unfold execTunnelledCommandAnswer
  refine KeepsOut.next ?_
  unfold State.withMsg
  split
  ·
    rename_i y0 y1
    exact Keeps.refl _
  ·
    rename_i y2 y3 y4 y5 y6
    refine Keeps.ite ?_ ?_
    ·
      exact Keeps.refl _
    ·
      lift_lets -underBinder
      extract_lets -descend x7 x8 x9
      have hx7 : Keeps 2424985 s x7 := by
        unfold x7
        refine Keeps.set_ingress rfl ?_
        exact Keeps.refl _
      clear_value x7
      clear_value x8
      have hx9 : Keeps 2424985 s x9 := by
        unfold x9
        refine Keeps.ite ?_ ?_
        ·
          exact hx7
        ·
          dsimp -zeta only
          refine Keeps.step (State.tunnelAnswered_keeps ..) rfl ?_
          exact hx7
      clear_value x9
      refine Keeps.fold ?_ ?_
      ·
        exact hx9
      ·
        intro z10 q11 h12
        refine Keeps.step (State.answerRx_keeps ..) rfl ?_
        exact h12

theorem execTunnelTimeout_keeps : ∀ k s, KeepsOut 2097305 s (execTunnelTimeout k s) := by
  intro k s
  unfold execTunnelTimeout
  split
  ·
    rename_i y0 y1
    refine KeepsOut.next ?_
    exact Keeps.refl _
  ·
    rename_i y2 y3 y4
    lift_lets -underBinder
    extract_lets -descend x5 x6
    clear_value x5
    have hx6 : Keeps 2097305 s x6 := by
      unfold x6
      refine Keeps.set_host rfl ?_
      exact Keeps.refl _
    clear_value x6
    refine KeepsOut.next ?_
    refine Keeps.step (State.completeWork_keeps ..) rfl ?_
    exact hx6

end Sys2Proof.Machine
end

