-- ==== Sys2Proof/Laws/State.lean ====
section
/-! SUPPORT. Reading after writing: registers, fields, counters and cores; and the parts of the state that a register write
leaves alone. -/
namespace Sys2Proof.Machine
/-- Reading a register after writing one. -/
@[simp] theorem State.reg_setReg (s : State) (off r : Nat) (v : Word) :
    (s.setReg off v).reg r = if r = off then v else s.reg r := by
  unfold State.reg State.setReg
  split
  · rename_i h
    subst h
    exact Tbl.get_set_same _ _ _ _
  · rename_i h
    exact Tbl.get_set_ne _ _ _ _ _ _ h

@[simp] theorem State.reg_setFld (s : State) (off r : Nat) (f : Fld) (v : Nat) :
    (s.setFld off f v).reg r = if r = off then f.set (s.reg off) v else s.reg r := State.reg_setReg ..

@[simp] theorem State.reg_addSat (s : State) (off r n : Nat) :
    (s.addSat off n).reg r = if r = off then BitVec.ofNat 64 (min 0xFFFFFFFF ((s.reg off).toNat + n)) else s.reg r :=
  State.reg_setReg ..

@[simp] theorem State.reg_inc (s : State) (off r : Nat) :
    (s.inc off).reg r = if r = off then BitVec.ofNat 64 (min 0xFFFFFFFF ((s.reg off).toNat + 1)) else s.reg r :=
  State.reg_setReg ..

@[simp] theorem State.reg_add64 (s : State) (off r n : Nat) :
    (s.add64 off n).reg r = if r = off then BitVec.ofNat 64 ((s.reg off).toNat + n) else s.reg r := State.reg_setReg ..

@[simp] theorem State.reg_sub (s : State) (off r n : Nat) :
    (s.sub off n).reg r = if r = off then BitVec.ofNat 64 ((s.reg off).toNat - n) else s.reg r := State.reg_setReg ..

@[simp] theorem State.reg_setRegBit (s : State) (off r i : Nat) (b : Bool) :
    (s.setRegBit off i b).reg r = if r = off then BitVec.ofNat 64 (putBit (s.reg off).toNat i b) else s.reg r :=
  State.reg_setReg ..

/-- Reading the field that was written. -/
@[simp] theorem State.fld_setFld (s : State) (off : Nat) (f : Fld) (v : Nat) (h : f.lo + f.len ≤ 64) :
    (s.setFld off f v).fld off f = v % 2 ^ f.len := by
  unfold State.fld
  rw [State.reg_setFld, if_pos rfl, Fld.get_set f _ v h]

/-- Reading another field of the register that was written. -/
theorem State.fld_setFld_apart (s : State) (off : Nat) (f g : Fld) (v : Nat) (h : f.lo + f.len ≤ 64)
    (d : f.lo + f.len ≤ g.lo ∨ g.lo + g.len ≤ f.lo) : (s.setFld off f v).fld off g = s.fld off g := by
  unfold State.fld
  rw [State.reg_setFld, if_pos rfl, Fld.get_set_apart f g _ v h d]

/-- Reading a core after writing one. -/
@[simp] theorem State.core_setCore (s : State) (c d : Nat) (k : Core) :
    (s.setCore c k).core d = if d = c then k else s.core d := Tbl.get_set ..

/-- A register of a state written out. -/
@[simp] theorem State.reg_mk (regs captured heldLow mem hostMem cores sch msys kv lab upd votes localMsgs seam seamNotes seamGroups sessions txns ingress fab media host pwr ras free pending) (r : Nat) :
    (State.mk regs captured heldLow mem hostMem cores sch msys kv lab upd votes localMsgs seam seamNotes seamGroups sessions txns ingress fab media host pwr ras free pending).reg r = Tbl.get regs (regReset r) r := rfl

@[simp] theorem State.core_mk (regs captured heldLow mem hostMem cores sch msys kv lab upd votes localMsgs seam seamNotes seamGroups sessions txns ingress fab media host pwr ras free pending) (c : Nat) :
    (State.mk regs captured heldLow mem hostMem cores sch msys kv lab upd votes localMsgs seam seamNotes seamGroups sessions txns ingress fab media host pwr ras free pending).core c = Tbl.get cores Core.reset c := rfl

@[simp] theorem State.get_regs (s : State) (r : Nat) : Tbl.get s.regs (regReset r) r = s.reg r := rfl

@[simp] theorem State.get_cores (s : State) (c : Nat) : Tbl.get s.cores Core.reset c = s.core c := rfl

/-- Reading a field of a register after writing a field. -/
theorem State.fld_set (s : State) (off r : Nat) (f g : Fld) (v : Nat) :
    (s.setFld off f v).fld r g = if r = off then g.get (f.set (s.reg off) v) else s.fld r g := by
  unfold State.fld
  rw [State.reg_setFld]
  split <;> rfl

@[simp] theorem State.setReg_captured (s : State) (off : Nat) (v : Word) : (s.setReg off v).captured = s.captured := rfl
@[simp] theorem State.setReg_heldLow (s : State) (off : Nat) (v : Word) : (s.setReg off v).heldLow = s.heldLow := rfl
@[simp] theorem State.setReg_mem (s : State) (off : Nat) (v : Word) : (s.setReg off v).mem = s.mem := rfl
@[simp] theorem State.setReg_hostMem (s : State) (off : Nat) (v : Word) : (s.setReg off v).hostMem = s.hostMem := rfl
@[simp] theorem State.setReg_cores (s : State) (off : Nat) (v : Word) : (s.setReg off v).cores = s.cores := rfl
@[simp] theorem State.setReg_sch (s : State) (off : Nat) (v : Word) : (s.setReg off v).sch = s.sch := rfl
@[simp] theorem State.setReg_msys (s : State) (off : Nat) (v : Word) : (s.setReg off v).msys = s.msys := rfl
@[simp] theorem State.setReg_kv (s : State) (off : Nat) (v : Word) : (s.setReg off v).kv = s.kv := rfl
@[simp] theorem State.setReg_lab (s : State) (off : Nat) (v : Word) : (s.setReg off v).lab = s.lab := rfl
@[simp] theorem State.setReg_upd (s : State) (off : Nat) (v : Word) : (s.setReg off v).upd = s.upd := rfl
@[simp] theorem State.setReg_votes (s : State) (off : Nat) (v : Word) : (s.setReg off v).votes = s.votes := rfl
@[simp] theorem State.setReg_localMsgs (s : State) (off : Nat) (v : Word) : (s.setReg off v).localMsgs = s.localMsgs := rfl
@[simp] theorem State.setReg_seam (s : State) (off : Nat) (v : Word) : (s.setReg off v).seam = s.seam := rfl
@[simp] theorem State.setReg_seamNotes (s : State) (off : Nat) (v : Word) : (s.setReg off v).seamNotes = s.seamNotes := rfl
@[simp] theorem State.setReg_seamGroups (s : State) (off : Nat) (v : Word) : (s.setReg off v).seamGroups = s.seamGroups := rfl
@[simp] theorem State.setReg_sessions (s : State) (off : Nat) (v : Word) : (s.setReg off v).sessions = s.sessions := rfl
@[simp] theorem State.setReg_txns (s : State) (off : Nat) (v : Word) : (s.setReg off v).txns = s.txns := rfl
@[simp] theorem State.setReg_ingress (s : State) (off : Nat) (v : Word) : (s.setReg off v).ingress = s.ingress := rfl
@[simp] theorem State.setReg_fab (s : State) (off : Nat) (v : Word) : (s.setReg off v).fab = s.fab := rfl
@[simp] theorem State.setReg_media (s : State) (off : Nat) (v : Word) : (s.setReg off v).media = s.media := rfl
@[simp] theorem State.setReg_host (s : State) (off : Nat) (v : Word) : (s.setReg off v).host = s.host := rfl
@[simp] theorem State.setReg_pwr (s : State) (off : Nat) (v : Word) : (s.setReg off v).pwr = s.pwr := rfl
@[simp] theorem State.setReg_ras (s : State) (off : Nat) (v : Word) : (s.setReg off v).ras = s.ras := rfl
@[simp] theorem State.setReg_free (s : State) (off : Nat) (v : Word) : (s.setReg off v).free = s.free := rfl
@[simp] theorem State.setReg_pending (s : State) (off : Nat) (v : Word) : (s.setReg off v).pending = s.pending := rfl
@[simp] theorem State.setReg_core (s : State) (off : Nat) (v : Word) (c : Nat) : (s.setReg off v).core c = s.core c := rfl
@[simp] theorem State.setFld_captured (s : State) (off : Nat) (f : Fld) (v : Nat) : (s.setFld off f v).captured = s.captured := rfl
@[simp] theorem State.setFld_heldLow (s : State) (off : Nat) (f : Fld) (v : Nat) : (s.setFld off f v).heldLow = s.heldLow := rfl
@[simp] theorem State.setFld_mem (s : State) (off : Nat) (f : Fld) (v : Nat) : (s.setFld off f v).mem = s.mem := rfl
@[simp] theorem State.setFld_hostMem (s : State) (off : Nat) (f : Fld) (v : Nat) : (s.setFld off f v).hostMem = s.hostMem := rfl
@[simp] theorem State.setFld_cores (s : State) (off : Nat) (f : Fld) (v : Nat) : (s.setFld off f v).cores = s.cores := rfl
@[simp] theorem State.setFld_sch (s : State) (off : Nat) (f : Fld) (v : Nat) : (s.setFld off f v).sch = s.sch := rfl
@[simp] theorem State.setFld_msys (s : State) (off : Nat) (f : Fld) (v : Nat) : (s.setFld off f v).msys = s.msys := rfl
@[simp] theorem State.setFld_kv (s : State) (off : Nat) (f : Fld) (v : Nat) : (s.setFld off f v).kv = s.kv := rfl
@[simp] theorem State.setFld_lab (s : State) (off : Nat) (f : Fld) (v : Nat) : (s.setFld off f v).lab = s.lab := rfl
@[simp] theorem State.setFld_upd (s : State) (off : Nat) (f : Fld) (v : Nat) : (s.setFld off f v).upd = s.upd := rfl
@[simp] theorem State.setFld_votes (s : State) (off : Nat) (f : Fld) (v : Nat) : (s.setFld off f v).votes = s.votes := rfl
@[simp] theorem State.setFld_localMsgs (s : State) (off : Nat) (f : Fld) (v : Nat) : (s.setFld off f v).localMsgs = s.localMsgs := rfl
@[simp] theorem State.setFld_seam (s : State) (off : Nat) (f : Fld) (v : Nat) : (s.setFld off f v).seam = s.seam := rfl
@[simp] theorem State.setFld_seamNotes (s : State) (off : Nat) (f : Fld) (v : Nat) : (s.setFld off f v).seamNotes = s.seamNotes := rfl
@[simp] theorem State.setFld_seamGroups (s : State) (off : Nat) (f : Fld) (v : Nat) : (s.setFld off f v).seamGroups = s.seamGroups := rfl
@[simp] theorem State.setFld_sessions (s : State) (off : Nat) (f : Fld) (v : Nat) : (s.setFld off f v).sessions = s.sessions := rfl
@[simp] theorem State.setFld_txns (s : State) (off : Nat) (f : Fld) (v : Nat) : (s.setFld off f v).txns = s.txns := rfl
@[simp] theorem State.setFld_ingress (s : State) (off : Nat) (f : Fld) (v : Nat) : (s.setFld off f v).ingress = s.ingress := rfl
@[simp] theorem State.setFld_fab (s : State) (off : Nat) (f : Fld) (v : Nat) : (s.setFld off f v).fab = s.fab := rfl
@[simp] theorem State.setFld_media (s : State) (off : Nat) (f : Fld) (v : Nat) : (s.setFld off f v).media = s.media := rfl
@[simp] theorem State.setFld_host (s : State) (off : Nat) (f : Fld) (v : Nat) : (s.setFld off f v).host = s.host := rfl
@[simp] theorem State.setFld_pwr (s : State) (off : Nat) (f : Fld) (v : Nat) : (s.setFld off f v).pwr = s.pwr := rfl
@[simp] theorem State.setFld_ras (s : State) (off : Nat) (f : Fld) (v : Nat) : (s.setFld off f v).ras = s.ras := rfl
@[simp] theorem State.setFld_free (s : State) (off : Nat) (f : Fld) (v : Nat) : (s.setFld off f v).free = s.free := rfl
@[simp] theorem State.setFld_pending (s : State) (off : Nat) (f : Fld) (v : Nat) : (s.setFld off f v).pending = s.pending := rfl
@[simp] theorem State.setFld_core (s : State) (off : Nat) (f : Fld) (v : Nat) (c : Nat) : (s.setFld off f v).core c = s.core c := rfl
@[simp] theorem State.addSat_captured (s : State) (off n : Nat) : (s.addSat off n).captured = s.captured := rfl
@[simp] theorem State.addSat_heldLow (s : State) (off n : Nat) : (s.addSat off n).heldLow = s.heldLow := rfl
@[simp] theorem State.addSat_mem (s : State) (off n : Nat) : (s.addSat off n).mem = s.mem := rfl
@[simp] theorem State.addSat_hostMem (s : State) (off n : Nat) : (s.addSat off n).hostMem = s.hostMem := rfl
@[simp] theorem State.addSat_cores (s : State) (off n : Nat) : (s.addSat off n).cores = s.cores := rfl
@[simp] theorem State.addSat_sch (s : State) (off n : Nat) : (s.addSat off n).sch = s.sch := rfl
@[simp] theorem State.addSat_msys (s : State) (off n : Nat) : (s.addSat off n).msys = s.msys := rfl
@[simp] theorem State.addSat_kv (s : State) (off n : Nat) : (s.addSat off n).kv = s.kv := rfl
@[simp] theorem State.addSat_lab (s : State) (off n : Nat) : (s.addSat off n).lab = s.lab := rfl
@[simp] theorem State.addSat_upd (s : State) (off n : Nat) : (s.addSat off n).upd = s.upd := rfl
@[simp] theorem State.addSat_votes (s : State) (off n : Nat) : (s.addSat off n).votes = s.votes := rfl
@[simp] theorem State.addSat_localMsgs (s : State) (off n : Nat) : (s.addSat off n).localMsgs = s.localMsgs := rfl
@[simp] theorem State.addSat_seam (s : State) (off n : Nat) : (s.addSat off n).seam = s.seam := rfl
@[simp] theorem State.addSat_seamNotes (s : State) (off n : Nat) : (s.addSat off n).seamNotes = s.seamNotes := rfl
@[simp] theorem State.addSat_seamGroups (s : State) (off n : Nat) : (s.addSat off n).seamGroups = s.seamGroups := rfl
@[simp] theorem State.addSat_sessions (s : State) (off n : Nat) : (s.addSat off n).sessions = s.sessions := rfl
@[simp] theorem State.addSat_txns (s : State) (off n : Nat) : (s.addSat off n).txns = s.txns := rfl
@[simp] theorem State.addSat_ingress (s : State) (off n : Nat) : (s.addSat off n).ingress = s.ingress := rfl
@[simp] theorem State.addSat_fab (s : State) (off n : Nat) : (s.addSat off n).fab = s.fab := rfl
@[simp] theorem State.addSat_media (s : State) (off n : Nat) : (s.addSat off n).media = s.media := rfl
@[simp] theorem State.addSat_host (s : State) (off n : Nat) : (s.addSat off n).host = s.host := rfl
@[simp] theorem State.addSat_pwr (s : State) (off n : Nat) : (s.addSat off n).pwr = s.pwr := rfl
@[simp] theorem State.addSat_ras (s : State) (off n : Nat) : (s.addSat off n).ras = s.ras := rfl
@[simp] theorem State.addSat_free (s : State) (off n : Nat) : (s.addSat off n).free = s.free := rfl
@[simp] theorem State.addSat_pending (s : State) (off n : Nat) : (s.addSat off n).pending = s.pending := rfl
@[simp] theorem State.addSat_core (s : State) (off n : Nat) (c : Nat) : (s.addSat off n).core c = s.core c := rfl
@[simp] theorem State.inc_captured (s : State) (off : Nat) : (s.inc off).captured = s.captured := rfl
@[simp] theorem State.inc_heldLow (s : State) (off : Nat) : (s.inc off).heldLow = s.heldLow := rfl
@[simp] theorem State.inc_mem (s : State) (off : Nat) : (s.inc off).mem = s.mem := rfl
@[simp] theorem State.inc_hostMem (s : State) (off : Nat) : (s.inc off).hostMem = s.hostMem := rfl
@[simp] theorem State.inc_cores (s : State) (off : Nat) : (s.inc off).cores = s.cores := rfl
@[simp] theorem State.inc_sch (s : State) (off : Nat) : (s.inc off).sch = s.sch := rfl
@[simp] theorem State.inc_msys (s : State) (off : Nat) : (s.inc off).msys = s.msys := rfl
@[simp] theorem State.inc_kv (s : State) (off : Nat) : (s.inc off).kv = s.kv := rfl
@[simp] theorem State.inc_lab (s : State) (off : Nat) : (s.inc off).lab = s.lab := rfl
@[simp] theorem State.inc_upd (s : State) (off : Nat) : (s.inc off).upd = s.upd := rfl
@[simp] theorem State.inc_votes (s : State) (off : Nat) : (s.inc off).votes = s.votes := rfl
@[simp] theorem State.inc_localMsgs (s : State) (off : Nat) : (s.inc off).localMsgs = s.localMsgs := rfl
@[simp] theorem State.inc_seam (s : State) (off : Nat) : (s.inc off).seam = s.seam := rfl
@[simp] theorem State.inc_seamNotes (s : State) (off : Nat) : (s.inc off).seamNotes = s.seamNotes := rfl
@[simp] theorem State.inc_seamGroups (s : State) (off : Nat) : (s.inc off).seamGroups = s.seamGroups := rfl
@[simp] theorem State.inc_sessions (s : State) (off : Nat) : (s.inc off).sessions = s.sessions := rfl
@[simp] theorem State.inc_txns (s : State) (off : Nat) : (s.inc off).txns = s.txns := rfl
@[simp] theorem State.inc_ingress (s : State) (off : Nat) : (s.inc off).ingress = s.ingress := rfl
@[simp] theorem State.inc_fab (s : State) (off : Nat) : (s.inc off).fab = s.fab := rfl
@[simp] theorem State.inc_media (s : State) (off : Nat) : (s.inc off).media = s.media := rfl
@[simp] theorem State.inc_host (s : State) (off : Nat) : (s.inc off).host = s.host := rfl
@[simp] theorem State.inc_pwr (s : State) (off : Nat) : (s.inc off).pwr = s.pwr := rfl
@[simp] theorem State.inc_ras (s : State) (off : Nat) : (s.inc off).ras = s.ras := rfl
@[simp] theorem State.inc_free (s : State) (off : Nat) : (s.inc off).free = s.free := rfl
@[simp] theorem State.inc_pending (s : State) (off : Nat) : (s.inc off).pending = s.pending := rfl
@[simp] theorem State.inc_core (s : State) (off : Nat) (c : Nat) : (s.inc off).core c = s.core c := rfl
@[simp] theorem State.add64_captured (s : State) (off n : Nat) : (s.add64 off n).captured = s.captured := rfl
@[simp] theorem State.add64_heldLow (s : State) (off n : Nat) : (s.add64 off n).heldLow = s.heldLow := rfl
@[simp] theorem State.add64_mem (s : State) (off n : Nat) : (s.add64 off n).mem = s.mem := rfl
@[simp] theorem State.add64_hostMem (s : State) (off n : Nat) : (s.add64 off n).hostMem = s.hostMem := rfl
@[simp] theorem State.add64_cores (s : State) (off n : Nat) : (s.add64 off n).cores = s.cores := rfl
@[simp] theorem State.add64_sch (s : State) (off n : Nat) : (s.add64 off n).sch = s.sch := rfl
@[simp] theorem State.add64_msys (s : State) (off n : Nat) : (s.add64 off n).msys = s.msys := rfl
@[simp] theorem State.add64_kv (s : State) (off n : Nat) : (s.add64 off n).kv = s.kv := rfl
@[simp] theorem State.add64_lab (s : State) (off n : Nat) : (s.add64 off n).lab = s.lab := rfl
@[simp] theorem State.add64_upd (s : State) (off n : Nat) : (s.add64 off n).upd = s.upd := rfl
@[simp] theorem State.add64_votes (s : State) (off n : Nat) : (s.add64 off n).votes = s.votes := rfl
@[simp] theorem State.add64_localMsgs (s : State) (off n : Nat) : (s.add64 off n).localMsgs = s.localMsgs := rfl
@[simp] theorem State.add64_seam (s : State) (off n : Nat) : (s.add64 off n).seam = s.seam := rfl
@[simp] theorem State.add64_seamNotes (s : State) (off n : Nat) : (s.add64 off n).seamNotes = s.seamNotes := rfl
@[simp] theorem State.add64_seamGroups (s : State) (off n : Nat) : (s.add64 off n).seamGroups = s.seamGroups := rfl
@[simp] theorem State.add64_sessions (s : State) (off n : Nat) : (s.add64 off n).sessions = s.sessions := rfl
@[simp] theorem State.add64_txns (s : State) (off n : Nat) : (s.add64 off n).txns = s.txns := rfl
@[simp] theorem State.add64_ingress (s : State) (off n : Nat) : (s.add64 off n).ingress = s.ingress := rfl
@[simp] theorem State.add64_fab (s : State) (off n : Nat) : (s.add64 off n).fab = s.fab := rfl
@[simp] theorem State.add64_media (s : State) (off n : Nat) : (s.add64 off n).media = s.media := rfl
@[simp] theorem State.add64_host (s : State) (off n : Nat) : (s.add64 off n).host = s.host := rfl
@[simp] theorem State.add64_pwr (s : State) (off n : Nat) : (s.add64 off n).pwr = s.pwr := rfl
@[simp] theorem State.add64_ras (s : State) (off n : Nat) : (s.add64 off n).ras = s.ras := rfl
@[simp] theorem State.add64_free (s : State) (off n : Nat) : (s.add64 off n).free = s.free := rfl
@[simp] theorem State.add64_pending (s : State) (off n : Nat) : (s.add64 off n).pending = s.pending := rfl
@[simp] theorem State.add64_core (s : State) (off n : Nat) (c : Nat) : (s.add64 off n).core c = s.core c := rfl
@[simp] theorem State.sub_captured (s : State) (off n : Nat) : (s.sub off n).captured = s.captured := rfl
@[simp] theorem State.sub_heldLow (s : State) (off n : Nat) : (s.sub off n).heldLow = s.heldLow := rfl
@[simp] theorem State.sub_mem (s : State) (off n : Nat) : (s.sub off n).mem = s.mem := rfl
@[simp] theorem State.sub_hostMem (s : State) (off n : Nat) : (s.sub off n).hostMem = s.hostMem := rfl
@[simp] theorem State.sub_cores (s : State) (off n : Nat) : (s.sub off n).cores = s.cores := rfl
@[simp] theorem State.sub_sch (s : State) (off n : Nat) : (s.sub off n).sch = s.sch := rfl
@[simp] theorem State.sub_msys (s : State) (off n : Nat) : (s.sub off n).msys = s.msys := rfl
@[simp] theorem State.sub_kv (s : State) (off n : Nat) : (s.sub off n).kv = s.kv := rfl
@[simp] theorem State.sub_lab (s : State) (off n : Nat) : (s.sub off n).lab = s.lab := rfl
@[simp] theorem State.sub_upd (s : State) (off n : Nat) : (s.sub off n).upd = s.upd := rfl
@[simp] theorem State.sub_votes (s : State) (off n : Nat) : (s.sub off n).votes = s.votes := rfl
@[simp] theorem State.sub_localMsgs (s : State) (off n : Nat) : (s.sub off n).localMsgs = s.localMsgs := rfl
@[simp] theorem State.sub_seam (s : State) (off n : Nat) : (s.sub off n).seam = s.seam := rfl
@[simp] theorem State.sub_seamNotes (s : State) (off n : Nat) : (s.sub off n).seamNotes = s.seamNotes := rfl
@[simp] theorem State.sub_seamGroups (s : State) (off n : Nat) : (s.sub off n).seamGroups = s.seamGroups := rfl
@[simp] theorem State.sub_sessions (s : State) (off n : Nat) : (s.sub off n).sessions = s.sessions := rfl
@[simp] theorem State.sub_txns (s : State) (off n : Nat) : (s.sub off n).txns = s.txns := rfl
@[simp] theorem State.sub_ingress (s : State) (off n : Nat) : (s.sub off n).ingress = s.ingress := rfl
@[simp] theorem State.sub_fab (s : State) (off n : Nat) : (s.sub off n).fab = s.fab := rfl
@[simp] theorem State.sub_media (s : State) (off n : Nat) : (s.sub off n).media = s.media := rfl
@[simp] theorem State.sub_host (s : State) (off n : Nat) : (s.sub off n).host = s.host := rfl
@[simp] theorem State.sub_pwr (s : State) (off n : Nat) : (s.sub off n).pwr = s.pwr := rfl
@[simp] theorem State.sub_ras (s : State) (off n : Nat) : (s.sub off n).ras = s.ras := rfl
@[simp] theorem State.sub_free (s : State) (off n : Nat) : (s.sub off n).free = s.free := rfl
@[simp] theorem State.sub_pending (s : State) (off n : Nat) : (s.sub off n).pending = s.pending := rfl
@[simp] theorem State.sub_core (s : State) (off n : Nat) (c : Nat) : (s.sub off n).core c = s.core c := rfl
@[simp] theorem State.setRegBit_captured (s : State) (off i : Nat) (b : Bool) : (s.setRegBit off i b).captured = s.captured := rfl
@[simp] theorem State.setRegBit_heldLow (s : State) (off i : Nat) (b : Bool) : (s.setRegBit off i b).heldLow = s.heldLow := rfl
@[simp] theorem State.setRegBit_mem (s : State) (off i : Nat) (b : Bool) : (s.setRegBit off i b).mem = s.mem := rfl
@[simp] theorem State.setRegBit_hostMem (s : State) (off i : Nat) (b : Bool) : (s.setRegBit off i b).hostMem = s.hostMem := rfl
@[simp] theorem State.setRegBit_cores (s : State) (off i : Nat) (b : Bool) : (s.setRegBit off i b).cores = s.cores := rfl
@[simp] theorem State.setRegBit_sch (s : State) (off i : Nat) (b : Bool) : (s.setRegBit off i b).sch = s.sch := rfl
@[simp] theorem State.setRegBit_msys (s : State) (off i : Nat) (b : Bool) : (s.setRegBit off i b).msys = s.msys := rfl
@[simp] theorem State.setRegBit_kv (s : State) (off i : Nat) (b : Bool) : (s.setRegBit off i b).kv = s.kv := rfl
@[simp] theorem State.setRegBit_lab (s : State) (off i : Nat) (b : Bool) : (s.setRegBit off i b).lab = s.lab := rfl
@[simp] theorem State.setRegBit_upd (s : State) (off i : Nat) (b : Bool) : (s.setRegBit off i b).upd = s.upd := rfl
@[simp] theorem State.setRegBit_votes (s : State) (off i : Nat) (b : Bool) : (s.setRegBit off i b).votes = s.votes := rfl
@[simp] theorem State.setRegBit_localMsgs (s : State) (off i : Nat) (b : Bool) : (s.setRegBit off i b).localMsgs = s.localMsgs := rfl
@[simp] theorem State.setRegBit_seam (s : State) (off i : Nat) (b : Bool) : (s.setRegBit off i b).seam = s.seam := rfl
@[simp] theorem State.setRegBit_seamNotes (s : State) (off i : Nat) (b : Bool) : (s.setRegBit off i b).seamNotes = s.seamNotes := rfl
@[simp] theorem State.setRegBit_seamGroups (s : State) (off i : Nat) (b : Bool) : (s.setRegBit off i b).seamGroups = s.seamGroups := rfl
@[simp] theorem State.setRegBit_sessions (s : State) (off i : Nat) (b : Bool) : (s.setRegBit off i b).sessions = s.sessions := rfl
@[simp] theorem State.setRegBit_txns (s : State) (off i : Nat) (b : Bool) : (s.setRegBit off i b).txns = s.txns := rfl
@[simp] theorem State.setRegBit_ingress (s : State) (off i : Nat) (b : Bool) : (s.setRegBit off i b).ingress = s.ingress := rfl
@[simp] theorem State.setRegBit_fab (s : State) (off i : Nat) (b : Bool) : (s.setRegBit off i b).fab = s.fab := rfl
@[simp] theorem State.setRegBit_media (s : State) (off i : Nat) (b : Bool) : (s.setRegBit off i b).media = s.media := rfl
@[simp] theorem State.setRegBit_host (s : State) (off i : Nat) (b : Bool) : (s.setRegBit off i b).host = s.host := rfl
@[simp] theorem State.setRegBit_pwr (s : State) (off i : Nat) (b : Bool) : (s.setRegBit off i b).pwr = s.pwr := rfl
@[simp] theorem State.setRegBit_ras (s : State) (off i : Nat) (b : Bool) : (s.setRegBit off i b).ras = s.ras := rfl
@[simp] theorem State.setRegBit_free (s : State) (off i : Nat) (b : Bool) : (s.setRegBit off i b).free = s.free := rfl
@[simp] theorem State.setRegBit_pending (s : State) (off i : Nat) (b : Bool) : (s.setRegBit off i b).pending = s.pending := rfl
@[simp] theorem State.setRegBit_core (s : State) (off i : Nat) (b : Bool) (c : Nat) : (s.setRegBit off i b).core c = s.core c := rfl
@[simp] theorem State.setCore_regs (s : State) (c : Nat) (k : Core) : (s.setCore c k).regs = s.regs := rfl
@[simp] theorem State.setCore_captured (s : State) (c : Nat) (k : Core) : (s.setCore c k).captured = s.captured := rfl
@[simp] theorem State.setCore_heldLow (s : State) (c : Nat) (k : Core) : (s.setCore c k).heldLow = s.heldLow := rfl
@[simp] theorem State.setCore_mem (s : State) (c : Nat) (k : Core) : (s.setCore c k).mem = s.mem := rfl
@[simp] theorem State.setCore_hostMem (s : State) (c : Nat) (k : Core) : (s.setCore c k).hostMem = s.hostMem := rfl
@[simp] theorem State.setCore_sch (s : State) (c : Nat) (k : Core) : (s.setCore c k).sch = s.sch := rfl
@[simp] theorem State.setCore_msys (s : State) (c : Nat) (k : Core) : (s.setCore c k).msys = s.msys := rfl
@[simp] theorem State.setCore_kv (s : State) (c : Nat) (k : Core) : (s.setCore c k).kv = s.kv := rfl
@[simp] theorem State.setCore_lab (s : State) (c : Nat) (k : Core) : (s.setCore c k).lab = s.lab := rfl
@[simp] theorem State.setCore_upd (s : State) (c : Nat) (k : Core) : (s.setCore c k).upd = s.upd := rfl
@[simp] theorem State.setCore_votes (s : State) (c : Nat) (k : Core) : (s.setCore c k).votes = s.votes := rfl
@[simp] theorem State.setCore_localMsgs (s : State) (c : Nat) (k : Core) : (s.setCore c k).localMsgs = s.localMsgs := rfl
@[simp] theorem State.setCore_seam (s : State) (c : Nat) (k : Core) : (s.setCore c k).seam = s.seam := rfl
@[simp] theorem State.setCore_seamNotes (s : State) (c : Nat) (k : Core) : (s.setCore c k).seamNotes = s.seamNotes := rfl
@[simp] theorem State.setCore_seamGroups (s : State) (c : Nat) (k : Core) : (s.setCore c k).seamGroups = s.seamGroups := rfl
@[simp] theorem State.setCore_sessions (s : State) (c : Nat) (k : Core) : (s.setCore c k).sessions = s.sessions := rfl
@[simp] theorem State.setCore_txns (s : State) (c : Nat) (k : Core) : (s.setCore c k).txns = s.txns := rfl
@[simp] theorem State.setCore_ingress (s : State) (c : Nat) (k : Core) : (s.setCore c k).ingress = s.ingress := rfl
@[simp] theorem State.setCore_fab (s : State) (c : Nat) (k : Core) : (s.setCore c k).fab = s.fab := rfl
@[simp] theorem State.setCore_media (s : State) (c : Nat) (k : Core) : (s.setCore c k).media = s.media := rfl
@[simp] theorem State.setCore_host (s : State) (c : Nat) (k : Core) : (s.setCore c k).host = s.host := rfl
@[simp] theorem State.setCore_pwr (s : State) (c : Nat) (k : Core) : (s.setCore c k).pwr = s.pwr := rfl
@[simp] theorem State.setCore_ras (s : State) (c : Nat) (k : Core) : (s.setCore c k).ras = s.ras := rfl
@[simp] theorem State.setCore_free (s : State) (c : Nat) (k : Core) : (s.setCore c k).free = s.free := rfl
@[simp] theorem State.setCore_pending (s : State) (c : Nat) (k : Core) : (s.setCore c k).pending = s.pending := rfl
@[simp] theorem State.setCore_reg (s : State) (c : Nat) (k : Core) (r : Nat) : (s.setCore c k).reg r = s.reg r := rfl

end Sys2Proof.Machine
end

