-- ==== Sys2Proof/Laws/Log.lean ====
section
/-! SUPPORT. What the log's intake leaves alone: every register but RAS_STATUS and the drop counters. -/
namespace Sys2Proof.Machine

theorem State.reg_alarmEvent (s : State) (src n r : Nat) : (s.alarmEvent src n).reg r = s.reg r := by
  unfold State.alarmEvent
  generalize List.range 16 = l
  induction l generalizing s with
  | nil => rfl
  | cons k l ih =>
    rw [List.foldl_cons, ih]
    split <;> rfl

/-- The intake writes no register but RAS_STATUS and RAS_LOG_DROPS of the entry's class. -/
theorem State.reg_logEntry (s : State) (e : LogEntry) (r : Nat) (h1 : r ≠ R.RAS_STATUS) (h2 : r ≠ R.RAS_LOG_DROPS e.cls) :
    (s.logEntry e).reg r = s.reg r := by
  unfold State.logEntry
  split
  · rfl
  · split
    · rfl
    · split
      · rfl
      · split
        · rfl
        · unfold State.floodEntry
          dsimp only
          split
          · rw [State.reg_alarmEvent, State.reg_inc, if_neg h2, State.reg_setRegBit, if_neg h1]
            rfl
          · rw [State.reg_setRegBit, if_neg h1]
            rfl

theorem State.reg_log (s : State) (cls code : Nat) (u : State.LogUnit) (inst : Option Nat) (addr pc peer value r : Nat)
    (h1 : r ≠ R.RAS_STATUS) (h2 : r ≠ R.RAS_LOG_DROPS cls) :
    (s.log cls code u inst addr pc peer value).reg r = s.reg r := State.reg_logEntry _ _ _ h1 h2

@[simp] theorem State.log_captured (s : State) (cls code : Nat) (u : State.LogUnit) (inst : Option Nat) (addr pc peer value : Nat) :
    (s.log cls code u inst addr pc peer value).captured = s.captured := (State.log_keeps ..).captured rfl

@[simp] theorem State.log_heldLow (s : State) (cls code : Nat) (u : State.LogUnit) (inst : Option Nat) (addr pc peer value : Nat) :
    (s.log cls code u inst addr pc peer value).heldLow = s.heldLow := (State.log_keeps ..).heldLow rfl

@[simp] theorem State.log_mem (s : State) (cls code : Nat) (u : State.LogUnit) (inst : Option Nat) (addr pc peer value : Nat) :
    (s.log cls code u inst addr pc peer value).mem = s.mem := (State.log_keeps ..).mem rfl

@[simp] theorem State.log_hostMem (s : State) (cls code : Nat) (u : State.LogUnit) (inst : Option Nat) (addr pc peer value : Nat) :
    (s.log cls code u inst addr pc peer value).hostMem = s.hostMem := (State.log_keeps ..).hostMem rfl

@[simp] theorem State.log_cores (s : State) (cls code : Nat) (u : State.LogUnit) (inst : Option Nat) (addr pc peer value : Nat) :
    (s.log cls code u inst addr pc peer value).cores = s.cores := (State.log_keeps ..).cores rfl

@[simp] theorem State.log_sch (s : State) (cls code : Nat) (u : State.LogUnit) (inst : Option Nat) (addr pc peer value : Nat) :
    (s.log cls code u inst addr pc peer value).sch = s.sch := (State.log_keeps ..).sch rfl

@[simp] theorem State.log_msys (s : State) (cls code : Nat) (u : State.LogUnit) (inst : Option Nat) (addr pc peer value : Nat) :
    (s.log cls code u inst addr pc peer value).msys = s.msys := (State.log_keeps ..).msys rfl

@[simp] theorem State.log_kv (s : State) (cls code : Nat) (u : State.LogUnit) (inst : Option Nat) (addr pc peer value : Nat) :
    (s.log cls code u inst addr pc peer value).kv = s.kv := (State.log_keeps ..).kv rfl

@[simp] theorem State.log_lab (s : State) (cls code : Nat) (u : State.LogUnit) (inst : Option Nat) (addr pc peer value : Nat) :
    (s.log cls code u inst addr pc peer value).lab = s.lab := (State.log_keeps ..).lab rfl

@[simp] theorem State.log_upd (s : State) (cls code : Nat) (u : State.LogUnit) (inst : Option Nat) (addr pc peer value : Nat) :
    (s.log cls code u inst addr pc peer value).upd = s.upd := (State.log_keeps ..).upd rfl

@[simp] theorem State.log_votes (s : State) (cls code : Nat) (u : State.LogUnit) (inst : Option Nat) (addr pc peer value : Nat) :
    (s.log cls code u inst addr pc peer value).votes = s.votes := (State.log_keeps ..).votes rfl

@[simp] theorem State.log_localMsgs (s : State) (cls code : Nat) (u : State.LogUnit) (inst : Option Nat) (addr pc peer value : Nat) :
    (s.log cls code u inst addr pc peer value).localMsgs = s.localMsgs := (State.log_keeps ..).localMsgs rfl

@[simp] theorem State.log_seam (s : State) (cls code : Nat) (u : State.LogUnit) (inst : Option Nat) (addr pc peer value : Nat) :
    (s.log cls code u inst addr pc peer value).seam = s.seam := (State.log_keeps ..).seam rfl

@[simp] theorem State.log_seamNotes (s : State) (cls code : Nat) (u : State.LogUnit) (inst : Option Nat) (addr pc peer value : Nat) :
    (s.log cls code u inst addr pc peer value).seamNotes = s.seamNotes := (State.log_keeps ..).seamNotes rfl

@[simp] theorem State.log_seamGroups (s : State) (cls code : Nat) (u : State.LogUnit) (inst : Option Nat) (addr pc peer value : Nat) :
    (s.log cls code u inst addr pc peer value).seamGroups = s.seamGroups := (State.log_keeps ..).seamGroups rfl

@[simp] theorem State.log_sessions (s : State) (cls code : Nat) (u : State.LogUnit) (inst : Option Nat) (addr pc peer value : Nat) :
    (s.log cls code u inst addr pc peer value).sessions = s.sessions := (State.log_keeps ..).sessions rfl

@[simp] theorem State.log_txns (s : State) (cls code : Nat) (u : State.LogUnit) (inst : Option Nat) (addr pc peer value : Nat) :
    (s.log cls code u inst addr pc peer value).txns = s.txns := (State.log_keeps ..).txns rfl

@[simp] theorem State.log_ingress (s : State) (cls code : Nat) (u : State.LogUnit) (inst : Option Nat) (addr pc peer value : Nat) :
    (s.log cls code u inst addr pc peer value).ingress = s.ingress := (State.log_keeps ..).ingress rfl

@[simp] theorem State.log_fab (s : State) (cls code : Nat) (u : State.LogUnit) (inst : Option Nat) (addr pc peer value : Nat) :
    (s.log cls code u inst addr pc peer value).fab = s.fab := (State.log_keeps ..).fab rfl

@[simp] theorem State.log_media (s : State) (cls code : Nat) (u : State.LogUnit) (inst : Option Nat) (addr pc peer value : Nat) :
    (s.log cls code u inst addr pc peer value).media = s.media := (State.log_keeps ..).media rfl

@[simp] theorem State.log_host (s : State) (cls code : Nat) (u : State.LogUnit) (inst : Option Nat) (addr pc peer value : Nat) :
    (s.log cls code u inst addr pc peer value).host = s.host := (State.log_keeps ..).host rfl

@[simp] theorem State.log_pwr (s : State) (cls code : Nat) (u : State.LogUnit) (inst : Option Nat) (addr pc peer value : Nat) :
    (s.log cls code u inst addr pc peer value).pwr = s.pwr := (State.log_keeps ..).pwr rfl

@[simp] theorem State.log_free (s : State) (cls code : Nat) (u : State.LogUnit) (inst : Option Nat) (addr pc peer value : Nat) :
    (s.log cls code u inst addr pc peer value).free = s.free := (State.log_keeps ..).free rfl

@[simp] theorem State.log_pending (s : State) (cls code : Nat) (u : State.LogUnit) (inst : Option Nat) (addr pc peer value : Nat) :
    (s.log cls code u inst addr pc peer value).pending = s.pending := (State.log_keeps ..).pending

@[simp] theorem State.alarmEvent_captured (s : State) (src n : Nat) : (s.alarmEvent src n).captured = s.captured :=
  (State.alarmEvent_keeps ..).captured rfl

@[simp] theorem State.alarmEvent_heldLow (s : State) (src n : Nat) : (s.alarmEvent src n).heldLow = s.heldLow :=
  (State.alarmEvent_keeps ..).heldLow rfl

@[simp] theorem State.alarmEvent_mem (s : State) (src n : Nat) : (s.alarmEvent src n).mem = s.mem :=
  (State.alarmEvent_keeps ..).mem rfl

@[simp] theorem State.alarmEvent_hostMem (s : State) (src n : Nat) : (s.alarmEvent src n).hostMem = s.hostMem :=
  (State.alarmEvent_keeps ..).hostMem rfl

@[simp] theorem State.alarmEvent_cores (s : State) (src n : Nat) : (s.alarmEvent src n).cores = s.cores :=
  (State.alarmEvent_keeps ..).cores rfl

@[simp] theorem State.alarmEvent_sch (s : State) (src n : Nat) : (s.alarmEvent src n).sch = s.sch :=
  (State.alarmEvent_keeps ..).sch rfl

@[simp] theorem State.alarmEvent_msys (s : State) (src n : Nat) : (s.alarmEvent src n).msys = s.msys :=
  (State.alarmEvent_keeps ..).msys rfl

@[simp] theorem State.alarmEvent_kv (s : State) (src n : Nat) : (s.alarmEvent src n).kv = s.kv :=
  (State.alarmEvent_keeps ..).kv rfl

@[simp] theorem State.alarmEvent_lab (s : State) (src n : Nat) : (s.alarmEvent src n).lab = s.lab :=
  (State.alarmEvent_keeps ..).lab rfl

@[simp] theorem State.alarmEvent_upd (s : State) (src n : Nat) : (s.alarmEvent src n).upd = s.upd :=
  (State.alarmEvent_keeps ..).upd rfl

@[simp] theorem State.alarmEvent_votes (s : State) (src n : Nat) : (s.alarmEvent src n).votes = s.votes :=
  (State.alarmEvent_keeps ..).votes rfl

@[simp] theorem State.alarmEvent_localMsgs (s : State) (src n : Nat) : (s.alarmEvent src n).localMsgs = s.localMsgs :=
  (State.alarmEvent_keeps ..).localMsgs rfl

@[simp] theorem State.alarmEvent_seam (s : State) (src n : Nat) : (s.alarmEvent src n).seam = s.seam :=
  (State.alarmEvent_keeps ..).seam rfl

@[simp] theorem State.alarmEvent_seamNotes (s : State) (src n : Nat) : (s.alarmEvent src n).seamNotes = s.seamNotes :=
  (State.alarmEvent_keeps ..).seamNotes rfl

@[simp] theorem State.alarmEvent_seamGroups (s : State) (src n : Nat) : (s.alarmEvent src n).seamGroups = s.seamGroups :=
  (State.alarmEvent_keeps ..).seamGroups rfl

@[simp] theorem State.alarmEvent_sessions (s : State) (src n : Nat) : (s.alarmEvent src n).sessions = s.sessions :=
  (State.alarmEvent_keeps ..).sessions rfl

@[simp] theorem State.alarmEvent_txns (s : State) (src n : Nat) : (s.alarmEvent src n).txns = s.txns :=
  (State.alarmEvent_keeps ..).txns rfl

@[simp] theorem State.alarmEvent_ingress (s : State) (src n : Nat) : (s.alarmEvent src n).ingress = s.ingress :=
  (State.alarmEvent_keeps ..).ingress rfl

@[simp] theorem State.alarmEvent_fab (s : State) (src n : Nat) : (s.alarmEvent src n).fab = s.fab :=
  (State.alarmEvent_keeps ..).fab rfl

@[simp] theorem State.alarmEvent_media (s : State) (src n : Nat) : (s.alarmEvent src n).media = s.media :=
  (State.alarmEvent_keeps ..).media rfl

@[simp] theorem State.alarmEvent_host (s : State) (src n : Nat) : (s.alarmEvent src n).host = s.host :=
  (State.alarmEvent_keeps ..).host rfl

@[simp] theorem State.alarmEvent_pwr (s : State) (src n : Nat) : (s.alarmEvent src n).pwr = s.pwr :=
  (State.alarmEvent_keeps ..).pwr rfl

@[simp] theorem State.alarmEvent_free (s : State) (src n : Nat) : (s.alarmEvent src n).free = s.free :=
  (State.alarmEvent_keeps ..).free rfl

@[simp] theorem State.alarmEvent_pending (s : State) (src n : Nat) : (s.alarmEvent src n).pending = s.pending :=
  (State.alarmEvent_keeps ..).pending

end Sys2Proof.Machine
end

