-- ==== Sys2Proof/Tests/Slice0.lean ====
section
/-! SUPPORT. The model's own tests: named theorems on small states, each about one step. -/
namespace Sys2Proof.Tests
open Machine
set_option Elab.async false

/-- A state that differs from reset in the listed registers. -/
def regs (l : List (Nat × Nat)) : State := l.foldl (fun s e => s.setReg e.1 (BitVec.ofNat 64 e.2)) State.reset

/-- The answer is a next state that passes a test. -/
def yes (o : Out) (p : State → Bool) : Bool := match o with | .next t => p t | _ => false

/-- A copy on a run queue, and a state in which core 127 has it at the head of its queue. -/
def copyIn (ph : Phase) : Copy := ⟨0, ⟨some 0, 0, false⟩, 0, 0, 5, 0, ph, 0, false⟩
def holding (k : Core) : State := (regs []).setCore 127 k
def runs (ph : Phase) : Core := { Core.reset with runq := [copyIn ph], icache := [3] }

/-- The number that fields (word, low bit, value) spell. -/
def fields (l : List (Nat × Nat × Nat)) : Nat := l.foldl (fun a e => a + e.2.2 * 2 ^ (64 * e.1 + e.2.1)) 0
def wide (l : List (Nat × Nat × Nat)) : BitVec 1024 := BitVec.ofNat 1024 (fields l)
def narrow (l : List (Nat × Nat × Nat)) : BitVec 512 := BitVec.ofNat 512 (fields l)
/-- Instance 7 enabled with core group 15, its cores' Pocket, stack 7 and the highest semaphores. -/
def owned : List (Nat × Nat) :=
  [(R.SCH_INST_STATE 7, 1), (R.SCH_INST_CORES 7, 0x8000), (R.SCH_INST_MEM 7, 0x80), (R.SCH_INST_RANGES 7, 63 * 2 ^ 13 + 2 ^ 19 + 63 + 2 ^ 6)]
def o7 : Owner := ⟨some 7, 0, false⟩
/-- One pair that allows every address. -/
def pair : List Bnd := [⟨0, 0x180000000000, 3⟩]
/-- The last core's Pocket. -/
def poc : Nat := 0x110FE000000
def item (d : BitVec 1024) : MxItem := ⟨d, pair, o7⟩
/-- Instance 7's core 127 with a matrix-class descriptor at the head of its queue. -/
def queued (d : BitVec 1024) : State := (regs owned).setCore 127 { Core.reset with mxq := [item d] }
/-- A configuration image of plain values. -/
def image : Image := ⟨1, 0, true, ⟨5, false, 2, 7, 700, 350, 95, 105, none, [], [], 0, 0, [], 0, 0, [], none, 0, none, 30⟩⟩
/-- A packet of the given type, op, sub and payload. -/
def pkt (type op sub : Nat) (b : List Byte) : Pkt := ⟨type, 0, false, false, true, 0, false, 0, 0, 0, 0, op, sub, 0, 0, b, 0⟩
/-- Stack 7. -/
def hbm7 : Nat := 0x5400000000
/-- An opened session of instance 7 on logical port 92, and a state that holds it as session 4095. -/
def opened7 : Session := { Session.reset with created := true, inst := 7, port := 92, peerPod := 1, peerDevice := 2, peerIndex := 4094, peerIp := 9, state := .opened }
def linked (l : List (Nat × Nat)) (x : Session) : State :=
  { regs (owned ++ [(R.FAB_PORT_STATUS 23, 2 ^ 8)] ++ l) with sessions := [(4095, x)] }

/-! Power (R432 to R435). -/

theorem test_inputAFail : (regs []).onB = false ∧ (regs []).pwr.bFailed = false ∧
    yes (exec (.inputAFail 4399) (regs [])) (fun t => t.onB && t.pwr.aFailed) = true := by decide +kernel
theorem test_inputAGood : (regs [(R.PWR_INPUT_STATUS, 4)]).onB = true ∧
    yes (exec (.inputAGood 4600) (regs [(R.PWR_INPUT_STATUS, 4)])) (fun t => t.reg R.PWR_INPUT_STATUS == 13) = true := by
  decide +kernel
theorem test_inputAGoodBandDeparture : yes (exec (.inputAGoodBandDeparture 4599) (regs [(R.PWR_INPUT_STATUS, 13)]))
    (fun t => t.reg R.PWR_INPUT_STATUS == 12) = true := by decide +kernel
theorem test_switchBackTimer : yes (exec .switchBackTimer (regs [(R.PWR_INPUT_STATUS, 13)]))
    (fun t => !t.onB && t.reg R.PWR_TRANSFERS == 1) = true := by decide +kernel
theorem test_inputBFail : (regs [(R.PWR_INPUT_STATUS, 4)]).onB = true ∧ (regs []).pwr.aFailed = false ∧
    yes (exec (.inputBFail 6001) (regs [(R.PWR_INPUT_STATUS, 4)])) (fun t => !t.onB) = true := by decide +kernel
theorem test_bothInputsFail : yes (exec .bothInputsFail State.reset) (fun t => !t.pwr.pwrGood && t.dieMhz 3 == 0) = true := by
  decide +kernel

/-- A sample at the limits (2,000 W and 1,000 W caps): nothing is cut; one above the peak limit is. -/
def capped : State := (regs [(R.PWR_DIE_REQ 0, 1400), (R.PWR_DIE_REQ 1, 1400), (R.PWR_DIE_REQ 2, 1400), (R.PWR_DIE_REQ 3, 1400)])

theorem test_powerSample : yes (exec (.powerSample capped.peakLimit capped.effCap [1]) capped)
    (fun t => t.fld R.PWR_POWER F.PWR_POWER_sample_w == capped.peakLimit && t.reg R.PWR_PEAK_EVENTS == 0) = true := by decide +kernel
theorem test_powerSample_peak : yes (exec (.powerSample (capped.peakLimit + 1) 0 []) capped)
    (fun t => t.reg R.PWR_PEAK_EVENTS == 1 && t.reg R.PWR_THROTTLE_EVENTS == 1) = true := by decide +kernel
theorem test_peakRunLimit : yes (exec .peakRunLimit { capped with pwr := { capped.pwr with peakRun := 1000 } })
    (fun t => t.pwr.peakRun == 0 && t.reg R.PWR_THROTTLE_EVENTS == 1) = true := by decide +kernel
def slow : State := (List.range 4).foldl (fun s d => s.setReg (R.PWR_DIE_STATUS d) 600) capped
theorem test_clockRaise : ∀ e : Fin 4, slow.dieMhz e = 600 ∧ slow.mayRaise e = true ∧ 625 ≤ slow.dieReq e := by decide +kernel
theorem test_thermalSample : yes (exec (.thermalSample [0, 0, 121, 0]) capped)
    (fun t => t.modState == 0xF && t.fld R.PWR_BOOT_STATUS F.PWR_BOOT_STATUS_fail_code == 0x87) = true := by decide +kernel
theorem test_dieRequest : yes (exec (.dieRequest .thimble 2 800) capped)
    (fun t => t.dieReq 2 == 800 && decide (t.dieMhz 2 ≤ 800)) = true := by decide +kernel
theorem test_pcieRefclkLoss : yes (exec .pcieRefclkLoss capped) (fun t => t.modState == 0xF) = true := by decide +kernel

/-! Resets and boot (R430, R436). -/

theorem test_powerOn : yes (exec (.powerOn 4600 5951 none) (regs [(R.PWR_TRANSFERS, 3)]))
    (fun t => t.reg R.PWR_INPUT_STATUS == 1 && t.reg R.PWR_TRANSFERS == 0) = true := by decide +kernel
theorem test_modResetN : yes (exec (.modResetN 25) (regs [(R.PWR_TRANSFERS, 3), (R.POD_TIME, 9)]))
    (fun t => t.reg R.PWR_BOOT_CAUSE == 1 && t.reg R.PWR_TRANSFERS == 3 && t.reg R.POD_TIME == 0 && t.bootStep == 2) = true := by
  decide +kernel

/-- A first image of the least content, and a module with it in flash. -/
def flashed : State := { State.reset with host := { HostState.reset with flash := ⟨some image, none, 0, [], [], []⟩ } }
def bootIn : BootIn := ⟨4800, 0, true, 1, true, true, [], []⟩

theorem test_boot : flashed.modState = 0 ∧ flashed.bootStep ≤ 2 ∧ bootIn.resetHigh = true ∧ State.goodCv bootIn.aCv = true ∧
    flashed.chooseImage = some (false, image) := by decide +kernel
theorem test_boot_noImage : State.reset.chooseImage = none ∧
    yes (exec (.boot bootIn) State.reset) (fun t => t.fld R.PWR_BOOT_STATUS F.PWR_BOOT_STATUS_fail_code == 0x83) = true := by
  decide +kernel
theorem test_memTrain : (regs [(R.GLB_STATUS, 1)]).modState = 1 := by decide +kernel
theorem test_linkTrain : (regs [(R.GLB_STATUS, 2)]).modState = 2 ∧ (regs []).host.image = none := by decide +kernel
theorem test_podJoin : yes (exec (.podJoin [] true) (regs [(R.GLB_STATUS, 3)])) (fun t => t.host.joined && t.modState == 3) = true := by
  decide +kernel
def joined : State := { regs [(R.GLB_STATUS, 3)] with host := { HostState.reset with joined := true } }
theorem test_ready : joined.modState = 3 ∧ joined.host.joined = true := by
  decide +kernel
theorem test_podJoinTimeout : yes (exec .podJoinTimeout (regs [(R.GLB_STATUS, 3)]))
    (fun t => t.host.joined && t.reg R.HST_POD_STATE == 3) = true := by decide +kernel
theorem test_bootStepTimeout : yes (exec (.bootStepTimeout .s4) State.reset)
    (fun t => t.modState == 0xF && t.bootStep == 4) = true := by decide +kernel
theorem test_bootStepTimeout5 : yes (exec (.bootStepTimeout .s5) (regs [(R.GLB_STATUS, 1)])) (fun t => t.modState == 2) = true := by
  decide +kernel
theorem test_memberJoin : (regs [(R.GLB_STATUS, 3), (R.GLB_POD_ID, 0x40)]).isGate = true ∧
    yes (exec (.memberJoin 63 5) (regs [(R.GLB_STATUS, 3), (R.GLB_POD_ID, 0x40)]))
      (fun t => t.regBit R.HST_POD_MEMBERS 63 && t.reg (R.HST_MEMBER_NONCE_LO 63) == 5) = true := by decide +kernel

/-! The management bus and the TAP (R451 to R455). -/

theorem test_smbusTransaction : (0x4C : Nat) = (regs []).fld R.RAS_SMB_CFG F.RAS_SMB_CFG_addr ∧
    yes (exec (.smbusTransaction 0x4C false [1]) (regs [])) (fun t => t.reg R.RAS_SMB_DROPS == 1) = true := by decide +kernel
theorem test_smbusArp : yes (exec (.smbusArp 0x7F) (regs [])) (fun t => t.fld R.RAS_SMB_CFG F.RAS_SMB_CFG_addr == 0x7F) = true := by
  decide +kernel
theorem test_mctpTransmit : yes (exec (.mctpTransmit true false) { regs [] with ras := { RasState.reset with smbLosses := 15 } })
    (fun t => t.ras.smbLosses == 0 && t.reg R.RAS_SMB_DROPS == 1) = true := by decide +kernel
theorem test_setEndpointId : yes (exec (.setEndpointId 254) (regs [])) (fun t => t.ras.eid == 254) = true ∧
    yes (exec (.setEndpointId 255) (regs [])) (fun t => t.ras.eid == 0) = true := by decide +kernel
theorem test_pldmRequest : yes (exec (.pldmRequest 4) (regs [(R.PWR_INPUT_V, 4800)])) (fun t => t.ras.smbReply == [0, 0xC0, 0x12]) = true := by
  decide +kernel
theorem test_extest : yes (exec .extest (regs [])) (fun t => t.ras.tap == 0) = true ∧
    yes (exec .extest { regs [] with pwr := { PowerState.reset with resetHigh := false } }) (fun t => t.ras.tap == 3) = true := by
  decide +kernel
theorem test_testModeEntry : yes (exec (.testModeEntry (.privateTap 63)) (regs [])) (fun t => t.ras.tap == 0 &&
    t.reg R.RAS_TEST_REFUSED == 1 && t.ras.intake.length == 1) = true := by decide +kernel

/-! Reliability (R438 to R450). -/

theorem test_patrolScrub : (regs []).fld R.RAS_SCRUB_CFG F.RAS_SCRUB_CFG_enable = 1 ∧
    (regs []).region 0x110FF7FFFF8 = .pocket 127 ∧
    yes (exec (.patrolScrub 0x110FF7FFFF8 .double) (regs []))
      (fun t => t.msys.poison == [0x110FF7FFFF8 / 8] && t.reg (R.RAS_SRAM_UE 3) == 1) = true := by decide +kernel

def entry (cls : Nat) : LogEntry := { LogEntry.blank with cls := cls, code := 7, time := 10 }
def logging (cls : Nat) (o : List OpenEntry) : State :=
  { regs [] with ras := { RasState.reset with intake := [⟨cls, entry cls⟩], opened := o } }

theorem test_contrailEntry_trace : yes (exec .contrailEntry (logging 4 []))
    (fun t => t.ras.opened == [⟨entry 4, none⟩] && t.ras.intake.isEmpty) = true := by decide +kernel
theorem test_contrailEntry_error : yes (exec .contrailEntry (logging 1 []))
    (fun t => t.ras.rings.get LogEntry.blank (2 ^ 17) == entry 1 && t.fld (R.RAS_LOG_HEAD 1) F.RAS_LOG_HEAD_index == 1) = true := by
  decide +kernel
theorem test_contrailEntry_coalesce : (⟨entry 2, none⟩ : OpenEntry).takes (entry 2) = true ∧
    yes (exec .contrailEntry (logging 2 [⟨entry 2, none⟩])) (fun t => t.reg R.RAS_LOG_COALESCED == 1) = true := by decide +kernel

def openLog : State := { regs [(R.POD_TIME, 1000010)] with ras := { RasState.reset with opened := [⟨entry 3, none⟩] } }
theorem test_coalesceWindowClose : openLog.time = (entry 3).time + 1000000 ∧
    yes (exec (.coalesceWindowClose 0) openLog) (fun t => t.ras.nextSeq == 1 && t.ras.opened.isEmpty) = true ∧
    (openLog.setReg R.POD_TIME 1000009).time < (entry 3).time + 1000000 := by decide +kernel
def flooded : State := { regs [] with ras := { RasState.reset with floods := [(2, ⟨true, [entry 2], [], 5⟩)] } }
theorem test_floodEnd : (flooded.ras.floods.get Flood.none 2).active = true ∧ flooded.ras.intake = [] ∧
    yes (exec (.floodEnd 2) flooded) (fun t => t.ras.intake.map (fun i => i.entry.value) == [5] && t.ras.nextSeq == 1) = true := by
  decide +kernel
def snapping : State := { regs [(R.RAS_SNAP_COUNT, 15)] with ras := { RasState.reset with snapRunning := some ⟨[], []⟩ } }
theorem test_snapshotComplete : snapping.ras.snapWaiting = 0 ∧
    yes (exec .snapshotComplete snapping) (fun t => t.ras.snaps == [(snapping.fld R.RAS_SNAP_COUNT F.RAS_SNAP_COUNT_next_slot, ⟨[], []⟩)]) = true := by
  decide +kernel
def alarming : State := { regs [(R.RAS_ALARM_CFG 15, 0x11)] with ras := { RasState.reset with alarmNow := [(15, 3)] } }
theorem test_alarmWindowClose : alarming.fld (R.RAS_ALARM_CFG 15) F.RAS_ALARM_CFG_enable = 1 ∧
    alarming.fld (R.RAS_ALARM_CFG 15) F.RAS_ALARM_CFG_source ≤ 9 ∧
    yes (exec (.alarmWindowClose 15) alarming) (fun t => t.regBit R.RAS_ALARM_STATUS 15 && t.host.irqs == [(0, 0)]) = true := by
  decide +kernel

/-! The pod view, the mailbox and PCIe resets (R340, R357, R358). -/

theorem test_hstPodSnap : (regs [(R.POD_TIME, 7)]).reach (.vf 3) R.HST_POD_SNAP = false ∧
    yes (exec (.hstPodSnap .pf) (regs [(R.POD_TIME, 7)])) (fun t => t.reg R.HST_SNAP_TIME == 7) = true := by decide +kernel
def evented (l : List Word) : State := { regs [] with host := { HostState.reset with events := l } }
theorem test_thmEvent : yes (exec (.thmEvent .pf) (evented [5, 6])) (fun t => t.host.events == [6] &&
      t.fld R.THM_STATUS F.THM_STATUS_event_pending == 1) = true ∧
    yes (exec (.thmEvent .pf) (evented [])) (fun t => t.host.reply == some ⟨.pf, List.replicate 8 0, false⟩) = true := by
  decide +kernel
theorem test_pcieReset : yes (exec .pcieReset (regs [(R.HST_AUTH_FAILS, 3), (R.HST_Q_CFG 7 63, 1), (R.POD_TIME, 4)]))
    (fun t => t.reg R.HST_AUTH_FAILS == 0 && t.reg (R.HST_Q_CFG 7 63) == regReset (R.HST_Q_CFG 7 63) && t.reg R.POD_TIME == 4) = true := by
  decide +kernel
theorem test_functionLevelReset : (evented []).host.events.length < 64 ∧ 64 ≤ (evented (List.replicate 64 0)).host.events.length ∧
    yes (exec (.functionLevelReset 7) (regs [(R.HST_Q_CFG 7 63, 1)])) (fun t => !t.regBit (R.HST_Q_CFG 7 63) 0 && t.host.events.length == 1) = true := by
  decide +kernel

/-! Register and BAR accesses (R9, R30, R31, R341). -/

theorem test_registerWrite_unaligned : (0x800001 : Nat) % 4 ≠ 0 ∧
    yes (exec (.registerWrite .pf 0x800002 4 1) (regs [])) (fun t => t.regs == []) = true := by decide +kernel
theorem test_registerWrite : (rowAt R.RAS_SCRUB_CFG).isSome = true ∧ State.baseOff R.RAS_SCRUB_CFG = R.RAS_SCRUB_CFG ∧
    yes (exec (.registerWrite .pf R.RAS_SCRUB_CFG 4 0) (regs [])) (fun t => t.fld R.RAS_SCRUB_CFG F.RAS_SCRUB_CFG_enable == 0) = true := by
  decide +kernel
theorem test_splitWrite : State.wide (R.MEM_UPD_WIN_BASE 7 7) = true ∧ R.MEM_UPD_WIN_BASE 7 7 % 8 = 0 ∧
    0x800000 ≤ R.MEM_UPD_WIN_BASE 7 7 ∧ R.MEM_UPD_WIN_BASE 7 7 < 0xA00000 ∧
    yes (exec (.splitLowWordWrite .pf (R.MEM_UPD_WIN_BASE 7 7) 0x100) (regs [])) (fun t =>
      t.reg (R.MEM_UPD_WIN_BASE 7 7) == 0 &&
      yes (exec (.splitHighWordWrite .pf (R.MEM_UPD_WIN_BASE 7 7) 2) t) (fun u => u.reg (R.MEM_UPD_WIN_BASE 7 7) == 0x200000100)) = true := by
  decide +kernel
theorem test_splitRead : yes (exec (.splitLowWordRead .pf (R.MEM_UPD_WIN_BASE 7 7)) (regs [(R.MEM_UPD_WIN_BASE 7 7, 0x200000100)]))
    (fun t => t.host.reply == some ⟨.pf, [0, 1, 0, 0], false⟩ && t.captured == [⟨.pf, R.MEM_UPD_WIN_BASE 7 7, 2⟩]) = true := by
  decide +kernel
theorem test_hostBarWrite : State.bar2 0x2017FFFFE = some 0x110017FFFFE ∧ State.bar2 0x2017FFFFF = some 0x110017FFFFF ∧
    (regs []).checkRange (State.fnWho .pf) 0x110017FFFFE 2 = 0 ∧
    (regs []).windowHeld 0x110017FFFFE 2 = false ∧ (regs []).readStatus 0x110017FFFFE 2 = 0 ∧
    yes (exec (.hostBarWrite .pf 2 0x2017FFFFE [1, 2]) (regs [])) (fun t => t.bytesAt 0x110017FFFFE 2 == [1, 2]) = true := by
  decide +kernel
theorem test_hostBarRead : (regs []).checkRange (State.fnWho .pf) 0x110017FFFFF 2 = 3 ∧
    yes (exec (.hostBarRead .pf 2 0x2017FFFFF 2) (regs [])) (fun t => t.host.reply == some ⟨.pf, [0xFF, 0xFF], false⟩) = true := by
  decide +kernel

theorem test_coreSeqStop : (regs []).absent 127 = false ∧ (holding (runs .running)).reach .pf (R.CORE_SEQ_CTRL 127) = true ∧
    yes (exec (.coreSeqStop .pf 127) (holding (runs .running))) (fun t => (t.core 127).ending == some 6 && (t.core 127).icache == [3]) = true := by
  decide +kernel
theorem test_coreSeqIcinv : yes (exec (.coreSeqIcinv .pf 127) (holding (runs .running))) (fun t => (t.core 127).icache == []) = true := by
  decide +kernel

/-! Semaphores, counters, pools, dispatch (R170, R171, R410 to R419). -/

def semState (r : List (Nat × Nat)) (ops : List SemOp) (ws : List SemWaiter) : State :=
  { regs r with sch := { SchedState.reset with semIn := [(4095, ops)], semWait := if ws.isEmpty then [] else [(4095, ws)] } }
theorem test_semAcquire : yes (exec (.semaphoreOperation 4095 0) (semState [(R.SCH_SEM 4095, 1)] [⟨true, .core 127, 7, 0⟩] []))
      (fun t => t.semVal 4095 == 0 && (t.core 127).semGrant == some 0) = true ∧
    yes (exec (.semaphoreOperation 4095 0) (semState [] [⟨true, .core 127, 7, 0⟩] []))
      (fun t => (t.sch.semWait.get [] 4095).length == 1) = true ∧ (semState [(R.SCH_SEM 4095, 1)] [] []).semVal 4095 = 1 := by
  decide +kernel
theorem test_semRelease : yes (exec (.semaphoreOperation 4095 0) (semState [(R.SCH_SEM 4095, 0xFFFE)] [⟨false, .core 127, 7, 0⟩] []))
      (fun t => t.semVal 4095 == 0xFFFF) = true ∧
    yes (exec (.semaphoreOperation 4095 0) (semState [] [⟨false, .core 127, 7, 0⟩] [⟨.core 127, 7, 0, 0⟩]))
      (fun t => t.semVal 4095 == 0 && (t.core 127).semGrant == some 0) = true ∧
    genOlder 0 ((regs [(R.SCH_INST_STATE 7, 0x10000)]).gen 7) = true := by decide +kernel
theorem test_semaphoreWrite : yes (exec (.semaphoreWrite .pf 4095 0xFFFF) (regs [])) (fun t => t.semVal 4095 == 0xFFFF) = true := by
  decide +kernel
def bobState (r : List (Nat × Nat)) (ops ws : List BobOp) : State :=
  { regs r with sch := { SchedState.reset with bobIn := if ops.isEmpty then [] else [(1023, ops)], bobWait := if ws.isEmpty then [] else [(1023, ws)] } }
theorem test_bobbinValueWrite : yes (exec (.bobbinValueWrite .pf 1023 9) (bobState [(R.SCH_BOB_LIMIT 1023, 9)] [] [.wait 127 9 0]))
    (fun t => t.bobVal 1023 == 9 && (t.core 127).bobGrant == some 0 && t.fld (R.SCH_BOB_STATUS 1023) F.SCH_BOB_STATUS_exhausted == 1) = true := by
  decide +kernel
def adding : State := (bobState [(R.SCH_BOB_LIMIT 1023, 9), (R.SCH_BOB_VALUE 1023, 8)] [.add 127 1 63 5] []).setCore 127
  { Core.reset with pend := [⟨.s 63, .bob 1, 0, 0, 0, true⟩] }
theorem test_bobbinCounterOp : yes (exec (.bobbinCounterOp 1023 0) adding)
      (fun t => t.bobVal 1023 == 9 && (t.core 127).sreg 63 == 8) = true ∧
    yes (exec (.bobbinCounterOp 1023 0) (bobState [] [.wait 127 1 0] [])) (fun t => (t.core 127).bobGrant.isNone) = true := by
  decide +kernel
def pooled (free : List Nat) (ws : List PoolWaiter) : State :=
  { regs [(R.SCH_POOL_CFG 63, 0x208), (R.SCH_POOL_SLOT 63, 64), (R.SCH_POOL_BASE 63, 128)] with
    sch := { SchedState.reset with poolFree := if free.isEmpty then [] else [(63, free)], poolWait := if ws.isEmpty then [] else [(63, ws)] } }
theorem test_poolTake : yes (exec (.poolTake .pf 63) (pooled [192, 128] [])) (fun t =>
      t.host.reply == some ⟨.pf, [192, 0, 0, 0, 0, 0, 0, 0], false⟩ && t.sch.poolFree.get [] 63 == [128]) = true ∧
    yes (exec (.poolTake .pf 63) (pooled [] [])) (fun t => t.host.reply == some ⟨.pf, [0, 0, 0, 0, 0, 0, 0, 0x61], false⟩) = true := by
  decide +kernel
theorem test_poolReturn : (pooled [] []).poolOn 63 = true ∧ 192 ∈ (pooled [] []).poolSlots 63 ∧ 256 ∉ (pooled [] []).poolSlots 63 ∧
    yes (exec (.poolReturn .pf 63 192) (pooled [128] [])) (fun t => t.sch.poolFree.get [] 63 == [128, 192]) = true := by decide +kernel
theorem test_slotGrant : yes (exec (.slotGrant 63) (pooled [192] [⟨.ingest 0 5, 0, 0⟩])) (fun t => (t.sch.poolWait.get [] 63).isEmpty) = true := by
  decide +kernel
theorem test_watchdogExpiry : yes (exec (.watchdogExpiry (.sem 4095 0)) (semState [] [] [⟨.core 127, 7, 0, 0⟩]))
      (fun t => (t.core 127).semGrant == some 5 && t.reg R.SCH_TIMEOUTS == 1) = true ∧
    yes (exec (.watchdogExpiry (.bob 1023 0)) (bobState [] [] [.wait 127 9 0])) (fun t => (t.core 127).bobGrant == some 5) = true := by
  decide +kernel
theorem test_watchdogExpiry_rcv : yes (exec (.watchdogExpiry (.rcv 127)) ((regs []).setCore 127 { Core.reset with rcvWait := some 1 }))
      (fun t => (t.core 127).rcvExpired) = true ∧
    yes (exec (.watchdogExpiry (.pool 63 0)) (pooled [] [⟨.ingest 0 5, 0, 0⟩])) (fun t => (t.sch.poolWait.get [] 63).isEmpty) = true := by
  decide +kernel

/-- An instance with core group 15 and an entry of core work of width 2 that waits. -/
def entryDesc (width : Nat) : BitVec 512 := BitVec.ofNat 512 (width * 2 ^ (4 * 64 + 48))
def working : State :=
  { regs [(R.SCH_INST_STATE 0, 1), (R.SCH_INST_CORES 0, 0x8000)] with
    host := { HostState.reset with works := [⟨0, ⟨.inst 0, 0⟩, 0, some 0, 0, entryDesc 2, 1, 0, false, none, 0⟩] } }
theorem test_dispatch : working.dispatchStopped = false ∧ working.instOn 0 = true ∧
    (working.nextEntry 0 (State.queueOf 0 0)).isSome = true ∧ dw (entryDesc 2) 4 48 8 = 2 ∧ (working.freeCores 0).length = 8 ∧
    yes (exec (.dispatch 0) working) (fun t => (t.core 120).runq.length == 1 && (t.core 121).runq.length == 1 &&
      (t.core 122).runq.isEmpty && t.sch.rotation.get 0 0 == 1) = true := by decide +kernel
theorem test_copyRestore : yes (exec (.copyRestore 127) ((holding (runs .waiting)).setReg (R.SCH_CORE 127) 0))
      (fun t => (t.core 127).runq.map (fun p => p.phase) == [.restoring 0]) = true ∧
    xw (copyIn .waiting).prog 7 0 16 = 0 ∧ (holding (runs (.restoring 0))).listBusy 127 = false := by decide +kernel
theorem test_programStart : yes (exec (.programStart 127) (holding (runs .ready)))
    (fun t => (t.core 127).sreg 1 == 5 && (t.core 127).runq.map (fun p => p.phase) == [.running]) = true := by decide +kernel
theorem test_copySave : (holding { runs .running with ending := some 7 }).drained 127 = true ∧
    yes (exec (.copySave 127) (holding { runs .running with ending := some 7 }))
      (fun t => (t.core 127).runq.map (fun p => p.status) == [7]) = true := by decide +kernel
theorem test_copyEnd : (holding (runs .finished)).suspect 127 = false ∧
    yes (exec (.copyEnd 127) (holding (runs .finished))) (fun t => (t.core 127).runq.isEmpty) = true := by decide +kernel

/-! The matrix array (R71 to R99). -/

/-- A 1 × 1 × 1 INT8 product in Pocket. -/
def prodFields : List (Nat × Nat × Nat) :=
  [(0, 0, 0x20), (0, 12, 11), (0, 16, 11), (1, 0, poc), (2, 0, poc + 0x1000), (3, 0, poc + 0x2000), (6, 0, 1), (6, 32, 1),
   (7, 0, 1), (7, 32, 1), (10, 0, 1), (10, 16, 1), (10, 32, 1), (15, 0, 0xFFFF), (15, 16, 0xFFFF)]
def prod (l : List (Nat × Nat × Nat)) : BitVec 1024 := wide (prodFields ++ l)
theorem test_matrixProduct : ((queued (prod [])).headMx 127).isSome = true ∧ (queued (prod [])).oldMx (item (prod [])) = false ∧
    (queued (prod [])).matrixCheck 127 (item (prod [])) = (0, 0) ∧
    yes (exec (.matrixProduct 127) (queued (prod []))) (fun t => (t.core 127).mxq.isEmpty &&
      t.fld (R.CORE_ARR_STATUS 127) F.CORE_ARR_STATUS_busy == 1 && ((t.arr 127).job.map (fun j => j.passes.length)) == some 1) = true ∧
    yes (exec (.matrixProduct 127) (queued (prod [(0, 36, 1)]))) (fun t => (t.core 127).mxStatus == 2) = true ∧
    yes (exec (.matrixProduct 127) (queued (prod [(0, 0, 8)]))) (fun t => (t.core 127).mxStatus == 1) = true := by
  decide +kernel
/-- The dispatched form: an auxiliary block at 0x3000 of Pocket whose list lies at 0x4000, capacity 1. -/
def auxed (d : BitVec 1024) : State :=
  (((queued d).putNat (poc + 0x3000) 1 1).putNat (poc + 0x3000 + 40) 8 (poc + 0x4000)).putNat (poc + 0x3000 + 52) 4 1
theorem test_dispatchedMatrixProduct : yes (exec (.dispatchedMatrixProduct 127) (auxed (prod [(0, 0, 1), (14, 0, poc + 0x3000)])))
    (fun t => (t.core 127).mxStatus == 0 && (t.arr 127).job.isSome) = true := by decide +kernel
/-- A list of one entry at 0x3000 of Pocket. -/
def listFields : List (Nat × Nat × Nat) :=
  [(0, 0, 0x22), (0, 12, 11), (0, 16, 11), (6, 0, 1), (6, 32, 1), (7, 0, 1), (7, 32, 1), (10, 0, 1), (10, 16, 1), (10, 32, 1),
   (14, 0, poc + 0x3000), (15, 0, 0xFFFF), (15, 16, 0xFFFF)]
def listed : State :=
  ((((queued (wide listFields)).putNat (poc + 0x3000) 8 poc).putNat (poc + 0x3008) 8 (poc + 0x1000)).putNat (poc + 0x3010) 8
    (poc + 0x2000)).putNat (poc + 0x3018) 8 1
theorem test_pointerListProduct : yes (exec (.pointerListProduct 127) listed)
    (fun t => (t.core 127).mxStatus == 0 && (t.arr 127).job.isSome) = true ∧
    listed.productBad 127 (listed.unitProd (item (wide listFields)) 0) = false := by decide +kernel

/-- A job of that product whose pass has `n` rows. -/
def pass (n : Nat) : Pass :=
  { a := poc, w := poc + 0x1000, c := poc + 0x2000, rows := List.replicate n (0, 0), kT := 0, oT := 0, start := 1, stop := 2,
    tid := 0, ptile := 0, row0 := 0 }
def job (x : Pass) : ArrJob :=
  { item := item (prod []), units := 1, unit := 0, nextUnit := none, passes := [x], ptiles := 1, cur := 0, passNo := 0,
    entered := false, row := 0, stopAt := none, attempt := 0, mismatched := [], failed := false, fills := [], voids := [],
    overflow := 0, staged := [], stagedTo := 0, cBufs := [], linesTo := 0, abortAt := none, dropped := [] }
/-- A tile whose only row is `v` and whose checksum weights say `w`. -/
def tile (bad v : Nat) (w : W32) : TileBank :=
  { tid := 0, vals := [List.replicate 128 v], pos := [], scales := [], wc := [[w]], ac := [[w]], wr := [], ar := [], nonfinite := false, bad := bad }
def active (j : ArrJob) (b0 b1 : Option TileBank) (use : Nat) (r : List (Nat × Nat)) : State :=
  ((regs (owned ++ r)).setCore 127 { Core.reset with arr := { ArrState.reset with job := some j, bank0 := b0, bank1 := b1, useBank := use } }).putNat poc 1 1
theorem test_weightTileLoad : (active (job (pass 1)) none none 1 []).operandsReady 127 (job (pass 1)) (pass 1) = true ∧
    State.holds none (pass 1) = false := by decide +kernel
theorem test_passEntry : yes (exec (.passEntry 127) (active (job (pass 1)) none (some (tile 0 0 0)) 1 []))
      (fun t => t.fld (R.CORE_ARR_STATUS 127) F.CORE_ARR_STATUS_active_bank == 1 && (t.arr 127).job == some { job (pass 1) with entered := true }) = true ∧
    yes (exec (.passEntry 127) (active (job (pass 1)) none (some (tile 0x16 0 0)) 1 []))
      (fun t => (t.core 127).mxStatus == 0x16 && (t.arr 127).job.isNone) = true := by decide +kernel
def streaming (n row : Nat) (start stop : Nat) (v : Nat) (w : W32) : List (Nat × Nat) → State :=
  active { job { pass n with start := start, stop := stop } with entered := true, row := row } none (some (tile 0 v w)) 1
theorem test_rowDrain : yes (exec (.rowDrain 127 []) (streaming 2 0 1 2 1 128 [])) (fun t =>
      t.natAt (poc + 0x2000) 4 == 1 && ((t.arr 127).job.map (fun j => j.row)) == some 1) = true ∧
    yes (exec (.rowDrain 127 [(127, 0x80000000)]) (streaming 1 0 1 2 1 128 [(R.CORE_SLV_MISMATCHES 127, 0xFFFFFFFE)])) (fun t =>
      t.reg (R.CORE_SLV_MISMATCHES 127) == 0xFFFFFFFF && t.natAt (poc + 0x2000) 4 == 0 &&
      t.fld (R.CORE_SLV_LAST_VALUES 127) F.CORE_SLV_LAST_VALUES_diff == 0x80000000) = true := by decide +kernel
/-- The same product with the zero skip, over a row of zeros. -/
def skipping : State :=
  (active { job { pass 2 with stop := 0 } with item := item (prod [(0, 34, 1)]), entered := true } none (some (tile 0 1 128)) 1 []).putNat poc 1 0
theorem test_rowDrain_zero : yes (exec (.rowDrain 127 []) skipping) (fun t =>
    t.reg (R.CORE_SLV_SKIPPED 127) == 1 && t.reg (R.CORE_SLV_MISMATCHES 127) == 0) = true := by decide +kernel
def retrying : ArrJob := { job (pass 2) with entered := true, row := 2, mismatched := [0] }
theorem test_selvageRetry : State.rowLimit retrying (pass 2) = 2 ∧
    ((active retrying none none 1 []).loadTile 127 retrying.item ((active retrying none none 1 []).unitProd retrying.item 0) (pass 2)).1.bad = 0 := by
  decide +kernel
/-- The product with C staged: its home is the first byte of stack 7. -/
def homeFields : List (Nat × Nat × Nat) :=
  [(0, 0, 0x20), (0, 12, 11), (0, 16, 11), (1, 0, poc), (2, 0, poc + 0x1000), (3, 0, 0x5400000000), (6, 0, 1), (6, 32, 1),
   (7, 0, 1), (7, 32, 1), (10, 0, 1), (10, 16, 1), (10, 32, 1), (11, 0, 1), (11, 16, 1), (11, 32, 1), (15, 0, 0xFFFF), (15, 16, 0xFFFF)]
def staging (done : Nat) (ptile : Nat) (bufs : List (Nat × List Host.Cell)) : State :=
  active { job { pass 1 with ptile := ptile } with item := item (wide homeFields), stagedTo := done, cBufs := bufs } none none 0 []
theorem test_stagingFetch : yes (exec (.stagingFetch 127) (staging 0 0 [])) (fun t =>
    ((t.arr 127).job.map (fun j => j.stagedTo)) == some 1) = true ∧
    State.isStaged 127 ((staging 0 0 []).unitProd (item (wide homeFields)) 0) 2 = true := by decide +kernel
theorem test_stagingWriteback : yes (exec (.stagingWriteback 127) (staging 1 1 [(0, [(0x5400000000, 7), (0x5400000003, 9)])])) (fun t =>
    t.byteAt 0x5400000000 == 7 && t.byteAt 0x5400000003 == 9 && (t.arr 127).job.any (fun j => j.cBufs.isEmpty)) = true := by decide +kernel

/-! Row operations (R188 to R195). -/

/-- One row of one FP32 element, 2 × 2 of them summed in squares: x at 0 of Pocket, y at 0x1000, statistics at 0x2000. -/
def rowFields (op : Nat) : List (Nat × Nat × Nat) :=
  [(0, 0, 0x23), (0, 8, op), (0, 32, 0x0B), (0, 36, 1), (1, 0, poc), (2, 0, poc + 0x1000), (3, 0, poc + 0x3000), (5, 0, poc + 0x2000), (6, 0, 1), (6, 32, 1),
   (9, 0, if op = 1 then 0x3F800000 else 0), (9, 32, 0x3F800000), (15, 0, 0xFFFF)]
def rowDesc (op : Nat) (l : List (Nat × Nat × Nat)) : BitVec 1024 := wide (rowFields op ++ l)
def rowState (op : Nat) : State :=
  ((queued (rowDesc op [])).putNat poc 4 0x40000000).putNat (poc + 0x3000) 4 0x3F800000
def rowOk (op : Nat) : Bool :=
  decide ((rowState op).rowCheck 127 (item (rowDesc op [])) = 0 ∧ (rowState op).legacyOf 127 1 = false ∧
    (rowState op).rangesStatus (State.mxEng 127 (item (rowDesc op []))) (State.rowReads (rowDOf (rowDesc op [])) 0 1) = (0, 0) ∧
    (rowState op).engWriteSt (State.mxEng 127 (item (rowDesc op []))) (poc + 0x1000) 4 = 0 ∧
    (rowState op).engWriteSt (State.mxEng 127 (item (rowDesc op []))) (poc + 0x2000) 8 = 0)
theorem test_rowOps : ∀ op : Fin 7, rowOk op.val = true := by decide +kernel
theorem test_rmsnorm : yes (exec (.rmsnorm 127) (rowState 2)) (fun t =>
      t.natAt (poc + 0x1000) 4 == 0x3F800000 && t.natAt (poc + 0x2000) 4 == 0x40800000 && t.natAt (poc + 0x2004) 4 == 0x3F000000 &&
      t.reg (R.CORE_SFU_ROWS 127) == 1) = true ∧
    yes (exec (.rmsnormStatistics 127) (rowState 5)) (fun t => t.natAt (poc + 0x1000) 4 == 0 && t.natAt (poc + 0x2000) 4 == 0x40800000) = true := by
  decide +kernel
theorem test_softMaximum : yes (exec (.softMaximum 127) (rowState 0)) (fun t =>
      t.natAt (poc + 0x1000) 4 == 0x3F800000 && t.natAt (poc + 0x2000) 4 == 0x40000000 && t.natAt (poc + 0x2004) 4 == 0x3F800000) = true ∧
    yes (exec (.softMaximum 127) (queued (rowDesc 0 [(10, 48, 1)]))) (fun t => (t.core 127).mxStatus == 2) = true := by decide +kernel
theorem test_layernorm : yes (exec (.layernorm 127) (rowState 1)) (fun t => t.reg (R.CORE_SFU_ROWS 127) == 1) = true ∧
    yes (exec (.gatedActivation 127) ((rowState 6).putNat poc 4 0)) (fun t => t.natAt (poc + 0x1000) 4 == 0 && t.reg (R.CORE_SFU_ROWS 127) == 1) = true := by
  decide +kernel

/-! Convolutions and window operations (R197 to R214). -/

/-- A 1 × 2 INT8 image, one channel in and out, a 1 × 2 filter. -/
def convFields (mode kw : Nat) : List (Nat × Nat × Nat) :=
  [(0, 0, 0x24), (0, 8, mode), (0, 12, 11), (0, 16, 11), (1, 0, poc), (2, 0, poc + 0x1000), (3, 0, poc + 0x2000), (4, 0, 2), (4, 16, 1), (4, 32, 1),
   (4, 48, 1), (5, 0, 1), (5, 8, kw), (5, 16, 1), (5, 20, 1), (5, 24, 1), (5, 28, 1), (5, 32, 1), (5, 36, 1), (9, 16, 1), (9, 48, 1),
   (10, 0, 1), (10, 32, 4), (15, 0, 0xFFFF)]
theorem test_convolution : yes (exec (.convolution 127) (queued (wide (convFields 0 2)))) (fun t =>
      t.fld (R.CORE_CWU_STATUS 127) F.CORE_CWU_STATUS_busy == 1 && ((t.arr 127).job.map (fun j => j.passes.length)) == some 1) = true ∧
    yes (exec (.convolution 127) (queued (wide (convFields 0 16)))) (fun t => (t.core 127).mxStatus == 0x15) = true ∧
    yes (exec (.convolution 127) (queued (wide (convFields 0 3)))) (fun t => (t.core 127).mxStatus == 0x14) = true := by decide +kernel
theorem test_weightGradient : yes (exec (.weightGradient 127) (queued (wide (convFields 1 2)))) (fun t =>
      (t.arr 127).job.isSome && (t.core 127).mxStatus == 0) = true ∧
    yes (exec (.weightGradient 127) (queued (wide (convFields 1 0)))) (fun t => (t.core 127).mxStatus == 2) = true := by decide +kernel
def lining : State :=
  match exec (.convolution 127) (queued (wide (convFields 0 2))) with | .next t => t | _ => State.reset
theorem test_lineFetch : yes (exec (.lineFetch 127) lining) (fun t =>
    t.reg (R.CORE_CWU_LINE_BYTES 127) == 2 && ((t.arr 127).job.map (fun j => j.linesTo)) == some 1) = true := by decide +kernel

/-- Pooling of a 1 × 2 INT8 image into one value; regrouping of a 2 × 2 one. -/
def poolFields (op : Nat) : List (Nat × Nat × Nat) :=
  [(0, 0, 0x25), (0, 8, op), (0, 12, 11), (1, 0, poc), (2, 0, poc + 0x1000), (3, 0, 2), (3, 16, 1), (3, 32, 1), (4, 0, 1), (4, 8, 2),
   (4, 16, 1), (4, 20, 1), (4, 24, 1), (4, 28, 1), (4, 32, 1), (4, 36, 1), (15, 0, 0xFFFF)]
def regroupFields (op h w ch sr sp dr dp : Nat) : List (Nat × Nat × Nat) :=
  [(0, 0, 0x25), (0, 8, op), (0, 12, 11), (0, 20, 1), (1, 0, poc), (2, 0, poc + 0x1000), (3, 0, w), (3, 16, h), (3, 32, ch),
   (6, 0, sr), (6, 32, sp), (7, 0, dr), (7, 32, dp), (15, 0, 0xFFFF)]
def windowed (l : List (Nat × Nat × Nat)) : State := (queued (wide l)).putBytes poc [5, 9, 2, 7]
theorem test_maxPool : yes (exec (.maxPool 127) (windowed (poolFields 0))) (fun t => t.byteAt (poc + 0x1000) == 9 && t.reg (R.CORE_CWU_OUTPUTS 127) == 1) = true ∧
    yes (exec (.averagePool 127) (windowed (poolFields 1))) (fun t => t.byteAt (poc + 0x1000) == 7) = true ∧
    yes (exec (.maxPool 127) (windowed (poolFields 0 ++ [(0, 19, 1)]))) (fun t => (t.core 127).mxStatus == 2) = true := by decide +kernel
theorem test_spaceToDepth : yes (exec (.spaceToDepth 127) (windowed (regroupFields 2 2 2 1 2 4 1 1))) (fun t =>
      t.bytesAt (poc + 0x1000) 4 == [5, 9, 2, 7]) = true ∧
    yes (exec (.depthToSpace 127) (windowed (regroupFields 3 1 1 4 1 1 2 4))) (fun t => t.bytesAt (poc + 0x1000) 4 == [5, 9, 2, 7]) = true := by
  decide +kernel
/-- What the clause's premises say of a range, at every range of bytes within it. -/
theorem test_window_ranges : (∀ a : Fin 3, ∀ n : Fin 3, a.val + n.val ≤ 2 → (windowed (poolFields 0)).engReadSt (State.mxEng 127 (item (wide (poolFields 0)))) (poc + a.val) n.val = 0) ∧
    (∀ a : Fin 2, ∀ n : Fin 2, a.val + n.val ≤ 1 → (windowed (poolFields 0)).engWriteSt (State.mxEng 127 (item (wide (poolFields 0)))) (poc + 0x1000 + a.val) n.val = 0) ∧
    (State.winDOf (wide (poolFields 0))).ranges = ((poc, 2), (poc + 0x1000, 1)) := by decide +kernel
/-- Two INT8 elements, a zero and a 9. -/
def packFields (op cap : Nat) : List (Nat × Nat × Nat) :=
  [(0, 0, 0x25), (0, 8, op), (0, 12, 11), (1, 0, poc), (2, 0, poc + 0x1000), (8, 0, 2), (9, 0, cap), (15, 0, 0xFFFF)]
theorem test_pack : yes (exec (.pack 127) ((queued (wide (packFields 4 64))).putBytes poc [0, 9])) (fun t =>
      t.bytesAt (poc + 0x1000) 14 == [2, 0, 0, 0, 0, 0, 0, 0, 1, 0, 1, 0, 9, 0] && t.reg (R.CORE_CWU_LAST_BYTES 127) == 64) = true ∧
    yes (exec (.pack 127) ((queued (wide (packFields 4 63))).putBytes poc [0, 9])) (fun t =>
      (t.core 127).mxStatus == 0x1D && t.reg (R.CORE_CWU_LAST_BYTES 127) == 64) = true := by decide +kernel
theorem test_unpack : yes (exec (.unpack 127) ((queued (wide (packFields 5 13))).putBytes poc [2, 0, 0, 0, 0, 0, 0, 0, 1, 0, 1, 0, 9])) (fun t =>
      t.bytesAt (poc + 0x1000) 2 == [0, 9] && (t.core 127).mxStatus == 0) = true ∧
    yes (exec (.unpack 127) (queued (wide (packFields 5 12)))) (fun t => (t.core 127).mxStatus == 0x1E) = true := by decide +kernel

/-! The key-value cache and attention (R218 to R231). -/

/-- Space 7 of instance 7 on die 3: FP16, hd 64, one layer, one head, T = 256; two slots, one block each, one frame; tables in
stack 7. -/
def kvCfg : Nat := 3 * 2 + 1 * 2 ^ 3 + 1 * 2 ^ 16 + 1 * 2 ^ 24
def spaceRegs (on : Nat) : List (Nat × Nat) :=
  owned ++ [(R.KV_SPACE_CFG 7, kvCfg + on), (R.KV_SPACE_OWNER 7, 7), (R.KV_SPACE_LIMITS 7, 2 + 2 ^ 17), (R.KV_POOL_FRAMES 7, 1),
    (R.KV_L1_BASE 7, 0x5400000000), (R.KV_L2_BASE 7, 0x5400001000), (R.KV_POOL_BASE 7, 0x5400010000), (R.KV_TREE_BASE 7, 0x5400002000),
    (R.KV_TOKEN_BASE 7, 0x5400003000)]
def keyed (s : State) : State := { s with host := { s.host with kvKeys := [(7, 5)] } }
theorem test_kvSpaceEnable : yes (exec (.kvSpaceEnable .pf 7 (BitVec.ofNat 32 kvCfg)) (keyed (regs (spaceRegs 0)))) (fun t =>
      t.kvOn 7 && t.kvFreeCount 7 == 1 && t.fld (R.KV_SPACE_CFG 7) F.KV_SPACE_CFG_cfg_error == 0) = true ∧
    yes (exec (.kvSpaceEnable .pf 7 (BitVec.ofNat 32 kvCfg)) (regs (spaceRegs 0))) (fun t =>
      !t.kvOn 7 && t.fld (R.KV_SPACE_CFG 7) F.KV_SPACE_CFG_cfg_error == 1) = true ∧ (regs (spaceRegs 1)).kvOn 7 = true := by decide +kernel
theorem test_kvSpaceDisable : yes (exec (.kvSpaceDisable .pf 7 0) (regs (spaceRegs 1))) (fun t => !t.kvOn 7) = true ∧
    yes (exec (.kvSpaceDisable .pf 7 0) (regs (spaceRegs 1 ++ [(R.KV_OPEN_SEQS 7, 1)]))) (fun t => t.kvOn 7) = true := by decide +kernel

/-- A command of operation `op` on slot 1 with parent 0, `count` tokens at 0x4000, at most `most`, and its record at 0x5000. -/
def kvDesc (op count most : Nat) : BitVec 512 :=
  narrow [(0, 0, 0x48), (0, 16, op), (0, 20, 7), (1, 0, 1), (2, 0, 0x5400004000), (3, 0, count), (3, 32, most), (4, 0, 0x5400005000), (5, 0, 0xFFFF)]
def kvIt (d : BitVec 512) : KvItem := ⟨d, o7, ⟨.die 3, 0⟩⟩
def spaced (d : BitVec 512) (k : KvSpace) (r : List (Nat × Nat)) : State :=
  { regs (spaceRegs 1 ++ r) with kv := [(7, { k with queue := [kvIt d] })] }
/-- Slot `n` open with `len` tokens, its block in frame 0. -/
def openAt (s : State) (n len : Nat) : State :=
  (s.putNat (0x5400000000 + 16 * n) 16 (2 ^ 48 + len * 2 ^ 64)).putNat (0x5400001000 + 4 * n) 4 (2 ^ 31)
def kvReady (s : State) (d : BitVec 512) : Bool :=
  decide (s.kvDeliver 7 64 = s ∧ s.oldOwner o7 = false ∧ s.kvBad (kvIt d) = false ∧ s.semForeign (some 7) 0xFFFF = false ∧
    s.engWriteSt (s.kvEng (kvIt d)) 0x5400005000 16 = 0)
def freeOne : KvSpace := { KvSpace.reset with free := [0] }
theorem test_kvOpen : kvReady (spaced (kvDesc 0 256 256) freeOne []) (kvDesc 0 256 256) = true ∧
    (spaced (kvDesc 0 256 256) freeOne []).kvT 7 = 256 ∧ cdiv 256 256 = 1 ∧ (spaced (kvDesc 0 256 256) freeOne []).kvOpenSlot 7 1 = false ∧
    (openAt (spaced (kvDesc 0 256 256) freeOne []) 1 1).kvOpenSlot 7 1 = true ∧
    yes (exec (.kvOpen 7) (spaced (kvDesc 0 1 1) KvSpace.reset [])) (fun t => t.natAt 0x5400005000 8 == 0x21 && t.reg (R.KV_FULL_COUNT 7) == 1) = true ∧
    yes (exec (.kvOpen 7) (openAt (spaced (kvDesc 0 1 1) KvSpace.reset []) 1 1)) (fun t => t.natAt 0x5400005000 8 == 0x22) = true := by
  decide +kernel
def lent (m : Nat) : KvSpace := { KvSpace.reset with maxTokens := [(1, m)], refs := [(0, 1)] }
theorem test_kvAppend : kvReady (openAt (spaced (kvDesc 1 1 0) (lent 256) []) 1 255) (kvDesc 1 1 0) = true ∧
    yes (exec (.kvAppend 7) (openAt (spaced (kvDesc 1 1 0) (lent 256) []) 1 255)) (fun t =>
      t.kvLen 7 1 == 256 && t.natAt 0x5400005000 8 == 0 && t.natAt 0x5400005008 8 == 256) = true ∧
    yes (exec (.kvAppend 7) (openAt (spaced (kvDesc 1 2 0) (lent 256) []) 1 255)) (fun t => t.natAt 0x5400005000 8 == 0x23) = true ∧
    yes (exec (.kvAppend 7) (spaced (kvDesc 1 1 0) (lent 256) [])) (fun t => t.natAt 0x5400005000 8 == 0x22) = true := by decide +kernel
theorem test_kvFork : yes (exec (.kvFork 7) (openAt (spaced (kvDesc 2 0 256) freeOne []) 0 255)) (fun t =>
      t.natAt 0x5400005000 8 == 0 && t.kvReserved 7 == 1 && t.fld (R.KV_OPEN_SEQS 7) F.KV_OPEN_SEQS_count == 1) = true ∧
    yes (exec (.kvFork 7) (openAt (openAt (spaced (kvDesc 2 0 256) freeOne []) 0 255) 1 1)) (fun t => t.natAt 0x5400005000 8 == 0x22) = true := by
  decide +kernel
theorem test_kvPublish : kvReady (openAt (spaced (kvDesc 3 256 0) (lent 256) []) 1 256) (kvDesc 3 256 0) = true ∧
    (openAt (spaced (kvDesc 3 256 0) (lent 256) []) 1 256).kvFrame 7 1 0 = some 0 ∧ min 256 256 / 256 = 1 ∧
    yes (exec (.kvPublish 7) (spaced (kvDesc 3 256 0) (lent 256) [])) (fun t => t.natAt 0x5400005000 8 == 0x22) = true := by decide +kernel
-- SipHash-2-4 of the published test vector: key 00 to 0f, message 00 to 0e.
theorem test_sipHash: sipHash 0x0F0E0D0C0B0A09080706050403020100 (bytesOf 0x0E0D0C0B0A09080706050403020100 15) = 0xA129CA6149BE45E5 := by
  decide +kernel
theorem test_kvClose : yes (exec (.kvClose 7) (openAt (spaced (kvDesc 4 0 0) (lent 256) [(R.KV_OPEN_SEQS 7, 1)]) 1 255)) (fun t =>
      t.natAt 0x5400005000 8 == 0 && t.fld (R.KV_OPEN_SEQS 7) F.KV_OPEN_SEQS_count == 0 && (t.kvSpace 7).free == [0]) = true ∧
    yes (exec (.kvClose 7) (openAt (spaced (kvDesc 4 0 0) { lent 256 with pins := [(1, 1)] } []) 1 255)) (fun t =>
      (t.kvSpace 7).closing == some (1, kvIt (kvDesc 4 0 0))) = true ∧
    yes (exec (.kvClose 7) (spaced (kvDesc 4 0 0) (lent 256) [])) (fun t => t.natAt 0x5400005000 8 == 0x22) = true := by decide +kernel
theorem test_kvCloseRelease : yes (exec (.kvCloseRelease 7 1) (openAt (spaced (kvDesc 4 0 0)
      { lent 256 with closing := some (1, kvIt (kvDesc 4 0 0)) } [(R.KV_OPEN_SEQS 7, 1)]) 1 255)) (fun t =>
      (t.kvSpace 7).closing.isNone && t.fld (R.KV_OPEN_SEQS 7) F.KV_OPEN_SEQS_count == 0) = true ∧
    yes (exec (.kvCloseRelease 7 1) (spaced 0 { lent 256 with closing := some (1, kvIt 0), pins := [(1, 1)] } [])) (fun t =>
      (t.kvSpace 7).closing.isSome) = true := by decide +kernel
theorem test_kvTranslation : yes (exec (.kvTranslation 3 7 1 0) (openAt (spaced 0 (lent 256) []) 1 256)) (fun t =>
      t.labOf 3 == [⟨7, 1, 0, 0, 7, 0⟩] && t.reg (R.KV_WLK_MISSES 3) == 1) = true ∧
    yes (exec (.kvTranslation 3 7 1 0) { openAt (spaced 0 (lent 256) []) 1 256 with lab := [(3, [⟨7, 1, 0, 0, 7, 0⟩])] }) (fun t =>
      t.reg (R.KV_WLK_HITS 3) == 1) = true ∧
    yes (exec (.kvTranslation 3 7 1 1) (openAt (spaced 0 (lent 256) []) 1 256)) (fun t => (t.labOf 3).isEmpty) = true ∧
    (openAt (spaced 0 (lent 256) []) 1 256).kvLookup 7 1 1 = none := by decide +kernel

/-- An attention descriptor of one entry (list at 0x6000), its score buffer in Pocket, staging in Pocket. -/
def attnFields : List (Nat × Nat × Nat) :=
  [(0, 0, 0x26), (0, 8, 1), (0, 16, 1), (0, 20, 1), (0, 36, 7), (0, 40, 1), (1, 0, 0x5400006000), (2, 0, poc), (3, 0, 1024), (3, 32, 1), (4, 16, 1),
   (15, 0, 0xFFFF), (15, 16, 0xFFFF)]
def attending (d : BitVec 1024) : State :=
  ((((({ (regs (spaceRegs 1 ++ [(R.CORE_STG_REGION 127, poc + 0x100000 + 8 * 2 ^ 48)])) with kv := [(7, lent 256)] }.setCore 127
    { Core.reset with mxq := [item d] }).putNat 0x5400006000 8 1).putNat 0x5400006018 8 1).putNat 0x5400006008 8 0x5400007000).putNat 0x5400006010 8 0x5400007100)
theorem test_attention : (attending (wide attnFields)).attnCheck 127 (item (wide attnFields)) = (0, 0) ∧
    yes (exec (.attention 127) (openAt (attending (wide attnFields)) 1 1)) (fun t =>
      (t.arr 127).attn == some ⟨item (wide attnFields), 0, some (1, 1)⟩ && (t.kvSpace 7).pins.get 0 1 == 1) = true ∧
    yes (exec (.attention 127) (attending (wide attnFields))) (fun t => (t.core 127).mxStatus == 0x22) = true ∧
    yes (exec (.attention 127) (attending (wide (attnFields ++ [(0, 39, 1)])))) (fun t => (t.core 127).mxStatus == 2) = true := by decide +kernel
def storeFields : List (Nat × Nat × Nat) :=
  [(0, 0, 0x27), (0, 8, 1), (0, 36, 7), (1, 0, poc), (2, 0, poc + 0x80), (3, 0, 1), (3, 32, 255), (4, 0, 1), (15, 0, 0xFFFF)]
theorem test_kvStore : yes (exec (.kvStore 127) ((openAt (attending (wide storeFields)) 1 256).putNat (poc + 0x80) 2 0x3C00)) (fun t =>
      t.natAt (0x5400010000 + 32768 + 255 * 128) 2 == 0x3C00 && t.natAt (0x5400010000 + 255 * 128) 2 == 0 && (t.core 127).mxStatus == 0) = true ∧
    yes (exec (.kvStore 127) (openAt (attending (wide storeFields)) 1 255)) (fun t => (t.core 127).mxStatus == 0x22) = true := by decide +kernel
/-- The entry runs: one query row against one key. -/
def attnRun : State :=
  (openAt (attending (wide attnFields)) 1 1).setCore 127 { Core.reset with arr := { ArrState.reset with attn := some ⟨item (wide attnFields), 0, some (1, 1)⟩ } }
theorem test_attention_entry : (attnRun.arr 127).attn = some ⟨item (wide attnFields), 0, some (1, 1)⟩ ∧
    attnRun.oldMx (item (wide attnFields)) = false ∧ (attnOf (wide attnFields)).entries = 1 := by decide +kernel

/-! Memory tiers and the core DMA (R152, R153, R240 to R257). -/

def req (a n : Nat) (w : Option (List Byte)) : MemReq := ⟨.agent 1, some 7, 0, false, a, n, w⟩
/-- Instance 7 with quadrant 3's granules 0 and 1 as cache and a quota of 65,535. -/
def cached (r : List (Nat × Nat)) : State :=
  regs (owned ++ [(R.MEM_OVC_GRANULE 72, 0x11), (R.MEM_OVC_GRANULE 73, 0x11), (R.MEM_OVC_QUOTA 3 7, 0xFFFF)] ++ r)
/-- The last line of the last stack. -/
def lastLine : Nat := 0x5FFFFFFFFF / 256
def line (dirty poisoned : Bool) : Line := ⟨72, 0, some 7, 0, dirty, poisoned, 7 * 2 ^ 2040⟩
def withLine (v : Line) : State := { cached [] with msys := { MemState.reset with lines := [(lastLine, v)] } }
theorem test_overcastAccess : yes (exec (.overcastAccess (req 0x5FFFFFFFFF 1 none)) (withLine (line false false))) (fun t =>
      t.msys.reply == some ⟨.agent 1, 0, [7]⟩ && t.reg (R.MEM_OVC_HITS 3) == 1) = true ∧
    yes (exec (.overcastAccess (req 0x5FFFFFFFFF 1 none)) (cached [])) (fun t =>
      t.msys.misses == [⟨lastLine, true, [req 0x5FFFFFFFFF 1 none]⟩] && t.reg (R.MEM_OVC_MISSES 3) == 1) = true ∧
    yes (exec (.overcastAccess (req 0x5FFFFFFFFF 1 none)) (regs owned)) (fun t => t.msys.misses == [⟨lastLine, false, [req 0x5FFFFFFFFF 1 none]⟩]) = true := by
  decide +kernel
theorem test_overcastAccess_other : yes (exec (.overcastAccess (req 0xFFFFFFFFFF 1 none)) (regs (owned ++ [(R.SCH_INST_MEM 7, 511 * 2 ^ 8 + 2 ^ 17)])))
      (fun t => t.msys.deep.length == 1) = true ∧
    yes (exec (.overcastAccess (req (poc + 0x17FFFFF) 0 (some [9]))) (regs owned)) (fun t => t.byteAt (poc + 0x17FFFFF) == 9) = true ∧
    yes (exec (.overcastAccess (req 0 0 (some [9]))) (regs owned)) (fun t => t.reg R.SCH_FIREWALL_DENIED == 1 && t.byteAt 0 == 0) = true := by decide +kernel
def missing (fill : Bool) : State :=
  { (cached []).putByte 0x5FFFFFFFFF 7 with msys := { MemState.reset with misses := [⟨lastLine, fill, [req 0x5FFFFFFFFF 1 none]⟩] } }
theorem test_cacheMissFill : yes (exec (.cacheMissFill lastLine .good) (missing true)) (fun t =>
      t.msys.reply == some ⟨.agent 1, 0, [7]⟩ && (t.findLine lastLine).any (fun v => !v.dirty)) = true ∧
    yes (exec (.cacheMissFill lastLine .uncorrectable) (missing false)) (fun t =>
      t.reg (R.MEM_HBM_UE 7) == 1 && t.regBit R.MEM_LTF_STEP 7 && t.msys.reply == some ⟨.agent 1, 0x24, []⟩) = true := by decide +kernel
theorem test_lateAccessTimeout : yes (exec (.lateAccessTimeout (.miss lastLine)) (missing true)) (fun t =>
      t.reg (R.MEM_HBM_LATE 7) == 1 && t.msys.late == [.miss lastLine]) = true ∧
    yes (exec (.lateDataDiscard (.miss lastLine)) { regs [] with msys := { MemState.reset with late := [.miss lastLine] } }) (fun t =>
      t.reg R.MEM_LATE_DISCARDS == 1) = true := by decide +kernel
def victim (n : Nat) : State := { cached [] with msys := { MemState.reset with victims := [(3, [⟨lastLine, line true false, n⟩])] } }
theorem test_victimWriteback : yes (exec (.victimWriteback 3 lastLine true) (victim 0)) (fun t => Tbl.get t.mem 0 0x5FFFFFFFFF == 7) = true ∧
    yes (exec (.victimWriteback 3 lastLine false) (victim 1)) (fun t => (t.msys.victims.get [] 3).map (fun v => v.fails) == [2]) = true ∧
    yes (exec (.victimWriteback 3 lastLine false) (victim 2)) (fun t => (t.findLine lastLine).any (fun v => v.poisoned && v.dirty)) = true := by decide +kernel
def deepState (r : MemReq) : State := { regs [] with msys := { MemState.reset with deep := [⟨5, r⟩] } }
theorem test_deepTierAccess : yes (exec (.deepTierAccess 5 .good) (deepState (req 0xFFFFFFFFFF 0 (some [9])))) (fun t => t.byteAt 0xFFFFFFFFFF == 9) = true ∧
    yes (exec (.deepTierAccess 5 .uncorrectable) (deepState (req 0xFFFFFFFFFF 1 none))) (fun t => t.reg (R.MEM_DT_UE 7) == 1) = true := by decide +kernel

/-- A transfer of one row of `rb` bytes from 0 to 0x1000 of Pocket at the head of core 127's queue. -/
def xferFields (op rb : Nat) : List (Nat × Nat × Nat) :=
  [(0, 0, op), (0, 8, 7), (1, 0, poc), (2, 0, poc + 0x1000), (3, 0, rb), (3, 32, 1), (6, 0, 0xFFFF)]
def xfer (d : BitVec 512) (stage : Nat) (done : Option Nat) : DmaItem := ⟨3, d, some pair, o7, .tag 7, stage, 0, 0, [], done, 0⟩
def moving (it : DmaItem) : State := ((regs owned).setCore 127 { Core.reset with dmaq := [it] }).putBytes poc [0, 0, 0x80, 0x3F, 1, 0, 0, 0]
theorem test_copy : yes (exec (.copy (.core 127) 0) (moving (xfer (narrow (xferFields 0x40 5)) 0 none))) (fun t =>
      t.bytesAt (poc + 0x1000) 6 == [0, 0, 0x80, 0x3F, 1, 0] && (t.dmaList (.core 127)).map DmaItem.done == [some 0]) = true ∧
    yes (exec (.copy (.core 127) 0) (moving (xfer (narrow (xferFields 0x40 0)) 0 none))) (fun t =>
      (t.dmaList (.core 127)).map DmaItem.done == [some 2]) = true := by decide +kernel
theorem test_copyWithConversion : yes (exec (.copyWithConversion (.core 127) 0) (moving (xfer (narrow (xferFields 0x41 4 ++ [(0, 20, 2)])) 0 none))) (fun t =>
      t.bytesAt (poc + 0x1000) 3 == [0x80, 0x3F, 0] && (t.dmaList (.core 127)).map DmaItem.done == [some 0]) = true := by decide +kernel
theorem test_memorySideReduction : yes (exec (.memorySideReduction (.core 127) 0)
      ((moving (xfer (narrow (xferFields 0x42 4 ++ [(0, 16, 4), (0, 20, 4)])) 0 none)).putNat (poc + 0x1000) 4 0xFFFFFFFF)) (fun t =>
      t.natAt (poc + 0x1000) 4 == 0x3F7FFFFF && (t.dmaList (.core 127)).map DmaItem.done == [some 0]) = true := by decide +kernel
def maintDesc (op : Nat) : BitVec 512 := narrow [(0, 0, 0x43), (0, 36, op), (1, 0, 256 * lastLine), (3, 0, 256), (3, 32, 1), (6, 0, 0xFFFF)]
def maint (op : Nat) (v : Line) : State := (withLine v).setCore 127 { Core.reset with dmaq := [xfer (maintDesc op) 0 none] }
theorem test_flush : yes (exec (.flush (.core 127) 0) (maint 0 (line true false))) (fun t =>
      (t.findLine lastLine).any (fun v => !v.dirty) && Tbl.get t.mem 0 0x5FFFFFFFFF == 7) = true ∧
    yes (exec (.flush (.core 127) 0) (maint 0 (line true true))) (fun t => (t.dmaList (.core 127)).map DmaItem.done == [some 0x24]) = true := by decide +kernel
theorem test_invalidate : yes (exec (.invalidate (.core 127) 0) (maint 1 (line true false))) (fun t =>
      (t.findLine lastLine).isNone && t.mem.isEmpty) = true ∧
    yes (exec (.flushAndInvalidate (.core 127) 0) (maint 2 (line true false))) (fun t =>
      (t.findLine lastLine).isNone && Tbl.get t.mem 0 0x5FFFFFFFFF == 7) = true := by decide +kernel
theorem test_dmaItemCompletion : yes (exec (.dmaItemCompletion (.core 127) 0) (moving (xfer (narrow (xferFields 0x40 5)) 3 (some 0x11)))) (fun t =>
      (t.core 127).tagStatus.get 0 7 == 0x11 && t.reg (R.CORE_DMA_ITEMS 127) == 1 && (t.dmaList (.core 127)).isEmpty) = true ∧
    yes (exec (.dmaItemCompletion (.core 127) 0) (moving (xfer (narrow (xferFields 0x3F 5)) 0 none))) (fun t => (t.core 127).tagStatus.get 0 7 == 1) = true := by
  decide +kernel

/-! The wide bundle (R126 to R156). Core 127 runs a copy of instance 7; its bundle is the last of a cached line. -/

def cr : Core :=
  { Core.reset with runq := [⟨0, o7, 0, 0, 5, 0, .running, 0, false⟩], icache := [3], b := [(15, ⟨BitVec.ofNat 48 poc, BitVec.ofNat 48 (poc + 0x1800000), 3⟩)],
                    a := [(31, BitVec.ofNat 48 poc)], s := [(1, 7), (2, 8), (5, 12), (62, 0x8000000000000000)] }
def here (k : Core) : State := (regs (owned ++ [(R.CORE_SEQ_IREG 127 0, 2 ^ 48), (R.CORE_SEQ_PC 127, 0x3C0)])).setCore 127 k
def cmd (slot : Fin 8) (op : BitVec 8) (d x y : Fin 64) (imm : BitVec 30) (bnd : Fin 16) : SlotCmd :=
  ⟨127, slot, true, ⟨op, 0, false, d, x, y, bnd, imm⟩⟩
/-- The command in that state is presented, its core issues, and the test holds after it. -/
def does (e : SlotCmd → Instr) (k : Core) (i : SlotCmd) (p : State → Bool) : Bool :=
  decide ((here k).Presents i i.slot.val i.word.opcode.toNat) && State.guarded k i.word && yes (exec (e i) (here k)) p
def issued (t : State) : Bool := t.reg (R.CORE_SEQ_PC 127) == 0x400 && t.reg (R.CORE_SEQ_BUNDLES 127) == 1 && t.reg (R.CORE_SEQ_STATUS 127) == 1
def held (cause : Nat) (t : State) : Bool := t.reg (R.CORE_SEQ_PC 127) == 0x3C0 && t.reg (R.CORE_SEQ_STALLS 127) == 1 &&
  t.fld (R.CORE_SEQ_STATUS 127) F.CORE_SEQ_STATUS_hold_cause == cause
def faulted (code slot : Nat) (t : State) : Bool := (t.core 127).ending == some code && t.fld (R.CORE_SEQ_FAULT 127) F.CORE_SEQ_FAULT_slot == slot

-- slot words of R149's and the "other slots" table
theorem test_slotWords :
    SlotWord.ofBits 0xFFFFFFE400000001 = ⟨1, 0, false, 0, 0, 0, 0, BitVec.ofInt 30 (-7)⟩ ∧
    SlotWord.ofBits 0x0000003000141008 = ⟨8, 0, false, 1, 5, 0, 0, 12⟩ ∧
    SlotWord.ofBits 0x00000000152D0012 = ⟨0x12, 0, false, 16, 11, 21, 0, 0⟩ ∧
    SlotWord.ofBits 0x0000000000144003 = ⟨3, 0, false, 4, 5, 0, 0, 0⟩ ∧
    SlotWord.ofBits 0x00000020101C010F = ⟨0x0F, 1, false, 0, 7, 16, 0, 8⟩ ∧
    SlotWord.ofBits 0x0000000409203010 = ⟨0x10, 0, false, 3, 8, 9, 0, 1⟩ ∧
    SlotWord.ofBits 0x0000C00000042040 = ⟨0x40, 0, false, 2, 1, 0, 0, 0x3000⟩ := by decide +kernel
theorem test_scalar : does (.scalarArithmetic .mul) cr (cmd 0 0x12 63 1 2 0 0) (fun t => (t.core 127).sreg 63 == 56 && issued t) = true ∧
    does (.scalarArithmetic .add) cr (cmd 0 0x1A 63 1 2 0 0) (fun t => (t.core 127).sreg 63 == 15) = true ∧
    does (.scalarArithmetic .xor) cr (cmd 0 0x10 0 1 2 0 0) (fun t => (t.core 127).sreg 0 == 0 && issued t) = true := by decide +kernel
theorem test_scalarImmediate : (here cr).Presents (cmd 0 0x2A 63 1 0 9 0) 0 0x2A ∧ (here cr).Presents (cmd 0 0x30 63 1 0 9 0) 0 0x30 ∧
    fieldsOk (cmd 0 0x2A 63 1 0 9 0).word fS fS .unused false none = true := by decide +kernel
theorem test_address : does (.addressArithmetic .amov) cr (cmd 1 3 0 31 0 0 0) (fun t => (t.core 127).areg 0 == BitVec.ofNat 48 poc && issued t) = true ∧
    does (.addressArithmetic .toScalar) cr (cmd 2 0x11 63 31 0 0 0) (fun t => (t.core 127).sreg 63 == BitVec.ofNat 64 poc) = true ∧
    (here cr).Presents (cmd 2 2 31 31 0 0 0) 2 2 ∧ fieldsOk (cmd 2 2 31 31 0 0 0).word fA fA fS false none = true := by decide +kernel
theorem test_bset : does .bset cr (cmd 2 0x10 15 1 2 3 0) (fun t => (t.core 127).breg 15 == ⟨7, 8, 3⟩ && issued t) = true ∧
    does .bset cr (cmd 2 0x10 16 1 2 3 0) (faulted 0x18 2) = true := by decide +kernel
theorem test_moves : does .movSv cr (cmd 6 0x18 31 1 0 0 0) (fun t => bitsOf ((t.core 127).vreg 31).toNat 8160 32 == 7 && issued t) = true ∧
    does .movVs { cr with v := [(31, 5)] } (cmd 6 0x19 63 31 0 255 0) (fun t => (t.core 127).sreg 63 == 0 && issued t) = true ∧
    does .movV { cr with v := [(31, 5)] } (cmd 6 0x1A 0 31 0 0 0) (fun t => (t.core 127).vreg 0 == 5 && issued t) = true := by decide +kernel
theorem test_pcmp : does .pcmp cr (cmd 7 0x18 7 62 1 4 0) (fun t => (t.core 127).preg 7 && issued t) = true ∧
    does .pcmp cr (cmd 7 0x18 7 62 1 3 0) (fun t => (t.core 127).preg 7) = true ∧
    does .pcmp cr (cmd 7 0x18 7 62 1 6 0) (faulted 0x18 7) = true := by decide +kernel
theorem test_plog : does .plog { cr with p := [(7, true)] } (cmd 7 0x19 6 7 0 3 0) (fun t => !(t.core 127).preg 6 && issued t) = true ∧
    does .plog cr (cmd 7 0x19 6 7 0 1 0) (fun t => (t.core 127).preg 6) = true := by decide +kernel

-- branches and loops
def looping : Core := { cr with loops := [⟨1, 0x380, 0x3C0⟩, ⟨2, 0x200, 0x3C0⟩], lc := [(1, 1), (2, 2)] }
theorem test_br : does .br looping (cmd 0 1 0 0 0 (BitVec.ofInt 30 (-7)) 0)
      (fun t => t.reg (R.CORE_SEQ_PC 127) == 0x200 && (t.core 127).loops == [⟨2, 0x200, 0x3C0⟩]) = true ∧
    does .brr { looping with s := [(1, 0x200)] } (cmd 0 2 0 1 0 0 0) (fun t => t.reg (R.CORE_SEQ_PC 127) == 0x200 && (t.core 127).loops.length == 1) = true := by
  decide +kernel
theorem test_call : does .call looping (cmd 0 3 0 0 0 4 0) (fun t => t.reg (R.CORE_SEQ_PC 127) == 0x4C0 &&
      (t.core 127).sreg 63 == 0x400 && (t.core 127).loops.length == 2) = true ∧
    does .ret { looping with s := [(63, 0x40)] } (cmd 0 4 0 0 0 0 0) (fun t => t.reg (R.CORE_SEQ_PC 127) == 0x40) = true := by decide +kernel
theorem test_loop : does .loop cr (cmd 0 8 3 5 0 4096 0) (fun t => (t.core 127).lcreg 3 == 12 &&
      (t.core 127).loops == [⟨3, 0x400, 0x403C0⟩] && issued { t with regs := t.regs.set 0 (R.CORE_SEQ_STATUS 127) 1 }) = true ∧
    does .loop cr (cmd 0 8 3 6 0 1 0) (fun t => t.reg (R.CORE_SEQ_PC 127) == 0x440 && (t.core 127).loops.isEmpty) = true ∧
    does .loop looping (cmd 0 8 1 5 0 1 0) (faulted 0x18 0) = true := by decide +kernel
theorem test_loopEnd : does .movV looping (cmd 6 0x1A 0 0 0 0 0) (fun t => t.reg (R.CORE_SEQ_PC 127) == 0x200 &&
      (t.core 127).lcreg 2 == 1 && (t.core 127).loops.length == 1) = true ∧
    does .movV { looping with lc := [(1, 1), (2, 1)] } (cmd 6 0x1A 0 0 0 0 0) (fun t => issued t && (t.core 127).loops.isEmpty) = true := by
  decide +kernel

-- memory
theorem test_scalarMemory : does .scalarLoad cr (cmd 1 0xB 63 31 0 8 15) (fun t => (t.core 127).sreg 63 == 0 && issued t) = true ∧
    does .scalarStore cr (cmd 2 0xF 0 31 62 (BitVec.ofNat 30 0x17FFFF8) 15) (fun t => t.natAt (poc + 0x17FFFF8) 8 == 0x8000000000000000 && issued t) = true ∧
    does .scalarStore cr (cmd 2 0xF 0 31 62 4 15) (faulted 0x1A 2) = true ∧
    does .scalarLoad cr (cmd 1 0x9 63 31 0 (BitVec.ofInt 30 (-1)) 15) (faulted 0x1A 1) = true := by decide +kernel
theorem test_farLoad : (here { cr with a := [(31, 0x10000000000)], b := [(15, ⟨0, BitVec.ofNat 48 0x11000000000, 3⟩)] }).region 0x10000000000 = .ovc 0 ∧
    (here cr).checkRange (.inst 7) poc 1024 = 0 ∧ (here cr).readStatus poc 1024 = 0 := by decide +kernel
theorem test_vectorMemory : (here cr).Presents (cmd 6 0x10 31 31 0 (BitVec.ofNat 30 0x17FFC00) 15) 6 0x10 ∧
    (here cr).accessFault 127 15 false 64 1024 [poc + 0x17FFC00] = none ∧ (here cr).region (poc + 0x17FFC00) = .pocket 127 ∧
    (here cr).Presents (cmd 6 0x11 0 31 31 0 15) 6 0x11 ∧ (here cr).accessFault 127 15 true 64 1024 [poc] = none ∧
    does .vst cr (cmd 6 0x11 0 31 31 0 14) (faulted 0x11 6) = true ∧
    does .vld cr (cmd 6 0x10 31 31 0 (BitVec.ofNat 30 0x17FFC40) 15) (faulted 0x11 6) = true := by decide +kernel
def strided : Core := { cr with s := [(5, 64)] }
theorem test_segments : (here strided).Presents (cmd 6 0x12 31 31 5 0 15) 6 0x12 ∧
    (here strided).Presents (cmd 6 0x13 31 31 5 0 15) 6 0x13 ∧
    (here strided).accessFault 127 15 true 64 64 (State.segments strided (cmd 6 0x13 31 31 5 0 15).word) = none ∧
    (State.segments strided (cmd 6 0x13 31 31 5 0 15).word).Pairwise (fun p q => p + 64 ≤ q ∨ q + 64 ≤ p) ∧
    does .vstS cr (cmd 6 0x13 31 31 5 0 15) (faulted 0x1A 6) = true := by decide +kernel
theorem test_memoryResponse : yes (exec (.memoryResponse 127 0) (here { cr with pend := [⟨.s 63, .load [0] 8 [1, 2] false, 0, 1, 0, true⟩] }))
      (fun t => (t.core 127).sreg 63 == 0x201 && (t.core 127).pend.isEmpty) = true ∧
    yes (exec (.memoryResponse 127 0) (here { cr with pend := [⟨.v 31, .load [0] 8 [] true, 0, 1, 0, true⟩] })) (faulted 0x24 1) = true := by
  decide +kernel

-- vector and special functions
theorem test_vectorArithmetic : (here cr).Presents (cmd 3 0x4F 31 31 31 0 0) 3 0x4F ∧ fieldsOk (cmd 3 0x4F 31 31 31 0 0).word fV fV fV false (some 0) = true ∧
    laneFloat encFp32 .add 0x3F800000 0x3F800000 0 = (0x40000000, false) ∧ (laneFloat encFp16 .mul 0x7BFF 0x7BFF 0).2 = true ∧
    laneInt .sub 5 7 0 = (0xFFFFFFFE, false) := by decide +kernel
theorem test_vcvt : (here cr).Presents (cmd 3 0x40 2 1 0 0x3000 0) 3 0x40 ∧ Fmt.ofCode (bitsOf 0x3000 8 4) = some .fp32 ∧
    Fmt.ofCode (bitsOf 0x3000 12 4) = some .e4m3 ∧ (Cvt.check 0 .e4m3).isSome = true := by decide +kernel
theorem test_sfn : (here cr).Presents (cmd 5 1 3 2 0 0 0) 5 1 ∧ (SfnFunc.ofCode 1).isSome = true ∧
    fieldsOk (cmd 5 1 3 2 0 1 0).word fV fV .unused false (some (2 ^ 19 - 1)) = true := by decide +kernel

-- queues and synchronisation
def mi : MxItem := ⟨0, [], ⟨none, 0, false⟩⟩
theorem test_mxIssue : does .mxIssue cr (cmd 4 1 0 31 0 0 15) (fun t => (t.core 127).mxq.length == 1 && issued t) = true ∧
    does .mxIssue { cr with mxq := [mi, mi, mi, mi] } (cmd 4 1 0 31 0 0 15) (held 2) = true := by decide +kernel
theorem test_mxWait : does .mxWait { cr with mxStatus := 6 } (cmd 4 2 63 0 0 0 0) (fun t => (t.core 127).sreg 63 == 6 && (t.core 127).mxStatus == 0) = true ∧
    does .mxWait { cr with mxq := [mi] } (cmd 4 2 63 0 0 0 0) (held 5) = true ∧
    does .mxPoll { cr with mxq := [mi], mxStatus := 6 } (cmd 4 3 63 0 0 0 0) (fun t => (t.core 127).sreg 63 == 0x601) = true := by decide +kernel
theorem test_mxAbort : does .mxAbort { cr with mxq := [mi] } (cmd 4 4 0 0 0 0 0) (fun t => (t.core 127).mxStatus == 6 && (t.core 127).mxq.isEmpty && issued t) = true := by
  decide +kernel
theorem test_dmaQ : does .dmaQ cr (cmd 6 0x20 0 31 0 0 15) (fun t => (t.core 127).dmaq.length == 1 && issued t) = true ∧
    does .dmaWait { cr with tagStatus := [(7, 3)] } (cmd 6 0x21 63 1 0 0 0) (fun t => (t.core 127).sreg 63 == 3 && (t.core 127).tagStatus.get 0 7 == 0) = true := by
  decide +kernel
theorem test_snd : does .snd { cr with s := [(5, 0x77F)] } (cmd 6 0x28 0 31 5 0 0) (fun t => ((t.core 127).ports.get [] 7).length == 1 && issued t) = true ∧
    does .snd cr (cmd 6 0x28 0 31 5 0 0) (faulted 0x1B 6) = true := by decide +kernel
theorem test_rcv : does .rcv { cr with ports := [(7, [9])] } (cmd 6 0x29 31 0 0 7 0) (fun t => (t.core 127).vreg 31 == 9 && issued t) = true ∧
    does .rcv cr (cmd 6 0x29 31 0 0 7 0) (fun t => held 2 t && (t.core 127).rcvWait == some 7) = true ∧
    does .rcv { cr with rcvExpired := true } (cmd 6 0x29 31 0 0 7 0) (faulted 5 6) = true := by decide +kernel
theorem test_fences : does .fenceCore cr (cmd 7 1 0 0 0 0 0) (fun t => (t.core 127).fence == some .core && issued t) = true ∧
    does .fenceDevice cr (cmd 7 2 0 0 0 0 0) (fun t => (t.core 127).fence == some .device) = true ∧
    does .fencePod cr (cmd 7 3 0 0 0 0 0) (fun t => (t.core 127).fence == some .pod) = true ∧
    yes (exec (.fenceComplete 127) (here { cr with fence := some .pod })) (fun t => (t.core 127).fence.isNone) = true := by decide +kernel
theorem test_semSlots : does .semAcq cr (cmd 7 8 63 0 0 4095 0) (fun t => held 3 t && (t.sch.semIn.get [] 4095).length == 1) = true ∧
    does .semAcq { cr with semGrant := some 5 } (cmd 7 8 63 0 0 4095 0) (fun t => (t.core 127).sreg 63 == 5 && issued t) = true ∧
    does .semRel cr (cmd 7 9 0 0 0 4095 0) (fun t => (t.sch.semIn.get [] 4095).length == 1 && issued t) = true ∧
    does .semAcq cr (cmd 7 8 63 0 0 0 0) (faulted 0x65 7) = true := by decide +kernel
theorem test_bobSlots : does .bobFadd cr (cmd 7 0x10 63 1 0 1023 0) (fun t => (t.core 127).pend.length == 1 && (t.sch.bobIn.get [] 1023).length == 1) = true ∧
    does .bobWait cr (cmd 7 0x11 63 1 0 1023 0) (held 4) = true ∧
    does .bobWait { cr with bobGrant := some 0 } (cmd 7 0x11 63 1 0 1023 0) issued = true ∧
    does .bobFadd cr (cmd 7 0x10 63 1 0 0 0) (faulted 0x1C 7) = true := by decide +kernel
theorem test_icinv : does .icinv cr (cmd 7 0x20 0 0 0 0 0) (fun t => (t.core 127).icache.isEmpty && issued t) = true ∧
    does .halt { cr with mxStatus := 0x12 } (cmd 7 0x21 0 1 0 0 0) (fun t => (t.core 127).ending == some 0x12) = true ∧
    does .halt cr (cmd 7 0x21 0 1 0 0 0) (fun t => (t.core 127).ending == some 7) = true := by decide +kernel
theorem test_icacheMissFill : yes (exec (.icacheMissFill 127 false) (here { cr with icache := [], fetchMiss := some 3 }))
      (fun t => (t.core 127).icache == [5, 4, 3] && (t.core 127).fetchMiss.isNone) = true ∧
    yes (exec (.icacheMissFill 127 true) (here { cr with fetchMiss := some 3 })) (fun t => t.reg (R.CORE_SEQ_ICACHE_MISSES 127) == 1) = true := by
  decide +kernel
theorem test_predicate : decide ((here cr).Presents ⟨127, 6, true, ⟨0x29, 7, false, 31, 0, 0, 0, 7⟩⟩ 6 0x29) = true ∧
    State.guarded cr ⟨0x29, 7, false, 31, 0, 0, 0, 7⟩ = false ∧
    yes (exec (.rcv ⟨127, 6, true, ⟨0x29, 7, false, 31, 0, 0, 0, 7⟩⟩) (here cr)) issued = true ∧
    does .sfn cr (cmd 3 0x50 0 0 0 0 0) (faulted 0x18 3) = true ∧ slotDefined 3 0x50 = false := by decide +kernel

/-! Host queues and commands (R344 to R356). PF queue 63 of 64 entries holds its last entry; the rings are in host memory. -/

def q63 : QRef := ⟨.pf, 63⟩
def word64 (n : Nat) : List Byte := bytesOf n 8
/-- The queue with the descriptor of the given words at its head, and what lies at 0x8000 of host memory. -/
def rung (r : List (Nat × Nat)) (words : List Nat) (obj : List Byte) : State :=
  let s := regs ([(queueBase q63, 0x1000), (queueBase q63 + 8, 0x9000), (queueBase q63 + 0x10, 0x31), (queueBase q63 + 0x18, 63),
    (queueBase q63 + 0x20, 63)] ++ r)
  (s.putHostBytes 0x1FC0 (words.flatMap word64)).putHostBytes 0x8000 obj
def entryOf (s : State) : BitVec 512 := ((s.headEntry q63).map Prod.snd).getD 0
def recorded (st res : Nat) (t : State) : Bool := t.host.works.isEmpty &&
  natOfBytes (t.hostBytes 0x93F0 16) == 63 + st * 2 ^ 16 + res * 2 ^ 64 && t.reg (queueBase q63 + 0x18) == 0 && t.reg (queueBase q63 + 0x20) == 0
theorem test_hstQTail : yes (exec (.hstQTail .pf q63 63) (rung [] [] [])) (fun t => t.reg (queueBase q63 + 0x14) == 63) = true ∧
    yes (exec (.hstQTail .pf q63 64) (rung [] [] [])) (fun t => t.reg (queueBase q63 + 0x10) == 0x30 && t.reg (queueBase q63 + 0x1C) == 2) = true ∧
    (rung [] [] []).reach (.vf 7) (queueBase ⟨.inst 7, 63⟩ + 0x14) = true := by decide +kernel

def inst7 : List (Nat × Nat) := [(R.SCH_INST_STATE 7, 1), (R.SCH_INST_CORES 7, 0x8000), (R.SCH_INST_MEM 7, 0x80)]
/-- Core work of instance 7 and of a width whose program record lies in the last core's Pocket. -/
def coreEntry (width : Nat) : State := rung inst7 [1 + 7 * 2 ^ 16, 0, 0, 5, poc + width * 2 ^ 48, 0, 0, 0] []
theorem test_coreWork : (coreEntry 8).AtHead q63 1 63 (entryOf (coreEntry 8)) ∧ (coreEntry 8).dispatchStopped = false ∧
    (coreEntry 8).entryReserved q63 (entryOf (coreEntry 8)) = false ∧ (coreEntry 8).usableCores 7 = 8 ∧
    yes (exec (.coreWork q63) (coreEntry 8)) (fun t => t.host.works.map (fun w => (w.idx, w.inst)) == [(63, some 7)] && t.reg (queueBase q63 + 0x18) == 0) = true ∧
    yes (exec (.coreWork q63) (coreEntry 9)) (recorded 2 0) = true ∧
    yes (exec (.coreWork q63) (rung [] [5] [])) (recorded 1 0) = true := by decide +kernel
def recordEntry (op : Nat) : State := rung inst7 [2 + 3 * 2 ^ 8 + 2 ^ 12 + 7 * 2 ^ 16, 0x8000, 0, 0, 0, 0, 0, 0] (bytesOf op 1)
theorem test_engineRecord : (recordEntry 0x4A).AtHead q63 2 63 (entryOf (recordEntry 0x4A)) ∧
    (recordEntry 0x4A).entryReserved q63 (entryOf (recordEntry 0x4A)) = false ∧
    yes (exec (.engineRecord q63) (recordEntry 0x4A)) (fun t => (t.dmaList (.die 3)).map (fun it => dw it.desc 0 0 8) == [0x4A]) = true ∧
    yes (exec (.engineRecord q63) (recordEntry 0x44)) (recorded 1 0) = true := by decide +kernel
def wk (kind : Nat) : Work := ⟨0, q63, 63, none, 0, 0, kind, 0, false, none, 0⟩
def withWork (s : State) (w : Work) : State := { s with host := { s.host with works := [w], nextWork := 1 } }
theorem test_barrier : yes (exec (.barrier q63) (rung [] [4] [])) (recorded 0 0) = true ∧
    yes (exec (.barrier q63) (withWork (rung [] [] []) (wk 4))) (fun t => t.host.works.isEmpty) = true ∧
    yes (exec (.barrier q63) (withWork (rung [] [4] []) (wk 3))) (fun t => t.host.works.map (fun w => w.kind) == [3, 4]) = true := by decide +kernel

/-- A command block: opcode, device, key, instance, counter, body, tag of zeros. -/
def block (op dev key : Nat) (body : List Byte) : List Byte :=
  bytesOf op 2 ++ [BitVec.ofNat 8 dev, 0, BitVec.ofNat 8 key, 7, 0xFF, 0xFF] ++ bytesOf (2 ^ 64 - 1) 8 ++ bytesOf body.length 4 ++
  List.replicate 12 0 ++ body ++ List.replicate 8 0
def ordered (r : List (Nat × Nat)) (op key : Nat) (body : List Byte) : State :=
  let s := rung r [3 + 2 ^ 12, 0x8000, 0, 0, 0, 0, 0, 0] (block op 0 key body)
  { s with host := { s.host with flash := { s.host.flash with cmdKeys := [(0, 5), (3, 6)] } } }
def blockOf (s : State) : CmdBlock := (s.cmdBlockOf q63 (entryOf s)).2.1
/-- The command is one that R352 lets pass but for its tag. -/
def obeys (s : State) (op : Nat) : Bool :=
  decide (s.Orders q63 63 (entryOf s) (blockOf s) op) && decide ((s.cmdKey (blockOf s).keyId).isSome = true ∨ (blockOf s).keyId = 15) &&
  decide (s.lastCounter (blockOf s).keyId (blockOf s).sender = none ∧ s.host.counters.length < 256)
theorem test_powerCap : obeys (ordered [] 0x0301 3 (bytesOf 0x04B0 4)) 0x0301 = true ∧
    fieldAt (blockOf (ordered [] 0x0301 3 (bytesOf 0x04B0 4))).body 0 2 = 1200 ∧
    yes (exec (.powerCap q63) (ordered [] 0x0301 2 (bytesOf 0x04B0 4))) (fun t => recorded 0x71 0 t && t.reg R.HST_AUTH_FAILS == 1) = true ∧
    yes (exec (.powerCap q63) (ordered [] 0x0301 3 (bytesOf 0x04B0 8))) (recorded 2 0) = true := by decide +kernel
theorem test_commandChecks : yes (exec (.regRead q63) (ordered [] 0x0302 3 [])) (recorded 1 0) = true ∧
    yes (exec (.powerCap q63) (rung [] [3 + 2 ^ 12, 0x8000, 0, 0, 0, 0, 0, 0] (block 0x0301 63 3 (bytesOf 0x04B0 4)))) (recorded 0x74 0) = true ∧
    queueBase ⟨.inst 7, 63⟩ = 0x417FC0 := by decide +kernel
theorem test_regRead : obeys (ordered [(R.HST_BOOT_NONCE_LO, 77)] 0x0702 15 (bytesOf R.HST_BOOT_NONCE_LO 8)) 0x0702 = true ∧
    yes (exec (.regRead q63) (ordered [(R.HST_BOOT_NONCE_LO, 77)] 0x0702 15 (bytesOf R.HST_BOOT_NONCE_LO 8))) (recorded 0 77) = true := by decide +kernel
def counted (s : State) : State := { s with host := { s.host with counters := [(3, 0xFFFF, 9)] } }
theorem test_cmdStatus : obeys (counted (ordered [] 0x0703 15 [3, 0, 0xFF, 0xFF, 0, 0, 0, 0])) 0x0703 = true ∧
    yes (exec (.cmdStatus q63) (counted (ordered [] 0x0703 15 [3, 0, 0xFF, 0xFF, 0, 0, 0, 0]))) (recorded 0 9) = true := by decide +kernel
theorem test_keys : obeys (ordered [] 0x0201 15 (List.replicate 256 0)) 0x0201 = true ∧
    obeys (ordered [] 0x0202 3 ([0, 1] ++ List.replicate 46 0)) 0x0202 = true ∧ obeys (ordered [] 0x0203 3 ([0, 3] ++ List.replicate 6 0)) 0x0203 = true := by
  decide +kernel
theorem test_regWrite : obeys (ordered [] 0x0204 3 (word64 R.HST_TUNNEL_TIMEOUT ++ word64 5)) 0x0204 = true ∧
    yes (.next ((regs []).writeReg .thimble R.HST_TUNNEL_TIMEOUT 0x10005)) (fun t => t.reg R.HST_TUNNEL_TIMEOUT == 5) = true ∧
    obeys (ordered [] 0x0204 3 (word64 R.PWR_RESET ++ word64 1)) 0x0204 = true ∧
    obeys (ordered [] 0x0204 3 (word64 R.RAS_MAINT ++ word64 1)) 0x0204 = true := by decide +kernel
theorem test_images : obeys (ordered [] 0x0205 3 (word64 0 ++ bytesOf 64 4 ++ bytesOf 0 4)) 0x0205 = true ∧
    (ordered [] 0x0205 3 []).hbmOf 7 0x5400000000 64 = true ∧
    obeys (ordered [] 0x0401 3 (word64 0 ++ word64 64)) 0x0401 = true ∧ (ordered [] 0x0401 3 []).engineRead .thimble 0 64 = 0 := by decide +kernel
theorem test_hbmRepair : obeys (ordered [] 0x0402 3 (word64 0 ++ word64 1)) 0x0402 = true ∧
    obeys (ordered [(R.GLB_STATUS, 7)] 0x0402 3 (word64 0x5400000000 ++ word64 1)) 0x0402 = true ∧
    (ordered [(R.GLB_STATUS, 7)] 0x0402 3 []).region 0x5400000000 = .hbm 7 ∧ (ordered [(R.GLB_STATUS, 7)] 0x0402 3 []).modState = 7 := by decide +kernel
theorem test_sessions : obeys (ordered [] 0x0501 3 ([0xFF, 0x0F, 7, 95, 1] ++ List.replicate 59 0)) 0x0501 = true ∧
    obeys (ordered [] 0x0502 3 (word64 4095)) 0x0502 = true := by decide +kernel
theorem test_resume : obeys (ordered [] 0x0601 3 (word64 5 ++ List.replicate 40 0)) 0x0601 = true ∧
    obeys (ordered [] 0x0701 3 [8, 63, 63, 0, 0, 0, 0, 0]) 0x0701 = true ∧ (ordered [] 0x0701 3 []).queueSize ⟨.pf, 63⟩ = 64 := by decide +kernel
theorem test_logSeal : obeys (ordered [] 0x0801 3 (word64 0 ++ word64 224)) 0x0801 = true ∧
    (ordered [] 0x0801 3 []).checkRange .thimble 0 224 = 0 := by decide +kernel
theorem test_longCommands : obeys (ordered [] 0x0102 3 []) 0x0102 = true ∧ (ordered [] 0x0102 3 []).txns = [] ∧
    (withWork (rung [] [] []) (wk 3)).workRuns = false := by decide +kernel
def partBody : List Byte := List.replicate 528 0
theorem test_partition : (regs []).partAccepted partBody = true ∧ (regs []).partAccepted (List.replicate 16 0 ++ [1] ++ List.replicate 511 0) = false ∧
    obeys (ordered [] 0x0101 3 partBody) 0x0101 = true := by decide +kernel
def waits (cmd : LongCmd) : State :=
  let s := withWork (rung [(R.SCH_INST_STATE 7, 2), (queueBase q63 + 0x18, 0)] [] []) (wk 3)
  { s with host := { s.host with thm := some ⟨.queue q63 0, cmd⟩ }, msys := { s.msys with remap := some ⟨[], [], []⟩ } }
theorem test_maintenanceDrain : yes (exec (.maintenanceDrain false) (waits .maintEnter)) (fun t => recorded 0 0 t && t.modState == 7) = true ∧
    yes (exec (.maintenanceDrain true) ((waits .maintEnter).setCore 127 { Core.reset with mxq := [item 0] })) (recorded 0x93 0) = true := by decide +kernel
theorem test_longEnds : yes (exec (.instanceResetComplete 7) (waits (.reset 7))) (fun t => recorded 0 0 t && t.reg (R.SCH_INST_STATE 7) == 0) = true ∧
    yes (exec .partitionChangeComplete (waits (.partition []))) (fun t => recorded 0 0 t && t.msys.remap.isNone) = true := by decide +kernel
def programs : State := { regs [] with host := { HostState.reset with programming := some (image, true) } }
theorem test_imageProgramComplete : yes (exec (.imageProgramComplete true) programs)
      (fun t => t.host.programming.isNone && t.host.flash.imageB.isSome && t.fld R.PWR_IMAGE_B F.PWR_IMAGE_B_progress == 100) = true ∧
    yes (exec (.imageProgramComplete false) programs) (fun t => t.host.flash.imageB.isNone && t.reg R.PWR_IMAGE_B == 0) = true := by decide +kernel
/-- A gate that waits for device 37's answer, and the answer in one packet. -/
def answered (b : List Byte) : State :=
  let s := withWork (rung [(queueBase q63 + 0x18, 0)] [] []) (wk 3)
  { s with host := { s.host with tunnels := [⟨0, q63, 0, 37⟩], flash := { s.host.flash with cmdKeys := [(3, 6)] } },
           ingress := [⟨0, 4095, pkt 1 7 4 b⟩] }
theorem test_tunnelTimeout : yes (exec (.tunnelTimeout 0) (answered [])) (recorded 5 0) = true ∧
    yes (exec (.tunnelledCommandAnswer 0) (answered (State.tunnelAnswer 0 0 0x02D004B0))) (fun t => recorded 0 0x02D004B0 t && t.host.tunnels.isEmpty) = true := by
  decide +kernel
theorem test_tunnelledCommand : ((answered (State.tunnelRequest 0 (block 0x0301 0 3 (bytesOf 0x04B0 4)))).msgAt 0 4).isSome = true ∧
    (parseBlock (block 0x0301 0 3 (bytesOf 0x04B0 4))).2 = true ∧
    yes (exec (.tunnelledCommand 0) (answered (State.tunnelRequest 0 (block 0x0301 0 2 (bytesOf 0x04B0 4))))) (fun t => t.reg R.HST_AUTH_FAILS == 1) = true := by
  decide +kernel

/-! The training step (R262 to R286). Instance 7 on die 3; the Squall messages come back over the module's own link. -/

/-- Bytes of an update descriptor: optimiser, FP16 weights, FP32 gradients and moments, one element each in core 127's Pocket. -/
def updDesc (opt count : Nat) : Nat := fields [(0, 0, 0x30), (0, 8, opt), (0, 12, 1), (1, 0, poc + 0x100), (2, 0, poc + 0x200),
  (3, 0, poc + 0x300), (5, 0, count), (6, 0, 0x3F000000), (7, 0, 0x3F800000), (8, 32, 0x3F800000), (9, 0, 5), (11, 0, 1), (13, 0, 0xFFFF)]
def updItemOf (src : Nat) : DmaItem := ⟨3, narrow [(0, 0, 0x49), (1, 0, src), (6, 0, 0xFFFF)], some pair, o7, .tag 7, 0, 0, 0, [], none, 0⟩
/-- Instance 7 with its vote on, weight 4.0, gradient 1.0, moment 2.0, and an update item in core 127's DMA queue. -/
def upding (desc src : Nat) (v : VoteState) : State :=
  let s := ((regs (owned ++ [(R.SEAM_VOTE_CFG 7, 1)])).setCore 127 { Core.reset with dmaq := [updItemOf src] }).setVote 7 v
  (((s.putNat poc 128 desc).putNat (poc + 0x100) 2 0x4400).putNat (poc + 0x200) 4 0x3F800000).putNat (poc + 0x300) 4 0x40000000
def decided (c : Bool) : VoteState := { VoteState.reset with history := [⟨5, c, 0, 0x40000000, 0, 0⟩] }
def ends127 (st : Nat) (t : State) : Bool := (t.dmaList (.core 127)).map DmaItem.done == [some st]
theorem test_updateItem : yes (exec (.updateItem 3) (upding (updDesc 0 1) (poc + 1) (decided true))) (ends127 2) = true ∧
    yes (exec (.updateItem 3) (upding (updDesc 6 1) poc (decided true))) (ends127 2) = true ∧
    yes (exec (.updateItem 3) (upding (updDesc 0 1 + 1) poc (decided true))) (ends127 1) = true ∧
    yes (exec (.updateItem 3) (upding (updDesc 0 1) poc (decided false))) (ends127 0x31) = true ∧
    yes (exec (.updateItem 3) (upding (updDesc 0 1) poc { VoteState.reset with held := true })) (ends127 0x34) = true := by decide +kernel
theorem test_updateWaits : yes (exec (.updateItem 3) (upding (updDesc 0 1) poc VoteState.reset)) (fun t =>
      t.fld (R.MEM_UPD_STATUS 3) F.MEM_UPD_STATUS_waiting == 1 && ((upding (updDesc 0 1) poc VoteState.reset).lastDecided 7).isNone) = true ∧
    yes (exec (.updateItem 3) (upding (updDesc 0 1) poc (decided true))) (fun t => (t.updQ 3).map (fun y => y.applying) == [some 0x40000000]) = true ∧
    yes (exec (.updateItem 3) ((upding (updDesc 0 1) poc VoteState.reset).setReg (R.SEAM_STEP_DECIDED 7) 5)) (ends127 2) = true ∧
    yes (exec (.updateItem 3) ((upding (updDesc 0 1) poc VoteState.reset).setReg (R.SEAM_VOTE_CFG 7) 0)) (fun t =>
      (t.updQ 3).map (fun y => y.applying) == [some 0]) = true := by decide +kernel
def applies (opt : Nat) : State :=
  (upding (updDesc opt 1) poc (decided true)).setUpdQ 3 [⟨poc, o7, ⟨.core 127, 3⟩, false, some (BitVec.ofNat 1024 (updDesc opt 1)), some 0⟩]
-- R263, optimiser 0: m = 1 · 2 + 1 = 3, w = 4 - 0.5 · 3 = 2.5; optimiser 1: w = 4 - 0.5 · (1 + 3) = 2; optimiser 4: u = sign(2) = 1, w = 3.5
theorem test_updateApply : yes (exec (.updateApplyComplete 3) (applies 0)) (fun t => ends127 0 t && t.natAt (poc + 0x100) 2 == 0x4100 &&
      t.natAt (poc + 0x300) 4 == 0x40400000 && t.reg (R.MEM_UPD_ELEMENTS 3) == 1) = true ∧
    yes (exec (.updateApplyComplete 3) (applies 1)) (fun t => t.natAt (poc + 0x100) 2 == 0x4000) = true ∧
    yes (exec (.updateApplyComplete 3) (applies 4)) (fun t => t.natAt (poc + 0x100) 2 == 0x4300) = true := by decide +kernel

def voteItem7 (voted : Bool) : VoteItem := ⟨5, 0, 0xFFFF, o7, ⟨.core 127, 3⟩, 3, voted, []⟩
/-- Instance 7 with a SQUALL_VOTE item of step 5 in core 127's Seam queue of die 3. -/
def voting (cfg : Nat) (v : VoteState) (extra : Nat) : State :=
  let s := ((regs (owned ++ [(R.SEAM_VOTE_CFG 7, cfg)])).setCore 127 { Core.reset with dmaq :=
    [⟨3, narrow [(0, 0, 0x4A), (1, 0, poc), (2, 0, 3)], some pair, o7, .tag 7, 0, 0, 0, [], none, 0⟩] }).setVote 7 v
  s.putNat poc 64 (fields [(0, 0, 0x38), (0, 8, extra), (1, 0, 5), (3, 0, 0xFFFF)])
theorem test_squallVote : yes (exec (.squallVote 3) (voting 1 VoteState.reset 0)) (fun t => (t.vote 7).items == [voteItem7 false]) = true ∧
    yes (exec (.squallVote 3) (voting 1 VoteState.reset 1)) (ends127 2) = true ∧
    yes (exec (.squallVote 3) (voting 0 VoteState.reset 0)) (ends127 0) = true ∧
    yes (exec (.squallVote 3) (voting 1 { VoteState.reset with held := true } 0)) (ends127 0x34) = true := by decide +kernel
/-- A tray head of children 62 and 63, itself device 0. -/
def tray (l : List (Nat × Nat)) (v : VoteState) : State :=
  (regs (owned ++ [(R.SEAM_VOTE_CFG 7, 9), (R.SEAM_VOTE_CHILDREN 7, 3 * 2 ^ 62)] ++ l)).setVote 7 v
def asks : VoteState := { VoteState.reset with items := [voteItem7 false], gradSums := [(0, 0x3F800000, 0x40000000)] }
theorem test_voteFormation : yes (exec (.voteFormation 7) (tray [(R.CORE_ARR_STATUS 127, 2 ^ F.CORE_ARR_STATUS_selvage_step.lo)] asks)) (fun t =>
      (t.vote 7).opened.map (fun o => o.tray) == [[⟨0, false, 2, 0x3F800000, 0x40000000⟩]] && t.fld (R.SEAM_VOTE_STATUS 7) F.SEAM_VOTE_STATUS_state == 1 &&
      t.reg (R.CORE_ARR_STATUS 127) == 0) = true ∧
    yes (exec (.voteFormation 7) (tray [(R.MEM_LTF_STEP, 2 ^ 7)] asks)) (fun t =>
      (t.vote 7).opened.map (fun o => o.tray.map (fun r => r.causes)) == [[4]]) = true := by decide +kernel
def vrec (d : Nat) (causes : Nat) : VoteRec := ⟨d, causes == 0, causes, 0x3F800000, 0x40000000⟩
/-- A Squall message of instance 7 waiting on the module's own link, from pod 0's device `dev`. -/
def posted (s : State) (type step dev n body : Nat) (recs : List Byte) : State :=
  { s with localMsgs := [(7, 0, s.squallMsg 7 type step dev 0 n body recs)] }
def opened (t : List VoteRec) (m : List VoteRec) (p : List PodRec) : VoteState := { VoteState.reset with opened := [⟨5, t, m, p, false, false⟩] }
theorem test_trayTimerExpiry : yes (exec (.trayTimerExpiry 7 5) (tray [] (opened [vrec 62 0] [] []))) (fun t =>
      t.localMsgs.map (fun e => (smsgOf e.2.2).votes) == [[vrec 62 0, absentRec 63]] && (t.vote 7).opened.map (fun o => o.traySent) == [true]) = true := by decide +kernel
theorem test_voteMsg : yes (exec (.voteMsg (.loopback 0)) (posted (tray [] (opened [vrec 62 0] [] [])) 1 5 63 1 0 (State.voteRecBytes (vrec 63 2)))) (fun t =>
      (t.vote 7).opened.map (fun o => o.tray) == [[vrec 62 0, vrec 63 2]]) = true ∧
    yes (exec (.voteMsg (.loopback 0)) (posted (tray [] (opened [vrec 62 0] [] [])) 1 5 62 1 0 (State.voteRecBytes (vrec 62 2)))) (fun t =>
      t.reg (R.SEAM_DROPPED_RECORDS 7) == 1) = true := by decide +kernel
def holds5 (v : VoteState) : VoteState := { v with items := [voteItem7 true] }
theorem test_queryInterval : yes (exec (.queryInterval 7) (tray [] (holds5 VoteState.reset))) (fun t => t.reg (R.SEAM_QUERIES 7) == 1) = true ∧
    yes (exec (.decisionWait 7) (tray [(R.SEAM_VOTE_STATUS 7, 2 ^ 18)] (holds5 VoteState.reset))) (fun t => (t.vote 7).logged &&
      t.ras.intake.map (fun e => (e.entry.cls, e.entry.code, e.entry.value)) == [(1, 0x32, 5)]) = true := by decide +kernel
/-- The leader of a one-pod job of devices 0 and 63. -/
def leader (cfg : Nat) (l : List (Nat × Nat)) (v : VoteState) : State :=
  (regs (owned ++ [(R.SEAM_VOTE_CFG 7, cfg), (R.SEAM_VOTE_MEMBERS 7, 1 + 2 ^ 63)] ++ l)).setVote 7 v
theorem test_podDeadlineExpiry : yes (exec (.podDeadlineExpiry 7 5) (leader 7 [] (opened [] [vrec 0 0] []))) (fun t =>
      t.decisionOf 7 5 == some ⟨5, false, 8, 0x3F800000, 0x40000000, 0⟩ && (t.vote 7).skipCounts.get 0 63 == 1 &&
      t.reg (R.SEAM_LAST_CAUSES 7) == 2 ^ 63 && t.reg (R.SEAM_SKIPS 7) == 1) = true ∧
    yes (exec (.podDeadlineExpiry 7 5) (leader 7 [] { opened [] [vrec 0 0] [] with skipCounts := [(63, 2)] })) (fun t =>
      t.decisionOf 7 5 == some ⟨5, false, 72, 0x3F800000, 0x40000000, 0⟩ && (t.vote 7).held &&
      t.fld (R.SEAM_VOTE_STATUS 7) F.SEAM_VOTE_STATUS_fenced_device == 63) = true := by decide +kernel
theorem test_leaderVotes : yes (exec (.voteMsg (.loopback 0)) (posted (leader 7 [] (opened [] [vrec 0 0] [])) 1 5 63 1 0 (State.voteRecBytes (vrec 63 0)))) (fun t =>
      t.decisionOf 7 5 == some ⟨5, true, 0, 0x40000000, 0x40800000, 0⟩ && t.reg (R.SEAM_COMMITS 7) == 1 && t.reg (R.SEAM_STEP_DECIDED 7) == 5 &&
      t.reg (R.SEAM_GNS_SUMS 7) == 0x4000000040800000) = true ∧
    yes (exec (.voteMsg (.loopback 0)) (posted (leader 7 [(R.SEAM_NORM_BOUND 7, 0x40000000)] (opened [] [vrec 0 0] [])) 1 5 63 1 0 (State.voteRecBytes (vrec 63 0)))) (fun t =>
      t.decisionOf 7 5 == some ⟨5, false, 32, 0x40000000, 0x40800000, 0⟩) = true := by decide +kernel
theorem test_window : yes (exec (.voteMsg (.loopback 0)) (posted (leader 7 [] (opened [] [vrec 0 0] [])) 1 4 63 1 0 (State.voteRecBytes (vrec 63 0)))) (fun t =>
      t.reg (R.SEAM_LATE_VOTES 7) == 1) = true ∧
    yes (exec (.voteMsg (.loopback 0)) (posted (leader 7 [] (opened [] [vrec 0 0] [])) 1 7 63 1 0 (State.voteRecBytes (vrec 63 0)))) (fun t =>
      t.reg (R.SEAM_DROPPED_RECORDS 7) == 1) = true := by decide +kernel
def prec (p : Nat) (causes : Nat) : PodRec := ⟨p, causes == 0, causes, 0x3F800000, 0x40000000, 0⟩
theorem test_jobDeadlineExpiry : yes (exec (.jobDeadlineExpiry 7 5) (leader 3 [(R.SEAM_VOTE_PODS_LO 7, 3)] (opened [] [] [prec 0 0]))) (fun t =>
      t.decisionOf 7 5 == some ⟨5, false, 8, 0x3F800000, 0x40000000, 0⟩) = true := by decide +kernel
theorem test_podVoteMsg : yes (exec (.podVoteMsg (.loopback 0)) (posted (leader 3 [(R.SEAM_VOTE_PODS_HI 7, 2 ^ 63), (R.SEAM_VOTE_PODS_LO 7, 1)] (opened [] [] [prec 0 0]))
      2 5 0 1 0 (State.podRecBytes (prec 127 0)))) (fun t => t.decisionOf 7 5 == some ⟨5, true, 0, 0x40000000, 0x40800000, 0⟩) = true ∧
    yes (exec (.podVoteMsg (.loopback 0)) (posted (leader 3 [(R.SEAM_VOTE_PODS_LO 7, 7)] (opened [] [] [prec 0 0]))
      2 5 0 1 0 (State.podRecBytes (prec 2 0)))) (fun t => (t.vote 7).opened.map (fun o => o.pods) == [[prec 0 0, prec 2 0]]) = true := by decide +kernel
theorem test_decisionMsg : yes (exec (.decisionMsg (.loopback 0)) (posted (tray [] (holds5 VoteState.reset)) 3 5 0 1 (1 + 0x40000000 * 2 ^ 32)
      (State.voteRecBytes (vrec 0 0)))) (fun t => t.decisionOf 7 5 == some ⟨5, true, 0, 0x40000000, 0x40000000, 0⟩ && (t.vote 7).items.isEmpty) = true ∧
    yes (exec (.decisionMsg (.loopback 0)) (posted (tray [] (decided true)) 3 5 0 0 0 [])) (fun t => t == tray [] (decided true)) = true := by decide +kernel
theorem test_queryMsg : yes (exec (.queryMsg (.loopback 0)) (posted (tray [] (decided true)) 4 5 0 0 0 [])) (fun t =>
      t.localMsgs.map (fun e => ((smsgOf e.2.2).type, (smsgOf e.2.2).body)) == [(3, 1 + 0x40000000 * 2 ^ 32)]) = true ∧
    yes (exec (.queryMsg (.loopback 0)) (posted (leader 7 [] VoteState.reset) 4 5 0 0 0 [])) (fun t => t == leader 7 [] VoteState.reset) = true ∧
    yes (exec (.queryMsg (.loopback 0)) (posted (tray [] VoteState.reset) 4 5 62 0 0 [])) (fun t => (t.vote 7).queried == [(5, 62)]) = true := by decide +kernel
def timed (a : List (Nat × Nat)) : VoteState := { VoteState.reset with applyTimer := [5], applied := a }
theorem test_appliedMsg : yes (exec (.appliedMsg (.loopback 0)) (posted (leader 7 [] (timed [(5, 0)])) 5 5 63 0 0 [])) (fun t =>
      t.reg (R.SEAM_STEP_COMMITTED 7) == 5 && (t.vote 7).applyTimer.isEmpty) = true ∧
    yes (exec (.appliedMsg (.loopback 0)) (posted (leader 7 [] (timed [])) 5 5 63 0 0 [])) (fun t => (t.vote 7).applied == [(5, 63)]) = true ∧
    yes (exec (.appliedMsg (.loopback 0)) (posted (leader 7 [] (timed [(5, 0)])) 5 5 63 0 1 [])) (fun t => (t.vote 7).held && !(t.vote 7).fenced) = true := by decide +kernel
theorem test_stepDoneMsg : yes (exec (.stepDoneMsg (.loopback 0)) (posted (tray [] VoteState.reset) 6 5 0 0 0 [])) (fun t => t.reg (R.SEAM_STEP_COMMITTED 7) == 5) = true ∧
    yes (exec (.fenceMsg (.loopback 0)) (posted (tray [] VoteState.reset) 7 5 0 1 0 (State.podRecBytes ⟨0, false, 64, 0, 0, 1⟩))) (fun t =>
      (t.vote 7).held && t.fld (R.SEAM_VOTE_STATUS 7) F.SEAM_VOTE_STATUS_state == 5) = true := by decide +kernel
theorem test_applyLate : yes (exec (.applyLate 7 5) (leader 7 [] (timed [(5, 0)]))) (fun t => (t.vote 7).held &&
      t.fld (R.SEAM_VOTE_STATUS 7) F.SEAM_VOTE_STATUS_fenced_device == 63 && t.reg (R.SEAM_STEP_COMMITTED 7) == -1) = true := by decide +kernel

/-! Seam collectives (R287 to R305). Instance 7's engine is die 3's; its group 15 has dies 2 and 3 (or die 3) and one module (or two). -/

def grpRecord (mask trays rank : Nat) : List Byte :=
  bytesOf (fields [(0, 0, mask), (0, 8, 3), (0, 16, trays), (0, 24, rank), (0, 32, 1), (0, 48, 1), (10, 0, 0), (10, 32, 0)]) 64 ++
  List.replicate 12 0 ++ bytesOf 9 4 ++ List.replicate 12 0 ++ bytesOf 9 4 ++ List.replicate 4000 0
def seamItem7 (started : Bool) : SeamItem :=
  ⟨3, hbm7, o7, ⟨.core 127, 3⟩, none, 0, started, 0, false, [], [], [], [], [], [], 0, 0, none⟩
/-- The engine's queue holds an item whose descriptor has the given fields; the group record is loaded. -/
def seamState (rec' : List Byte) (desc : List (Nat × Nat × Nat)) (q : List SeamItem) : State :=
  let s := (regs (owned ++ [(R.SEAM_GRP_BASE 7 15, 2 ^ 48)])).setCore 127 { Core.reset with dmaq :=
    [⟨3, narrow [(0, 0, 0x4A), (1, 0, hbm7), (2, 0, 3)], some pair, o7, .tag 7, 2, 0, 0, [], none, 0⟩] }
  { s.putNat hbm7 128 (fields desc) with seamGroups := [(16 * 7 + 15, rec')], seam := if q.isEmpty then [] else [(3, q)] }
def coll (c : Nat) (l : List (Nat × Nat × Nat)) : List (Nat × Nat × Nat) :=
  [(0, 0, 0x32), (0, 8, c), (0, 24, 15), (3, 0, hbm7 + 0x1000), (4, 0, hbm7 + 0x2000), (8, 0, hbm7 + 0x3000), (9, 0, 8), (13, 0, 0x20000), (15, 0, 0xFFFF)] ++ l
def ran (c : Nat) (l : List (Nat × Nat × Nat)) : State :=
  ((seamState (grpRecord 12 1 0) (coll c l) [seamItem7 false]).putNat (hbm7 + 0x1000) 8 0x400000003F800000).putNat (hbm7 + 0x2000) 8 0x4040000040400000
def ended7 (st : Nat) (t : State) : Bool := (t.seamQ 3).isEmpty && t.fld (R.SEAM_ENG_STATUS 3) F.SEAM_ENG_STATUS_last_status == st
-- R296: 1 + 3 = 4 and 2 + 3 = 5; the whole of 8 bytes is one block, which die rank 1 owns
theorem test_seamGroup : (grpOf (grpRecord 12 1 0)).map (fun g => (g.dies, g.home, g.sizes)) = some ([2, 3], 3, (1, 1, 1)) ∧
    (grpOf (grpRecord 8 2 1)).map (fun g => (g.sess 1 0 3, g.own 1)) = some (9, 1) ∧ grpOf (grpRecord 12 2 2) = none := by decide +kernel
theorem test_allReduce : yes (exec (.allReduce 3) (ran 0 [])) (fun t => ended7 0 t && t.natAt (hbm7 + 0x3000) 8 == 0x40A0000040800000 &&
      t.reg (R.SEAM_GRP_CALL 7 15) == 1 && (t.dmaList (.core 127)).map DmaItem.done == [some 0]) = true := by decide +kernel
theorem test_allReduceMax : yes (exec (.allReduce 3) (ran 0 [(0, 11, 1), (0, 16, 4)])) (fun t => t.natAt (hbm7 + 0x3000) 8 == 0x4040000040400000) = true := by
  decide +kernel
theorem test_reduceScatter : yes (exec (.reduceScatter 3) (ran 1 [])) (fun t => ended7 0 t && t.natAt (hbm7 + 0x3000) 8 == 0x40A0000040800000) = true := by
  decide +kernel
theorem test_allGather : yes (exec (.allGather 3) (ran 2 [])) (fun t => ended7 0 t && t.natAt (hbm7 + 0x3000) 8 == 0x4040000040400000) = true := by decide +kernel
theorem test_broadcast : yes (exec (.broadcast 3) (ran 3 [(1, 0, hbm7 + 0x1000)])) (fun t => ended7 0 t &&
      t.natAt (hbm7 + 0x3000) 8 == 0x400000003F800000) = true ∧
    yes (exec (.broadcast 3) (ran 3 [(10, 0, 1)])) (fun t => ended7 2 t && t.reg (R.SEAM_GRP_CALL 7 15) == 1) = true := by decide +kernel
def exchange : List (Nat × Nat × Nat) :=
  [(0, 0, 0x32), (0, 8, 4), (0, 24, 15), (1, 0, hbm7 + 0x1000), (5, 0, hbm7 + 0x3000), (9, 0, 256), (15, 0, 0xFFFF)]
theorem test_allToAll : (List.range 4).filter (fun k => SeamDesc.dst (wide exchange) k != 0) = [0] ∧
    yes (exec (.allToAll 3) ((seamState (grpRecord 12 1 0) exchange [seamItem7 false]).putNat (hbm7 + 0x10FF) 1 9)) (fun t =>
      ended7 0 t && t.byteAt (hbm7 + 0x30FF) == 9) = true := by decide +kernel
def permFields (n : Nat) : Nat := fields [(0, 0, hbm7 + 0x1000), (1, 0, 8), (2, 0, hbm7 + 0x1004), (2, 61, 1), (3, 0, n)]
def permutes (n : Nat) : State := ((ran 5 [(10, 32, 2), (11, 0, hbm7 + 0x400), (12, 0, hbm7 + 0x800)]).putNat (hbm7 + 0x400) 32 (permFields n))
theorem test_permute : yes (exec (.permute 3) (permutes 8)) (fun t => ended7 0 t && t.natAt (hbm7 + 0x1004) 8 == 0x400000003F800000 &&
      t.natAt (hbm7 + 0x800) 8 == 0x400000003F800000) = true ∧
    yes (exec (.permute 3) (permutes 7)) (ended7 0x33) = true := by decide +kernel
theorem test_seamRefused : yes (exec (.allReduce 3) (ran 0 [(0, 13, 1)])) (ended7 2) = true ∧
    yes (exec (.allReduce 3) { ran 0 [] with seam := [(3, [{ seamItem7 false with src := hbm7 + 1 }])] }) (ended7 2) = true ∧
    yes (exec (.allReduce 3) (ran 0 [(0, 0, 1)])) (ended7 1) = true ∧
    yes (exec (.allReduce 3) { ran 0 [] with seamGroups := [] }) (ended7 2) = true := by decide +kernel
def waits7 (src : Nat) (q : List SeamItem) : State :=
  (seamState (grpRecord 12 1 0) (coll 0 []) q).setCore 127 { Core.reset with dmaq :=
    [⟨4, narrow [(0, 0, 0x4A), (1, 0, src), (2, 0, 3)], some pair, o7, .tag 7, 0, 0, 0, [], none, 0⟩] }
def running (c : Nat) (l : List (Nat × Nat × Nat)) : SeamItem := { seamItem7 true with desc := some (wide (coll c l)) }
theorem test_seamItem : yes (exec (.seamItem 3) (waits7 (hbm7 + 1) [])) (fun t => ended7 2 t && (t.dmaList (.core 127)).map DmaItem.done == [some 2]) = true ∧
    yes (exec (.seamItem 3) (waits7 hbm7 [running 0 []])) (fun t => (t.seamQ 3).map (fun z => (z.id, z.started)) == [(3, true), (4, false)]) = true := by decide +kernel

/-- A Seam message for call 0 from tray rank 0, over session 9 of instance 7, in one packet. -/
def seamMsg (c type stage bytes arg : Nat) (data : List Byte) : List Byte :=
  bytesOf (fields [(0, 0, 15), (0, 4, 7), (0, 8, type), (0, 16, stage), (0, 19, c), (0, 61, 3), (2, 0, bytes), (3, 0, arg)]) 32 ++ data
def gets (s : State) (b : List Byte) : State :=
  { s with ingress := [⟨0, 9, { pkt 1 7 1 b with vc := 1 }⟩], sessions := [(9, { Session.reset with created := true, inst := 7, state := .opened })] }
/-- A reduce-scatter of die 3 over two modules, in the tray stage; this module is rank 1 and holds 2.0. -/
def trayRuns : SeamItem := { seamItem7 true with
  stage := 1, opened := true, work := [(0, List.replicate 256 0 ++ [0, 0, 0, 0x40])], given := [(seamKey 1 0 3, 1)], desc := some (wide [(0, 0, 0x32), (0, 8, 1), (0, 24, 15), (8, 0, hbm7 + 0x3000), (9, 0, 260), (15, 0, 0xFFFF)]) }
def receives (b : List Byte) : State := gets (seamState (grpRecord 8 2 1) [] [trayRuns]) b
theorem test_dataMsg : yes (exec (.dataMsg 0) (receives (seamMsg 1 1 1 260 0 [0, 0, 0x80, 0x3F]))) (fun t => ended7 0 t &&
      t.natAt (hbm7 + 0x3000) 4 == 0x40400000) = true ∧
    yes (exec (.dataMsg 0) (receives (seamMsg 1 1 1 256 0 [0, 0, 0x80, 0x3F]))) (ended7 0x33) = true ∧
    yes (exec (.dataMsg 0) (receives (seamMsg 0 1 1 260 0 [0, 0, 0x80, 0x3F]))) (ended7 0x35) = true := by decide +kernel
theorem test_grantMsg : yes (exec (.grantMsg 0) { receives (seamMsg 1 2 1 260 2 []) with seam := [] }) (fun t =>
      t.seamNotes == [⟨7, 15, 0, 1, 0, 3, 2, none⟩]) = true := by decide +kernel
theorem test_abortMsg : yes (exec (.abortMsg 0) (receives (seamMsg 1 3 1 260 0x35 []))) (ended7 0x35) = true ∧
    yes (exec (.abortMsg 0) { (receives (seamMsg 1 3 1 260 0x35 [])).setReg (R.SEAM_GRP_CALL 7 15) 1 with seam := [] }) (fun t =>
      t.reg (R.SEAM_ENG_ABORTS 3) == 1) = true ∧
    yes (exec (.abortMsg 0) { receives (seamMsg 1 3 1 260 0x35 []) with seam := [] }) (fun t => t.seamNotes.map (fun n => n.abort) == [some 0x35]) = true := by
  decide +kernel
theorem test_seamPeerTimeout : yes (exec (.seamPeerTimeout 3 0) (seamState (grpRecord 8 2 1) [] [trayRuns])) (ended7 0x36) = true := by decide +kernel
theorem test_groupEnable : yes (exec (.groupEnable (.vf 7) 7 15 (2 ^ 48 + 5)) (regs owned)) (fun t => t.reg (R.SEAM_GRP_BASE 7 15) == 5) = false ∧
    yes (exec (.groupEnable .pf 7 15 5) (regs owned)) (fun t => t.reg (R.SEAM_GRP_BASE 7 15) == 5) = true ∧
    (regs owned).engineRead (.inst 7) hbm7 4096 = 0 ∧ (regs owned).reach .pf (R.SEAM_GRP_BASE 7 15) = true := by decide +kernel

/-! Fabric ports and the Buinby transport (R308 to R335). Logical port 92 of die 3, session 4095 of instance 7. -/

def frame (p : Pkt) : Frame := ⟨92, true, true, true, true, 0x4A42, 9, 0xC000 + 4094, false, 0, 0, .buinby { p with dstSess := 4095 }⟩
def write1 : Pkt := { pkt 1 1 0 [7, 8] with addr := hbm7 }
def strangers (f : Frame) (x : Session) : Bool := yes (exec (.frameReceive f) (linked [] x)) (fun t => t.reg (R.FAB_LP_STRANGER_DROP 92) == 1)
theorem test_frameReceive : yes (exec (.frameReceive { frame write1 with fcsOk := false }) (linked [] opened7)) (fun t => t.reg (R.FAB_LP_RX_ERRORS 92) == 1) = true ∧
    strangers { frame write1 with plain := false } opened7 = true ∧ strangers { frame write1 with udpPort := 319 } opened7 = true ∧
    strangers { frame write1 with srcPort := 0xC000 } opened7 = true ∧ strangers (frame write1) { opened7 with state := .listen } = true ∧
    strangers (frame (pkt 10 1 0 [])) opened7 = true ∧ (linked [] opened7).lpUp 92 = true ∧ (linked [] opened7).lpUp 93 = false := by decide +kernel
theorem test_frameAccept : (linked [] opened7).strange (frame write1) { write1 with dstSess := 4095 } = false ∧ (linked [] opened7).ingressFits 92 write1 = true ∧
    yes (.next ((linked [] opened7).acceptPkt 92 4095 write1 false)) (fun t => t.ingress == [⟨92, 4095, write1⟩]) = true ∧
    yes (.next ((linked [] { opened7 with rxCum := 1 }).acceptPkt 92 4095 write1 false)) (fun t =>
      t.reg (R.FAB_LP_DUPLICATES 92) == 1 && (t.sess 4095).control.map (fun y => y.type) == [3]) = true ∧
    yes (.next ((linked [] opened7).acceptPkt 92 4095 { write1 with seq := 4096 } false)) (fun t => t.ingress.isEmpty) = true ∧
    yes (.next ((linked [] { opened7 with peerGen := 1 }).acceptPkt 92 4095 write1 false)) (fun t => t.reg (R.FAB_LP_STALE 92) == 1) = true ∧
    yes (.next ((linked [] opened7).acceptPkt 92 4095 (pkt 1 7 5 []) false)) (fun t => (t.sess 4095).control.any (fun y => y.type == 4)) = true := by decide +kernel

def arrives (x : Session) (p : Pkt) : State := { linked [] x with ingress := [⟨92, 4095, p⟩] }
def naks (st : Nat) (t : State) : Bool := (t.sess 4095).control.any (fun y => y.type == 4 && y.payload == State.nakPayload 0 0 st)
theorem test_writeMsg : yes (exec (.writeMsg 0) (arrives opened7 write1)) (fun t => t.bytesAt hbm7 3 == [7, 8, 0] && (t.sess 4095).rxCum == 1) = true ∧
    yes (exec (.writeMsg 0) (arrives opened7 { write1 with addr := 0x17FFFFFFFFF })) (naks 0x71) = true ∧
    yes (exec (.writeMsg 0) (arrives opened7 { write1 with addr := 0x6000000000 })) (naks 0x03) = true ∧
    yes (exec (.writeMsg 0) ((arrives opened7 write1).setReg (R.SCH_INST_STATE 7) (1 + 2 ^ F.SCH_INST_STATE_generation.lo))) (naks 0x63) = true ∧
    yes (exec (.writeMsg 0) (arrives opened7 { write1 with ord := true, seq := 1 })) (fun t => t == arrives opened7 { write1 with ord := true, seq := 1 }) = true := by
  decide +kernel
theorem test_readMsg : yes (exec (.readMsg 0) ((arrives opened7 { pkt 1 2 0 (bytesOf 3 4) with addr := hbm7, txn := 6 }).putNat hbm7 4 0x04030201)) (fun t =>
      (t.sess 4095).queue.map (fun q => (q.pkt.type, q.pkt.txn, q.pkt.payload)) == [(2, 6, [1, 2, 3])]) = true ∧
    yes (exec (.readMsg 0) (((arrives opened7 { pkt 1 2 0 (bytesOf 3 4) with addr := hbm7 }).setReg (R.MEM_UPD_WIN_BASE 7 7) (BitVec.ofNat 64 hbm7)).setReg
      (R.MEM_UPD_WIN_LIMIT 7 7) (BitVec.ofNat 64 hbm7))) (fun t => (t.sess 4095).queue.length == 1) = true := by decide +kernel
def sums (op sub v : Nat) : Pkt := { pkt 1 op sub (bytesOf v 4) with addr := hbm7 }
def sumState (p : Pkt) : State := (arrives opened7 p).putNat hbm7 4 0xFFFFFFFF
theorem test_remoteSums : yes (exec (.addMsg 0) (sumState (sums 4 4 3))) (fun t => t.natAt hbm7 5 == 2) = true ∧
    yes (exec (.maxMsg 0) (sumState (sums 5 4 3))) (fun t => t.natAt hbm7 4 == 3) = true ∧
    yes (exec (.minMsg 0) (sumState (sums 6 4 3))) (fun t => t.natAt hbm7 4 == 0xFFFFFFFF) = true := by decide +kernel
def reading (n : Nat) : State := { arrives opened7 { pkt 2 3 0 [5] with txn := 6 } with
  txns := [⟨6, 4095, 3, 2, 2, hbm7, .plain, none, 0, 1, true, 0, n, 0, []⟩] }
theorem test_readDataMsg : yes (exec (.readDataMsg 0) (reading 1)) (fun t => t.txns.isEmpty) = true ∧
    yes (exec (.readDataMsg 0) (reading 2)) (fun t => t.txns.map (fun z => z.readData) == [[(0, 5)]]) = true := by decide +kernel

-- The session keys and tags are opaque functions (R320, R322): these tests stop short of them.
theorem test_openMsg : (arrives { opened7 with state := .listen } (pkt 5 0 0 (bytesOf 9 8))).txns = [] ∧ opened7.port < 96 ∧
    yes (exec (.openAckMsg 0) (arrives opened7 (pkt 6 0 0 (bytesOf 9 8)))) (fun t => t.sess 4095 == opened7) = true := by decide +kernel
theorem test_closeMsg : yes (exec (.closeMsg 0) (arrives { opened7 with lastAccepted := some 3 } (pkt 7 0 0 []))) (fun t =>
      t.sess 4095 == { Session.reset with lastAccepted := some 3 }) = true ∧
    yes (exec (.genNoticeMsg 0) (arrives opened7 (pkt 8 0 0 [5, 1]))) (fun t => (t.sess 4095).peerGen == 0x105 && (t.sess 4095).control.length == 1) = true ∧
    yes (exec (.probeMsg 0) (arrives { opened7 with rxCum := 3, rxSeen := [5, 6, 9] } (pkt 9 0 0 []))) (fun t =>
      (t.sess 4095).control.map (fun y => y.payload) == [[3, 0, 0, 0, 0, 0, 2, 0, 2, 0, 6, 0, 1, 0, 0, 0, 0, 0]]) = true := by decide +kernel
def flying (n : Nat) : Session := { opened7 with unacked := [⟨{ write1 with seq := n }, none, none, 0, false⟩], txSeq := n + 1, missRun := 5 }
theorem test_ackMsg : yes (exec (.ackMsg 0) (arrives (flying 8) (pkt 3 0 0 (bytesOf 9 6 ++ bytesOf 0 4)))) (fun t =>
      (t.sess 4095).unacked.isEmpty && (t.sess 4095).missRun == 0 && (t.sess 4095).periodAcked == 88) = true ∧
    yes (exec (.nakMsg 0) (arrives (flying 8) (pkt 4 0 0 (State.nakPayload 8 0 0x64)))) (fun t => (t.sess 4095).unacked.isEmpty) = true ∧
    yes (exec (.ackMsg 0) (arrives (flying 8) (pkt 3 0 0 (bytesOf 8 6 ++ bytesOf 0 4)))) (fun t => (t.sess 4095).unacked.length == 1) = true := by decide +kernel
theorem test_ackDelay : yes (exec (.ackDelay 4095) (linked [] { opened7 with unackedRx := 1 })) (fun t => (t.sess 4095).control.length == 1) = true ∧
    yes (exec (.ackDelay 4095) (linked [] opened7)) (fun t => t == linked [] opened7) = true := by decide +kernel
theorem test_ackDeadline : (linked [] opened7).retryLimit = 7 ∧
    yes (exec (.ackDeadline 4095 8) (linked [] { flying 8 with missRun := 6 })) (fun t => (t.sess 4095).state == .failed && (t.sess 4095).deadlines == 1) = true := by
  decide +kernel
theorem test_openTimers : yes (exec (.openingTimeout 4095) (linked [] { opened7 with state := .opening })) (fun t => (t.sess 4095).state == .failed) = true ∧
    yes (exec (.failedReopen 4095 0) (linked [] { opened7 with state := .failed, responder := true })) (fun t => (t.sess 4095).state == .listen) = true ∧
    yes (exec (.failedReopen 4095 7) (linked [] { opened7 with state := .failed })) (fun t => (t.sess 4095).waitsEpoch && (t.sess 4095).ownNonce == 7 &&
      t.fab.epochWrites == [(0, 65536)]) = true ∧
    yes (exec (.epochCounterWrite 15) { linked [] opened7 with fab := { FabState.reset with epochWrites := [(15, 65536)] } }) (fun t =>
      t.host.flash.epochs.get 0 15 == 65536 && t.fab.epochWrites.isEmpty) = true := by decide +kernel
-- R329: 512 doubles to 1,024; after the first congestion it grows by 4,096/32; half of the bytes marked takes a quarter off; a miss takes an eighth.
theorem test_ratePeriod : nextRate opened7 32 = 1024 ∧ nextRate { opened7 with doubling := false } 32 = 640 ∧
    nextRate { opened7 with periodAcked := 100, periodCe := 50 } 32 = 384 ∧ nextRate { opened7 with periodMiss := true } 32 = 448 ∧
    nextRate { opened7 with rate := 4096 } 32 = 4096 ∧ nextRate { opened7 with rate := 4, periodMiss := true } 32 = 4 ∧
    yes (exec (.ratePeriod 4095) (linked [] opened7)) (fun t => (t.sess 4095).rate == 1024) = true ∧
    yes (exec (.sessionIdle 4095) (linked [] { opened7 with rate := 9 })) (fun t => (t.sess 4095).rate == 512) = true := by decide +kernel
def txn (op : Nat) (b : List Byte) : TxnReq := ⟨4095, 2, op, 0, hbm7, 0, b, false, none, 3⟩
theorem test_transaction : yes (exec (.transaction (txn 1 [4, 5])) (linked [] { opened7 with state := .listen })) (fun t =>
      (t.sess 4095).queue.map (fun e => (e.pkt.payload, e.pkt.last)) == [([4, 5], true)] && t.fld (R.FAB_TXN_INUSE 3) F.FAB_TXN_INUSE_in_use == 1) = true ∧
    yes (exec (.transaction (txn 1 [4, 5])) (linked [] { opened7 with state := .failed })) (fun t => t.txns.isEmpty) = true := by decide +kernel
def entry3 : Txn := ⟨6, 4095, 3, 2, 2, 0, .plain, none, 0, 1, true, 0, 0, 0, []⟩
theorem test_transactionFull : ((List.replicate 32768 entry3).filter (fun y => y.die == (txn 1 []).die)).length = 32768 := by
  have h : (entry3.die == (txn 1 []).die) = true := rfl
  rw [List.filter_replicate, if_pos h, List.length_replicate]
theorem test_packetSchedule : (linked [] { opened7 with control := [write1] }).channel0 92 = some (4095, none) ∧
    (linked [] { opened7 with queue := [⟨write1, none, none, 0, false⟩] }).channel0 92 = some (4095, some ⟨write1, none, none, 0, false⟩) ∧
    yes (exec (.packetSchedule 92) (linked [] opened7)) (fun t => t == linked [] opened7) = true := by decide +kernel
theorem test_ports : yes (exec (.portDown 92) (linked [] opened7)) (fun t => !t.lpUp 92) = true ∧
    yes (exec (.portRetrain (2 ^ 88 + 2 ^ 89)) (linked [] opened7)) (fun t => t.lpUp 88 && !t.lpUp 89 && t.lpUp 92) = true ∧
    yes (exec .fabRefclkLoss (linked [] opened7)) (fun t => !t.lpUp 92) = true ∧
    yes (exec .gratuitousArp (linked [] opened7)) (fun t => t.fab.announced == 1) = true ∧
    yes (exec .ptpSyncInterval (linked [] opened7)) (fun t => t.fab.ptpSent == 1) = true := by decide +kernel
def timing : List (Nat × Nat) := [(R.FAB_PTP_CFG, 92 * 2 ^ F.FAB_PTP_CFG_timing_port.lo + 7 * 2 ^ F.FAB_PTP_CFG_log_sync.lo), (R.POD_TIME, 100)]
def locked : State := { linked timing opened7 with fab := { FabState.reset with everLocked := true } }
theorem test_ptpMessage : yes (exec (.ptpMessage 92 ⟨true, 5000, -7⟩) (linked timing opened7)) (fun t => t.reg R.POD_TIME == 5000 && t.fab.everLocked) = true ∧
    yes (exec (.ptpMessage 92 ⟨false, 5000, -7⟩) (linked timing opened7)) (fun t => t.reg R.POD_TIME == 100 && t.reg (R.FAB_LP_STRANGER_DROP 92) == 1) = true ∧
    yes (exec (.ptpMessage 92 ⟨true, 5000, -7⟩) locked) (fun t => t.reg R.POD_TIME == 107) = true ∧
    yes (exec (.ptpMessage 92 ⟨true, 5000, 7⟩) locked) (fun t => t.reg R.POD_TIME == 100) = true := by decide +kernel

/-! Media ingest (R360 to R387). Stream 31 and the ring of instance 7; the bytes of a record and of an archive member are written out from R363
and R365. -/

def strm7 (kind : Nat) : Nat × Nat := (R.ING_STRM_CFG 31, 1 + kind * 2 + 7 * 8)
def ringOn (tail : Nat) : List (Nat × Nat) :=
  [(R.ING_RING_CFG 7, 1 + 4 * 2 ^ F.ING_RING_CFG_size_log2.lo + 9 * 2 ^ 8), (R.ING_RING_TAIL 7, tail), (R.ING_RING_BASE 7, 0x4000), (R.ING_RING_CPL_BASE 7, 0x5000)]
def pool63 : List (Nat × Nat) := [(R.SCH_POOL_CFG 63, 7 + 8 + 2 * 256), (R.SCH_POOL_SLOT 63, 0x1000), (R.SCH_POOL_BASE 63, hbm7)]
def jobDesc (cont strict len : Nat) : List (Nat × Nat × Nat) :=
  [(0, 0, 0x50), (0, 10, cont), (0, 12, strict), (0, 16, 31), (1, 0, 0x2000), (2, 0, len), (4, 0, 63), (7, 0, 0xFFFF)]
def ingest (l : List (Nat × Nat)) : State := regs (owned ++ ringOn 1 ++ pool63 ++ [strm7 0] ++ l)
def ringed (d : List (Nat × Nat × Nat)) : State := (ingest []).putHostBytes 0x4000 (bytesOf (fields d) 128)
theorem test_ingRingTail : yes (exec (.ingRingTail .pf 7 15) (ingest [])) (fun t => t.fld (R.ING_RING_TAIL 7) F.ING_RING_TAIL_tail == 15) = true ∧
    yes (exec (.ingRingTail .pf 7 16) (ingest [])) (fun t => t.fld (R.ING_RING_CFG 7) F.ING_RING_CFG_enable == 0 &&
      t.fld (R.ING_RING_STATUS 7) F.ING_RING_STATUS_error == 2) = true ∧
    yes (exec (.ingRingTail (.vf 7) 7 15) (ingest [])) (fun t => t.reg (R.ING_RING_TAIL 7) == 1 && t.reg R.SCH_FIREWALL_DENIED == 1) = true := by decide +kernel
theorem test_ingestJob : yes (exec (.ingestJob 7) (ringed (jobDesc 1 0 40))) (fun t => t.media.jobs.map (fun b => (b.stream, b.running, b.pos)) == [(31, true, 0)] &&
      t.fld (R.ING_RING_HEAD 7) F.ING_RING_HEAD_head == 1) = true ∧
    yes (exec (.ingestJob 7) (ringed (jobDesc 3 0 40))) (fun t => t.media.jobs.isEmpty && t.hostBytes 0x5000 3 == [0, 0, 2] && t.host.irqs == [(0, 9)]) = true ∧
    yes (exec (.ingestJob 7) (ringed [])) (fun t => t.hostBytes 0x5000 3 == [0, 0, 1]) = true ∧
    yes (exec (.ingestJob 7) { ringed [] with regs := (regs [(R.ING_RING_TAIL 7, 1)]).regs }) (fun t => t.hostBytes 0x5002 1 == [0]) = true := by decide +kernel

/-- A settings block: FP32 out, 1 by 1, one margin block, frame_step 1, a slot of 16 bytes. -/
def block1 : List Byte := bytesOf (2 ^ 32 + 2 ^ 48) 16 ++ [0, 0, 1, 0] ++ List.replicate 40 0 ++ [1] ++ List.replicate 51 0 ++ [16] ++ List.replicate 143 0
def installing (l : List Install) : State :=
  { (ingest [(R.ING_STRM_SET_ADDR 31, hbm7)]).putNat hbm7 256 (natOfBytes block1) with media := { MediaState.reset with streams := [(31, { IngStream.reset with installs := l })] } }
theorem test_settingsInstall : yes (exec (.settingsInstall .pf 31 9) (installing [])) (fun t => (t.strm 31).installs == [⟨9, block1⟩] &&
      t.fld (R.ING_STRM_STATUS 31) F.ING_STRM_STATUS_pending == 1) = true ∧
    yes (exec (.settingsInstall .pf 31 9) ((installing []).setReg (R.ING_STRM_SET_ADDR 31) (BitVec.ofNat 64 (hbm7 + 1)))) (fun t =>
      (t.strm 31).installs.isEmpty && t.fld (R.ING_STRM_STATUS 31) F.ING_STRM_STATUS_set_error == 1) = true ∧
    yes (exec (.settingsInstall .pf 31 9) (installing (List.replicate 4 ⟨1, []⟩))) (fun t =>
      (t.strm 31).installs.length == 4 && t.fld (R.ING_STRM_STATUS 31) F.ING_STRM_STATUS_set_refused == 1) = true := by decide +kernel
def reserving (n : Nat) : State := { regs [] with media := { MediaState.reset with reserved := (List.range 8).map (fun e => (e, [(0, n)])) } }
theorem test_streamEnable : yes (exec (.streamEnable .pf 31 (1 + 7 * 8)) (regs [(R.ING_STRM_SEQ 31, 4)])) (fun t => t.strmOn 31 && t.reg (R.ING_STRM_SEQ 31) == 0) = true ∧
    yes (exec (.streamEnable .pf 31 3) (reserving 0)) (fun t => t.strmOn 31 && (t.strm 31).engine == some 0 && t.reservedOn 0 == 480) = true ∧
    yes (exec (.streamEnable .pf 31 3) (reserving 1)) (fun t => !t.strmOn 31 && t.fld (R.CDC_DEC_CFG 31) F.CDC_DEC_CFG_res_error == 1) = true ∧
    yes (exec (.streamEnable .pf 31 0) (regs [strm7 0])) (fun t => !t.strmOn 31) = true := by decide +kernel

def job3 (d : List (Nat × Nat × Nat)) (pos : Nat) : IngJob :=
  { id := 3, inst := 7, idx := 5, gen := 0, desc := wide d, stream := 31, running := true, pos := pos, remote := [], asked := 0,
    sampleOpen := false, sample := [], sampleKey := 0, sampleAt := 0, sampleCause := 0, sampleName := [], sampleNo := 0, frames := 2,
    paxPath := none, paxSize := none, ended := none }
/-- The job with its source at 0x2000 in host memory. -/
def parsing (b : IngJob) (src : List Byte) : State :=
  { (ingest []).putHostBytes 0x2000 src with media := { MediaState.reset with jobs := [b] } }
-- a token record of key 9 and payload 1, 2, 3, 4
def bolt1 : List Byte := bytesOf 0x29308cf4040302011c10aa77000000000000000000000009000000000000000400000801544c4f42 40
theorem test_boltRecord : yes (exec (.boltRecord 31) (parsing (job3 (jobDesc 1 1 40) 0) bolt1)) (fun t =>
      t.media.jobs.map (fun b => (b.sample, b.sampleKey, b.pos)) == [([⟨8, [1, 2, 3, 4], 0, false⟩], 9, 40)]) = true ∧
    yes (exec (.boltRecord 31) (parsing (job3 (jobDesc 1 1 40) 40) bolt1)) (fun t => t.media.jobs.isEmpty &&
      t.hostBytes 0x5000 16 == [5, 0, 0, 0, 0, 0, 0, 0, 40, 0, 0, 0, 0, 0, 2, 0]) = true ∧
    yes (exec (.boltRecord 31) (parsing (job3 (jobDesc 1 1 40) 0) ([0] ++ bolt1.drop 1))) (fun t => t.media.jobs.isEmpty && t.hostBytes 0x5002 1 == [0x57]) = true := by
  decide +kernel
theorem test_boltCrc : yes (exec (.boltRecord 31) (parsing (job3 (jobDesc 1 0 40) 0) (bolt1.take 32 ++ [9] ++ bolt1.drop 33))) (fun t =>
      t.media.jobs.map (fun b => (b.sample, b.sampleCause, b.pos)) == [([], 0x57, 40)]) = true ∧
    yes (exec (.boltRecord 31) (parsing (job3 (jobDesc 1 1 40) 0) (bolt1.take 32 ++ [9] ++ bolt1.drop 33))) (fun t =>
      t.media.jobs.isEmpty && t.hostBytes 0x5002 1 == [0x57]) = true ∧
    State.boltScan ([7, 7] ++ bolt1) 10 0 = some 2 ∧ State.boltScan ([7, 7] ++ bolt1 ++ [7]) 10 0 = none := by decide +kernel
-- the member a.tok of 4 bytes
def member : List Byte :=
  [0x61, 0x2e, 0x74, 0x6f, 0x6b] ++ List.replicate 119 0 ++ [0x30, 0x30, 0x30, 0x30, 0x30, 0x30, 0x30, 0x30, 0x30, 0x30, 0x34, 0] ++ List.replicate 12 0 ++
  [0x30, 0x30, 0x33, 0x35, 0x32, 0x30, 0, 0x20, 0x30] ++ List.replicate 100 0 ++ [0x75, 0x73, 0x74, 0x61, 0x72, 0] ++ List.replicate 249 0
theorem test_ustarHeader : State.ustarOk member = true ∧ State.ustarOk (member.set 500 1) = false ∧ State.octal ((member.drop 124).take 12) = 4 ∧
    State.typeOfName (State.asciiBytes "d.x/a.JpEg") = 1 ∧ State.typeOfName (State.asciiBytes "a.PNG") = 2 ∧ State.typeOfName (State.asciiBytes "a.opus") = 3 ∧
    State.typeOfName (State.asciiBytes "a.flac") = 4 ∧ State.typeOfName (State.asciiBytes "a.wav") = 6 ∧ State.typeOfName (State.asciiBytes "a.tok") = 8 ∧
    State.typeOfName (State.asciiBytes "a.jpg/b") = 0xFF ∧ State.sampleStem (State.asciiBytes "d.x/a.b.c") = State.asciiBytes "d.x/a" := by decide +kernel
theorem test_ustarMember : yes (exec (.ustarMember 31) (parsing (job3 (jobDesc 2 1 2048) 0) (member ++ [1, 2, 3, 4]))) (fun t =>
      t.media.jobs.map (fun b => (b.sample, b.sampleName, b.pos)) == [([⟨8, [1, 2, 3, 4], 0, true⟩], [0x61], 1024)] ||
      t.media.jobs.map (fun b => (b.sample, b.sampleName, b.pos)) == [([⟨8, [1, 2, 3, 4], 0, false⟩], [0x61], 1024)]) = true := by decide +kernel
theorem test_ustarEnd : yes (exec (.ustarMember 31) (parsing (job3 (jobDesc 2 1 2048) 1024) [])) (fun t => t.media.jobs.isEmpty &&
      t.hostBytes 0x5000 16 == [5, 0, 0, 0, 0, 0, 0, 0, 0, 8, 0, 0, 0, 0, 2, 0]) = true := by decide +kernel

/-- Frame 8 under the block above. -/
def frame8 : IngFrame :=
  { seq := 8, gen := 3, settings := block1, job := none, key := 9, records := [], keptIdx := 0, aug := List.replicate 64 0, strict := false, pool := 63, wait := false,
    deadline := none, slot := none, waiting := false, needPic := false, needAud := false, engine := 0, readyNo := 0, hist := [], levels := [], status := 0, trunc := false,
    padded := false, incomplete := false, regionUsed := false, cause := 0, picW := 0, picH := 0, audN := 0, sideBytes := 0, ready := false }
def framed (l : List (Nat × Nat)) (f : IngFrame) : State :=
  { ingest (l ++ [(R.ING_STRM_REC_BASE 31, poc + 0x1000), (R.ING_STRM_STAT_BASE 31, hbm7 + 0x10000)]) with
    media := { MediaState.reset with streams := [(31, { IngStream.reset with settings := block1, frames := [f] })] } }
-- PCM s16, one channel at 8 kHz, one sample of 0x4000 (0.5): aux = 8,000
def pcm : IngRecord := ⟨5, [0, 0x40], 8000, false⟩
def sounding : IngFrame := { frame8 with records := [pcm], needAud := true, slot := some hbm7 }
theorem test_decodeComplete : State.recOf sounding.records 1 = some pcm ∧ State.decodeAudio pcm = .sound ⟨8000, [[0x3F000000]], 1, false⟩ ∧
    yes (exec (.decodeComplete 31 8 true) (framed [] sounding)) (fun t => t.bytesAt hbm7 5 == [0, 0, 0, 0x3F, 0] &&
      (t.strm 31).frames.map (fun f => (f.needAud, f.audN, f.cause)) == [(false, 1, 0)]) = true ∧
    yes (exec (.decodeComplete 31 8 true) (framed [] { sounding with waiting := true })) (fun t => t == framed [] { sounding with waiting := true }) = true ∧
    yes (exec (.decodeComplete 31 8 true) (framed [] { sounding with records := [{ pcm with payload := [] }] })) (fun t => (t.strm 31).frames.map (fun f => f.cause) == [0x58]) = true := by
  decide +kernel
-- the statistics entry is 2 KiB, too long to write in a test: the record's bytes and what settling decides
theorem test_sampleRecord : (State.sampleRecord { frame8 with slot := some hbm7, padded := true, status := 0x53, picW := 0x102, audN := 7 }).take 40 =
      [0x53, 2, 0, 0, 3, 0, 0, 0, 8, 0, 0, 0, 0, 0, 0, 0, 9, 0, 0, 0, 0, 0, 0, 0] ++ bytesOf hbm7 8 ++ [2, 1, 0, 0, 7, 0, 0, 0] ∧
    (framed [] frame8).ringSlot (R.ING_STRM_REC_BASE 31) 24 64 = poc + 0x1200 ∧ (framed [] frame8).checkRange (.inst 7) (poc + 0x1200) 64 = 0 ∧
    (framed [] frame8).checkRange (.inst 7) (hbm7 + 0x14000) 2048 = 0 ∧
    yes (exec (.sampleRecord 31) (framed [] sounding)) (fun t => t == framed [] sounding) = true := by decide +kernel
def settled (f : IngFrame) (p : State → Bool) : Bool := p ((framed [] f).settle 31 f)
theorem test_settle : settled { frame8 with padded := true, trunc := true } (fun t => (t.strm 31).frames.map (fun f => (f.status, f.ready)) == [(0x53, true)] &&
      t.reg (R.ING_CNT_PADDED 7) == 1 && t.reg (R.ING_CNT_TRUNC 7) == 1) = true ∧
    settled { frame8 with strict := true, cause := 0x56 } (fun t => (t.strm 31).frames.map (fun f => (f.status, f.cause)) == [(0x56, 0)] && t.reg (R.ING_CNT_REJECT 7) == 1) = true ∧
    settled { frame8 with cause := 0x58, slot := some hbm7 } (fun t => (t.strm 31).frames.map (fun f => (f.status, f.cause)) == [(0x55, 0x58)] &&
      t.reg (R.ING_CNT_SUBST 7) == 1) = true := by decide +kernel

def rtp (pt marker seq ts : Nat) : List Byte :=
  [31, 0, 0, 0, 0, 0, 0, 0, 0x80, BitVec.ofNat 8 (marker * 128 + pt), 0, BitVec.ofNat 8 seq, 0, 0, 0, BitVec.ofNat 8 ts, 0, 0, 0, 5, 0xAA]
def hears (kind pt seq ts : Nat) (x : IngStream) : State :=
  { linked [strm7 kind, (R.ING_STRM_LIVE 31, 100 + 4095 * 2 ^ 16), (R.ING_STRM_SSRC 31, 5), (R.ING_STRM_SEQ 31, 6), (R.POD_TIME, 1000)] opened7 with
    ingress := [⟨92, 4095, pkt 1 7 3 (rtp pt 0 seq ts)⟩], media := { MediaState.reset with streams := [(31, x)] } }
def before : IngStream := { IngStream.reset with lastTs := some 1 }
theorem test_rtpPacket : (rtpOf ((rtp 0 0 7 2).drop 8)).map (fun m => (m.2.2.1, m.2.2.2.1, m.2.2.2.2)) = some (7, 2, 5, [0xAA]) ∧
    yes (exec (.rtpPacket 0) (hears 1 0 7 2 before)) (fun t => (t.strm 31).frames.map (fun f => (f.seq, f.deadline)) == [(6, some 101000)] &&
      (t.strm 31).jitter == [⟨7, 2, false, [0xAA]⟩] && t.reg (R.ING_STRM_SEQ 31) == 7 && t.ingress.isEmpty) = true ∧
    yes (exec (.rtpPacket 0) (hears 1 0 8 2 { before with lastTs := some 2, extSeq := some 0, jitter := [⟨7, 2, false, []⟩] })) (fun t =>
      (t.strm 31).jitter.length == 2 && t.reg (R.ING_STRM_SEQ 31) == 6) = true := by decide +kernel
theorem test_rtpForeign : yes (exec (.rtpPacket 0) (hears 1 9 7 2 before)) (fun t => t.reg (R.ING_STRM_FOREIGN 31) == 1 && (t.strm 31).frames.isEmpty) = true ∧
    yes (exec (.rtpPacket 0) (hears 1 0 7 0 before)) (fun t => t.reg (R.ING_STRM_FOREIGN 31) == 1) = true ∧
    yes (exec (.rtpPacket 0) (hears 0 0 7 2 before)) (fun t => t.reg (R.ING_STRM_FOREIGN 31) == 1) = true ∧
    extendSeq (some 65535) 0 = 65536 ∧ extendSeq (some 65536) 65535 = 65535 ∧ tsOlder (2 ^ 32 - 1) 0 = true := by decide +kernel
theorem test_liveLate : yes (exec (.liveLate 31 8) (framed [strm7 1, (R.SCH_POOL_CFG 63, 7 + 8 + 2 * 256)] { frame8 with deadline := some 4, slot := some hbm7, needPic := true }))
      (fun t => (t.strm 31).frames.map (fun f => (f.status, f.slot, f.incomplete, f.ready)) == [(0x54, none, true, true)] &&
        t.sch.poolFree.get [] 63 == [hbm7] && t.reg (R.ING_STRM_LIVE_LATE 31) == 1) = true ∧
    yes (exec (.liveLate 31 8) (framed [strm7 1] frame8)) (fun t => t == framed [strm7 1] frame8) = true := by decide +kernel

/-! Encode streams and codec engines (R389 to R402). Encode stream 7 and engine 9, instance 7. -/

/-- A session block: HEVC, 8 bits, 64 by 64, one long-term picture, a ring of 2^16 bytes; class and live_mps as given. -/
def session7 (cls mps : Nat) : List Byte :=
  [0, 8, 0, BitVec.ofNat 8 cls, 64, 0, 64, 0, 1, 0, 1, 0, 0, 0, 0, 1] ++ bytesOf 0 8 ++ bytesOf 10 4 ++ bytesOf 0 4 ++ bytesOf (hbm7 + 0x100000) 8 ++
  bytesOf 25600 8 ++ bytesOf (hbm7 + 0x200000) 8 ++ bytesOf 16 4 ++ bytesOf mps 2 ++ List.replicate 66 0
def encoding (l : List (Nat × Nat)) (x : EncStream) : State :=
  { regs (owned ++ [(R.CDC_RING_CFG 7, 1 + 4 * 4 + 9 * 2 ^ 8), (R.CDC_RING_TAIL 7, 1), (R.CDC_RING_BASE 7, 0x4000), (R.CDC_RING_CPL_BASE 7, 0x5000),
      (R.CDC_ENC_SESSION 7, hbm7)] ++ l) with media := { MediaState.reset with enc := [(7, x)] } }
def enabling (b : List Byte) : State := (encoding [] EncStream.reset).putNat hbm7 128 (natOfBytes b)
theorem test_encodeStreamEnable : yes (exec (.encodeStreamEnable .pf 7 15) (enabling (session7 0 480))) (fun t => t.encOn 7 && t.reservedOn 8 == 480 &&
      (t.encS 7).session == session7 0 480) = true ∧
    yes (exec (.encodeStreamEnable .pf 7 15) (enabling (session7 2 0))) (fun t => t.encOn 7 && t.reservedOn 8 == 0) = true ∧
    yes (exec (.encodeStreamEnable .pf 7 15) (enabling (session7 3 480))) (fun t => !t.encOn 7 && t.fld (R.CDC_ENC_CFG 7) F.CDC_ENC_CFG_cfg_error == 1) = true := by
  decide +kernel
theorem test_encodeReserve : yes (exec (.encodeStreamEnable .pf 7 15) { enabling (session7 0 480) with
      media := { MediaState.reset with reserved := [(8, [(1, 1)]), (9, [(2, 1)])] } }) (fun t => !t.encOn 7 && t.fld (R.CDC_ENC_CFG 7) F.CDC_ENC_CFG_res_error == 1) = true ∧
    yes (exec (.encodeStreamEnable .pf 7 14) (encoding [(R.CDC_ENC_CFG 7, 15)] EncStream.reset)) (fun t => !t.encOn 7) = true := by decide +kernel
theorem test_cdcRingTail : yes (exec (.cdcRingTail .pf 7 15) (encoding [] EncStream.reset)) (fun t => t.fld (R.CDC_RING_TAIL 7) F.ING_RING_TAIL_tail == 15) = true ∧
    yes (exec (.cdcRingTail .pf 7 16) (encoding [] EncStream.reset)) (fun t => t.fld (R.CDC_RING_STATUS 7) F.ING_RING_STATUS_error == 2) = true := by decide +kernel
def picture (l : List (Nat × Nat × Nat)) : List (Nat × Nat × Nat) :=
  [(0, 0, 0x52), (0, 8, 7), (1, 0, hbm7 + 0x300000), (2, 0, hbm7 + 0x310000), (3, 0, 64), (4, 0, 5), (6, 0, 0xFFFF)] ++ l
def submits (l : List (Nat × Nat × Nat)) : State :=
  (encoding [(R.CDC_ENC_CFG 7, 15)] { EncStream.reset with session := session7 0 480 }).putHostBytes 0x4000 (bytesOf (fields (picture l)) 64)
theorem test_pictureDescriptor : yes (exec (.pictureDescriptor 7) (submits [])) (fun t => (t.encS 7).pics.map (fun p => (p.inst, p.idx, p.desc)) == [(7, 0, narrow (picture []))] &&
      t.fld (R.CDC_RING_HEAD 7) F.ING_RING_HEAD_head == 1) = true ∧
    yes (exec (.pictureDescriptor 7) (submits [(0, 12, 1), (0, 17, 1)])) (fun t => (t.encS 7).pics.isEmpty && t.hostBytes 0x5000 3 == [0, 0, 2] && t.host.irqs == [(0, 9)]) = true ∧
    yes (exec (.pictureDescriptor 7) (submits [(0, 0, 1)])) (fun t => t.hostBytes 0x5000 3 == [0, 0, 1]) = true := by decide +kernel
theorem test_keyPictureRequest : yes (exec (.keyPictureRequest .pf 7 1) (regs [])) (fun t => t.fld (R.CDC_ENC_STATUS 7) F.CDC_ENC_STATUS_key_pending == 1 &&
      t.reg (R.CDC_ENC_KEYS 7) == 1) = true ∧
    yes (exec (.keyPictureRequest .pf 7 1) (regs [(R.CDC_ENC_STATUS 7, 32)])) (fun t => t.reg (R.CDC_ENC_KEYS 7) == 0) = true := by decide +kernel
def pic4 (l : List (Nat × Nat × Nat)) : EncPic := ⟨4, 7, 3, 0, narrow (picture l), false, false⟩
def pics7 (l : List (Nat × Nat × Nat)) (running : Option CodecWork) : State :=
  let s := encoding [(R.CDC_ENC_CFG 7, 15)] { EncStream.reset with session := session7 0 480, pics := [pic4 l], engine := 9, sinceKey := some 5 }
  { s with media := { s.media with engines := [(9, { CodecEng.reset with running := running, bound := [7] })] } }
theorem test_encodeLiveLate : yes (exec (.encodeLiveLate 7 5) (pics7 [] none)) (fun t => (t.encS 7).pics.isEmpty && t.reg (R.CDC_ENC_LIVE_LATE 7) == 1 &&
      t.hostBytes 0x5000 3 == [3, 0, 0x54]) = true ∧
    yes (exec (.encodeLiveLate 7 6) (pics7 [] none)) (fun t => t == pics7 [] none) = true := by decide +kernel
theorem test_pictureStart : ((pics7 [] none).chooseWork 9 false).map (fun r => (r.work, r.cls, r.deadline)) = some (.enc 7 4, 1, 0) ∧
    yes (exec (.pictureBoundary 9) (pics7 [] none)) (fun t => (t.cdc 9).running == some (.enc 7 4) && (t.encS 7).pics.map (fun p => (p.started, p.key)) == [(true, false)]) = true ∧
    yes (exec (.pictureBoundary 9) (pics7 [(0, 29, 1)] none)) (fun t => (t.cdc 9).running == none && t.hostBytes 0x5000 3 == [3, 0, 2]) = true ∧
    yes (exec (.pictureBoundary 8) (pics7 [] none)) (fun t => t == pics7 [] none) = true := by decide +kernel
-- the encoder is an opaque function (R389): this test stops at what a finished picture reads
theorem test_pictureEnd : ((pics7 [] (some (.enc 7 4))).cdc 9).running = some (.enc 7 4) ∧
    ((State.inputRows ((pics7 [] none).encS 7) (pic4 [])).all (fun z => (pics7 [] none).engineRead (.inst 7) z.1 z.2 == 0)) = true ∧
    (State.inputRows ((pics7 [] none).encS 7) (pic4 [])).length = 96 ∧ (pics7 [] none).checkRange (.inst 7) (hbm7 + 0x200000) 0xFFFF = 0 := by decide +kernel
/-- A live picture of stream 31 waits for engine 0, which runs a record stream's picture. -/
def preempting : State :=
  { regs [strmKind31] with media := { MediaState.reset with
      streams := [(31, { IngStream.reset with engine := some 0, units := [⟨8, [], 77, 1⟩, ⟨9, [], 5, 2⟩] })],
      engines := [(0, { CodecEng.reset with running := some (.dec 0 3), bound := [0, 31] })] } }
where strmKind31 : Nat × Nat := (R.ING_STRM_CFG 31, 3)
theorem test_blockRowPreempt : yes (exec (.blockRowPreempt 0) preempting) (fun t => (t.cdc 0).running == some (.dec 31 8) && (t.cdc 0).stopped == some (.dec 0 3)) = true ∧
    yes (exec (.blockRowPreempt 1) preempting) (fun t => t == preempting) = true := by decide +kernel

/-! The whole block. -/

theorem test_stepRuns : yes (step { regs [] with pending := [.clockRaise, .bothInputsFail] }) (fun t => t.pending == [.bothInputsFail]) = true ∧
    yes (step (regs [(R.POD_TIME, 41)])) (fun t => t.reg R.POD_TIME == 42 && t.pending.isEmpty) = true := by decide +kernel
theorem test_after : ((({ regs [] with pending := [.clockRaise, .clockRaise] } : State).after 3).map (fun t => (t.pending, t.reg R.POD_TIME))) == some ([], 1) := by
  decide +kernel
theorem test_reset : Memory.wf State.reset.mem = true ∧ Memory.wf State.reset.hostMem = true ∧ State.reset.reg R.FAB_UDP_PORT = 0x4A42 ∧ State.reset.reg (R.CDC_DEC_CFG 31) = 2 + 480 * 4 := by decide +kernel
-- FP32 1.5, the largest finite, the least subnormal and −0; a NaN of another payload
theorem test_numberCodes : toFp32 (ofFp32 0x3FC00000) = 0x3FC00000 ∧ toFp32 (ofFp32 0x7F7FFFFF) = 0x7F7FFFFF ∧ toFp32 (ofFp32 1) = 1 ∧
    toFp32 (ofFp32 0x80000000) = 0x80000000 ∧ ofFp32 0x7F800001 = .nan ∧ encE4m3.magCode .rne 1 (-9) = 1 ∧ encE4m3.decode 0x7E = .fin false 14 5 := by decide +kernel
theorem test_refusals : (regs []).reach (.vf 7) (R.SCH_SEM 0) = false ∧ (regs []).reach (.vf 7) 0x417FFF = true ∧ (regs []).reach (.vf 7) 0x418000 = false ∧
    (regs []).reach (.core 127) (R.ING_STRM_CFG 31) = false ∧
    yes (exec (.semaphoreWrite (.vf 7) 0 5) (regs [])) (fun t => t.reg R.SCH_FIREWALL_DENIED == 1 && t.reg (R.SCH_SEM 0) == 0) = true ∧
    yes (exec (.poolTake (.vf 7) 0) (regs [])) (fun t => t.host.reply == some ⟨.vf 7, List.replicate 8 0xFF, false⟩) = true := by decide +kernel
theorem test_touches : touches .gratuitousArp = [.fab] ∧ only (touches (.ackDelay 4095)) = 65536 := by decide +kernel

/-! WellFormed: a term that each check refuses beside one that it takes. -/

theorem test_slotRefused : wellFormed (.br (cmd 7 0 0 0 0 0 0)) = false ∧ wellFormed (.br (cmd 0 0 0 0 0 0 0)) = true ∧
    wellFormed (.scalarLoad (cmd 0 0 0 0 0 0 0)) = false ∧ wellFormed (.scalarLoad (cmd 2 0 0 0 0 0 0)) = true ∧
    wellFormed (.vcvt (cmd 4 0 0 0 0 0 0)) = false ∧ wellFormed (.mxIssue (cmd 3 0 0 0 0 0 0)) = false ∧ wellFormed (.sfn (cmd 6 0 0 0 0 0 0)) = false ∧
    wellFormed (.vld (cmd 5 0 0 0 0 0 0)) = false ∧ wellFormed (.halt (cmd 6 0 0 0 0 0 0)) = false := by decide +kernel
theorem test_registerRefused : wellFormed (.registerWrite .pf 0x10000000 4 0) = false ∧ wellFormed (.registerWrite .pf 0xFFFFFFC 4 (2 ^ 32)) = false ∧
    wellFormed (.registerWrite .pf 0xFFFFFFC 4 (2 ^ 32 - 1)) = true ∧ wellFormed (.splitLowWordRead .pf 0x10000000) = false ∧
    wellFormed (.splitHighWordWrite .pf 0xFFFFFFC 0) = true := by decide +kernel
theorem test_barRefused : wellFormed (.hostBarRead .pf 1 0 4) = false ∧ wellFormed (.hostBarRead .pf 4 0 0) = false ∧ wellFormed (.hostBarRead .pf 4 0 1) = true ∧
    wellFormed (.hostBarWrite .pf 2 0 []) = false := by decide +kernel
theorem test_operandRefused : wellFormed (.rowDrain 0 [(5, 1), (5, 2)]) = false ∧ wellFormed (.rowDrain 0 [(5, 1), (6, 2)]) = true ∧
    wellFormed (.transaction { (txn 1 []) with op := 3 }) = false ∧ wellFormed (.transaction (txn 7 [])) = true ∧
    wellFormed (.overcastAccess ⟨.host .pf, none, 0, false, 0, 4, some [1]⟩) = false ∧ wellFormed (.overcastAccess ⟨.host .pf, none, 0, false, 0, 1, some [1]⟩) = true ∧
    wellFormed (.frameReceive { (frame write1) with udpPort := 65536 }) = false ∧ wellFormed (.frameReceive (frame write1)) = true := by decide +kernel

end Sys2Proof.Tests
end

section
/-! Byte strings and memory: what a byte string spells, and what reads as written after a store of bytes into module
memory (the caches and victim buffers included) or host memory. -/
namespace Sys2Proof

@[simp] theorem length_bytesOf (x n : Nat) : (bytesOf x n).length = n := by simp [bytesOf]

theorem natOfBytes_append (l m : List Byte) : natOfBytes (l ++ m) = natOfBytes l + 256 ^ l.length * natOfBytes m := by
  induction l with
  | nil => simp [natOfBytes]
  | cons b l ih =>
    rw [List.cons_append, natOfBytes, natOfBytes, ih, List.length_cons, Nat.pow_succ', Nat.mul_add, Nat.mul_assoc,
      Nat.add_assoc]

theorem natOfBytes_lt (l : List Byte) : natOfBytes l < 256 ^ l.length := by
  induction l with
  | nil => simp [natOfBytes]
  | cons b l ih =>
    have hb := b.isLt
    rw [natOfBytes, List.length_cons, Nat.pow_succ]
    omega

theorem bytesOf_succ (x n : Nat) : bytesOf x (n + 1) = BitVec.ofNat 8 x :: bytesOf (x / 256) n := by
  simp only [bytesOf, List.range_succ_eq_map, List.map_cons, List.map_map, Nat.pow_zero, Nat.div_one]
  congr 1
  apply List.map_congr_left
  intro i _
  simp only [Function.comp_apply, Nat.succ_eq_add_one, Nat.pow_succ, Nat.div_div_eq_div_mul, Nat.mul_comm]

/-- A number's low bytes spell it, cut to their width. -/
theorem natOfBytes_bytesOf (x n : Nat) : natOfBytes (bytesOf x n) = x % 256 ^ n := by
  induction n generalizing x with
  | zero => simp [bytesOf, natOfBytes, Nat.mod_one]
  | succ n ih =>
    rw [bytesOf_succ, natOfBytes, ih, BitVec.toNat_ofNat, Nat.pow_succ' (n := n), Nat.mod_mul]

theorem natOfBytes_bytesOf_of_lt {x n : Nat} (h : x < 256 ^ n) : natOfBytes (bytesOf x n) = x := by
  rw [natOfBytes_bytesOf, Nat.mod_eq_of_lt h]

/-- A number's low bytes are those of the number cut above them. -/
theorem bytesOf_mod (x n : Nat) : bytesOf (x % 256 ^ n) n = bytesOf x n := by
  induction n generalizing x with
  | zero => rfl
  | succ n ih =>
    rw [bytesOf_succ, bytesOf_succ, Nat.pow_succ', Nat.mod_mul_right_div_self, ih]
    congr 1
    apply BitVec.eq_of_toNat_eq
    rw [BitVec.toNat_ofNat, BitVec.toNat_ofNat]
    exact Nat.mod_mod_of_dvd _ (Nat.dvd_mul_right ..)

namespace Machine

theorem fieldAt_lt (b : List Byte) (i n : Nat) : fieldAt b i n < 256 ^ n :=
  Nat.lt_of_lt_of_le (natOfBytes_lt _) (Nat.pow_le_pow_right (by decide) (List.length_take_le ..))

/-- A string stored byte by byte at rising addresses, by a store `put` that `get` reads back: each byte of the string
stands at its address, and the other addresses read as before. -/
theorem get_foldl_put {σ : Type} (get : σ → Nat → Byte) (put : σ → Nat → Byte → σ) (ok : Nat → Prop)
    (law : ∀ s a b x, ok a → get (put s a b) x = if x = a then b else get s x) (bs : List Byte) (s : σ) (a x : Nat)
    (hok : ∀ j, j < bs.length → ok (a + j)) :
    get (bs.foldl (fun (st : σ × Nat) b => (put st.1 st.2 b, st.2 + 1)) (s, a)).1 x =
      if a ≤ x ∧ x < a + bs.length then bs.getD (x - a) 0 else get s x := by
  induction bs generalizing s a with
  | nil => rw [if_neg (by simp only [List.length_nil]; omega)]; rfl
  | cons b bs ih =>
    rw [List.foldl_cons, ih]
    · rw [law s a b x (hok 0 (by simp)), List.length_cons]
      by_cases h : a + 1 ≤ x ∧ x < a + 1 + bs.length
      · rw [if_pos h, if_pos (by omega), show x - a = x - (a + 1) + 1 by omega, List.getD_cons_succ]
      · rw [if_neg h]
        by_cases e : x = a
        · rw [if_pos e, if_pos (by omega), e, Nat.sub_self, List.getD_cons_zero]
        · rw [if_neg e, if_neg (by omega)]
    · intro j hj
      rw [Nat.add_right_comm, Nat.add_assoc]
      exact hok (j + 1) (by simpa using hj)

theorem map_range_getD (bs : List Byte) : (List.range bs.length).map (fun j => bs.getD j 0) = bs := by
  apply List.ext_getElem
  · simp
  · intro j h1 h2
    simp [h2]

namespace State

/-! ### Host memory -/

theorem hostByte_putHostBytes (s : State) (a x : Nat) (bs : List Byte) :
    Tbl.get (s.putHostBytes a bs).hostMem 0 x =
      if a ≤ x ∧ x < a + bs.length then bs.getD (x - a) 0 else Tbl.get s.hostMem 0 x :=
  get_foldl_put (fun m x => Tbl.get m 0 x) (fun m a b => Tbl.set m 0 a b) (fun _ => True)
    (fun m a b x _ => Tbl.get_set m 0 a x b) bs s.hostMem a x (fun _ _ => trivial)

/-- A string written to host memory reads back. -/
theorem hostBytes_putHostBytes (s : State) (a : Nat) (bs : List Byte) :
    (s.putHostBytes a bs).hostBytes a bs.length = bs := by
  rw [State.hostBytes]
  refine Eq.trans (List.map_congr_left fun j hj => ?_) (map_range_getD bs)
  rw [hostByte_putHostBytes, if_pos (by have := List.mem_range.1 hj; omega), Nat.add_sub_cancel_left]

/-! ### Module memory -/

/-- What a byte reads as depends on memory and the memory system only. -/
theorem byteAt_congr {s t : State} (hm : t.mem = s.mem) (hs : t.msys = s.msys) (x : Nat) : t.byteAt x = s.byteAt x := by
  unfold State.byteAt State.lineOf
  rw [hm, hs]

theorem bytesAt_congr {s t : State} (hm : t.mem = s.mem) (hs : t.msys = s.msys) (a n : Nat) :
    t.bytesAt a n = s.bytesAt a n :=
  List.map_congr_left fun j _ => byteAt_congr hm hs (a + j)

/-- What touches neither memory, host memory nor the memory system leaves every byte as it was. -/
theorem sameBytes_of_eq {s t : State} (hm : t.mem = s.mem) (hs : t.msys = s.msys)
    (hh : t.hostMem = s.hostMem) : SameBytes s t := ⟨byteAt_congr hm hs, fun a => by rw [hh]⟩

theorem find?_key_insert {α : Type} (t : Tbl α) (k j : Nat) (v : α) :
    (t.insert k v).find? (fun e => e.1 == j) = if j = k then some (k, v) else t.find? (fun e => e.1 == j) := by
  induction t with
  | nil =>
    by_cases h : j = k
    · simp [Tbl.insert, h]
    · simp [Tbl.insert, h, Ne.symm h]
  | cons e t ih =>
    obtain ⟨k', v'⟩ := e
    rw [Tbl.insert]
    by_cases h : j = k
    · subst h
      rw [if_pos rfl] at ih ⊢
      split
      · simp
      · split
        · simp
        · rename_i h1 _
          simpa [h1] using ih
    · rw [if_neg h] at ih ⊢
      split
      · rename_i h1
        simp [h1, Ne.symm h]
      · split
        · simp [Ne.symm h]
        · rw [List.find?_cons, List.find?_cons, ih]

/-- The bytes of a number given by what lies above byte `k`, byte `k` and what lies below. -/
theorem byte_of_pieces (q m r k i : Nat) (hm : m < 2 ^ 8) (hr : r < 2 ^ (8 * k)) :
    ((q * 2 ^ 8 + m) * 2 ^ (8 * k) + r) / 2 ^ (8 * i) % 2 ^ 8 =
      if i = k then m else if i < k then r / 2 ^ (8 * i) % 2 ^ 8 else q / 2 ^ (8 * (i - k - 1)) % 2 ^ 8 := by
  have top : ((q * 2 ^ 8 + m) * 2 ^ (8 * k) + r) / 2 ^ (8 * k) = q * 2 ^ 8 + m := by
    rw [Nat.mul_comm, Nat.mul_add_div (Nat.two_pow_pos _), Nat.div_eq_of_lt hr, Nat.add_zero]
  rcases Nat.lt_trichotomy i k with h | h | h
  · have cut : ∀ x : Nat, x / 2 ^ (8 * i) % 2 ^ 8 = x % 2 ^ (8 * k) / 2 ^ (8 * i) % 2 ^ 8 := fun x => by
      rw [show 8 * k = 8 * i + (8 + 8 * (k - i - 1)) by omega, Nat.pow_add, Nat.pow_add 2 8, Nat.mod_mul_right_div_self,
        Nat.mod_mul_right_mod]
    rw [if_neg (by omega), if_pos h, cut, Nat.mul_comm, Nat.mul_add_mod, Nat.mod_eq_of_lt hr]
  · subst h
    rw [if_pos rfl, top, Nat.mul_comm, Nat.mul_add_mod, Nat.mod_eq_of_lt hm]
  · rw [if_neg (by omega), if_neg (by omega), show 8 * i = 8 * k + (8 + 8 * (i - k - 1)) by omega, Nat.pow_add,
      Nat.pow_add 2 8, ← Nat.div_div_eq_div_mul, ← Nat.div_div_eq_div_mul, top, Nat.mul_comm q,
      Nat.mul_add_div (by decide), Nat.div_eq_of_lt hm, Nat.add_zero]

/-- The bytes of a line in which one byte is replaced. -/
theorem extract_lineWithByte (d : BitVec 2048) (k i : Nat) (b : Byte) (hk : k < 256) :
    (lineWithByte d k b).extractLsb' (8 * i) 8 = if i = k then b else d.extractLsb' (8 * i) 8 := by
  have hpow : ∀ m : Nat, (256 : Nat) ^ m = 2 ^ (8 * m) := fun m => by rw [Nat.pow_mul]
  have hval : (lineWithByte d k b).toNat =
      (d.toNat / 2 ^ (8 * k) / 2 ^ 8 * 2 ^ 8 + b.toNat) * 2 ^ (8 * k) + d.toNat % 2 ^ (8 * k) := by
    have hs := Fld.split_set d.toNat (8 * k) 8 b.toNat
    rw [lineWithByte, BitVec.toNat_ofNat, hpow, show (256 : Nat) = 2 ^ 8 from rfl, hs]
    apply Nat.mod_eq_of_lt
    have hd := d.isLt
    have hb := b.isLt
    have hr : d.toNat % 2 ^ (8 * k) < 2 ^ (8 * k) := Nat.mod_lt _ (Nat.two_pow_pos _)
    have hq : d.toNat / 2 ^ (8 * k) / 2 ^ 8 < 2 ^ (2040 - 8 * k) := by
      rw [Nat.div_div_eq_div_mul, ← Nat.pow_add]
      apply Nat.div_lt_of_lt_mul
      rw [← Nat.pow_add, show 8 * k + 8 + (2040 - 8 * k) = 2048 by omega]
      exact hd
    have hp : 2 ^ (2040 - 8 * k) * 2 ^ 8 * 2 ^ (8 * k) = 2 ^ 2048 := by
      rw [← Nat.pow_add, ← Nat.pow_add]; congr 1; omega
    generalize d.toNat / 2 ^ (8 * k) / 2 ^ 8 = q at *
    generalize d.toNat % 2 ^ (8 * k) = r at *
    generalize 2 ^ (8 * k) = p at *
    calc (q * 2 ^ 8 + b.toNat) * p + r
        < (q * 2 ^ 8 + b.toNat + 1) * p := by rw [Nat.add_mul _ 1]; omega
      _ ≤ 2 ^ (2040 - 8 * k) * 2 ^ 8 * p := Nat.mul_le_mul_right _ (by omega)
      _ = 2 ^ 2048 := hp
  have hsplit : d.toNat = (d.toNat / 2 ^ (8 * k) / 2 ^ 8 * 2 ^ 8 + d.toNat / 2 ^ (8 * k) % 2 ^ 8) * 2 ^ (8 * k) +
      d.toNat % 2 ^ (8 * k) := by
    rw [Nat.div_add_mod', Nat.div_add_mod']
  have hr : d.toNat % 2 ^ (8 * k) < 2 ^ (8 * k) := Nat.mod_lt _ (Nat.two_pow_pos _)
  apply BitVec.eq_of_toNat_eq
  rw [BitVec.extractLsb'_toNat, Nat.shiftRight_eq_div_pow, hval, byte_of_pieces _ _ _ _ _ b.isLt hr]
  split
  · rfl
  · rename_i h
    rw [BitVec.extractLsb'_toNat, Nat.shiftRight_eq_div_pow]
    conv => rhs; rw [hsplit, byte_of_pieces _ _ _ _ _ (Nat.mod_lt _ (by decide)) hr, if_neg h]

theorem lineOf_setLine (s : State) (l x : Nat) (v : Line) :
    (s.setLine l v).lineOf x = if x / 256 = l then some v.data else s.lineOf x := by
  simp only [State.lineOf, State.setLine, find?_key_insert]
  by_cases h : x / 256 = l
  · simp [h]
  · simp [h]

/-- A byte is read from its cached copy, else from memory. -/
theorem byteAt_of_lineOf {s t : State} {x y : Nat} (hr : inRegs x = inRegs y) (hl : t.lineOf x = s.lineOf y)
    (hx : x % 256 = y % 256) (hm : Tbl.get t.mem 0 x = Tbl.get s.mem 0 y) : t.byteAt x = s.byteAt y := by
  rw [State.byteAt, State.byteAt, hr, hl, hx, hm]

theorem line_eq_iff {a x : Nat} (h : x / 256 = a / 256) : x % 256 = a % 256 ↔ x = a := by omega

/-- A byte of a line of which a cached copy takes one byte. -/
theorem byteAt_of_line_byte {s t : State} {a x : Nat} {b : Byte} {d : BitVec 2048} (ha : inRegs a = false)
    (hd : s.lineOf a = some d)
    (ht : ∀ y, t.lineOf y = if y / 256 = a / 256 then some (lineWithByte d (a % 256) b) else s.lineOf y)
    (hsame : ∀ y, y / 256 = a / 256 → s.lineOf y = s.lineOf a) (hm : t.mem = s.mem) :
    t.byteAt x = if x = a then b else s.byteAt x := by
  by_cases hx : x / 256 = a / 256
  · have hreg : inRegs x = inRegs a := by
      simp only [inRegs, decide_eq_decide]
      omega
    rw [State.byteAt, State.byteAt, hreg, ha, ht, if_pos hx, hsame x hx, hd]
    simp only [Bool.false_eq_true, if_false]
    rw [extract_lineWithByte _ _ _ _ (Nat.mod_lt _ (by decide))]
    simp only [line_eq_iff hx]
  · rw [if_neg (fun e => hx (by rw [e]))]
    exact byteAt_of_lineOf rfl (by rw [ht, if_neg hx]) rfl (by rw [hm])

/-- Bytes of one line have one cached copy. -/
theorem lineOf_of_line_eq (s : State) {x a : Nat} (h : x / 256 = a / 256) : s.lineOf x = s.lineOf a := by
  have hlt : x < 0x6000000000 ↔ a < 0x6000000000 := by omega
  have hq : x / 0x1800000000 = a / 0x1800000000 := by omega
  simp only [State.lineOf, h, hlt, hq]

/-- A line of a list in which the lines of one number are replaced by lines of the same number. -/
theorem find?_map_line (vs : List Victim) (l m : Nat) (g : Victim → Victim) (hg : ∀ v, (g v).line = v.line)
    (hne : ∀ v, v.line ≠ l → g v = v) :
    (vs.map g).find? (fun v => v.line == m) =
      if m = l then (vs.find? (fun v => v.line == m)).map g else vs.find? (fun v => v.line == m) := by
  rw [List.find?_map, show ((fun v : Victim => v.line == m) ∘ g) = (fun v => v.line == m) by
    funext v; simp [hg]]
  split
  · rfl
  · rename_i h
    cases hf : vs.find? (fun v => v.line == m) with
    | none => rfl
    | some v =>
      have hv : v.line = m := by simpa using List.find?_some hf
      rw [Option.map_some, hne v (by omega)]

/-- A byte stored in module memory reads back, whether its line is cached, waits in a victim buffer or is in memory; every
other byte reads as before. -/
theorem byteAt_putByte (s : State) (a : Nat) (b : Byte) (x : Nat) (ha : inRegs a = false) :
    (s.putByte a b).byteAt x = if x = a then b else s.byteAt x := by
  have hsame : ∀ y, y / 256 = a / 256 → s.lineOf y = s.lineOf a := fun y h => lineOf_of_line_eq s h
  unfold State.putByte
  split
  · -- a valid line
    rename_i e he
    refine byteAt_of_line_byte (d := e.2.data) ha (by rw [State.lineOf, he]) (fun y => ?_) hsame ?_
    · dsimp only
      rw [lineOf_setLine]
      split
      · rfl
      · split <;> rfl
    · dsimp only
      split <;> rfl
  · rename_i hnone
    dsimp only
    split
    · -- a line in the victim buffer
      rename_i hv
      rw [Bool.and_eq_true, decide_eq_true_eq, List.any_eq_true] at hv
      obtain ⟨hlow, hv⟩ := hv
      obtain ⟨v, hv⟩ := Option.isSome_iff_exists.1 (List.find?_isSome.2 hv)
      have hline : v.line = a / 256 := by simpa using List.find?_some hv
      refine byteAt_of_line_byte (d := v.home.data) ha (by rw [State.lineOf, hnone, if_pos hlow, hv]; rfl) (fun y => ?_)
        hsame rfl
      by_cases hy : y / 256 = a / 256
      · have hquad : y / 0x1800000000 = a / 0x1800000000 := by omega
        rw [if_pos hy]
        simp only [State.lineOf, hy, hnone, hquad, Tbl.get_set_same]
        rw [if_pos (by omega), find?_map_line _ (a / 256) _ _ (by intro v; split <;> rfl) (by intro v h; simp [h]),
          if_pos rfl, hv]
        simp [hline]
      · rw [if_neg hy]
        simp only [State.lineOf, Tbl.get_set]
        split
        · rfl
        · by_cases hquad : y / 0x1800000000 = a / 0x1800000000
          · rw [if_pos hquad, find?_map_line _ (a / 256) _ _ (by intro v; split <;> rfl) (by intro v h; simp [h]),
              if_neg hy, hquad]
          · rw [if_neg hquad]
    · -- no cached copy
      rename_i hv
      have hl : s.lineOf a = none := by
        rw [State.lineOf, hnone]
        simp only [ite_eq_right_iff, Option.map_eq_none_iff, List.find?_eq_none]
        intro hlow v hmem he
        exact hv (by rw [Bool.and_eq_true, decide_eq_true_eq, List.any_eq_true]; exact ⟨hlow, v, hmem, he⟩)
      rw [ha, if_neg Bool.false_ne_true]
      by_cases hx : x = a
      · rw [if_pos hx, hx, State.byteAt, ha]
        have hl' : State.lineOf { s with mem := Tbl.set s.mem 0 a b } a = none := hl
        rw [hl']
        exact Tbl.get_set_same ..
      · rw [if_neg hx]
        exact byteAt_of_lineOf rfl rfl rfl ((Tbl.get_set ..).trans (if_neg hx))

theorem find?_map_same_key {α : Type} (t : Tbl α) (k : Nat) (g : Nat × α → Nat × α) (hg : ∀ e, (g e).1 = e.1) :
    (t.map g).find? (fun e => e.1 == k) = (t.find? (fun e => e.1 == k)).map g := by
  rw [List.find?_map]
  congr 2
  funext e
  rw [Function.comp_apply, hg]

theorem msys_foldl_sub {γ : Type} (off : γ → Nat) (l : List γ) (s : State) :
    (l.foldl (fun s e => s.sub (off e) 1) s).msys = s.msys :=
  (Keeps.fold (Keeps.refl s) (fun _ _ h => h.trans (State.sub_keeps ..))).msys rfl

/-- Clearing poison changes no byte: a line keeps its number and its data. -/
theorem byteAt_clearPoison (s : State) (a n x : Nat) : (s.clearPoison a n).byteAt x = s.byteAt x := by
  have hmem : (s.clearPoison a n).mem = s.mem := (State.clearPoison_keeps s a n).mem rfl
  refine byteAt_of_lineOf rfl ?_ rfl (by rw [hmem])
  unfold State.clearPoison State.lineOf
  dsimp only
  rw [msys_foldl_sub]
  dsimp only
  rw [find?_map_same_key _ _ _ (fun e => by split <;> rfl)]
  cases s.msys.lines.find? (fun e => e.1 == x / 256) with
  | none => rfl
  | some e =>
    rw [Option.map_some]
    dsimp only
    split <;> rfl

/-- A string written to module memory reads back; the other bytes read as before. -/
theorem byteAt_putBytes (s : State) (a x : Nat) (bs : List Byte) (h : ∀ j, j < bs.length → inRegs (a + j) = false) :
    (s.putBytes a bs).byteAt x = if a ≤ x ∧ x < a + bs.length then bs.getD (x - a) 0 else s.byteAt x := by
  unfold State.putBytes
  dsimp only
  rw [get_foldl_put State.byteAt State.putByte (fun a => inRegs a = false) (fun s a b x ha => byteAt_putByte s a b x ha)
    bs _ a x h]
  split
  · rfl
  · split
    · rfl
    · exact byteAt_clearPoison ..

theorem bytesAt_putBytes (s : State) (a : Nat) (bs : List Byte) (h : ∀ j, j < bs.length → inRegs (a + j) = false) :
    (s.putBytes a bs).bytesAt a bs.length = bs := by
  rw [State.bytesAt]
  refine Eq.trans (List.map_congr_left fun j hj => ?_) (map_range_getD bs)
  rw [byteAt_putBytes s a _ bs h, if_pos (by have := List.mem_range.1 hj; omega), Nat.add_sub_cancel_left]

end State
end Machine
end Sys2Proof
end

section
/-! Register accesses: what a write leaves in each field of a register, and the registers of the memory and reliability
blocks, whose accesses do nothing but read and write the register (R9, R30, R31). -/
namespace Sys2Proof

/-- Fields that stand in ascending order from bit `b` on, all below bit `n`. -/
def fieldsApart (n : Nat) : Nat → List FieldRow → Bool
  | b, [] => decide (b ≤ n)
  | b, f :: fs => decide (b ≤ f.lo) && fieldsApart n (f.lo + f.len) fs

theorem fieldsApart_le {n b : Nat} {fs : List FieldRow} (h : fieldsApart n b fs = true) : b ≤ n := by
  induction fs generalizing b with
  | nil => simpa [fieldsApart] using h
  | cons f fs ih =>
    rw [fieldsApart, Bool.and_eq_true, decide_eq_true_eq] at h
    have := ih h.2
    omega

theorem fieldsApart_mem {n b : Nat} {fs : List FieldRow} (h : fieldsApart n b fs = true) {f : FieldRow} (hf : f ∈ fs) :
    b ≤ f.lo ∧ f.lo + f.len ≤ n := by
  induction fs generalizing b with
  | nil => cases hf
  | cons g fs ih =>
    rw [fieldsApart, Bool.and_eq_true, decide_eq_true_eq] at h
    rcases List.mem_cons.1 hf with rfl | hf
    · exact ⟨h.1, fieldsApart_le h.2⟩
    · have := ih h.2 hf
      omega

/-- Values laid out in their fields over `a`. -/
def layFields (w : FieldRow → Nat) (fs : List FieldRow) (a : Nat) : Nat := fs.foldl (fun a f => a + w f * 2 ^ f.lo) a

theorem layFields_cons (w : FieldRow → Nat) (f : FieldRow) (fs : List FieldRow) (a : Nat) :
    layFields w (f :: fs) a = layFields w fs (a + w f * 2 ^ f.lo) := rfl

theorem layFields_step_lt {w : FieldRow → Nat} {f : FieldRow} {a b : Nat} (hw : w f < 2 ^ f.len) (ha : a < 2 ^ b)
    (hb : b ≤ f.lo) : a + w f * 2 ^ f.lo < 2 ^ (f.lo + f.len) := by
  have hp : 2 ^ b ≤ 2 ^ f.lo := Nat.pow_le_pow_right (by decide) hb
  calc a + w f * 2 ^ f.lo < 2 ^ f.lo + w f * 2 ^ f.lo := by omega
    _ = (w f + 1) * 2 ^ f.lo := by rw [Nat.succ_mul, Nat.add_comm]
    _ ≤ 2 ^ f.len * 2 ^ f.lo := Nat.mul_le_mul_right _ hw
    _ = 2 ^ (f.lo + f.len) := by rw [Nat.pow_add, Nat.mul_comm]

theorem layFields_lt {w : FieldRow → Nat} (hw : ∀ f, w f < 2 ^ f.len) {n b a : Nat} {fs : List FieldRow}
    (h : fieldsApart n b fs = true) (ha : a < 2 ^ b) : layFields w fs a < 2 ^ n := by
  induction fs generalizing b a with
  | nil => exact Nat.lt_of_lt_of_le ha (Nat.pow_le_pow_right (by decide) (fieldsApart_le h))
  | cons f fs ih =>
    rw [fieldsApart, Bool.and_eq_true, decide_eq_true_eq] at h
    exact ih h.2 (layFields_step_lt (hw f) ha h.1)

/-- What lies below the fields stands. -/
theorem layFields_mod {w : FieldRow → Nat} {n b a : Nat} {fs : List FieldRow} (h : fieldsApart n b fs = true) :
    layFields w fs a % 2 ^ b = a % 2 ^ b := by
  induction fs generalizing b a with
  | nil => rfl
  | cons f fs ih =>
    rw [fieldsApart, Bool.and_eq_true, decide_eq_true_eq] at h
    obtain ⟨k, hk⟩ := Nat.exists_eq_add_of_le h.1
    have hcut := congrArg (· % 2 ^ b) (ih (a := a + w f * 2 ^ f.lo) h.2)
    simp only [Nat.mod_mod_of_dvd _ (Nat.pow_dvd_pow 2 (show b ≤ f.lo + f.len by omega))] at hcut
    rw [layFields_cons, hcut, hk, Nat.pow_add, Nat.mul_left_comm, Nat.add_mul_mod_self_left]

/-- Each field holds its value. -/
theorem bitsOf_layFields {w : FieldRow → Nat} (hw : ∀ f, w f < 2 ^ f.len) {n b a : Nat} {fs : List FieldRow}
    (h : fieldsApart n b fs = true) (ha : a < 2 ^ b) {f : FieldRow} (hf : f ∈ fs) :
    bitsOf (layFields w fs a) f.lo f.len = w f := by
  induction fs generalizing b a with
  | nil => cases hf
  | cons g fs ih =>
    rw [fieldsApart, Bool.and_eq_true, decide_eq_true_eq] at h
    have hstep := layFields_step_lt (hw g) ha h.1
    rcases List.mem_cons.1 hf with rfl | hf
    · have hlow : a < 2 ^ f.lo := Nat.lt_of_lt_of_le ha (Nat.pow_le_pow_right (by decide) h.1)
      have hkeep := layFields_mod (w := w) (a := a + w f * 2 ^ f.lo) h.2
      rw [Nat.mod_eq_of_lt hstep] at hkeep
      rw [layFields_cons, bitsOf, ← Nat.mod_mul_right_div_self, ← Nat.pow_add, hkeep, Nat.mul_comm,
        Nat.add_mul_div_left _ _ (Nat.two_pow_pos _), Nat.div_eq_of_lt hlow, Nat.zero_add]
    · exact ih h.2 hstep hf

theorem bitsOf_lt (x lo len : Nat) : bitsOf x lo len < 2 ^ len := Nat.mod_lt _ (Nat.two_pow_pos _)

/-- Cutting a number above a field leaves the field. -/
theorem bitsOf_mod {x lo len n : Nat} (h : lo + len ≤ n) : bitsOf (x % 2 ^ n) lo len = bitsOf x lo len := by
  rw [bitsOf, bitsOf, ← Nat.mod_mul_right_div_self, ← Nat.pow_add, Nat.mod_mod_of_dvd _ (Nat.pow_dvd_pow 2 h),
    Nat.pow_add, Nat.mod_mul_right_div_self]

/-! ### The register table -/

/-- Every register's fields stand apart within its width. -/
theorem regTable_fieldsApart : ∀ r ∈ regTable, fieldsApart (8 * r.bytes) 0 r.fields = true ∧ r.bytes ≤ 8 := by
  decide +kernel

/-- An offset past a row's last register. -/
def RegRow.endOff (r : RegRow) : Nat :=
  match r.dims with
  | [] => r.off + 1
  | (n, st) :: _ => r.off + n * st

theorem regTable_stride_pos : ∀ r ∈ regTable, ∀ d ∈ r.dims, 0 < d.2 := by decide +kernel

theorem RegRow.hit_lt {r : RegRow} {off : Nat} (hr : r ∈ regTable) (h : r.hit off = true) : off < r.endOff := by
  have hpos := regTable_stride_pos r hr
  rw [RegRow.hit, Bool.and_eq_true, decide_eq_true_eq] at h
  obtain ⟨hle, hd⟩ := h
  unfold RegRow.endOff
  cases hdims : r.dims with
  | nil =>
    rw [hdims, dimsHit, beq_iff_eq] at hd
    dsimp only
    omega
  | cons d ds =>
    rw [hdims, dimsHit, Bool.and_eq_true, decide_eq_true_eq] at hd
    have := (Nat.div_lt_iff_lt_mul (hpos d (by simp [hdims]))).1 hd.1
    dsimp only
    omega

theorem rowAt_mem {off : Nat} {r : RegRow} (h : rowAt off = some r) : r ∈ regTable := List.mem_of_find?_eq_some h

theorem rowAt_le {off : Nat} {r : RegRow} (h : rowAt off = some r) : r.off ≤ off := by
  have hit := List.find?_some h
  rw [RegRow.hit, Bool.and_eq_true, decide_eq_true_eq] at hit
  exact hit.1

theorem rowAt_hit {off : Nat} {r : RegRow} (h : rowAt off = some r) : r.hit off = true := by
  simpa using List.find?_some h

theorem regTable_wide_aligned : ∀ r ∈ regTable, r.bytes = 8 → r.off % 8 = 0 ∧ ∀ d ∈ r.dims, d.2 % 8 = 0 := by
  decide +kernel

theorem dimsHit_mod {m : Nat} {dims : List (Nat × Nat)} {o : Nat} (hd : ∀ d ∈ dims, d.2 % m = 0)
    (h : dimsHit dims o = true) : o % m = 0 := by
  induction dims generalizing o with
  | nil =>
    rw [dimsHit, beq_iff_eq] at h
    rw [h, Nat.zero_mod]
  | cons d ds ih =>
    rw [dimsHit, Bool.and_eq_true] at h
    have := ih (fun d hd' => hd d (List.mem_cons_of_mem _ hd')) h.2
    rwa [Nat.mod_mod_of_dvd _ (Nat.dvd_of_mod_eq_zero (hd d (List.mem_cons_self ..)))] at this

/-- Registers whose read does more than answer the register's value. -/
def actsOnRead : List String :=
  ["THM_EVENT", "POD_STEP", "SCH_POOL_TAKE", "FAB_SESS_STATUS", "FAB_SESS_RATE", "FAB_SESS_TX_PKTS", "FAB_SESS_RETX",
   "FAB_SESS_ACK_DEADLINE"]

theorem actsOnRead_apart_memory : ∀ r ∈ regTable, r.name ∈ actsOnRead → r.endOff ≤ 0x800000 ∨ 0xA00000 ≤ r.off := by
  decide +kernel

namespace Machine

theorem fieldWrite_lt (locked : Bool) (old v : Nat) (f : FieldRow) : fieldWrite locked old v f < 2 ^ f.len := by
  have ho := bitsOf_lt old f.lo f.len
  have hv := bitsOf_lt v f.lo f.len
  unfold fieldWrite
  cases f.access with
  | rw => exact hv
  | ro => exact ho
  | wo => exact Nat.two_pow_pos _
  | w1c => exact Nat.lt_of_le_of_lt (Nat.sub_le _ _) ho
  | rwl => dsimp only; split <;> assumption

namespace State

theorem rowAt_of_wide {off : Nat} (h : wide off = true) : ∃ r, rowAt off = some r ∧ r.bytes = 8 := by
  unfold wide at h
  cases hr : rowAt off with
  | none => rw [hr] at h; cases h
  | some r => rw [hr] at h; exact ⟨r, rfl, of_decide_eq_true h⟩

theorem wide_eq_false {off : Nat} {r : RegRow} (hrow : rowAt off = some r) (hb : r.bytes = 4) : wide off = false := by
  simp [wide, hrow, hb]

/-- 64-bit registers are naturally aligned (R28). -/
theorem aligned_of_wide {off : Nat} (h : wide off = true) : off % 8 = 0 := by
  obtain ⟨r, hrow, hb⟩ := rowAt_of_wide h
  obtain ⟨hoff, hd⟩ := regTable_wide_aligned r (rowAt_mem hrow) hb
  have hit := rowAt_hit hrow
  rw [RegRow.hit, Bool.and_eq_true] at hit
  have := dimsHit_mod hd hit.2
  have := rowAt_le hrow
  omega

theorem wide_add_four {off : Nat} (hal : off % 8 = 0) : wide (off + 4) = false := by
  rw [← Bool.not_eq_true]
  intro h
  have := aligned_of_wide h
  omega

theorem baseOff_of_aligned {off : Nat} (hal : off % 8 = 0) : baseOff off = off := by
  rw [baseOff, if_neg]
  simp only [Bool.and_eq_true, decide_eq_true_eq]
  omega

theorem baseOff_high {off : Nat} (hw : wide off = true) : baseOff (off + 4) = off := by
  have hal := aligned_of_wide hw
  rw [baseOff, Nat.add_sub_cancel, hw, if_pos]
  simp only [Bool.and_true, decide_eq_true_eq]
  omega

/-- The offsets of the memory block and of the reliability block but for RAS_MAINT: registers without an effect of their
own when written. -/
def inPlainBlock (off : Nat) : Prop :=
  0x800000 ≤ off ∧ off < 0xA00000 ∨ 0x1400000 ≤ off ∧ off < 0x1500000 ∧ off ≠ R.RAS_MAINT

theorem inAbsentUnit_of_plain (s : State) {off : Nat} (h : inPlainBlock off) : s.inAbsentUnit off = false := by
  unfold inPlainBlock at h
  unfold State.inAbsentUnit State.inAbsentCore State.inUnusedPort
  rw [decide_eq_false (by omega), decide_eq_false (by omega), decide_eq_false (by omega)]
  rfl

theorem critical_of_plain {off : Nat} (h : inPlainBlock off) : critical off = false := by
  simp only [inPlainBlock, R.RAS_MAINT] at h
  unfold State.critical
  rw [Bool.or_eq_false_iff, decide_eq_false_iff_not, R.PWR_RESET, R.RAS_MAINT]
  refine ⟨by omega, List.any_eq_false.2 fun i hi => ?_⟩
  have hi := List.mem_range.1 hi
  simp only [List.any_cons, List.any_nil, Bool.or_false, Bool.or_eq_true, decide_eq_true_eq, R.SEAM_VOTE_CFG,
    R.SEAM_VOTE_TREE, R.SEAM_VOTE_CHILDREN, R.SEAM_VOTE_MEMBERS, R.SEAM_VOTE_PODS_LO, R.SEAM_VOTE_PODS_HI,
    R.SEAM_NORM_BOUND, R.SEAM_QUERY_AFTER, R.SEAM_APPLY_DEADLINE]
  omega

/-- A write of a register without an effect of its own follows the access codes alone. -/
theorem writeReg_plain (s : State) (req : Requester) {off : Nat} (v : Nat) {r : RegRow} (h : inPlainBlock off)
    (hrow : rowAt off = some r) : s.writeReg req off v = s.writeGeneric r off v := by
  have habs := inAbsentUnit_of_plain s h
  unfold inPlainBlock at h
  unfold State.writeReg
  rw [hrow]
  dsimp only
  rw [habs, if_neg Bool.false_ne_true, if_neg (by omega), if_neg (by omega), if_neg (by omega), if_neg (by omega)]
  rcases h with h | h
  · rw [if_pos h.2]
  · rw [if_neg (by omega), if_neg (by omega), if_neg (by omega), if_neg (by omega), if_neg h.2.2,
      if_neg (by omega)]

/-- A read of a register without an effect of its own answers its value and changes nothing. -/
theorem readReg_plain (s : State) (req : Requester) {off : Nat} {r : RegRow} (hrow : rowAt off = some r)
    (habs : s.inAbsentUnit off = false) (hname : r.name ∉ actsOnRead) : s.readReg req off = (s.reg off, s) := by
  unfold State.readReg
  rw [hrow]
  dsimp only
  rw [habs, if_neg Bool.false_ne_true]
  split <;> simp_all [actsOnRead]

/-- So does a read of a register of the memory block. -/
theorem readReg_memory (s : State) (req : Requester) {off : Nat} {r : RegRow} (hlo : 0x800000 ≤ off)
    (hhi : off < 0xA00000) (hrow : rowAt off = some r) : s.readReg req off = (s.reg off, s) := by
  have hmem := rowAt_mem hrow
  have hlt := RegRow.hit_lt hmem (rowAt_hit hrow)
  have hle := rowAt_le hrow
  refine readReg_plain s req hrow (inAbsentUnit_of_plain s (.inl ⟨hlo, hhi⟩)) fun hn => ?_
  have := actsOnRead_apart_memory r hmem hn
  omega

/-- A field of a register after a write by access codes. -/
theorem bitsOf_writeGeneric (s : State) {off : Nat} (v : Nat) {r : RegRow} {f : FieldRow} (hrow : rowAt off = some r)
    (hf : f ∈ r.fields) : bitsOf ((s.writeGeneric r off v).reg off).toNat f.lo f.len =
      fieldWrite (s.fld R.GLB_STATUS F.GLB_STATUS_cfg_locked = 1) (s.reg off).toNat v f := by
  obtain ⟨hapart, hbytes⟩ := regTable_fieldsApart r (rowAt_mem hrow)
  have hw := fieldWrite_lt (s.fld R.GLB_STATUS F.GLB_STATUS_cfg_locked = 1) (s.reg off).toNat v
  have hlt := layFields_lt hw hapart (by decide : (0 : Nat) < 2 ^ 0)
  have hval : ((s.writeGeneric r off v).reg off).toNat = layFields (fieldWrite (s.fld R.GLB_STATUS F.GLB_STATUS_cfg_locked = 1)
      (s.reg off).toNat v) r.fields 0 := by
    rw [State.writeGeneric, State.reg_setReg, if_pos rfl, BitVec.toNat_ofNat]
    exact Nat.mod_eq_of_lt (Nat.lt_of_lt_of_le hlt (Nat.pow_le_pow_right (by decide) (by omega)))
  rw [hval]
  exact bitsOf_layFields hw hapart (by decide) hf

end State
end Machine
end Sys2Proof
end

section
/-! Register accesses of the bus and the host's accesses of Overcast and Pocket (R9, R26, R30, R31, R341, R408). -/
namespace Sys2Proof.Machine
namespace State

/-! ### One 4-byte write (R9) -/

/-- An aligned 4-byte write of a 32-bit register without an effect of its own, by a requester that reaches it. -/
theorem busWrite_plain4 (s : State) (req : Requester) {off : Nat} (v : Nat) {r : RegRow} (h : inPlainBlock off)
    (hal : off % 4 = 0) (hrow : rowAt off = some r) (hb : r.bytes = 4) (hbase : baseOff off = off)
    (hreach : s.reach req off = true) : s.busWrite req off 4 v = s.writeGeneric r off (v % 2 ^ 32) := by
  have hself : (off % 8 = 4 && wide (off - 4)) = false := by
    rw [← Bool.not_eq_true]
    intro hc
    rw [baseOff, if_pos hc] at hbase
    simp only [Bool.and_eq_true, decide_eq_true_eq] at hc
    omega
  unfold State.busWrite
  rw [hbase, hreach, critical_of_plain h]
  simp only [hal, decide_true, true_or, Bool.and_self, Bool.not_true, Bool.false_eq_true, if_false, Bool.false_or,
    if_true, show ¬(4 = 8) by decide, decide_false, Bool.false_and, Bool.and_false]
  rw [State.write4, wide_eq_false hrow hb, hself]
  exact writeReg_plain s req _ h hrow

/-! ### The halves of a 64-bit register (R31) -/

section Halves

variable {s : State} {req : Requester} {off : Nat}

/-- A 4-byte read of a low word answers it and captures the high word for the requester. -/
theorem busRead_low (hlo : 0x800000 ≤ off) (hhi : off < 0xA00000) (hw : wide off = true) (hreach : s.reach req off = true) :
    s.busRead req off 4 = ((s.reg off).toNat % 2 ^ 32,
      { s with captured := ⟨req, off, BitVec.ofNat 32 ((s.reg off).toNat / 2 ^ 32)⟩ ::
          s.captured.filter (fun h => !(h.req == req && h.off == off)) }) := by
  have hal := aligned_of_wide hw
  obtain ⟨r, hrow, -⟩ := rowAt_of_wide hw
  have hlog : inLogWindow off = false := decide_eq_false (by omega)
  rw [State.busRead, baseOff_of_aligned hal, hreach, decide_eq_true (show off % 4 = 0 by omega), State.read4, hlog, hw,
    readReg_memory s req hlo hhi hrow]
  rfl

/-- A 4-byte write of a low word is held back for the requester. -/
theorem busWrite_low (v : Nat) (hlo : 0x800000 ≤ off) (hhi : off < 0xA00000) (hw : wide off = true)
    (hreach : s.reach req off = true) : s.busWrite req off 4 v =
      { s with heldLow := ⟨req, off, BitVec.ofNat 32 v⟩ :: s.heldLow.filter (fun h => !(h.req == req && h.off == off)) } := by
  have hal := aligned_of_wide hw
  rw [State.busWrite, baseOff_of_aligned hal, hreach, critical_of_plain (.inl ⟨hlo, hhi⟩),
    decide_eq_true (show off % 4 = 0 by omega)]
  simp only [show ¬(4 = 8) by decide, decide_false, Bool.false_and, Bool.or_self, Bool.and_false, Bool.false_eq_true,
    if_false, Bool.not_true, true_or, decide_true, Bool.and_self, if_true]
  rw [State.write4, if_pos hw]

/-- A 4-byte write of a high word acts with the low word held back. -/
theorem busWrite_high (v lo : Nat) {r : RegRow} (hlo : 0x800000 ≤ off) (hhi : off < 0xA00000) (hw : wide off = true)
    (hrow : rowAt off = some r) (hreach : s.reach req off = true) {h : HalfWord}
    (hheld : s.heldLow.find? (fun h => h.req == req && h.off == off) = some h) (hval : h.val.toNat = lo) :
    s.busWrite req (off + 4) 4 v =
      { s with heldLow := s.heldLow.filter (fun h => !(h.req == req && h.off == off)) }.writeGeneric r off
        (lo + v % 2 ^ 32 * 2 ^ 32) := by
  have hal := aligned_of_wide hw
  rw [State.busWrite, baseOff_high hw, hreach, critical_of_plain (.inl ⟨hlo, hhi⟩),
    decide_eq_true (show (off + 4) % 4 = 0 by omega)]
  simp only [show ¬(4 = 8) by decide, decide_false, Bool.false_and, Bool.or_self, Bool.and_false, Bool.false_eq_true,
    if_false, Bool.not_true, true_or, decide_true, Bool.and_self, if_true]
  rw [State.write4, wide_add_four hal, if_neg Bool.false_ne_true, Nat.add_sub_cancel, hw,
    decide_eq_true (show (off + 4) % 8 = 4 by omega), Bool.and_self, if_pos rfl, hheld, ← hval]
  exact writeReg_plain _ req _ (.inl ⟨hlo, hhi⟩) hrow

/-- A write of 8 bytes. -/
theorem busWrite_wide (v : Nat) {r : RegRow} (hlo : 0x800000 ≤ off) (hhi : off < 0xA00000) (hw : wide off = true)
    (hrow : rowAt off = some r) (hreach : s.reach req off = true) :
    s.busWrite req off 8 v = s.writeGeneric r off (v % 2 ^ 64) := by
  have hal := aligned_of_wide hw
  rw [State.busWrite, baseOff_high hw, baseOff_of_aligned hal, hreach, critical_of_plain (.inl ⟨hlo, hhi⟩), hal, hw]
  simp only [show ¬(8 = 4) by decide, decide_true, or_true, Bool.and_self, Bool.not_true, Bool.false_eq_true, if_false,
    Bool.or_self, Bool.and_false, if_true]
  exact writeReg_plain s req _ (.inl ⟨hlo, hhi⟩) hrow

end Halves

/-! ### Host accesses through BAR2 (R26, R341, R408) -/

section Bar2

variable {s : State} {f : Fn} {off a n : Nat}

/-- Overcast and the Pocket slots lie below the register region. -/
theorem bar2_lt (h : bar2 off = some a) : a < 0x18000000000 := by
  unfold bar2 at h
  split at h
  · rw [Option.some.injEq] at h
    omega
  · split at h
    · rw [Option.some.injEq] at h
      omega
    · cases h

theorem hostRead_unreadable (h : s.checkRange (fnWho f) a n ≠ 0) :
    s.hostRead f a n = (s.hostDenied f (s.checkRange (fnWho f) a n) a).hostAnswer f (List.replicate n 0xFF) false := by
  unfold State.hostRead
  split
  · exact absurd ‹_› h
  · rfl

theorem hostRead_readable (h : s.checkRange (fnWho f) a n = 0) (hwin : s.windowHeld a n = false)
    (hst : s.readStatus a n = 0) : s.hostRead f a n = s.hostAnswer f (s.bytesAt a n) false := by
  rw [State.hostRead, h]
  dsimp only
  rw [hwin, hst]
  rfl

theorem hostWrite_unmapped {data : Bytes} (h : s.checkRange (fnWho f) a data.length ≠ 0) :
    s.hostWrite f a data = s.hostDenied f (s.checkRange (fnWho f) a data.length) a := by
  unfold State.hostWrite
  split
  · exact absurd ‹_› h
  · rfl

theorem hostWrite_mapped {data : Bytes} (h : s.checkRange (fnWho f) a data.length = 0) :
    s.hostWrite f a data = s.putBytes a data := by
  rw [State.hostWrite, h]
  rfl

theorem sameBytes_of_keeps {w : Nat} {s t : State} (h : Keeps w s t) (h3 : w.testBit 3 = false) (h4 : w.testBit 4 = false)
    (h7 : w.testBit 7 = false) : SameBytes s t := sameBytes_of_eq (h.mem h3) (h.msys h7) (h.hostMem h4)

theorem exec_hostBarRead_bar2 (ha : bar2 off = some a) (hb : bar2 (off + n - 1) = some (a + n - 1)) :
    exec (.hostBarRead f 2 off n) s = .next (s.hostRead f a n) := by
  change execHostBarRead f 2 off n s = _
  simp [execHostBarRead, ha, hb]

theorem exec_hostBarWrite_bar2 {data : Bytes} (ha : bar2 off = some a)
    (hb : bar2 (off + data.length - 1) = some (a + data.length - 1)) :
    exec (.hostBarWrite f 2 off data) s = .next (s.hostWrite f a data) := by
  change execHostBarWrite f 2 off data s = _
  simp [execHostBarWrite, ha, hb]

end Bar2

end State

/-! ### The statement, clause by clause -/

/-- R9: every field of a 32-bit register by its access code; no other register changes. -/
theorem registerWrite_fields (s : State) (req : Requester) (off v : Nat) (r : RegRow) (f : FieldRow)
    (hplain : State.inPlainBlock off) (hal : off % 4 = 0) (hrow : rowAt off = some r) (hb : r.bytes = 4)
    (hbase : State.baseOff off = off) (hf : f ∈ r.fields) (hreach : s.reach req off = true) :
    Answers (exec (.registerWrite req off 4 v) s) (fun t =>
      bitsOf (t.reg off).toNat f.lo f.len =
        fieldWrite (s.fld R.GLB_STATUS F.GLB_STATUS_cfg_locked = 1) (s.reg off).toNat v f ∧
      SameRegs [off] s t ∧ Keeps (only [.regs]) s t) := by
  have hwidth : f.lo + f.len ≤ 32 := by
    have := (fieldsApart_mem (regTable_fieldsApart r (rowAt_mem hrow)).1 hf).2
    omega
  refine ⟨_, congrArg Host.Outcome.next (State.busWrite_plain4 s req v hplain hal hrow hb hbase hreach), ?_, ?_, State.setReg_keeps ..⟩
  · rw [State.bitsOf_writeGeneric s _ hrow hf]
    simp only [fieldWrite, bitsOf_mod hwidth]
  · intro x hx
    rw [State.writeGeneric, State.reg_setReg, if_neg (by simpa using hx)]

/-- R31: a read of the low word captures the high word for that requester alone. -/
theorem splitLowWordRead_captures (s : State) (req : Requester) (off : Nat) (hlo : 0x800000 ≤ off) (hhi : off < 0xA00000)
    (hw : State.wide off = true) (hreach : s.reach req off = true) :
    Answers (exec (.splitLowWordRead req off) s) (fun t =>
      t.host.reply = some ⟨req, bytesOf (s.reg off).toNat 4, false⟩ ∧ t.regs = s.regs ∧
      (∀ h ∈ t.captured, h ∈ s.captured ∨ h = ⟨req, off, (s.reg off).extractLsb' 32 32⟩) ∧
      (⟨req, off, (s.reg off).extractLsb' 32 32⟩ : HalfWord) ∈ t.captured) := by
  have hhigh : BitVec.ofNat 32 ((s.reg off).toNat / 2 ^ 32) = (s.reg off).extractLsb' 32 32 := by
    rw [BitVec.extractLsb', Nat.shiftRight_eq_div_pow]
  have hexec : exec (.splitLowWordRead req off) s = execSplitLowWordRead req off s := rfl
  rw [hexec, execSplitLowWordRead, State.busRead_low hlo hhi hw hreach, hhigh]
  refine ⟨_, rfl, ?_, rfl, fun h hh => ?_, List.mem_cons_self ..⟩
  · exact congrArg (fun bs => some (⟨req, bs, false⟩ : HostReply)) (bytesOf_mod _ 4)
  · rcases List.mem_cons.1 hh with rfl | hh
    · exact .inr rfl
    · exact .inl (List.mem_filter.1 hh).1

/-- R31: a low word is held back until the high word is written; then both take effect as one write of 8 bytes does. -/
theorem splitWordWrites_join (s : State) (req : Requester) (off : Nat) (lo hi : W32) (hlo : 0x800000 ≤ off)
    (hhi : off < 0xA00000) (hw : State.wide off = true) (hreach : s.reach req off = true) :
    Answers (exec (.splitLowWordWrite req off lo) s) (fun t =>
      t.regs = s.regs ∧ t.heldLow.find? (fun h => h.req == req && h.off == off) = some ⟨req, off, lo⟩ ∧
      Answers (exec (.splitHighWordWrite req off hi) t) (fun u =>
        u.heldLow.find? (fun h => h.req == req && h.off == off) = none ∧
        ∃ v, exec (.registerWrite req off 8 (lo.toNat + hi.toNat * 2 ^ 32)) s = .next v ∧ u.regs = v.regs)) := by
  obtain ⟨r, hrow, -⟩ := State.rowAt_of_wide hw
  have hsum : lo.toNat + hi.toNat % 2 ^ 32 * 2 ^ 32 = (lo.toNat + hi.toNat * 2 ^ 32) % 2 ^ 64 := by
    have := lo.isLt
    have := hi.isLt
    omega
  have hheld (l : List HalfWord) : ((⟨req, off, BitVec.ofNat 32 lo.toNat⟩ : HalfWord) :: l).find?
      (fun h => h.req == req && h.off == off) = some ⟨req, off, lo⟩ := by
    rw [List.find?_cons]
    simp
  refine ⟨_, congrArg Host.Outcome.next (State.busWrite_low lo.toNat hlo hhi hw hreach), rfl, hheld _, _,
    congrArg Host.Outcome.next (State.busWrite_high hi.toNat lo.toNat hlo hhi hw hrow hreach (hheld _) rfl), ?_, _,
    congrArg Host.Outcome.next (State.busWrite_wide _ hlo hhi hw hrow hreach), ?_⟩
  · rw [State.writeGeneric, State.setReg_heldLow, List.find?_eq_none]
    intro h hh
    simpa only [Bool.not_eq_true, Bool.not_eq_true'] using (List.mem_filter.1 hh).2
  · rw [hsum]
    rfl

/-- R341: a host's read of Overcast or Pocket. -/
theorem hostBarRead_bar2 (s : State) (f : Fn) (off a n : Nat) (ha : State.bar2 off = some a)
    (hb : State.bar2 (off + n - 1) = some (a + n - 1)) :
    (s.checkRange (State.fnWho f) a n = 0 → s.windowHeld a n = false → s.readStatus a n = 0 →
      Answers (exec (.hostBarRead f 2 off n) s) (fun t =>
        t.host.reply = some ⟨State.fnReq f, s.bytesAt a n, false⟩ ∧ t.regs = s.regs ∧ SameBytes s t)) ∧
    (s.checkRange (State.fnWho f) a n ≠ 0 → Answers (exec (.hostBarRead f 2 off n) s) (fun t =>
      t.host.reply = some ⟨State.fnReq f, List.replicate n 0xFF, false⟩ ∧ SameBytes s t)) := by
  rw [State.exec_hostBarRead_bar2 ha hb]
  constructor
  · intro hchk hwin hst
    exact ⟨_, congrArg Host.Outcome.next (State.hostRead_readable hchk hwin hst), rfl, rfl,
      State.sameBytes_of_keeps (State.hostAnswer_keeps ..) rfl rfl rfl⟩
  · intro hchk
    refine ⟨_, congrArg Host.Outcome.next (State.hostRead_unreadable hchk), rfl, State.sameBytes_of_keeps (w := 10485761) ?_ rfl rfl rfl⟩
    exact (State.hostDenied_keeps ..).weaken rfl |>.trans ((State.hostAnswer_keeps ..).weaken rfl)

/-- R341: a host's write of Overcast or Pocket. -/
theorem hostBarWrite_bar2 (s : State) (f : Fn) (off a : Nat) (data : Bytes) (ha : State.bar2 off = some a)
    (hne : data ≠ []) (hb : State.bar2 (off + data.length - 1) = some (a + data.length - 1)) :
    (s.checkRange (State.fnWho f) a data.length = 0 → Answers (exec (.hostBarWrite f 2 off data) s) (fun t =>
      t.bytesAt a data.length = data ∧ (∀ x, x < a ∨ a + data.length ≤ x → t.byteAt x = s.byteAt x))) ∧
    (s.checkRange (State.fnWho f) a data.length ≠ 0 →
      Answers (exec (.hostBarWrite f 2 off data) s) (fun t => SameBytes s t)) := by
  have hlast := State.bar2_lt hb
  have hlen := List.length_pos_iff.2 hne
  have hregs : ∀ j, j < data.length → State.inRegs (a + j) = false := fun j hj => decide_eq_false (by omega)
  rw [State.exec_hostBarWrite_bar2 ha hb]
  constructor
  · intro hchk
    refine ⟨_, congrArg Host.Outcome.next (State.hostWrite_mapped hchk), State.bytesAt_putBytes s a data hregs, fun x hx => ?_⟩
    rw [State.byteAt_putBytes s a x data hregs, if_neg (by omega)]
  · intro hchk
    exact ⟨_, congrArg Host.Outcome.next (State.hostWrite_unmapped hchk),
      State.sameBytes_of_keeps (State.hostDenied_keeps ..) rfl rfl rfl⟩

end Sys2Proof.Machine

namespace Sys2Proof
open Machine

/-- Settles O20: the fields of a written register by their access codes, the halves of a 64-bit register, and the
host's accesses through BAR2. -/
theorem registerAndBarAccess : Obligations.RegisterAndBarAccess := by
  unfold Obligations.RegisterAndBarAccess
  refine ⟨?_, ?_, ?_⟩
  · intro s req off v r f hoff hal hrow hb hbase hf hreach
    obtain ⟨t, ht, hfield, hrest⟩ := registerWrite_fields s req off v r f hoff hal hrow hb hbase hf hreach
    refine ⟨t, ht, hfield.trans ?_, hrest⟩
    unfold fieldWrite
    cases f.access <;> simp
  · intro s req off lo hi hlo hhi _ hw hreach
    exact ⟨splitLowWordRead_captures s req off hlo hhi hw hreach, splitWordWrites_join s req off lo hi hlo hhi hw hreach⟩
  · intro s f off a n data ha
    exact ⟨fun _ hb => (hostBarRead_bar2 s f off a n ha hb).1, fun _ hb => (hostBarRead_bar2 s f off a n ha hb).2,
      fun hne hb => (hostBarWrite_bar2 s f off a data ha hne hb).1,
      fun hne hb => (hostBarWrite_bar2 s f off a data ha hne hb).2⟩

end Sys2Proof
end

section
/-! Queue entries (R344 to R348): the registers of a queue, an entry that starts, an entry that completes. -/
namespace Sys2Proof.Machine
namespace State

/-! ### Registers of a queue -/

/-- The offset that register `r` of page 0, queue 0 has for queue `q`. -/
def queueReg (q : QRef) (r : Nat) : Nat := queueBase q + (r - 0x410000)

theorem queueReg_inQueueRegs (q : QRef) {r : Nat} (h : r - 0x410000 < 0x40) : inQueueRegs (queueReg q r) = true := by
  have hq := q.q.isLt
  unfold queueReg queueBase inQueueRegs
  rw [decide_eq_true_eq]
  split
  · rename_i k _
    have hk := k.isLt
    omega
  · omega

theorem queueReg_ne (q : QRef) {r r' : Nat} (h : r' - 0x410000 ≠ r - 0x410000) : queueReg q r' ≠ queueReg q r := by
  unfold queueReg
  omega

/-- Registers of two queues of one page coincide only when the queues and the registers do. -/
theorem queueReg_ne_of_queue {p q : QRef} (hpage : p.page = q.page) (hpq : p.q ≠ q.q) {r r' : Nat}
    (h : r - 0x410000 < 0x40) (h' : r' - 0x410000 < 0x40) : queueReg p r ≠ queueReg q r' := by
  have hne : p.q.val ≠ q.q.val := fun e => hpq (Fin.ext e)
  unfold queueReg queueBase
  rw [hpage]
  split <;> omega

theorem qfld_setQfld (s : State) (q : QRef) (r : Nat) (f : Fld) (v : Nat) (h : f.lo + f.len ≤ 64) :
    (s.setQfld q r f v).qfld q r f = v % 2 ^ f.len := State.fld_setFld s _ f v h

theorem reg_setQfld (s : State) (q : QRef) (r : Nat) (f : Fld) (v : Nat) {x : Nat} (h : x ≠ queueReg q r) :
    (s.setQfld q r f v).reg x = s.reg x := (State.reg_setFld ..).trans (if_neg h)

theorem fld_congr {s t : State} {r : Nat} (h : t.reg r = s.reg r) (f : Fld) : t.fld r f = s.fld r f := by
  rw [State.fld, h, State.fld]

theorem qfld_congr {s t : State} {q : QRef} {r : Nat} (h : t.reg (queueReg q r) = s.reg (queueReg q r)) (f : Fld) :
    t.qfld q r f = s.qfld q r f := fld_congr h f

theorem queueSize_le (s : State) (q : QRef) : s.queueSize q ≤ 2 ^ 16 :=
  Nat.pow_le_pow_right (by decide) (Nat.min_le_left ..)

theorem queueSize_pos (s : State) (q : QRef) : 0 < s.queueSize q := Nat.two_pow_pos _

/-- The completion ring of queue `q` stands as before: where it lies, its size, its tail. -/
structure SameRing (q : QRef) (s t : State) : Prop where
  inHbm : t.qfld q (R.HST_Q_CFG 0 0) F.HST_Q_CFG_in_hbm = s.qfld q (R.HST_Q_CFG 0 0) F.HST_Q_CFG_in_hbm
  size : t.queueSize q = s.queueSize q
  base : t.qfld q (R.HST_Q_CPL_BASE 0 0) F.HST_Q_CPL_BASE_addr = s.qfld q (R.HST_Q_CPL_BASE 0 0) F.HST_Q_CPL_BASE_addr
  tail : t.qfld q (R.HST_Q_CPL_TAIL 0 0) F.HST_Q_CPL_TAIL_index = s.qfld q (R.HST_Q_CPL_TAIL 0 0) F.HST_Q_CPL_TAIL_index

theorem SameRing.of_regs {q : QRef} {s t : State}
    (hcfg : t.reg (queueReg q (R.HST_Q_CFG 0 0)) = s.reg (queueReg q (R.HST_Q_CFG 0 0)))
    (hbase : t.reg (queueReg q (R.HST_Q_CPL_BASE 0 0)) = s.reg (queueReg q (R.HST_Q_CPL_BASE 0 0)))
    (htail : t.reg (queueReg q (R.HST_Q_CPL_TAIL 0 0)) = s.reg (queueReg q (R.HST_Q_CPL_TAIL 0 0))) : SameRing q s t where
  inHbm := qfld_congr hcfg _
  size := by rw [State.queueSize, qfld_congr hcfg, State.queueSize]
  base := qfld_congr hbase _
  tail := qfld_congr htail _

theorem SameRing.trans {q : QRef} {s t u : State} (h : SameRing q s t) (k : SameRing q t u) : SameRing q s u :=
  ⟨k.inHbm.trans h.inHbm, k.size.trans h.size, k.base.trans h.base, k.tail.trans h.tail⟩

/-! ### An entry completes (R348) -/

/-- The next completion record of queue `q`, whose rings lie in host memory, is written. -/
def recorded (u : State) (q : QRef) (idx st res : Nat) : State :=
  have t := u.putHostBytes (u.qfld q (R.HST_Q_CPL_BASE 0 0) F.HST_Q_CPL_BASE_addr +
    16 * u.qfld q (R.HST_Q_CPL_TAIL 0 0) F.HST_Q_CPL_TAIL_index) (cplRecord idx st res)
  t.setQfld q (R.HST_Q_CPL_TAIL 0 0) F.HST_Q_CPL_TAIL_index
    ((u.qfld q (R.HST_Q_CPL_TAIL 0 0) F.HST_Q_CPL_TAIL_index + 1) % u.queueSize q)

/-- The only running entry, of queue `q` whose rings lie in host memory, has completed. -/
def finished (u : State) (q : QRef) (idx st res : Nat) (irqs : List (Nat × Nat)) : State :=
  { (u.setQfld q (R.HST_Q_STATUS 0 0) F.HST_Q_STATUS_running 0).recorded q idx st res with
    host := { u.host with works := [], irqs := irqs } }

theorem writeCpl_eq {u : State} {q : QRef} (idx st res : Nat) (irq : Bool)
    (hin : u.qfld q (R.HST_Q_CFG 0 0) F.HST_Q_CFG_in_hbm = 0) :
    ∃ irqs, u.writeCpl q idx st res irq = { u.recorded q idx st res with host := { u.host with irqs := irqs } } := by
  unfold State.writeCpl
  rw [hin]
  cases irq
  · exact ⟨_, rfl⟩
  · exact ⟨_, rfl⟩

theorem sameRing_setRunning (u : State) (q : QRef) (n : Nat) :
    SameRing q u (u.setQfld q (R.HST_Q_STATUS 0 0) F.HST_Q_STATUS_running n) :=
  .of_regs (reg_setQfld _ _ _ _ _ (queueReg_ne q (by decide))) (reg_setQfld _ _ _ _ _ (queueReg_ne q (by decide)))
    (reg_setQfld _ _ _ _ _ (queueReg_ne q (by decide)))

/-- The only running entry, whose rings lie in host memory, completes. -/
theorem completeWork_eq {u : State} {w : Work} (st res : Nat) (hw : u.host.works = [w])
    (hin : u.qfld w.q (R.HST_Q_CFG 0 0) F.HST_Q_CFG_in_hbm = 0) :
    ∃ irqs, u.completeWork w.id st res = u.finished w.q w.idx st res irqs := by
  have hwork : u.workOf w.id = some w := by simp [State.workOf, hw]
  have hleft : ([w].filter fun x => x.id != w.id) = [] := by simp
  obtain ⟨irqs, h⟩ := writeCpl_eq (u := ({ u with host := { u.host with works := [] } } : State).setQfld w.q
    (R.HST_Q_STATUS 0 0) F.HST_Q_STATUS_running 0) w.idx st res (bitOf w.desc.toNat 10)
    ((sameRing_setRunning u w.q 0).inHbm.trans hin)
  unfold State.completeWork
  rw [hwork]
  dsimp only
  rw [hw, hleft]
  exact ⟨irqs, h⟩

section Finished

variable (u : State) (q : QRef) (idx st res : Nat) (irqs : List (Nat × Nat))

theorem reg_finished {r : Nat} (hs : r ≠ queueReg q (R.HST_Q_STATUS 0 0)) (ht : r ≠ queueReg q (R.HST_Q_CPL_TAIL 0 0)) :
    (u.finished q idx st res irqs).reg r = u.reg r :=
  (reg_setQfld _ _ _ _ _ ht).trans (reg_setQfld _ _ _ _ _ hs)

/-- Registers that are no queue's read as before. -/
theorem reg_finished_of_not_queue {r : Nat} (h : inQueueRegs r = false) : (u.finished q idx st res irqs).reg r = u.reg r := by
  refine reg_finished u q idx st res irqs (fun e => ?_) (fun e => ?_)
  · rw [e, queueReg_inQueueRegs q (by decide)] at h
    cases h
  · rw [e, queueReg_inQueueRegs q (by decide)] at h
    cases h

theorem natOfBytes_cplRecord (hst : st < 2 ^ 8) (hres : res < 2 ^ 64) :
    natOfBytes (cplRecord idx st res) = idx % 2 ^ 16 + st * 2 ^ 16 + res * 2 ^ 64 := by
  rw [cplRecord, natOfBytes_append, natOfBytes_bytesOf_of_lt (by omega), natOfBytes_bytesOf_of_lt (by omega), length_bytesOf]
  omega

theorem length_cplRecord : (cplRecord idx st res).length = 16 := by simp [cplRecord]

theorem hostBytes_finished : (u.finished q idx st res irqs).hostBytes (u.qfld q (R.HST_Q_CPL_BASE 0 0) F.HST_Q_CPL_BASE_addr +
    16 * u.qfld q (R.HST_Q_CPL_TAIL 0 0) F.HST_Q_CPL_TAIL_index) 16 = cplRecord idx st res := by
  have h := sameRing_setRunning u q 0
  rw [← h.base, ← h.tail, ← length_cplRecord idx st res]
  exact hostBytes_putHostBytes ..

theorem cplTail_finished : (u.finished q idx st res irqs).qfld q (R.HST_Q_CPL_TAIL 0 0) F.HST_Q_CPL_TAIL_index =
    (u.qfld q (R.HST_Q_CPL_TAIL 0 0) F.HST_Q_CPL_TAIL_index + 1) % u.queueSize q := by
  have h := sameRing_setRunning u q 0
  have hlt := Nat.mod_lt (u.qfld q (R.HST_Q_CPL_TAIL 0 0) F.HST_Q_CPL_TAIL_index + 1) (queueSize_pos u q)
  rw [← h.size, ← h.tail] at hlt ⊢
  exact (qfld_setQfld _ _ _ _ _ (by decide)).trans (Nat.mod_eq_of_lt (Nat.lt_of_lt_of_le hlt (queueSize_le ..)))

end Finished

/-! ### An entry runs -/

/-- Since `s`, the entry at the head of queue `q` has started, as the only one running, and the completion ring of the
queue stands as in `s`. -/
structure Running (s : State) (q : QRef) (idx : Nat) (t : State) : Prop where
  works : ∃ w, t.host.works = [w] ∧ w.id = s.host.nextWork ∧ w.q = q ∧ w.idx = idx
  head : t.qfld q (R.HST_Q_HEAD 0 0) F.HST_Q_HEAD_index = (idx + 1) % s.queueSize q
  ring : SameRing q s t

/-- The running entry completes. -/
theorem Running.completeWork_eq {s t : State} {q : QRef} {idx : Nat} (h : Running s q idx t)
    (hin : s.qfld q (R.HST_Q_CFG 0 0) F.HST_Q_CFG_in_hbm = 0) (st res : Nat) :
    ∃ irqs, t.completeWork s.host.nextWork st res = t.finished q idx st res irqs := by
  obtain ⟨w, hw, hid, hq, hidx⟩ := h.works
  subst hq hidx
  rw [← hid]
  exact State.completeWork_eq st res hw (h.ring.inHbm.trans hin)

theorem Running.done_finished {s t : State} {q : QRef} {idx : Nat} (h : Running s q idx t) {st res : Nat} (hst : st < 2 ^ 8)
    (hres : res < 2 ^ 64) (irqs : List (Nat × Nat)) : s.Done (t.finished q idx st res irqs) q idx st res := by
  refine ⟨⟨?_, ?_⟩, rfl, ?_⟩
  · rw [← h.ring.base, ← h.ring.tail, hostBytes_finished, natOfBytes_cplRecord idx st res hst hres]
  · rw [← h.ring.tail, ← h.ring.size, cplTail_finished]
  · rw [← h.head]
    exact qfld_congr (reg_finished _ _ _ _ _ _ (queueReg_ne q (by decide)) (queueReg_ne q (by decide))) _

/-- What an operation leaves of the entries that run and of the queues: the entries, the accepted counters and every
register of a queue. -/
structure Quiet (t u : State) : Prop where
  works : u.host.works = t.host.works
  counters : u.host.counters = t.host.counters
  regs : ∀ r, inQueueRegs r = true → u.reg r = t.reg r

theorem Quiet.refl (t : State) : Quiet t t := ⟨rfl, rfl, fun _ _ => rfl⟩

theorem Quiet.trans {t u v : State} (h : Quiet t u) (k : Quiet u v) : Quiet t v :=
  ⟨k.works.trans h.works, k.counters.trans h.counters, fun r hr => (k.regs r hr).trans (h.regs r hr)⟩

theorem Running.of_quiet {s t u : State} {q : QRef} {idx : Nat} (h : Running s q idx t) (k : Quiet t u) :
    Running s q idx u where
  works := by rw [k.works]; exact h.works
  head := (qfld_congr (k.regs _ (queueReg_inQueueRegs q (by decide))) _).trans h.head
  ring := h.ring.trans (.of_regs (k.regs _ (queueReg_inQueueRegs q (by decide)))
    (k.regs _ (queueReg_inQueueRegs q (by decide))) (k.regs _ (queueReg_inQueueRegs q (by decide))))

/-! ### An entry starts (R345, R346) -/

/-- The entry at the head of queue `q` has started. -/
def started (s : State) (q : QRef) (idx : Nat) (d : BitVec 512) : State := (s.openWork q idx d none).2

theorem reg_started {s : State} {q : QRef} {idx : Nat} {d : BitVec 512} {r : Nat} (hh : r ≠ queueReg q (R.HST_Q_HEAD 0 0))
    (hs : r ≠ queueReg q (R.HST_Q_STATUS 0 0)) : (s.started q idx d).reg r = s.reg r :=
  (reg_setQfld _ _ _ _ _ hs).trans (reg_setQfld _ _ _ _ _ hh)

theorem reg_started_of_not_queue {s : State} {q : QRef} {idx : Nat} {d : BitVec 512} {r : Nat}
    (h : inQueueRegs r = false) : (s.started q idx d).reg r = s.reg r := by
  refine reg_started (fun e => ?_) (fun e => ?_)
  · rw [e, queueReg_inQueueRegs q (by decide)] at h
    cases h
  · rw [e, queueReg_inQueueRegs q (by decide)] at h
    cases h

/-- The entry that starts in an idle module runs. -/
theorem running_started {s : State} (q : QRef) (idx : Nat) (d : BitVec 512) (h : s.host.works = []) :
    Running s q idx (s.started q idx d) where
  works := ⟨_, by rw [show (s.started q idx d).host.works = s.host.works ++ _ from rfl, h]; rfl, rfl, rfl, rfl⟩
  head := by
    have hlt := Nat.mod_lt (idx + 1) (queueSize_pos s q)
    refine (qfld_congr (reg_setQfld _ _ _ _ _ (queueReg_ne q (by decide))) _).trans ?_
    refine (qfld_setQfld _ _ _ _ _ (by decide)).trans (Nat.mod_eq_of_lt ?_)
    exact Nat.lt_of_lt_of_le hlt (queueSize_le ..)
  ring := .of_regs (reg_started (queueReg_ne q (by decide)) (queueReg_ne q (by decide)))
    (reg_started (queueReg_ne q (by decide)) (queueReg_ne q (by decide)))
    (reg_started (queueReg_ne q (by decide)) (queueReg_ne q (by decide)))

end State
end Sys2Proof.Machine
end

section
/-! Command entries (R350 to R353): how the entry at the head of a queue reaches Thimble, the checks, and how a command that
completes at once ends. -/
namespace Sys2Proof.Machine
namespace State

/-! ### Operations that leave the queues alone -/

section QuietOps

variable {t : State} {off : Nat}

theorem Quiet.of_regs {u : State} (hhost : u.host = t.host) (h : ∀ r, inQueueRegs r = true → u.reg r = t.reg r) :
    Quiet t u := ⟨by rw [hhost], by rw [hhost], h⟩

/-- A register write outside the queues' registers. -/
theorem Quiet.of_reg {u : State} (hhost : u.host = t.host) (hoff : inQueueRegs off = false)
    (h : ∀ r, r ≠ off → u.reg r = t.reg r) : Quiet t u :=
  .of_regs hhost fun r hr => h r fun e => by rw [e, hoff] at hr; cases hr

theorem quiet_setReg (hoff : inQueueRegs off = false) (v : Word) : Quiet t (t.setReg off v) :=
  .of_reg rfl hoff fun _ h => (State.reg_setReg ..).trans (if_neg h)

theorem quiet_setFld (hoff : inQueueRegs off = false) (f : Fld) (v : Nat) : Quiet t (t.setFld off f v) :=
  quiet_setReg hoff _

theorem quiet_log (cls code : Nat) (u : LogUnit) (inst : Option Nat) (addr pc peer value : Nat) :
    Quiet t (t.log cls code u inst addr pc peer value) := by
  refine .of_regs (State.log_host ..) fun r hr => State.reg_log _ _ _ _ _ _ _ _ _ r (fun e => ?_) (fun e => ?_)
  · rw [e] at hr
    revert hr
    decide
  · rw [e, inQueueRegs, decide_eq_true_eq, R.RAS_LOG_DROPS] at hr
    omega

end QuietOps

/-! ### Facts about lists and the address map -/

theorem find?_eq_of_agree {α : Type} {p q : α → Bool} {l : List α} (h : ∀ x ∈ l, p x = q x) : l.find? p = l.find? q := by
  induction l with
  | nil => rfl
  | cons x l ih =>
    obtain ⟨hx, hl⟩ := List.forall_mem_cons.1 h
    rw [List.find?_cons, List.find?_cons, hx, ih hl]

theorem regionOf_pocket_lt {a c : Nat} (h : regionOf a = .pocket c) : c < 128 := by
  unfold regionOf at h
  repeat' split at h
  all_goals cases h
  omega

theorem regionOf_hbm_lt {a n : Nat} (h : regionOf a = .hbm n) : n < 8 := by
  unfold regionOf at h
  repeat' split at h
  all_goals cases h
  omega

/-! ### What the start of an entry leaves alone -/

/-- Beside the queues' registers, the entries that run and the accepted counters, `t` is `s`. -/
structure BesideQueues (s t : State) : Prop where
  regs : ∀ r, inQueueRegs r = false → t.reg r = s.reg r
  keeps : Keeps (only [.regs, .host]) s t
  host : t.host = { s.host with works := t.host.works, nextWork := t.host.nextWork, counters := t.host.counters }

theorem besideQueues_started (s : State) (q : QRef) (idx : Nat) (d : BitVec 512) : BesideQueues s (s.started q idx d) where
  regs _ h := reg_started_of_not_queue h
  keeps := State.openWork_keeps ..
  host := rfl

section BesideQueues

variable {s t : State} (h : BesideQueues s t)
include h

theorem BesideQueues.mem_eq : t.mem = s.mem := h.keeps.mem rfl
theorem BesideQueues.msys_eq : t.msys = s.msys := h.keeps.msys rfl
theorem BesideQueues.ras_eq : t.ras = s.ras := h.keeps.ras rfl
theorem BesideQueues.sessions_eq : t.sessions = s.sessions := h.keeps.sessions rfl
theorem BesideQueues.votes_eq : t.votes = s.votes := h.keeps.votes rfl
theorem BesideQueues.txns_eq : t.txns = s.txns := h.keeps.txns rfl
theorem BesideQueues.flash_eq : t.host.flash = s.host.flash := by rw [h.host]

theorem BesideQueues.fld_eq {r : Nat} (hr : inQueueRegs r = false) (f : Fld) : t.fld r f = s.fld r f :=
  fld_congr (h.regs r hr) f

theorem BesideQueues.regBit_eq {r : Nat} (hr : inQueueRegs r = false) (i : Nat) : t.regBit r i = s.regBit r i := by
  rw [State.regBit, h.regs r hr, State.regBit]

theorem BesideQueues.byteAt_eq (a : Nat) : t.byteAt a = s.byteAt a := byteAt_congr h.mem_eq h.msys_eq a

theorem BesideQueues.bytesAt_eq (a n : Nat) : t.bytesAt a n = s.bytesAt a n := bytesAt_congr h.mem_eq h.msys_eq a n

theorem BesideQueues.cmdKey_eq (k : Nat) : t.cmdKey k = s.cmdKey k := by
  rw [State.cmdKey, h.flash_eq, State.cmdKey]

theorem BesideQueues.bootNonce_eq : t.bootNonce = s.bootNonce := by
  rw [State.bootNonce, h.regs _ (by decide), h.regs _ (by decide), State.bootNonce]

theorem BesideQueues.cmdTag_eq (k : BitVec 256) (c : CmdBlock) : t.cmdTag k c = s.cmdTag k c := by
  rw [State.cmdTag, h.bootNonce_eq, State.podNumber, State.podDevice, h.fld_eq (by decide), h.fld_eq (by decide)]
  rfl

theorem BesideQueues.tagWrong_eq (c : CmdBlock) : t.tagWrong c = s.tagWrong c := by
  simp only [State.tagWrong, h.cmdKey_eq, h.cmdTag_eq]

theorem BesideQueues.devKeyBytes_eq : t.devKeyBytes = s.devKeyBytes := by
  have hreg : ∀ j ∈ List.range 16, bytesOf (t.reg (R.THM_DEVKEY j)).toNat 8 = bytesOf (s.reg (R.THM_DEVKEY j)).toNat 8 := by
    intro j hj
    have hj := List.mem_range.1 hj
    rw [h.regs _ (decide_eq_false (by rw [R.THM_DEVKEY]; omega))]
  rw [State.devKeyBytes, List.flatMap_def, List.map_congr_left hreg, ← List.flatMap_def, State.devKeyBytes]

theorem BesideQueues.provisioned_eq (c : CmdBlock) : t.provisioned c = s.provisioned c := by
  have hprov : t.host.provKey = s.host.provKey := by rw [h.host]
  simp only [State.provisioned, hprov, h.bootNonce_eq, h.cmdKey_eq, h.devKeyBytes_eq]

/-! The address map, the firewall and the data of a range. -/

theorem BesideQueues.absent_eq {c : Nat} (hc : c < 128) : t.absent c = s.absent c :=
  h.regBit_eq (decide_eq_false (by rw [R.GLB_CORE_ABSENT]; omega)) _

theorem BesideQueues.region_eq (a : Nat) : t.region a = s.region a := by
  unfold State.region
  rw [h.msys_eq]
  cases hr : regionOf a with
  | ovc k =>
    dsimp only
    rw [h.regBit_eq (decide_eq_false (by rw [R.MEM_OVC_GRANULE]; omega))]
  | pocket c =>
    dsimp only
    rw [h.absent_eq (regionOf_pocket_lt hr)]
  | hbm n => rfl
  | deep p => rfl
  | regs off => rfl
  | none => rfl

theorem BesideQueues.probePoints_eq (a n : Nat) : t.probePoints a n = s.probePoints a n := by
  rw [State.probePoints, h.msys_eq, State.probePoints]

theorem BesideQueues.checkRange_thimble_eq (a n : Nat) : t.checkRange .thimble a n = s.checkRange .thimble a n := by
  have hat : t.checkAt .thimble = s.checkAt .thimble := by
    funext x
    rw [State.checkAt, h.region_eq, State.checkAt, State.admits, State.admits]
  rw [State.checkRange, hat, h.probePoints_eq, State.checkRange]

theorem BesideQueues.readStatus_eq (a n : Nat) : t.readStatus a n = s.readStatus a n := by
  rw [State.readStatus, h.msys_eq, State.readStatus]

theorem BesideQueues.engineRead_thimble_eq (a n : Nat) : t.engineRead .thimble a n = s.engineRead .thimble a n := by
  rw [State.engineRead, h.checkRange_thimble_eq, h.readStatus_eq]
  rfl

theorem BesideQueues.instOfStack_eq (n : Nat) : t.instOfStack n = s.instOfStack n := by
  have hinst : ∀ i ∈ List.range 8, (t.instOn i && t.ownsStack i n) = (s.instOn i && s.ownsStack i n) := by
    intro i hi
    have hi := List.mem_range.1 hi
    rw [State.instOn, State.ownsStack, h.regBit_eq (decide_eq_false (by rw [R.SCH_INST_STATE]; omega)),
      h.fld_eq (decide_eq_false (by rw [R.SCH_INST_MEM]; omega))]
    rfl
  exact find?_eq_of_agree hinst

theorem BesideQueues.hbmOf_eq (i a n : Nat) : t.hbmOf i a n = s.hbmOf i a n := by
  simp only [State.hbmOf, h.region_eq, h.instOfStack_eq, h.probePoints_eq]

end BesideQueues

/-! ### The checks of R352 -/

theorem cmdCheck_started (s : State) (q : QRef) (idx : Nat) (d : BitVec 512) (c : CmdBlock) (ok vf tun : Bool) :
    (s.started q idx d).cmdCheck c ok vf tun = s.cmdCheck c ok vf tun := by
  have h := besideQueues_started s q idx d
  unfold State.cmdCheck
  rw [h.cmdKey_eq, h.provisioned_eq, h.tagWrong_eq]
  rfl

/-- The checks that a fresh well-formed block from the module's own queue of the PF meets: those of its key. -/
theorem cmdCheck_of_fresh {s : State} {c : CmdBlock} (h : s.Fresh c) : s.cmdCheck c true false false =
    if !cmdOpcodes.contains c.opcode then 0x01
    else if c.keyId = 15 ∧ c.opcode ≠ 0x0201 ∧ openRead c.opcode = false then 0x71
    else if c.keyId ≠ 15 ∧ c.opcode = 0x0201 then 0x71
    else if c.keyId ≠ 15 ∧ (s.cmdKey c.keyId).isNone then 0x71
    else if c.opcode = 0x0201 ∧ (s.provisioned c).isNone then 0x71
    else if c.keyId ≠ 15 ∧ s.tagWrong c then 0x71 else 0 := by
  obtain ⟨hsome, hnone⟩ := h
  unfold State.cmdCheck
  cases hlast : s.lastCounter c.keyId c.sender with
  | some n => simp [Nat.not_le.2 (hsome n hlast)]
  | none => simp [Nat.not_le.2 (hnone hlast)]

/-- A fresh well-formed block under a command key that the module holds: its tag decides. -/
theorem cmdCheck_of_keyed {s : State} {c : CmdBlock} (hop : c.opcode ∈ cmdOpcodes) (hne : c.opcode ≠ 0x0201)
    (hkey : s.Keyed c) (hfresh : s.Fresh c) : s.cmdCheck c true false false = if s.tagWrong c then 0x71 else 0 := by
  obtain ⟨h15, hsome⟩ := hkey
  have hheld : s.cmdKey c.keyId ≠ none := Option.isSome_iff_ne_none.1 hsome
  rw [cmdCheck_of_fresh hfresh]
  simp [hop, hne, h15, hheld]

/-- A fresh read that names no command key. -/
theorem cmdCheck_of_openRead {s : State} {c : CmdBlock} (hop : c.opcode ∈ cmdOpcodes) (hread : openRead c.opcode = true)
    (h15 : c.keyId = 15) (hfresh : s.Fresh c) : s.cmdCheck c true false false = 0 := by
  have hread' : c.opcode = 0x0702 ∨ c.opcode = 0x0703 := of_decide_eq_true hread
  have hne : c.opcode ≠ 0x0201 := by omega
  rw [cmdCheck_of_fresh hfresh]
  simp [hop, hread, hne, h15]

/-- A fresh KEY_PROVISION: the checks of R356 decide. -/
theorem cmdCheck_of_provision {s : State} {c : CmdBlock} (hop : c.opcode = 0x0201) (h15 : c.keyId = 15)
    (hfresh : s.Fresh c) : s.cmdCheck c true false false = if (s.provisioned c).isNone then 0x71 else 0 := by
  have hmem : (0x0201 : Nat) ∈ cmdOpcodes := by decide
  rw [cmdCheck_of_fresh hfresh]
  simp [hop, h15, hmem]

/-! ### From the head of the queue to Thimble -/

section Orders

variable {s : State} {q : QRef} {idx : Nat} {d : BitVec 512} {c : CmdBlock} {op : Nat}

/-- The state in which an accepted command executes: its entry has started and its counter is recorded. -/
def accepted (s : State) (q : QRef) (idx : Nat) (d : BitVec 512) (c : CmdBlock) : State :=
  (s.started q idx d).recordCounter c

theorem besideQueues_accepted (s : State) (q : QRef) (idx : Nat) (d : BitVec 512) (c : CmdBlock) :
    BesideQueues s (s.accepted q idx d c) where
  regs _ h := reg_started_of_not_queue h
  keeps := (besideQueues_started s q idx d).keeps.trans ((State.recordCounter_keeps ..).weaken rfl)
  host := rfl

theorem mem_counters_accepted : (c.keyId, c.sender, c.counter) ∈ (s.accepted q idx d c).host.counters :=
  List.mem_append_right _ (List.mem_singleton_self _)

theorem running_accepted (h : s.host.works = []) : Running s q idx (s.accepted q idx d c) := by
  obtain ⟨hworks, hhead, hring⟩ := running_started q idx d h
  exact ⟨hworks, hhead, hring.trans (.of_regs rfl rfl rfl)⟩

/-- A command entry for this module starts and comes before Thimble. -/
theorem cmdRow_of_orders (h : s.Orders q idx d c op) {want : CmdBlock → Bool} (hwant : want c = true) (env : CmdEnv) :
    s.cmdRow q want env =
      (s.started q idx d).cmdReceive (.queue q s.host.nextWork) c true false false env := by
  obtain ⟨⟨hhead, hkind, hworks, -⟩, hpage, hblock, -, hdev, hthm, hres⟩ := h
  have hstart : s.startable q (fun k => k == 3) = some (idx, d) := by
    simp [State.startable, hhead, hkind, hworks]
  unfold State.cmdRow
  rw [hstart]
  dsimp only
  rw [hblock, hpage]
  simp only [hwant, hdev, hthm, hres, bne_self_eq_false, Bool.and_false, Bool.not_true, Bool.false_eq_true, if_false,
    Bool.false_and, Option.isSome_none, Bool.not_false, ne_eq, not_true_eq_false]
  rfl

theorem cmdReceive_accepted (h : s.cmdCheck c true false false = 0) (via : CmdVia) (env : CmdEnv) :
    (s.started q idx d).cmdReceive via c true false false env = (s.accepted q idx d c).cmdExecute via c env := by
  unfold State.cmdReceive
  rw [cmdCheck_started, h]
  rfl

theorem cmdReceive_refused {st : Nat} (h : s.cmdCheck c true false false = st) (hst : st ≠ 0) (via : CmdVia)
    (env : CmdEnv) : (s.started q idx d).cmdReceive via c true false false env =
      ((s.started q idx d).cmdRefused st).cmdDone via st 0 := by
  unfold State.cmdReceive
  rw [cmdCheck_started, h]
  split
  · exact absurd rfl hst
  · rfl

/-! ### How a command ends -/

/-- The accepted command has the effect `u` and ends with status `st` and result `res`. -/
structure Ends (s : State) (q : QRef) (idx : Nat) (d : BitVec 512) (c : CmdBlock) (env : CmdEnv) (u : State)
    (st res : Nat) : Prop where
  effect : (s.accepted q idx d c).cmdExecute (.queue q s.host.nextWork) c env =
    u.cmdDone (.queue q s.host.nextWork) st res
  running : Running s q idx u
  counted : (c.keyId, c.sender, c.counter) ∈ u.host.counters
  status : st < 2 ^ 8
  result : res < 2 ^ 64

/-- An effect that leaves the queues alone. -/
theorem Ends.of_quiet (h : s.Orders q idx d c op) {env : CmdEnv} {u : State} {st res : Nat}
    (heff : (s.accepted q idx d c).cmdExecute (.queue q s.host.nextWork) c env =
      u.cmdDone (.queue q s.host.nextWork) st res)
    (hq : Quiet (s.accepted q idx d c) u) (hst : st < 2 ^ 8) (hres : res < 2 ^ 64) : Ends s q idx d c env u st res where
  effect := heff
  running := (running_accepted h.1.2.2.1).of_quiet hq
  counted := by rw [hq.counters]; exact mem_counters_accepted
  status := hst
  result := hres

/-- What the command leaves: it has completed, its counter is recorded, and the rest is its effect. -/
theorem Ends.finished {env : CmdEnv} {u : State} {st res : Nat} (he : Ends s q idx d c env u st res)
    (h : s.Orders q idx d c op) : ∃ irqs, (s.accepted q idx d c).cmdExecute (.queue q s.host.nextWork) c env =
      u.finished q idx st res irqs ∧ s.Obeyed (u.finished q idx st res irqs) q idx c st res := by
  obtain ⟨⟨-, -, -, hin⟩, -⟩ := h
  obtain ⟨irqs, hdone⟩ := he.running.completeWork_eq hin st res
  exact ⟨irqs, he.effect.trans hdone, he.running.done_finished he.status he.result irqs, he.counted⟩

/-- A command refused for its key, tag or signature. -/
theorem unauthentic_refused (h : s.Orders q idx d c op) :
    s.Unauthentic (((s.started q idx d).cmdRefused 0x71).cmdDone (.queue q s.host.nextWork) 0x71 0) q idx := by
  obtain ⟨⟨-, -, hworks, hin⟩, -⟩ := h
  have hbeside := besideQueues_started s q idx d
  have hquiet : Quiet (s.started q idx d) ((s.started q idx d).cmdRefused 0x71) :=
    (quiet_setReg (by decide) _).trans (quiet_log ..)
  have hhost : ((s.started q idx d).cmdRefused 0x71).host = (s.started q idx d).host := State.log_host ..
  have hrun := (running_started q idx d hworks).of_quiet hquiet
  obtain ⟨irqs, he⟩ := hrun.completeWork_eq hin 0x71 0
  have hdone : ((s.started q idx d).cmdRefused 0x71).cmdDone (.queue q s.host.nextWork) 0x71 0 = _ := he
  rw [hdone]
  refine ⟨hrun.done_finished (by decide) (by decide) irqs, ?_, ?_, ?_⟩
  · have hreg : ((s.started q idx d).cmdRefused 0x71).reg R.HST_AUTH_FAILS =
        ((s.started q idx d).inc R.HST_AUTH_FAILS).reg R.HST_AUTH_FAILS :=
      State.reg_log _ _ _ _ _ _ _ _ _ _ (by decide) (by decide)
    rw [reg_finished_of_not_queue _ _ _ _ _ _ (by decide), hreg, State.reg_inc, if_pos rfl,
      hbeside.regs _ (by decide), BitVec.toNat_ofNat]
    omega
  · exact (congrArg HostState.counters hhost : _ = (s.started q idx d).host.counters)
  · exact (congrArg HostState.flash hhost : _ = (s.started q idx d).host.flash)

/-- A command that passes the checks executes. -/
theorem answers_of_accepted (h : s.Orders q idx d c op) (hchk : s.cmdCheck c true false false = 0) {e : Instr}
    {want : CmdBlock → Bool} {env : CmdEnv} (hexec : exec e s = .next (s.cmdRow q want env)) (hwant : want c = true)
    {P : State → Prop} (hP : P ((s.accepted q idx d c).cmdExecute (.queue q s.host.nextWork) c env)) :
    Answers (exec e s) P := by
  refine ⟨_, hexec, ?_⟩
  rwa [cmdRow_of_orders h hwant, cmdReceive_accepted hchk]

theorem answers_of_ends (h : s.Orders q idx d c op) (hchk : s.cmdCheck c true false false = 0) {e : Instr}
    {want : CmdBlock → Bool} {env : CmdEnv} (hexec : exec e s = .next (s.cmdRow q want env)) (hwant : want c = true)
    {u : State} {st res : Nat} (he : Ends s q idx d c env u st res) {P : State → Prop}
    (hP : ∀ irqs, s.Obeyed (u.finished q idx st res irqs) q idx c st res → P (u.finished q idx st res irqs)) :
    Answers (exec e s) P := by
  obtain ⟨irqs, heq, hob⟩ := he.finished h
  exact answers_of_accepted h hchk hexec hwant (by rw [heq]; exact hP irqs hob)

/-- A command whose key, tag or signature fails does nothing. -/
theorem answers_of_unauthentic (h : s.Orders q idx d c op) (hchk : s.cmdCheck c true false false = 0x71) {e : Instr}
    {want : CmdBlock → Bool} {env : CmdEnv} (hexec : exec e s = .next (s.cmdRow q want env)) (hwant : want c = true) :
    Answers (exec e s) (fun t => s.Unauthentic t q idx) := by
  refine ⟨_, hexec, ?_⟩
  rw [cmdRow_of_orders h hwant, cmdReceive_refused hchk (by decide)]
  exact unauthentic_refused h

/-- How a command that needs a key answers: with a wrong tag it is refused, else `P` holds. -/
def Takes (s : State) (q : QRef) (idx : Nat) (c : CmdBlock) (e : Instr) (P : State → Prop) : Prop :=
  Answers (exec e s) (fun t => if s.tagWrong c then s.Unauthentic t q idx else P t)

/-- A fresh command under a command key that the module holds. -/
theorem takes_of_accepted (h : s.Orders q idx d c op) (hkey : s.Keyed c) (hfresh : s.Fresh c) (hop : op ∈ cmdOpcodes)
    (hne : op ≠ 0x0201) {e : Instr} {want : CmdBlock → Bool} {env : CmdEnv} (hexec : exec e s = .next (s.cmdRow q want env))
    (hwant : want c = true) {P : State → Prop}
    (hP : P ((s.accepted q idx d c).cmdExecute (.queue q s.host.nextWork) c env)) : s.Takes q idx c e P := by
  have hopc : c.opcode = op := h.2.2.2.1
  have hchk := cmdCheck_of_keyed (hopc ▸ hop) (hopc ▸ hne) hkey hfresh
  unfold Takes
  by_cases htag : s.tagWrong c = true
  · rw [if_pos htag] at hchk
    simp only [if_pos htag]
    exact answers_of_unauthentic h hchk hexec hwant
  · rw [if_neg htag] at hchk
    simp only [if_neg htag]
    exact answers_of_accepted h hchk hexec hwant hP

theorem takes_of_ends (h : s.Orders q idx d c op) (hkey : s.Keyed c) (hfresh : s.Fresh c) (hop : op ∈ cmdOpcodes)
    (hne : op ≠ 0x0201) {e : Instr} {want : CmdBlock → Bool} {env : CmdEnv} (hexec : exec e s = .next (s.cmdRow q want env))
    (hwant : want c = true) {u : State} {st res : Nat} (he : Ends s q idx d c env u st res) {P : State → Prop}
    (hP : ∀ irqs, s.Obeyed (u.finished q idx st res irqs) q idx c st res → P (u.finished q idx st res irqs)) :
    s.Takes q idx c e P := by
  obtain ⟨irqs, heq, hob⟩ := he.finished h
  exact takes_of_accepted h hkey hfresh hop hne hexec hwant (by rw [heq]; exact hP irqs hob)

theorem isOp_of_orders (h : s.Orders q idx d c op) : isOp op c = true := by
  simp [isOp, show c.opcode = op from h.2.2.2.1]

end Orders

/-! ### What a block that parses says (R350) -/

theorem parseBlock_ok {b : List Byte} {c : CmdBlock} (h : parseBlock b = (c, true)) :
    c.inst < 8 ∧ bodyOk c.opcode c.body = true := by
  have hblock : (parseBlock b).1 = c := congrArg (·.1) h
  have hchecks : (parseBlock b).2 = true := congrArg (·.2) h
  subst hblock
  exact ⟨Nat.mod_lt _ (by decide), (Bool.and_eq_true_iff.1 hchecks).2⟩

/-- A block that two reads delivered, each of which passed its check. -/
theorem eq_of_reads_pass {α : Type} {a b : Nat} {x y z : α}
    (h : (if a ≠ 0 then (a, x) else if b ≠ 0 then (b, x) else (0, y)) = (0, z)) : y = z := by
  by_cases ha : a = 0
  · rw [if_neg (not_not_intro ha)] at h
    by_cases hb : b = 0
    · rw [if_neg (not_not_intro hb)] at h
      exact congrArg (·.2) h
    · rw [if_pos hb] at h
      exact absurd (congrArg (·.1) h) hb
  · rw [if_pos ha] at h
    exact absurd (congrArg (·.1) h) ha

theorem cmdBlockOf_ok {s : State} {q : QRef} {d : BitVec 512} {c : CmdBlock} (h : s.cmdBlockOf q d = (0, c, true)) :
    c.inst < 8 ∧ bodyOk c.opcode c.body = true := by
  unfold State.cmdBlockOf at h
  exact parseBlock_ok (eq_of_reads_pass h)

end State
end Sys2Proof.Machine
end

section
/-! Commands about keys, registers, counters and caps (R4, R351, R356): each one's effect when it executes. -/
namespace Sys2Proof.Machine
namespace State

/-! ### Keyed lists -/

theorem find?_filter_key {α : Type} (l : List (Nat × α)) (slot j : Nat) :
    ((l.filter (fun e => e.1 != slot)).find? (fun e => e.1 == j)).map (fun e => e.2) =
      if j = slot then none else (l.find? (fun e => e.1 == j)).map (fun e => e.2) := by
  rw [List.find?_filter]
  split
  · rename_i h
    subst h
    rw [List.find?_eq_none.2 (by intro e _; simp), Option.map_none]
  · rename_i h
    congr 2
    funext e
    by_cases he : e.1 = j
    · simp [he, h]
    · simp [he]

/-- The key of each slot after the key of one slot is replaced. -/
theorem find?_replace_key {α : Type} (l : List (Nat × α)) (slot j : Nat) (k : α) :
    ((l.filter (fun e => e.1 != slot) ++ [(slot, k)]).find? (fun e => e.1 == j)).map (fun e => e.2) =
      if j = slot then some k else (l.find? (fun e => e.1 == j)).map (fun e => e.2) := by
  have h := find?_filter_key l slot j
  rw [List.find?_append, Option.map_or, h]
  split
  · rename_i e
    simp [e]
  · rename_i e
    simp [Ne.symm e]

/-- Recording a block's counter leaves those of the other keys and senders. -/
theorem lastCounter_accepted {s : State} {q : QRef} {idx : Nat} {d : BitVec 512} {c : CmdBlock} {key sender : Nat}
    (h : (key, sender) ≠ (c.keyId, c.sender)) : (s.accepted q idx d c).lastCounter key sender = s.lastCounter key sender := by
  have hne : ¬(c.keyId = key ∧ c.sender = sender) := fun e => h (by rw [e.1, e.2])
  have hcount : (s.accepted q idx d c).host.counters = s.host.counters.filter
    (fun e => !(e.1 == c.keyId && e.2.1 == c.sender)) ++ [(c.keyId, c.sender, c.counter)] := rfl
  have hnew : [(c.keyId, c.sender, c.counter)].find? (fun e => e.1 == key && e.2.1 == sender) = none := by
    simpa using hne
  rw [State.lastCounter, State.lastCounter, hcount, List.find?_append, hnew, Option.or_none, List.find?_filter]
  congr 2
  funext e
  by_cases he : e.1 = key ∧ e.2.1 = sender
  · have hother : (key == c.keyId && sender == c.sender) = false := Bool.eq_false_iff.2 fun x => by
      rw [Bool.and_eq_true, beq_iff_eq, beq_iff_eq] at x
      exact hne ⟨x.1.symm, x.2.symm⟩
    rw [he.1, he.2, hother]
    simp
  · simp [show (e.1 == key && e.2.1 == sender) = false by simpa using he]

end State

section Commands

variable {s : State} {q : QRef} {idx : Nat} {d : BitVec 512} {c : CmdBlock}

open State

/-! ### KEY_PROVISION, REG_READ, CMD_STATUS: without a command key -/

theorem keyProvision_answers (h : s.Orders q idx d c 0x0201) (h15 : c.keyId = 15) (hfresh : s.Fresh c) :
    Answers (exec (.keyProvision q) s) (fun t => match s.provisioned c with
      | none => s.Unauthentic t q idx
      | some k => s.Obeyed t q idx c 0 0 ∧
          t.host.flash.cmdKeys = s.host.flash.cmdKeys ++ [(fieldAt c.body 152 1, k)]) := by
  have hop : c.opcode = 0x0201 := h.2.2.2.1
  have hchk := cmdCheck_of_provision hop h15 hfresh
  have hexec : exec (.keyProvision q) s = .next (s.cmdRow q (isOp 0x0201) env0) := rfl
  have hwant := isOp_of_orders h
  cases hk : s.provisioned c with
  | none => exact answers_of_unauthentic h (by simp [hchk, hk]) hexec hwant
  | some k =>
    refine answers_of_ends h (by simp [hchk, hk]) hexec hwant (.of_quiet h ?_ ⟨rfl, rfl, fun _ _ => rfl⟩
      (st := 0) (res := 0) (by decide) (by decide)) (fun _ hob => ⟨hob, ?_⟩)
      (u := (s.accepted q idx d c).setFlash { (s.accepted q idx d c).host.flash with
        cmdKeys := (s.accepted q idx d c).host.flash.cmdKeys ++ [(fieldAt c.body 152 1, k)] })
    · simp only [cmdExecute, hop, cmdKeyProvision, (besideQueues_accepted s q idx d c).provisioned_eq, hk]
    · rfl

theorem regRead_answers (h : s.Orders q idx d c 0x0702) (h15 : c.keyId = 15) (hfresh : s.Fresh c)
    (hoff : fieldAt c.body 0 8 = R.HST_BOOT_NONCE_LO) : Answers (exec (.regRead q) s) (fun t =>
      s.Obeyed t q idx c 0 (s.reg R.HST_BOOT_NONCE_LO).toNat) := by
  have hop : c.opcode = 0x0702 := h.2.2.2.1
  have hchk := cmdCheck_of_openRead (by rw [hop]; decide) (by rw [hop]; rfl) h15 hfresh
  have hrow : rowAt R.HST_BOOT_NONCE_LO = some ⟨"HST_BOOT_NONCE_LO", 0x400010, [], 8, [⟨0, 64, .ro, 0x0⟩]⟩ := by
    decide +kernel
  have hval := (besideQueues_accepted s q idx d c).regs R.HST_BOOT_NONCE_LO (by decide)
  have hread := readReg_plain (s.accepted q idx d c) .thimble hrow rfl (by decide)
  refine answers_of_ends h hchk (want := fun c => isOp 0x0702 c || !cmdOpcodes.contains c.opcode) (env := env0) rfl
    (by simp [isOp, hop]) (.of_quiet h ?_ (.refl _) (by decide) (s.reg R.HST_BOOT_NONCE_LO).isLt) fun _ hob => hob
  have hwin : inLogWindow R.HST_BOOT_NONCE_LO = false := rfl
  simp [cmdExecute, hop, cmdRegRead, hoff, hread, hval, hwin]

theorem cmdStatus_answers (h : s.Orders q idx d c 0x0703) (h15 : c.keyId = 15) (hfresh : s.Fresh c)
    (hne : (fieldAt c.body 0 1, fieldAt c.body 2 2) ≠ (15, c.sender))
    (hlt : (s.lastCounter (fieldAt c.body 0 1) (fieldAt c.body 2 2)).getD 0 < 2 ^ 64) :
    Answers (exec (.cmdStatus q) s) (fun t =>
      s.Obeyed t q idx c 0 ((s.lastCounter (fieldAt c.body 0 1) (fieldAt c.body 2 2)).getD 0)) := by
  have hop : c.opcode = 0x0703 := h.2.2.2.1
  have hchk := cmdCheck_of_openRead (by rw [hop]; decide) (by rw [hop]; rfl) h15 hfresh
  refine answers_of_ends h hchk (env := env0) rfl (isOp_of_orders h) (.of_quiet h ?_ (.refl _) (by decide) hlt)
    fun _ hob => hob
  simp only [cmdExecute, hop, cmdCmdStatus, lastCounter_accepted (h15 ▸ hne)]

/-! ### Commands under a command key -/

variable (hkey : s.Keyed c) (hfresh : s.Fresh c)
include hkey hfresh

theorem keyWrite_takes (h : s.Orders q idx d c 0x0202) (hcls : fieldAt c.body 0 1 = 0) :
    s.Takes q idx c (.keyWrite q) (fun t =>
      if fieldAt c.body 1 1 = c.keyId then s.Obeyed t q idx c 0x02 0 ∧ t.host.flash = s.host.flash
      else match (s.cmdKey c.keyId).bind (fun k => Config.keyUnwrap k (c.body.drop 8)) with
        | none => s.Obeyed t q idx c 0x71 0 ∧ t.host.flash = s.host.flash
        | some k => s.Obeyed t q idx c 0 0 ∧ t.cmdKey (fieldAt c.body 1 1) = some k ∧
            ∀ j, j ≠ fieldAt c.body 1 1 → t.cmdKey j = s.cmdKey j) := by
  have hop : c.opcode = 0x0202 := h.2.2.2.1
  have hunwrap : ∀ k, (s.accepted q idx d c).cmdKey k = s.cmdKey k := (besideQueues_accepted s q idx d c).cmdKey_eq
  by_cases hself : fieldAt c.body 1 1 = c.keyId
  · refine takes_of_ends h hkey hfresh (by decide) (by decide) (env := env0) rfl (isOp_of_orders h)
      (.of_quiet h (st := 0x02) (res := 0) ?_ (.refl _) (by decide) (by decide)) fun _ hob => ?_
    · simp [cmdExecute, hop, cmdKeyWrite, hcls, hself]
    · rw [if_pos hself]
      exact ⟨hob, rfl⟩
  simp only [if_neg hself]
  cases hk : (s.cmdKey c.keyId).bind (fun k => Config.keyUnwrap k (c.body.drop 8)) with
  | none =>
    refine takes_of_ends h hkey hfresh (by decide) (by decide) (env := env0) rfl (isOp_of_orders h)
      (.of_quiet h (st := 0x71) (res := 0) ?_ (.refl _) (by decide) (by decide)) fun _ hob => ⟨hob, rfl⟩
    simp [cmdExecute, hop, cmdKeyWrite, hcls, hself, hunwrap, hk]
  | some k =>
    have hkeys := find?_replace_key s.host.flash.cmdKeys (fieldAt c.body 1 1)
    refine takes_of_ends h hkey hfresh (by decide) (by decide) (env := env0) rfl (isOp_of_orders h)
      (.of_quiet h (st := 0) (res := 0) ?_ ⟨rfl, rfl, fun _ _ => rfl⟩ (by decide) (by decide))
      (fun _ hob => ⟨hob, ?_, fun j hj => ?_⟩)
      (u := (s.accepted q idx d c).setFlash { (s.accepted q idx d c).host.flash with
        cmdKeys := (s.accepted q idx d c).host.flash.cmdKeys.filter (fun e => e.1 != fieldAt c.body 1 1) ++
          [(fieldAt c.body 1 1, k)] })
    · simp [cmdExecute, hop, cmdKeyWrite, hcls, hself, hunwrap, hk]
    · exact (hkeys _ k).trans (if_pos rfl)
    · exact (hkeys j k).trans (if_neg hj)

theorem keyRetire_takes (h : s.Orders q idx d c 0x0203) (hcls : fieldAt c.body 0 1 = 0) :
    s.Takes q idx c (.keyRetire q) (fun t =>
      ((∃ j, j ≠ fieldAt c.body 1 1 ∧ (s.cmdKey j).isSome = true) → s.Obeyed t q idx c 0 0 ∧
        t.cmdKey (fieldAt c.body 1 1) = none ∧ ∀ j, j ≠ fieldAt c.body 1 1 → t.cmdKey j = s.cmdKey j) ∧
      ((∀ j, j ≠ fieldAt c.body 1 1 → s.cmdKey j = none) → s.Obeyed t q idx c 0x73 0 ∧ t.host.flash = s.host.flash)) := by
  have hop : c.opcode = 0x0203 := h.2.2.2.1
  have hleft := find?_filter_key s.host.flash.cmdKeys (fieldAt c.body 1 1)
  have hflash : (s.accepted q idx d c).host.flash = s.host.flash := rfl
  have hheld : s.host.flash.cmdKeys ≠ [] := by
    intro hnil
    have hnone := hkey.2
    rw [State.cmdKey, hnil] at hnone
    cases hnone
  by_cases hlast : ∃ j, j ≠ fieldAt c.body 1 1 ∧ (s.cmdKey j).isSome = true
  · have hfilter : s.host.flash.cmdKeys.filter (fun e => e.1 != fieldAt c.body 1 1) ≠ [] := by
      intro hnil
      obtain ⟨j, hj, hsome⟩ := hlast
      have hj' := hleft j
      rw [hnil, if_neg hj] at hj'
      rw [show s.cmdKey j = none from hj'.symm] at hsome
      cases hsome
    refine takes_of_ends h hkey hfresh (by decide) (by decide) (env := env0) rfl (isOp_of_orders h)
      (.of_quiet h (st := 0) (res := 0) ?_ ⟨rfl, rfl, fun _ _ => rfl⟩ (by decide) (by decide))
      (fun _ hob => ⟨fun _ => ⟨hob, ?_, fun j hj => ?_⟩, fun hnone => ?_⟩)
      (u := (s.accepted q idx d c).setFlash { s.host.flash with
        cmdKeys := s.host.flash.cmdKeys.filter (fun e => e.1 != fieldAt c.body 1 1) })
    · simp only [cmdExecute, hop, cmdKeyRetire, hcls, hflash, if_true, List.isEmpty_eq_false_iff.2 hfilter,
        Bool.false_and, Bool.false_eq_true, if_false]
    · exact (hleft _).trans (if_pos rfl)
    · exact (hleft j).trans (if_neg hj)
    · obtain ⟨j, hj, hsome⟩ := hlast
      rw [hnone j hj] at hsome
      cases hsome
  · have hfilter : s.host.flash.cmdKeys.filter (fun e => e.1 != fieldAt c.body 1 1) = [] := by
      rw [List.filter_eq_nil_iff]
      intro e he hslot
      refine hlast ⟨e.1, by simpa using hslot, ?_⟩
      rw [State.cmdKey, Option.isSome_map, List.find?_isSome]
      exact ⟨e, he, by simp⟩
    refine takes_of_ends h hkey hfresh (by decide) (by decide) (env := env0) rfl (isOp_of_orders h)
      (.of_quiet h (st := 0x73) (res := 0) ?_ (.refl _) (by decide) (by decide))
      (fun _ hob => ⟨fun hother => absurd hother hlast, fun _ => ⟨hob, rfl⟩⟩)
    simp [cmdExecute, hop, cmdKeyRetire, hcls, hflash, hfilter, hheld]

/-! #### REG_WRITE -/

/-- The row of HST_TUNNEL_TIMEOUT in the register table. -/
def tunnelTimeoutRow : RegRow := ⟨"HST_TUNNEL_TIMEOUT", 0x400030, [], 4, [⟨0, 16, .rw, 0xA⟩]⟩

omit hkey hfresh in
theorem rowAt_tunnelTimeout : rowAt R.HST_TUNNEL_TIMEOUT = some tunnelTimeoutRow := by decide +kernel

omit hkey hfresh in
theorem writeReg_tunnelTimeout (u : State) (req : Requester) (v : Nat) : u.writeReg req R.HST_TUNNEL_TIMEOUT v =
    u.writeGeneric tunnelTimeoutRow R.HST_TUNNEL_TIMEOUT v := by
  rw [writeReg, rowAt_tunnelTimeout]
  rfl

theorem regWrite_tunnelTimeout_takes (h : s.Orders q idx d c 0x0204) (hoff : fieldAt c.body 0 8 = R.HST_TUNNEL_TIMEOUT) :
    s.Takes q idx c (.regWrite q) (fun t => s.Obeyed t q idx c 0 0 ∧
      t.fld R.HST_TUNNEL_TIMEOUT F.HST_TUNNEL_TIMEOUT_ms = fieldAt c.body 8 8 % 2 ^ 16) := by
  have hop : c.opcode = 0x0204 := h.2.2.2.1
  refine takes_of_ends h hkey hfresh (by decide) (by decide) (env := env0) rfl (by simp only [isOp, isRegWrite, hop, hoff]; rfl)
    (.of_quiet h (st := 0) (res := 0) ?_ (quiet_setReg (off := R.HST_TUNNEL_TIMEOUT) (by decide) _) (by decide)
      (by decide)) (fun _ hob => ⟨hob, ?_⟩)
    (u := (s.accepted q idx d c).writeGeneric tunnelTimeoutRow R.HST_TUNNEL_TIMEOUT (fieldAt c.body 8 8))
  · simp only [cmdExecute, hop, cmdRegWrite, hoff, writeReg_tunnelTimeout]
    rfl
  · refine (fld_congr (reg_finished_of_not_queue _ _ _ _ _ _ (by decide)) _).trans ?_
    refine (bitsOf_writeGeneric _ _ rowAt_tunnelTimeout (List.mem_singleton_self _)).trans ?_
    simp [fieldWrite, bitsOf]

end Commands
end Sys2Proof.Machine
end

section
/-! Commands about power, images, firmware and HBM rows (R4, R5, R258, R351, R428): each one's effect when it executes. -/
namespace Sys2Proof.Machine
namespace State

/-! ### The caps (R4, R5) -/

theorem tdpMax_le (s : State) : s.tdpMax ≤ 1800 := by
  unfold State.tdpMax
  split <;> omega

theorem BesideQueues.tdpMax_eq {s t : State} (h : BesideQueues s t) : t.tdpMax = s.tdpMax := by
  rw [State.tdpMax, State.isAC, h.fld_eq (by decide)]
  rfl

/-- The caps of a request, clamped. -/
def capsSet (s : State) (t b : Nat) : State :=
  (s.setFld R.PWR_CAP F.PWR_CAP_tdp_w (clampTo 700 s.tdpMax t)).setFld R.PWR_CAP F.PWR_CAP_backup_w
    (if b = 0 then clampTo 700 s.tdpMax t * 60 / 100 else min b (clampTo 700 s.tdpMax t))

/-- A request sets the caps, and a clamp on an AC module is logged. -/
theorem setCap_cases (s : State) (t b : Nat) :
    s.setCap t b = s.capsSet t b ∨ ∃ v, s.setCap t b = (s.capsSet t b).log 2 0x88 uPower (value := v) := by
  have heq : s.setCap t b = if (s.capsSet t b).isAC && decide (t > 900) then
      (s.capsSet t b).log 2 0x88 uPower (value := t % 2 ^ 16 + clampTo 700 s.tdpMax t * 2 ^ 16) else s.capsSet t b := rfl
  rw [heq]
  split
  · exact .inr ⟨_, rfl⟩
  · exact .inl rfl

theorem quiet_setCap (s : State) (t b : Nat) : Quiet s (s.setCap t b) := by
  have hcaps : Quiet s (s.capsSet t b) := (quiet_setFld (by decide) _ _).trans (quiet_setFld (by decide) _ _)
  rcases setCap_cases s t b with h | ⟨v, h⟩
  · rw [h]
    exact hcaps
  · rw [h]
    exact hcaps.trans (quiet_log ..)

theorem reg_setCap (s : State) (t b : Nat) : (s.setCap t b).reg R.PWR_CAP = (s.capsSet t b).reg R.PWR_CAP := by
  rcases setCap_cases s t b with h | ⟨v, h⟩
  · rw [h]
  · rw [h]
    exact State.reg_log _ _ _ _ _ _ _ _ _ _ (by decide) (by decide)

theorem clampTo_tdpMax_le (s : State) (t : Nat) : clampTo 700 s.tdpMax t ≤ 1800 := by
  have := tdpMax_le s
  unfold clampTo
  omega

theorem tdp_setCap (s : State) (t b : Nat) : (s.setCap t b).tdp = clampTo 700 s.tdpMax t := by
  have := clampTo_tdpMax_le s t
  rw [State.tdp, fld_congr (reg_setCap s t b), capsSet, State.fld_setFld_apart _ _ _ _ _ (by decide) (by decide),
    State.fld_setFld _ _ _ _ (by decide), Nat.mod_eq_of_lt (by dsimp only; omega)]

theorem backupCap_setCap (s : State) (t b : Nat) : (s.setCap t b).backupCap =
    if b = 0 then clampTo 700 s.tdpMax t * 60 / 100 else min b (clampTo 700 s.tdpMax t) := by
  have := clampTo_tdpMax_le s t
  rw [State.backupCap, fld_congr (reg_setCap s t b), capsSet, State.fld_setFld _ _ _ _ (by decide), Nat.mod_eq_of_lt]
  dsimp only
  split <;> omega

/-! ### Images (R428) -/

/-- An image whose checks have passed is being programmed into the copy that does not run. -/
def programStarted (s : State) (i : Image) : State :=
  let b := decide (s.fld R.GLB_STATUS F.GLB_STATUS_image_b = 1)
  let f := s.host.flash
  have s := s.setFlash (if b then { f with imageA := none } else { f with imageB := none })
  have s := { s with host := { s.host with programming := some (i, !b) } }
  s.setReg (if b then R.PWR_IMAGE_A else R.PWR_IMAGE_B) (BitVec.ofNat 64 (2 ^ 50))

theorem quiet_programStarted (s : State) (i : Image) : Quiet s (s.programStarted i) := by
  unfold programStarted
  refine Quiet.trans ?_ (quiet_setReg ?_ _)
  · exact ⟨rfl, rfl, fun _ _ => rfl⟩
  · split <;> decide

/-! ### HBM rows (R258) -/

/-- Without cached lines there is nothing to write back or to drop. -/
theorem foldl_cleanLine_nil {s : State} (h : s.msys.lines = []) (row : List Nat) :
    row.foldl (fun s l => (s.cleanLine l).dropLine l) s = s := by
  have hfind : ∀ l, s.findLine l = none := fun l => by rw [State.findLine, h]; rfl
  induction row with
  | nil => rfl
  | cons l row ih =>
    have hclean : s.cleanLine l = s := by rw [State.cleanLine, hfind]
    have hdrop : s.dropLine l = s := by rw [State.dropLine, hfind]
    rw [List.foldl_cons, hclean, hdrop, ih]

/-- A row of stack `n` repaired: its bytes are lost, the repair is counted and logged, and a hard one takes a spare. -/
def rowRepaired (s : State) (n a hard : Nat) : State :=
  have s := { s with mem := s.mem.filter (fun e => !(Config.hbmRow a).contains (e.1 / 256)) }
  have s := s.setFld (R.MEM_HBM_STATUS n) F.MEM_HBM_STATUS_repairs (s.fld (R.MEM_HBM_STATUS n) F.MEM_HBM_STATUS_repairs + 1)
  have s := if hard = 1 then s.setFld (R.MEM_HBM_STATUS n) F.MEM_HBM_STATUS_spares_left
      (s.fld (R.MEM_HBM_STATUS n) F.MEM_HBM_STATUS_spares_left - 1) else s
  s.log 3 0x2A (uStack n) (addr := a) (value := hard)

theorem hbmStatus_not_queue (n : Nat) : inQueueRegs (R.MEM_HBM_STATUS n) = false :=
  decide_eq_false (by rw [R.MEM_HBM_STATUS]; omega)

theorem quiet_rowRepaired (s : State) (n a hard : Nat) : Quiet s (s.rowRepaired n a hard) := by
  have hfld := quiet_setFld (t := { s with mem := s.mem.filter (fun e => !(Config.hbmRow a).contains (e.1 / 256)) })
    (hbmStatus_not_queue n) F.MEM_HBM_STATUS_repairs (s.fld (R.MEM_HBM_STATUS n) F.MEM_HBM_STATUS_repairs + 1)
  have hcount : Quiet s _ := ⟨hfld.works, hfld.counters, hfld.regs⟩
  unfold rowRepaired
  dsimp only
  split
  · exact (hcount.trans (quiet_setFld (hbmStatus_not_queue n) _ _)).trans (quiet_log ..)
  · exact hcount.trans (quiet_log ..)

theorem repairs_rowRepaired (s : State) (n a hard : Nat) (hn : n < 8) :
    (s.rowRepaired n a hard).fld (R.MEM_HBM_STATUS n) F.MEM_HBM_STATUS_repairs =
      (s.fld (R.MEM_HBM_STATUS n) F.MEM_HBM_STATUS_repairs + 1) % 2 ^ F.MEM_HBM_STATUS_repairs.len := by
  have hlog (u : State) (code : Nat) (l : LogUnit) (b v : Nat) :
      (u.log 3 code l none b 0 0 v).fld (R.MEM_HBM_STATUS n) F.MEM_HBM_STATUS_repairs =
        u.fld (R.MEM_HBM_STATUS n) F.MEM_HBM_STATUS_repairs := by
    refine fld_congr (State.reg_log _ _ _ _ _ _ _ _ _ _ ?_ ?_) _
    · simp only [R.MEM_HBM_STATUS, R.RAS_STATUS]
      omega
    · simp only [R.MEM_HBM_STATUS, R.RAS_LOG_DROPS]
      omega
  unfold rowRepaired
  dsimp only
  rw [hlog]
  split
  · rw [State.fld_setFld_apart _ _ _ _ _ (by decide) (by decide), State.fld_setFld _ _ _ _ (by decide)]
    rfl
  · exact State.fld_setFld _ _ _ _ (by decide)

theorem region_hbm_lt {s : State} {a n : Nat} (h : s.region a = .hbm n) : n < 8 := by
  unfold State.region at h
  cases hr : regionOf a with
  | hbm k =>
    rw [hr] at h
    dsimp only at h
    split at h
    · cases h
    · cases h
      exact regionOf_hbm_lt hr
  | regs off | none =>
    rw [hr] at h
    cases h
  | deep p | ovc p | pocket p =>
    rw [hr] at h
    dsimp only at h
    split at h
    · cases h
    · cases h

end State

section Commands

open State

variable {s : State} {q : QRef} {idx : Nat} {d : BitVec 512} {c : CmdBlock} (hkey : s.Keyed c) (hfresh : s.Fresh c)
include hkey hfresh

theorem powerCap_takes (h : s.Orders q idx d c 0x0301) :
    s.Takes q idx c (.powerCap q) (fun t =>
      let w := max 700 (min s.tdpMax (fieldAt c.body 0 2))
      let b := if fieldAt c.body 2 2 = 0 then w * 60 / 100 else min (fieldAt c.body 2 2) w
      s.Obeyed t q idx c 0 (w + b * 2 ^ 16) ∧ t.tdp = w ∧ t.backupCap = b) := by
  have hop : c.opcode = 0x0301 := h.2.2.2.1
  have hmax := (besideQueues_accepted s q idx d c).tdpMax_eq
  have htdp := tdp_setCap (s.accepted q idx d c) (fieldAt c.body 0 2) (fieldAt c.body 2 2)
  have hbackup := backupCap_setCap (s.accepted q idx d c) (fieldAt c.body 0 2) (fieldAt c.body 2 2)
  have hw := clampTo_tdpMax_le s (fieldAt c.body 0 2)
  rw [hmax] at htdp hbackup
  refine takes_of_ends h hkey hfresh (by decide) (by decide) (env := env0) rfl (isOp_of_orders h)
    (.of_quiet h (st := 0) ?_ (quiet_setCap _ _ _) (by decide) ?_) (fun _ hob => ⟨hob, ?_, ?_⟩)
    (u := (s.accepted q idx d c).setCap (fieldAt c.body 0 2) (fieldAt c.body 2 2))
  · simp only [cmdExecute, hop, cmdPowerCap, htdp, hbackup]
    rfl
  · unfold clampTo at hw
    split <;> omega
  · exact (fld_congr (reg_finished_of_not_queue _ _ _ _ _ _ (by decide)) _).trans htdp
  · exact (fld_congr (reg_finished_of_not_queue _ _ _ _ _ _ (by decide)) _).trans hbackup

/-! ### IMAGE_WRITE -/

theorem imageWrite_takes (h : s.Orders q idx d c 0x0205) (hlen : 0 < fieldAt c.body 8 4)
    (hhbm : s.hbmOf c.inst (fieldAt c.body 0 8) (fieldAt c.body 8 4) = true) (hfree : s.host.programming = none) :
    let b := decide (s.fld R.GLB_STATUS F.GLB_STATUS_image_b = 1)
    let running := ((if b then s.host.flash.imageB else s.host.flash.imageA).map (fun i => i.sequence)).getD 0
    s.Takes q idx c (.imageWrite q) (fun t =>
      match parseImage (s.bytesAt (fieldAt c.body 0 8) (fieldAt c.body 8 4)) with
      | none => s.Obeyed t q idx c 0x81 0 ∧ t.host.programming = none
      | some i => if s.host.flash.svnFloor ≤ i.svn ∧ running < i.sequence
        then s.Obeyed t q idx c 0 0 ∧ t.host.programming = some (i, !b)
        else s.Obeyed t q idx c 0x81 0 ∧ t.host.programming = none) := by
  intro b running
  have hop : c.opcode = 0x0205 := h.2.2.2.1
  have hacc := besideQueues_accepted s q idx d c
  have hb : decide ((s.accepted q idx d c).fld R.GLB_STATUS F.GLB_STATUS_image_b = 1) = b := by
    rw [hacc.fld_eq (by decide)]
  have hflash : (s.accepted q idx d c).host.flash = s.host.flash := rfl
  have hprog : (s.accepted q idx d c).host.programming = none := hfree
  have hpass : ¬(fieldAt c.body 8 4 = 0 ∨
      (!(s.accepted q idx d c).hbmOf c.inst (fieldAt c.body 0 8) (fieldAt c.body 8 4)) = true) := by
    rw [hacc.hbmOf_eq, hhbm]
    simp only [Bool.not_true, Bool.false_eq_true, or_false]
    omega
  cases hparse : parseImage (s.bytesAt (fieldAt c.body 0 8) (fieldAt c.body 8 4)) with
  | none =>
    refine takes_of_ends h hkey hfresh (by decide) (by decide) (env := env0) rfl (isOp_of_orders h)
      (.of_quiet h (st := 0x81) (res := 0) ?_ (.refl _) (by decide) (by decide)) fun _ hob => ⟨hob, hprog⟩
    simp only [cmdExecute, hop, cmdImageWrite, if_neg hpass, hacc.bytesAt_eq, hparse]
  | some i =>
    by_cases hnew : s.host.flash.svnFloor ≤ i.svn ∧ running < i.sequence
    · refine takes_of_ends h hkey hfresh (by decide) (by decide) (env := env0) rfl (isOp_of_orders h)
        (.of_quiet h (st := 0) (res := 0) ?_ (quiet_programStarted _ i) (by decide) (by decide)) fun _ hob => ?_
      · have hold : ¬(i.svn < s.host.flash.svnFloor ∨ i.sequence ≤ running) := by omega
        simp only [cmdExecute, hop, cmdImageWrite, if_neg hpass, hacc.bytesAt_eq, hparse, hflash, hb]
        rw [if_neg hold, hprog]
        simp only [programStarted, hflash, hb, Option.isSome_none, Bool.false_eq_true, if_false]
      · simp only [if_pos hnew]
        exact ⟨hob, by rw [← hb]; rfl⟩
    · refine takes_of_ends h hkey hfresh (by decide) (by decide) (env := env0) rfl (isOp_of_orders h)
        (.of_quiet h (st := 0x81) (res := 0) ?_ (.refl _) (by decide) (by decide)) fun _ hob => ?_
      · have hold : i.svn < s.host.flash.svnFloor ∨ i.sequence ≤ running := by omega
        simp only [cmdExecute, hop, cmdImageWrite, if_neg hpass, hacc.bytesAt_eq, hparse, hflash, hb]
        rw [if_pos hold]
      · simp only [if_neg hnew]
        exact ⟨hob, hprog⟩

/-! ### FIRMWARE_PATCH -/

theorem firmwarePatch_takes (h : s.Orders q idx d c 0x0401)
    (hread : s.engineRead .thimble (fieldAt c.body 0 8) (fieldAt c.body 8 8) = 0) :
    s.Takes q idx c (.firmwarePatch q) (fun t =>
      s.Obeyed t q idx c 0 0 ∧ t.fld R.THM_STATUS F.THM_STATUS_patch_loaded = 1) := by
  have hop : c.opcode = 0x0401 := h.2.2.2.1
  have hacc := besideQueues_accepted s q idx d c
  refine takes_of_ends h hkey hfresh (by decide) (by decide) (env := env0) rfl (isOp_of_orders h)
    (.of_quiet h (st := 0) (res := 0) ?_ ((quiet_setFld (off := R.THM_STATUS) (by decide) F.THM_STATUS_patch_version
      (Config.patchVersion (s.bytesAt (fieldAt c.body 0 8) (fieldAt c.body 8 8)))).trans
      (quiet_setFld (off := R.THM_STATUS) (by decide) F.THM_STATUS_patch_loaded 1)) (by decide) (by decide))
    fun _ hob => ⟨hob, ?_⟩
  · simp only [cmdExecute, hop, cmdFirmwarePatch, hacc.engineRead_thimble_eq, hread, hacc.bytesAt_eq]
  · exact (fld_congr (reg_finished_of_not_queue _ _ _ _ _ _ (by decide)) _).trans (State.fld_setFld _ _ _ _ (by decide))

/-! ### HBM_REPAIR -/

theorem hbmRepair_outside_maintenance_takes (out : RepairOutcome) (h : s.Orders q idx d c 0x0402) (hmode : s.modState ≠ 7) :
    s.Takes q idx c (.hbmRepair q out) (fun t => s.Obeyed t q idx c 0x26 0) := by
  have hop : c.opcode = 0x0402 := h.2.2.2.1
  have hmode' : (s.accepted q idx d c).modState ≠ 7 := by
    rwa [modState, (besideQueues_accepted s q idx d c).fld_eq (by decide)]
  refine takes_of_ends h hkey hfresh (by decide) (by decide) (env := ⟨out, 0⟩) rfl (isOp_of_orders h)
    (.of_quiet h ?_ (.refl _) (by decide) (by decide)) fun _ hob => hob
  simp only [cmdExecute, hop, cmdHbmRepair, if_pos hmode']

theorem hbmRepair_takes (out : RepairOutcome) (h : s.Orders q idx d c 0x0402) {n : Nat} (hmode : s.modState = 7)
    (hlines : s.msys.lines = []) (hregion : s.region (fieldAt c.body 0 8) = .hbm n) :
    s.Takes q idx c (.hbmRepair q out) (fun t =>
      let r := s.fld (R.MEM_HBM_STATUS n) F.MEM_HBM_STATUS_repairs
      (out = .noSpare → s.Obeyed t q idx c 0x25 0) ∧ (out = .mismatch → s.Obeyed t q idx c 0x27 0) ∧
      (out = .repaired → s.Obeyed t q idx c 0 0 ∧
        t.fld (R.MEM_HBM_STATUS n) F.MEM_HBM_STATUS_repairs = (r + 1) % 2 ^ F.MEM_HBM_STATUS_repairs.len)) := by
  have hop : c.opcode = 0x0402 := h.2.2.2.1
  have hacc := besideQueues_accepted s q idx d c
  have hmode' : ¬(s.accepted q idx d c).modState ≠ 7 := by
    rw [modState, hacc.fld_eq (by decide)]
    exact not_not_intro hmode
  have hfold := foldl_cleanLine_nil (s := s.accepted q idx d c) (by rw [hacc.msys_eq]; exact hlines)
  have hcases : (s.accepted q idx d c).cmdHbmRepair (.queue q s.host.nextWork) c out = match out with
      | .noSpare => (s.accepted q idx d c).cmdDone (.queue q s.host.nextWork) 0x25 0
      | .mismatch => (s.accepted q idx d c).cmdDone (.queue q s.host.nextWork) 0x27 0
      | .repaired => ((s.accepted q idx d c).rowRepaired n (fieldAt c.body 0 8) (fieldAt c.body 8 8)).cmdDone
          (.queue q s.host.nextWork) 0 0 := by
    unfold cmdHbmRepair
    rw [if_neg hmode', hacc.region_eq, hregion]
    dsimp only
    rw [hfold]
    cases out <;> rfl
  cases out with
  | noSpare =>
    exact takes_of_ends h hkey hfresh (by decide) (by decide) (env := ⟨.noSpare, 0⟩) rfl (isOp_of_orders h)
      (.of_quiet h (by simp only [cmdExecute, hop, hcases]) (.refl _) (by decide) (by decide))
      fun _ hob => ⟨fun _ => hob, nofun, nofun⟩
  | mismatch =>
    exact takes_of_ends h hkey hfresh (by decide) (by decide) (env := ⟨.mismatch, 0⟩) rfl (isOp_of_orders h)
      (.of_quiet h (by simp only [cmdExecute, hop, hcases]) (.refl _) (by decide) (by decide))
      fun _ hob => ⟨nofun, fun _ => hob, nofun⟩
  | repaired =>
    refine takes_of_ends h hkey hfresh (by decide) (by decide) (env := ⟨.repaired, 0⟩) rfl (isOp_of_orders h)
      (.of_quiet h (by simp only [cmdExecute, hop, hcases]) 
        (quiet_rowRepaired _ n (fieldAt c.body 0 8) (fieldAt c.body 8 8)) (by decide) (by decide))
      fun _ hob => ⟨nofun, nofun, fun _ => ⟨hob, ?_⟩⟩
    refine (fld_congr (reg_finished_of_not_queue _ _ _ _ _ _ (hbmStatus_not_queue n)) _).trans ?_
    rw [repairs_rowRepaired _ n _ _ (region_hbm_lt hregion), hacc.fld_eq (hbmStatus_not_queue n)]

end Commands
end Sys2Proof.Machine
end

section
/-! Commands about sessions and votes (R282, R318, R319): each one's effect when it executes. -/
namespace Sys2Proof.Machine
namespace State

/-! ### Sessions (R319, R320) -/

@[simp] theorem sess_setSess (s : State) (k : Nat) (x : Session) : (s.setSess k x).sess k = x :=
  Tbl.get_set_same ..

theorem sess_congr {s t : State} (h : t.sessions = s.sessions) (k : Nat) : t.sess k = s.sess k := by
  rw [State.sess, h, State.sess]

theorem quiet_setSess (s : State) (k : Nat) (x : Session) : Quiet s (s.setSess k x) := ⟨rfl, rfl, fun _ _ => rfl⟩

theorem quiet_takeEpoch (s : State) (key : Nat) : Quiet s (s.takeEpoch key).2 := by
  have h := State.takeEpoch_keeps s key
  exact .of_regs (h.host rfl) fun r _ => by rw [State.reg, h.regs rfl, State.reg]

theorem lpTxBytes_not_queue (n : Nat) : inQueueRegs (R.FAB_LP_TX_BYTES n) = false :=
  decide_eq_false (by rw [R.FAB_LP_TX_BYTES]; omega)

theorem quiet_emit (s : State) (k : Nat) (p : Pkt) : Quiet s (s.emit k p) := by
  unfold State.emit
  dsimp only
  split
  · have hadd := quiet_setReg (t := s) (lpTxBytes_not_queue (s.sess k).port)
    exact ⟨rfl, rfl, (hadd _).regs⟩
  · exact .refl _

/-- An OPEN goes out, or waits for its epoch: the session stays of its inst and takes the nonce. -/
theorem sendOpen_sess (s : State) (k : Nat) (nonce : BitVec 128) :
    ((s.sendOpen k nonce).sess k).created = (s.sess k).created ∧ ((s.sendOpen k nonce).sess k).inst = (s.sess k).inst ∧
      ((s.sendOpen k nonce).sess k).ownNonce = nonce := by
  unfold sendOpen
  generalize hopening : s.setSess k { s.sess k with state := .opening, ownNonce := nonce, key := none } = u
  have hsess : u.sess k = { s.sess k with state := .opening, ownNonce := nonce, key := none } := by
    rw [← hopening, sess_setSess]
  have htake := (State.takeEpoch_keeps u (u.sess k).keyId).sessions rfl
  dsimp only
  generalize u.takeEpoch (u.sess k).keyId = taken at htake
  obtain ⟨_ | e, v⟩ := taken
  · rw [sess_setSess, sess_congr htake, hsess]
    exact ⟨rfl, rfl, rfl⟩
  · dsimp only
    rw [sess_congr ((State.emit_keeps ..).sessions rfl), sess_setSess, sess_congr htake, hsess]
    exact ⟨rfl, rfl, rfl⟩

theorem quiet_sendOpen (s : State) (k : Nat) (nonce : BitVec 128) : Quiet s (s.sendOpen k nonce) := by
  unfold sendOpen
  refine (quiet_setSess s k { s.sess k with state := .opening, ownNonce := nonce, key := none }).trans ?_
  generalize s.setSess k { s.sess k with state := .opening, ownNonce := nonce, key := none } = u
  have htake := quiet_takeEpoch u (u.sess k).keyId
  dsimp only
  generalize u.takeEpoch (u.sess k).keyId = taken at htake
  obtain ⟨_ | e, v⟩ := taken
  · exact htake.trans (quiet_setSess ..)
  · exact ((htake.trans (quiet_setSess ..)).trans (quiet_setSess ..)).trans (quiet_emit ..)

theorem createSession_sess (s : State) (k : Nat) (b : List Byte) (mgmt : Bool) (nonce : BitVec 128) :
    ((s.createSession k b mgmt nonce).sess k).created = true ∧
      ((s.createSession k b mgmt nonce).sess k).inst = fieldAt b 2 1 % 8 ∧
      ((s.createSession k b mgmt nonce).sess k).ownNonce = nonce := by
  unfold createSession
  dsimp only
  split
  · rw [sess_setSess]
    exact ⟨rfl, rfl, rfl⟩
  · have h := sendOpen_sess (s.setSess k { sessionOf b (s.sess k) with mgmt := mgmt }) k nonce
    rw [sess_setSess] at h
    exact h

theorem quiet_createSession (s : State) (k : Nat) (b : List Byte) (mgmt : Bool) (nonce : BitVec 128) :
    Quiet s (s.createSession k b mgmt nonce) := by
  unfold createSession
  dsimp only
  split
  · exact quiet_setSess ..
  · exact (quiet_setSess ..).trans (quiet_sendOpen ..)

/-- Without transactions a session that closes ends none. -/
theorem closeSession_of_no_txns {s : State} (h : s.txns = []) (k : Nat) : Quiet s (s.closeSession k) := by
  unfold closeSession endTxnsOf
  rw [h]
  exact ⟨rfl, rfl, fun _ _ => rfl⟩

theorem created_closeSession (s : State) (k : Nat) : ((s.closeSession k).sess k).created = false := by
  rw [closeSession, sess_setSess]
  rfl

/-! ### The pod's and the votes' status (R275, R281, R357) -/

section Status

variable {r : Nat} (hr : 0x400060 ≤ r)
include hr

/-- The gate's pod view shows in registers below 0x400060. -/
theorem reg_showPod (s : State) : s.showPod.reg r = s.reg r := by
  have hheld : r ≠ R.HST_POD_HELD := by rw [R.HST_POD_HELD]; omega
  have hfenced : r ≠ R.HST_POD_FENCED := by rw [R.HST_POD_FENCED]; omega
  have hstate : r ≠ R.HST_POD_STATE := by rw [R.HST_POD_STATE]; omega
  unfold showPod
  split
  · rfl
  · extract_lets held members shown cleared counted
    have hshown : shown.reg r = s.reg r := (State.reg_setReg ..).trans (if_neg hheld)
    have hcleared : cleared.reg r = shown.reg r := by
      unfold cleared
      split
      · exact (State.reg_setReg ..).trans (if_neg hfenced)
      · rfl
    have hcounted : counted.reg r = s.reg r :=
      ((State.reg_setFld ..).trans (if_neg hstate)).trans (hcleared.trans hshown)
    split
    · exact hcounted
    · exact ((State.reg_setFld ..).trans (if_neg hstate)).trans hcounted

theorem reg_showVote (s : State) (i : Nat) (hi : r ≠ R.SEAM_VOTE_STATUS i) : (s.showVote i).reg r = s.reg r := by
  have hglb : r ≠ R.GLB_STATUS := by rw [R.GLB_STATUS]; omega
  have hpod (u : State) (v : Nat) : (u.setFld (R.SEAM_VOTE_STATUS i) F.SEAM_VOTE_STATUS_state v).showPod.reg r = u.reg r :=
    (reg_showPod hr _).trans ((State.reg_setFld ..).trans (if_neg hi))
  unfold showVote
  extract_lets
  split
  · exact (State.reg_setFld ..).trans ((if_neg hglb).trans (hpod ..))
  · exact hpod ..

theorem reg_resumeVote (s : State) (i next : Nat) (hi : r ≠ R.SEAM_VOTE_STATUS i) :
    (s.resumeVote i next).reg r = s.reg r :=
  (reg_showVote hr _ i hi).trans ((State.reg_setFld ..).trans (if_neg hi))

end Status

theorem reg_imageReg (s : State) {off r : Nat} (v : Nat) (h : r ≠ off) : (s.imageReg off v).reg r = s.reg r := by
  unfold imageReg
  split
  · exact (State.reg_setReg ..).trans (if_neg h)
  · rfl

theorem vote_resumeVote (s : State) (i next : Nat) :
    ((s.resumeVote i next).vote i).next = some next ∧ ((s.resumeVote i next).vote i).held = false := by
  have hvotes : (s.resumeVote i next).votes = _ := (State.showVote_keeps _ i).votes rfl
  rw [State.vote, hvotes]
  dsimp only [State.setFld, State.setReg, State.setVote]
  rw [Tbl.get_set_same]
  exact ⟨rfl, rfl⟩

/-- The registers of RESUME's body. -/
def resumeRegs (s : State) (c : CmdBlock) : State :=
  let f := fieldAt c.body
  ((((s.setReg (R.SEAM_VOTE_MEMBERS c.inst) (BitVec.ofNat 64 (f 8 8))).setReg (R.SEAM_VOTE_PODS_LO c.inst)
    (BitVec.ofNat 64 (f 16 8))).setReg (R.SEAM_VOTE_PODS_HI c.inst) (BitVec.ofNat 64 (f 24 8))).setReg
    (R.SEAM_VOTE_CHILDREN c.inst) (BitVec.ofNat 64 (f 32 8))).imageReg (R.SEAM_VOTE_TREE c.inst) (f 40 4)

theorem members_resumeRegs (s : State) (c : CmdBlock) :
    ((s.resumeRegs c).reg (R.SEAM_VOTE_MEMBERS c.inst)).toNat = fieldAt c.body 8 8 := by
  unfold resumeRegs
  dsimp only
  rw [reg_imageReg _ _ (by simp only [R.SEAM_VOTE_MEMBERS, R.SEAM_VOTE_TREE]; omega), State.reg_setReg, if_neg (by
      simp only [R.SEAM_VOTE_MEMBERS, R.SEAM_VOTE_CHILDREN]; omega), State.reg_setReg, if_neg (by
      simp only [R.SEAM_VOTE_MEMBERS, R.SEAM_VOTE_PODS_HI]; omega), State.reg_setReg, if_neg (by
      simp only [R.SEAM_VOTE_MEMBERS, R.SEAM_VOTE_PODS_LO]; omega), State.reg_setReg, if_pos rfl, BitVec.toNat_ofNat]
  exact Nat.mod_eq_of_lt (fieldAt_lt c.body 8 8)

theorem children_resumeRegs (s : State) (c : CmdBlock) :
    ((s.resumeRegs c).reg (R.SEAM_VOTE_CHILDREN c.inst)).toNat = fieldAt c.body 32 8 := by
  unfold resumeRegs
  dsimp only
  rw [reg_imageReg _ _ (by simp only [R.SEAM_VOTE_CHILDREN, R.SEAM_VOTE_TREE]; omega), State.reg_setReg, if_pos rfl,
    BitVec.toNat_ofNat]
  exact Nat.mod_eq_of_lt (fieldAt_lt c.body 32 8)

/-- The registers of the votes lie above those of the queues. -/
theorem quiet_of_reg_below {s t : State} (hhost : t.host = s.host) (h : ∀ r, 0x400060 ≤ r → r < 0xC08000 → t.reg r = s.reg r) :
    Quiet s t := .of_regs hhost fun r hr => by
  rw [inQueueRegs, decide_eq_true_eq] at hr
  exact h r (by omega) (by omega)

theorem quiet_resumeRegs (s : State) (c : CmdBlock) : Quiet s (s.resumeRegs c) := by
  refine quiet_of_reg_below ((State.imageReg_keeps ..).host rfl) fun r _ hr => ?_
  unfold resumeRegs
  dsimp only
  rw [reg_imageReg _ _ (by rw [R.SEAM_VOTE_TREE]; omega), State.reg_setReg, if_neg (by rw [R.SEAM_VOTE_CHILDREN]; omega),
    State.reg_setReg, if_neg (by rw [R.SEAM_VOTE_PODS_HI]; omega), State.reg_setReg,
    if_neg (by rw [R.SEAM_VOTE_PODS_LO]; omega), State.reg_setReg, if_neg (by rw [R.SEAM_VOTE_MEMBERS]; omega)]

theorem quiet_resumeVote (s : State) (i next : Nat) : Quiet s (s.resumeVote i next) :=
  quiet_of_reg_below ((State.resumeVote_keeps ..).host rfl) fun _ hlo hhi =>
    reg_resumeVote hlo s i next (by rw [R.SEAM_VOTE_STATUS]; omega)

end State

section Commands

open State

variable {s : State} {q : QRef} {idx : Nat} {d : BitVec 512} {c : CmdBlock} (hkey : s.Keyed c) (hfresh : s.Fresh c)
include hkey hfresh

theorem sessionCreate_takes (nonce : BitVec 128) (h : s.Orders q idx d c 0x0501) :
    s.Takes q idx c (.sessionCreate q nonce) (fun t =>
      if (s.sess (fieldAt c.body 0 2)).created then s.Obeyed t q idx c 0x45 0 ∧ t.sessions = s.sessions
      else s.Obeyed t q idx c 0 0 ∧ (t.sess (fieldAt c.body 0 2)).created = true ∧
        (t.sess (fieldAt c.body 0 2)).inst = fieldAt c.body 2 1 ∧ (t.sess (fieldAt c.body 0 2)).ownNonce = nonce) := by
  have hop : c.opcode = 0x0501 := h.2.2.2.1
  have hsessions := (besideQueues_accepted s q idx d c).sessions_eq
  have hsess := sess_congr hsessions (fieldAt c.body 0 2)
  by_cases hnew : (s.sess (fieldAt c.body 0 2)).created
  · refine takes_of_ends h hkey hfresh (by decide) (by decide) (env := ⟨.repaired, nonce⟩) rfl (isOp_of_orders h)
      (.of_quiet h (st := 0x45) (res := 0) ?_ (.refl _) (by decide) (by decide)) fun _ hob => ?_
    · simp only [cmdExecute, hop, cmdSessionCreate, hsess, if_pos hnew]
    · rw [if_pos hnew]
      exact ⟨hob, hsessions⟩
  · have hbody : bodyOk 0x0501 c.body = true := hop ▸ (cmdBlockOf_ok h.2.2.1).2
    obtain ⟨-, hinst, -⟩ := of_decide_eq_true hbody
    obtain ⟨hcreated, hof, hnonce⟩ :=
      createSession_sess (s.accepted q idx d c) (fieldAt c.body 0 2) c.body false nonce
    refine takes_of_ends h hkey hfresh (by decide) (by decide) (env := ⟨.repaired, nonce⟩) rfl (isOp_of_orders h)
      (.of_quiet h (st := 0) (res := 0) ?_ (quiet_createSession _ (fieldAt c.body 0 2) c.body false nonce) (by decide)
        (by decide)) fun _ hob => ?_
    · simp only [cmdExecute, hop, cmdSessionCreate, hsess, if_neg hnew]
    · rw [if_neg hnew]
      exact ⟨hob, hcreated, hof.trans (Nat.mod_eq_of_lt hinst), hnonce⟩

theorem sessionClose_takes (h : s.Orders q idx d c 0x0502) (htxns : s.txns = []) :
    s.Takes q idx c (.sessionClose q) (fun t => s.Obeyed t q idx c 0 0 ∧
      (t.sess (fieldAt c.body 0 8)).created = false) := by
  have hop : c.opcode = 0x0502 := h.2.2.2.1
  have hnone : (s.accepted q idx d c).txns = [] := (besideQueues_accepted s q idx d c).txns_eq.trans htxns
  refine takes_of_ends h hkey hfresh (by decide) (by decide) (env := env0) rfl (isOp_of_orders h)
    (.of_quiet h (st := 0) (res := 0) ?_ (closeSession_of_no_txns hnone (fieldAt c.body 0 8)) (by decide) (by decide))
    fun _ hob => ⟨hob, created_closeSession ..⟩
  simp only [cmdExecute, hop, cmdSessionClose]

theorem resume_takes (h : s.Orders q idx d c 0x0601) :
    s.Takes q idx c (.resume q) (fun t => s.Obeyed t q idx c 0 0 ∧
      (t.reg (R.SEAM_VOTE_MEMBERS c.inst)).toNat = fieldAt c.body 8 8 ∧
      (t.reg (R.SEAM_VOTE_CHILDREN c.inst)).toNat = fieldAt c.body 32 8 ∧
      (t.vote c.inst).next = some (fieldAt c.body 0 8) ∧ (t.vote c.inst).held = false) := by
  have hop : c.opcode = 0x0601 := h.2.2.2.1
  obtain ⟨hnext, hheld⟩ := vote_resumeVote ((s.accepted q idx d c).resumeRegs c) c.inst (fieldAt c.body 0 8)
  refine takes_of_ends h hkey hfresh (by decide) (by decide) (env := env0) rfl (isOp_of_orders h)
    (.of_quiet h (st := 0) (res := 0) ?_ ((quiet_resumeRegs _ c).trans (quiet_resumeVote _ c.inst (fieldAt c.body 0 8)))
      (by decide) (by decide)) fun _ hob => ⟨hob, ?_, ?_, hnext, hheld⟩
  · simp only [cmdExecute, hop]
    rfl
  · rw [reg_finished_of_not_queue _ _ _ _ _ _ (decide_eq_false (by rw [R.SEAM_VOTE_MEMBERS]; omega)),
      reg_resumeVote (by rw [R.SEAM_VOTE_MEMBERS]; omega) _ _ _ (by simp only [R.SEAM_VOTE_MEMBERS, R.SEAM_VOTE_STATUS]; omega),
      members_resumeRegs]
  · rw [reg_finished_of_not_queue _ _ _ _ _ _ (decide_eq_false (by rw [R.SEAM_VOTE_CHILDREN]; omega)),
      reg_resumeVote (by rw [R.SEAM_VOTE_CHILDREN]; omega) _ _ _ (by simp only [R.SEAM_VOTE_CHILDREN, R.SEAM_VOTE_STATUS]; omega),
      children_resumeRegs]

end Commands
end Sys2Proof.Machine
end

section
/-! The remaining commands that complete at once (R351, R436, R456): a doorbell, a sealed log, a module reset; and the
obligation about all of them. -/
namespace Sys2Proof.Machine
namespace State

/-! ### The doorbell of another queue of the page (R345) -/

/-- A field beside the one written, in a queue of the page. -/
theorem qfld_setQfld_apart {p q : QRef} (u : State) {r : Nat} {f g : Fld} (v : Nat) (hf : f.lo + f.len ≤ 64)
    (h : f.lo + f.len ≤ g.lo ∨ g.lo + g.len ≤ f.lo) : (u.setQfld p r f v).qfld q r g = u.qfld q r g := by
  by_cases he : queueReg q r = queueReg p r
  · change (u.setFld (queueReg p r) f v).fld (queueReg q r) g = u.fld (queueReg q r) g
    rw [he]
    exact State.fld_setFld_apart _ _ _ _ _ hf h
  · exact qfld_congr (reg_setQfld _ _ _ _ _ he) _

section Doorbell

variable {p q : QRef} (hpage : p.page = q.page)
include hpage

/-- Two registers of queues of one page differ when the registers do. -/
theorem queueReg_ne_of_page {r r' : Nat} (hr : r - 0x410000 < 0x40) (hr' : r' - 0x410000 < 0x40)
    (h : r - 0x410000 ≠ r' - 0x410000) : queueReg p r ≠ queueReg q r' := by
  by_cases hq : p.q = q.q
  · obtain rfl : p = q := by
      cases p
      cases q
      cases hpage
      cases hq
      rfl
    exact queueReg_ne p h
  · exact queueReg_ne_of_queue hpage hq hr hr'

/-- A field of another register of a queue of the page. -/
theorem qfld_setQfld_other (u : State) {r r' : Nat} {f g : Fld} (v : Nat) (hr : r - 0x410000 < 0x40)
    (hr' : r' - 0x410000 < 0x40) (h : r' - 0x410000 ≠ r - 0x410000) :
    (u.setQfld p r f v).qfld q r' g = u.qfld q r' g :=
  qfld_congr (reg_setQfld _ _ _ _ _ (queueReg_ne_of_page hpage.symm hr' hr h)) _

/-- A doorbell leaves the head and the completion ring of each queue. -/
theorem Running.writeQTail {s u : State} {idx : Nat} (h : Running s q idx u) (v : Nat) :
    Running s q idx (u.writeQTail p v) := by
  obtain ⟨hworks, hhead, hring⟩ := h
  unfold State.writeQTail
  split
  · unfold State.disableQueue
    refine ⟨hworks, ?_, hring.trans ⟨?_, ?_, ?_, ?_⟩⟩
    · rw [qfld_setQfld_other hpage _ _ (by decide) (by decide) (by decide),
        qfld_setQfld_other hpage _ _ (by decide) (by decide) (by decide), hhead]
    · rw [qfld_setQfld_other hpage _ _ (by decide) (by decide) (by decide),
        qfld_setQfld_apart _ _ (by decide) (by decide)]
    · rw [State.queueSize, qfld_setQfld_other hpage _ _ (by decide) (by decide) (by decide),
        qfld_setQfld_apart _ _ (by decide) (by decide), State.queueSize]
    · rw [qfld_setQfld_other hpage _ _ (by decide) (by decide) (by decide),
        qfld_setQfld_other hpage _ _ (by decide) (by decide) (by decide)]
    · rw [qfld_setQfld_other hpage _ _ (by decide) (by decide) (by decide),
        qfld_setQfld_other hpage _ _ (by decide) (by decide) (by decide)]
  · have hother {r : Nat} (hr : r - 0x410000 < 0x40) (hne : r - 0x410000 ≠ R.HST_Q_TAIL 0 0 - 0x410000) :=
      reg_setQfld u p (R.HST_Q_TAIL 0 0) F.HST_Q_TAIL_tail v (queueReg_ne_of_page hpage.symm hr (by decide) hne)
    exact ⟨hworks, (qfld_congr (hother (by decide) (by decide)) _).trans hhead,
      hring.trans (.of_regs (hother (by decide) (by decide)) (hother (by decide) (by decide))
        (hother (by decide) (by decide)))⟩

/-- The size of each queue of the page, as before an accepted command. -/
theorem queueSize_accepted (s : State) (idx : Nat) (d : BitVec 512) (c : CmdBlock) :
    (s.accepted q idx d c).queueSize p = s.queueSize p := by
  have hreg : (s.accepted q idx d c).reg (queueReg p (R.HST_Q_CFG 0 0)) = s.reg (queueReg p (R.HST_Q_CFG 0 0)) :=
    reg_started (queueReg_ne_of_page hpage (by decide) (by decide) (by decide))
      (queueReg_ne_of_page hpage (by decide) (by decide) (by decide))
  rw [State.queueSize, qfld_congr hreg, State.queueSize]

/-- The tail of a queue of the page, after its doorbell and after the command that rang it has completed. -/
theorem tail_finished_writeQTail (u : State) (idx st res : Nat) (irqs : List (Nat × Nat)) {v : Nat}
    (hv : v < u.queueSize p) :
    ((u.writeQTail p v).finished q idx st res irqs).qfld p (R.HST_Q_TAIL 0 0) F.HST_Q_TAIL_tail = v := by
  have hkept := reg_finished (u.writeQTail p v) q idx st res irqs (r := queueReg p (R.HST_Q_TAIL 0 0))
    (queueReg_ne_of_page hpage (by decide) (by decide) (by decide))
    (queueReg_ne_of_page hpage (by decide) (by decide) (by decide))
  rw [qfld_congr hkept, State.writeQTail, if_neg (Nat.not_le.2 hv), qfld_setQfld _ _ _ _ _ (by decide)]
  exact Nat.mod_eq_of_lt (Nat.lt_of_lt_of_le hv (queueSize_le ..))

end Doorbell

/-! ### Bytes that the log writer stores -/

theorem memOvc_not_queue (n : Nat) :
    inQueueRegs (R.MEM_OVC_DIRTY n) = false ∧ inQueueRegs (R.MEM_OVC_POISONED n) = false :=
  ⟨decide_eq_false (by rw [R.MEM_OVC_DIRTY]; omega), decide_eq_false (by rw [R.MEM_OVC_POISONED]; omega)⟩

theorem quiet_putByte (s : State) (a : Nat) (b : Byte) : Quiet s (s.putByte a b) := by
  refine .of_regs ((State.putByte_keeps s a b).host rfl) fun r hr => ?_
  unfold State.putByte
  split
  · rename_i e _
    dsimp only
    split
    · rfl
    · exact (quiet_setReg (memOvc_not_queue _).1 _).regs r hr
  · dsimp only
    split
    · rfl
    · split <;> rfl

theorem Quiet.foldl {α β : Type} {s : State} (π : β → State) {f : β → α → β} (hf : ∀ b x, Quiet (π b) (π (f b x)))
    (l : List α) (b : β) (h : Quiet s (π b)) : Quiet s (π (l.foldl f b)) := by
  induction l generalizing b with
  | nil => exact h
  | cons x l ih => exact ih (f b x) (h.trans (hf b x))

theorem quiet_clearPoison (s : State) (a n : Nat) : Quiet s (s.clearPoison a n) := by
  unfold State.clearPoison
  exact Quiet.foldl id (fun b e => quiet_setReg (memOvc_not_queue _).2 _) _ _ ⟨rfl, rfl, fun _ _ => rfl⟩

theorem quiet_putBytes (s : State) (a : Nat) (bs : List Byte) : Quiet s (s.putBytes a bs) := by
  unfold State.putBytes
  refine Quiet.foldl (fun st : State × Nat => st.1) (fun st b => quiet_putByte st.1 st.2 b) bs _ ?_
  split
  · exact .refl s
  · exact quiet_clearPoison ..

theorem bytesAt_append (s : State) (a m n : Nat) : s.bytesAt a (m + n) = s.bytesAt a m ++ s.bytesAt (a + m) n := by
  simp only [State.bytesAt, List.range_add, List.map_append, List.map_map, Function.comp_def, Nat.add_assoc]

/-- The first bytes of a string that was written. -/
theorem bytesAt_putBytes_append (s : State) (a : Nat) (bs cs : List Byte)
    (h : ∀ j, j < (bs ++ cs).length → inRegs (a + j) = false) : (s.putBytes a (bs ++ cs)).bytesAt a bs.length = bs := by
  have hall := bytesAt_putBytes s a (bs ++ cs) h
  rw [List.length_append, bytesAt_append] at hall
  exact (List.append_inj hall (by simp [State.bytesAt])).1

/-! ### The sealed record (R456) -/

/-- The sealed record begins with its magic number. -/
theorem sealBody_eq (s : State) (len : Nat) : ∃ bs, s.sealBody len = bytesOf 0x534D4850 4 ++ bs := by
  unfold State.sealBody
  simp only [List.append_assoc]
  exact ⟨_, rfl⟩

/-- The size of a record depends on the log and the snapshots only. -/
theorem length_sealBody {s t : State} (h : t.ras = s.ras) (m n : Nat) : (t.sealBody m).length = (s.sealBody n).length := by
  have hring : t.ringEntries = s.ringEntries := by
    funext k
    rw [State.ringEntries, h, State.ringEntries]
  unfold State.sealBody State.bootNonce
  rw [hring, h]
  simp only [List.length_append, List.length_replicate, length_bytesOf]

end State

section Commands

open State

variable {s : State} {q : QRef} {idx : Nat} {d : BitVec 512} {c : CmdBlock} (hkey : s.Keyed c) (hfresh : s.Fresh c)
include hkey hfresh

theorem doorbell_takes (h : s.Orders q idx d c 0x0701) (h8 : fieldAt c.body 0 1 = 8) :
    s.Takes q idx c (.doorbell q) (fun t => s.Obeyed t q idx c 0 0 ∧
      ∀ p : QRef, p.page = .pf → p.q.val = fieldAt c.body 1 1 → fieldAt c.body 2 2 < s.queueSize p →
        t.qfld p (R.HST_Q_TAIL 0 0) F.HST_Q_TAIL_tail = fieldAt c.body 2 2) := by
  have hop : c.opcode = 0x0701 := h.2.2.2.1
  have hbody : bodyOk 0x0701 c.body = true := hop ▸ (cmdBlockOf_ok h.2.2.1).2
  obtain ⟨-, hq, -⟩ := of_decide_eq_true hbody
  have hpage : QPage.pf = q.page := h.2.1.symm
  let p : QRef := ⟨.pf, ⟨fieldAt c.body 1 1, hq⟩⟩
  have heff : (s.accepted q idx d c).cmdExecute (.queue q s.host.nextWork) c env0 =
      ((s.accepted q idx d c).writeQTail p (fieldAt c.body 2 2)).cmdDone (.queue q s.host.nextWork) 0 0 := by
    simp only [cmdExecute, hop, cmdDoorbell, h8, Nat.mod_eq_of_lt hq]
    rfl
  have hhost : ((s.accepted q idx d c).writeQTail p (fieldAt c.body 2 2)).host = (s.accepted q idx d c).host :=
    (State.writeQTail_keeps ..).host rfl
  refine takes_of_ends h hkey hfresh (by decide) (by decide) (env := env0) rfl (isOp_of_orders h)
    ⟨heff, (running_accepted h.1.2.2.1).writeQTail hpage _, by rw [hhost]; exact mem_counters_accepted, by decide,
      by decide⟩ fun irqs hob => ⟨hob, fun p' hp' hq' hlt => ?_⟩
  obtain rfl : p' = p := by
    cases p'
    cases hp'
    exact congrArg (QRef.mk .pf) (Fin.ext hq')
  exact tail_finished_writeQTail hpage _ idx 0 0 irqs (by rw [queueSize_accepted hpage]; exact hlt)

/-! ### LOG_SEAL -/

theorem logSeal_short_takes (h : s.Orders q idx d c 0x0801) (hcap : fieldAt c.body 8 8 < (s.sealBody 0).length + 96) :
    s.Takes q idx c (.logSeal q) (fun t => s.Obeyed t q idx c 0x95 0) := by
  have hop : c.opcode = 0x0801 := h.2.2.2.1
  have hlen := length_sealBody (besideQueues_accepted s q idx d c).ras_eq 0 0
  refine takes_of_ends h hkey hfresh (by decide) (by decide) (env := env0) rfl (isOp_of_orders h)
    (.of_quiet h (st := 0x95) (res := 0) ?_ (.refl _) (by decide) (by decide)) fun _ hob => hob
  simp only [cmdExecute, hop, cmdLogSeal, hlen, if_pos hcap]

theorem logSeal_takes (h : s.Orders q idx d c 0x0801) (hcap : (s.sealBody 0).length + 96 ≤ fieldAt c.body 8 8)
    (hcheck : s.checkRange .thimble (fieldAt c.body 0 8) ((s.sealBody 0).length + 96) = 0)
    (hin : fieldAt c.body 0 8 + ((s.sealBody 0).length + 96) ≤ 0x6000000000)
    (hlt : (s.sealBody 0).length + 96 < 2 ^ 64) :
    s.Takes q idx c (.logSeal q) (fun t =>
      s.Obeyed t q idx c 0 ((s.sealBody 0).length + 96) ∧ t.natAt (fieldAt c.body 0 8) 4 = 0x534D4850) := by
  have hop : c.opcode = 0x0801 := h.2.2.2.1
  have hacc := besideQueues_accepted s q idx d c
  have hlen := fun m => length_sealBody hacc.ras_eq m 0
  obtain ⟨rest, hbody⟩ := (s.accepted q idx d c).sealBody_eq ((s.sealBody 0).length + 96)
  generalize hsig : bytesOf (Config.sign (Config.sha384 ((s.accepted q idx d c).sealBody ((s.sealBody 0).length + 96)))).toNat
    96 = sig
  have hsize : (bytesOf 0x534D4850 4 ++ (rest ++ sig)).length = (s.sealBody 0).length + 96 := by
    have hbodyLen := hlen ((s.sealBody 0).length + 96)
    rw [hbody] at hbodyLen
    rw [← List.append_assoc, List.length_append, hbodyLen, ← hsig, length_bytesOf]
  have hmagic := bytesAt_putBytes_append (s.accepted q idx d c) (fieldAt c.body 0 8) (bytesOf 0x534D4850 4) (rest ++ sig)
    (by
      intro j hj
      rw [hsize] at hj
      exact decide_eq_false (by omega))
  refine takes_of_ends h hkey hfresh (by decide) (by decide) (env := env0) rfl (isOp_of_orders h)
    (.of_quiet h (st := 0) ?_ (quiet_putBytes _ (fieldAt c.body 0 8) (bytesOf 0x534D4850 4 ++ (rest ++ sig))) (by decide) hlt)
    fun irqs hob => ⟨hob, ?_⟩
  · simp only [cmdExecute, hop, cmdLogSeal, hlen 0, if_neg (Nat.not_lt.2 hcap), hacc.checkRange_thimble_eq, hcheck,
      if_neg (Nat.not_lt.2 hin), hsig]
    rw [hbody, List.append_assoc]
  · rw [length_bytesOf] at hmagic
    rw [State.natAt]
    refine (congrArg natOfBytes ((bytesAt_congr rfl rfl _ 4).trans hmagic)).trans ?_
    exact natOfBytes_bytesOf_of_lt (by decide)

/-! ### A module reset -/

theorem moduleReset_takes (h : s.Orders q idx d c 0x0204) (hoff : fieldAt c.body 0 8 = R.PWR_RESET)
    (hbit : bitOf (fieldAt c.body 8 8) 0 = true) :
    s.Takes q idx c (.moduleReset q) (fun t => t.reg R.PWR_BOOT_CAUSE = 2 ∧
      t.fld R.PWR_BOOT_STATUS F.PWR_BOOT_STATUS_step = 2 ∧ t.host.works = [] ∧ t.cores = []) := by
  have hop : c.opcode = 0x0204 := h.2.2.2.1
  have heff : (s.accepted q idx d c).cmdExecute (.queue q s.host.nextWork) c env0 =
      ((s.accepted q idx d c).cmdDone (.queue q s.host.nextWork) 0 0).moduleReset 2 := by
    simp only [cmdExecute, hop, cmdRegWrite, if_pos (And.intro hoff hbit)]
  refine takes_of_accepted h hkey hfresh (by decide) (by decide) (env := env0) rfl (by simp only [isRegWrite, hop, hoff, hbit]; rfl) ?_
  rw [heff]
  refine ⟨?_, ?_, rfl, rfl⟩
  · unfold State.moduleReset
    rw [State.reg_setFld, if_neg (by decide), State.reg_setFld, if_neg (by decide), State.reg_setReg, if_pos rfl]
    rfl
  · exact State.fld_setFld _ _ _ _ (by decide)

end Commands
end Sys2Proof.Machine

namespace Sys2Proof

open Machine

/-- Settles O45: each command starts, meets the checks of R352 and, when its tag verifies, has its effect and completes. -/
theorem immediateCommands : Obligations.ImmediateCommands := by
  unfold Obligations.ImmediateCommands
  intro s q idx d c
  refine ⟨keyProvision_answers, regRead_answers, cmdStatus_answers, fun hkey hfresh => ⟨powerCap_takes hkey hfresh,
    keyWrite_takes hkey hfresh, keyRetire_takes hkey hfresh, regWrite_tunnelTimeout_takes hkey hfresh,
    imageWrite_takes hkey hfresh, firmwarePatch_takes hkey hfresh, fun out h =>
      ⟨hbmRepair_outside_maintenance_takes hkey hfresh out h, fun _ => hbmRepair_takes hkey hfresh out h⟩,
    sessionCreate_takes hkey hfresh, sessionClose_takes hkey hfresh, resume_takes hkey hfresh, doorbell_takes hkey hfresh,
    fun h => ⟨logSeal_short_takes hkey hfresh h, fun hcap hcheck hin hlt _ _ =>
      logSeal_takes hkey hfresh h hcap hcheck hin hlt⟩,
    moduleReset_takes hkey hfresh⟩⟩

end Sys2Proof
end

section
/-! Number formats: the codes of an encoding and the values that they stand for (R41, R43, R57). -/
namespace Sys2Proof
namespace FloatEnc

variable (f : FloatEnc)

/-- The exponent field of a code. -/
def expField (b : Nat) : Nat := b / 2 ^ f.mw % 2 ^ f.ew

/-- The sign of a code. -/
def negField (b : Nat) : Bool := decide (b / 2 ^ (f.mw + f.ew) % 2 = 1)

/-- The exponent and mantissa fields of a code, as one number. -/
theorem fields_eq_mod (b : Nat) : f.expField b * 2 ^ f.mw + b % 2 ^ f.mw = b % 2 ^ (f.ew + f.mw) := by
  rw [expField, Nat.add_comm f.ew, Nat.pow_add, Nat.mod_mul, Nat.mul_comm, Nat.add_comm]

/-- Decoding, by a code's fields. -/
theorem decode_eq (b : Nat) : f.decode b =
    if f.inf && f.expField b == 2 ^ f.ew - 1 then (if b % 2 ^ f.mw = 0 then .inf (f.negField b) else .nan)
    else if f.nan.isSome && !f.inf && f.expField b == 2 ^ f.ew - 1 && b % 2 ^ f.mw == 2 ^ f.mw - 1 then .nan
    else if f.expField b = 0 then .fin (f.negField b) (b % 2 ^ f.mw) (1 - f.bias - f.mw)
    else .fin (f.negField b) (2 ^ f.mw + b % 2 ^ f.mw) (f.expField b - f.bias - f.mw) := rfl

/-- A code of a finite value: its sign, and its significand at its own exponent; the exponent field above all others is
not one of a finite value where the encoding has infinities. -/
theorem decode_fin {b m : Nat} {neg : Bool} {x : Int} (h : f.decode b = .fin neg m x) :
    neg = f.negField b ∧ (f.inf = true → f.expField b ≠ 2 ^ f.ew - 1) ∧
    (f.expField b = 0 ∧ m = b % 2 ^ f.mw ∧ x = 1 - f.bias - f.mw ∨
      f.expField b ≠ 0 ∧ m = 2 ^ f.mw + b % 2 ^ f.mw ∧ x = f.expField b - f.bias - f.mw) := by
  rw [decode_eq] at h
  split at h
  · split at h <;> cases h
  · rename_i htop
    have hinf : f.inf = true → f.expField b ≠ 2 ^ f.ew - 1 := by simpa using htop
    split at h
    · cases h
    · split at h
      · rename_i he
        cases h
        exact ⟨rfl, hinf, .inl ⟨he, rfl, rfl⟩⟩
      · rename_i he
        cases h
        exact ⟨rfl, hinf, .inr ⟨he, rfl, rfl⟩⟩

/-- A code of an infinity: its sign, and the magnitude of infinity. -/
theorem decode_inf {b : Nat} {neg : Bool} (h : f.decode b = .inf neg) :
    neg = f.negField b ∧ f.infCode = b % 2 ^ (f.ew + f.mw) := by
  rw [← fields_eq_mod]
  rw [decode_eq] at h
  split at h
  · rename_i htop
    rw [Bool.and_eq_true, beq_iff_eq] at htop
    split at h
    · rename_i hm
      cases h
      rw [infCode, htop.2, hm, Nat.add_zero]
      exact ⟨rfl, rfl⟩
    · cases h
  · split at h
    · cases h
    · split at h <;> cases h

end FloatEnc

/-- A magnitude read at its own exponent is not rounded. -/
theorem roundAt_self (r : Rnd) (m : Nat) (e : Int) : roundAt r m e e = m := by simp [roundAt]

namespace FloatEnc

variable (f : FloatEnc)

/-- A subnormal significand is its own magnitude code. -/
theorem magCode_subnormal (r : Rnd) {m : Nat} (hm : m < 2 ^ f.mw) : f.magCode r m (1 - f.bias - f.mw) = m := by
  by_cases h0 : m = 0
  · rw [magCode, if_pos h0, h0]
  · have hlog : m.log2 < f.mw := (Nat.log2_lt h0).2 hm
    have hq : max ((m.log2 : Int) + (1 - f.bias - f.mw)) (1 - f.bias) - f.mw = 1 - f.bias - f.mw := by omega
    simp only [magCode, if_neg h0, hq, roundAt_self, if_pos hm]

/-- The magnitude code of a normal significand is its exponent field above its fraction. -/
theorem magCode_normal (r : Rnd) {m e : Nat} (hm : m < 2 ^ f.mw) (he : e ≠ 0) :
    f.magCode r (2 ^ f.mw + m) (e - f.bias - f.mw) = e * 2 ^ f.mw + m := by
  have h0 : 2 ^ f.mw + m ≠ 0 := by have := Nat.two_pow_pos f.mw; omega
  have hlog : (2 ^ f.mw + m).log2 = f.mw := (Nat.log2_eq_iff h0).2 ⟨by omega, by rw [Nat.pow_succ]; omega⟩
  have hq : max ((f.mw : Int) + (e - f.bias - f.mw)) (1 - f.bias) - f.mw = e - f.bias - f.mw := by omega
  have hexp : ((e : Int) - f.bias - f.mw + f.mw + f.bias).toNat = e := by omega
  simp only [magCode, if_neg h0, hlog, hq, roundAt_self, if_neg (Nat.not_lt.2 (Nat.le_add_right ..)), hexp,
    Nat.add_sub_cancel_left]

/-- A finite value fits its encoding: rounding its magnitude in any way gives the code's exponent and mantissa back. -/
theorem magCode_of_decode {b m : Nat} {neg : Bool} {x : Int} (h : f.decode b = .fin neg m x) (r : Rnd) :
    f.magCode r m x = b % 2 ^ (f.ew + f.mw) := by
  have hm : b % 2 ^ f.mw < 2 ^ f.mw := Nat.mod_lt _ (Nat.two_pow_pos _)
  obtain ⟨-, -, ⟨he, rfl, rfl⟩ | ⟨he, rfl, rfl⟩⟩ := f.decode_fin h
  · rw [magCode_subnormal f r hm, ← fields_eq_mod, he, Nat.zero_mul, Nat.zero_add]
  · rw [magCode_normal f r hm he, fields_eq_mod]

/-- A code of `1 + ew + mw` bits is its sign and its other fields. -/
theorem signBit_negField {b : Nat} (hb : b < 2 ^ (1 + f.ew + f.mw)) :
    f.signBit (f.negField b) + b % 2 ^ (f.ew + f.mw) = b := by
  have hq : b / 2 ^ (f.ew + f.mw) < 2 :=
    Nat.div_lt_of_lt_mul (by rwa [Nat.mul_comm, ← Nat.pow_succ', Nat.succ_eq_one_add, ← Nat.add_assoc])
  have hsplit := Nat.div_add_mod b (2 ^ (f.ew + f.mw))
  rw [negField, Nat.add_comm f.mw, signBit]
  rcases Nat.le_one_iff_eq_zero_or_eq_one.1 (Nat.le_of_lt_succ hq) with hs | hs
  · rw [hs, Nat.mul_zero] at hsplit
    simpa [hs] using hsplit
  · rw [hs, Nat.mul_one] at hsplit
    simpa [hs] using hsplit

/-- Where an encoding has infinities, every finite code lies below infinity's. -/
theorem mod_lt_infCode (hinf : f.inf = true) {b m : Nat} {neg : Bool} {x : Int} (h : f.decode b = .fin neg m x) :
    b % 2 ^ (f.ew + f.mw) < f.infCode := by
  obtain ⟨-, htop, -⟩ := f.decode_fin h
  have he : f.expField b < 2 ^ f.ew := Nat.mod_lt _ (Nat.two_pow_pos _)
  have hm : b % 2 ^ f.mw < 2 ^ f.mw := Nat.mod_lt _ (Nat.two_pow_pos _)
  rw [← fields_eq_mod]
  calc f.expField b * 2 ^ f.mw + b % 2 ^ f.mw < (f.expField b + 1) * 2 ^ f.mw := by rw [Nat.succ_mul]; omega
    _ ≤ f.infCode := Nat.mul_le_mul_right _ (by have := htop hinf; omega)

/-- A finite code is the sign and the magnitude code of its value, however that is rounded. -/
theorem encode_decode {b m : Nat} {neg : Bool} {x : Int} (hb : b < 2 ^ (1 + f.ew + f.mw))
    (h : f.decode b = .fin neg m x) (r : Rnd) : f.signBit neg + f.magCode r m x = b := by
  rw [magCode_of_decode f h, (f.decode_fin h).1, signBit_negField f hb]

end FloatEnc

/-- An element is as wide as its encoding's sign, exponent and mantissa. -/
theorem Fmt.bits_of_enc {f : Fmt} {e : FloatEnc} (h : f.enc = some e) : f.bits = 1 + e.ew + e.mw := by
  cases f <;> cases h <;> rfl

/-- FP32 results: a value that an FP32 code stands for rounds to that code, all NaNs to the canonical one (R43). -/
theorem toFp32_ofFp32 (w : W32) : toFp32 (ofFp32 w) = if ofFp32 w = .nan then 0x7FC00000 else w := by
  have hcode : BitVec.ofNat 32 (encFp32.signBit (encFp32.negField w.toNat) + w.toNat % 2 ^ (encFp32.ew + encFp32.mw)) = w := by
    rw [encFp32.signBit_negField w.isLt, BitVec.ofNat_toNat, BitVec.setWidth_eq]
  cases h : ofFp32 w with
  | nan => rfl
  | inf neg =>
    obtain ⟨rfl, hmag⟩ := encFp32.decode_inf h
    rw [if_neg (by simp), toFp32, hmag, hcode]
  | fin neg m x =>
    obtain ⟨rfl, -⟩ := encFp32.decode_fin h
    rw [if_neg (by simp), toFp32, encFp32.magCode_of_decode h, Nat.min_eq_left (Nat.le_of_lt (encFp32.mod_lt_infCode rfl h)), hcode]

/-- A field read as two's complement is the low bits of what it reads as. -/
theorem twosOf_signedOf {w b : Nat} (hb : b < 2 ^ w) : twosOf w (signedOf w b) = b := by
  have hlow : ((b : Int) % (2 ^ w : Nat)).toNat = b := by rw [Int.emod_eq_of_lt (by omega) (by omega), Int.toNat_natCast]
  simp only [twosOf, signedOf, Nat.mod_eq_of_lt hb]
  split
  · exact hlow
  · rw [Int.sub_emod_right, hlow]

/-- Settles O7: a finite code is not rounded again, because its significand is read at its own exponent. -/
theorem numberCodes : Obligations.NumberCodes := by
  unfold Obligations.NumberCodes
  refine ⟨fun f e b neg m x henc hb h => ?_, fun w h => ?_, fun w h => ?_, fun f b _ hb => twosOf_signedOf hb⟩
  · exact e.encode_decode (Fmt.bits_of_enc henc ▸ hb) h .rne
  · rw [toFp32_ofFp32, if_neg h]
  · rw [toFp32_ofFp32, if_pos h]

end Sys2Proof
end

section
/-! The bundle of one slot: what it does when nothing of it holds or faults (R131, R133, R135), and the vector and
special-function slots (R47, R51 to R61, R183 to R187), which write a vector register and raise flags (R66). -/
namespace Sys2Proof.Machine
namespace State

/-! ### The issue of a bundle of one slot -/

/-- A fetch hits where the bundle lies in an instruction region and its line is in the cache. -/
theorem fetchOf_hit_iff (s : State) (c : Nat) (pc : Addr) : s.fetchOf c pc = (0, none) ↔
    s.inRegion c pc.toNat 64 = true ∧ (s.core c).icache.contains (pc.toNat / 256) = true := by
  simp only [fetchOf]
  cases s.inRegion c pc.toNat 64 with
  | false => simp
  | true => cases (s.core c).icache.contains (pc.toNat / 256) <;> simp

/-- Rewriting a core with what it holds leaves its fetches. -/
theorem fetchOf_setCore_self (s : State) (c : Nat) (pc : Addr) (h : s.fetchOf c pc = (0, none)) :
    (s.setCore c (s.core c)).fetchOf c pc = (0, none) := by
  rw [fetchOf_hit_iff] at h ⊢
  rwa [core_setCore, if_pos rfl]

/-- The one slot of a bundle in slot order. -/
theorem filterMap_find?_single {p : SlotPlan} (h : p.slot < 8) :
    (List.range 8).filterMap (fun k => [p].find? (fun p => p.slot == k)) = [p] := by
  obtain ⟨slot, writes, mem, out⟩ := p
  match slot, h with
  | 0, _ | 1, _ | 2, _ | 3, _ | 4, _ | 5, _ | 6, _ | 7, _ => rfl
  | n + 8, h => exact absurd h (Nat.not_lt.2 (Nat.le_add_left 8 n))

/-- The sequencer's record of an issue, before the effects; the core holds no slot of a bundle. -/
def issueStart (s : State) (c : CoreId) : State :=
  (((s.setCore c.val (s.core c.val)).setFld (R.CORE_SEQ_STATUS c.val) F.CORE_SEQ_STATUS_state 1).setFld
    (R.CORE_SEQ_STATUS c.val) F.CORE_SEQ_STATUS_hold_cause 0).add64 (R.CORE_SEQ_BUNDLES c.val) 1

/-- The effects of a bundle of one slot. -/
def slotEffects (s : State) (c : CoreId) (slot : Nat) (es : List Eff) : State :=
  es.foldl (fun u e => u.applyEff c (s.pcOf c.val) slot (s.core c.val).snapshot e) (s.issueStart c)

theorem issueBundle_single (s : State) (c : CoreId) {p : SlotPlan} {es : List Eff} (h : p.out = .ok es) :
    (s.setCore c.val (s.core c.val)).issueBundle c (s.pcOf c.val) [p] =
      (s.slotEffects c p.slot es).advance c.val (s.pcOf c.val) es := by
  have heffs : (es.map (fun e => (p.slot, e))).map Prod.snd = es := by rw [List.map_map]; exact List.map_id es
  simp only [issueBundle, List.flatMap_cons, List.flatMap_nil, List.append_nil, h, heffs, List.foldl_map, core_setCore, if_true]
  rfl

/-- A bundle of one slot that is ready issues when its fetch hits and no fence holds. -/
theorem finishBundle_single {s : State} {c : CoreId} {p : SlotPlan} {es : List Eff}
    (hfetch : s.fetchOf c.val (s.pcOf c.val) = (0, none)) (hslot : p.slot < 8) (hfence : (s.core c.val).fence = none)
    (h : p.out = .ok es) : s.finishBundle c [p] = s.issueBundle c (s.pcOf c.val) [p] := by
  have hlegal : illegalSlot [p] = none := by simp [illegalSlot, doubleWriter, h]
  have hhold : ∀ asks, holdOf [p] asks = none := fun asks => by simp [holdOf, h]
  have hfault : faultOf [p] = none := by simp [faultOf, h]
  rw [finishBundle]
  simp only [hfetch, filterMap_find?_single hslot, hlegal, hhold, hfault, hfence]
  rfl

/-- A slot word that is legal, not predicated off and waits for nothing is planned as it is judged. -/
theorem planOf_out {k : Core} {w : SlotWord} {slot : Nat} {j : Judge} (hop : w.opcode.toNat ≠ 0)
    (hdef : slotDefined slot w.opcode.toNat = true) (hlegal : j.legal = true) (hguard : guarded k w = true) (hpend : k.pend = []) :
    (planOf k slot w j).slot = slot ∧ (planOf k slot w j).out = j.out := by
  have hnop : slotNop w = false := decide_eq_false fun h => hop (by rw [h]; rfl)
  have hreads : j.reads.any (pending? k) = false := by simp [pending?, hpend]
  simp [planOf, hnop, slotOp, hdef, hlegal, hguard, hreads]

/-- The only slot of a bundle is presented and the bundle issues. -/
theorem presentSlot_issues {s : State} {i : SlotCmd} {slot op : Nat} {mine : Nat → Nat → Bool} {judge : Core → SlotWord → Judge}
    {es : List Eff} (h : s.Presents i slot op) (hmine : mine slot op = true) (hop : op ≠ 0) (hdef : slotDefined slot op = true)
    (hguard : guarded (s.core i.core.val) i.word = true) (hlegal : (judge (s.core i.core.val) i.word).legal = true)
    (hout : (judge (s.core i.core.val) i.word).out = .ok es) :
    s.presentSlot i mine judge = (s.slotEffects i.core slot es).advance i.core.val (s.pcOf i.core.val) es := by
  obtain ⟨hissuing, hbundle, hfetch, hpend, hfence, hlast, rfl, rfl⟩ := h
  obtain ⟨hpslot, hpout⟩ := planOf_out (slot := i.slot.val) hop hdef hlegal hguard hpend
  have hsame : { s.core i.core.val with bundle := [] } = s.core i.core.val := by rw [← hbundle]
  simp only [presentSlot, hissuing, slotOp, hmine, hbundle, hlast, hsame, List.nil_append]
  rw [if_neg (by simp), if_pos trivial, finishBundle_single (fetchOf_setCore_self _ _ _ hfetch) (by rw [hpslot]; exact i.slot.isLt)
    (by rw [core_setCore, if_pos rfl, hfence]) (hpout.trans hout)]
  exact (issueBundle_single s i.core (hpout.trans hout)).trans (by rw [hpslot])

/-! ### The next bundle -/

/-- Without a branch or an open loop the next bundle follows. -/
theorem advance_straight {u : State} {c : Nat} {k : Core} {es : List Eff} (pc : Addr) (hcore : u.core c = k)
    (hloops : k.loops = []) (hes : ∀ t close, Eff.branch t close ∉ es) :
    u.advance c pc es = ((u.setCore c k).setFld (R.CORE_SEQ_STATUS c) F.CORE_SEQ_STATUS_loop_depth 0).setReg (R.CORE_SEQ_PC c)
      (BitVec.ofNat 64 (pc + 64).toNat) := by
  have hend : ({ k with loops := [] } : Core) = k := by rw [← hloops]
  unfold advance
  rw [List.findSome?_eq_none_iff.2 ?untaken]
  case untaken =>
    intro e he
    cases e with
    | branch t close => exact absurd he (hes t close)
    | _ => rfl
  simp only [hcore, hloops, loopEnd, hend, Option.getD_none, List.length_nil]

/-! ### What an issue writes -/

section Issue
variable {s u : State} {c : CoreId} {k : Core} {es : List Eff}

theorem reg_issueStart (s : State) {r : Nat} (h : r ∉ seqRegs c) : (s.issueStart c).reg r = s.reg r := by
  simp only [seqRegs, List.mem_cons, not_or] at h
  simp only [issueStart, reg_add64, reg_setFld, setCore_reg, if_neg h.1, if_neg h.2.2.1]

theorem issueStart_keeps (s : State) (c : CoreId) : Keeps 33 s (s.issueStart c) :=
  Keeps.step (add64_keeps ..) rfl (Keeps.step (setFld_keeps ..) rfl (Keeps.step (setFld_keeps ..) rfl
    (Keeps.step (setCore_keeps ..) rfl (Keeps.refl s))))

theorem core_issueStart (s : State) (c : CoreId) (e : Nat) : (s.issueStart c).core e = s.core e := by
  rw [issueStart, add64_core, setFld_core, setFld_core, core_setCore]
  split
  · rename_i h
    rw [h]
  · rfl

/-- The status register as the issue leaves it: only the bundle's loops are still to be shown. -/
theorem status_issueStart (s : State) (c : CoreId) :
    (s.issueStart c).fld (R.CORE_SEQ_STATUS c.val) F.CORE_SEQ_STATUS_state = 1 ∧
    (s.issueStart c).fld (R.CORE_SEQ_STATUS c.val) F.CORE_SEQ_STATUS_hold_cause = 0 ∧
    (s.issueStart c).fld (R.CORE_SEQ_STATUS c.val) F.CORE_SEQ_STATUS_last_status =
      s.fld (R.CORE_SEQ_STATUS c.val) F.CORE_SEQ_STATUS_last_status := by
  have hcount : ∀ f, (s.issueStart c).fld (R.CORE_SEQ_STATUS c.val) f =
      (((s.setCore c.val (s.core c.val)).setFld (R.CORE_SEQ_STATUS c.val) F.CORE_SEQ_STATUS_state 1).setFld
        (R.CORE_SEQ_STATUS c.val) F.CORE_SEQ_STATUS_hold_cause 0).fld (R.CORE_SEQ_STATUS c.val) f :=
    fld_congr (by rw [issueStart, reg_add64, if_neg (by simp)])
  rw [hcount, hcount, hcount]
  refine ⟨?_, ?_, ?_⟩
  · rw [fld_setFld_apart _ _ _ _ _ (by decide) (by decide), fld_setFld _ _ _ _ (by decide)]; rfl
  · rw [fld_setFld _ _ _ _ (by decide)]; rfl
  · rw [fld_setFld_apart _ _ _ _ _ (by decide) (by decide), fld_setFld_apart _ _ _ _ _ (by decide) (by decide)]
    rfl

theorem bundles_issueStart (s : State) (c : CoreId) :
    (s.issueStart c).reg (R.CORE_SEQ_BUNDLES c.val) = s.reg (R.CORE_SEQ_BUNDLES c.val) + 1 := by
  rw [issueStart, reg_add64, if_pos rfl, reg_setFld, if_neg (by simp), reg_setFld, if_neg (by simp), setCore_reg,
    BitVec.ofNat_add, BitVec.ofNat_toNat, BitVec.setWidth_eq]
  rfl

/-- A bundle without branches or open loops issues, where its effects leave the registers that an issue writes, and every
core but its own. -/
theorem issued_advance (hcore : u.core c.val = k) (hloops : k.loops = []) (hcores : ∀ e : Nat, e ≠ c.val → u.core e = s.core e)
    (hregs : ∀ r ∈ seqRegs c, u.reg r = (s.issueStart c).reg r) (hes : ∀ t close, Eff.branch t close ∉ es) (pc : Addr) :
    s.Issued (u.advance c.val pc es) c k (pc + 64) := by
  have hstatus := fld_congr (hregs (R.CORE_SEQ_STATUS c.val) (by simp [seqRegs]))
  have hbundles := hregs (R.CORE_SEQ_BUNDLES c.val) (by simp [seqRegs])
  obtain ⟨hstate, hcause, hlast⟩ := status_issueStart s c
  rw [advance_straight pc hcore hloops hes]
  have hpc : ∀ (u' : State) (v : Word), (u'.setReg (R.CORE_SEQ_PC c.val) v).fld (R.CORE_SEQ_STATUS c.val) =
      u'.fld (R.CORE_SEQ_STATUS c.val) := fun u' v => funext (fld_congr (by rw [reg_setReg, if_neg (by simp)]))
  refine ⟨?_, fun e he => ?_, ?_, ?_, ?_, ?_, ?_, ?_⟩
  · rw [setReg_core, setFld_core, core_setCore, if_pos rfl]
  · rw [setReg_core, setFld_core, core_setCore, if_neg he, hcores e he]
  · rw [reg_setReg, if_pos rfl]
  · rw [reg_setReg, if_neg (by simp), reg_setFld, if_neg (by simp), setCore_reg, hbundles, bundles_issueStart]
  · rw [hpc, fld_setFld_apart _ _ _ _ _ (by decide) (by decide)]
    exact (hstatus _).trans hstate
  · rw [hpc, fld_setFld_apart _ _ _ _ _ (by decide) (by decide)]
    exact (hstatus _).trans hcause
  · rw [hpc, fld_setFld _ _ _ _ (by decide), hloops]
    rfl
  · rw [hpc, fld_setFld_apart _ _ _ _ _ (by decide) (by decide)]
    exact (hstatus _).trans hlast

/-- The next bundle's address and the open loops' depth are all that advancing writes among the registers. -/
theorem reg_advance {r : Nat} (hcore : u.core c.val = k) (hloops : k.loops = []) (hes : ∀ t close, Eff.branch t close ∉ es)
    (pc : Addr) (hr : r ∉ seqRegs c) : (u.advance c.val pc es).reg r = u.reg r := by
  simp only [seqRegs, List.mem_cons, not_or] at hr
  rw [advance_straight pc hcore hloops hes, reg_setReg, if_neg hr.2.1, reg_setFld, if_neg hr.1, setCore_reg]

theorem sameRegs_advance {l : List Nat} (hregs : SameRegs l (s.issueStart c) u) (hcore : u.core c.val = k) (hloops : k.loops = [])
    (hes : ∀ t close, Eff.branch t close ∉ es) (pc : Addr) : SameRegs (l ++ seqRegs c) s (u.advance c.val pc es) := by
  intro r hr
  rw [List.mem_append, not_or] at hr
  rw [reg_advance hcore hloops hes pc hr.2, hregs r hr.1, reg_issueStart s hr.2]

end Issue

/-! ### The flags of a core (R66) -/

/-- The registers of a core's exception state. -/
abbrev fpRegs (c : CoreId) : List Nat := [R.CORE_FP_FLAGS c.val, R.CORE_SAT_COUNT c.val]

theorem sameRegs_fpEvent (s : State) (c : CoreId) (unit : Nat) (ev : FpEv) : SameRegs (fpRegs c) s (s.fpEvent c.val unit ev) := by
  intro r hr
  simp only [fpRegs, List.mem_cons, not_or] at hr
  have hflags : ∀ (u : State) f v, (u.setFld (R.CORE_FP_FLAGS c.val) f v).reg r = u.reg r := fun u f v => by
    rw [reg_setFld, if_neg hr.1]
  have hcount : ∀ (u : State) n, (u.addSat (R.CORE_SAT_COUNT c.val) n).reg r = u.reg r := fun u n => by
    rw [reg_addSat, if_neg hr.2.1]
  simp only [fpEvent, apply_ite (fun u : State => u.reg r), hflags, hcount, ite_self]

/-- The registers of an issue are apart from those of the exception state. -/
theorem not_mem_seqRegs_of_mem_fpRegs {c : CoreId} {r : Nat} (h : r ∈ fpRegs c) : r ∉ seqRegs c := by
  simp only [fpRegs, List.mem_cons, List.not_mem_nil, or_false] at h
  rcases h with rfl | rfl
  · simp [seqRegs]
  · simp [seqRegs]

/-- A result that is not finite raises the core's flag. -/
theorem nonfinite_any_fpEvent (s : State) (c unit : Nat) {ev : FpEv} (h : ev.nonfinite = true) :
    (s.fpEvent c unit ev).fld (R.CORE_FP_FLAGS c) F.CORE_FP_FLAGS_nonfinite_any = 1 := by
  have hkeep : ∀ (u : State) (f : Fld) v, f.lo + f.len ≤ 64 → f.lo + f.len ≤ 1 ∨ 2 ≤ f.lo →
      (u.setFld (R.CORE_FP_FLAGS c) f v).fld (R.CORE_FP_FLAGS c) F.CORE_FP_FLAGS_nonfinite_any =
        u.fld (R.CORE_FP_FLAGS c) F.CORE_FP_FLAGS_nonfinite_any :=
    fun u f v => fld_setFld_apart u _ f F.CORE_FP_FLAGS_nonfinite_any v
  have hstep := fun (u : State) v => hkeep u F.CORE_FP_FLAGS_nonfinite_step v (by decide) (by decide)
  have hint := fun (u : State) v => hkeep u F.CORE_FP_FLAGS_int_sat v (by decide) (by decide)
  have hfp := fun (u : State) v => hkeep u F.CORE_FP_FLAGS_fp_sat v (by decide) (by decide)
  have hcount : ∀ (u : State) n, (u.addSat (R.CORE_SAT_COUNT c) n).fld (R.CORE_FP_FLAGS c) F.CORE_FP_FLAGS_nonfinite_any =
      u.fld (R.CORE_FP_FLAGS c) F.CORE_FP_FLAGS_nonfinite_any :=
    fun u n => fld_congr (by rw [reg_addSat, if_neg (by simp)]) _
  have hany : ∀ u : State, (u.setFld (R.CORE_FP_FLAGS c) F.CORE_FP_FLAGS_nonfinite_any 1).fld (R.CORE_FP_FLAGS c)
      F.CORE_FP_FLAGS_nonfinite_any = 1 := fun u => fld_setFld u _ _ _ (by decide)
  simp only [fpEvent, h, if_true, apply_ite (fun u : State => u.fld (R.CORE_FP_FLAGS c) F.CORE_FP_FLAGS_nonfinite_any), hstep,
    hint, hfp, hcount, hany, ite_self]

/-! ### A vector register and the flags -/

/-- What a slot does that writes vector register `d` of core `c` with the result of a unit. -/
def VectorWritten (s t : State) (c : CoreId) (d : Nat) (v : BitVec 8192) (bad : Bool) : Prop :=
  s.Issued t c ((s.core c.val).setV d v) (s.pcOf c.val + 64) ∧ SameRegs (fpRegs c ++ seqRegs c) s t ∧ SameBytes s t ∧
  (bad = true → t.fld (R.CORE_FP_FLAGS c.val) F.CORE_FP_FLAGS_nonfinite_any = 1)

/-- A core without pending writes supersedes none. -/
theorem supersede_of_pend_nil {k : Core} (h : k.pend = []) (r : RegRef) : supersede k r = k := by
  rw [supersede, h, List.map_nil, ← h]

/-- The effects of a slot that writes a vector register and reports to the flags. -/
theorem vectorWritten_advance {s : State} {c : CoreId} (hpend : (s.core c.val).pend = []) (hloops : (s.core c.val).loops = [])
    (slot d : Nat) (v : BitVec 8192) (unit : Nat) (ev : FpEv) :
    s.VectorWritten ((s.slotEffects c slot [.wV d v, .fp unit ev]).advance c.val (s.pcOf c.val) [.wV d v, .fp unit ev]) c d v
      ev.nonfinite := by
  generalize hu : s.slotEffects c slot [.wV d v, .fp unit ev] = u
  have hset : u = ((s.issueStart c).setCore c.val ((s.core c.val).setV d v)).fpEvent c.val unit ev := by
    rw [← hu, ← supersede_of_pend_nil hpend (.v d), ← core_issueStart s c c.val]
    rfl
  have hkeeps : Keeps 1 ((s.issueStart c).setCore c.val ((s.core c.val).setV d v)) u := hset ▸ fpEvent_keeps ..
  have hregs : SameRegs (fpRegs c) (s.issueStart c) u := fun r hr => by
    rw [hset, sameRegs_fpEvent _ _ _ _ _ hr, setCore_reg]
  have hcores : ∀ e, u.core e = if e = c.val then (s.core c.val).setV d v else s.core e := fun e => by
    rw [core, hkeeps.cores rfl, ← core, core_setCore, core_issueStart]
  have hcore := (hcores c.val).trans (if_pos rfl)
  have hbranch : ∀ t close, Eff.branch t close ∉ [.wV d v, .fp unit ev] := by simp
  have hall : Keeps 33 s (u.advance c.val (s.pcOf c.val) [.wV d v, .fp unit ev]) :=
    Keeps.step (advance_keeps ..) rfl (Keeps.step hkeeps rfl (Keeps.step (setCore_keeps ..) rfl (issueStart_keeps s c)))
  refine ⟨issued_advance hcore hloops ?_ ?_ hbranch _, sameRegs_advance hregs hcore hloops hbranch _,
    sameBytes_of_keeps hall rfl rfl rfl, fun hbad => ?_⟩
  · exact fun e he => (hcores e).trans (if_neg he)
  · exact fun r hr => hregs r fun hfp => not_mem_seqRegs_of_mem_fpRegs hfp hr
  · rw [fld_congr (reg_advance hcore hloops hbranch _ (not_mem_seqRegs_of_mem_fpRegs (by simp))), hset]
    exact nonfinite_any_fpEvent _ _ _ hbad

/-- A slot whose judgement is to write a vector register and report to the flags. -/
theorem presentSlot_vectorWritten {s : State} {i : SlotCmd} {slot op : Nat} {mine : Nat → Nat → Bool}
    {judge : Core → SlotWord → Judge} {d : Nat} {v : BitVec 8192} {unit : Nat} {ev : FpEv} (h : s.Presents i slot op)
    (hloops : (s.core i.core.val).loops = []) (hguard : guarded (s.core i.core.val) i.word = true)
    (hmine : mine slot op = true) (hop : op ≠ 0) (hdef : slotDefined slot op = true)
    (hlegal : (judge (s.core i.core.val) i.word).legal = true)
    (hout : (judge (s.core i.core.val) i.word).out = .ok [.wV d v, .fp unit ev]) :
    s.VectorWritten (s.presentSlot i mine judge) i.core d v ev.nonfinite := by
  have ⟨_, _, _, hpend, _⟩ := h
  rw [presentSlot_issues h hmine hop hdef hguard hlegal hout]
  exact vectorWritten_advance hpend hloops slot d v unit ev

end State

/-! ### The judgements of the vector and special-function slots -/

/-- A named lane operation is judged to write what the lanes compute (R47, R51, R52). -/
theorem vectorJudge_named {op : VecOp} (hcmp : op ≠ .compare) (hother : op ≠ .other) (fmt : LaneFmt) (k : Core) (w : SlotWord) :
    let r := vectorOp op fmt (k.vreg w.x.val) (k.vreg w.y.val) (k.vreg w.d.val)
    (vectorJudge op fmt k w).legal = fieldsOk w fV fV fV false (some 0) ∧
    (vectorJudge op fmt k w).out = .ok [.wV w.d.val r.1, .fp 1 { nonfinite := r.2 }] := by
  cases op with
  | compare => exact absurd rfl hcmp
  | other => exact absurd rfl hother
  | _ => exact ⟨rfl, rfl⟩

/-- What the unnamed operations are judged to write is open (log entry 24). -/
theorem vectorJudge_unnamed {op : VecOp} (h : op = .compare ∨ op = .other) (fmt : LaneFmt) (k : Core) (w : SlotWord) :
    let r := Config.vectorOther (slotOp w) fmt (k.vreg w.x.val) (k.vreg w.y.val) (k.vreg w.d.val) w.imm
    (vectorJudge op fmt k w).legal = fieldsOk w fV fV fV false none ∧
    (vectorJudge op fmt k w).out = .ok [.wV w.d.val r.1, .fp 1 { nonfinite := r.2 }] := by
  rcases h with rfl | rfl
  · exact ⟨rfl, rfl⟩
  · exact ⟨rfl, rfl⟩

/-- A conversion between two formats under an admitted conversion byte (R53, R54). -/
theorem vcvtJudge_admitted {rnd : Cvt → Fmt → Nat → Nat} {k : Core} {w : SlotWord} {src dst : Fmt} {cv : Cvt}
    (hsrc : Fmt.ofCode (bitsOf w.imm.toNat 8 4) = some src) (hdst : Fmt.ofCode (bitsOf w.imm.toNat 12 4) = some dst)
    (hcv : Cvt.check (w.imm.toNat % 256) dst = some cv) :
    let r := vectorCvt src dst cv (rnd cv dst) (k.vreg w.x.val) (k.vreg w.d.val)
    (vcvtJudge rnd k w).legal = fieldsOk w fV fV .unused false (some 0xFFFF) ∧
    (vcvtJudge rnd k w).out = .ok [.wV w.d.val r.1, .fp 1 r.2] := by
  simp only [vcvtJudge, hsrc, hdst, hcv, and_self]

/-- A special function of a code that the tables name, over two of its formats (R183 to R186). -/
theorem sfnJudge_named {legacy : Nat → Bool} {k : Core} {w : SlotWord} {f : SfnFunc}
    (hf : SfnFunc.ofCode (bitsOf w.imm.toNat 0 8) = some f) (hsrc : bitsOf w.imm.toNat 8 4 < 3)
    (hdst : bitsOf w.imm.toNat 12 4 < 3) (hmode : bitsOf w.imm.toNat 17 2 ≠ 3)
    (hfields : fieldsOk w fV fV (if f.binary then fV else .unused) false (some (2 ^ 19 - 1)) = true)
    (hhalf : bitsOf w.imm.toNat 16 1 = 1 → (sfuFmt (bitsOf w.imm.toNat 8 4)).bits ≠ (sfuFmt (bitsOf w.imm.toNat 12 4)).bits) :
    let r := sfnVector (legacy (bitsOf w.imm.toNat 17 2)) f (sfuFmt (bitsOf w.imm.toNat 8 4)) (sfuFmt (bitsOf w.imm.toNat 12 4))
      (bitsOf w.imm.toNat 16 1) (k.vreg w.x.val) (k.vreg w.y.val) (k.vreg w.d.val)
    (sfnJudge legacy k w).legal = true ∧ (sfnJudge legacy k w).out = .ok [.wV w.d.val r.1, .fp 2 r.2] := by
  simp only [sfnJudge, hf, hfields, hsrc, hdst, and_true]
  simpa [hmode, Decidable.imp_iff_not_or] using hhalf

/-! ### The vector and special-function slots -/

/-- The random value of an element: none where the conversion does not round stochastically (R60, R61). -/
def vcvtRandom (s : State) (c : Nat) (cv : Cvt) (dst : Fmt) (j : Nat) : Nat :=
  if cv.sr then randomOf (s.reg (R.CORE_RNG_SEED c)).toNat (s.reg (R.CORE_RNG_STEP c)).toNat cv.stream (dst.bits / 8)
    (Config.freeValue s.free % 2 ^ 48 + j * (dst.bits / 8)) else 0

section Slots
open State

variable {s : State} {i : SlotCmd} (hloops : (s.core i.core.val).loops = [])
  (hguard : guarded (s.core i.core.val) i.word = true)

include hloops hguard

/-- VECTOR_ARITHMETIC writes what its judgement says. -/
theorem vectorArithmetic_writes {op : VecOp} {fmt : LaneFmt} {o : Nat} {v : BitVec 8192} {ev : FpEv} (h : s.Presents i 3 o)
    (hlo : 1 ≤ o) (hhi : o ≤ 0x4F) (hcvt : o ≠ 0x40) (hlegal : (vectorJudge op fmt (s.core i.core.val) i.word).legal = true)
    (hout : (vectorJudge op fmt (s.core i.core.val) i.word).out = .ok [.wV i.word.d.val v, .fp 1 ev]) :
    Answers (exec (.vectorArithmetic op fmt i) s) (fun t => s.VectorWritten t i.core i.word.d.val v ev.nonfinite) :=
  ⟨_, rfl, presentSlot_vectorWritten h hloops hguard (by simp [hlo, hhi, hcvt]) (by omega) (by simp [slotDefined, hlo, hhi])
    hlegal hout⟩

/-- VCVT writes the conversion of the source register (R53 to R61). -/
theorem vcvt_writes {src dst : Fmt} {cv : Cvt} (h : s.Presents i 3 0x40)
    (hfields : fieldsOk i.word fV fV .unused false (some 0xFFFF) = true)
    (hsrc : Fmt.ofCode (bitsOf i.word.imm.toNat 8 4) = some src) (hdst : Fmt.ofCode (bitsOf i.word.imm.toNat 12 4) = some dst)
    (hcv : Cvt.check (i.word.imm.toNat % 256) dst = some cv) :
    let k := s.core i.core.val
    let r := vectorCvt src dst cv (vcvtRandom s i.core.val cv dst) (k.vreg i.word.x.val) (k.vreg i.word.d.val)
    Answers (exec (.vcvt i) s) (fun t => s.VectorWritten t i.core i.word.d.val r.1 r.2.nonfinite) := by
  obtain ⟨hlegal, hout⟩ := vcvtJudge_admitted (rnd := vcvtRandom s i.core.val) (k := s.core i.core.val) hsrc hdst hcv
  have hwritten := presentSlot_vectorWritten (s := s.fresh.2) (mine := opIs 3 0x40) (judge := vcvtJudge (vcvtRandom s i.core.val))
    h hloops hguard rfl (by decide) rfl (hlegal.trans hfields) hout
  exact ⟨_, rfl, hwritten⟩

/-- SFN writes what its judgement says. -/
theorem sfn_writes (h : s.Presents i 5 1)
    (hlegal : (sfnJudge (s.legacyOf i.core.val) (s.core i.core.val) i.word).legal = true) {v : BitVec 8192} {ev : FpEv}
    (hout : (sfnJudge (s.legacyOf i.core.val) (s.core i.core.val) i.word).out = .ok [.wV i.word.d.val v, .fp 2 ev]) :
    Answers (exec (.sfn i) s) (fun t => s.VectorWritten t i.core i.word.d.val v ev.nonfinite) :=
  ⟨_, rfl, presentSlot_vectorWritten h hloops hguard rfl (by decide) rfl hlegal hout⟩

end Slots
end Sys2Proof.Machine

namespace Sys2Proof
open Machine

/-- Settles O41: a legal word's bundle issues, and its effects are the vector register's and the flags'. -/
theorem vectorSlots : Obligations.VectorSlots := by
  unfold Obligations.VectorSlots
  intro s i c k w d m flags Writes hloops hguard
  refine ⟨fun op fmt o h hlo hhi hcvt => ⟨fun hcmp hother hfields => ?_, fun hop hfields => ?_⟩,
    fun src dst cv h hfields hsrc hdst hcv => ⟨fun hsr => ?_, fun hsr => ?_⟩,
    fun f h hf hsrc hdst hmode hfields hhalf => ?_⟩
  · obtain ⟨hlegal, hout⟩ := vectorJudge_named hcmp hother fmt k w
    exact vectorArithmetic_writes hloops hguard h hlo hhi hcvt (hlegal.trans hfields) hout
  · obtain ⟨hlegal, hout⟩ := vectorJudge_unnamed hop fmt k w
    exact ⟨_, _, vectorArithmetic_writes hloops hguard h hlo hhi hcvt (hlegal.trans hfields) hout⟩
  · have hzero : vcvtRandom s c.val cv dst = fun _ => 0 := funext fun j => by simp [vcvtRandom, hsr]
    exact hzero ▸ vcvt_writes hloops hguard h hfields hsrc hdst hcv
  · exact ⟨_, vcvt_writes hloops hguard h hfields hsrc hdst hcv⟩
  · obtain ⟨hlegal, hout⟩ := sfnJudge_named (legacy := s.legacyOf c.val) (k := k) hf hsrc hdst hmode hfields hhalf
    exact sfn_writes hloops hguard h hlegal hout

end Sys2Proof
end

section
/-! Bobbin counters and buffer pools (R170, R171, R418, R419): what a fetch-and-add, a wait, a take, a return and a grant
leave in the registers, the queues and the core. -/
namespace Sys2Proof.Machine
namespace State

/-! ### The scheduler's tables and the registers -/

@[simp] theorem setSch_sch (s : State) (x : SchedState) : (s.setSch x).sch = x := rfl
@[simp] theorem setSch_core (s : State) (x : SchedState) (c : Nat) : (s.setSch x).core c = s.core c := rfl
@[simp] theorem fld_setSch (s : State) (x : SchedState) (r : Nat) (f : Fld) : (s.setSch x).fld r f = s.fld r f := rfl

theorem fld_lt (s : State) (r : Nat) (f : Fld) : s.fld r f < 2 ^ f.len := Nat.mod_lt _ (Nat.two_pow_pos _)

/-- An event counter stops at its last value, so its register holds every count. -/
theorem toNat_reg_inc (s : State) (off : Nat) : ((s.inc off).reg off).toNat = min 0xFFFFFFFF ((s.reg off).toNat + 1) := by
  rw [reg_inc, if_pos rfl, BitVec.toNat_ofNat]
  exact Nat.mod_eq_of_lt (by omega)

/-! ### Bobbin counters (R170, R171) -/

/-- The counter after a fetch-and-add (R170). -/
def bobSum (old limit : Nat) (add : Int) : Int :=
  if 0 ≤ add then (if limit ≤ old then (old : Int) else min (old + add) limit) else max (old + add) 0

theorem bobSum_nonneg (old limit : Nat) (add : Int) : 0 ≤ bobSum old limit add := by
  unfold bobSum
  split
  · split <;> omega
  · omega

theorem bobSum_lt {old limit b : Nat} (hold : old < b) (hlimit : limit < b) (add : Int) : bobSum old limit add < b := by
  unfold bobSum
  split
  · split <;> omega
  · omega

/-- The late draws after a fetch-and-add (R170). -/
def lateDrawsAfter (s : State) (n : Nat) (a : W32) : Nat :=
  if s.bobLimit n ≤ s.bobVal n ∧ 0 ≤ a.toInt then min 0xFFFF (s.fld (R.SCH_BOB_STATUS n) F.SCH_BOB_STATUS_late_draws + 1)
  else s.fld (R.SCH_BOB_STATUS n) F.SCH_BOB_STATUS_late_draws

/-- The state in which a fetch-and-add has counted its late draw. -/
def lateCounted (s : State) (n : Nat) (a : W32) : State :=
  if s.bobLimit n ≤ s.bobVal n ∧ 0 ≤ a.toInt then
    s.setFld (R.SCH_BOB_STATUS n) F.SCH_BOB_STATUS_late_draws
      (min 0xFFFF (s.fld (R.SCH_BOB_STATUS n) F.SCH_BOB_STATUS_late_draws + 1))
  else s

section FetchAndAdd
variable {s : State} {n : Nat} {a : W32} {who : Option Nat}

theorem lateCounted_sch : (s.lateCounted n a).sch = s.sch := by
  unfold lateCounted
  split <;> rfl

theorem lateCounted_core (c : Nat) : (s.lateCounted n a).core c = s.core c := by
  unfold lateCounted
  split <;> rfl

theorem lateDraws_lateCounted : (s.lateCounted n a).fld (R.SCH_BOB_STATUS n) F.SCH_BOB_STATUS_late_draws = s.lateDrawsAfter n a := by
  unfold lateCounted lateDrawsAfter
  split
  · rw [fld_setFld _ _ _ _ (by decide)]
    exact Nat.mod_eq_of_lt (show _ < 2 ^ 16 by omega)
  · rfl

/-- The steps of a fetch-and-add: the late draw, the new value, the status, the last adder, the waits. -/
theorem snd_bobAdd : (s.bobAdd n a who).2 =
    ((((s.lateCounted n a).setFld (R.SCH_BOB_VALUE n) F.SCH_BOB_VALUE_value
      (bobSum (s.bobVal n) (s.bobLimit n) a.toInt).toNat).showBob n).setSch
        { (s.lateCounted n a).sch with bobAdder := (s.lateCounted n a).sch.bobAdder.set none n who }).bobServe n := rfl

theorem fld_bobServe (r : Nat) (f : Fld) : (s.bobServe n).fld r f = s.fld r f :=
  fld_congr (congrArg (Tbl.get · (regReset r) r) ((bobServe_keeps s n).regs rfl)) f

theorem core_bobServe_of_no_waits (h : s.sch.bobWait.get [] n = []) (c : Nat) : (s.bobServe n).core c = s.core c := by
  simp [bobServe, h]

theorem bobVal_bobAdd : ((s.bobAdd n a who).2.bobVal n : Int) = bobSum (s.bobVal n) (s.bobLimit n) a.toInt := by
  have hlo := bobSum_nonneg (s.bobVal n) (s.bobLimit n) a.toInt
  have hhi : bobSum (s.bobVal n) (s.bobLimit n) a.toInt < (2 ^ 32 : Nat) := bobSum_lt (fld_lt ..) (fld_lt ..) _
  have hread : (s.bobAdd n a who).2.bobVal n = (bobSum (s.bobVal n) (s.bobLimit n) a.toInt).toNat % 2 ^ 32 := by
    rw [snd_bobAdd, bobVal, fld_bobServe, fld_setSch, showBob, fld_set, if_neg (by simp), fld_setFld _ _ _ _ (by decide)]
  omega

theorem lateDraws_bobAdd :
    (s.bobAdd n a who).2.fld (R.SCH_BOB_STATUS n) F.SCH_BOB_STATUS_late_draws = s.lateDrawsAfter n a := by
  rw [snd_bobAdd, fld_bobServe, fld_setSch, showBob, fld_setFld_apart _ _ _ _ _ (by decide) (by decide), fld_set,
    if_neg (by simp), lateDraws_lateCounted]

theorem core_bobAdd_of_no_waits (h : s.sch.bobWait.get [] n = []) (c : Nat) : (s.bobAdd n a who).2.core c = s.core c := by
  rw [snd_bobAdd, core_bobServe_of_no_waits (by rwa [setSch_sch, lateCounted_sch])]
  exact lateCounted_core c

theorem setS_pend (k : Core) (d : Nat) (v : BitVec 64) : (k.setS d v).pend = k.pend := by
  unfold Core.setS
  split <;> rfl

theorem sreg_setS_of_ne {d : Nat} (hd : d ≠ 0) (k : Core) (v : BitVec 64) : (k.setS d v).sreg d = v := by
  rw [Core.setS, if_neg hd, Core.sreg, if_neg hd, Tbl.get_set_same]

/-- The answer to a core's one outstanding fetch-and-add leaves nothing outstanding and lands in its register (R131). -/
theorem bobReturn_of_single {k : Core} {p : Pend} {id : Nat} (hpend : k.pend = [p]) (hkind : p.kind = .bob id)
    (hlive : p.live = true) (d old : Nat) : bobReturn k id d old = { k with pend := [] }.setS d (BitVec.ofNat 64 old) := by
  simp [bobReturn, hpend, hkind, hlive]

end FetchAndAdd

/-- The state in which the only operation on its way to a counter has arrived. -/
def bobArrived (s : State) (n : Nat) : State := s.setSch { s.sch with bobIn := s.sch.bobIn.set [] n [] }

/-! ### Buffer pools (R418, R419) -/

section Pools
variable {s : State} {p : Nat}

/-- The free list of a pool after a take or a return, its counts shown. -/
def withFree (s : State) (p : Nat) (l : List Nat) : State :=
  (s.setSch { s.sch with poolFree := s.sch.poolFree.set [] p l }).showPool p

theorem poolFree_withFree (l : List Nat) : (s.withFree p l).sch.poolFree.get [] p = l := Tbl.get_set_same ..

/-- R419: where no take waits, a take of an enabled pool has the oldest free slot. -/
theorem takeSlot_of_free {slot : Nat} {l : List Nat} (hon : s.poolOn p = true) (hwait : s.sch.poolWait.get [] p = [])
    (hfree : s.sch.poolFree.get [] p = slot :: l) : s.takeSlot p = (some slot, s.withFree p l) := by
  simp [takeSlot, withFree, hon, hwait, hfree]

/-- R419: a take of a pool without a free slot counts. -/
theorem takeSlot_of_empty (hwait : s.sch.poolWait.get [] p = []) (hfree : s.sch.poolFree.get [] p = []) :
    s.takeSlot p = (none, s.inc (R.SCH_POOL_EMPTY_COUNT p)) := by
  simp [takeSlot, hwait, hfree]

/-- R418: a slot of the pool that is not free goes to the end of the free list. -/
theorem returnSlot_of_taken {slot : Nat} (hon : s.poolOn p = true) (hslot : slot ∈ s.poolSlots p)
    (htaken : slot ∉ s.sch.poolFree.get [] p) (who : Agent) (inst : Option Nat) :
    s.returnSlot p slot who inst = s.withFree p (s.sch.poolFree.get [] p ++ [slot]) := by
  simp [returnSlot, withFree, hon, hslot, htaken]

/-- R418: a return of anything but a slot of the pool is a bad return. -/
theorem returnSlot_of_foreign {slot : Nat} (hslot : slot ∉ s.poolSlots p) (who : Agent) (inst : Option Nat) :
    s.returnSlot p slot who inst =
      (s.inc (R.SCH_POOL_BAD_RETURNS p)).log 2 0x67 (agentUnit who) inst (addr := slot) (value := p) := by
  simp [returnSlot, hslot]

/-- R419: a grant takes the head waiter and the oldest free slot from their queues, whoever waits. -/
theorem queues_poolGrant {w : PoolWaiter} {ws : List PoolWaiter} {slot : Nat} {l : List Nat}
    (hwait : s.sch.poolWait.get [] p = w :: ws) (hfree : s.sch.poolFree.get [] p = slot :: l) :
    (s.poolGrant p).sch.poolWait.get [] p = ws ∧ (s.poolGrant p).sch.poolFree.get [] p = l := by
  have hsch : (s.poolGrant p).sch =
      { s.sch with poolWait := s.sch.poolWait.set [] p ws, poolFree := s.sch.poolFree.set [] p l } := by
    simp only [poolGrant, hwait, hfree]
    cases w.who <;> rfl
  rw [hsch]
  exact ⟨Tbl.get_set_same .., Tbl.get_set_same ..⟩

end Pools
end State

/-! ### The statement, clause by clause -/

section Clauses
open State

/-- BOBBIN_COUNTER_OP of the only operation on its way, a fetch-and-add, where nothing waits (R170). -/
theorem bobbinCounterOp_adds {s : State} {n : BobId} {c : CoreId} {id d : Nat} {a : W32}
    (hin : s.sch.bobIn.get [] n.val = [.add c id d a]) (hwait : s.sch.bobWait.get [] n.val = []) :
    Answers (exec (.bobbinCounterOp n 0) s) (fun t =>
      (t.bobVal n.val : Int) = bobSum (s.bobVal n.val) (s.bobLimit n.val) a.toInt ∧
      t.fld (R.SCH_BOB_STATUS n.val) F.SCH_BOB_STATUS_late_draws = s.lateDrawsAfter n.val a ∧
      t.core c.val = bobReturn (s.core c.val) id d (s.bobVal n.val)) := by
  have hexec : execBobbinCounterOp n 0 s = .next (((s.bobArrived n.val).bobAdd n.val a (some c.val)).2.setCore c.val
      (bobReturn (((s.bobArrived n.val).bobAdd n.val a (some c.val)).2.core c.val) id d (s.bobVal n.val))) := by
    simp only [execBobbinCounterOp, hin]
    rfl
  refine ⟨_, hexec, bobVal_bobAdd (s := s.bobArrived n.val), lateDraws_bobAdd (s := s.bobArrived n.val), ?_⟩
  rw [core_setCore, if_pos rfl, core_bobAdd_of_no_waits (s := s.bobArrived n.val) hwait]
  rfl

/-- BOBBIN_COUNTER_OP of the only operation on its way, a wait (R170). -/
theorem bobbinCounterOp_waits {s : State} {n : BobId} {c : CoreId} {v : Nat} {pc : Addr}
    (hin : s.sch.bobIn.get [] n.val = [.wait c v pc]) : Answers (exec (.bobbinCounterOp n 0) s) (fun t =>
      (if v ≤ s.bobVal n.val then (t.core c.val).bobGrant = some 0
        else t.sch.bobWait.get [] n.val = s.sch.bobWait.get [] n.val ++ [.wait c v pc] ∧ t.cores = s.cores) ∧ t.regs = s.regs) := by
  have hexec : execBobbinCounterOp n 0 s = if v ≤ s.bobVal n.val
      then .next ((s.bobArrived n.val).setCore c.val { s.core c.val with bobGrant := some 0 })
      else .next ((s.bobArrived n.val).setSch { (s.bobArrived n.val).sch with
        bobWait := s.sch.bobWait.set [] n.val (s.sch.bobWait.get [] n.val ++ [.wait c v pc]) }) := by
    simp only [execBobbinCounterOp, hin]
    rfl
  by_cases hv : v ≤ s.bobVal n.val
  · exact ⟨_, hexec.trans (if_pos hv), by rw [if_pos hv, core_setCore, if_pos rfl], rfl⟩
  · exact ⟨_, hexec.trans (if_neg hv), by rw [if_neg hv]; exact ⟨Tbl.get_set_same .., rfl⟩, rfl⟩

/-- POOL_TAKE of a requester that reaches the register answers what the take has (R419). -/
theorem poolTake_replies {s u : State} {req : Requester} {p : PoolId} {o : Option Nat}
    (hreach : s.reach req (R.SCH_POOL_TAKE p.val) = true) (htake : s.takeSlot p.val = (o, u)) :
    Answers (exec (.poolTake req p) s) (fun t =>
      t.host.reply = some ⟨req, bytesOf (takeWord o) 8, false⟩ ∧ t.sch = u.sch ∧ ∀ r, t.reg r = u.reg r) := by
  change Answers (execPoolTake req p s) _
  simp only [execPoolTake, hreach, htake]
  exact ⟨_, rfl, rfl, rfl, fun _ => rfl⟩

theorem poolReturn_eq {s : State} {req : Requester} {p : PoolId} (hreach : s.reach req (R.SCH_POOL_RETURN p.val) = true) (a : Addr) :
    exec (.poolReturn req p a) s = .next (s.returnSlot p.val a.toNat (reqAgent req) (s.reqInstOf req)) := by
  change execPoolReturn req p a s = _
  rw [execPoolReturn, if_pos hreach]

end Clauses
end Sys2Proof.Machine

namespace Sys2Proof
open Machine State

/-- Settles O23: the new value of a counter fits its register, an operation at a pool rewrites the pool's lists, and a
counter of events stops at its last value. -/
theorem countersAndPools : Obligations.CountersAndPools := by
  unfold Obligations.CountersAndPools
  refine ⟨fun s n c id d v a pc => ⟨fun hin hwait => ?_, bobbinCounterOp_waits⟩,
    fun s req p slot a l w ws => ⟨fun hreach hon hwait hfree => ?_, fun hreach hwait hfree => ?_,
      fun hreach hon hslot htaken => ?_, fun hreach hslot => ?_, fun hwait hfree => ?_⟩⟩
  · obtain ⟨t, ht, hval, hlate, hcore⟩ := bobbinCounterOp_adds hin hwait
    refine ⟨t, ht, hval, hlate, fun p hpend hkind hlive => ?_⟩
    rw [hcore, bobReturn_of_single hpend hkind hlive]
    exact ⟨setS_pend .., fun hd => sreg_setS_of_ne hd ..⟩
  · obtain ⟨t, ht, hreply, hsch, -⟩ := poolTake_replies hreach (takeSlot_of_free hon hwait hfree)
    exact ⟨t, ht, hreply, hsch ▸ poolFree_withFree l⟩
  · obtain ⟨t, ht, hreply, hsch, hreg⟩ := poolTake_replies hreach (takeSlot_of_empty hwait hfree)
    refine ⟨t, ht, hreply, hsch.trans (inc_sch ..), ?_⟩
    rw [hreg, toNat_reg_inc]
  · exact ⟨_, poolReturn_eq hreach a, returnSlot_of_taken hon hslot htaken .. ▸ poolFree_withFree _⟩
  · refine ⟨_, poolReturn_eq hreach a, ?_⟩
    rw [returnSlot_of_foreign hslot]
    refine ⟨log_sch .., ?_⟩
    rw [reg_log, toNat_reg_inc]
    · exact Nat.ne_of_lt (show 0x7C0030 + p.val * 0x40 < 0x1400000 by omega)
    · exact Nat.ne_of_lt (show 0x7C0030 + p.val * 0x40 < 0x1400028 + 0 * 4 by omega)
  · exact ⟨_, rfl, queues_poolGrant hwait hfree⟩

end Sys2Proof
end

section
/-! The row operations of the special-function unit (R189 to R192): how a row descriptor of one row runs, and what it leaves
in memory, in the registers and in the core that issued it. -/
namespace Sys2Proof.Machine
namespace State

/-! ### Numbers in memory -/

/-- A number reads the same where each of its bytes does. -/
theorem natAt_congr {s t : State} {a n : Nat} (h : ∀ x, a ≤ x → x < a + n → t.byteAt x = s.byteAt x) :
    t.natAt a n = s.natAt a n :=
  congrArg natOfBytes (List.map_congr_left fun j hj =>
    h (a + j) (Nat.le_add_right ..) (Nat.add_lt_add_left (List.mem_range.1 hj) a))

theorem length_bytesAt (s : State) (a n : Nat) : (s.bytesAt a n).length = n := by
  rw [State.bytesAt, List.length_map, List.length_range]

/-- The part of a string that was written behind the bytes `bs` of it. -/
theorem bytesAt_putBytes_middle (s : State) (a : Nat) (bs cs ds : List Byte)
    (h : ∀ j, j < (bs ++ (cs ++ ds)).length → inRegs (a + j) = false) :
    (s.putBytes a (bs ++ (cs ++ ds))).bytesAt (a + bs.length) cs.length = cs := by
  have hall := bytesAt_putBytes s a (bs ++ (cs ++ ds)) h
  rw [List.length_append, bytesAt_append, List.length_append, bytesAt_append] at hall
  have hrest := (List.append_inj hall (length_bytesAt ..)).2
  exact (List.append_inj hrest (length_bytesAt ..)).1

theorem length_flatMap_bytesOf {α : Type} (f : α → Nat) (m : Nat) (l : List α) :
    (l.flatMap (fun x => bytesOf (f x) m)).length = l.length * m := by
  induction l with
  | nil => rw [List.flatMap_nil, List.length_nil, List.length_nil, Nat.zero_mul]
  | cons x l ih => rw [List.flatMap_cons, List.length_append, length_bytesOf, ih, List.length_cons, Nat.succ_mul, Nat.add_comm]

/-- Where numbers of `m` bytes are written one behind the other, each reads back, cut to its width. -/
theorem natAt_putBytes_flatMap {α : Type} (s : State) (a m : Nat) (f : α → Nat) {l : List α} {k : Nat} (hk : k < l.length)
    (h : ∀ j, j < l.length * m → inRegs (a + j) = false) :
    (s.putBytes a (l.flatMap (fun x => bytesOf (f x) m))).natAt (a + k * m) m = f l[k] % 256 ^ m := by
  have hlist : l = l.take k ++ l[k] :: l.drop (k + 1) := by
    rw [← List.drop_eq_getElem_cons hk, List.take_append_drop]
  have hsplit : l.flatMap (fun x => bytesOf (f x) m) = (l.take k).flatMap (fun x => bytesOf (f x) m) ++
      (bytesOf (f l[k]) m ++ (l.drop (k + 1)).flatMap (fun x => bytesOf (f x) m)) := by
    rw [← List.flatMap_cons (f := fun x => bytesOf (f x) m), ← List.flatMap_append, ← hlist]
  have hmid := bytesAt_putBytes_middle s a _ _ _ (hsplit ▸ (length_flatMap_bytesOf f m l).symm ▸ h)
  rw [← hsplit, length_flatMap_bytesOf, List.length_take_of_le (Nat.le_of_lt hk), length_bytesOf] at hmid
  rw [State.natAt, hmid, natOfBytes_bytesOf]

theorem natAt_putNat (s : State) (a n v : Nat) (h : ∀ j, j < n → inRegs (a + j) = false) :
    (s.putNat a n v).natAt a n = v % 256 ^ n := by
  have hall := bytesAt_putBytes s a (bytesOf v n) (by rwa [length_bytesOf])
  rw [length_bytesOf] at hall
  rw [State.natAt, State.putNat, hall, natOfBytes_bytesOf]

theorem byteAt_putNat_apart (s : State) {a n v x : Nat} (h : ∀ j, j < n → inRegs (a + j) = false)
    (hx : x < a ∨ a + n ≤ x) : (s.putNat a n v).byteAt x = s.byteAt x := by
  rw [State.putNat, byteAt_putBytes _ _ _ _ (by rwa [length_bytesOf]), length_bytesOf, if_neg (by omega)]

/-! ### Registers that a write to memory leaves -/

section Regs
variable {r : Nat}

theorem reg_foldl_eq {α β : Type} (π : β → State) {f : β → α → β} (hf : ∀ b x, (π (f b x)).reg r = (π b).reg r)
    (l : List α) (b : β) : (π (l.foldl f b)).reg r = (π b).reg r := by
  induction l generalizing b with
  | nil => rfl
  | cons x l ih => exact (ih (f b x)).trans (hf b x)

/-- A write to memory moves no register but the caches' counts of dirty and of poisoned lines. -/
theorem reg_putBytes (s : State) (a : Nat) (bs : List Byte) (hd : ∀ q, r ≠ R.MEM_OVC_DIRTY q)
    (hp : ∀ q, r ≠ R.MEM_OVC_POISONED q) : (s.putBytes a bs).reg r = s.reg r := by
  have hclear : (s.clearPoison a bs.length).reg r = s.reg r :=
    reg_foldl_eq id (fun u e => by rw [id_eq, reg_sub, if_neg (hp _), id_eq]) _ _
  have hbyte : ∀ (u : State) x b, (u.putByte x b).reg r = u.reg r := fun u x b => by
    have hdirty : ∀ n, (u.addSat (R.MEM_OVC_DIRTY (x / 0x1800000000)) n).reg r = u.reg r := fun n => by
      rw [reg_addSat, if_neg (hd _)]
    unfold State.putByte
    split
    · dsimp only
      split
      · rfl
      · exact hdirty 1
    · dsimp only
      split
      · rfl
      · split <;> rfl
  unfold State.putBytes
  refine (reg_foldl_eq (fun st : State × Nat => st.1) (fun st b => hbyte st.1 st.2 b) bs _).trans ?_
  dsimp only
  split
  · rfl
  · exact hclear

theorem reg_putNat (s : State) (a n v : Nat) (hd : ∀ q, r ≠ R.MEM_OVC_DIRTY q) (hp : ∀ q, r ≠ R.MEM_OVC_POISONED q) :
    (s.putNat a n v).reg r = s.reg r := reg_putBytes s a _ hd hp

end Regs

/-! ### The start and the end of a matrix-class item (R146, R151) -/

theorem byteAt_of_keeps {w : Nat} {s t : State} (h : Keeps w s t) (hmem : w.testBit 3 = false) (hmsys : w.testBit 7 = false)
    (x : Nat) : t.byteAt x = s.byteAt x := byteAt_congr (h.mem hmem) (h.msys hmsys) x

theorem reg_of_keeps {w : Nat} {s t : State} (h : Keeps w s t) (hregs : w.testBit 0 = false) (r : Nat) : t.reg r = s.reg r :=
  congrArg (Tbl.get · (regReset r) r) (h.regs hregs)

theorem core_of_keeps {w : Nat} {s t : State} (h : Keeps w s t) (hcores : w.testBit 5 = false) (c : Nat) : t.core c = s.core c :=
  congrArg (Tbl.get · Core.reset c) (h.cores hcores)

theorem core_popMx (s : State) (c : Nat) : (s.popMx c).core c = { s.core c with mxq := (s.core c).mxq.drop 1 } := by
  rw [State.popMx, core_setCore, if_pos rfl]

/-- R36: an item's end keeps its core's queue and the first status other than OK. -/
theorem core_recordMx (s : State) (c : Nat) (it : MxItem) (st : Nat) : (s.recordMx c it st).core c =
    { s.core c with mxStatus := if (s.core c).mxStatus = 0 then st else (s.core c).mxStatus } := by
  have hdone : ∀ (u : State) n who i g, (u.doneSem n who i g).core c = u.core c := fun u n who i g =>
    core_of_keeps (doneSem_keeps u n who i g) rfl c
  have hends : (s.recordMx c it st).core c =
      (if st ≠ 0 ∧ (s.core c).mxStatus = 0 then s.setCore c { s.core c with mxStatus := st } else s).core c := by
    unfold State.recordMx
    dsimp only
    cases it.owner.inst with
    | none => rfl
    | some i =>
      dsimp only
      split
      · rfl
      · split
        · exact hdone ..
        · rfl
  rw [hends]
  by_cases hfree : (s.core c).mxStatus = 0
  · by_cases hst : st = 0
    · rw [if_neg (fun h => h.1 hst), if_pos hfree, hst, ← hfree]
    · rw [if_pos ⟨hst, hfree⟩, if_pos hfree, core_setCore, if_pos rfl]
  · rw [if_neg (fun h => hfree h.2), if_neg hfree]

/-! ### What the checks of R189 leave of a row descriptor -/

theorem regionOf_ovc {a k : Nat} (h : regionOf a = .ovc k) : 0x10000000000 ≤ a ∧ a < 0x10180000000 := by
  unfold regionOf at h
  repeat' split at h
  all_goals cases h
  omega

/-- A place that R189 admits holds no register. -/
theorem inRegs_of_sfuPlace {c : CoreId} {a b x : Nat} (h : sfuPlace c.val (a, b) = true) (ha : a ≤ x) (hb : x < b) :
    inRegs x = false := by
  have hc := c.isLt
  have hbelow : x < 0x18000000000 := by
    simp only [sfuPlace, Bool.or_eq_true, Bool.and_eq_true] at h
    rcases h with hin | ⟨-, hlast⟩
    · have := of_decide_eq_true hin
      rw [pocketOf] at this
      omega
    · split at hlast
      · rename_i k hk
        have := regionOf_ovc hk
        omega
      · exact absurd hlast (by decide)
  exact decide_eq_false (by omega)

end State

/-- The ops that write elements: the soft maximum, the two norms and the gate (R192). -/
abbrev RowD.writes (d : RowD) : Prop := d.op < 3 ∨ d.op = 6

/-- Whether the op writes its rows' statistics (R191). -/
abbrev RowD.records (d : RowD) : Prop := d.stat ≠ 0 ∧ d.op ≠ 6

/-- A descriptor of one row that has elements, whose output and statistics record lie outside the register region and apart
from each other. -/
structure RowD.Placed (d : RowD) : Prop where
  nonempty : d.cols ≠ 0
  output : d.writes → ∀ j, j < d.cols * sfuBytes d.fy → State.inRegs (d.y + j) = false
  record : d.records → ∀ j, j < 8 → State.inRegs (d.stat + j) = false
  apart : d.writes → d.records → d.stat + 8 ≤ d.y ∨ d.y + d.cols * sfuBytes d.fy ≤ d.stat

namespace State

theorem placed_of_rowCheck {s : State} {c : CoreId} {it : MxItem} (h : s.rowCheck c.val it = 0)
    (hrows : (rowDOf it.desc).rows = 1) : (rowDOf it.desc).Placed := by
  simp only [rowCheck] at h
  have hok : ¬ _ := fun hbad => (show 2 ≠ 0 by decide) ((if_pos hbad).symm.trans h)
  simp only [Bool.or_eq_true, not_or] at hok
  obtain ⟨⟨⟨⟨⟨⟨⟨⟨⟨⟨-, hfields⟩, -⟩, -⟩, -⟩, -⟩, -⟩, -⟩, -⟩, hplaces⟩, hapart⟩ := hok
  simp only [hrows, Nat.sub_self, Nat.zero_mul, Nat.add_zero, Nat.mul_one, decide_eq_true_eq, not_or, Bool.not_eq_true',
    Bool.not_eq_false, List.all_append, List.any_append, Bool.and_eq_true, Bool.or_eq_true, not_and] at hfields hplaces hapart
  obtain ⟨⟨-, hstat⟩, hy⟩ := hplaces
  refine ⟨by omega, fun hw j hj => ?_, fun hr j hj => ?_, fun hw hr => ?_⟩
  · rw [if_pos hw, List.all_cons, List.all_nil, Bool.and_true] at hy
    exact inRegs_of_sfuPlace hy (Nat.le_add_right ..) (Nat.add_lt_add_left hj _)
  · rw [if_pos hr, List.all_cons, List.all_nil, Bool.and_true] at hstat
    exact inRegs_of_sfuPlace hstat (Nat.le_add_right ..) (Nat.add_lt_add_left hj _)
  · obtain ⟨-, -, hfree⟩ := hapart hw
    rw [if_pos hr, List.any_cons, List.any_nil, Bool.or_false, overlaps, decide_eq_true_eq] at hfree
    omega

/-! ### One row (R191, R192) -/

@[simp] theorem length_rowVals (s : State) (f a n : Nat) : (s.rowVals f a n).length = n := by
  rw [rowVals, List.length_map, List.length_range]

/-- An op has a result for each element of its row. -/
theorem length_vals_rowOp (d : RowD) {xs g b : List W32} (hg : g.length = xs.length) (hb : b.length = xs.length) :
    (rowOp d false xs g b).vals.length = xs.length := by
  simp only [rowOp, Bool.false_and, Bool.false_eq_true, if_false]
  split
  · simp only [softMaximumRow, List.length_map]
  · simp only [softMaximumRow, List.length_map]
  · simp only [layerNormRow, List.length_map, List.length_zip, hg, hb, Nat.min_self]
  · simp only [layerNormRow, List.length_map, List.length_zip, hg, hb, Nat.min_self]
  · simp only [rmsNormRow, List.length_map, List.length_zip, hg, Nat.min_self]
  · simp only [rmsNormRow, List.length_map, List.length_zip, hg, Nat.min_self]
  · simp only [gateRow, List.length_map, List.length_zip, hg, Nat.min_self]

/-- The op's outcome on the first row, every element of it unmasked. -/
def firstRow (s : State) (d : RowD) : RowOut :=
  rowOp d false (s.rowVals d.fx d.x d.cols)
    (if d.op = 6 then s.rowVals d.fg d.g d.cols
      else if (d.op = 1 ∨ d.op = 2) ∧ d.g ≠ 0 then s.rowVals d.fg d.g d.cols else List.replicate d.cols fp32One)
    (if d.op = 1 ∧ d.b ≠ 0 then s.rowVals d.fg d.b d.cols else List.replicate d.cols 0)

theorem length_vals_firstRow (s : State) (d : RowD) : (s.firstRow d).vals.length = d.cols := by
  rw [firstRow, length_vals_rowOp, length_rowVals]
  · simp only [apply_ite List.length, length_rowVals, List.length_replicate, ite_self]
  · simp only [apply_ite List.length, length_rowVals, List.length_replicate, ite_self]

/-- The statistics record of the first row written (R191). -/
def recordStored (s : State) (d : RowD) (o : RowOut) : State :=
  if d.records then (s.putNat d.stat 4 o.stats.1.toNat).putNat (d.stat + 4) 4 o.stats.2.toNat else s

/-- The flags of a row whose evaluation met a value that is not finite (R66). -/
def rowFlagged (s : State) (c : Nat) (o : RowOut) : State := if o.finite then s else s.fpEvent c 2 { nonfinite := true }

/-- An element of the first row in the output format. -/
def rowElem (s : State) (c : Nat) (d : RowD) (k : Nat) (v : W32) : Nat × FpEv :=
  let cv := (Cvt.check d.cvt (sfuFmt d.fy)).getD ⟨false, 0, 0⟩
  cvtElem (sfuFmt d.fy) cv (randomOf (s.reg (R.CORE_RNG_SEED c)).toNat (s.reg (R.CORE_RNG_STEP c)).toNat cv.stream
    (sfuBytes d.fy) (d.y + k * sfuBytes d.fy)) (ofFp32 v)

/-- The elements of the first row in the output format. -/
def rowElems (s : State) (c : Nat) (d : RowD) (o : RowOut) : List (Nat × FpEv) :=
  ((List.range d.cols).zip o.vals).map (fun q => s.rowElem c d q.1 q.2)

/-- The elements of the first row written, with what their conversion reports (R192). -/
def elemsStored (s : State) (c : Nat) (d : RowD) (o : RowOut) : State :=
  if d.writes then
    (s.fpEvent c 2 (FpEv.joinAll ((s.rowElems c d o).map Prod.snd))).putBytes d.y
      ((s.rowElems c d o).flatMap (fun q => bytesOf q.1 (sfuBytes d.fy)))
  else s

/-- The first row done: its record, its flags, its elements. -/
def rowStored (s : State) (c : Nat) (d : RowD) : State :=
  ((s.recordStored d (s.firstRow d)).rowFlagged c (s.firstRow d)).elemsStored c d (s.firstRow d)

/-- A row whose accesses the engine may make runs to its end and is counted. -/
theorem runRow_first {s : State} {c : Nat} {it : MxItem} {d : RowD} {a : Nat} (hcols : d.cols ≠ 0) (hmask : d.mask = 0)
    (hrng : d.rng = 0) (hreads : s.rangesStatus (mxEng c it) (rowReads d 0 d.cols) = (0, a))
    (hy : s.engWriteSt (mxEng c it) d.y (d.cols * sfuBytes d.fy) = 0)
    (hstat : d.stat ≠ 0 → s.engWriteSt (mxEng c it) d.stat 8 = 0) :
    s.runRow c it d false 0 = (0, 0, (s.rowStored c d).add64 (R.CORE_SFU_ROWS c) 1) := by
  have hkept : d.kept 0 = d.cols := by simp only [RowD.kept, hmask]
  have hrecord : (if d.stat ≠ 0 ∧ d.op ≠ 6 then s.engWriteSt (mxEng c it) d.stat 8 else 0) = 0 :=
    ite_eq_right_iff.2 fun h => hstat h.1
  simp only [runRow, hkept, hreads, Nat.zero_mul, Nat.mul_zero, Nat.add_zero, hrng, if_neg hcols, if_true, decide_eq_true_eq,
    hrecord, hy, ite_self, ne_self_iff_false, if_false, Nat.sub_self, List.replicate_zero, List.append_nil]
  rw [rowStored, elemsStored]
  by_cases hw : d.writes
  · simp only [if_pos hw]
    rfl
  · simp only [if_neg hw]
    rfl

/-! ### What a row leaves -/

/-- A register that no row of core `c` writes: neither the core's exception state nor a cache's count of lines. -/
structure RowKeeps (c : CoreId) (r : Nat) : Prop where
  flags : r ∉ fpRegs c
  dirty : ∀ q, r ≠ R.MEM_OVC_DIRTY q
  poisoned : ∀ q, r ≠ R.MEM_OVC_POISONED q

theorem rowKeeps_of_mod {c : CoreId} {r : Nat} (hflags : r ∉ fpRegs c) (hdirty : r % 0x100 ≠ 0x20)
    (hpoisoned : r % 0x100 ≠ 0x24) : RowKeeps c r :=
  ⟨hflags, fun q hq => hdirty (by rw [hq, R.MEM_OVC_DIRTY]; omega),
    fun q hq => hpoisoned (by rw [hq, R.MEM_OVC_POISONED]; omega)⟩

theorem rowKeeps_rows (c : CoreId) : RowKeeps c (R.CORE_SFU_ROWS c.val) :=
  rowKeeps_of_mod (by simp [fpRegs]) (by rw [R.CORE_SFU_ROWS]; omega) (by rw [R.CORE_SFU_ROWS]; omega)

theorem rowKeeps_seed (c : CoreId) : RowKeeps c (R.CORE_RNG_SEED c.val) :=
  rowKeeps_of_mod (by simp [fpRegs]) (by rw [R.CORE_RNG_SEED]; omega) (by rw [R.CORE_RNG_SEED]; omega)

theorem rowKeeps_step (c : CoreId) : RowKeeps c (R.CORE_RNG_STEP c.val) :=
  rowKeeps_of_mod (by simp [fpRegs]) (by rw [R.CORE_RNG_STEP]; omega) (by rw [R.CORE_RNG_STEP]; omega)

section Row
variable {s : State} {c : CoreId} {d : RowD} {o : RowOut}

theorem recordStored_keeps : Keeps 137 s (s.recordStored d o) :=
  Keeps.ite (Keeps.step (putNat_keeps ..) rfl (putNat_keeps ..)) (Keeps.refl s)

theorem rowFlagged_keeps {n : Nat} : Keeps 1 s (s.rowFlagged n o) := Keeps.ite (Keeps.refl s) (fpEvent_keeps ..)

theorem elemsStored_keeps {n : Nat} : Keeps 137 s (s.elemsStored n d o) :=
  Keeps.ite (Keeps.step (putBytes_keeps ..) rfl (Keeps.step (fpEvent_keeps ..) rfl (Keeps.refl s))) (Keeps.refl s)

theorem rowStored_keeps {n : Nat} : Keeps 137 s (s.rowStored n d) :=
  Keeps.step elemsStored_keeps rfl (Keeps.step rowFlagged_keeps rfl recordStored_keeps)

theorem reg_recordStored {r : Nat} (h : RowKeeps c r) : (s.recordStored d o).reg r = s.reg r := by
  rw [recordStored]
  split
  · rw [reg_putNat _ _ _ _ h.dirty h.poisoned, reg_putNat _ _ _ _ h.dirty h.poisoned]
  · rfl

theorem reg_rowFlagged {r : Nat} (h : RowKeeps c r) : (s.rowFlagged c.val o).reg r = s.reg r := by
  rw [rowFlagged]
  split
  · rfl
  · exact sameRegs_fpEvent s c 2 _ r h.flags

theorem reg_elemsStored {r : Nat} (h : RowKeeps c r) : (s.elemsStored c.val d o).reg r = s.reg r := by
  rw [elemsStored]
  split
  · exact (reg_putBytes _ _ _ h.dirty h.poisoned).trans (sameRegs_fpEvent s c 2 _ r h.flags)
  · rfl

theorem reg_rowStored {r : Nat} (h : RowKeeps c r) : (s.rowStored c.val d).reg r = s.reg r := by
  rw [rowStored, reg_elemsStored h, reg_rowFlagged h, reg_recordStored h]

/-- The statistics record of a placed row reads back. -/
theorem natAt_recordStored (h : d.Placed) (hr : d.records) :
    (s.recordStored d o).natAt d.stat 4 = o.stats.1.toNat ∧ (s.recordStored d o).natAt (d.stat + 4) 4 = o.stats.2.toNat := by
  have hlow : ∀ j, j < 4 → inRegs (d.stat + j) = false := fun j hj => h.record hr j (by omega)
  have hhigh : ∀ j, j < 4 → inRegs (d.stat + 4 + j) = false := fun j hj => by
    rw [Nat.add_assoc]
    exact h.record hr (4 + j) (by omega)
  rw [recordStored, if_pos hr]
  refine ⟨?_, ?_⟩
  · rw [natAt_congr fun x _ hx => byteAt_putNat_apart _ hhigh (.inl hx), natAt_putNat _ _ _ _ hlow]
    exact Nat.mod_eq_of_lt o.stats.1.isLt
  · rw [natAt_putNat _ _ _ _ hhigh]
    exact Nat.mod_eq_of_lt o.stats.2.isLt

theorem byteAt_recordStored {x : Nat} (h : d.Placed) (hx : d.records → x < d.stat ∨ d.stat + 8 ≤ x) :
    (s.recordStored d o).byteAt x = s.byteAt x := by
  rw [recordStored]
  split
  · rename_i hr
    have hout := hx hr
    have hhigh : ∀ j, j < 4 → inRegs (d.stat + 4 + j) = false := fun j hj => by
      rw [Nat.add_assoc]
      exact h.record hr (4 + j) (by omega)
    rw [byteAt_putNat_apart _ hhigh (by omega), byteAt_putNat_apart _ (fun j hj => h.record hr j (by omega)) (by omega)]
  · rfl

theorem length_rowElems (ho : o.vals.length = d.cols) : (s.rowElems c.val d o).length = d.cols := by
  rw [rowElems, List.length_map, List.length_zip, List.length_range, ho, Nat.min_self]

theorem byteAt_elemsStored {x : Nat} (h : d.Placed) (ho : o.vals.length = d.cols)
    (hx : d.writes → x < d.y ∨ d.y + d.cols * sfuBytes d.fy ≤ x) : (s.elemsStored c.val d o).byteAt x = s.byteAt x := by
  rw [elemsStored]
  split
  · rename_i hw
    have hout := hx hw
    have hlen : ((s.rowElems c.val d o).flatMap (fun q => bytesOf q.1 (sfuBytes d.fy))).length = d.cols * sfuBytes d.fy := by
      rw [length_flatMap_bytesOf, length_rowElems ho]
    rw [byteAt_putBytes _ _ _ _ (by rw [hlen]; exact h.output hw), hlen, if_neg (by omega)]
    exact byteAt_of_keeps (fpEvent_keeps ..) rfl rfl x
  · rfl

/-- Each element of a placed row reads back in the output format. -/
theorem natAt_elemsStored {k : Nat} (h : d.Placed) (ho : o.vals.length = d.cols) (hw : d.writes) (hk : k < d.cols) :
    (s.elemsStored c.val d o).natAt (d.y + k * sfuBytes d.fy) (sfuBytes d.fy) =
      (s.rowElem c.val d k ((o.vals[k]?).getD 0)).1 % 2 ^ (8 * sfuBytes d.fy) := by
  have hlen := length_rowElems (s := s) (c := c) ho
  rw [elemsStored, if_pos hw, natAt_putBytes_flatMap _ _ _ _ (hlen ▸ hk) (by rw [hlen]; exact h.output hw), Nat.pow_mul]
  rw [List.getElem?_eq_getElem (ho ▸ hk), Option.getD_some]
  simp only [rowElems, List.getElem_map, List.getElem_zip, List.getElem_range]

theorem byteAt_rowStored {x : Nat} (h : d.Placed) (hr : d.records → x < d.stat ∨ d.stat + 8 ≤ x)
    (hw : d.writes → x < d.y ∨ d.y + d.cols * sfuBytes d.fy ≤ x) : (s.rowStored c.val d).byteAt x = s.byteAt x := by
  rw [rowStored, byteAt_elemsStored h (length_vals_firstRow s d) hw, byteAt_of_keeps rowFlagged_keeps rfl rfl,
    byteAt_recordStored h hr]

/-- The elements leave the statistics record as it was written. -/
theorem natAt_rowStored_record (h : d.Placed) (hr : d.records) :
    (s.rowStored c.val d).natAt d.stat 4 = (s.firstRow d).stats.1.toNat ∧
    (s.rowStored c.val d).natAt (d.stat + 4) 4 = (s.firstRow d).stats.2.toNat := by
  have hkept : ∀ x, d.stat ≤ x → x < d.stat + 8 →
      (s.rowStored c.val d).byteAt x = (s.recordStored d (s.firstRow d)).byteAt x := fun x hlo hhi => by
    rw [rowStored, byteAt_elemsStored h (length_vals_firstRow s d) (fun hw => by have := h.apart hw hr; omega),
      byteAt_of_keeps rowFlagged_keeps rfl rfl]
  rw [natAt_congr fun x hlo hhi => hkept x hlo (by omega), natAt_congr fun x hlo hhi => hkept x (by omega) (by omega)]
  exact natAt_recordStored h hr

theorem natAt_rowStored_elem {k : Nat} (h : d.Placed) (hw : d.writes) (hk : k < d.cols) :
    (s.rowStored c.val d).natAt (d.y + k * sfuBytes d.fy) (sfuBytes d.fy) =
      (s.rowElem c.val d k (((s.firstRow d).vals[k]?).getD 0)).1 % 2 ^ (8 * sfuBytes d.fy) := by
  have hreg : ∀ r, RowKeeps c r → ((s.recordStored d (s.firstRow d)).rowFlagged c.val (s.firstRow d)).reg r = s.reg r :=
    fun r hr => by rw [reg_rowFlagged hr, reg_recordStored hr]
  rw [rowStored, natAt_elemsStored h (length_vals_firstRow s d) hw hk, rowElem, hreg _ (rowKeeps_seed c),
    hreg _ (rowKeeps_step c)]
  rfl

end Row

/-! ### The command of a row operation -/

section Command
variable {s : State} {c : CoreId} {it : MxItem} {i : Instr}

/-- Each of the seven commands runs the descriptor of its op. -/
theorem exec_rowOp {op : Nat} (h : (i, op) ∈ [(Instr.softMaximum c, 0), (.layernorm c, 1), (.rmsnorm c, 2),
    (.softMaximumStatistics c, 3), (.layernormStatistics c, 4), (.rmsnormStatistics c, 5), (.gatedActivation c, 6)]) :
    exec i s = .next (s.runRowOp c op) := by
  simp only [List.mem_cons, List.not_mem_nil, or_false] at h
  rcases h with ⟨rfl, rfl⟩ | ⟨rfl, rfl⟩ | ⟨rfl, rfl⟩ | ⟨rfl, rfl⟩ | ⟨rfl, rfl⟩ | ⟨rfl, rfl⟩ | ⟨rfl, rfl⟩ <;> rfl

/-- R189: a descriptor that breaks a rule ends with its status, and nothing else of it runs. -/
theorem runRowOp_refused (hhead : s.headMx c.val = some it) (hold : s.oldMx it = false) (hkind : xw it.desc 0 0 8 = 0x23)
    (hbad : s.rowCheck c.val it ≠ 0) :
    s.runRowOp c (rowDOf it.desc).op = (s.popMx c.val).recordMx c.val it (s.rowCheck c.val it) := by
  have hlive : (s.popMx c.val).oldMx it = false := hold
  have hcheck : (s.popMx c.val).rowCheck c.val it = s.rowCheck c.val it := rfl
  cases hst : s.rowCheck c.val it with
  | zero => exact absurd hst hbad
  | succ st =>
    simp only [runRowOp, hhead, hkind, hlive, hcheck, hst, ne_self_iff_false, false_and, or_self, Bool.false_eq_true, if_false]

/-- A descriptor of one row whose row runs to its end. -/
theorem runRowOp_one_row {t : State} (hhead : s.headMx c.val = some it) (hold : s.oldMx it = false)
    (hkind : xw it.desc 0 0 8 = 0x23) (hok : s.rowCheck c.val it = 0) (hrows : (rowDOf it.desc).rows = 1)
    (hleg : s.legacyOf c.val (rowDOf it.desc).mode = false)
    (hrow : (s.popMx c.val).runRow c.val it (rowDOf it.desc) false 0 = (0, 0, t)) :
    s.runRowOp c (rowDOf it.desc).op = t.recordMx c.val it 0 := by
  have hlive : (s.popMx c.val).oldMx it = false := hold
  have hcheck : (s.popMx c.val).rowCheck c.val it = 0 := hok
  have hnative : (s.popMx c.val).legacyOf c.val (rowDOf it.desc).mode = false := hleg
  simp only [runRowOp, hhead, hkind, hlive, hcheck, hnative, hrows, List.range_one, List.foldl_cons, List.foldl_nil, hrow,
    ne_self_iff_false, false_and, or_self, Bool.false_eq_true, if_false, if_true]

end Command

/-- The descriptor of one row ended: it has left its queue, its row is done and counted, its end recorded (R151, R192). -/
def rowEnded (s : State) (c : Nat) (it : MxItem) : State :=
  (((s.popMx c).rowStored c (rowDOf it.desc)).add64 (R.CORE_SFU_ROWS c) 1).recordMx c it 0

section Ended
variable (s : State) (c : CoreId) (it : MxItem)

theorem byteAt_rowEnded (x : Nat) :
    (s.rowEnded c.val it).byteAt x = ((s.popMx c.val).rowStored c.val (rowDOf it.desc)).byteAt x := by
  rw [rowEnded, byteAt_of_keeps (recordMx_keeps ..) rfl rfl, byteAt_of_keeps (add64_keeps ..) rfl rfl]

theorem natAt_rowEnded (a n : Nat) :
    (s.rowEnded c.val it).natAt a n = ((s.popMx c.val).rowStored c.val (rowDOf it.desc)).natAt a n :=
  natAt_congr fun x _ _ => byteAt_rowEnded s c it x

theorem core_rowEnded : (s.rowEnded c.val it).core c.val = { s.core c.val with mxq := (s.core c.val).mxq.drop 1 } := by
  rw [rowEnded, core_recordMx, add64_core, core_of_keeps rowStored_keeps rfl, core_popMx, ite_eq_right_iff.2 Eq.symm]

theorem rows_rowEnded : (s.rowEnded c.val it).reg (R.CORE_SFU_ROWS c.val) = s.reg (R.CORE_SFU_ROWS c.val) + 1 := by
  rw [rowEnded, reg_of_keeps (recordMx_keeps ..) rfl, reg_add64, if_pos rfl, reg_rowStored (rowKeeps_rows c), popMx,
    setCore_reg, BitVec.ofNat_add, BitVec.ofNat_toNat, BitVec.setWidth_eq]
  rfl

end Ended

end State
end Sys2Proof.Machine

namespace Sys2Proof
open Machine State

/-- Settles O28: a refused descriptor only leaves its queue with its status; a row that runs writes its statistics record
and its elements, which lie apart, and every element and statistic reads back. -/
theorem rowOperations : Obligations.RowOperations := by
  unfold Obligations.RowOperations
  intro s c it i a hhead hold hkind hi
  have hexec := exec_rowOp (s := s) hi
  refine ⟨fun hbad => ?refused, fun hok hrows hmask hrng hleg hreads hy hstat => ?runs⟩
  case refused =>
    refine ⟨_, hexec.trans (congrArg _ (runRowOp_refused hhead hold hkind hbad)), ?_⟩
    have hkeeps := recordMx_keeps (s.popMx c.val) c.val it (s.rowCheck c.val it)
    exact ⟨by rw [core_recordMx, core_popMx], hkeeps.mem rfl, by rw [core_recordMx, core_popMx], hkeeps.regs rfl⟩
  case runs =>
    have hplaced := placed_of_rowCheck hok hrows
    have hrow := runRow_first (s := s.popMx c.val) hplaced.nonempty hmask hrng hreads hy hstat
    refine ⟨s.rowEnded c.val it, hexec.trans (congrArg _ (runRowOp_one_row hhead hold hkind hok hrows hleg hrow)), ?_⟩
    simp only [core_rowEnded, rows_rowEnded, natAt_rowEnded, byteAt_rowEnded]
    refine ⟨trivial, trivial, trivial, fun hstat hop => ?record, fun hw k hk => ?elem, fun x hy hstat => ?frame⟩
    case record => exact natAt_rowStored_record hplaced ⟨hstat, hop⟩
    case elem => exact natAt_rowStored_elem hplaced hw hk
    case frame => exact byteAt_rowStored hplaced (fun _ => hstat) (fun _ => hy)

end Sys2Proof
end

section
/-! Memory that is zeroed (R220): every byte of the range reads 0, whether its line is cached, waits in a victim buffer or is in
memory, and every other byte reads as before. -/
namespace Sys2Proof.Machine
namespace State

/-! ### What is cached -/

/-- A written byte stays where it was: its line is cached after the write if it was before. -/
theorem isSome_lineOf_putByte (s : State) (a : Nat) (b : Byte) (x : Nat) :
    ((s.putByte a b).lineOf x).isSome = (s.lineOf x).isSome := by
  unfold State.putByte
  split
  · -- a valid line
    rename_i e he
    have hset : ∀ u : State, u.msys = s.msys → ∀ v, ((u.setLine (a / 256) v).lineOf x).isSome = (s.lineOf x).isSome := by
      intro u hu v
      have hu : u.lineOf x = s.lineOf x := by rw [State.lineOf, State.lineOf, hu]
      rw [lineOf_setLine, hu]
      split
      · rename_i hx
        rw [State.lineOf, hx, he]
        rfl
      · rfl
    dsimp only
    split
    · exact hset s rfl _
    · exact hset _ rfl _
  · dsimp only
    split
    · -- a line in the victim buffer
      simp only [State.lineOf, Tbl.get_set]
      split
      · rfl
      · split
        · split
          · rename_i hq
            rw [find?_map_line _ (a / 256) _ _ (by intro v; split <;> rfl) (by intro v h; simp [h]), hq]
            split <;> simp only [Option.isSome_map]
          · rfl
        · rfl
    · -- no cached copy
      split <;> rfl

/-- Clearing poison leaves every line its data. -/
theorem lineOf_clearPoison (s : State) (a n x : Nat) : (s.clearPoison a n).lineOf x = s.lineOf x := by
  unfold State.clearPoison State.lineOf
  dsimp only
  rw [msys_foldl_sub]
  dsimp only
  rw [find?_map_same_key _ _ _ (fun e => by split <;> rfl)]
  cases s.msys.lines.find? (fun e => e.1 == x / 256) with
  | none => rfl
  | some e =>
    rw [Option.map_some]
    dsimp only
    split <;> rfl

/-- What a table holds at a key beside its default is listed. -/
theorem mem_of_get_ne {α : Type} {t : Tbl α} {d : α} {k : Nat} (h : t.get d k ≠ d) : (k, t.get d k) ∈ t := by
  induction t with
  | nil => exact absurd rfl h
  | cons e t ih =>
    obtain ⟨j, v⟩ := e
    rw [Tbl.get] at h ⊢
    split at h <;> rename_i hj
    · rw [if_pos hj, hj]
      exact List.mem_cons_self
    · rw [if_neg hj]
      exact List.mem_cons_of_mem _ (ih h)

/-- The numbers of the lines of a range that have a cached copy or wait in a victim buffer. -/
def cachedLines (s : State) (a n : Nat) : List Nat :=
  (s.msys.lines.filter (fun e => decide (256 * e.1 < a + n ∧ a < 256 * e.1 + 256))).map Prod.fst ++
    s.msys.victims.flatMap (fun q =>
      (q.2.filter (fun v => decide (256 * v.line < a + n ∧ a < 256 * v.line + 256))).map (fun v => v.line))

theorem mem_cachedLines {s : State} {a n x : Nat} (h : (s.lineOf x).isSome = true) (hlo : a ≤ x) (hhi : x < a + n) :
    x / 256 ∈ s.cachedLines a n := by
  have hhit : 256 * (x / 256) < a + n ∧ a < 256 * (x / 256) + 256 := by omega
  unfold State.lineOf at h
  rw [cachedLines, List.mem_append, List.mem_map, List.mem_flatMap]
  split at h
  · rename_i e he
    have hkey : e.1 = x / 256 := by simpa using List.find?_some he
    exact .inl ⟨e, List.mem_filter.2 ⟨List.mem_of_find?_eq_some he, decide_eq_true (hkey ▸ hhit)⟩, hkey⟩
  · split at h
    · rw [Option.isSome_map] at h
      obtain ⟨v, hv⟩ := Option.isSome_iff_exists.1 h
      have hmem := List.mem_of_find?_eq_some hv
      have hline : v.line = x / 256 := by simpa using List.find?_some hv
      refine .inr ⟨_, mem_of_get_ne (List.ne_nil_of_mem hmem), List.mem_map.2 ⟨v, List.mem_filter.2 ⟨hmem, ?_⟩, hline⟩⟩
      exact decide_eq_true (hline ▸ hhit)
    · exact absurd h (by decide)

/-! ### A range that is zeroed -/

/-- The listed addresses that lie in a range are zeroed, one byte after the other. -/
def zeroBytes (s : State) (a n : Nat) (ys : List Nat) : State :=
  ys.foldl (fun u y => if a ≤ y ∧ y < a + n then u.putByte y 0 else u) s

section ZeroBytes
variable {a n x : Nat}

theorem isSome_lineOf_zeroBytes (s : State) (ys : List Nat) : ((s.zeroBytes a n ys).lineOf x).isSome = (s.lineOf x).isSome := by
  induction ys generalizing s with
  | nil => rfl
  | cons y ys ih =>
    rw [zeroBytes, List.foldl_cons]
    refine (ih _).trans ?_
    split
    · exact isSome_lineOf_putByte ..
    · rfl

theorem byteAt_zeroBytes (s : State) (ys : List Nat) (hregs : ∀ y, a ≤ y → y < a + n → inRegs y = false) :
    (s.zeroBytes a n ys).byteAt x = if (a ≤ x ∧ x < a + n) ∧ x ∈ ys then 0 else s.byteAt x := by
  induction ys generalizing s with
  | nil => simp [zeroBytes]
  | cons y ys ih =>
    rw [zeroBytes, List.foldl_cons]
    refine (ih _).trans ?_
    by_cases hy : a ≤ y ∧ y < a + n
    · rw [if_pos hy, byteAt_putByte _ _ _ _ (hregs y hy.1 hy.2)]
      by_cases hxy : x = y
      · rw [if_pos hxy, ite_self, if_pos ⟨hxy ▸ hy, hxy ▸ List.mem_cons_self⟩]
      · simp only [List.mem_cons, hxy, false_or, if_false]
    · have hxy : (a ≤ x ∧ x < a + n) ∧ x = y ↔ False := ⟨fun h => hy (h.2 ▸ h.1), False.elim⟩
      simp only [if_neg hy, List.mem_cons, and_or_left, hxy, false_or]

end ZeroBytes

/-- The addresses of the listed lines. -/
def lineAddrs (ls : List Nat) : List Nat := ls.flatMap (fun l => (List.range 256).map (fun j => 256 * l + j))

theorem mem_lineAddrs {ls : List Nat} {x : Nat} (h : x / 256 ∈ ls) : x ∈ lineAddrs ls :=
  List.mem_flatMap.2 ⟨x / 256, h, List.mem_map.2 ⟨x % 256, List.mem_range.2 (Nat.mod_lt _ (by decide)), Nat.div_add_mod ..⟩⟩

/-- A range is zeroed in its cached copies first, then in memory. -/
theorem zeroRange_eq (s : State) (a n : Nat) : s.zeroRange a n =
    let u := (s.zeroBytes a n (lineAddrs (s.cachedLines a n))).clearPoison a n
    { u with mem := u.mem.filter (fun c => !(decide (a ≤ c.1 ∧ c.1 < a + n))) } := by
  have hbytes : ∀ (ls : List Nat) (u : State), u.zeroBytes a n (lineAddrs ls) = ls.foldl (fun s l =>
      (List.range 256).foldl (fun s j => if a ≤ 256 * l + j ∧ 256 * l + j < a + n then s.putByte (256 * l + j) 0 else s) s) u := by
    intro ls u
    rw [zeroBytes, lineAddrs, List.foldl_flatMap]
    simp only [List.foldl_map]
  rw [hbytes]
  rfl

theorem get_filter_key {α : Type} (t : Tbl α) (d : α) (p : Nat → Bool) (k : Nat) :
    Tbl.get (t.filter (fun e => p e.1)) d k = if p k then t.get d k else d := by
  induction t with
  | nil => simp [Tbl.get]
  | cons e t ih =>
    obtain ⟨j, v⟩ := e
    rw [List.filter_cons]
    by_cases hj : j = k
    · subst hj
      split
      · simp only [if_true, Tbl.get]
      · rename_i hp
        rw [ih, if_neg hp]
    · rw [Tbl.get, if_neg hj, ← ih]
      split
      · rw [Tbl.get, if_neg hj]
      · rfl

/-- Memory that is cleared below its cached copies. -/
theorem byteAt_clearMem (s : State) {a n x : Nat} (hregs : ∀ y, a ≤ y → y < a + n → inRegs y = false) :
    State.byteAt { s with mem := s.mem.filter (fun c => !(decide (a ≤ c.1 ∧ c.1 < a + n))) } x =
      if (a ≤ x ∧ x < a + n) ∧ (s.lineOf x).isSome = false then 0 else s.byteAt x := by
  have hline : State.lineOf { s with mem := s.mem.filter (fun c => !(decide (a ≤ c.1 ∧ c.1 < a + n))) } x = s.lineOf x := rfl
  have hget := get_filter_key s.mem (0 : Byte) (fun y => !(decide (a ≤ y ∧ y < a + n))) x
  rw [State.byteAt, State.byteAt, hline]
  cases s.lineOf x with
  | some d => simp only [Option.isSome_some, Bool.true_eq_false, and_false, if_false]
  | none =>
    dsimp only
    rw [hget]
    by_cases hx : a ≤ x ∧ x < a + n
    · rw [hregs x hx.1 hx.2]
      simp [hx]
    · simp [hx]

theorem byteAt_zeroRange (s : State) {a n : Nat} (x : Nat) (hregs : ∀ y, a ≤ y → y < a + n → inRegs y = false) :
    (s.zeroRange a n).byteAt x = if a ≤ x ∧ x < a + n then 0 else s.byteAt x := by
  rw [zeroRange_eq]
  dsimp only
  rw [byteAt_clearMem _ hregs, byteAt_clearPoison, lineOf_clearPoison, byteAt_zeroBytes _ _ hregs, isSome_lineOf_zeroBytes]
  by_cases hx : a ≤ x ∧ x < a + n
  · cases hc : (s.lineOf x).isSome with
    | false => rw [if_pos ⟨hx, rfl⟩, if_pos hx]
    | true => rw [if_neg (fun h => Bool.noConfusion h.2), if_pos hx,
        if_pos ⟨hx, mem_lineAddrs (mem_cachedLines hc hx.1 hx.2)⟩]
  · rw [if_neg (fun h => hx h.1), if_neg (fun h => hx h.1), if_neg hx]

end State
end Sys2Proof.Machine
end

section
/-! KV spaces and their walkers (R220, R229, R231): what lists and tables leave in the registers of a space, a space just
after its enabling, a translation, the release of a slot. -/
namespace Sys2Proof.Machine
namespace State

/-! ### The registers of a space -/

/-- A register that the walker's lists and tables of space `n` do not move: not its counts of free, of evictable and of reserved
frames, nor a cache's count of dirty or of poisoned lines. -/
structure KvKeeps (n r : Nat) : Prop where
  free : r ≠ R.KV_FRAMES_FREE n
  evictable : r ≠ R.KV_FRAMES_EVICTABLE n
  reserved : r ≠ R.KV_FRAMES_RESERVED n
  dirty : ∀ q, r ≠ R.MEM_OVC_DIRTY q
  poisoned : ∀ q, r ≠ R.MEM_OVC_POISONED q

/-- The registers of a space's block are known by their place in it. -/
theorem kvKeeps_of_place {n d : Nat} (h : d < 0x100)
    (hd : d ≠ 0x20 ∧ d ≠ 0x24 ∧ d ≠ 0x38 ∧ d ≠ 0x3C ∧ d ≠ 0x40) : KvKeeps n (0xA00000 + d + n * 0x100) := by
  obtain ⟨hdirty, hpoisoned, hfree, hevictable, hreserved⟩ := hd
  refine ⟨?_, ?_, ?_, fun q => ?_, fun q => ?_⟩
  · rw [R.KV_FRAMES_FREE]; omega
  · rw [R.KV_FRAMES_EVICTABLE]; omega
  · rw [R.KV_FRAMES_RESERVED]; omega
  · rw [R.MEM_OVC_DIRTY]; omega
  · rw [R.MEM_OVC_POISONED]; omega

theorem kvKeeps_cfg (n : Nat) : KvKeeps n (R.KV_SPACE_CFG n) := kvKeeps_of_place (d := 0) (by decide) (by decide)
theorem kvKeeps_limits (n : Nat) : KvKeeps n (R.KV_SPACE_LIMITS n) := kvKeeps_of_place (d := 8) (by decide) (by decide)
theorem kvKeeps_l1Base (n : Nat) : KvKeeps n (R.KV_L1_BASE n) := kvKeeps_of_place (d := 0x10) (by decide) (by decide)
theorem kvKeeps_l2Base (n : Nat) : KvKeeps n (R.KV_L2_BASE n) := kvKeeps_of_place (d := 0x18) (by decide) (by decide)
theorem kvKeeps_poolFrames (n : Nat) : KvKeeps n (R.KV_POOL_FRAMES n) := kvKeeps_of_place (d := 0xC) (by decide) (by decide)
theorem kvKeeps_openSeqs (n : Nat) : KvKeeps n (R.KV_OPEN_SEQS n) := kvKeeps_of_place (d := 0x44) (by decide) (by decide)

section Lists
variable {s : State} {n r : Nat} {k : KvSpace}

theorem kvSpace_setKv : (s.setKv n k).kvSpace n = k := Tbl.get_set_same ..

theorem kvSpace_congr {t : State} (h : t.kv = s.kv) : t.kvSpace n = s.kvSpace n := by
  rw [kvSpace, kvSpace, h]

theorem reg_setKv (h : KvKeeps n r) : (s.setKv n k).reg r = s.reg r := by
  rw [setKv, reg_setFld, if_neg h.evictable, reg_setFld, if_neg h.free]
  rfl

theorem kvFreeCount_setKv : (s.setKv n k).kvFreeCount n = k.free.length % 2 ^ 24 := by
  rw [setKv, kvFreeCount, fld_set, if_neg (by simp), fld_setFld _ _ _ _ (by decide)]

theorem kvEvictable_setKv : (s.setKv n k).kvEvictable n =
    (k.tree.filter (fun e => decide (k.refs.get 0 e.frame = 0))).length % 2 ^ 24 := by
  rw [setKv, kvEvictable, fld_setFld _ _ _ _ (by decide)]

theorem reg_setReserved {v : Nat} (h : KvKeeps n r) : (s.setReserved n v).reg r = s.reg r := by
  rw [setReserved, reg_setFld, if_neg h.reserved]

theorem reg_kvUnref {f : Nat} (h : KvKeeps n r) : (s.kvUnref n f).reg r = s.reg r := by
  unfold kvUnref
  dsimp only
  split
  · exact reg_setKv h
  · split
    · exact reg_setKv h
    · exact reg_setKv h

theorem reg_setL1 {slot len res : Nat} {o : Bool} (h : KvKeeps n r) : (s.setL1 n slot o len res).reg r = s.reg r :=
  reg_putNat _ _ _ _ h.dirty h.poisoned

theorem reg_setL2 {slot b : Nat} {f : Option Nat} (h : KvKeeps n r) : (s.setL2 n slot b f).reg r = s.reg r :=
  reg_putNat _ _ _ _ h.dirty h.poisoned

theorem reg_labDrop {p : LabEntry → Bool} : (s.labDrop p).reg r = s.reg r := reg_of_keeps (labDrop_keeps ..) rfl r

/-- A stored byte moves no register but the count of dirty lines of its cache. -/
theorem reg_putByte {a : Nat} {b : Byte} (hd : ∀ q, r ≠ R.MEM_OVC_DIRTY q) : (s.putByte a b).reg r = s.reg r := by
  unfold State.putByte
  split
  · dsimp only
    split
    · rfl
    · exact (reg_addSat ..).trans (if_neg (hd _))
  · dsimp only
    split
    · rfl
    · split <;> rfl

/-- Zeroing moves no register but the caches' counts of dirty and of poisoned lines. -/
theorem reg_zeroRange {a m : Nat} (hd : ∀ q, r ≠ R.MEM_OVC_DIRTY q) (hp : ∀ q, r ≠ R.MEM_OVC_POISONED q) :
    (s.zeroRange a m).reg r = s.reg r := by
  have hclear : ∀ u : State, (u.clearPoison a m).reg r = u.reg r := fun u =>
    reg_foldl_eq id (fun u e => by rw [id_eq, reg_sub, if_neg (hp _), id_eq]) _ _
  rw [zeroRange_eq]
  refine (hclear _).trans (reg_foldl_eq id (fun u y => ?_) _ _)
  simp only [id_eq]
  split
  · exact reg_putByte hd
  · rfl

end Lists

/-! ### Enabling (R220) -/

/-- Each area of a space that may be enabled ends below the register region. -/
theorem area_le_of_kvCanEnable {s : State} {n : Nat} (h : s.kvCanEnable n = true) {a : Nat × Nat} (ha : a ∈ s.kvAreas n) :
    a.1 + a.2 ≤ 0x18000000000 := by
  simp only [kvCanEnable, Bool.and_eq_true, List.all_eq_true, decide_eq_true_eq] at h
  obtain ⟨⟨⟨-, hareas⟩, -⟩, -⟩ := h
  exact (hareas a ha).1.2

theorem inRegs_of_le {a m : Nat} (h : a + m ≤ 0x18000000000) (y : Nat) (_ : a ≤ y) (hy : y < a + m) : inRegs y = false :=
  decide_eq_false (by omega)

/-- The tables of a space zeroed: its level-1 table, then its level-2 tables. -/
def tablesZeroed (s : State) (n : Nat) : State :=
  (s.zeroRange (s.l1At n 0) (16 * s.kvSlots n)).zeroRange (s.l2At n 0 0) (4 * s.kvSlots n * s.kvMaxBlocks n)

/-- The walker's own state of a space whose frames are all free. -/
def freeSpace (s : State) (n : Nat) : KvSpace := { KvSpace.reset with free := List.range (s.kvFrames n) }

section Fresh
variable {s : State} {n : Nat}

theorem reg_tablesZeroed {r : Nat} (h : KvKeeps n r) : (s.tablesZeroed n).reg r = s.reg r := by
  rw [tablesZeroed, reg_zeroRange h.dirty h.poisoned, reg_zeroRange h.dirty h.poisoned]

/-- A space just after its enabling: its tables are zeroed, its frames free, its counts 0, its translations dropped. -/
theorem kvFreshSpace_eq : s.kvFreshSpace n = ((((s.tablesZeroed n).setKv n (s.freeSpace n)).setReserved n 0).setFld
    (R.KV_OPEN_SEQS n) F.KV_OPEN_SEQS_count 0).labDrop (fun e => e.space == n) := by
  have hreg : ∀ {a m r}, KvKeeps n r → (s.zeroRange a m).reg r = s.reg r := fun h => reg_zeroRange h.dirty h.poisoned
  have hslots : ∀ {a m}, (s.zeroRange a m).kvSlots n = s.kvSlots n := fld_congr (hreg (kvKeeps_limits n)) _
  have hblocks : ∀ {a m}, (s.zeroRange a m).kvMaxBlocks n = s.kvMaxBlocks n := fld_congr (hreg (kvKeeps_limits n)) _
  have hl2 : ∀ {a m}, (s.zeroRange a m).l2At n 0 0 = s.l2At n 0 0 := by
    intro a m
    rw [l2At, l2At, hreg (kvKeeps_l2Base n), hblocks]
  have hframes : (s.tablesZeroed n).kvFrames n = s.kvFrames n := fld_congr (reg_tablesZeroed (kvKeeps_poolFrames n)) _
  unfold kvFreshSpace
  dsimp only
  rw [hl2, hslots, hblocks, freeSpace, ← hframes, tablesZeroed]

theorem reg_kvFreshSpace {r : Nat} (h : KvKeeps n r) (hseqs : r ≠ R.KV_OPEN_SEQS n) :
    (s.kvFreshSpace n).reg r = s.reg r := by
  rw [kvFreshSpace_eq, reg_labDrop, reg_setFld, if_neg hseqs, reg_setReserved h, reg_setKv h, reg_tablesZeroed h]

theorem kvSpace_kvFreshSpace : (s.kvFreshSpace n).kvSpace n = s.freeSpace n := by
  rw [kvFreshSpace_eq, kvSpace_congr ((labDrop_keeps ..).kv rfl), kvSpace_congr (setFld_kv ..), setReserved,
    kvSpace_congr (setFld_kv ..), kvSpace_setKv]

theorem openSeqs_kvFreshSpace : (s.kvFreshSpace n).fld (R.KV_OPEN_SEQS n) F.KV_OPEN_SEQS_count = 0 := by
  rw [kvFreshSpace_eq, fld_congr reg_labDrop, fld_setFld _ _ _ _ (by decide)]
  rfl

theorem kvReserved_kvFreshSpace : (s.kvFreshSpace n).kvReserved n = 0 := by
  rw [kvReserved, kvFreshSpace_eq, fld_congr reg_labDrop, fld_set, if_neg (by simp), setReserved, fld_setFld _ _ _ _ (by decide)]
  rfl

/-- The counts of the walker's lists are those that the free space gave. -/
theorem fld_kvFreshSpace {r : Nat} {f : Fld} (hseqs : r ≠ R.KV_OPEN_SEQS n) (hres : r ≠ R.KV_FRAMES_RESERVED n) :
    (s.kvFreshSpace n).fld r f = ((s.tablesZeroed n).setKv n (s.freeSpace n)).fld r f := by
  rw [kvFreshSpace_eq, fld_congr reg_labDrop, fld_set, if_neg hseqs, setReserved, fld_set, if_neg hres]

theorem tree_freeSpace : (s.freeSpace n).tree = [] := rfl

theorem kvEvictable_kvFreshSpace : (s.kvFreshSpace n).kvEvictable n = 0 := by
  rw [kvEvictable, fld_kvFreshSpace (by simp) (by simp), ← kvEvictable, kvEvictable_setKv, tree_freeSpace, List.filter_nil,
    List.length_nil, Nat.zero_mod]

theorem kvFreeCount_kvFreshSpace : (s.kvFreshSpace n).kvFreeCount n = s.kvFrames n := by
  have hlt : s.kvFrames n < 2 ^ 24 := fld_lt ..
  rw [kvFreeCount, fld_kvFreshSpace (by simp) (by simp), ← kvFreeCount, kvFreeCount_setKv, freeSpace, List.length_range,
    Nat.mod_eq_of_lt hlt]

theorem byteAt_kvFreshSpace (x : Nat) : (s.kvFreshSpace n).byteAt x = (s.tablesZeroed n).byteAt x := by
  rw [kvFreshSpace_eq, byteAt_of_keeps (labDrop_keeps ..) rfl rfl, byteAt_of_keeps (setFld_keeps ..) rfl rfl, setReserved,
    byteAt_of_keeps (setFld_keeps ..) rfl rfl, byteAt_of_keeps (setKv_keeps ..) rfl rfl]

theorem natAt_of_zero {a m : Nat} (h : ∀ x, a ≤ x → x < a + m → s.byteAt x = 0) : s.natAt a m = 0 := by
  have hbytes : s.bytesAt a m = List.replicate m 0 := by
    rw [State.bytesAt, List.eq_replicate_iff]
    refine ⟨by simp, fun b hb => ?_⟩
    obtain ⟨j, hj, rfl⟩ := List.mem_map.1 hb
    exact h _ (Nat.le_add_right ..) (Nat.add_lt_add_left (List.mem_range.1 hj) a)
  have hzero : ∀ k, natOfBytes (List.replicate k 0) = 0 := fun k => by
    induction k with
    | zero => rfl
    | succ k ih => rw [List.replicate_succ, natOfBytes, ih]; rfl
  rw [State.natAt, hbytes, hzero]

/-- Every slot of a space just after its enabling is closed, where the tables lie below the register region. -/
theorem kvOpenSlot_kvFreshSpace {slot : Nat} (hl1 : (s.reg (R.KV_L1_BASE n)).toNat + 16 * s.kvSlots n ≤ 0x18000000000)
    (hl2 : (s.reg (R.KV_L2_BASE n)).toNat + 4 * s.kvSlots n * s.kvMaxBlocks n ≤ 0x18000000000) (hslot : slot < s.kvSlots n) :
    (s.kvFreshSpace n).kvOpenSlot n slot = false := by
  have hat : (s.kvFreshSpace n).l1At n slot = s.l1At n slot := by
    rw [l1At, l1At, reg_kvFreshSpace (kvKeeps_l1Base n) (by simp)]
  have hzero : (s.kvFreshSpace n).natAt (s.l1At n slot) 8 = 0 := natAt_of_zero fun x hlo hhi => by
    have hin : s.l1At n 0 ≤ x ∧ x < s.l1At n 0 + 16 * s.kvSlots n := by
      rw [l1At] at hlo hhi ⊢
      omega
    rw [byteAt_kvFreshSpace, tablesZeroed, byteAt_zeroRange _ _ (inRegs_of_le (by rw [l2At]; omega)),
      byteAt_zeroRange _ _ (inRegs_of_le (by rw [l1At]; omega)), if_pos hin, ite_self]
  rw [kvOpenSlot, hat, hzero]
  rfl

end Fresh

/-- Registers that are set to 0 one after the other. -/
theorem reg_zeroRegs (l : List Nat) (s : State) (r : Nat) :
    (l.foldl (fun s r => s.setReg r 0) s).reg r = if r ∈ l then 0 else s.reg r := by
  induction l generalizing s with
  | nil => simp
  | cons x l ih =>
    rw [List.foldl_cons, ih, reg_setReg]
    by_cases hl : r ∈ l
    · simp [hl]
    · simp [hl]

/-- KV_SPACE_CFG written with the fields of `v`, before its enable bit is judged (R220). -/
def cfgWritten (s : State) (n v : Nat) : State :=
  s.setReg (R.KV_SPACE_CFG n) (BitVec.ofNat 64 (bitsOf v 1 8 * 2 + bitsOf v 16 15 * 2 ^ 16 +
    s.fld (R.KV_SPACE_CFG n) F.KV_SPACE_CFG_cfg_error * 2 ^ 31))

/-- The counters of a space that its enabling clears. -/
abbrev kvCounters (n : Nat) : List Nat :=
  [R.KV_FULL_COUNT n, R.KV_PREFIX_HITS n, R.KV_EVICTIONS n, R.KV_COW_COPIES n, R.KV_HASH_MISMATCH n]

/-- A space switched on, its error bit and its counters cleared. -/
def switchedOn (s : State) (n : Nat) : State :=
  (kvCounters n).foldl (fun s r => s.setReg r 0)
    ((s.setFld (R.KV_SPACE_CFG n) F.KV_SPACE_CFG_enable 1).setFld (R.KV_SPACE_CFG n) F.KV_SPACE_CFG_cfg_error 0)

theorem bitOf_setBit_zero (v : Nat) : bitOf (setBit v 0) 0 = true := by
  unfold setBit bitOf
  split
  · assumption
  · rename_i h
    simp only [decide_eq_true_eq] at h ⊢
    omega

theorem bitOf_clearBit_zero (v : Nat) : bitOf (clearBit v 0) 0 = false := by
  unfold clearBit bitOf
  split
  · rename_i h
    simp only [decide_eq_true_eq, decide_eq_false_iff_not] at h ⊢
    omega
  · rename_i h
    simpa using h

section Enable
variable {s : State} {n v : Nat}

theorem writeKvCfg_enables (hoff : s.kvOn n = false) (hv : bitOf v 0 = true) (hcan : (s.cfgWritten n v).kvCanEnable n = true) :
    s.writeKvCfg n v = ((s.cfgWritten n v).switchedOn n).kvFreshSpace n := by
  rw [writeKvCfg]
  simp only [hoff, hv, Bool.not_true, Bool.false_eq_true, if_false]
  rw [← cfgWritten, if_pos hcan, switchedOn]

theorem writeKvCfg_refuses (hoff : s.kvOn n = false) (hv : bitOf v 0 = true) (hcan : (s.cfgWritten n v).kvCanEnable n = false) :
    s.writeKvCfg n v = (s.cfgWritten n v).setFld (R.KV_SPACE_CFG n) F.KV_SPACE_CFG_cfg_error 1 := by
  rw [writeKvCfg]
  simp only [hoff, hv, Bool.not_true, Bool.false_eq_true, if_false]
  rw [← cfgWritten, hcan, if_neg Bool.false_ne_true]

theorem enable_cfgWritten : (s.cfgWritten n v).fld (R.KV_SPACE_CFG n) F.KV_SPACE_CFG_enable = 0 := by
  rw [cfgWritten, State.fld, reg_setReg, if_pos rfl, Fld.get, BitVec.toNat_ofNat]
  change _ / 2 ^ 0 % 2 ^ 1 = 0
  omega

theorem enable_switchedOn : (s.switchedOn n).fld (R.KV_SPACE_CFG n) F.KV_SPACE_CFG_enable = 1 := by
  rw [switchedOn, fld_congr ((reg_zeroRegs ..).trans (if_neg (by simp))),
    fld_setFld_apart _ _ _ _ _ (by decide) (by decide), fld_setFld _ _ _ _ (by decide)]
  rfl

theorem cfgError_switchedOn : (s.switchedOn n).fld (R.KV_SPACE_CFG n) F.KV_SPACE_CFG_cfg_error = 0 := by
  rw [switchedOn, fld_congr ((reg_zeroRegs ..).trans (if_neg (by simp))), fld_setFld _ _ _ _ (by decide)]
  rfl

theorem cfgWritten_keeps : Keeps 1 s (s.cfgWritten n v) := setReg_keeps ..

theorem reg_cfgWritten {r : Nat} (hcfg : r ≠ R.KV_SPACE_CFG n) : (s.cfgWritten n v).reg r = s.reg r := by
  rw [cfgWritten, reg_setReg, if_neg hcfg]

/-- Switching a space on writes its configuration and its counters only. -/
theorem reg_switchedOn {r : Nat} (hcfg : r ≠ R.KV_SPACE_CFG n) (hcount : r ∉ kvCounters n) : (s.switchedOn n).reg r = s.reg r := by
  rw [switchedOn, reg_zeroRegs, if_neg hcount, reg_setFld, if_neg hcfg, reg_setFld, if_neg hcfg]

theorem kvCounters_switchedOn {r : Nat} (hcount : r ∈ kvCounters n) : (s.switchedOn n).reg r = 0 := by
  rw [switchedOn, reg_zeroRegs, if_pos hcount]

/-- The counters stand among the registers that the tables do not move. -/
theorem kvKeeps_counter {r : Nat} (h : r ∈ kvCounters n) : KvKeeps n r ∧ r ≠ R.KV_OPEN_SEQS n := by
  simp only [List.mem_cons, List.not_mem_nil, or_false] at h
  rcases h with rfl | rfl | rfl | rfl | rfl
  · exact ⟨kvKeeps_of_place (d := 0x48) (by decide) (by decide), by simp⟩
  · exact ⟨kvKeeps_of_place (d := 0x50) (by decide) (by decide), by simp⟩
  · exact ⟨kvKeeps_of_place (d := 0x58) (by decide) (by decide), by simp⟩
  · exact ⟨kvKeeps_of_place (d := 0x60) (by decide) (by decide), by simp⟩
  · exact ⟨kvKeeps_of_place (d := 0x64) (by decide) (by decide), by simp⟩

/-- The slots of a space that was enabled are closed: its tables lie where R220 admits them. -/
theorem kvOpenSlot_enabled {slot : Nat} (hcan : s.kvCanEnable n = true)
    (hslot : slot < ((s.switchedOn n).kvFreshSpace n).kvSlots n) :
    ((s.switchedOn n).kvFreshSpace n).kvOpenSlot n slot = false := by
  have hlimits : (s.switchedOn n).reg (R.KV_SPACE_LIMITS n) = s.reg (R.KV_SPACE_LIMITS n) := reg_switchedOn (by simp) (by simp)
  have hslots : (s.switchedOn n).kvSlots n = s.kvSlots n := fld_congr hlimits _
  have hblocks : (s.switchedOn n).kvMaxBlocks n = s.kvMaxBlocks n := fld_congr hlimits _
  have hl1 := area_le_of_kvCanEnable hcan (a := ((s.reg (R.KV_L1_BASE n)).toNat, 16 * s.kvSlots n)) (by simp [kvAreas])
  have hl2 := area_le_of_kvCanEnable hcan (a := ((s.reg (R.KV_L2_BASE n)).toNat, 4 * s.kvSlots n * s.kvMaxBlocks n))
    (by simp [kvAreas])
  refine kvOpenSlot_kvFreshSpace ?_ ?_ (Nat.lt_of_lt_of_eq hslot (fld_congr (reg_kvFreshSpace (kvKeeps_limits n) (by simp)) _))
  · rw [reg_switchedOn (by simp) (by simp), hslots]
    exact hl1
  · rw [reg_switchedOn (by simp) (by simp), hslots, hblocks]
    exact hl2

end Enable
/-! ### Translations (R231) -/

theorem labOf_setLab (s : State) (d e : Nat) (l : List LabEntry) :
    (s.setLab d l).labOf e = if e = d then l else s.labOf e := Tbl.get_set ..

theorem labOf_congr {s t : State} (h : t.lab = s.lab) (d : Nat) : t.labOf d = s.labOf d := by
  rw [labOf, labOf, h]

/-- The entry that stands for a block of a slot whose frame is `f`. -/
def labEntry (s : State) (n slot b f : Nat) : LabEntry := ⟨n, slot, b, f, s.kvOwner n, s.gen (s.kvOwner n)⟩

/-- The prefetch of the next block in state `u`, for a request that was made in state `s`. -/
def prefetched (s u : State) (d n slot b : Nat) : State :=
  match (u.labOf d).any (u.labHit n slot (b + 1)), u.kvLookup n slot (b + 1) with
  | false, some f => u.labAdd d (s.labEntry n slot (b + 1) f)
  | _, _ => u

section Translation
variable {s u : State} {d n slot b : Nat}

theorem prefetched_cases : s.prefetched u d n slot b = u ∨ ∃ e, s.prefetched u d n slot b = u.labAdd d e := by
  unfold prefetched
  split
  · exact .inr ⟨_, rfl⟩
  · exact .inl rfl

theorem prefetched_keeps : Keeps 512 u (s.prefetched u d n slot b) := by
  obtain h | ⟨e, h⟩ := prefetched_cases (s := s) (u := u) (d := d) (n := n) (slot := slot) (b := b)
  · rw [h]
    exact Keeps.refl u
  · rw [h]
    exact labAdd_keeps ..

theorem labOf_prefetched {e : Nat} (he : e ≠ d) : (s.prefetched u d n slot b).labOf e = u.labOf e := by
  obtain h | ⟨x, h⟩ := prefetched_cases (s := s) (u := u) (d := d) (n := n) (slot := slot) (b := b)
  · rw [h]
  · rw [h, labAdd, labOf_setLab, if_neg he]

/-- A block that the tables do not give is not prefetched. -/
theorem prefetched_of_lookup_none (h : u.kvLookup n slot (b + 1) = none) : s.prefetched u d n slot b = u := by
  rw [prefetched, h]
  split
  · contradiction
  · rfl

/-- R231: a hit makes its entry the most recently used one and counts. -/
theorem kvTranslate_hit {e : LabEntry} (h : (s.labOf d).find? (s.labHit n slot b) = some e) :
    s.kvTranslate d n slot b = (some e.frame, s.prefetched
      ((s.setLab d ((s.labOf d).filter (fun x => x != e) ++ [e])).add64 (R.KV_WLK_HITS d) 1) d n slot b) := by
  rw [kvTranslate]
  simp only [h]
  rfl

/-- R231: a miss counts, and what the tables give joins the look-aside buffer. -/
theorem kvTranslate_miss {f : Nat} (h : (s.labOf d).find? (s.labHit n slot b) = none)
    (hf : (s.add64 (R.KV_WLK_MISSES d) 1).kvLookup n slot b = some f) : s.kvTranslate d n slot b =
      (some f, s.prefetched ((s.add64 (R.KV_WLK_MISSES d) 1).labAdd d (s.labEntry n slot b f)) d n slot b) := by
  rw [kvTranslate]
  simp only [h, hf]
  rfl

/-- R231: a block that the tables do not give only counts. -/
theorem kvTranslate_fails (h : (s.labOf d).find? (s.labHit n slot b) = none)
    (hf : (s.add64 (R.KV_WLK_MISSES d) 1).kvLookup n slot b = none) :
    s.kvTranslate d n slot b = (none, s.add64 (R.KV_WLK_MISSES d) 1) := by
  rw [kvTranslate]
  simp only [h, hf]

/-- What the tables give depends on the registers of the space and on memory. -/
theorem kvLookup_congr {t : State} (hn : n < 8) (hregs : ∀ r, r < 0xA01000 → t.reg r = s.reg r)
    (hmem : t.mem = s.mem) (hmsys : t.msys = s.msys) : t.kvLookup n slot b = s.kvLookup n slot b := by
  have hcfg : t.reg (R.KV_SPACE_CFG n) = s.reg (R.KV_SPACE_CFG n) := hregs _ (by rw [R.KV_SPACE_CFG]; omega)
  have hlimits : t.reg (R.KV_SPACE_LIMITS n) = s.reg (R.KV_SPACE_LIMITS n) := hregs _ (by rw [R.KV_SPACE_LIMITS]; omega)
  have hl1 : t.reg (R.KV_L1_BASE n) = s.reg (R.KV_L1_BASE n) := hregs _ (by rw [R.KV_L1_BASE]; omega)
  have hl2 : t.reg (R.KV_L2_BASE n) = s.reg (R.KV_L2_BASE n) := hregs _ (by rw [R.KV_L2_BASE]; omega)
  have hnat : ∀ a m, t.natAt a m = s.natAt a m := fun a m => natAt_congr fun x _ _ => byteAt_congr hmem hmsys x
  have hopen : t.kvOpenSlot n slot = s.kvOpenSlot n slot := by rw [kvOpenSlot, kvOpenSlot, l1At, l1At, hnat, hl1]
  have hlen : t.kvLen n slot = s.kvLen n slot := by rw [kvLen, kvLen, hopen, l1At, l1At, hnat, hl1]
  have ht : t.kvT n = s.kvT n := by rw [kvT, kvT, kvRow, kvRow, kvHd, kvHd, kvFmt, kvFmt, fld_congr hcfg, fld_congr hcfg]
  have hframe : t.kvFrame n slot b = s.kvFrame n slot b := by
    rw [kvFrame, kvFrame, l2At, l2At, kvMaxBlocks, kvMaxBlocks, fld_congr hlimits, hl2, hnat]
  rw [kvLookup, kvLookup, hopen, kvBlocks, kvBlocks, hlen, ht, hframe]

theorem kvLookup_missCounted (hn : n < 8) {b : Nat} :
    (s.add64 (R.KV_WLK_MISSES d) 1).kvLookup n slot b = s.kvLookup n slot b :=
  kvLookup_congr hn (fun r hr => (reg_add64 ..).trans (if_neg (by rw [R.KV_WLK_MISSES]; omega))) rfl rfl

/-- A 64-bit counter takes one more event. -/
theorem reg_add64_same (off : Nat) : (s.add64 off 1).reg off = s.reg off + 1 := by
  rw [reg_add64, if_pos rfl, BitVec.ofNat_add, BitVec.ofNat_toNat, BitVec.setWidth_eq]
  rfl

end Translation

/-! ### The release of a slot (R222, R229) -/

section Failing
variable {s : State} {r : Nat}

theorem reg_ltfMark {inst : Option Nat} {x : Bool} (h : r ≠ R.MEM_LTF_STEP) : (s.ltfMark inst x).reg r = s.reg r := by
  unfold ltfMark
  split
  · split
    · rfl
    · rw [reg_setRegBit, if_neg h]
  · rfl

/-- A failing access writes no register between the memory system's and the log's. -/
theorem reg_engFail {e : Eng} {st a : Nat} (hlo : 0x900000 ≤ r) (hhi : r < 0x1400000) : (s.engFail e st a).reg r = s.reg r := by
  have hstatus : r ≠ R.RAS_STATUS := by rw [R.RAS_STATUS]; omega
  have hdrops : ∀ c, r ≠ R.RAS_LOG_DROPS c := fun c => by rw [R.RAS_LOG_DROPS]; omega
  have hue : ∀ d, r ≠ R.RAS_SRAM_UE d := fun d => by rw [R.RAS_SRAM_UE]; omega
  have hstep : r ≠ R.MEM_LTF_STEP := by rw [R.MEM_LTF_STEP]; omega
  have hcount : r ≠ R.MEM_LTF_COUNT := by rw [R.MEM_LTF_COUNT]; omega
  have hdenied : r ≠ R.SCH_FIREWALL_DENIED := by rw [R.SCH_FIREWALL_DENIED]; omega
  unfold engFail readFailed
  split
  · rw [sramUe, reg_ltfMark hstep, reg_log _ _ _ _ _ _ _ _ _ _ hstatus (hdrops _), reg_alarmEvent, reg_inc, if_neg (hue _)]
  · split
    · rw [ltfEnd, reg_ltfMark hstep, reg_inc, if_neg hcount]
    · split
      · rw [firewallDenied, reg_log _ _ _ _ _ _ _ _ _ _ hstatus (hdrops _), reg_inc, if_neg hdenied]
      · rfl

/-- The end of a command writes no register of a space but what its result record may move. -/
theorem reg_kvEnd {it : KvItem} {st tokens n : Nat} {record : Bool} (h : KvKeeps n r) (hlo : 0x900000 ≤ r) (hhi : r < 0x1400000) :
    (s.kvEnd it st tokens record).reg r = s.reg r := by
  unfold kvEnd
  dsimp only
  rw [reg_of_keeps (finishItem_keeps ..) rfl]
  cases record with
  | false => rw [Bool.not_false, if_pos rfl]
  | true =>
    simp only [Bool.not_true, Bool.false_eq_true, if_false, if_true]
    split
    · exact reg_putBytes _ _ _ h.dirty h.poisoned
    · exact reg_engFail hlo hhi

end Failing

/-- The slot of a CLOSE given back, before its sequence is counted off and its result is reported. -/
def slotReleased (s : State) (it : KvItem) : State :=
  let n := KvCmd.space it.desc
  let slot := KvCmd.slot it.desc
  have s := (List.range (s.kvBlocks n (s.kvLen n slot))).foldl (fun s b => match s.kvFrame n slot b with
    | some f => (s.kvUnref n f).setL2 n slot b none
    | none => s) s
  have s := (s.setReserved n (s.kvReserved n - s.kvRes n slot)).setL1 n slot false 0 0
  let k := s.kvSpace n
  (s.setKv n { k with maxTokens := k.maxTokens.set 0 slot 0, closing := none }).labDrop (fun e => e.space == n && e.slot == slot)

section Release
variable {s : State} {it : KvItem}

/-- A slot is given back, its sequence counted off, its result reported. -/
theorem kvRelease_eq : s.kvRelease it = ((s.slotReleased it).setFld (R.KV_OPEN_SEQS (KvCmd.space it.desc)) F.KV_OPEN_SEQS_count
    ((s.slotReleased it).fld (R.KV_OPEN_SEQS (KvCmd.space it.desc)) F.KV_OPEN_SEQS_count - 1)).kvEnd it 0 0 true := rfl

theorem reg_slotReleased {r : Nat} (h : KvKeeps (KvCmd.space it.desc) r) : (s.slotReleased it).reg r = s.reg r := by
  unfold slotReleased
  dsimp only
  rw [reg_labDrop, reg_setKv h, reg_setL1 h, reg_setReserved h]
  refine reg_foldl_eq id (fun u b => ?_) _ _
  simp only [id_eq]
  split
  · rw [reg_setL2 h, reg_kvUnref h]
  · rfl

theorem closing_slotReleased : ((s.slotReleased it).kvSpace (KvCmd.space it.desc)).closing = none := by
  unfold slotReleased
  dsimp only
  rw [kvSpace_congr ((labDrop_keeps ..).kv rfl), kvSpace_setKv]

theorem closing_kvRelease : ((s.kvRelease it).kvSpace (KvCmd.space it.desc)).closing = none := by
  rw [kvRelease_eq, kvSpace_congr ((kvEnd_keeps ..).kv rfl), kvSpace_congr (setFld_kv ..), closing_slotReleased]

/-- R222: the sequence of a released slot is open no more. -/
theorem openSeqs_kvRelease {n : Nat} (hn : n < 8) (hspace : KvCmd.space it.desc = n) :
    (s.kvRelease it).fld (R.KV_OPEN_SEQS n) F.KV_OPEN_SEQS_count = s.fld (R.KV_OPEN_SEQS n) F.KV_OPEN_SEQS_count - 1 := by
  subst hspace
  have hkeeps := kvKeeps_openSeqs (KvCmd.space it.desc)
  have hlt : s.fld (R.KV_OPEN_SEQS (KvCmd.space it.desc)) F.KV_OPEN_SEQS_count < 2 ^ 17 := fld_lt ..
  rw [kvRelease_eq, fld_congr (reg_kvEnd hkeeps (by rw [R.KV_OPEN_SEQS]; omega) (by rw [R.KV_OPEN_SEQS]; omega)),
    fld_setFld _ _ _ _ (by decide), fld_congr (reg_slotReleased hkeeps)]
  exact Nat.mod_eq_of_lt (Nat.lt_of_le_of_lt (Nat.sub_le ..) hlt)

end Release
end State

/-! ### The statement, clause by clause -/

section Clauses
open State
variable {s : State} {n : InstId}

section Cfg
variable {req : Requester} {v : W32}

theorem exec_kvSpaceEnable (hreach : s.reach req (R.KV_SPACE_CFG n.val) = true) :
    exec (.kvSpaceEnable req n v) s = .next (s.writeKvCfg n.val (setBit v.toNat 0)) := by
  change execKvSpaceEnable req n v s = _
  exact if_pos hreach

theorem exec_kvSpaceDisable (hreach : s.reach req (R.KV_SPACE_CFG n.val) = true) :
    exec (.kvSpaceDisable req n v) s = .next (s.writeKvCfg n.val (clearBit v.toNat 0)) := by
  change execKvSpaceDisable req n v s = _
  exact if_pos hreach

/-- R220: a space that may be enabled is on, without an error, its frames free, its slots closed, its counters 0. -/
theorem kvSpaceEnable_enables (hreach : s.reach req (R.KV_SPACE_CFG n.val) = true) (hoff : s.kvOn n.val = false)
    (hcan : (s.cfgWritten n.val (setBit v.toNat 0)).kvCanEnable n.val = true) :
    Answers (exec (.kvSpaceEnable req n v) s) (fun t =>
      t.kvOn n.val = true ∧ t.fld (R.KV_SPACE_CFG n.val) F.KV_SPACE_CFG_cfg_error = 0 ∧
      t.kvFreeCount n.val = s.kvFrames n.val ∧ t.kvEvictable n.val = 0 ∧ t.kvReserved n.val = 0 ∧
      t.fld (R.KV_OPEN_SEQS n.val) F.KV_OPEN_SEQS_count = 0 ∧ (t.kvSpace n.val).tree = [] ∧ (∀ r ∈ kvCounters n.val, t.reg r = 0) ∧
      (∀ slot, slot < t.kvSlots n.val → t.kvOpenSlot n.val slot = false)) := by
  refine ⟨_, (exec_kvSpaceEnable hreach).trans (congrArg _ (writeKvCfg_enables hoff (bitOf_setBit_zero _) hcan)), ?_⟩
  have hcfg : ∀ {u : State}, (u.kvFreshSpace n.val).reg (R.KV_SPACE_CFG n.val) = u.reg (R.KV_SPACE_CFG n.val) :=
    reg_kvFreshSpace (kvKeeps_cfg n.val) (by simp)
  refine ⟨decide_eq_true ((fld_congr hcfg _).trans enable_switchedOn), (fld_congr hcfg _).trans cfgError_switchedOn, ?_,
    kvEvictable_kvFreshSpace, kvReserved_kvFreshSpace, openSeqs_kvFreshSpace, ?_, fun r hr => ?_,
    fun slot => kvOpenSlot_enabled hcan⟩
  · rw [kvFreeCount_kvFreshSpace, kvFrames, fld_congr (reg_switchedOn (by simp) (by simp)), fld_congr (reg_cfgWritten (by simp)),
      kvFrames]
  · rw [kvSpace_kvFreshSpace, tree_freeSpace]
  · obtain ⟨hkeeps, hseqs⟩ := kvKeeps_counter hr
    rw [reg_kvFreshSpace hkeeps hseqs, kvCounters_switchedOn hr]

/-- R220: a space that may not be enabled stays off with its error bit set, and nothing else happens. -/
theorem kvSpaceEnable_refuses (hreach : s.reach req (R.KV_SPACE_CFG n.val) = true) (hoff : s.kvOn n.val = false)
    (hcan : (s.cfgWritten n.val (setBit v.toNat 0)).kvCanEnable n.val = false) :
    Answers (exec (.kvSpaceEnable req n v) s) (fun t =>
      t.kvOn n.val = false ∧ t.fld (R.KV_SPACE_CFG n.val) F.KV_SPACE_CFG_cfg_error = 1 ∧ t.kv = s.kv ∧ t.mem = s.mem ∧
      SameRegs [R.KV_SPACE_CFG n.val] s t) := by
  refine ⟨_, (exec_kvSpaceEnable hreach).trans (congrArg _ (writeKvCfg_refuses hoff (bitOf_setBit_zero _) hcan)), ?_⟩
  refine ⟨?_, fld_setFld _ _ _ _ (by decide), (setFld_kv ..).trans (cfgWritten_keeps.kv rfl),
    (setFld_mem ..).trans (cfgWritten_keeps.mem rfl), fun r hr => ?_⟩
  · rw [kvOn, fld_setFld_apart _ _ _ _ _ (by decide) (by decide), enable_cfgWritten]
    rfl
  · have hr : r ≠ R.KV_SPACE_CFG n.val := by simpa using hr
    rw [reg_setFld, if_neg hr, reg_cfgWritten hr]

theorem kvSpaceEnable_again (hreach : s.reach req (R.KV_SPACE_CFG n.val) = true) (hon : s.kvOn n.val = true) :
    exec (.kvSpaceEnable req n v) s = .next s := by
  rw [exec_kvSpaceEnable hreach, writeKvCfg]
  simp only [hon, bitOf_setBit_zero, if_true]

theorem kvSpaceDisable_disables (hreach : s.reach req (R.KV_SPACE_CFG n.val) = true) (hon : s.kvOn n.val = true)
    (hseqs : s.fld (R.KV_OPEN_SEQS n.val) F.KV_OPEN_SEQS_count = 0) : Answers (exec (.kvSpaceDisable req n v) s) (fun t =>
      t.kvOn n.val = false ∧ SameRegs [R.KV_SPACE_CFG n.val] s t ∧ t.kv = s.kv) := by
  have hwrite : s.writeKvCfg n.val (clearBit v.toNat 0) = s.setFld (R.KV_SPACE_CFG n.val) F.KV_SPACE_CFG_enable 0 := by
    rw [writeKvCfg]
    simp only [hon, bitOf_clearBit_zero, hseqs, if_true, Bool.false_eq_true, if_false]
  refine ⟨_, (exec_kvSpaceDisable hreach).trans (congrArg _ hwrite), ?_, fun r hr => ?_, rfl⟩
  · rw [kvOn, fld_setFld _ _ _ _ (by decide)]
    rfl
  · rw [reg_setFld, if_neg (by simpa using hr)]

/-- R220: a space with an open sequence stays on. -/
theorem kvSpaceDisable_refuses (hreach : s.reach req (R.KV_SPACE_CFG n.val) = true) (hon : s.kvOn n.val = true)
    (hseqs : s.fld (R.KV_OPEN_SEQS n.val) F.KV_OPEN_SEQS_count ≠ 0) : Answers (exec (.kvSpaceDisable req n v) s) (fun t =>
      t.kvOn n.val = true ∧ t.kv = s.kv ∧ t.mem = s.mem) := by
  have hwrite : s.writeKvCfg n.val (clearBit v.toNat 0) = s.log 2 0x2B ⟨7, s.kvHome n.val, n.val⟩ (some (s.kvOwner n.val))
      (value := s.fld (R.KV_OPEN_SEQS n.val) F.KV_OPEN_SEQS_count) := by
    rw [writeKvCfg]
    simp only [hon, bitOf_clearBit_zero, hseqs, if_true, Bool.false_eq_true, if_false]
  refine ⟨_, (exec_kvSpaceDisable hreach).trans (congrArg _ hwrite), ?_, log_kv .., log_mem ..⟩
  rw [← hon, kvOn, kvOn, fld_congr (reg_log _ _ _ _ _ _ _ _ _ _ ?_ ?_)]
  · rw [R.KV_SPACE_CFG, R.RAS_STATUS]
    omega
  · rw [R.KV_SPACE_CFG, R.RAS_LOG_DROPS]
    omega

end Cfg

section Translation
variable {die : DieId} {slot b : Nat}

theorem exec_kvTranslation (hdie : bitOf s.msys.noDie die.val = false) :
    exec (.kvTranslation die n.val slot b) s = .next (s.kvTranslate die.val n.val slot b).2 := by
  change execKvTranslation die n.val slot b s = _
  rw [execKvTranslation, hdie, if_neg Bool.false_ne_true, Nat.mod_eq_of_lt n.isLt]

theorem kvTranslation_hits {e : LabEntry} (hdie : bitOf s.msys.noDie die.val = false)
    (h : (s.labOf die.val).find? (s.labHit n.val slot b) = some e) :
    Answers (exec (.kvTranslation die n.val slot b) s) (fun t => (t.reg (R.KV_WLK_HITS die.val)) = s.reg (R.KV_WLK_HITS die.val) + 1 ∧
      SameRegs [R.KV_WLK_HITS die.val] s t ∧ t.mem = s.mem ∧ ∀ d, d ≠ die.val → t.labOf d = s.labOf d) := by
  refine ⟨_, exec_kvTranslation hdie, ?_⟩
  rw [kvTranslate_hit h]
  refine ⟨?_, fun r hr => ?_, prefetched_keeps.mem rfl, fun d hd => ?_⟩
  · rw [reg_of_keeps prefetched_keeps rfl, reg_add64_same]
    rfl
  · rw [reg_of_keeps prefetched_keeps rfl, reg_add64, if_neg (by simpa using hr)]
    rfl
  · rw [labOf_prefetched hd, labOf_congr (add64_lab ..), labOf_setLab, if_neg hd]

theorem kvTranslation_misses {f : Nat} (hdie : bitOf s.msys.noDie die.val = false)
    (h : (s.labOf die.val).find? (s.labHit n.val slot b) = none) (hf : s.kvLookup n.val slot b = some f)
    (hnext : s.kvLookup n.val slot (b + 1) = none) : Answers (exec (.kvTranslation die n.val slot b) s) (fun t =>
      (t.reg (R.KV_WLK_MISSES die.val)) = s.reg (R.KV_WLK_MISSES die.val) + 1 ∧
      (t.labOf die.val).getLast? = some ⟨n.val, slot, b, f, s.kvOwner n.val, s.gen (s.kvOwner n.val)⟩ ∧ t.mem = s.mem) := by
  refine ⟨_, exec_kvTranslation hdie, ?_⟩
  have hsame : ∀ k, (s.add64 (R.KV_WLK_MISSES die.val) 1).kvLookup n.val slot k = s.kvLookup n.val slot k :=
    fun _ => kvLookup_missCounted n.isLt
  have hnext' : ((s.add64 (R.KV_WLK_MISSES die.val) 1).labAdd die.val (s.labEntry n.val slot b f)).kvLookup n.val slot (b + 1) =
      none := (hsame _).trans hnext
  rw [kvTranslate_miss h ((hsame b).trans hf), prefetched_of_lookup_none hnext']
  refine ⟨?_, ?_, rfl⟩
  · rw [reg_of_keeps (labAdd_keeps ..) rfl, reg_add64_same]
  · rw [labAdd, labOf_setLab, if_pos rfl, List.getLast?_concat, labEntry]

theorem kvTranslation_fails (hdie : bitOf s.msys.noDie die.val = false)
    (h : (s.labOf die.val).find? (s.labHit n.val slot b) = none) (hf : s.kvLookup n.val slot b = none) :
    Answers (exec (.kvTranslation die n.val slot b) s) (fun t =>
      (t.reg (R.KV_WLK_MISSES die.val)) = s.reg (R.KV_WLK_MISSES die.val) + 1 ∧ t.lab = s.lab ∧
      SameRegs [R.KV_WLK_MISSES die.val] s t) := by
  refine ⟨_, exec_kvTranslation hdie, ?_⟩
  rw [kvTranslate_fails h ((kvLookup_missCounted n.isLt).trans hf)]
  exact ⟨reg_add64_same _, rfl, fun r hr => (reg_add64 ..).trans (if_neg (by simpa using hr))⟩

end Translation

section Close
variable {slot : Nat} {it : KvItem}

theorem kvCloseRelease_releases (hclosing : (s.kvSpace n.val).closing = some (slot, it))
    (hpins : (s.kvSpace n.val).pins.get 0 slot = 0) (hlive : s.oldOwner it.owner = false) :
    exec (.kvCloseRelease n slot) s = .next (s.kvRelease it) := by
  change execKvCloseRelease n slot s = _
  simp only [execKvCloseRelease, hclosing, hpins, hlive, and_self, if_true, Bool.false_eq_true, if_false]

theorem kvCloseRelease_waits (hclosing : (s.kvSpace n.val).closing = some (slot, it))
    (hpins : (s.kvSpace n.val).pins.get 0 slot ≠ 0) : exec (.kvCloseRelease n slot) s = .next s := by
  change execKvCloseRelease n slot s = _
  simp only [execKvCloseRelease, hclosing, hpins, and_false, if_false]

end Close
end Clauses
end Sys2Proof.Machine

namespace Sys2Proof
open Machine State

/-- Settles O30: the tables of an enabled space are zeroed wherever their bytes are cached, so every slot reads closed; the walker's
lists, tables and counts move no other register of the space; a translation moves its counter and its look-aside buffer only. -/
theorem kvSpacesAndWalkers : Obligations.KvSpacesAndWalkers := by
  unfold Obligations.KvSpacesAndWalkers
  refine ⟨fun s req n v hreach => ⟨kvSpaceEnable_enables hreach, kvSpaceEnable_refuses hreach, kvSpaceEnable_again hreach,
      kvSpaceDisable_disables hreach, kvSpaceDisable_refuses hreach⟩,
    fun s die n slot b e it => ⟨kvTranslation_hits, fun hdie hmiss f => kvTranslation_misses hdie hmiss, kvTranslation_fails,
      fun hclosing hpins hlive hspace _ => ?_, kvCloseRelease_waits⟩⟩
  refine ⟨_, kvCloseRelease_releases hclosing hpins hlive, ?_, openSeqs_kvRelease n.isLt hspace⟩
  rw [← hspace, closing_kvRelease]

end Sys2Proof
end

section
/-! The KV store (R230) where the level-2 table stands in the page pool: the K row overwrites the entry through which the V row's
place is then translated. -/
namespace Sys2Proof.Machine

/-- KV_STORE runs the descriptor at the head of the queue, which leaves its queue (R146, R230). -/
theorem exec_kvStore {s : State} {c : CoreId} {it : MxItem} (hhead : s.headMx c.val = some it) (hlive : s.oldMx it = false)
    (hkind : xw it.desc 0 0 8 = 0x27) : exec (.kvStore c) s = .next ((s.popMx c.val).runStore c.val it) := by
  have hlive : (s.popMx c.val).oldMx it = false := hlive
  change execKvStore c s = _
  simp only [execKvStore, hhead, hkind, hlive, ne_eq, not_true_eq_false, Bool.false_eq_true, if_false]

namespace TableInPool

/-- A KV store descriptor of one row at position 0 of slot 0 of space 0: FP16 rows from the Pocket of core 0, no conversion, no
rotation, no semaphore. -/
@[irreducible] def desc : BitVec 1024 :=
  BitVec.ofNat 1024 (0x27 + 1 * 2 ^ 8 + 0x11000000000 * 2 ^ 64 + 0x11000000080 * 2 ^ 128 + 1 * 2 ^ 256 + 0xFFFF * 2 ^ 960)

/-- The descriptor at the head of core 0's queue, of owner 0 under a pair that allows every address. -/
def item : MxItem := ⟨desc, [⟨0, 0x180000000000, 3⟩], ⟨some 0, 0, false⟩⟩

/-- Space 0, owned by 0 and enabled: FP16, head dimension 64, one layer, one head, one slot of one block, two frames. Its level-2
table stands at the base of frame 1's page. -/
def regs : List (Nat × Word) :=
  [(R.SCH_INST_CORES 0, 1), (R.SCH_INST_MEM 0, 1), (R.KV_SPACE_CFG 0, 0x01010009), (R.KV_SPACE_LIMITS 0, 0x20001),
    (R.KV_POOL_FRAMES 0, 2), (R.KV_L1_BASE 0, 0x10000), (R.KV_L2_BASE 0, 0x110000), (R.KV_POOL_BASE 0, 0x100000)]

/-- Slot 0 is open with one token and its block is in frame 1; the K row is 0 and the V row begins with 1.0. -/
def mem : List Host.Cell :=
  [(0x10006, 1), (0x10008, 1), (0x110000, 1), (0x110003, 0x80), (0x11000000081, 0x3C)]

def state : State :=
  { regs.foldl (fun s e => s.setReg e.1 e.2) State.reset with
    mem := mem
    kv := [(0, { KvSpace.reset with refs := [(1, 1)] })]
    cores := [(0, { Core.reset with mxq := [item] })]
    host := { State.reset.host with kvKeys := [(0, 0)] } }

/-- The layout is one that R220 enables: it asks nothing of how the areas of a space lie to each other. -/
theorem kvCanEnable_state : state.kvCanEnable 0 = true := by decide +kernel

/-- The K row's place is that of the level-2 entry of the slot's block. -/
theorem kRow_on_table : state.kvRowAt 0 0 0 0 0 0 = state.l2At 0 0 0 := by decide +kernel

/-- The descriptor names space, layer, head, slot and position 0. -/
theorem fields_item : xw item.desc 0 36 3 = 0 ∧ xw item.desc 4 32 8 = 0 ∧ xw item.desc 4 40 7 = 0 ∧ xw item.desc 3 0 16 = 0 ∧
    xw item.desc 3 32 32 = 0 := by decide +kernel

/-- The V row goes through the overwritten entry to frame 0; its place in frame 1 stays as it was. -/
theorem vRow_misplaced : ((state.popMx 0).runStore 0 item).bytesAt 0x108000 2 = [0, 0x3C] ∧
    ((state.popMx 0).runStore 0 item).bytesAt (state.kvRowAt 0 0 0 0 1 0) (state.kvRow 0) = List.replicate 128 0 := by
  decide +kernel

end TableInPool
end Sys2Proof.Machine

namespace Sys2Proof
open Machine State TableInPool

/-- Refutes O32: R220 lets the level-2 table of a space stand in its page pool. The K row of a store then overwrites the entry of
the slot's own block, and the V row goes where the overwritten entry points, not to the slot's page. -/
theorem not_attentionAndKvStore : ¬ Obligations.AttentionAndKvStore := by
  unfold Obligations.AttentionAndKvStore
  intro h
  obtain ⟨-, hstore⟩ := h
  have hhead : state.headMx 0 = some item := by decide +kernel
  have hlive : state.oldMx item = false := by decide +kernel
  have hkind : xw item.desc 0 0 8 = 0x27 := by decide +kernel
  obtain ⟨-, hrow⟩ := hstore state 0 item 0 0 hhead hlive hkind
  -- the checks pass, one row without conversion or rotation, every access is admitted, the pages lie below the Pockets
  obtain ⟨t, ht, -, -, hv, -⟩ := hrow (by decide +kernel) (by decide +kernel) (by decide +kernel) (by decide +kernel)
    (by decide +kernel) (by decide +kernel) (by decide +kernel) (by decide +kernel) (by decide +kernel)
  rw [exec_kvStore hhead hlive hkind] at ht
  cases ht
  obtain ⟨hspace, hlayer, hkvHead, hslot, hpos⟩ := fields_item
  simp only [hspace, hlayer, hkvHead, hslot, hpos] at hv
  exact absurd (hv.symm.trans vRow_misplaced.2) (by decide +kernel)

end Sys2Proof
end
